-- ==== Sys2Proof/Word.lean ====
section
/-!
DEFINITION. The word types of the block (spec/00_scope.md R11, R13): bytes, 32-bit register words, 64-bit counts.
-/

namespace Sys2Proof

/-- One byte. -/
abbrev Byte := BitVec 8

/-- A register word: registers are 32 bits wide (R13). -/
abbrev Word := BitVec 32

/-- A 64-bit count or bus address. -/
abbrev Word64 := BitVec 64

/-- A logical block, a sector payload or any other byte string, byte 0 first. -/
abbrev Bytes := List Byte

end Sys2Proof
end

