-- ==== Sys2Proof/Syntax.lean ====
section
/-!
DEFINITION. The commands of the block: one constructor per row of spec/opcode_table.json, in the table's order.
The table gives no operands and no bits; each constructor's docstring says what its operands are and names the rule.
An operand is what the rule's text says arrives from outside the controller (a pin level, bytes a memory returned,
a measured value, the fields of a cell or of an NVMe command) or the time stamp that a rule with a time window needs.
-/

namespace Sys2Proof

/-- The two rails whose return is a power-on (R37). -/
inductive Rail where
  | nst | core
  deriving DecidableEq, Repr

/-- The two actuators, also the two Ezpol links and front ends (R7, R10). -/
inductive Act where
  | a | b
  deriving DecidableEq, Repr

/-- The two copies of an image in the boot NOR (R10, R66). -/
inductive Copy where
  | a | b
  deriving DecidableEq, Repr

/-- The three partner links (R93). -/
inductive Port where
  | ezpolA | ezpolB | zhosel
  deriving DecidableEq, Repr

/-- The five PLLs (R430). -/
inductive Pll where
  | sys | pcie | ddr | serA | serB
  deriving DecidableEq, Repr

/-- The three identity memories on the identity bus (R57). -/
inductive IdMem where
  | base | hsa | hsb
  deriving DecidableEq, Repr

/-- What a read of an image copy in the NOR returned (R74): the bytes from offset 0, and the offset at which the NOR
reported a read error, if it did. -/
structure NorRead where
  bytes : Bytes
  errAt : Option Nat
  deriving DecidableEq, Repr

/-- What the two NAND devices of the Chest answered (R273, R275, R450): whether each could be read and written. -/
structure ChestAccess where
  read0  : Bool
  read1  : Bool
  write0 : Bool
  write1 : Bool
  deriving DecidableEq, Repr

/-- The delivery part of a cell header (R101): SEQ, ACK and CRED. -/
structure CellHdr where
  seq  : BitVec 12
  ack  : BitVec 12
  cred : Byte
  deriving DecidableEq, Repr

/-- Bytes 1 to 7 of TS1 and TS2 (R99): LINK, LANE, the requested trims and byte 7. -/
structure TsBody where
  link  : Byte
  lane  : Byte
  swing : Byte
  pre   : Byte
  post  : Byte
  ctle  : Byte
  byte7 : Byte
  deriving DecidableEq, Repr

/-- FLAGS of a SMPL cell (R109). -/
structure SmplFlags where
  ovr    : Bool
  switch : Bool
  wact   : Bool
  gap    : Bool
  deriving DecidableEq, Repr

/-- The 16 bytes of one unit in a MON body (R112). -/
structure MonUnit where
  head     : Byte
  pathOn   : Bool
  wrActive : Bool
  assistOn : Bool
  reader   : BitVec 16
  assist   : BitVec 16
  assistCur : BitVec 16
  writeCur : BitVec 16
  heater   : BitVec 16
  deriving DecidableEq, Repr

/-- A MON body (R112): SIDX of path 0, the two units, die temperature in 0.1 °C, the two supplies in mV. -/
structure MonBody where
  sidx  : Word
  unit0 : MonUnit
  unit1 : MonUnit
  temp  : Int
  v18   : BitVec 16
  v085  : BitVec 16
  deriving DecidableEq, Repr

/-- An MSTAT body and its FLAGS (R120). -/
structure MstatBody where
  lt       : Word
  vcmA     : BitVec 16
  vcmB     : BitVec 16
  shockX   : BitVec 16
  shockY   : BitVec 16
  shockR   : BitVec 16
  v12      : BitVec 16
  v5       : BitVec 16
  temp     : Byte
  dropped  : Byte
  retA     : Bool
  retB     : Bool
  ownOsc   : Bool
  deriving DecidableEq, Repr

/-- One entry of a ZC cell (R120): link time, phase 0 U, 1 V, 2 W, and rising edge. -/
structure ZcEntry where
  lt     : Word
  phase  : BitVec 2
  rising : Bool
  deriving DecidableEq, Repr

/-- What the demodulator found of one unit's servo wedge (R159, R160): whether a mark was found in the window, its
time in link time ticks, the parity of the index, the decoded index and track number, the burst correlations a1, a2
and the preamble amplitude A. -/
structure WedgeObs where
  found  : Bool
  time   : Nat
  parity : Bool
  index  : BitVec 10
  track  : BitVec 24
  a1     : Int
  a2     : Int
  amp    : Int
  deriving DecidableEq, Repr

/-- A channel table entry of a head and zone (R227): G, o, α, 12 taps, g₁ and g₂ in the formats of R225; 32 noise
predictors (p₁, p₂) and variances in 2^-16; precompensation, read bias in µA, heater in 0.1 mW, I_cal in 10 µA. -/
structure ChanEntry where
  gain    : Int
  off     : Int
  asym    : Int
  taps    : List Int
  g1      : Int
  g2      : Int
  noise   : List (Int × Int × Int)
  precomp : List Int
  bias    : Nat
  heater  : Nat
  icalW   : Nat
  deriving DecidableEq, Repr

/-- The assist calibration of a head as the calibration tracks hold it (R227, R250): head, T_cal in 0.1 °C, m_cal, lasing
threshold in 10 µA. -/
structure AssistRec where
  head   : Nat
  tcal   : Int
  mcal   : Nat
  thresh : Nat
  deriving DecidableEq, Repr

/-- What the servo part of P9 measured on one actuator (R183): b_vc in units of 10^8 tracks/s², per head the gain in
Q3.28 tracks per full-scale drive, the skew in ns and the band-8 map offset, whether the stored tables and the stored
cross-head map passed their CRCs, per head the stored map (16 bands) and runout tables, and the channel tables and assist
calibrations (R227), as read from the calibration tracks. -/
structure CalMeas where
  bvc      : BitVec 16
  gains    : List Int
  skews    : List Int
  band8    : List Int
  tablesOk : Bool
  mapOk    : Bool
  stored   : List (List Int)
  rro      : List (List (List Int))
  chan     : List ((Nat × Nat) × ChanEntry)
  assist   : List AssistRec
  deriving DecidableEq, Repr

/-- A format sequencer's run command (R197). -/
structure RunCmd where
  kind      : BitVec 8
  head      : BitVec 8
  count     : Nat
  track     : Word
  firstSlot : BitVec 16
  seedKind  : BitVec 8
  descValid : Bool
  wide      : Bool
  dlba      : BitVec 40
  descAddr  : Word
  tag       : Word
  deriving DecidableEq, Repr

/-- What a sequencer meets at one sector of a run (R199 to R207): the disagreements of the SM1 candidates and of the SM2
candidates (offset from E or E + 512, disagreeing bits), the scores S(d) of the alignments, samples incomplete, and whether
the payload or buffer space was there when due. -/
structure SectorObs where
  sm1        : List (Int × Nat)
  sm2        : List (Int × Nat)
  scores     : List (Int × Nat)
  incomplete : Bool
  dataReady  : Bool
  deriving DecidableEq, Repr

/-- One channel bit as the channel passes it (R224 to R228): the decided bit, the detector's hard decision for the bit 16
bits earlier, whether the bit lies in a preamble or resync field and in its acquisition part, and the SERVO or FREEZE gate
and the STORE gate over it. -/
structure ChanBit where
  decided : Bool
  soft    : Bool
  train   : Bool
  acq     : Bool
  gated   : Bool
  store   : Bool
  deriving DecidableEq, Repr

/-- One microword fetch of a run (R209 to R216): the address fetched from, the word as the store delivered it (a
micro-word and its nano-word in two-level mode), and the value of its condition before CINV. -/
structure FetchObs where
  micro : BitVec 32
  word  : BitVec 160
  cond  : Bool
  deriving DecidableEq, Repr

/-- An NVMe submission queue entry (NVM Express Base 2.0): the dwords the controller reads. -/
structure Sqe where
  opc   : Byte
  flags : Byte
  cid   : BitVec 16
  nsid  : Word
  cdw2  : Word
  cdw3  : Word
  mptr  : Word64
  prp1  : Word64
  prp2  : Word64
  cdw10 : Word
  cdw11 : Word
  cdw12 : Word
  cdw13 : Word
  cdw14 : Word
  cdw15 : Word
  deriving DecidableEq, Repr

/-- How a transfer between the buffer and PCIe ended (R367, R408). -/
inductive Xfer where
  | ok | pcieError | uncorrectable
  deriving DecidableEq, Repr

/-- How a degraded read's row came out at a surviving member (R259, R277): the payload, or an erasure. -/
abbrev MemberRead := Option Bytes

/-- The memories of MEC (R305). -/
inductive Mem where
  | sram | dram
  deriving DecidableEq, Repr

/-- Who read an uncorrectable word (R309), with the DMA channel (0 to 63 ring, 64 to 71 streaming) where one did. -/
inductive UeReader where
  | patchFetch | otherFetch (hasCopy : Bool) | dma (chan : Nat) (moved : Nat) | mapFill | window | scrub
  deriving DecidableEq, Repr

/-- The region an uncorrectable word lay in (R309), with the drive LBA of a cached block. -/
inductive UeRegion where
  | dirtyCache (dlba : Nat) | cleanCache (dlba : Nat) | sideboardPQ | sideboardData (dlba : Nat)
  | retryStore (ch : Nat) (tag : Word) | savedLine (dlba : Nat) | other
  deriving DecidableEq, Repr

/-- A ring descriptor (R318), less STATUS. -/
structure Desc where
  own     : Bool
  evEn    : Bool
  ev      : BitVec 6
  srcSp   : BitVec 2
  dstSp   : BitVec 2
  stop    : Bool
  len     : Word
  src     : Word64
  dst     : Word64
  rows    : BitVec 16
  srcStride : BitVec 16
  dstStride : BitVec 16
  deriving DecidableEq, Repr

/-- How a completion to a request of the controller failed (R408). -/
inductive CplErr where
  | poisoned | unsupported | abort | timeout
  deriving DecidableEq, Repr

/-- Where a register lies that a write of the host reaches: a block of the aperture, BAR0, or configuration space. -/
inductive RegSpace where
  | block (slot : Fin 26) | bar0 | config
  deriving DecidableEq, Repr

/-- PCIe errors of R408 with the command's fetch number where one is named. -/
inductive PcieErr where
  | receiver | badTlp | badDllp | replayTimeout | replayRollover
  | poisonedWriteData (fsn : Nat) | poisonedWindowWrite
  | completionData (fsn : Nat) (kind : CplErr) | completionQueue (kind : CplErr)
  | unexpectedCompletion | malformed | flowControl | receiverOverflow | dataLinkProtocol
  | unsupportedRequest | internalHostManager
  deriving DecidableEq, Repr

/-- The commands of the block. -/
inductive Instr where
  /-- R37: a power-on is detected on the rail. -/
  | powerOn (rail : Rail)
  /-- R442: the board removes VDD_CORE and the other rails, VDD_NST held. -/
  | vddCoreOff
  /-- R34: a low level on SYSRST_N has passed the 200 ns filter. -/
  | sysrstNLow
  /-- R34: SYSRST_N has returned high (through the filter). -/
  | sysrstNHigh
  /-- R35: the 1 µs count expires. -/
  | sysrstRecognised
  /-- R274: the hold-up save ends; `skipped` lines failed to program twice. -/
  | holdupSaveDone (skipped : Nat)
  /-- R35 step 6. -/
  | resetStretchEnd
  /-- R35 step 7, R37: internal reset is released and the straps are sampled. -/
  | internalResetRelease (bootSrc clkMode : BitVec 2)
  /-- R42: the 32.768 kHz oscillator has settled. -/
  | oscSettled
  /-- R48: CLK_GOOD of a domain. -/
  | clkGood (dom : Fin 10)
  /-- R49: CLK_GOOD not reached within 2 ms of the PLL's enabling. -/
  | clkGoodTimeout (dom : Fin 10)
  /-- R74: a copy of the option image has been read as `rd`. -/
  | optionCopyCheck (copy : Copy) (rd : NorRead)
  /-- R47. -/
  | pcieLinkTrainStart
  /-- R296: the failing rows (bank, row) and the failing spare rows (bank, spare) P4 found. -/
  | sramSelfTestDone (rows : List (BitVec 6 × BitVec 10)) (spares : List (BitVec 6 × BitVec 4))
  /-- R84: a copy of the firmware image has been read as `rd`. -/
  | firmwareCopyCheck (copy : Copy) (rd : NorRead)
  /-- R86, R450: the end of P5; how the Chest devices answered. -/
  | firmwareLoadDone (chest : ChestAccess)
  /-- R302: channels trained, fitted capacity in GiB and device density in Gbit read from the mode registers. -/
  | dramTrainingDone (trained : BitVec 4) (capGiB : BitVec 4) (density : BitVec 5)
  /-- R124: lanes locked on each side. -/
  | zhoselLinkUp (up dn : BitVec 2)
  /-- R124: not up 15 ms after the start of P7. -/
  | zhoselTrainTimeout
  /-- R123: uplink lanes with block lock, downlink lanes reported locked. -/
  | ezpolLinkUp (act : Act) (up : BitVec 5) (dn : BitVec 2)
  /-- R123: not up by 60 ms. -/
  | ezpolTrainTimeout (act : Act)
  /-- R57: the bytes an identity memory returned, or no acknowledge. -/
  | identityRead (mem : IdMem) (rd : Option Bytes)
  /-- R57: the whole memory as read after P11, or a failing read. -/
  | backgroundIdentityRead (mem : IdMem) (rd : Option Bytes)
  /-- R183: what the servo part of P9 measured on the two actuators. -/
  | servoCalibration (ma mb : CalMeas)
  /-- R251: per head, which of I_cal × 0.95, I_cal, I_cal × 1.05 scored best (0, 1, 2). -/
  | assistCheck (best : List (Nat × Nat))
  /-- R275: how the Chest devices and the two band copies answered (highest SEQ of each valid chain), and whether a core map
  could be read. -/
  | metadataReplay (chest : ChestAccess) (bandA bandB : Option Nat) (mapOk : Bool)
  /-- R44: the end of P11. -/
  | startReady
  /-- R38. -/
  | watchdogService
  /-- R38. -/
  | watchdogExpire
  /-- R38: the host writes NSSR. -/
  | nssr (value : Word)
  /-- R38: a halted start is retried under manufacturing control. -/
  | mfgStartRetry
  /-- R51. -/
  | pllLockLoss (pll : Pll)
  /-- R51: CLK_GOOD does not return within 2 ms. -/
  | lockLossTimeout (dom : Fin 10)
  /-- R52: a block reset of the block in a slot is requested. -/
  | blockResetRequest (slot : Fin 26)
  /-- R52. -/
  | idleAck (slot : Fin 26)
  /-- R52. -/
  | idleAckTimeout (slot : Fin 26)
  /-- R52: 64 cycles have passed. -/
  | blockResetRelease (slot : Fin 26)
  /-- R65: a write of RCU.BLK_RST. -/
  | blkRst (value : Word)
  /-- R54. -/
  | perstNAssert
  /-- R47. -/
  | perstNRelease
  /-- R99: a TS1 received (`atController`) or received by the partner chip, on a physical lane. -/
  | ts1 (port : Port) (atController : Bool) (lane : Nat) (s : TsBody)
  /-- R99: a TS2, as TS1. -/
  | ts2 (port : Port) (atController : Bool) (lane : Nat) (s : TsBody)
  /-- R96, R117: an ALN in a direction of a port; `lt` on the Zhosel downlink. -/
  | aln (port : Port) (down : Bool) (lt : Word)
  /-- R99: 4,096 blocks have passed in a direction since the last ALN; `lt` is the controller's LT. -/
  | alnInterval (port : Port) (down : Bool) (lt : Word)
  /-- R104: a NAK with its expected SEQ reaches a sender. -/
  | nak (port : Port) (atController : Bool) (seq : BitVec 16)
  /-- R113, R99: a WIH block reaches the front end: bytes 1, 2, 3. -/
  | wih (act : Act) (mask comp reason : Byte)
  /-- R113, R99: an ALM reaches the controller: SOURCE, UNIT mask, complement. -/
  | alm (port : Port) (source unitMask comp : Byte) (now : Nat)
  /-- R121. -/
  | pfail
  /-- R126: LBX reaches the partner chip. -/
  | lbx (port : Port)
  /-- R116: SLP is sent to a front end. -/
  | slp (act : Act)
  /-- R94: 8 block errors within 64 blocks on a lane, in a direction. -/
  | blockLockLost (port : Port) (down : Bool) (lane : Nat)
  /-- R104: a cell received at the controller or at the partner chip fails its CRC. -/
  | cellCrcFail (port : Port) (atController : Bool)
  /-- R103: an IDLE received at the controller. -/
  | idle (port : Port) (hdr : CellHdr)
  /-- R110: a WDATA cell for a unit: LAST, WIDX, 240 bytes of bits. -/
  | wdata (act : Act) (unit : Fin 2) (last : Bool) (widx : Word) (bits : Bytes)
  /-- R109: a SMPL cell of a read path: its samples as signed values, and the channel bits they complete. -/
  | smpl (act : Act) (hdr : CellHdr) (unit : Fin 2) (flags : SmplFlags) (sidx : Word) (samples : List Int)
      (bits : List ChanBit)
  /-- R103: a RESP with STATUS, OPCODE, TAG and body. -/
  | resp (port : Port) (hdr : CellHdr) (unit : BitVec 4) (status : BitVec 4) (opcode tag : Byte) (body : Bytes)
  /-- R112. -/
  | mon (act : Act) (hdr : CellHdr) (m : MonBody)
  /-- R111: an EVENT cell: CODE, HEAD or actuator, DETAIL, SIDX or LT; `now` in ms for the windows of R145, R249. -/
  | event (port : Port) (hdr : CellHdr) (code head : Byte) (detail : BitVec 16) (time : Word) (now : Nat)
  /-- R119: a SETPT cell reaches the motion power chip at its LT `lt`. -/
  | setpt (act : Act) (wedge : BitVec 16) (applyLt : Word) (vcm ma0 ma1 : BitVec 16) (lt : Word)
  /-- R120. -/
  | mstat (hdr : CellHdr) (m : MstatBody)
  /-- R120, R132. -/
  | zc (hdr : CellHdr) (entries : List ZcEntry) (now : Nat)
  /-- R132: an ELEC cell: sample number, LT, phase currents (mA) and terminal voltages (mV). -/
  | elec (hdr : CellHdr) (sample : BitVec 16) (lt : Word) (iU iV vU vV vW : Int) (now : Nat)
  /-- R106: ACK has not advanced within the replay time. -/
  | replayTimeout (port : Port)
  /-- R106: no valid row or ordered set on lane 0. -/
  | lane0Silence (port : Port)
  /-- R125, R106: a retrain ends: lanes locked, whether it succeeded, the time in ms. -/
  | linkRetrain (port : Port) (ok : Bool) (up : BitVec 5) (dn : BitVec 2) (now : Nat)
  /-- R122. -/
  | linkTmoExpire
  /-- R121 step 4. -/
  | retractDelayExpire
  /-- R125. -/
  | wakeFromDormant (act : Act)
  /-- R110: the read path counter of a unit reaches START_SIDX. -/
  | writeDriverStart (act : Act) (unit : Fin 2)
  /-- R113: the assist monitor of a unit has been outside ±WIN for 10 ns. -/
  | assistFaultStop (act : Act) (unit : Fin 2)
  /-- R113. -/
  | downlinkLossStop (act : Act)
  /-- R111 0x01. -/
  | ezpolIdent (act : Act) (tag : Byte)
  /-- R111 0x02. -/
  | ezpolConfig (act : Act) (tag : Byte) (monPeriod : BitVec 16) (win : Byte)
  /-- R111 0x03: BAUD in kbit/s. -/
  | rate (act : Act) (unit : Fin 2) (tag : Byte) (baud : Word)
  /-- R111 0x04. -/
  | headSel (act : Act) (unit : Fin 2) (tag : Byte) (head : Byte)
  /-- R111 0x05. -/
  | pathCtrl (act : Act) (unit : Fin 2) (tag : Byte) (onOff : Byte)
  /-- R110, R111 0x06; `sidx` is the read path counter when the command arrives. -/
  | writeArm (act : Act) (unit : Fin 2) (tag : Byte) (start : Word) (phase precompOn : Byte) (length : Word)
      (sidx : Word)
  /-- R111 0x07. -/
  | writeCancel (act : Act) (unit : Fin 2) (tag : Byte)
  /-- R111 0x08. -/
  | biasSet (act : Act) (tag : Byte) (head : Byte) (bias writeCur heater : BitVec 16)
  /-- R111 0x09: eight signed entries. -/
  | precomp (act : Act) (unit : Fin 2) (tag : Byte) (entries : List Int)
  /-- R111 0x0A. -/
  | assistSet (act : Act) (tag : Byte) (head mode : Byte) (writeCur standby lead tail : BitVec 16)
  /-- R111 0x0B: what the front end measured: resistances, voltage, result 0 good, 1 open, 2 short. -/
  | headTest (act : Act) (tag : Byte) (head : Byte) (reader writer volt : BitVec 16) (result : Byte)
  /-- R111 0x0C, R126. -/
  | ezpolLoop (act : Act) (tag : Byte) (depth : Byte)
  /-- R118 0x01. -/
  | zhoselIdent (tag : Byte)
  /-- R118 0x02. -/
  | zhoselConfig (tag : Byte) (period tmo shock retract : BitVec 16)
  /-- R118 0x03. -/
  | aux (tag : Byte) (onOff : Byte)
  /-- R118 0x10. -/
  | spinMode (tag : Byte) (mode samples : Byte) (limit : BitVec 16)
  /-- R118 0x11, R131. -/
  | spinTable (tag : Byte) (base : BitVec 16) (entries : List (BitVec 16))
  /-- R118 0x12, R130; `lt` is the motion power chip's LT when the command arrives. -/
  | spinDrive (tag : Byte) (applyLt angle rate : Word) (ampl : BitVec 16) (lt : Word)
  /-- R118 0x20. -/
  | vcmEn (tag : Byte) (mask : Byte) (limA limB : BitVec 16)
  /-- R118 0x21. -/
  | maSelect (act : Act) (tag : Byte) (idx0 idx1 : Byte)
  /-- R118 0x22. -/
  | retract (tag : Byte) (mask : Byte)
  /-- R118 0x30; `rpm` is the speed the motion power chip sees. -/
  | zhoselLoop (tag : Byte) (depth : Byte) (rpm : Nat)
  /-- R129: 50 µs have passed below 1,000 rpm; `lt` is LT now. -/
  | spinDriveRefresh (lt : Word)
  /-- R136: the demand of the power policy. -/
  | speedDemandChange (demand : Byte)
  /-- R138. -/
  | targetLower
  /-- R139: observation ends by 18 crossings or 500 ms. -/
  | observationEnd
  /-- R141. -/
  | brakeBelow30rpm
  /-- R141. -/
  | brakeTimeout
  /-- R142. -/
  | alignmentDone
  /-- R142. -/
  | openLoopRampDone
  /-- R142: no handover within 0.5 s; whether the rotor moved. -/
  | handoverTimeout (moved : Bool)
  /-- R135: the coast ends: the rise time from 1,000 to 3,000 rpm in µs and the deceleration in mrad/s². -/
  | jCoastEnd (riseUs : Nat) (decel : Nat)
  /-- R144: the two cycles of tristate end; crossings seen in forward order, and the time in ms. -/
  | rotorRecoveryEnd (forward : Nat) (now : Nat)
  /-- R143. -/
  | spinUpTimeout
  /-- R151. -/
  | spindleFaultRetry
  /-- R161: a wedge of an actuator: each unit's demodulation, and whether the samples were in time (R178). -/
  | servoWedge (act : Act) (u0 u1 : WedgeObs) (inTime : Bool)
  /-- R180. -/
  | acquisitionTimeout (act : Act)
  /-- R172, R168: an arm move that serves, on each unit named, a head at a target in 2^-16 tracks on that head. -/
  | seek (act : Act) (t0 t1 : Option (Nat × Int))
  /-- R170: a unit's new head and target (2^-16 tracks on that head). -/
  | microSeek (act : Act) (unit : Fin 2) (head : Nat) (target : Int)
  /-- R184: a unit's new head and target. -/
  | headSwitch (act : Act) (unit : Fin 2) (head : Nat) (target : Int)
  /-- R176, R171: the end of a revolution: per unit the WEDGES microactuator measurements in 2^-16 tracks, and the
  mean m of A_h - A_j when both were followed. -/
  | servoRevolution (act : Act) (e0 e1 : List Int) (mean : Option Int)
  /-- R176: the drive has been idle for 5 s, or unloads for PS3 or PS4; minutes of power-on. -/
  | calSave (minutes : Nat)
  /-- R177. -/
  | shockQuietExpire (act : Act)
  /-- R182; `lt` is the controller's LT. -/
  | headLoad (act : Act) (lt : Word)
  /-- R182; `lt` is the controller's LT. -/
  | loadPulseEnd (act : Act) (lt : Word)
  /-- R182: no acquisition within 300 ms of a pulse; LT and the time in ms. -/
  | loadAcquisitionTimeout (act : Act) (lt : Word) (now : Nat)
  /-- R181. -/
  | unload (act : Act)
  /-- R183: the 16 bands of a head measured by the background pass. -/
  | mapBackgroundPass (act : Act) (head : Nat) (map : List Int)
  /-- R197, R199: sequencer n runs the run at the head of its FIFO: permits of the windows crossed, what each sector
  showed, the microwords fetched. -/
  | fsqRun (n : Fin 4) (permits : List Bool) (sectors : List SectorObs) (fetches : List FetchObs)
  /-- R199. -/
  | missedRevolution (n : Fin 4)
  /-- R199: the run of sequencer n ends. -/
  | runEnd (n : Fin 4)
  /-- R234: the pool grants an engine. -/
  | decoderGrant
  /-- R233: a decode ends in an engine: syndrome zero, global iterations, hard-decided payload and CRC; parity or
  buffer trouble of the engine (0 none, else the cause of R255); the time in ms. -/
  | decodeEnd (engine : Fin 6) (zero : Bool) (iters : Nat) (payload : Bytes) (crc : Word) (trouble : Nat) (now : Nat)
  /-- R239. -/
  | retryStoreExpire (ch : Fin 4) (tag : Word) (sector : Nat)
  /-- R237: per engine, whether the reference decode gave the stored result. -/
  | referenceDecode (good : BitVec 6)
  /-- R250. -/
  | assistCalDue (head : Nat)
  /-- R250: per current (seven), mean iterations ×16 and failed first decodes; lasing threshold in 10 µA; per pattern
  the sign of the mean timing error; the temperature in 0.1 °C and the monitor m; power-on hours. -/
  | assistCalibration (head : Nat) (scores : List (Nat × Nat)) (threshold : Nat) (signs : List Int) (temp : Int)
      (monitor : Nat)
  /-- R265: the Sideboard slot to launch. -/
  | stripeLaunch (slot : Nat)
  /-- R265. -/
  | beginDurable (slot : Nat)
  /-- R265. -/
  | stripeOnMedia (slot : Nat)
  /-- R265. -/
  | commitDurable (slot : Nat)
  /-- R269. -/
  | journalChestWrite
  /-- R269. -/
  | journalBandFlush
  /-- R270. -/
  | metadataCheckpoint
  /-- R272. -/
  | journalBandMove (act : Act)
  /-- R280. -/
  | headRetire (head : Nat)
  /-- R277: the degraded read of a command serves rows of one stripe: for each row, every member's read in member
  order; which member is wanted. -/
  | degradedRead (fsn : Nat) (zone stripe : Nat) (rows : List (Nat × List MemberRead)) (afterFurther : Bool)
  /-- R283: the chunk of a zone's move: rows unreadable in three or more members (stripe, row, mask). -/
  | rebuildChunk (zone : Nat) (lost : List (Nat × Nat × Word))
  /-- R288: a member band of a zone is to be relocated. -/
  | relocation (zone : Nat) (member : Nat)
  /-- R289. -/
  | reshape (zone : Nat)
  /-- R291. -/
  | reshapeInPlaceChunk (zone : Nat)
  /-- R276: one more block of the save area erased on a device. -/
  | backgroundErase (dev : Fin 2)
  /-- R276. -/
  | backgroundEraseDone
  /-- R305: a correction at an address of a memory; client wrote the address before the write-back; scrub found it. -/
  | memoryCorrection (mem : Mem) (addr : Nat) (clientWrote : Bool) (byScrub : Bool)
  /-- R305. -/
  | bucketLeak (mem : Mem)
  /-- R306. -/
  | trackerAgeOut (mem : Mem) (addr : Nat)
  /-- R309. -/
  | uncorrectableError (mem : Mem) (addr : Nat) (reader : UeReader) (region : UeRegion)
  /-- R310. -/
  | scrubPassStart (mem : Mem)
  /-- R311. -/
  | scrubPassEnd (mem : Mem)
  /-- R311. -/
  | startSram
  /-- R311. -/
  | startDram
  /-- R312: a write of MEC.FLIP_CTRL that sets ARM. -/
  | flipArm (value : Word)
  /-- R303: the refresh-rate register of each device. -/
  | refreshRatePoll (rates : List Byte)
  /-- R304. -/
  | writeAdmission (fsn : Nat)
  /-- R319: ring channel n finds a descriptor; bytes a PCIe source returns, row by row. -/
  | descriptorStart (n : Fin 64) (d : Desc) (pcieData : List Bytes)
  /-- R319: the descriptor of ring channel n ends; a PCIe error met. -/
  | descriptorDone (n : Fin 64) (pcieErr : Bool)
  /-- R319. -/
  | kick (n : Fin 64)
  /-- R320. -/
  | abort (n : Fin 64)
  /-- R322: the set loaded into the shadow of streaming channel m. -/
  | shadowLoad (m : Fin 8) (d : Desc)
  /-- R322: the active set of channel m ends. -/
  | streamSetEnd (m : Fin 8)
  /-- R327: a fabric cycle delivers a waiting pulse of a line. -/
  | eventLinePulse (ev : Fin 64)
  /-- R338. -/
  | mediaCacheSlotTimeout (slot : Nat)
  /-- R340. -/
  | indexLogBase
  /-- R342. -/
  | cleaning
  /-- R342: a merged home zone is written to the target. -/
  | mergeSwitch (zone : Nat) (target : Nat)
  /-- R349: a lookup of a 256-byte unit (usable address ÷ 256); whether it writes. -/
  | mapCacheMiss (unit : Nat) (write : Bool)
  /-- R350: the fill of miss register k ends. -/
  | mapFillDone (k : Fin 8)
  /-- R351: the write-back of a line is acknowledged. -/
  | mapWritebackDone (line : Fin 48)
  /-- R352: a write of ZMU.PRELOAD. -/
  | preload (value : Word)
  /-- R352: a write of ZMU.UNLOCK. -/
  | unlock (value : Word)
  /-- R353: a write of ZMU.CTRL.ENABLE. -/
  | enable (onOff : Bool)
  /-- R354. -/
  | clean
  /-- R395. -/
  | sqTailDoorbell (qid : Nat) (value : Word)
  /-- R395. -/
  | cqHeadDoorbell (qid : Nat) (value : Word)
  /-- R358: the entry read from a submission queue. -/
  | commandFetch (sqid : Nat) (e : Sqe)
  /-- R365. -/
  | readerSnapshot (fsn : Nat)
  /-- R367; for a partial block of the 512-byte format, the current plaintext of each edge block where media held it. -/
  | writerCommit (fsn : Nat) (current : List (Nat × Option Bytes))
  /-- R376. -/
  | completionPost (fsn : Nat)
  /-- R378: a channel is free: access times in µs of the queued runs (run id, time), the time in ms. -/
  | mediaDispatch (ch : Fin 4) (access : List (Nat × Nat)) (now : Nat)
  /-- R360. -/
  | deleteIoSubmissionQueue (fsn : Nat)
  /-- R357. -/
  | createIoSubmissionQueue (fsn : Nat)
  /-- R382. -/
  | getLogPage (fsn : Nat)
  /-- R357. -/
  | deleteIoCompletionQueue (fsn : Nat)
  /-- R357. -/
  | createIoCompletionQueue (fsn : Nat)
  /-- R362. -/
  | identify (fsn : Nat)
  /-- R375. -/
  | abortCommand (fsn : Nat)
  /-- R363; the data of the command (APST table). -/
  | setFeatures (fsn : Nat) (data : Bytes)
  /-- R363. -/
  | getFeatures (fsn : Nat)
  /-- R386. -/
  | asynchronousEventRequest (fsn : Nat)
  /-- R380: the piece's bytes. -/
  | firmwareImageDownload (fsn : Nat) (data : Bytes)
  /-- R380: whether the read-back of each copy passed. -/
  | firmwareCommit (fsn : Nat) (backFallback backPrimary : Bool)
  /-- R360. -/
  | shortSelfTest (fsn : Nat)
  /-- R360. -/
  | extendedSelfTest (fsn : Nat)
  /-- R360. -/
  | selfTestAbort (fsn : Nat)
  /-- R464. -/
  | formatNvm (fsn : Nat)
  /-- R459. -/
  | exitFailureMode (fsn : Nat)
  /-- R461. -/
  | overwrite (fsn : Nat)
  /-- R461: the next physical zone of the pass has been written. -/
  | overwriteZone
  /-- R460: command, or the next step of an erase in progress. -/
  | cryptographicErase (fsn : Nat)
  /-- R468: the operation goes on by one recorded step. -/
  | sanitizeResume
  /-- R372. -/
  | flush (fsn : Nat)
  /-- R367: the blocks transferred from the host (or the window), and how the transfer ended. -/
  | write (fsn : Nat) (data : List Bytes) (xfer : Xfer)
  /-- R365: the media data of its blocks in order (none where media did not deliver), and how the transfer ended. -/
  | read (fsn : Nat) (media : List (Option Bytes)) (xfer : Xfer)
  /-- R361. -/
  | writeZeroes (fsn : Nat)
  /-- R361: the ranges (attributes, length, SLBA). -/
  | datasetManagement (fsn : Nat) (ranges : List (Nat × Nat)) (xfer : Xfer)
  /-- R361: the media data as for Read. -/
  | verify (fsn : Nat) (media : List (Option Bytes))
  /-- R346. -/
  | zoneOpen (fsn : Nat)
  /-- R346. -/
  | zoneClose (fsn : Nat)
  /-- R346. -/
  | zoneFinish (fsn : Nat)
  /-- R346. -/
  | zoneReset (fsn : Nat)
  /-- R361. -/
  | zoneManagementReceive (fsn : Nat)
  /-- R345: as Write. -/
  | zoneAppend (fsn : Nat) (data : List Bytes) (xfer : Xfer)
  /-- R418. -/
  | scan (fsn : Nat)
  /-- R422. -/
  | peerOut (fsn : Nat)
  /-- R422. -/
  | peerIn (fsn : Nat)
  /-- R424: the next piece of a vendor command: media data for SCAN and PEER_OUT, peer data for PEER_IN. -/
  | vendorPiece (fsn : Nat) (blocks : List (Option Bytes)) (xfer : Xfer)
  /-- R398: a write of CC whose EN is 1 while CC.EN is 0. -/
  | ccEnSet (cc : Word)
  /-- R377: a write of CC whose EN is 0 while CC.EN is 1. -/
  | controllerReset (cc : Word)
  /-- R373: a write of CC whose SHN asks for a shutdown. -/
  | shutdown (cc : Word)
  /-- R396. -/
  | intms (value : Word)
  /-- R396. -/
  | intmc (value : Word)
  /-- R402. -/
  | hotReset
  /-- R402. -/
  | pcieLinkDown
  /-- R402. -/
  | functionLevelReset
  /-- R401. -/
  | pmeTurnOff
  /-- R399. -/
  | d3hotEntry
  /-- R399. -/
  | d3hotExit
  /-- R400. -/
  | aspmL1Entry
  /-- R408. -/
  | pcieError (e : PcieErr)
  /-- R414: a BAR2 write. -/
  | memoryWindowWrite (off : Nat) (data : Bytes)
  /-- R414: a BAR2 read. -/
  | memoryWindowRead (off len : Nat)
  /-- R403: an object written with Go: vendor, type, and its payload dwords. -/
  | doeRequest (vendor : BitVec 16) (typ : Byte) (payload : List Word)
  /-- R403. -/
  | doeAbort
  /-- R404: SPDM GET_VERSION. -/
  | getVersion
  /-- R404: SPDM GET_CAPABILITIES with the requester's version byte. -/
  | getCapabilities (version : Byte)
  /-- R404: SPDM NEGOTIATE_ALGORITHMS: base asymmetric and base hash masks offered, measurement specification. -/
  | negotiateAlgorithms (asym hash : Word) (measSpec : Byte)
  /-- R449. -/
  | getDigests
  /-- R449: slot, offset, length. -/
  | getCertificate (slot : Byte) (offset length : BitVec 16)
  /-- R455: slot, summary hash type, nonce. -/
  | challenge (slot : Byte) (hashType : Byte) (nonce : Bytes)
  /-- R455: Param1 (bit 0 signature), Param2, nonce, slot. -/
  | getMeasurements (param1 param2 : Byte) (nonce : Bytes) (slot : Byte)
  /-- R439. -/
  | idleTimerPs1
  /-- R439. -/
  | idleTimerPs2
  /-- R440: the idle time of the APST entry has passed. -/
  | apstTimer
  /-- R435. -/
  | ps3Entry
  /-- R435. -/
  | ps4Entry
  /-- R436. -/
  | ps3Exit
  /-- R437. -/
  | ps4Exit
  /-- R443: the four sensors in °C. -/
  | thermalSample (r0 r1 r2 r3 : Int)
  /-- R449: BUR.CTRL.COMMIT: what the checks of the buffer's certificates found. -/
  | chainCommit (leafHasDk signaturesOk rootOk : Bool)
  /-- R474. -/
  | credenzaPersist
  /-- R473. -/
  | minuteTick
  /-- R491. -/
  | crdClear
  /-- R491. -/
  | persist
  /-- R484: TST.FUSE with OP 1; whether the burn took. -/
  | burnDs (ok : Bool)
  /-- R484. -/
  | programKeySlot (index : Fin 4) (ok : Bool)
  /-- R484. -/
  | revokeKeySlot (index : Fin 4) (ok : Bool)
  /-- R484. -/
  | revokeHoltaleKey (index : Fin 2) (ok : Bool)
  /-- R487. -/
  | hold
  /-- R487: a write of TST.LB with RUN. -/
  | tstLoopback (value : Word)
  /-- R126: a write of ELK or ZLK LB_CTRL with RUN. -/
  | elkLoopback (port : Port) (value : Word)
  /-- R411: a write of HPT.LB_CTRL with RUN. -/
  | hptLoopback (value : Word)
  /-- R487: the loopback of an interface ends with a count of errors (0 TST, 1 to 3 the ports, 4 PCIe). -/
  | loopbackDone (unit : Fin 5) (errors : Nat)
  /-- R485. -/
  | nstread
  /-- R486: a BAR4 access: byte offset, size, write value or read. -/
  | apertureAccess (off size : Nat) (value : Option Word)
  /-- R14: a write to a register of a block, of BAR0, or of configuration space. -/
  | registerWrite (space : RegSpace) (off : Nat) (value : Word)
  /-- R274. -/
  | powerLoss
  /-- R59: speed code and width. -/
  | pcieLinkUp (speed : BitVec 3) (width : BitVec 3)
  /-- R400. -/
  | aspmL1Exit
  /-- R363. -/
  | interruptCoalescingTime (qid : Nat)
  /-- R433. -/
  | dramSelfRefreshIdle
  /-- R411. -/
  | loopbackFollower
  /-- R485: the cells driven and the cells sampled at the balls. -/
  | extest (drive sample : List Bool)
  deriving DecidableEq, Repr

end Sys2Proof
end

