-- ==== Sys2Proof/Config.lean ====
section
/-!
DEFINITION. What the spec leaves to the part or to the outside and never fixes: opaque constants that no proof can see
into (assumption 5).
-/

namespace Sys2Proof.Config

/-- The two Holtale public keys in ROM, X then Y (R84): the spec does not give them. -/
opaque holtaleKey : Nat → List Byte

/-- A value the spec leaves open, fresh for every count. -/
opaque freeValue : Nat → Nat

/-- Outputs of the CTR_DRBG (R406), 32 bytes for every count. -/
opaque drbg : Nat → List Byte

/-- The device secret DS, 32 bytes (R447). -/
opaque deviceSecret : List Byte

/-- An ECDSA P-384 signature by a private scalar over a digest, r then s (R455, R457): the nonce is not the spec's. -/
opaque ecdsaSign : Nat → List Byte → List Byte

/-- The SHA-384 digest of the B0 ROM, measurement index 1 (R452). -/
opaque romDigest : List Byte

/-- atan2 of two zero correlations in 2^-16 of a turn (R159): the spec states none. -/
opaque atan2Origin : Int

/-- b_vc in 10^8 tracks/s² that the servo loop engine of an actuator takes before P9 has measured it (R172, R183): the spec gives none. -/
opaque nominalBvc : Nat → Nat

/-- The interpolator of the read channel (R224): tap of phase and index. -/
opaque interpolator : Nat → Nat → Rat

/-- The body of the IDENT response of front end A, front end B and the motion power chip (R111, R118): what the part is. -/
opaque partnerIdent : Nat → List Byte

end Sys2Proof.Config
end

