-- ==== Sys2Proof/Machine/Bytes.lean ====
section
/-!
DEFINITION. Reading and writing fields of byte strings: little-endian integers (R12), big-endian integers, signed
values, ASCII, and the two cyclic redundancy checks the spec names (R69, R102).
-/

namespace Sys2Proof.Machine

/-- Byte `i` of a string as a number; 0 past the end. -/
def byteAt (b : Bytes) (i : Nat) : Nat := (b.getD i 0).toNat

/-- The little-endian value of a byte string (R12). -/
def leNat : Bytes → Nat
  | [] => 0
  | x :: t => x.toNat + 256 * leNat t

/-- `n` bytes from offset `i`. -/
def slice (b : Bytes) (i n : Nat) : Bytes := (b.drop i).take n

/-- The `n`-byte little-endian integer at offset `i` (R12). -/
def leAt (b : Bytes) (i n : Nat) : Nat := leNat (slice b i n)

/-- The `n`-byte little-endian form of a number (R12). -/
def toLe : Nat → Nat → Bytes
  | 0, _ => []
  | n + 1, v => BitVec.ofNat 8 v :: toLe n (v / 256)

/-- The big-endian value of a byte string. -/
def beNat (b : Bytes) : Nat := b.foldl (fun a x => a * 256 + x.toNat) 0

/-- The `n`-byte big-endian form of a number. -/
def toBe (n v : Nat) : Bytes := (toLe n v).reverse

/-- A number of `w` bits read as two's complement (R69). -/
def signed (w v : Nat) : Int := if v % 2 ^ w < 2 ^ (w - 1) then (v % 2 ^ w : Nat) else (v % 2 ^ w : Nat) - (2 ^ w : Nat)

/-- The low `w` bits of an integer in two's complement. -/
def unsigned (w : Nat) (v : Int) : Nat := (v % (2 ^ w : Nat)).toNat

/-- A string of `n` zero bytes. -/
def zeros (n : Nat) : Bytes := List.replicate n 0

/-- A byte string cut or padded with zero bytes to length `n`. -/
def padTo (n : Nat) (b : Bytes) : Bytes := b.take n ++ zeros (n - b.length)

/-- Every byte is printable ASCII (R69). -/
def printable (b : Bytes) : Bool := b.all fun x => decide (0x20 ≤ x.toNat) && decide (x.toNat ≤ 0x7E)

/-- The bytes of an ASCII string. -/
def asciiBytes (s : List Char) : Bytes := s.map fun c => BitVec.ofNat 8 c.toNat

/-- Exclusive-or of two byte strings, as long as the shorter one. -/
def xorBytes (a b : Bytes) : Bytes := List.zipWith (· ^^^ ·) a b

/-- One bit step of a reflected CRC-32 with reflected polynomial `poly`. -/
def crcStep (poly c : Word) : Word := if c.getLsbD 0 then (c >>> 1) ^^^ poly else c >>> 1

/-- One byte of a reflected CRC-32. -/
def crcByte (poly c : Word) (x : Byte) : Word :=
  (List.range 8).foldl (fun a _ => crcStep poly a) (c ^^^ x.setWidth 32)

/-- CRC-32 of IEEE 802.3 (R69): reflected 0x04C1_1DB7, initial value and final XOR all ones. -/
def crc32 (b : Bytes) : Word := (b.foldl (crcByte 0xEDB88320) 0xFFFFFFFF) ^^^ 0xFFFFFFFF

/-- CRC-32C: reflected 0x1EDC_6F41, initial value and final XOR all ones. -/
def crc32c (b : Bytes) : Word := (b.foldl (crcByte 0x82F63B78) 0xFFFFFFFF) ^^^ 0xFFFFFFFF

/-- The bits of a byte string, bit 0 of byte 0 first. -/
def bitsLsb (b : Bytes) : List Bool := b.flatMap fun x => (List.range 8).map fun i => x.getLsbD i

/-- The number whose binary digits a list gives, first digit least significant. -/
def ofBits : List Bool → Nat
  | [] => 0
  | x :: t => (if x then 1 else 0) + 2 * ofBits t

/-- Insert into a rising list of numbers without repeats. -/
def insertNat (n : Nat) : List Nat → List Nat
  | [] => [n]
  | m :: t => if n < m then n :: m :: t else if n = m then m :: t else m :: insertNat n t

/-- The smallest of a list of numbers. -/
def minNat? : List Nat → Option Nat
  | [] => none
  | x :: t => some (t.foldl min x)

/-- Integer division rounded to nearest, halves away from zero (R11); `d` is positive. -/
def roundDiv (a : Int) (d : Nat) : Int :=
  if 0 ≤ a then (2 * a + d) / (2 * d) else -((2 * (-a) + d) / (2 * d))

/-- Ceiling of a quotient of naturals. -/
def ceilDiv (a d : Nat) : Nat := (a + d - 1) / d

/-- Clamp an integer between two bounds. -/
def clampI (lo hi x : Int) : Int := if x < lo then lo else if hi < x then hi else x

/-- A value lies between two bounds. -/
def inRange (lo hi x : Nat) : Bool := decide (lo ≤ x) && decide (x ≤ hi)

end Sys2Proof.Machine
end

