-- ==== Sys2Proof/Machine/Crypto.lean ====
section
/-!
DEFINITION. The published algorithms the spec names: SHA-256 and SHA-384 (FIPS 180-4), HMAC and HKDF (RFC 2104,
RFC 5869), AES-256 with the XTS mode (FIPS 197, IEEE 1619) and the key wrap of RFC 3394, and ECDSA over P-384
(FIPS 186-5). PRESUMED: the algorithms' texts are those standards', not the spec's (assumption 4).
-/

namespace Sys2Proof.Machine

/-! SHA-384 and SHA-256. -/

/-- The 80 round constants of SHA-384 (FIPS 180-4). -/
def sha512K : List (BitVec 64) :=
  [0x428a2f98d728ae22, 0x7137449123ef65cd, 0xb5c0fbcfec4d3b2f, 0xe9b5dba58189dbbc, 0x3956c25bf348b538,
   0x59f111f1b605d019, 0x923f82a4af194f9b, 0xab1c5ed5da6d8118, 0xd807aa98a3030242, 0x12835b0145706fbe,
   0x243185be4ee4b28c, 0x550c7dc3d5ffb4e2, 0x72be5d74f27b896f, 0x80deb1fe3b1696b1, 0x9bdc06a725c71235,
   0xc19bf174cf692694, 0xe49b69c19ef14ad2, 0xefbe4786384f25e3, 0x0fc19dc68b8cd5b5, 0x240ca1cc77ac9c65] ++
  [0x2de92c6f592b0275, 0x4a7484aa6ea6e483, 0x5cb0a9dcbd41fbd4, 0x76f988da831153b5, 0x983e5152ee66dfab,
   0xa831c66d2db43210, 0xb00327c898fb213f, 0xbf597fc7beef0ee4, 0xc6e00bf33da88fc2, 0xd5a79147930aa725,
   0x06ca6351e003826f, 0x142929670a0e6e70, 0x27b70a8546d22ffc, 0x2e1b21385c26c926, 0x4d2c6dfc5ac42aed,
   0x53380d139d95b3df, 0x650a73548baf63de, 0x766a0abb3c77b2a8, 0x81c2c92e47edaee6, 0x92722c851482353b] ++
  [0xa2bfe8a14cf10364, 0xa81a664bbc423001, 0xc24b8b70d0f89791, 0xc76c51a30654be30, 0xd192e819d6ef5218,
   0xd69906245565a910, 0xf40e35855771202a, 0x106aa07032bbd1b8, 0x19a4c116b8d2d0c8, 0x1e376c085141ab53,
   0x2748774cdf8eeb99, 0x34b0bcb5e19b48a8, 0x391c0cb3c5c95a63, 0x4ed8aa4ae3418acb, 0x5b9cca4f7763e373,
   0x682e6ff3d6b2b8a3, 0x748f82ee5defb2fc, 0x78a5636f43172f60, 0x84c87814a1f0ab72, 0x8cc702081a6439ec] ++
  [0x90befffa23631e28, 0xa4506cebde82bde9, 0xbef9a3f7b2c67915, 0xc67178f2e372532b, 0xca273eceea26619c,
   0xd186b8c721c0c207, 0xeada7dd6cde0eb1e, 0xf57d4f7fee6ed178, 0x06f067aa72176fba, 0x0a637dc5a2c898a6,
   0x113f9804bef90dae, 0x1b710b35131c471b, 0x28db77f523047d84, 0x32caab7b40c72493, 0x3c9ebe0a15c9bebc,
   0x431d67c49c100d4c, 0x4cc5d4becb3e42b6, 0x597f299cfc657e2a, 0x5fcb6fab3ad6faec, 0x6c44198c4a475817]


/-- The 64 round constants of SHA-256 (FIPS 180-4). -/
def sha256K : List Word :=
  [0x428a2f98, 0x71374491, 0xb5c0fbcf, 0xe9b5dba5, 0x3956c25b, 0x59f111f1, 0x923f82a4, 0xab1c5ed5, 0xd807aa98,
   0x12835b01, 0x243185be, 0x550c7dc3, 0x72be5d74, 0x80deb1fe, 0x9bdc06a7, 0xc19bf174, 0xe49b69c1, 0xefbe4786,
   0x0fc19dc6, 0x240ca1cc, 0x2de92c6f, 0x4a7484aa, 0x5cb0a9dc, 0x76f988da, 0x983e5152, 0xa831c66d, 0xb00327c8,
   0xbf597fc7, 0xc6e00bf3, 0xd5a79147, 0x06ca6351, 0x14292967] ++
  [0x27b70a85, 0x2e1b2138, 0x4d2c6dfc, 0x53380d13, 0x650a7354, 0x766a0abb, 0x81c2c92e, 0x92722c85, 0xa2bfe8a1,
   0xa81a664b, 0xc24b8b70, 0xc76c51a3, 0xd192e819, 0xd6990624, 0xf40e3585, 0x106aa070, 0x19a4c116, 0x1e376c08,
   0x2748774c, 0x34b0bcb5, 0x391c0cb3, 0x4ed8aa4a, 0x5b9cca4f, 0x682e6ff3, 0x748f82ee, 0x78a5636f, 0x84c87814,
   0x8cc70208, 0x90befffa, 0xa4506ceb, 0xbef9a3f7, 0xc67178f2]


/-- The initial hash value of SHA-384 (FIPS 180-4). -/
def sha384H0 : List (BitVec 64) :=
  [0xcbbb9d5dc1059ed8, 0x629a292a367cd507, 0x9159015a3070dd17, 0x152fecd8f70e5939, 0x67332667ffc00b31,
   0x8eb44a8768581511, 0xdb0c2e0d64f98fa7, 0x47b5481dbefa4fa4]


/-- The initial hash value of SHA-256 (FIPS 180-4). -/
def sha256H0 : List Word :=
  [0x6a09e667, 0xbb67ae85, 0x3c6ef372, 0xa54ff53a, 0x510e527f, 0x9b05688c, 0x1f83d9ab, 0x5be0cd19]


/-- The padded message of a Merkle-Damgård hash with blocks of `blk` bytes and a length field of `lf` bytes. -/
def shaPad (blk lf : Nat) (m : Bytes) : Bytes :=
  let r := (m.length + 1 + lf) % blk
  m ++ [0x80] ++ zeros (if r = 0 then 0 else blk - r) ++ toBe lf (8 * m.length)

/-- The message schedule, newest word first: `n` words more. -/
def sha512Sched : Nat → List (BitVec 64) → List (BitVec 64)
  | 0, w => w
  | n + 1, w =>
    let g := fun i => w.getD i 0
    let s0 := (g 14).rotateRight 1 ^^^ (g 14).rotateRight 8 ^^^ (g 14 >>> 7)
    let s1 := (g 1).rotateRight 19 ^^^ (g 1).rotateRight 61 ^^^ (g 1 >>> 6)
    sha512Sched n ((g 15 + s0 + g 6 + s1) :: w)

/-- One round of SHA-384 on its eight variables. -/
def sha512Round (v : List (BitVec 64)) (kw : BitVec 64) : List (BitVec 64) :=
  match v with
  | [a, b, c, d, e, f, g, h] =>
    let s1 := e.rotateRight 14 ^^^ e.rotateRight 18 ^^^ e.rotateRight 41
    let ch := (e &&& f) ^^^ (~~~ e &&& g)
    let t1 := h + s1 + ch + kw
    let s0 := a.rotateRight 28 ^^^ a.rotateRight 34 ^^^ a.rotateRight 39
    let maj := (a &&& b) ^^^ (a &&& c) ^^^ (b &&& c)
    [t1 + s0 + maj, a, b, c, d + t1, e, f, g]
  | v => v

/-- The words of a block, big-endian, `n` words of `k` bytes. -/
def blockWords (k w : Nat) (b : Bytes) : Nat → List (BitVec w)
  | 0 => []
  | n + 1 => BitVec.ofNat w (beNat (b.take k)) :: blockWords k w (b.drop k) n

/-- SHA-384's compression of `n` blocks. -/
def sha512Blocks : Nat → List (BitVec 64) → Bytes → List (BitVec 64)
  | 0, h, _ => h
  | n + 1, h, m =>
    let w := (sha512Sched 64 (blockWords 8 64 m 16).reverse).reverse
    let v := (List.zipWith (· + ·) sha512K w).foldl sha512Round h
    sha512Blocks n (List.zipWith (· + ·) h v) (m.drop 128)

/-- SHA-384 of a byte string. -/
def sha384 (m : Bytes) : Bytes :=
  let p := shaPad 128 16 m
  ((sha512Blocks (p.length / 128) sha384H0 p).flatMap fun w => toBe 8 w.toNat).take 48

/-- The message schedule of SHA-256, newest word first. -/
def sha256Sched : Nat → List Word → List Word
  | 0, w => w
  | n + 1, w =>
    let g := fun i => w.getD i 0
    let s0 := (g 14).rotateRight 7 ^^^ (g 14).rotateRight 18 ^^^ (g 14 >>> 3)
    let s1 := (g 1).rotateRight 17 ^^^ (g 1).rotateRight 19 ^^^ (g 1 >>> 10)
    sha256Sched n ((g 15 + s0 + g 6 + s1) :: w)

/-- One round of SHA-256. -/
def sha256Round (v : List Word) (kw : Word) : List Word :=
  match v with
  | [a, b, c, d, e, f, g, h] =>
    let s1 := e.rotateRight 6 ^^^ e.rotateRight 11 ^^^ e.rotateRight 25
    let ch := (e &&& f) ^^^ (~~~ e &&& g)
    let t1 := h + s1 + ch + kw
    let s0 := a.rotateRight 2 ^^^ a.rotateRight 13 ^^^ a.rotateRight 22
    let maj := (a &&& b) ^^^ (a &&& c) ^^^ (b &&& c)
    [t1 + s0 + maj, a, b, c, d + t1, e, f, g]
  | v => v

/-- SHA-256's compression of `n` blocks. -/
def sha256Blocks : Nat → List Word → Bytes → List Word
  | 0, h, _ => h
  | n + 1, h, m =>
    let w := (sha256Sched 48 (blockWords 4 32 m 16).reverse).reverse
    let v := (List.zipWith (· + ·) sha256K w).foldl sha256Round h
    sha256Blocks n (List.zipWith (· + ·) h v) (m.drop 64)

/-- SHA-256 of a byte string. -/
def sha256 (m : Bytes) : Bytes :=
  let p := shaPad 64 8 m
  (sha256Blocks (p.length / 64) sha256H0 p).flatMap fun w => toBe 4 w.toNat

/-! HMAC and HKDF with SHA-384. -/

/-- HMAC with SHA-384. -/
def hmac384 (key msg : Bytes) : Bytes :=
  let k := padTo 128 (if key.length > 128 then sha384 key else key)
  sha384 (xorBytes k (List.replicate 128 0x5C) ++ sha384 (xorBytes k (List.replicate 128 0x36) ++ msg))

/-- HKDF-Expand with SHA-384: block `i` after block `prev`. -/
def hkdfExpand (prk info : Bytes) : Nat → Nat → Bytes → Bytes
  | 0, _, _ => []
  | n + 1, i, prev =>
    let t := hmac384 prk (prev ++ info ++ [BitVec.ofNat 8 i])
    t ++ hkdfExpand prk info n (i + 1) t

/-- HKDF with SHA-384: `len` bytes from input key, salt and info. -/
def hkdf384 (salt ikm info : Bytes) (len : Nat) : Bytes :=
  (hkdfExpand (hmac384 salt ikm) info (ceilDiv len 48) 1 []).take len

/-! AES-256. A state is 16 bytes in column order. -/

/-- The AES S-box (FIPS 197). -/
def aesSbox : List Nat :=
  [0x63, 0x7c, 0x77, 0x7b, 0xf2, 0x6b, 0x6f, 0xc5, 0x30, 0x01, 0x67, 0x2b, 0xfe, 0xd7, 0xab, 0x76, 0xca, 0x82, 0xc9,
   0x7d, 0xfa, 0x59, 0x47, 0xf0, 0xad, 0xd4, 0xa2, 0xaf, 0x9c, 0xa4, 0x72, 0xc0, 0xb7, 0xfd, 0x93, 0x26, 0x36, 0x3f,
   0xf7, 0xcc, 0x34, 0xa5, 0xe5, 0xf1, 0x71, 0xd8, 0x31, 0x15, 0x04, 0xc7, 0x23, 0xc3, 0x18, 0x96, 0x05, 0x9a, 0x07,
   0x12, 0x80, 0xe2, 0xeb, 0x27, 0xb2, 0x75] ++
  [0x09, 0x83, 0x2c, 0x1a, 0x1b, 0x6e, 0x5a, 0xa0, 0x52, 0x3b, 0xd6, 0xb3, 0x29, 0xe3, 0x2f, 0x84, 0x53, 0xd1, 0x00,
   0xed, 0x20, 0xfc, 0xb1, 0x5b, 0x6a, 0xcb, 0xbe, 0x39, 0x4a, 0x4c, 0x58, 0xcf, 0xd0, 0xef, 0xaa, 0xfb, 0x43, 0x4d,
   0x33, 0x85, 0x45, 0xf9, 0x02, 0x7f, 0x50, 0x3c, 0x9f, 0xa8, 0x51, 0xa3, 0x40, 0x8f, 0x92, 0x9d, 0x38, 0xf5, 0xbc,
   0xb6, 0xda, 0x21, 0x10, 0xff, 0xf3, 0xd2] ++
  [0xcd, 0x0c, 0x13, 0xec, 0x5f, 0x97, 0x44, 0x17, 0xc4, 0xa7, 0x7e, 0x3d, 0x64, 0x5d, 0x19, 0x73, 0x60, 0x81, 0x4f,
   0xdc, 0x22, 0x2a, 0x90, 0x88, 0x46, 0xee, 0xb8, 0x14, 0xde, 0x5e, 0x0b, 0xdb, 0xe0, 0x32, 0x3a, 0x0a, 0x49, 0x06,
   0x24, 0x5c, 0xc2, 0xd3, 0xac, 0x62, 0x91, 0x95, 0xe4, 0x79, 0xe7, 0xc8, 0x37, 0x6d, 0x8d, 0xd5, 0x4e, 0xa9, 0x6c,
   0x56, 0xf4, 0xea, 0x65, 0x7a, 0xae, 0x08] ++
  [0xba, 0x78, 0x25, 0x2e, 0x1c, 0xa6, 0xb4, 0xc6, 0xe8, 0xdd, 0x74, 0x1f, 0x4b, 0xbd, 0x8b, 0x8a, 0x70, 0x3e, 0xb5,
   0x66, 0x48, 0x03, 0xf6, 0x0e, 0x61, 0x35, 0x57, 0xb9, 0x86, 0xc1, 0x1d, 0x9e, 0xe1, 0xf8, 0x98, 0x11, 0x69, 0xd9,
   0x8e, 0x94, 0x9b, 0x1e, 0x87, 0xe9, 0xce, 0x55, 0x28, 0xdf, 0x8c, 0xa1, 0x89, 0x0d, 0xbf, 0xe6, 0x42, 0x68, 0x41,
   0x99, 0x2d, 0x0f, 0xb0, 0x54, 0xbb, 0x16]


/-- The inverse AES S-box (FIPS 197). -/
def aesInvSbox : List Nat :=
  [0x52, 0x09, 0x6a, 0xd5, 0x30, 0x36, 0xa5, 0x38, 0xbf, 0x40, 0xa3, 0x9e, 0x81, 0xf3, 0xd7, 0xfb, 0x7c, 0xe3, 0x39,
   0x82, 0x9b, 0x2f, 0xff, 0x87, 0x34, 0x8e, 0x43, 0x44, 0xc4, 0xde, 0xe9, 0xcb, 0x54, 0x7b, 0x94, 0x32, 0xa6, 0xc2,
   0x23, 0x3d, 0xee, 0x4c, 0x95, 0x0b, 0x42, 0xfa, 0xc3, 0x4e, 0x08, 0x2e, 0xa1, 0x66, 0x28, 0xd9, 0x24, 0xb2, 0x76,
   0x5b, 0xa2, 0x49, 0x6d, 0x8b, 0xd1, 0x25] ++
  [0x72, 0xf8, 0xf6, 0x64, 0x86, 0x68, 0x98, 0x16, 0xd4, 0xa4, 0x5c, 0xcc, 0x5d, 0x65, 0xb6, 0x92, 0x6c, 0x70, 0x48,
   0x50, 0xfd, 0xed, 0xb9, 0xda, 0x5e, 0x15, 0x46, 0x57, 0xa7, 0x8d, 0x9d, 0x84, 0x90, 0xd8, 0xab, 0x00, 0x8c, 0xbc,
   0xd3, 0x0a, 0xf7, 0xe4, 0x58, 0x05, 0xb8, 0xb3, 0x45, 0x06, 0xd0, 0x2c, 0x1e, 0x8f, 0xca, 0x3f, 0x0f, 0x02, 0xc1,
   0xaf, 0xbd, 0x03, 0x01, 0x13, 0x8a, 0x6b] ++
  [0x3a, 0x91, 0x11, 0x41, 0x4f, 0x67, 0xdc, 0xea, 0x97, 0xf2, 0xcf, 0xce, 0xf0, 0xb4, 0xe6, 0x73, 0x96, 0xac, 0x74,
   0x22, 0xe7, 0xad, 0x35, 0x85, 0xe2, 0xf9, 0x37, 0xe8, 0x1c, 0x75, 0xdf, 0x6e, 0x47, 0xf1, 0x1a, 0x71, 0x1d, 0x29,
   0xc5, 0x89, 0x6f, 0xb7, 0x62, 0x0e, 0xaa, 0x18, 0xbe, 0x1b, 0xfc, 0x56, 0x3e, 0x4b, 0xc6, 0xd2, 0x79, 0x20, 0x9a,
   0xdb, 0xc0, 0xfe, 0x78, 0xcd, 0x5a, 0xf4] ++
  [0x1f, 0xdd, 0xa8, 0x33, 0x88, 0x07, 0xc7, 0x31, 0xb1, 0x12, 0x10, 0x59, 0x27, 0x80, 0xec, 0x5f, 0x60, 0x51, 0x7f,
   0xa9, 0x19, 0xb5, 0x4a, 0x0d, 0x2d, 0xe5, 0x7a, 0x9f, 0x93, 0xc9, 0x9c, 0xef, 0xa0, 0xe0, 0x3b, 0x4d, 0xae, 0x2a,
   0xf5, 0xb0, 0xc8, 0xeb, 0xbb, 0x3c, 0x83, 0x53, 0x99, 0x61, 0x17, 0x2b, 0x04, 0x7e, 0xba, 0x77, 0xd6, 0x26, 0xe1,
   0x69, 0x14, 0x63, 0x55, 0x21, 0x0c, 0x7d]


/-- Substitute a byte through a table. -/
def aesSub (t : List Nat) (x : Byte) : Byte := BitVec.ofNat 8 (t.getD x.toNat 0)

/-- Multiplication by x in the field of AES. -/
def aesX (a : Byte) : Byte := if a.getLsbD 7 then (a <<< 1) ^^^ 0x1B else a <<< 1

/-- Multiplication in the field of AES by a small constant. -/
def aesMul (c : Nat) (a : Byte) : Byte :=
  let a2 := aesX a
  let a4 := aesX a2
  (if c % 2 = 1 then a else 0) ^^^ (if c / 2 % 2 = 1 then a2 else 0) ^^^ (if c / 4 % 2 = 1 then a4 else 0) ^^^
    (if c / 8 % 2 = 1 then aesX a4 else 0)

/-- Rows shifted: byte `i` of the result is byte `f i`. -/
def aesPerm (f : Nat → Nat) (s : Bytes) : Bytes := (List.range 16).map fun i => s.getD (f i) 0

/-- Columns mixed with the circulant of four constants. -/
def aesMix (m : List Nat) (s : Bytes) : Bytes :=
  (List.range 16).map fun i =>
    (List.range 4).foldl (fun a j => a ^^^ aesMul (m.getD ((j + 4 - i % 4) % 4) 0) (s.getD (i / 4 * 4 + j) 0)) 0

/-- The key schedule of AES-256, newest word first: `n` words more, the next one having index `i`. -/
def aesSched : Nat → Nat → List Bytes → List Bytes
  | 0, _, w => w
  | n + 1, i, w =>
    let p := w.getD 0 []
    let t := if i % 8 = 0 then
        xorBytes ((p.drop 1 ++ p.take 1).map (aesSub aesSbox))
          [(List.range (i / 8 - 1)).foldl (fun a _ => aesX a) 1, 0, 0, 0]
      else if i % 8 = 4 then p.map (aesSub aesSbox) else p
    aesSched n (i + 1) (xorBytes (w.getD 7 []) t :: w)

/-- The fifteen round keys of a 32-byte key. -/
def aesKeys (key : Bytes) : List Bytes :=
  let w := (aesSched 52 8 ((List.range 8).map fun i => slice key (4 * i) 4).reverse).reverse
  (List.range 15).map fun r => ((w.drop (4 * r)).take 4).flatten

/-- AES-256 encryption of one 16-byte block with its round keys. -/
def aesEnc (ks : List Bytes) (b : Bytes) : Bytes :=
  let s0 := xorBytes b (ks.getD 0 [])
  let shift := aesPerm fun i => (i + 4 * (i % 4)) % 16
  let s13 := ((ks.drop 1).take 13).foldl (fun s k =>
    xorBytes (aesMix [2, 3, 1, 1] (shift (s.map (aesSub aesSbox)))) k) s0
  xorBytes (shift (s13.map (aesSub aesSbox))) (ks.getD 14 [])

/-- AES-256 decryption of one block. -/
def aesDec (ks : List Bytes) (b : Bytes) : Bytes :=
  let unshift := aesPerm fun i => (i + 16 - 4 * (i % 4)) % 16
  let s0 := (unshift (xorBytes b (ks.getD 14 []))).map (aesSub aesInvSbox)
  let s13 := ((ks.drop 1).take 13).reverse.foldl (fun s k =>
    (unshift (aesMix [14, 11, 13, 9] (xorBytes s k))).map (aesSub aesInvSbox)) s0
  xorBytes s13 (ks.getD 0 [])

/-- The tweak times α in the field of XTS. -/
def xtsNext (t : Bytes) : Bytes :=
  let v := leNat t
  let d := 2 * v % 2 ^ 128
  toLe 16 (if v / 2 ^ 127 = 1 then Nat.xor d 0x87 else d)

/-- `n` blocks of XTS with a block operation and the running tweak. -/
def xtsBlocks (op : Bytes → Bytes) : Nat → Bytes → Bytes → Bytes
  | 0, _, _ => []
  | n + 1, t, b => xorBytes (op (xorBytes (b.take 16) t)) t ++ xtsBlocks op n (xtsNext t) (b.drop 16)

/-- AES-256-XTS encryption of a data unit (a multiple of 16 bytes) with number `unit`; `key` is Key1 then Key2. -/
def xtsEncrypt (key : Bytes) (unit : Nat) (b : Bytes) : Bytes :=
  let k1 := aesKeys (key.take 32)
  xtsBlocks (aesEnc k1) (b.length / 16) (aesEnc (aesKeys (key.drop 32)) (toLe 16 unit)) b

/-- AES-256-XTS decryption. -/
def xtsDecrypt (key : Bytes) (unit : Nat) (b : Bytes) : Bytes :=
  let k1 := aesKeys (key.take 32)
  xtsBlocks (aesDec k1) (b.length / 16) (aesEnc (aesKeys (key.drop 32)) (toLe 16 unit)) b

/-- One pass of the RFC 3394 wrap over the registers; `t` counts from `t0`. -/
def kwPass (ks : List Bytes) : Nat → Bytes → List Bytes → Bytes × List Bytes
  | _, a, [] => (a, [])
  | t, a, r :: rs =>
    let b := aesEnc ks (a ++ r)
    let (a', rs') := kwPass ks (t + 1) (xorBytes (b.take 8) (toBe 8 t)) rs
    (a', b.drop 8 :: rs')

/-- AES-256 key wrap (RFC 3394) of a key of `n` 8-byte registers. -/
def keyWrap (kek key : Bytes) : Bytes :=
  let n := key.length / 8
  let ks := aesKeys kek
  let r0 := (List.range n).map fun i => slice key (8 * i) 8
  let (a, r) := (List.range 6).foldl (fun (x : Bytes × List Bytes) j => kwPass ks (j * n + 1) x.1 x.2)
    (List.replicate 8 0xA6, r0)
  a ++ r.flatten

/-- One pass of the unwrap over the registers in reverse; `t` counts down. -/
def kuPass (ks : List Bytes) : Nat → Bytes → List Bytes → Bytes × List Bytes
  | _, a, [] => (a, [])
  | t, a, r :: rs =>
    let b := aesDec ks (xorBytes a (toBe 8 t) ++ r)
    let (a', rs') := kuPass ks (t - 1) (b.take 8) rs
    (a', b.drop 8 :: rs')

/-- AES-256 key unwrap; none where the integrity value is wrong. -/
def keyUnwrap (kek w : Bytes) : Option Bytes :=
  let n := w.length / 8 - 1
  let ks := aesKeys kek
  let r0 := ((List.range n).map fun i => slice w (8 * (i + 1)) 8).reverse
  let (a, r) := (List.range 6).foldl (fun (x : Bytes × List Bytes) j => kuPass ks ((6 - j) * n) x.1 x.2)
    (w.take 8, r0)
  if a = List.replicate 8 0xA6 then some r.reverse.flatten else none

/-! ECDSA over P-384. Points are affine, none the point at infinity. -/

/-- The field prime of P-384. -/
def p384P : Nat := 2 ^ 384 - 2 ^ 128 - 2 ^ 96 + 2 ^ 32 - 1

/-- The coefficient b of P-384. -/
def p384B : Nat :=
  0xb3312fa7e23ee7e4988e056be3f82d19181d9c6efe8141120314088f5013875ac656398d8a2ed19d2a85c8edd3ec2aef

/-- The order of P-384. -/
def p384N : Nat :=
  0xffffffffffffffffffffffffffffffffffffffffffffffffc7634d81f4372ddf581a0db248b0a77aecec196accc52973

/-- The base point of P-384. -/
def p384G : Nat × Nat :=
  (0xaa87ca22be8b05378eb1c71ef320ad746e1d3b628ba79b9859f741e082542a385502f25dbf55296c3a545e3872760ab7,
   0x3617de4a96262c6f5d9e98bf9292dc29f8f41dbd289a147ce9da3113b5f0b8c00a60b1ce1d7e819d7a431d7c90ea0e5f)

/-- Modular power by `n` squarings. -/
def powModBits (m : Nat) : Nat → Nat → Nat → Nat → Nat
  | 0, _, _, acc => acc
  | n + 1, b, e, acc => powModBits m n (b * b % m) (e / 2) (if e % 2 = 1 then acc * b % m else acc)

/-- The inverse modulo a prime of 384 bits. -/
def invMod (m a : Nat) : Nat := powModBits m 384 (a % m) (m - 2) 1

/-- Point addition on P-384. -/
def p384Add (a b : Option (Nat × Nat)) : Option (Nat × Nat) :=
  match a, b with
  | none, q => q
  | p, none => p
  | some (x1, y1), some (x2, y2) =>
    let p := p384P
    if x1 = x2 then
      if (y1 + y2) % p = 0 then none
      else
        let l := (3 * x1 * x1 + (p - 3)) % p * invMod p (2 * y1) % p
        let x3 := (l * l + 2 * (p - x1)) % p
        some (x3, (l * (x1 + p - x3) + (p - y1)) % p)
    else
      let l := (y2 + p - y1) % p * invMod p (x2 + p - x1) % p
      let x3 := (l * l + (p - x1) + (p - x2)) % p
      some (x3, (l * (x1 + p - x3) + (p - y1)) % p)

/-- Scalar multiplication over `n` bits. -/
def p384MulBits : Nat → Nat → Option (Nat × Nat) → Option (Nat × Nat) → Option (Nat × Nat)
  | 0, _, _, acc => acc
  | n + 1, k, q, acc => p384MulBits n (k / 2) (p384Add q q) (if k % 2 = 1 then p384Add acc q else acc)

/-- Scalar multiplication on P-384. -/
def p384Mul (k : Nat) (q : Nat × Nat) : Option (Nat × Nat) := p384MulBits 384 k (some q) none

/-- A point lies on P-384. -/
def p384On (q : Nat × Nat) : Bool :=
  decide (q.1 < p384P) && decide (q.2 < p384P) &&
    (q.2 * q.2 % p384P == (q.1 * q.1 * q.1 + (p384P - 3) * q.1 + p384B) % p384P)

/-- ECDSA P-384 verification of a SHA-384 digest: public key X then Y, signature r then s, big-endian (R73). -/
def ecdsaVerify (pub digest sig : Bytes) : Bool :=
  let q := (beNat (pub.take 48), beNat (pub.drop 48))
  let r := beNat (sig.take 48)
  let s := beNat (sig.drop 48)
  if p384On q && decide (0 < r) && decide (r < p384N) && decide (0 < s) && decide (s < p384N) then
    let w := invMod p384N s
    match p384Add (p384Mul (beNat digest * w % p384N) p384G) (p384Mul (r * w % p384N) q) with
    | none => false
    | some (x, _) => x % p384N == r
  else false

/-- The public key bytes of a private scalar: X then Y. -/
def p384Pub (d : Nat) : Bytes :=
  match p384Mul d p384G with
  | none => zeros 96
  | some (x, y) => toBe 48 x ++ toBe 48 y

end Sys2Proof.Machine
end

