-- ==== Sys2Proof/Machine/Sparse.lean ====
section
/-!
DEFINITION. Sparse tables from addresses to values in one canonical form: addresses strictly rising and no entry equal
to what an unlisted address reads as. The register file, the SRAM, the DRAM and the identity memories use it.
-/

namespace Sys2Proof.Machine

/-- What address `k` reads as in table `l`, where an unlisted address reads `d k`. -/
def Sparse.get {α : Type} (d : Nat → α) : List (Nat × α) → Nat → α
  | [], k => d k
  | (j, v) :: t, k => if k = j then v else Sparse.get d t k

/-- Insert an entry at its place in address order. -/
def Sparse.ins {α : Type} (k : Nat) (v : α) : List (Nat × α) → List (Nat × α)
  | [] => [(k, v)]
  | (j, w) :: t => if k < j then (k, v) :: (j, w) :: t else (j, w) :: Sparse.ins k v t

/-- Write `v` at address `k`: the entry of `k` goes, and a new one comes where `v` is not what `k` reads as unlisted. -/
def Sparse.put {α : Type} [DecidableEq α] (d : Nat → α) (l : List (Nat × α)) (k : Nat) (v : α) : List (Nat × α) :=
  match l with
  | [] => if v = d k then [] else [(k, v)]
  | e :: t =>
    let l' := (e :: t).filter (fun e => e.1 != k)
    if v = d k then l' else Sparse.ins k v l'

/-- Write a run of values at `k`, `k + 1`, … -/
def Sparse.putRun {α : Type} [DecidableEq α] (d : Nat → α) : List (Nat × α) → Nat → List α → List (Nat × α)
  | l, _, [] => l
  | l, k, v :: vs => Sparse.putRun d (Sparse.put d l k v) (k + 1) vs

/-- Read `n` values from `k`. -/
def Sparse.getRun {α : Type} (d : Nat → α) (l : List (Nat × α)) (k n : Nat) : List α :=
  (List.range n).map (fun i => Sparse.get d l (k + i))

/-- The addresses of a table rise strictly from `lo` on. -/
def Sparse.sorted {α : Type} : Nat → List (Nat × α) → Bool
  | _, [] => true
  | lo, (k, _) :: t => decide (lo ≤ k) && Sparse.sorted (k + 1) t

/-- The canonical form: addresses strictly rising, no entry equal to what an unlisted address reads as. -/
def Sparse.wf {α : Type} [DecidableEq α] (d : Nat → α) (l : List (Nat × α)) : Bool :=
  Sparse.sorted 0 l && l.all (fun e => decide (e.2 ≠ d e.1))

end Sys2Proof.Machine
end

