-- ==== Sys2Proof/Machine/Regs.lean ====
section
/-!
DEFINITION. The register file: every register and field of the spec's register tables (R13 to R15 and the register
detail of each chapter), their access kinds and reset values, and reading and writing a field. A register's address is
its slot of the aperture map (R27, R486) and its offset.
The masks of a row and the field places are read from the register tables of the chapters.
-/

namespace Sys2Proof.Machine

/-- The register file: canonical sparse table from slot × 0x10000 + offset to the word held. -/
abbrev RegFile := List (Nat × Word)

/-- A field of a register: slot, offset, lowest bit, width. -/
structure Fld where
  slot  : Nat
  off   : Nat
  lo    : Nat
  width : Nat
  deriving DecidableEq, Repr

/-- A register's row: slot, offset of instance 0, distance and number of instances; masks of the RW, W1C, W1S and RC
bits; mask and value of the bits with a cold number, mask and value of the bits with a warm number. -/
structure RegRow where
  slot   : Nat
  off    : Nat
  stride : Nat
  count  : Nat
  rw     : Nat
  w1c    : Nat
  w1s    : Nat
  rc     : Nat
  coldMask : Nat
  coldVal  : Nat
  warmMask : Nat
  warmVal  : Nat
  deriving DecidableEq, Repr

/-- The address of a register in the register file. -/
def Reg.key (slot off : Nat) : Nat := slot * 0x10000 + off % 0x10000

/-- The address of a field's register. -/
def Fld.key (f : Fld) : Nat := Reg.key f.slot f.off

/-- What a register that nothing has written holds: the cold numbers of its table (R15), and 0 in every bit that has
none (assumption 3). -/
def Reg.resetWord (k : Nat) : Word :=
  if k < 0x80000 then (if k = 0x00030 then 0x3FC00 else 0)
  else if k < 0xD0000 then (if k = 0x80004 then 0x50 else if k = 0xA0000 then 1 else 0)
  else if k < 0xE0000 then (if k < 0xD0800 ∧ k % 0x20 = 0 then 0x30000 else 0)
  else if k = 0xF000C then 0x65DC0
  else if k = 0x100404 then 0xB0225001
  else if k = 0x120000 then 0x3F
  else if k = 0x120004 then 0x22
  else if k = 0x140000 ∨ k = 0x140100 then 0xF0000
  else 0

/-- The word of a register. -/
def RegFile.word (r : RegFile) (k : Nat) : Word := Sparse.get Reg.resetWord r k

/-- Replace the word of a register. -/
def RegFile.setWord (r : RegFile) (k : Nat) (w : Word) : RegFile := Sparse.put Reg.resetWord r k w

/-- The bits of a field in its word. -/
def Fld.mask (f : Fld) : Word := BitVec.ofNat 32 ((2 ^ f.width - 1) <<< f.lo)

/-- A field's value in a word. -/
def Fld.ofWord (f : Fld) (w : Word) : Nat := (w.toNat >>> f.lo) % 2 ^ f.width

/-- A word with a field replaced; higher bits of the value are dropped. -/
def Fld.inWord (f : Fld) (w : Word) (v : Nat) : Word :=
  (w &&& ~~~ f.mask) ||| BitVec.ofNat 32 ((v % 2 ^ f.width) <<< f.lo)

/-- The value of a field in the register file. -/
def RegFile.get (r : RegFile) (f : Fld) : Nat := f.ofWord (r.word f.key)

/-- Set a field in the register file. -/
def RegFile.set (r : RegFile) (f : Fld) (v : Nat) : RegFile := r.setWord f.key (f.inWord (r.word f.key) v)

/-- Set a one-bit field. -/
def RegFile.setB (r : RegFile) (f : Fld) (b : Bool) : RegFile := r.set f (if b then 1 else 0)

/-- A one-bit field as a truth value. -/
def RegFile.flag (r : RegFile) (f : Fld) : Bool := r.get f != 0

/-- R64: Last phase entered, 0 to 11; 0xF once P11 has ended -/
def Reg.NST.BOOT_STATUS.PHASE : Fld := ⟨1, 0x000, 0, 4⟩
/-- R64: For the code in CODE: the domain number (R50) for 0x01; the actuator, 0 A and 1 B, … -/
def Reg.NST.BOOT_STATUS.UNIT : Fld := ⟨1, 0x000, 4, 4⟩
/-- R64: Code as in R63 -/
def Reg.NST.BOOT_STATUS.CODE : Fld := ⟨1, 0x000, 8, 8⟩
/-- R64: A halting code was reached -/
def Reg.NST.BOOT_STATUS.HALTED : Fld := ⟨1, 0x000, 16, 1⟩
/-- R64: A hold code was reached -/
def Reg.NST.BOOT_STATUS.HELD : Fld := ⟨1, 0x000, 17, 1⟩
/-- R64: A note code was reached -/
def Reg.NST.BOOT_STATUS.NOTED : Fld := ⟨1, 0x000, 18, 1⟩

/-- R64: NST.BOOT_STATUS as it stood at the recognition of the last reset; 0 after a power-on … -/
def Reg.NST.PREV_STATUS.PREV : Fld := ⟨1, 0x004, 0, 32⟩

/-- R64: Cleared on entry to P3 and set at the end of P11 -/
def Reg.NST.START.WARM_VALID : Fld := ⟨1, 0x008, 0, 1⟩
/-- R64: DRAM held in self-refresh across the last reset (R35 step 5) -/
def Reg.NST.START.DRAM_SR_KEPT : Fld := ⟨1, 0x008, 1, 1⟩
/-- R64: The 32.768 kHz oscillator ran through the last reset -/
def Reg.NST.START.OSC_KEPT : Fld := ⟨1, 0x008, 2, 1⟩

/-- R65: Most recent device reset cause; encoding below -/
def Reg.RCU.LAST_CAUSE.CAUSE : Fld := ⟨0, 0x000, 0, 4⟩
/-- R65: This start is warm (R44) -/
def Reg.RCU.LAST_CAUSE.WARM : Fld := ⟨0, 0x000, 4, 1⟩
/-- R65: The hold-up save ran before the reset (R35 step 4) -/
def Reg.RCU.LAST_CAUSE.SAVED : Fld := ⟨0, 0x000, 5, 1⟩

/-- R65: Sampled BOOT_SRC[1:0] (R40) -/
def Reg.RCU.STRAPS.BOOT_SRC : Fld := ⟨0, 0x004, 0, 2⟩
/-- R65: Sampled CLK_MODE[1:0] (R40) -/
def Reg.RCU.STRAPS.CLK_MODE : Fld := ⟨0, 0x004, 2, 2⟩

/-- R65: State of domain n (R50): 0b00 off, 0b01 starting, 0b10 good, 0b11 FAILED -/
def Reg.RCU.CLK_STATUS.DOM (n : Nat) : Fld := ⟨0, 0x010, 2 * n, 2⟩

/-- R65: SYSPLL lost lock after release -/
def Reg.RCU.LOCK_LOSS.SYSPLL : Fld := ⟨0, 0x014, 0, 1⟩
/-- R65: PCIe PLL lost lock after release -/
def Reg.RCU.LOCK_LOSS.PCIEPLL : Fld := ⟨0, 0x014, 1, 1⟩
/-- R65: DDRPLL lost lock after release -/
def Reg.RCU.LOCK_LOSS.DDRPLL : Fld := ⟨0, 0x014, 2, 1⟩
/-- R65: SERPLL A lost lock after release -/
def Reg.RCU.LOCK_LOSS.SERPLLA : Fld := ⟨0, 0x014, 3, 1⟩
/-- R65: SERPLL B lost lock after release -/
def Reg.RCU.LOCK_LOSS.SERPLLB : Fld := ⟨0, 0x014, 4, 1⟩

/-- R65: Bit n requests a block reset of the block in slot n, in manufacturing mode only; it … -/
def Reg.RCU.BLK_RST.RST : Fld := ⟨0, 0x020, 8, 18⟩

/-- R65: Bit n: the last block reset of slot n was forced after the idle timeout -/
def Reg.RCU.BLK_FORCED.FORCED : Fld := ⟨0, 0x024, 8, 18⟩

/-- R65: Idle acknowledge timeout for block resets, from 10 to 10,000 µs; 1,000 µs when the … -/
def Reg.RCU.IDLE_TMO.TMO_US : Fld := ⟨0, 0x028, 0, 16⟩

/-- R92: Result for option image A -/
def Reg.OPL.STATUS.OPT_A : Fld := ⟨2, 0x000, 0, 4⟩
/-- R92: Result for option image B -/
def Reg.OPL.STATUS.OPT_B : Fld := ⟨2, 0x000, 4, 4⟩
/-- R92: 0b00 none, 0b01 A, 0b10 B -/
def Reg.OPL.STATUS.OPT_ACTIVE : Fld := ⟨2, 0x000, 8, 2⟩
/-- R92: The start is in recovery download (R87) -/
def Reg.OPL.STATUS.RECOVERY : Fld := ⟨2, 0x000, 10, 1⟩
/-- R92: Result for firmware image A -/
def Reg.OPL.STATUS.FW_A : Fld := ⟨2, 0x000, 12, 4⟩
/-- R92: Result for firmware image B -/
def Reg.OPL.STATUS.FW_B : Fld := ⟨2, 0x000, 16, 4⟩
/-- R92: 0b00 none, 0b01 A, 0b10 B -/
def Reg.OPL.STATUS.FW_ACTIVE : Fld := ⟨2, 0x000, 20, 2⟩
/-- R92: The patch set was rejected (R86) -/
def Reg.OPL.STATUS.PATCH_REJECTED : Fld := ⟨2, 0x000, 22, 1⟩

/-- R92: SEQ of the accepted option image; 0 if none -/
def Reg.OPL.OPT_SEQ.SEQ : Fld := ⟨2, 0x004, 0, 32⟩

/-- R92: VERSION of the accepted firmware image; 0 if none -/
def Reg.OPL.FW_VERSION.VERSION : Fld := ⟨2, 0x008, 0, 32⟩

/-- R92: For the last copy with result 0xA, the offset that R74 gives for its failure; 0 when … -/
def Reg.OPL.FAIL_OFFSET.OFFSET : Fld := ⟨2, 0x00C, 0, 20⟩

/-- R92: Drive maker fuse counter, 0 to 64 -/
def Reg.OPL.FUSES.OEM_SVN : Fld := ⟨2, 0x010, 0, 7⟩
/-- R92: Holtale fuse counter, 0 to 64 -/
def Reg.OPL.FUSES.HT_SVN : Fld := ⟨2, 0x010, 8, 7⟩
/-- R92: Bit n: drive maker key slot n programmed -/
def Reg.OPL.FUSES.KEY_PROG : Fld := ⟨2, 0x010, 16, 4⟩
/-- R92: Bit n: drive maker key slot n revoked -/
def Reg.OPL.FUSES.KEY_REVOKED : Fld := ⟨2, 0x010, 20, 4⟩
/-- R92: Bit n: Holtale key n revoked -/
def Reg.OPL.FUSES.HT_REVOKED : Fld := ⟨2, 0x010, 24, 2⟩

/-- R127: 0 down, 1 training, 2 up, 3 narrow or x1, 4 retraining, 5 dormant, 6 failed -/
def Reg.ELK.STATUS.STATE (i : Nat) : Fld := ⟨22, 0x000 + 0x100 * i, 0, 3⟩
/-- R127: Uplink lanes with block lock, set in training -/
def Reg.ELK.STATUS.UP_LANES (i : Nat) : Fld := ⟨22, 0x000 + 0x100 * i, 3, 5⟩
/-- R127: Downlink lanes reported locked by the partner chip -/
def Reg.ELK.STATUS.DN_LANES (i : Nat) : Fld := ⟨22, 0x000 + 0x100 * i, 8, 2⟩
/-- R127: Retrains since the start, saturating at 0xFF -/
def Reg.ELK.STATUS.RETRAINS (i : Nat) : Fld := ⟨22, 0x000 + 0x100 * i, 16, 8⟩

/-- R127: 0 down, 1 training, 2 up, 3 narrow or x1, 4 retraining, 5 dormant, 6 failed -/
def Reg.ZLK.STATUS.STATE : Fld := ⟨23, 0x000, 0, 3⟩
/-- R127: Uplink lanes with block lock, set in training -/
def Reg.ZLK.STATUS.UP_LANES : Fld := ⟨23, 0x000, 3, 5⟩
/-- R127: Downlink lanes reported locked by the partner chip -/
def Reg.ZLK.STATUS.DN_LANES : Fld := ⟨23, 0x000, 8, 2⟩
/-- R127: Retrains since the start, saturating at 0xFF -/
def Reg.ZLK.STATUS.RETRAINS : Fld := ⟨23, 0x000, 16, 8⟩

/-- R127: 0 off; 1 to 4 for LB1 to LB4 -/
def Reg.ELK.LB_CTRL.DEPTH (i : Nat) : Fld := ⟨22, 0x004 + 0x100 * i, 0, 3⟩
/-- R127: PRBS31 in place of cells at LB2 and LB3 -/
def Reg.ELK.LB_CTRL.PRBS (i : Nat) : Fld := ⟨22, 0x004 + 0x100 * i, 3, 1⟩
/-- R127: Starts the loopback; cleared when DONE sets -/
def Reg.ELK.LB_CTRL.RUN (i : Nat) : Fld := ⟨22, 0x004 + 0x100 * i, 4, 1⟩
/-- R127: Loopback ended -/
def Reg.ELK.LB_CTRL.DONE (i : Nat) : Fld := ⟨22, 0x004 + 0x100 * i, 5, 1⟩
/-- R127: A compare error occurred -/
def Reg.ELK.LB_CTRL.FAIL (i : Nat) : Fld := ⟨22, 0x004 + 0x100 * i, 6, 1⟩

/-- R127: 0 off; 1 to 4 for LB1 to LB4 -/
def Reg.ZLK.LB_CTRL.DEPTH : Fld := ⟨23, 0x004, 0, 3⟩
/-- R127: PRBS31 in place of cells at LB2 and LB3 -/
def Reg.ZLK.LB_CTRL.PRBS : Fld := ⟨23, 0x004, 3, 1⟩
/-- R127: Starts the loopback; cleared when DONE sets -/
def Reg.ZLK.LB_CTRL.RUN : Fld := ⟨23, 0x004, 4, 1⟩
/-- R127: Loopback ended -/
def Reg.ZLK.LB_CTRL.DONE : Fld := ⟨23, 0x004, 5, 1⟩
/-- R127: A compare error occurred -/
def Reg.ZLK.LB_CTRL.FAIL : Fld := ⟨23, 0x004, 6, 1⟩

/-- R127: Received cells with CRC failure, saturating -/
def Reg.ELK.ERRORS.CRC_ERR (i : Nat) : Fld := ⟨22, 0x008 + 0x100 * i, 0, 16⟩
/-- R127: Resends started by NAK or timer, saturating -/
def Reg.ELK.ERRORS.REPLAYS (i : Nat) : Fld := ⟨22, 0x008 + 0x100 * i, 16, 8⟩
/-- R127: Block errors of R94, saturating -/
def Reg.ELK.ERRORS.BLK_ERR (i : Nat) : Fld := ⟨22, 0x008 + 0x100 * i, 24, 8⟩

/-- R127: Received cells with CRC failure, saturating -/
def Reg.ZLK.ERRORS.CRC_ERR : Fld := ⟨23, 0x008, 0, 16⟩
/-- R127: Resends started by NAK or timer, saturating -/
def Reg.ZLK.ERRORS.REPLAYS : Fld := ⟨23, 0x008, 16, 8⟩
/-- R127: Block errors of R94, saturating -/
def Reg.ZLK.ERRORS.BLK_ERR : Fld := ⟨23, 0x008, 24, 8⟩

/-- R153: 0 stopped, 1 observing, 2 braking, 3 aligning, 4 open loop, 5 closed loop, 6 … -/
def Reg.SPC.STATUS.STATE : Fld := ⟨21, 0x000, 0, 3⟩
/-- R153: At speed as in R137 -/
def Reg.SPC.STATUS.AT_SPEED : Fld := ⟨21, 0x000, 3, 1⟩
/-- R153: The last observation found backward rotation -/
def Reg.SPC.STATUS.BACKWARD : Fld := ⟨21, 0x000, 4, 1⟩
/-- R153: New writes held (R137, R144) -/
def Reg.SPC.STATUS.WRITE_HOLD : Fld := ⟨21, 0x000, 5, 1⟩
/-- R153: J measured in this start -/
def Reg.SPC.STATUS.J_MEASURED : Fld := ⟨21, 0x000, 6, 1⟩
/-- R153: Rotor-loss declarations in this start, saturating at 0xFF -/
def Reg.SPC.STATUS.LOSSES : Fld := ⟨21, 0x000, 8, 8⟩
/-- R153: Late SPIN_DRIVE responses in this start, saturating at 0xFF -/
def Reg.SPC.STATUS.LATE : Fld := ⟨21, 0x000, 16, 8⟩

/-- R153: Measured speed, updated every electrical revolution -/
def Reg.SPC.SPEED.RPM : Fld := ⟨21, 0x004, 0, 16⟩
/-- R153: Current target in rpm (R136) -/
def Reg.SPC.SPEED.TARGET : Fld := ⟨21, 0x004, 16, 16⟩

/-- R153: Last fault detail (R152); 0 if none -/
def Reg.SPC.FAULT.DETAIL : Fld := ⟨21, 0x008, 0, 4⟩
/-- R153: A fault occurred since this bit was last cleared -/
def Reg.SPC.FAULT.VALID : Fld := ⟨21, 0x008, 4, 1⟩

/-- R153: Target at the recognition of the last reset, used in the 95 % test of R45; 0 after a … -/
def Reg.NST.SPIN_KEEP.TARGET_RPM : Fld := ⟨1, 0x00C, 0, 16⟩
/-- R153: Last measured J in g·cm²; 0 after a power-on detected on VDD_NST, in which case J_def … -/
def Reg.NST.SPIN_KEEP.J_GCM2 : Fld := ⟨1, 0x00C, 16, 16⟩

/-- R185: 0 unloaded, 1 loading, 2 seek, 3 settle, 4 track-follow, 5 lock lost, 6 retracted, 7 … -/
def Reg.SLE.ACT_STATUS.STATE (i : Nat) : Fld := ⟨20, 0x000 + 0x100 * i, 0, 3⟩
/-- R185: Active bank: 0 A, 1 B (R164) -/
def Reg.SLE.ACT_STATUS.BANK (i : Nat) : Fld := ⟨20, 0x000 + 0x100 * i, 3, 1⟩
/-- R185: Write permit granted for the last wedge (R177) -/
def Reg.SLE.ACT_STATUS.PERMIT (i : Nat) : Fld := ⟨20, 0x000 + 0x100 * i, 4, 1⟩
/-- R185: Two heads served at once (R168) -/
def Reg.SLE.ACT_STATUS.PAIRED (i : Nat) : Fld := ⟨20, 0x000 + 0x100 * i, 5, 1⟩
/-- R185: Unit 0 supplies position -/
def Reg.SLE.ACT_STATUS.U0_ON (i : Nat) : Fld := ⟨20, 0x000 + 0x100 * i, 6, 1⟩
/-- R185: Unit 1 supplies position -/
def Reg.SLE.ACT_STATUS.U1_ON (i : Nat) : Fld := ⟨20, 0x000 + 0x100 * i, 7, 1⟩
/-- R185: Head index of unit 0 within the actuator, 0 to 11 -/
def Reg.SLE.ACT_STATUS.U0_HEAD (i : Nat) : Fld := ⟨20, 0x000 + 0x100 * i, 8, 4⟩
/-- R185: Head index of unit 1 -/
def Reg.SLE.ACT_STATUS.U1_HEAD (i : Nat) : Fld := ⟨20, 0x000 + 0x100 * i, 12, 4⟩
/-- R185: Unit 0 microactuator loop: 0b00 seek, 0b01 settle, 0b10 track-follow, 0b11 off -/
def Reg.SLE.ACT_STATUS.U0_MODE (i : Nat) : Fld := ⟨20, 0x000 + 0x100 * i, 16, 2⟩
/-- R185: Unit 1 microactuator loop, encoded as U0_MODE -/
def Reg.SLE.ACT_STATUS.U1_MODE (i : Nat) : Fld := ⟨20, 0x000 + 0x100 * i, 18, 2⟩

/-- R185: P̃_h − X̃_h of unit 0 at the last wedge, s16 in 2⁻¹² track, saturating -/
def Reg.SLE.PES.U0_PES (i : Nat) : Fld := ⟨20, 0x004 + 0x100 * i, 0, 16⟩
/-- R185: The same for unit 1 -/
def Reg.SLE.PES.U1_PES (i : Nat) : Fld := ⟨20, 0x004 + 0x100 * i, 16, 16⟩

/-- R185: Missed wedges on active heads (R160), saturating -/
def Reg.SLE.COUNTS.MISSED (i : Nat) : Fld := ⟨20, 0x008 + 0x100 * i, 0, 16⟩
/-- R185: Wedges with permit withheld in track-follow, saturating -/
def Reg.SLE.COUNTS.INHIBITS (i : Nat) : Fld := ⟨20, 0x008 + 0x100 * i, 16, 8⟩
/-- R185: Failed seeks (R174) and state saturations (R162), saturating -/
def Reg.SLE.COUNTS.SEEK_ERR (i : Nat) : Fld := ⟨20, 0x008 + 0x100 * i, 24, 8⟩

/-- R185: b_vc in units of 10⁸ tracks/s², from P9 step 4 or, warm, from DRAM -/
def Reg.SLE.CAL.BVC (i : Nat) : Fld := ⟨20, 0x00C + 0x100 * i, 0, 16⟩
/-- R185: Ĝ_h, s_h and b_vc valid for this actuator -/
def Reg.SLE.CAL.CAL_VALID (i : Nat) : Fld := ⟨20, 0x00C + 0x100 * i, 16, 1⟩
/-- R185: Cross-head map measured at band 8 only (R183) -/
def Reg.SLE.CAL.MAP_PARTIAL (i : Nat) : Fld := ⟨20, 0x00C + 0x100 * i, 17, 1⟩

/-- R185: RRO_BANDS from the option image -/
def Reg.SLE.RRO_STATUS.BANDS : Fld := ⟨20, 0x200, 0, 16⟩
/-- R185: Tables changed since the last write to the calibration tracks (R176) -/
def Reg.SLE.RRO_STATUS.SAVE_PENDING : Fld := ⟨20, 0x200, 16, 1⟩
/-- R185: An entry reached its limit (R176) -/
def Reg.SLE.RRO_STATUS.CLAMPED : Fld := ⟨20, 0x200, 17, 1⟩

/-- R221: 0 idle, 1 waiting for the start condition, 2 reading, 3 writing, 4 rereading, 5 … -/
def Reg.FSQ.STATUS.STATE (i : Nat) : Fld := ⟨16, 0x000 + 0x100 * i, 0, 3⟩
/-- R221: 0 horizontal, 1 two-level (R210) -/
def Reg.FSQ.STATUS.MODE (i : Nat) : Fld := ⟨16, 0x000 + 0x100 * i, 3, 1⟩
/-- R221: A fault of R216 occurred -/
def Reg.FSQ.STATUS.FAULT (i : Nat) : Fld := ⟨16, 0x000 + 0x100 * i, 4, 1⟩
/-- R221: 1 CHK or PAR mismatch, 2 stack overflow, 3 stack underflow, 4 DISP base not aligned -/
def Reg.FSQ.STATUS.FAULT_CODE (i : Nat) : Fld := ⟨16, 0x000 + 0x100 * i, 5, 3⟩
/-- R221: Address of the word last issued -/
def Reg.FSQ.STATUS.PC (i : Nat) : Fld := ⟨16, 0x000 + 0x100 * i, 8, 15⟩

/-- R221: Last sector finished: 0 SM1, 1 SM2, 2 recovered by R203, 3 recovered by R204, 4 not … -/
def Reg.FSQ.SYNC_LAST.RESULT (i : Nat) : Fld := ⟨16, 0x004 + 0x100 * i, 0, 3⟩
/-- R221: Final alignment, s8 -/
def Reg.FSQ.SYNC_LAST.OFFSET (i : Nat) : Fld := ⟨16, 0x004 + 0x100 * i, 8, 8⟩
/-- R221: S of the final alignment, 0 to 64 -/
def Reg.FSQ.SYNC_LAST.SCORE (i : Nat) : Fld := ⟨16, 0x004 + 0x100 * i, 16, 7⟩

/-- R221: Sectors aligned by SM2, saturating -/
def Reg.FSQ.COUNTS.SM2_USED (i : Nat) : Fld := ⟨16, 0x008 + 0x100 * i, 0, 8⟩
/-- R221: Sectors flagged sync missed, saturating -/
def Reg.FSQ.COUNTS.MISSED (i : Nat) : Fld := ⟨16, 0x008 + 0x100 * i, 8, 8⟩
/-- R221: Sectors recovered by R203 or R204, saturating -/
def Reg.FSQ.COUNTS.TRIAL_OK (i : Nat) : Fld := ⟨16, 0x008 + 0x100 * i, 16, 8⟩
/-- R221: Revolutions waited under R199, saturating -/
def Reg.FSQ.COUNTS.MISSED_REV (i : Nat) : Fld := ⟨16, 0x008 + 0x100 * i, 24, 8⟩

/-- R221: PATCH_SET of the loaded firmware image; 0 when none is loaded or the set was rejected … -/
def Reg.FSQ.PATCH_VER.PATCH_SET : Fld := ⟨16, 0x400, 0, 16⟩
/-- R221: Overlay entries loaded, 0 to 256 -/
def Reg.FSQ.PATCH_VER.ENTRIES : Fld := ⟨16, 0x400, 16, 9⟩
/-- R221: Entries for store 0 present -/
def Reg.FSQ.PATCH_VER.HORIZ : Fld := ⟨16, 0x400, 25, 1⟩
/-- R221: Entries for store 1 or 2 present -/
def Reg.FSQ.PATCH_VER.TWO_LEVEL : Fld := ⟨16, 0x400, 26, 1⟩

/-- R221: Identifier of the B0 sequencer and supervisor ROM -/
def Reg.FSQ.ROM_ID.ROM_ID : Fld := ⟨16, 0x404, 0, 32⟩

/-- R254: 0 off, 1 idle, 2 reading, 3 writing -/
def Reg.RWC.STATUS.STATE (i : Nat) : Fld := ⟨17, 0x000 + 0x100 * i, 0, 2⟩
/-- R254: Channel out of service (R243) -/
def Reg.RWC.STATUS.OUT (i : Nat) : Fld := ⟨17, 0x000 + 0x100 * i, 2, 1⟩
/-- R254: Loops frozen at this bit (R226) -/
def Reg.RWC.STATUS.FROZEN (i : Nat) : Fld := ⟨17, 0x000 + 0x100 * i, 3, 1⟩
/-- R254: Timing in tracking gains (R224) -/
def Reg.RWC.STATUS.T_LOCK (i : Nat) : Fld := ⟨17, 0x000 + 0x100 * i, 4, 1⟩
/-- R254: Mean of ε² over the last sector, in 2⁻⁸ ADC steps², saturating -/
def Reg.RWC.STATUS.MSE (i : Nat) : Fld := ⟨17, 0x000 + 0x100 * i, 16, 16⟩

/-- R254: G at the last slot end, format of R225 -/
def Reg.RWC.LOOPS.GAIN (i : Nat) : Fld := ⟨17, 0x004 + 0x100 * i, 0, 8⟩
/-- R254: o, format of R225 -/
def Reg.RWC.LOOPS.OFFSET (i : Nat) : Fld := ⟨17, 0x004 + 0x100 * i, 8, 8⟩
/-- R254: α, format of R225 -/
def Reg.RWC.LOOPS.ASYM (i : Nat) : Fld := ⟨17, 0x004 + 0x100 * i, 16, 8⟩
/-- R254: ν in units of 2⁻¹³, s8 -/
def Reg.RWC.LOOPS.FREQ (i : Nat) : Fld := ⟨17, 0x004 + 0x100 * i, 24, 8⟩

/-- R254: Sectors read, in units of 4,096, saturating -/
def Reg.RWC.COUNTS.SECTORS (i : Nat) : Fld := ⟨17, 0x008 + 0x100 * i, 0, 16⟩
/-- R254: Loss-of-signal spans (R226), saturating -/
def Reg.RWC.COUNTS.LOS (i : Nat) : Fld := ⟨17, 0x008 + 0x100 * i, 16, 8⟩
/-- R254: Write runs stopped (R252), saturating -/
def Reg.RWC.COUNTS.STOPPED (i : Nat) : Fld := ⟨17, 0x008 + 0x100 * i, 24, 8⟩

/-- R255: Bit n: DEn in the pool. Engines keep their numbers after a removal, and IN_SERVICE is … -/
def Reg.LDP.ENGINES.IN_SERVICE : Fld := ⟨18, 0x000, 0, 6⟩
/-- R255: Bit n: DEn decoding -/
def Reg.LDP.ENGINES.BUSY : Fld := ⟨18, 0x000, 8, 6⟩
/-- R255: Bit n: DEn removed under R237 -/
def Reg.LDP.ENGINES.REMOVED : Fld := ⟨18, 0x000, 16, 6⟩
/-- R255: Last removal: 1 parity, 2 reference decode, 3 output buffer -/
def Reg.LDP.ENGINES.CAUSE : Fld := ⟨18, 0x000, 24, 3⟩

/-- R255: Engines one channel holds at once (R234), set by the supervisor -/
def Reg.LDP.QUOTA.CH_MAX : Fld := ⟨18, 0x004, 0, 3⟩
/-- R255: Engines held by retry work (R234) -/
def Reg.LDP.QUOTA.RETRY_MAX : Fld := ⟨18, 0x004, 4, 3⟩
/-- R255: Current first-decode limit (R235) -/
def Reg.LDP.QUOTA.OTF_LIMIT : Fld := ⟨18, 0x004, 8, 3⟩
/-- R255: RETRY_ITER (R81) -/
def Reg.LDP.QUOTA.RETRY_ITER : Fld := ⟨18, 0x004, 11, 5⟩

/-- R255: Occupied entries of CH0, 0 to 24 -/
def Reg.LDP.STORE.CH0_HELD : Fld := ⟨18, 0x008, 0, 5⟩
/-- R255: As CH0_HELD for CH1 -/
def Reg.LDP.STORE.CH1_HELD : Fld := ⟨18, 0x008, 5, 5⟩
/-- R255: As CH0_HELD for CH2 -/
def Reg.LDP.STORE.CH2_HELD : Fld := ⟨18, 0x008, 10, 5⟩
/-- R255: As CH0_HELD for CH3 -/
def Reg.LDP.STORE.CH3_HELD : Fld := ⟨18, 0x008, 15, 5⟩
/-- R255: The limit of R235 is in force -/
def Reg.LDP.STORE.CAPPED : Fld := ⟨18, 0x008, 20, 1⟩

/-- R255: Failed first decodes, saturating -/
def Reg.LDP.COUNTS.OTF_FAIL : Fld := ⟨18, 0x00C, 0, 16⟩
/-- R255: Zero syndrome with a failing CRC (R233), saturating -/
def Reg.LDP.COUNTS.MISCORR : Fld := ⟨18, 0x00C, 16, 8⟩
/-- R255: Entries released at 2 ms (R239), saturating -/
def Reg.LDP.COUNTS.EXPIRED : Fld := ⟨18, 0x00C, 24, 8⟩

/-- R256: Head stack A: 0 laser, 1 spin-torque (R89) -/
def Reg.EAC.STATUS.TYPE_A : Fld := ⟨19, 0x000, 0, 1⟩
/-- R256: Head stack B, encoded as TYPE_A -/
def Reg.EAC.STATUS.TYPE_B : Fld := ⟨19, 0x000, 1, 1⟩
/-- R256: A calibration of R250 is running -/
def Reg.EAC.STATUS.CAL_BUSY : Fld := ⟨19, 0x000, 2, 1⟩
/-- R256: Event 0x03 received since this bit was last cleared -/
def Reg.EAC.STATUS.FAULT : Fld := ⟨19, 0x000, 3, 1⟩
/-- R256: Head of the last event 0x03 -/
def Reg.EAC.STATUS.FAULT_HEAD : Fld := ⟨19, 0x000, 8, 5⟩
/-- R256: Head of the last completed calibration -/
def Reg.EAC.STATUS.CAL_HEAD : Fld := ⟨19, 0x000, 16, 5⟩

/-- R256: Current of R248 at the last run start, in 10 µA units -/
def Reg.EAC.HEAD.WRITE_CUR (i : Nat) : Fld := ⟨19, 0x100 + 0x4 * i, 0, 13⟩
/-- R256: Standby current of R247, in 10 µA units -/
def Reg.EAC.HEAD.STANDBY_CUR (i : Nat) : Fld := ⟨19, 0x100 + 0x4 * i, 16, 13⟩
/-- R256: The current was clamped to MIN or MAX -/
def Reg.EAC.HEAD.AT_LIMIT (i : Nat) : Fld := ⟨19, 0x100 + 0x4 * i, 29, 1⟩
/-- R256: Recalibration called for under R249 -/
def Reg.EAC.HEAD.RECAL_DUE (i : Nat) : Fld := ⟨19, 0x100 + 0x4 * i, 30, 1⟩

/-- R294: A rebuild is queued or running -/
def Reg.STE.STATUS.REBUILDING : Fld := ⟨14, 0x000, 0, 1⟩
/-- R294: The raised share is in force (R282) -/
def Reg.STE.STATUS.RAISED : Fld := ⟨14, 0x000, 1, 1⟩
/-- R294: A reshape is queued or running -/
def Reg.STE.STATUS.RESHAPING : Fld := ⟨14, 0x000, 2, 1⟩
/-- R294: A relocation is queued or running -/
def Reg.STE.STATUS.RELOCATING : Fld := ⟨14, 0x000, 3, 1⟩
/-- R294: A zone holding data has a lost member not rebuilt -/
def Reg.STE.STATUS.DEGRADED : Fld := ⟨14, 0x000, 4, 1⟩
/-- R294: The lost-row list is not empty -/
def Reg.STE.STATUS.LOST_ROWS : Fld := ⟨14, 0x000, 5, 1⟩
/-- R294: The lost-row list is full (R286) -/
def Reg.STE.STATUS.LIST_FULL : Fld := ⟨14, 0x000, 6, 1⟩
/-- R294: A journal band move is running (R272) -/
def Reg.STE.STATUS.JBAND_MOVING : Fld := ⟨14, 0x000, 7, 1⟩
/-- R294: s_min of R261, taken over every zone when no zone holds data -/
def Reg.STE.STATUS.SPARE_MIN : Fld := ⟨14, 0x000, 8, 5⟩
/-- R294: Number of retired heads -/
def Reg.STE.STATUS.RETIRED : Fld := ⟨14, 0x000, 16, 5⟩

/-- R294: Bit n: surface Sn retired -/
def Reg.STE.RETIRED_MAP.SURF : Fld := ⟨14, 0x004, 0, 24⟩

/-- R294: Zones with a move queued or running, saturating at 0xFF_FFFF -/
def Reg.STE.MOVE.ZONES_LEFT : Fld := ⟨14, 0x008, 0, 24⟩
/-- R294: Current rebuild share in % -/
def Reg.STE.MOVE.SHARE : Fld := ⟨14, 0x008, 24, 7⟩
/-- R294: The running move is in place (R291) -/
def Reg.STE.MOVE.IN_PLACE : Fld := ⟨14, 0x008, 31, 1⟩

/-- R294: Live journal blocks (R270) -/
def Reg.STE.JOURNAL.LIVE : Fld := ⟨14, 0x00C, 0, 14⟩
/-- R294: Band copy A in use -/
def Reg.STE.JOURNAL.BAND_A_OK : Fld := ⟨14, 0x00C, 14, 1⟩
/-- R294: Band copy B in use -/
def Reg.STE.JOURNAL.BAND_B_OK : Fld := ⟨14, 0x00C, 15, 1⟩
/-- R294: Surface of band copy A; set from the journal after a move -/
def Reg.STE.JOURNAL.SURF_A : Fld := ⟨14, 0x00C, 16, 5⟩
/-- R294: Surface of band copy B; set from the journal after a move -/
def Reg.STE.JOURNAL.SURF_B : Fld := ⟨14, 0x00C, 21, 5⟩
/-- R294: Copy replayed in P10: 0 Chest, 1 band A, 2 band B -/
def Reg.STE.JOURNAL.REPLAY_SRC : Fld := ⟨14, 0x00C, 26, 2⟩
/-- R294: STATE of the Chest header (R273) -/
def Reg.STE.JOURNAL.CHEST_STATE : Fld := ⟨14, 0x00C, 28, 3⟩

/-- R294: Slots assigned and not yet launched -/
def Reg.STE.SIDEBOARD.FILLING : Fld := ⟨14, 0x010, 0, 6⟩
/-- R294: Slots launched and not yet released -/
def Reg.STE.SIDEBOARD.IN_FLIGHT : Fld := ⟨14, 0x010, 8, 6⟩
/-- R294: Launches held under R266 -/
def Reg.STE.SIDEBOARD.STALLED : Fld := ⟨14, 0x010, 16, 1⟩

/-- R294: Degraded reads served, saturating -/
def Reg.STE.COUNTS.DEGRADED : Fld := ⟨14, 0x014, 0, 16⟩
/-- R294: Relocations completed, saturating -/
def Reg.STE.COUNTS.RELOCS : Fld := ⟨14, 0x014, 16, 8⟩
/-- R294: Reconstruction checks failed after reread (R259), saturating -/
def Reg.STE.COUNTS.CHECK_FAIL : Fld := ⟨14, 0x014, 24, 4⟩
/-- R294: Rows lost (R286), saturating -/
def Reg.STE.COUNTS.ROWS_LOST : Fld := ⟨14, 0x014, 28, 4⟩

/-- R294: DATA_WIDTH -/
def Reg.STE.LAYOUT.D : Fld := ⟨14, 0x018, 0, 5⟩
/-- R294: SPARE -/
def Reg.STE.LAYOUT.SPARE : Fld := ⟨14, 0x018, 5, 2⟩
/-- R294: The built-in rotation is in use (R260) -/
def Reg.STE.LAYOUT.BUILTIN : Fld := ⟨14, 0x018, 7, 1⟩
/-- R294: N_R -/
def Reg.STE.LAYOUT.ROWS : Fld := ⟨14, 0x018, 8, 7⟩
/-- R294: Spare bands per zone at format (R261) -/
def Reg.STE.LAYOUT.U : Fld := ⟨14, 0x018, 16, 4⟩

/-- R314: An uncorrectable error since this bit was last cleared -/
def Reg.MEC.STATUS.UE : Fld := ⟨12, 0x000, 0, 1⟩
/-- R314: Memory of the last uncorrectable error: 0 SRAM, 1 DRAM -/
def Reg.MEC.STATUS.UE_MEM : Fld := ⟨12, 0x000, 1, 1⟩
/-- R314: SRAM pass running -/
def Reg.MEC.STATUS.SCRUB_SRAM : Fld := ⟨12, 0x000, 2, 1⟩
/-- R314: DRAM pass running -/
def Reg.MEC.STATUS.SCRUB_DRAM : Fld := ⟨12, 0x000, 3, 1⟩
/-- R314: A bucket reached DEPTH (R305) -/
def Reg.MEC.STATUS.BUCKET_OVF : Fld := ⟨12, 0x000, 4, 1⟩
/-- R314: As in R308 -/
def Reg.MEC.STATUS.SPARE_LOW : Fld := ⟨12, 0x000, 5, 1⟩
/-- R314: Page spare pool empty -/
def Reg.MEC.STATUS.POOL_EMPTY : Fld := ⟨12, 0x000, 6, 1⟩

/-- R314: SRAM byte address, or DRAM granule index (R300), of the last uncorrectable error -/
def Reg.MEC.UE_ADDR.ADDR : Fld := ⟨12, 0x004, 0, 32⟩

/-- R314: Arms the flip mask; cleared when it is applied (R312) -/
def Reg.MEC.FLIP_CTRL.ARM : Fld := ⟨12, 0x008, 0, 1⟩
/-- R314: 0 SRAM, 1 DRAM -/
def Reg.MEC.FLIP_CTRL.MEM : Fld := ⟨12, 0x008, 1, 1⟩
/-- R314: Apply only to a write covering FLIP_ADDR -/
def Reg.MEC.FLIP_CTRL.MATCH : Fld := ⟨12, 0x008, 2, 1⟩
/-- R314: The mask was applied -/
def Reg.MEC.FLIP_CTRL.DONE : Fld := ⟨12, 0x008, 3, 1⟩
/-- R314: XOR pattern for a 13-bit SRAM codeword -/
def Reg.MEC.FLIP_CTRL.SRAM_MASK : Fld := ⟨12, 0x008, 8, 13⟩

/-- R314: First DRAM symbol, 0 to 35 -/
def Reg.MEC.FLIP_SYM.SYM0 : Fld := ⟨12, 0x00C, 0, 6⟩
/-- R314: Pattern for SYM0; 0 unused -/
def Reg.MEC.FLIP_SYM.PAT0 : Fld := ⟨12, 0x00C, 8, 8⟩
/-- R314: Second DRAM symbol, 0 to 35 -/
def Reg.MEC.FLIP_SYM.SYM1 : Fld := ⟨12, 0x00C, 16, 6⟩
/-- R314: Pattern for SYM1; 0 unused -/
def Reg.MEC.FLIP_SYM.PAT1 : Fld := ⟨12, 0x00C, 24, 8⟩

/-- R314: SRAM byte address, or DRAM granule index, for MATCH -/
def Reg.MEC.FLIP_ADDR.ADDR : Fld := ⟨12, 0x010, 0, 32⟩

/-- R314: Starts a triggered SRAM pass; reads 1 while it runs -/
def Reg.MEC.SCRUB_CTRL.START_SRAM : Fld := ⟨12, 0x014, 0, 1⟩
/-- R314: Starts a triggered DRAM pass; reads 1 while it runs -/
def Reg.MEC.SCRUB_CTRL.START_DRAM : Fld := ⟨12, 0x014, 1, 1⟩
/-- R314: Memory pass interval in hours (R81) -/
def Reg.MEC.SCRUB_CTRL.INTERVAL_H : Fld := ⟨12, 0x014, 8, 8⟩

/-- R314: Corrections in the last pass, saturating -/
def Reg.MEC.SCRUB_SUM_SRAM.CORR : Fld := ⟨12, 0x018, 0, 16⟩
/-- R314: Uncorrectable errors in the last pass, saturating -/
def Reg.MEC.SCRUB_SUM_SRAM.UE : Fld := ⟨12, 0x018, 16, 8⟩
/-- R314: The last pass reached its end -/
def Reg.MEC.SCRUB_SUM_SRAM.COMPLETE : Fld := ⟨12, 0x018, 24, 1⟩
/-- R314: The last pass was triggered -/
def Reg.MEC.SCRUB_SUM_SRAM.TRIGGERED : Fld := ⟨12, 0x018, 25, 1⟩

/-- R314: Corrections in the last pass, saturating -/
def Reg.MEC.SCRUB_SUM_DRAM.CORR : Fld := ⟨12, 0x01C, 0, 16⟩
/-- R314: Uncorrectable errors in the last pass, saturating -/
def Reg.MEC.SCRUB_SUM_DRAM.UE : Fld := ⟨12, 0x01C, 16, 8⟩
/-- R314: The last pass reached its end -/
def Reg.MEC.SCRUB_SUM_DRAM.COMPLETE : Fld := ⟨12, 0x01C, 24, 1⟩
/-- R314: The last pass was triggered -/
def Reg.MEC.SCRUB_SUM_DRAM.TRIGGERED : Fld := ⟨12, 0x01C, 25, 1⟩

/-- R314: Current level, 0 to DEPTH -/
def Reg.MEC.BUCKET_SRAM.LEVEL : Fld := ⟨12, 0x020, 0, 13⟩
/-- R314: Overflows, saturating -/
def Reg.MEC.BUCKET_SRAM.OVERFLOWS : Fld := ⟨12, 0x020, 16, 8⟩

/-- R314: Current level, 0 to DEPTH -/
def Reg.MEC.BUCKET_DRAM.LEVEL : Fld := ⟨12, 0x024, 0, 13⟩
/-- R314: Overflows, saturating -/
def Reg.MEC.BUCKET_DRAM.OVERFLOWS : Fld := ⟨12, 0x024, 16, 8⟩

/-- R314: Occupied entries, 0 to 32 -/
def Reg.MEC.TRACK.USED : Fld := ⟨12, 0x028, 0, 6⟩
/-- R314: Write-backs done or cancelled by a client write, saturating -/
def Reg.MEC.TRACK.WRITEBACKS : Fld := ⟨12, 0x028, 8, 8⟩
/-- R314: Hard faults (R307), saturating -/
def Reg.MEC.TRACK.HARD : Fld := ⟨12, 0x028, 16, 8⟩
/-- R314: Entries replaced, saturating -/
def Reg.MEC.TRACK.REPLACED : Fld := ⟨12, 0x028, 24, 8⟩

/-- R314: Fewest usable spare rows left in any bank, 0 to 16 -/
def Reg.MEC.SPARE.SRAM_MIN : Fld := ⟨12, 0x02C, 0, 5⟩
/-- R314: Page spare pool pages free, 0 to 1,024 -/
def Reg.MEC.SPARE.POOL_LEFT : Fld := ⟨12, 0x02C, 16, 11⟩

/-- R314: DRAM pages retired -/
def Reg.MEC.RETIRED.DRAM_PAGES : Fld := ⟨12, 0x030, 0, 11⟩
/-- R314: SRAM rows mapped to spares, from P4 and in service -/
def Reg.MEC.RETIRED.SRAM_ROWS : Fld := ⟨12, 0x030, 16, 11⟩

/-- R315: Fitted capacity in GiB, read in P6 -/
def Reg.BFM.DRAM_CFG.CAPACITY : Fld := ⟨11, 0x000, 0, 4⟩
/-- R315: 0 3200, 1 4267, 2 5500, 3 6400 MT/s (R77) -/
def Reg.BFM.DRAM_CFG.RATE : Fld := ⟨11, 0x000, 4, 2⟩
/-- R315: Device density per channel in Gbit, read from the mode registers in P6 (R513) -/
def Reg.BFM.DRAM_CFG.DENSITY : Fld := ⟨11, 0x000, 8, 5⟩
/-- R315: Usable capacity in MiB (R300) -/
def Reg.BFM.DRAM_CFG.USABLE : Fld := ⟨11, 0x000, 16, 13⟩

/-- R315: Bit n: channel n trained, or its values restored, in P6 -/
def Reg.BFM.DRAM_TRAIN.TRAINED : Fld := ⟨11, 0x004, 0, 4⟩
/-- R315: P6 restored the trained values from the Nightstand (R45) -/
def Reg.BFM.DRAM_TRAIN.RESTORED : Fld := ⟨11, 0x004, 4, 1⟩

/-- R315: Dirty data in the protected part, in MiB rounded up -/
def Reg.BFM.CACHE.PROT_DIRTY : Fld := ⟨11, 0x008, 0, 10⟩
/-- R315: Dirty data in the unprotected part, in MiB rounded up -/
def Reg.BFM.CACHE.UNPROT_DIRTY : Fld := ⟨11, 0x008, 10, 12⟩
/-- R315: A writer waits for admission to the protected part (R304) -/
def Reg.BFM.CACHE.PROT_WAIT : Fld := ⟨11, 0x008, 22, 1⟩
/-- R315: A writer waits for admission to the unprotected part (R304) -/
def Reg.BFM.CACHE.UNPROT_WAIT : Fld := ⟨11, 0x008, 23, 1⟩

/-- R315: Current protected dirty limit L of R304, in MiB rounded down -/
def Reg.BFM.PROT_LIMIT.LIMIT : Fld := ⟨11, 0x00C, 0, 10⟩

/-- R315: Window staging lines dirty, 0 to 4,096 (R299) -/
def Reg.BFM.WINDOW.DIRTY : Fld := ⟨11, 0x010, 0, 13⟩
/-- R315: Window staging lines valid, 0 to 4,096 -/
def Reg.BFM.WINDOW.VALID : Fld := ⟨11, 0x010, 16, 13⟩

/-- R315: NAND device 0: 0 ready, 1 busy, 2 failed -/
def Reg.BFM.CHEST.DEV0 : Fld := ⟨11, 0x014, 0, 2⟩
/-- R315: NAND device 1, encoded as DEV0 -/
def Reg.BFM.CHEST.DEV1 : Fld := ⟨11, 0x014, 2, 2⟩
/-- R315: STATE of the Chest header (R273) -/
def Reg.BFM.CHEST.STATE : Fld := ⟨11, 0x014, 4, 3⟩
/-- R315: Hold-up save in progress (R274) -/
def Reg.BFM.CHEST.SAVING : Fld := ⟨11, 0x014, 7, 1⟩
/-- R315: Restore of R275 in progress -/
def Reg.BFM.CHEST.RESTORING : Fld := ⟨11, 0x014, 8, 1⟩
/-- R315: Bad blocks mapped on device 0, saturating at 0xFF -/
def Reg.BFM.CHEST.BAD0 : Fld := ⟨11, 0x014, 16, 8⟩
/-- R315: Bad blocks mapped on device 1, saturating at 0xFF -/
def Reg.BFM.CHEST.BAD1 : Fld := ⟨11, 0x014, 24, 8⟩

/-- R330: Ring start in the descriptor region, in 32-byte units -/
def Reg.DMA.RING_CFG.BASE (i : Nat) : Fld := ⟨13, 0x000 + 0x20 * i, 0, 13⟩
/-- R330: log₂ of descriptors, 3 to 8 -/
def Reg.DMA.RING_CFG.SIZE (i : Nat) : Fld := ⟨13, 0x000 + 0x20 * i, 16, 4⟩
/-- R330: Channel enabled -/
def Reg.DMA.RING_CFG.EN (i : Nat) : Fld := ⟨13, 0x000 + 0x20 * i, 20, 1⟩
/-- R330: Re-examine OWN at HEAD (R319) -/
def Reg.DMA.RING_CFG.KICK (i : Nat) : Fld := ⟨13, 0x000 + 0x20 * i, 21, 1⟩
/-- R330: Abort (R320); reads 1 until done -/
def Reg.DMA.RING_CFG.ABORT (i : Nat) : Fld := ⟨13, 0x000 + 0x20 * i, 22, 1⟩
/-- R330: Rate limit (R324); the supervisor loads the default of R324 before it first enables … -/
def Reg.DMA.RING_CFG.RATE (i : Nat) : Fld := ⟨13, 0x000 + 0x20 * i, 24, 8⟩

/-- R330: Next descriptor index -/
def Reg.DMA.RING_STATUS.HEAD (i : Nat) : Fld := ⟨13, 0x004 + 0x20 * i, 0, 8⟩
/-- R330: A descriptor is in progress -/
def Reg.DMA.RING_STATUS.BUSY (i : Nat) : Fld := ⟨13, 0x004 + 0x20 * i, 8, 1⟩
/-- R330: Stopped on STATUS 0x01 or 0x03 -/
def Reg.DMA.RING_STATUS.HALTED (i : Nat) : Fld := ⟨13, 0x004 + 0x20 * i, 9, 1⟩
/-- R330: STATUS of the last descriptor ended -/
def Reg.DMA.RING_STATUS.LAST_STATUS (i : Nat) : Fld := ⟨13, 0x004 + 0x20 * i, 16, 8⟩

/-- R330: Active set running -/
def Reg.DMA.STR_STATUS.ACTIVE (i : Nat) : Fld := ⟨13, 0x800 + 0x40 * i, 0, 1⟩
/-- R330: Shadow set loaded (R322) -/
def Reg.DMA.STR_STATUS.SHADOW_VALID (i : Nat) : Fld := ⟨13, 0x800 + 0x40 * i, 1, 1⟩
/-- R330: Halted (R328) -/
def Reg.DMA.STR_STATUS.HALTED (i : Nat) : Fld := ⟨13, 0x800 + 0x40 * i, 2, 1⟩
/-- R330: Shadow load ignored (R322) -/
def Reg.DMA.STR_STATUS.SHADOW_ERR (i : Nat) : Fld := ⟨13, 0x800 + 0x40 * i, 3, 1⟩
/-- R330: Rows done in the active set, 0 to 1,024 -/
def Reg.DMA.STR_STATUS.ROWS_DONE (i : Nat) : Fld := ⟨13, 0x800 + 0x40 * i, 16, 11⟩

/-- R330: 0–63 ring, 64–71 streaming 0–7, of the last halt -/
def Reg.DMA.HALT_INFO.CHANNEL : Fld := ⟨13, 0xC00, 0, 7⟩
/-- R330: 0 SRAM, 1 DRAM -/
def Reg.DMA.HALT_INFO.SRC_SP : Fld := ⟨13, 0xC00, 7, 1⟩
/-- R330: Bytes moved by the halted transfer, saturating -/
def Reg.DMA.HALT_INFO.BYTES : Fld := ⟨13, 0xC00, 8, 24⟩

/-- R330: SRAM byte address, or DRAM granule index, of the failing unit -/
def Reg.DMA.HALT_ADDR.ADDR : Fld := ⟨13, 0xC04, 0, 32⟩

/-- R330: Bit k: a pulse dropped on EVk (LO) or EV(32 + k) (HI) (R327) -/
def Reg.DMA.EV_OVF_LO.OVF : Fld := ⟨13, 0xC08, 0, 32⟩

/-- R330: Bit k: a pulse dropped on EVk (LO) or EV(32 + k) (HI) (R327) -/
def Reg.DMA.EV_OVF_HI.OVF : Fld := ⟨13, 0xC0C, 0, 32⟩

/-- R356: Cache enabled; reads 1 until a flush ends (R353) -/
def Reg.ZMU.CTRL.ENABLE : Fld := ⟨10, 0x000, 0, 1⟩
/-- R356: Flush in progress -/
def Reg.ZMU.CTRL.FLUSHING : Fld := ⟨10, 0x000, 1, 1⟩
/-- R356: Write back every dirty line; reads 1 until done (R354) -/
def Reg.ZMU.CTRL.CLEAN : Fld := ⟨10, 0x000, 2, 1⟩

/-- R356: Valid lines, 0 to 48 -/
def Reg.ZMU.CACHE_STATUS.VALID : Fld := ⟨10, 0x004, 0, 6⟩
/-- R356: Dirty lines -/
def Reg.ZMU.CACHE_STATUS.DIRTY : Fld := ⟨10, 0x004, 8, 6⟩
/-- R356: Locked lines, 0 to 32 -/
def Reg.ZMU.CACHE_STATUS.LOCKED : Fld := ⟨10, 0x004, 16, 6⟩
/-- R356: Miss registers in use, 0 to 8 -/
def Reg.ZMU.CACHE_STATUS.MISS_BUSY : Fld := ⟨10, 0x004, 24, 4⟩

/-- R356: Usable address ÷ 256, within the map and tables region -/
def Reg.ZMU.PRELOAD.LINE : Fld := ⟨10, 0x008, 0, 21⟩
/-- R356: Lock the line after the fill -/
def Reg.ZMU.PRELOAD.LOCK : Fld := ⟨10, 0x008, 29, 1⟩
/-- R356: Start; reads 1 until the fill ends -/
def Reg.ZMU.PRELOAD.GO : Fld := ⟨10, 0x008, 30, 1⟩
/-- R356: The last lock was refused (R352) -/
def Reg.ZMU.PRELOAD.REJECTED : Fld := ⟨10, 0x008, 31, 1⟩

/-- R356: Line to unlock -/
def Reg.ZMU.UNLOCK.INDEX : Fld := ⟨10, 0x00C, 0, 6⟩
/-- R356: Unlock every line -/
def Reg.ZMU.UNLOCK.ALL : Fld := ⟨10, 0x00C, 6, 1⟩
/-- R356: Carry out the unlock -/
def Reg.ZMU.UNLOCK.GO : Fld := ⟨10, 0x00C, 7, 1⟩

/-- R356: Hits, saturating -/
def Reg.ZMU.HITS.HITS : Fld := ⟨10, 0x010, 0, 32⟩

/-- R356: Primary misses, saturating -/
def Reg.ZMU.MISSES.PRIMARY : Fld := ⟨10, 0x014, 0, 16⟩
/-- R356: Secondary misses merged (R350), saturating -/
def Reg.ZMU.MISSES.MERGED : Fld := ⟨10, 0x014, 16, 8⟩
/-- R356: Misses that waited for a write-back (R351), saturating -/
def Reg.ZMU.MISSES.EVICT_WAIT : Fld := ⟨10, 0x014, 24, 8⟩

/-- R356: Index extents in units of 256 -/
def Reg.ZMU.MCACHE.EXTENTS : Fld := ⟨10, 0x018, 0, 16⟩
/-- R356: Media cache ring in use, % -/
def Reg.ZMU.MCACHE.FILL : Fld := ⟨10, 0x018, 16, 7⟩
/-- R356: Cleaning running (R342) -/
def Reg.ZMU.MCACHE.CLEANING : Fld := ⟨10, 0x018, 23, 1⟩
/-- R356: Free pool zones, saturating at 0xFF -/
def Reg.ZMU.MCACHE.FREE : Fld := ⟨10, 0x018, 24, 8⟩

/-- R356: Z (R331) -/
def Reg.ZMU.LAYOUT.ZONES : Fld := ⟨10, 0x01C, 0, 16⟩
/-- R356: M (R332) -/
def Reg.ZMU.LAYOUT.POOL : Fld := ⟨10, 0x01C, 16, 16⟩

/-- R356: C -/
def Reg.ZMU.NAMESPACES.CONV : Fld := ⟨10, 0x020, 0, 16⟩
/-- R356: N_Z -/
def Reg.ZMU.NAMESPACES.ZONED : Fld := ⟨10, 0x020, 16, 16⟩

/-- R389: Bits [31:0] of the next FSN (R358) -/
def Reg.CQU.FETCH.FSN : Fld := ⟨9, 0x000, 0, 32⟩

/-- R389: Admin commands in the command store (R359) -/
def Reg.CQU.INFLIGHT.ADMIN : Fld := ⟨9, 0x004, 0, 13⟩
/-- R389: I/O commands in the command store, 0 to 4,064 -/
def Reg.CQU.INFLIGHT.IO : Fld := ⟨9, 0x004, 13, 13⟩
/-- R389: Fetching stopped under R359 -/
def Reg.CQU.INFLIGHT.FETCH_STOPPED : Fld := ⟨9, 0x004, 26, 1⟩

/-- R389: Entries in use, 0 to 16,384 (R364) -/
def Reg.CQU.HATRACK.ENTRIES : Fld := ⟨9, 0x008, 0, 15⟩
/-- R389: Readers waiting at their snapshot, saturating at 0xFF -/
def Reg.CQU.HATRACK.READERS_WAITING : Fld := ⟨9, 0x008, 16, 8⟩
/-- R389: Writers waiting at their commit, saturating at 0xFF -/
def Reg.CQU.HATRACK.WRITERS_WAITING : Fld := ⟨9, 0x008, 24, 8⟩

/-- R389: Outcomes committed, saturating -/
def Reg.CQU.ARBITER.COMMITTED : Fld := ⟨9, 0x00C, 0, 16⟩
/-- R389: Aborts resolved as aborted, saturating -/
def Reg.CQU.ARBITER.ABORTED : Fld := ⟨9, 0x00C, 16, 8⟩
/-- R389: Aborts resolved as not aborted, saturating -/
def Reg.CQU.ARBITER.NOT_ABORTED : Fld := ⟨9, 0x00C, 24, 8⟩

/-- R389: Writers waiting for admission to the protected part (R370), saturating at 0xFFF -/
def Reg.CQU.CACHE_WAIT.PROT : Fld := ⟨9, 0x010, 0, 12⟩
/-- R389: Writers waiting for admission to the unprotected part, saturating at 0xFFF -/
def Reg.CQU.CACHE_WAIT.UNPROT : Fld := ⟨9, 0x010, 16, 12⟩

/-- R389: Runs queued in class 1 of R378, saturating at 31 -/
def Reg.MSC.QUEUE_A.CLASS1 : Fld := ⟨15, 0x000, 0, 5⟩
/-- R389: Runs queued in class 2, saturating at 31 -/
def Reg.MSC.QUEUE_A.CLASS2 : Fld := ⟨15, 0x000, 5, 5⟩
/-- R389: Runs queued in class 3, saturating at 31 -/
def Reg.MSC.QUEUE_A.CLASS3 : Fld := ⟨15, 0x000, 10, 5⟩
/-- R389: Runs queued in class 4, saturating at 31 -/
def Reg.MSC.QUEUE_A.CLASS4 : Fld := ⟨15, 0x000, 15, 5⟩
/-- R389: Runs queued in class 5, saturating at 31 -/
def Reg.MSC.QUEUE_A.CLASS5 : Fld := ⟨15, 0x000, 20, 5⟩
/-- R389: Runs queued in class 6, saturating at 31 -/
def Reg.MSC.QUEUE_A.CLASS6 : Fld := ⟨15, 0x000, 25, 5⟩

/-- R389: Runs queued in class 1 of R378, saturating at 31 -/
def Reg.MSC.QUEUE_B.CLASS1 : Fld := ⟨15, 0x004, 0, 5⟩
/-- R389: Runs queued in class 2, saturating at 31 -/
def Reg.MSC.QUEUE_B.CLASS2 : Fld := ⟨15, 0x004, 5, 5⟩
/-- R389: Runs queued in class 3, saturating at 31 -/
def Reg.MSC.QUEUE_B.CLASS3 : Fld := ⟨15, 0x004, 10, 5⟩
/-- R389: Runs queued in class 4, saturating at 31 -/
def Reg.MSC.QUEUE_B.CLASS4 : Fld := ⟨15, 0x004, 15, 5⟩
/-- R389: Runs queued in class 5, saturating at 31 -/
def Reg.MSC.QUEUE_B.CLASS5 : Fld := ⟨15, 0x004, 20, 5⟩
/-- R389: Runs queued in class 6, saturating at 31 -/
def Reg.MSC.QUEUE_B.CLASS6 : Fld := ⟨15, 0x004, 25, 5⟩

/-- R389: Host reads dispatched in class 3, saturating -/
def Reg.MSC.AGED.READS : Fld := ⟨15, 0x008, 0, 16⟩
/-- R389: Segment writes dispatched in class 4, saturating -/
def Reg.MSC.AGED.WRITES : Fld := ⟨15, 0x008, 16, 16⟩

/-- R389: Decoder limit of R236 in force, in Mbit/s, after R433 and R444 -/
def Reg.MSC.LIMIT.LIMIT : Fld := ⟨15, 0x00C, 0, 16⟩
/-- R389: Engines in service, E of R236 -/
def Reg.MSC.LIMIT.ENGINES : Fld := ⟨15, 0x00C, 16, 3⟩

/-- R413: 0 link down; 1 to 5 for 2.5, 5, 8, 16 and 32 GT/s -/
def Reg.HPT.LINK.SPEED : Fld := ⟨8, 0x000, 0, 3⟩
/-- R413: Negotiated width: 1, 2 or 4 -/
def Reg.HPT.LINK.WIDTH : Fld := ⟨8, 0x000, 3, 3⟩
/-- R413: 0 D0, 3 D3hot -/
def Reg.HPT.LINK.DSTATE : Fld := ⟨8, 0x000, 6, 2⟩
/-- R413: 0 L0, 1 L1, 2 L1.1, 3 L1.2, 4 L2/L3 Ready -/
def Reg.HPT.LINK.PM_LINK : Fld := ⟨8, 0x000, 8, 3⟩
/-- R413: Separate reference clock (R393) -/
def Reg.HPT.LINK.SEP_REF : Fld := ⟨8, 0x000, 11, 1⟩
/-- R413: SRIS in use -/
def Reg.HPT.LINK.SRIS : Fld := ⟨8, 0x000, 12, 1⟩
/-- R413: Block reset in progress (R402) -/
def Reg.HPT.LINK.IN_RESET : Fld := ⟨8, 0x000, 13, 1⟩
/-- R413: Media keys present (R406) -/
def Reg.HPT.LINK.KEYS_LOADED : Fld := ⟨8, 0x000, 14, 1⟩

/-- R413: 0 off; 1 to 4 for LB1 to LB4 -/
def Reg.HPT.LB_CTRL.DEPTH : Fld := ⟨8, 0x004, 0, 3⟩
/-- R413: PRBS31 in place of TLPs at LB2 -/
def Reg.HPT.LB_CTRL.PRBS : Fld := ⟨8, 0x004, 3, 1⟩
/-- R413: LB2 and LB3 rate, encoded as SPEED -/
def Reg.HPT.LB_CTRL.RATE : Fld := ⟨8, 0x004, 4, 3⟩
/-- R413: Starts the loopback; reads 1 until DONE sets -/
def Reg.HPT.LB_CTRL.RUN : Fld := ⟨8, 0x004, 7, 1⟩
/-- R413: Loopback ended -/
def Reg.HPT.LB_CTRL.DONE : Fld := ⟨8, 0x004, 8, 1⟩
/-- R413: A compare error occurred -/
def Reg.HPT.LB_CTRL.FAIL : Fld := ⟨8, 0x004, 9, 1⟩

/-- R413: Receiver Errors, Bad TLPs and Bad DLLPs, saturating -/
def Reg.HPT.ERRORS.RX_ERR : Fld := ⟨8, 0x008, 0, 16⟩
/-- R413: Replays and replay rollovers, saturating -/
def Reg.HPT.ERRORS.REPLAYS : Fld := ⟨8, 0x008, 16, 8⟩
/-- R413: Unsupported Requests and Completer Aborts sent or received, saturating -/
def Reg.HPT.ERRORS.UR_CA : Fld := ⟨8, 0x008, 24, 8⟩

/-- R413: PERST_N assertions, saturating -/
def Reg.HPT.RESETS.PERST : Fld := ⟨8, 0x00C, 0, 8⟩
/-- R413: Hot Resets, saturating -/
def Reg.HPT.RESETS.HOT : Fld := ⟨8, 0x00C, 8, 8⟩
/-- R413: Other link-down events, saturating -/
def Reg.HPT.RESETS.DOWN : Fld := ⟨8, 0x00C, 16, 8⟩
/-- R413: Function Level Resets, saturating -/
def Reg.HPT.RESETS.FLR : Fld := ⟨8, 0x00C, 24, 8⟩

/-- R413: Key pair of the conventional namespace loaded -/
def Reg.HPT.XTS.CONV_KEYS : Fld := ⟨8, 0x010, 0, 1⟩
/-- R413: Key pair of the zoned namespace loaded -/
def Reg.HPT.XTS.ZONED_KEYS : Fld := ⟨8, 0x010, 1, 1⟩
/-- R413: Metadata key pair loaded -/
def Reg.HPT.XTS.META_KEYS : Fld := ⟨8, 0x010, 2, 1⟩
/-- R413: 4 KiB blocks encrypted, in units of 2²⁰, saturating -/
def Reg.HPT.XTS.ENC : Fld := ⟨8, 0x010, 8, 12⟩
/-- R413: 4 KiB blocks decrypted, in units of 2²⁰, saturating -/
def Reg.HPT.XTS.DEC : Fld := ⟨8, 0x010, 20, 12⟩

/-- R413: Objects received, saturating -/
def Reg.HPT.DOE.RX : Fld := ⟨8, 0x014, 0, 8⟩
/-- R413: Responses sent, saturating -/
def Reg.HPT.DOE.TX : Fld := ⟨8, 0x014, 8, 8⟩
/-- R413: Aborts, saturating -/
def Reg.HPT.DOE.ABORTS : Fld := ⟨8, 0x014, 16, 8⟩
/-- R413: Requests discarded with DOE Error (R403), saturating -/
def Reg.HPT.DOE.ERRORS : Fld := ⟨8, 0x014, 24, 8⟩

/-- R428: Active SCAN commands, 0 to 2 (R425) -/
def Reg.NDC.STATUS.ACTIVE : Fld := ⟨24, 0x000, 0, 2⟩
/-- R428: The scan engine is processing blocks -/
def Reg.NDC.STATUS.BUSY : Fld := ⟨24, 0x000, 2, 1⟩
/-- R428: SCAN commands waiting in the command store, saturating at 0xFFF -/
def Reg.NDC.STATUS.WAITING : Fld := ⟨24, 0x000, 8, 12⟩

/-- R428: Blocks processed, in units of 2²⁰, saturating -/
def Reg.NDC.BLOCKS.BLOCKS : Fld := ⟨24, 0x004, 0, 32⟩

/-- R428: Descriptors rejected under R423, saturating -/
def Reg.NDC.ERRORS.DESC_REJ : Fld := ⟨24, 0x008, 0, 8⟩
/-- R428: Commands ended with INVALID, saturating -/
def Reg.NDC.ERRORS.INVALID : Fld := ⟨24, 0x008, 8, 8⟩
/-- R428: Lost blocks skipped under SKIP_LOST, saturating -/
def Reg.NDC.ERRORS.LOST : Fld := ⟨24, 0x008, 16, 16⟩

/-- R428: Active PEER_OUT commands, 0 to 4 -/
def Reg.PTX.STATUS.OUT : Fld := ⟨25, 0x000, 0, 3⟩
/-- R428: Active PEER_IN commands, 0 to 4 -/
def Reg.PTX.STATUS.IN : Fld := ⟨25, 0x000, 3, 3⟩
/-- R428: Pieces in flight, 0 to 16 (R424) -/
def Reg.PTX.STATUS.PIECES : Fld := ⟨25, 0x000, 6, 5⟩
/-- R428: Peer tags outstanding, 0 to 768 -/
def Reg.PTX.STATUS.TAGS : Fld := ⟨25, 0x000, 12, 10⟩

/-- R428: Bytes sent, in units of 2³⁰, saturating -/
def Reg.PTX.BYTES.SENT : Fld := ⟨25, 0x004, 0, 16⟩
/-- R428: Bytes received, in units of 2³⁰, saturating -/
def Reg.PTX.BYTES.RECEIVED : Fld := ⟨25, 0x004, 16, 16⟩

/-- R428: Peer requests that met a PCIe error, saturating -/
def Reg.PTX.ERRORS.PCIE_ERR : Fld := ⟨25, 0x008, 0, 16⟩
/-- R428: Addresses refused under R416, saturating -/
def Reg.PTX.ERRORS.REFUSED : Fld := ⟨25, 0x008, 16, 16⟩

/-- R445: Host-selected power state -/
def Reg.RCU.PWR.HOST_PS : Fld := ⟨0, 0x030, 0, 3⟩
/-- R445: State whose consumption and limits are in force (R439) -/
def Reg.RCU.PWR.EFFECTIVE : Fld := ⟨0, 0x030, 3, 3⟩
/-- R445: An entry or exit is running -/
def Reg.RCU.PWR.TRANSITION : Fld := ⟨0, 0x030, 6, 1⟩
/-- R445: APST enabled (R440) -/
def Reg.RCU.PWR.APSTE : Fld := ⟨0, 0x030, 7, 1⟩
/-- R445: Thermal level (R444) -/
def Reg.RCU.PWR.THERM_LEVEL : Fld := ⟨0, 0x030, 8, 2⟩
/-- R445: Speed demand in force (R434) -/
def Reg.RCU.PWR.DEMAND : Fld := ⟨0, 0x030, 10, 8⟩

/-- R445: T_j in °C (R443) -/
def Reg.RCU.THERMAL.TJ : Fld := ⟨0, 0x034, 0, 8⟩
/-- R445: Highest T_j in this start -/
def Reg.RCU.THERMAL.TJ_MAX : Fld := ⟨0, 0x034, 8, 8⟩
/-- R445: Entries to level 1 or above, saturating -/
def Reg.RCU.THERMAL.ENTRIES : Fld := ⟨0, 0x034, 16, 8⟩
/-- R445: Level 3 entered since this bit was last cleared -/
def Reg.RCU.THERMAL.CRIT_SEEN : Fld := ⟨0, 0x034, 24, 1⟩

/-- R445: Domain n (R50): 0b00 running, 0b01 clock-gated, 0b10 power-gated, 0b11 self-refresh … -/
def Reg.RCU.DOM_POWER.DOM (n : Nat) : Fld := ⟨0, 0x038, 2 * n, 2⟩

/-- R470: Last phase at which index 8 was updated: 5, 7 or 11 -/
def Reg.BUR.STATUS.STAGE : Fld := ⟨3, 0x000, 0, 4⟩
/-- R470: Bit i − 1: measurement index i present (R452) -/
def Reg.BUR.STATUS.BLOCKS : Fld := ⟨3, 0x000, 4, 8⟩
/-- R470: A valid certificate chain was read from the Chest (R449) -/
def Reg.BUR.STATUS.CHAIN_PRESENT : Fld := ⟨3, 0x000, 12, 1⟩
/-- R470: As in R451 -/
def Reg.BUR.STATUS.COUNTER_RESET : Fld := ⟨3, 0x000, 13, 1⟩
/-- R470: DK derived (R448) -/
def Reg.BUR.STATUS.DK_READY : Fld := ⟨3, 0x000, 14, 1⟩
/-- R470: A signature is being computed -/
def Reg.BUR.STATUS.SIGN_BUSY : Fld := ⟨3, 0x000, 15, 1⟩
/-- R470: The last chain commit failed its checks -/
def Reg.BUR.STATUS.CHAIN_ERR : Fld := ⟨3, 0x000, 16, 1⟩

/-- R470: Boot counter bits [31:0] (LO) or [63:32] (HI), set in P5 (R450) -/
def Reg.BUR.COUNT_LO.COUNT : Fld := ⟨3, 0x004, 0, 32⟩

/-- R470: Boot counter bits [31:0] (LO) or [63:32] (HI), set in P5 (R450) -/
def Reg.BUR.COUNT_HI.COUNT : Fld := ⟨3, 0x008, 0, 32⟩

/-- R470: Bytes in the chain buffer, at most 4,096 -/
def Reg.BUR.CTRL.CHAIN_LEN : Fld := ⟨3, 0x00C, 0, 12⟩
/-- R470: Check the chain buffer and write it to both Chest copies (R449); reads 1 until done -/
def Reg.BUR.CTRL.COMMIT : Fld := ⟨3, 0x00C, 12, 1⟩

/-- R491: As in R474 -/
def Reg.CRD.STATUS.LOST : Fld := ⟨4, 0x000, 0, 1⟩
/-- R491: A counter or bin is saturated -/
def Reg.CRD.STATUS.SAT_ANY : Fld := ⟨4, 0x000, 1, 1⟩
/-- R491: A slot write is running -/
def Reg.CRD.STATUS.PERSIST_BUSY : Fld := ⟨4, 0x000, 2, 1⟩
/-- R491: Slot last written -/
def Reg.CRD.STATUS.SLOT : Fld := ⟨4, 0x000, 3, 1⟩
/-- R491: CRD.SEL names an existing counter or bin -/
def Reg.CRD.STATUS.SEL_VALID : Fld := ⟨4, 0x000, 4, 1⟩
/-- R491: The selected value is saturated -/
def Reg.CRD.STATUS.SEL_SAT : Fld := ⟨4, 0x000, 5, 1⟩
/-- R491: Saturated counters and bins, saturating -/
def Reg.CRD.STATUS.SATURATED : Fld := ⟨4, 0x000, 16, 16⟩

/-- R491: Clears values, flags and LOST, records ICAL_MFG, and keeps the remap and retirement … -/
def Reg.CRD.CTRL.CLEAR : Fld := ⟨4, 0x004, 0, 1⟩
/-- R491: Writes the working copy (R474); reads 1 until done -/
def Reg.CRD.CTRL.PERSIST : Fld := ⟨4, 0x004, 1, 1⟩

/-- R491: Counter ID or HID -/
def Reg.CRD.SEL.ID : Fld := ⟨4, 0x008, 0, 16⟩
/-- R491: Instance -/
def Reg.CRD.SEL.INSTANCE : Fld := ⟨4, 0x008, 16, 8⟩
/-- R491: Selects a histogram bin -/
def Reg.CRD.SEL.HIST : Fld := ⟨4, 0x008, 24, 1⟩
/-- R491: Bin, 0 to 96 -/
def Reg.CRD.SEL.BIN : Fld := ⟨4, 0x008, 25, 7⟩

/-- R491: Selected value, bits [31:0] or [63:32]; HI reads 0 for a bin -/
def Reg.CRD.VAL_LO.VALUE : Fld := ⟨4, 0x00C, 0, 32⟩

/-- R491: Selected value, bits [31:0] or [63:32]; HI reads 0 for a bin -/
def Reg.CRD.VAL_HI.VALUE : Fld := ⟨4, 0x010, 0, 32⟩

/-- R492: Manufacturing mode -/
def Reg.TST.MODE.MFG : Fld := ⟨6, 0x000, 0, 1⟩
/-- R492: I/O held for DRAM loopback (R487) -/
def Reg.TST.MODE.HOLD : Fld := ⟨6, 0x000, 1, 1⟩
/-- R492: Option image accepted under R483 -/
def Reg.TST.MODE.UNSIGNED : Fld := ⟨6, 0x000, 2, 1⟩

/-- R492: 0 LPDDR5, 1 NOR, 2 NAND 0, 3 NAND 1, 4 identity bus -/
def Reg.TST.LB.IF : Fld := ⟨6, 0x004, 0, 4⟩
/-- R492: 1 to 4 for LB1 to LB4 -/
def Reg.TST.LB.DEPTH : Fld := ⟨6, 0x004, 4, 3⟩
/-- R492: Starts; reads 1 until DONE -/
def Reg.TST.LB.RUN : Fld := ⟨6, 0x004, 7, 1⟩
/-- R492: Ended -/
def Reg.TST.LB.DONE : Fld := ⟨6, 0x004, 8, 1⟩
/-- R492: Criterion of R488 not met -/
def Reg.TST.LB.FAIL : Fld := ⟨6, 0x004, 9, 1⟩
/-- R492: Precondition of R487 not met -/
def Reg.TST.LB.REFUSED : Fld := ⟨6, 0x004, 10, 1⟩

/-- R492: Mismatches or bit errors in the last TST loopback, saturating -/
def Reg.TST.LB_ERR.ERRORS : Fld := ⟨6, 0x008, 0, 32⟩

/-- R492: 1 burn DS, 2 program key slot, 3 revoke key slot, 4 revoke Holtale key -/
def Reg.TST.FUSE.OP : Fld := ⟨6, 0x00C, 0, 3⟩
/-- R492: Slot or key number -/
def Reg.TST.FUSE.INDEX : Fld := ⟨6, 0x00C, 3, 2⟩
/-- R492: Starts; reads 1 until DONE -/
def Reg.TST.FUSE.GO : Fld := ⟨6, 0x00C, 5, 1⟩
/-- R492: Operation ended -/
def Reg.TST.FUSE.DONE : Fld := ⟨6, 0x00C, 6, 1⟩
/-- R492: Item already programmed, or burn failed -/
def Reg.TST.FUSE.ERR : Fld := ⟨6, 0x00C, 7, 1⟩

/-- R492: Accesses to blocks in reset or power-gated (R486), saturating -/
def Reg.TST.APERTURE.DROPPED : Fld := ⟨6, 0x010, 0, 16⟩
/-- R492: Accesses refused as Unsupported Requests, saturating -/
def Reg.TST.APERTURE.UR : Fld := ⟨6, 0x010, 16, 16⟩

/-- The register rows of NST: access masks (R14) and reset values (R15), from its register tables. -/
def Reg.rowsNST : List RegRow := [
  ⟨1, 0x000, 0x0, 1, 0x0, 0x0, 0x0, 0x0, 0x0, 0x0, 0x0, 0x0⟩,
  ⟨1, 0x004, 0x0, 1, 0x0, 0x0, 0x0, 0x0, 0x0, 0x0, 0x0, 0x0⟩,
  ⟨1, 0x008, 0x0, 1, 0x0, 0x0, 0x0, 0x0, 0x1, 0x0, 0x1, 0x0⟩,
  ⟨1, 0x00C, 0x0, 1, 0x0, 0x0, 0x0, 0x0, 0x0, 0x0, 0x0, 0x0⟩]

/-- The register rows of RCU: access masks (R14) and reset values (R15), from its register tables. -/
def Reg.rowsRCU : List RegRow := [
  ⟨0, 0x000, 0x0, 1, 0x0, 0x0, 0x0, 0x0, 0x10, 0x0, 0x10, 0x10⟩,
  ⟨0, 0x004, 0x0, 1, 0x0, 0x0, 0x0, 0x0, 0x0, 0x0, 0x0, 0x0⟩,
  ⟨0, 0x010, 0x0, 1, 0x0, 0x0, 0x0, 0x0, 0x0, 0x0, 0x0, 0x0⟩,
  ⟨0, 0x014, 0x0, 1, 0x0, 0x1F, 0x0, 0x0, 0x1F, 0x0, 0x1F, 0x0⟩,
  ⟨0, 0x020, 0x0, 1, 0x0, 0x0, 0x3FFFF00, 0x0, 0x3FFFF00, 0x0, 0x3FFFF00, 0x0⟩,
  ⟨0, 0x024, 0x0, 1, 0x0, 0x3FFFF00, 0x0, 0x0, 0x3FFFF00, 0x0, 0x3FFFF00, 0x0⟩,
  ⟨0, 0x028, 0x0, 1, 0xFFFF, 0x0, 0x0, 0x0, 0x0, 0x0, 0x0, 0x0⟩,
  ⟨0, 0x030, 0x0, 1, 0x0, 0x0, 0x0, 0x0, 0x3FF7F, 0x3FC00, 0x3FF7F, 0x3FC00⟩,
  ⟨0, 0x034, 0x0, 1, 0x0, 0x1000000, 0x0, 0xFF0000, 0x1FFFF00, 0x0, 0x1FFFF00, 0x0⟩,
  ⟨0, 0x038, 0x0, 1, 0x0, 0x0, 0x0, 0x0, 0xFFFFF, 0x0, 0xFFFFF, 0x0⟩]

/-- The register rows of OPL: access masks (R14) and reset values (R15), from its register tables. -/
def Reg.rowsOPL : List RegRow := [
  ⟨2, 0x000, 0x0, 1, 0x0, 0x0, 0x0, 0x0, 0x0, 0x0, 0x0, 0x0⟩,
  ⟨2, 0x004, 0x0, 1, 0x0, 0x0, 0x0, 0x0, 0x0, 0x0, 0x0, 0x0⟩,
  ⟨2, 0x008, 0x0, 1, 0x0, 0x0, 0x0, 0x0, 0x0, 0x0, 0x0, 0x0⟩,
  ⟨2, 0x00C, 0x0, 1, 0x0, 0x0, 0x0, 0x0, 0x0, 0x0, 0x0, 0x0⟩,
  ⟨2, 0x010, 0x0, 1, 0x0, 0x0, 0x0, 0x0, 0x0, 0x0, 0x0, 0x0⟩]

/-- The register rows of ELK: access masks (R14) and reset values (R15), from its register tables. -/
def Reg.rowsELK : List RegRow := [
  ⟨22, 0x000, 0x100, 2, 0x0, 0x0, 0x0, 0x0, 0xFF0007, 0x0, 0xFF0007, 0x0⟩,
  ⟨22, 0x004, 0x100, 2, 0x1F, 0x0, 0x0, 0x0, 0x7F, 0x0, 0x7F, 0x0⟩,
  ⟨22, 0x008, 0x100, 2, 0x0, 0x0, 0x0, 0xFFFFFFFF, 0xFFFFFFFF, 0x0, 0xFFFFFFFF, 0x0⟩]

/-- The register rows of ZLK: access masks (R14) and reset values (R15), from its register tables. -/
def Reg.rowsZLK : List RegRow := [
  ⟨23, 0x000, 0x0, 1, 0x0, 0x0, 0x0, 0x0, 0xFF0007, 0x0, 0xFF0007, 0x0⟩,
  ⟨23, 0x004, 0x0, 1, 0x1F, 0x0, 0x0, 0x0, 0x7F, 0x0, 0x7F, 0x0⟩,
  ⟨23, 0x008, 0x0, 1, 0x0, 0x0, 0x0, 0xFFFFFFFF, 0xFFFFFFFF, 0x0, 0xFFFFFFFF, 0x0⟩]

/-- The register rows of SPC: access masks (R14) and reset values (R15), from its register tables. -/
def Reg.rowsSPC : List RegRow := [
  ⟨21, 0x000, 0x0, 1, 0x0, 0x0, 0x0, 0x0, 0xFFFF7F, 0x0, 0xFFFF7F, 0x0⟩,
  ⟨21, 0x004, 0x0, 1, 0x0, 0x0, 0x0, 0x0, 0xFFFFFFFF, 0x0, 0xFFFFFFFF, 0x0⟩,
  ⟨21, 0x008, 0x0, 1, 0x0, 0x10, 0x0, 0x0, 0x1F, 0x0, 0x1F, 0x0⟩]

/-- The register rows of SLE: access masks (R14) and reset values (R15), from its register tables. -/
def Reg.rowsSLE : List RegRow := [
  ⟨20, 0x000, 0x100, 2, 0x0, 0x0, 0x0, 0x0, 0xFFFFF, 0xF0000, 0xFFFFF, 0xF0000⟩,
  ⟨20, 0x004, 0x100, 2, 0x0, 0x0, 0x0, 0x0, 0xFFFFFFFF, 0x0, 0xFFFFFFFF, 0x0⟩,
  ⟨20, 0x008, 0x100, 2, 0x0, 0x0, 0x0, 0xFFFFFFFF, 0xFFFFFFFF, 0x0, 0xFFFFFFFF, 0x0⟩,
  ⟨20, 0x00C, 0x100, 2, 0x0, 0x0, 0x0, 0x0, 0x0, 0x0, 0x0, 0x0⟩,
  ⟨20, 0x200, 0x0, 1, 0x0, 0x20000, 0x0, 0x0, 0x30000, 0x0, 0x30000, 0x0⟩]

/-- The register rows of FSQ: access masks (R14) and reset values (R15), from its register tables. -/
def Reg.rowsFSQ : List RegRow := [
  ⟨16, 0x000, 0x100, 4, 0x0, 0x10, 0x0, 0x0, 0x7FFFF7, 0x0, 0x7FFFF7, 0x0⟩,
  ⟨16, 0x004, 0x100, 4, 0x0, 0x0, 0x0, 0x0, 0x7FFF07, 0x0, 0x7FFF07, 0x0⟩,
  ⟨16, 0x008, 0x100, 4, 0x0, 0x0, 0x0, 0xFFFFFFFF, 0xFFFFFFFF, 0x0, 0xFFFFFFFF, 0x0⟩,
  ⟨16, 0x400, 0x0, 1, 0x0, 0x0, 0x0, 0x0, 0x0, 0x0, 0x0, 0x0⟩,
  ⟨16, 0x404, 0x0, 1, 0x0, 0x0, 0x0, 0x0, 0xFFFFFFFF, 0xB0225001, 0xFFFFFFFF, 0xB0225001⟩]

/-- The register rows of RWC: access masks (R14) and reset values (R15), from its register tables. -/
def Reg.rowsRWC : List RegRow := [
  ⟨17, 0x000, 0x100, 4, 0x0, 0x0, 0x0, 0x0, 0xFFFF001F, 0x0, 0xFFFF001F, 0x0⟩,
  ⟨17, 0x004, 0x100, 4, 0x0, 0x0, 0x0, 0x0, 0xFFFFFFFF, 0x0, 0xFFFFFFFF, 0x0⟩,
  ⟨17, 0x008, 0x100, 4, 0x0, 0x0, 0x0, 0xFFFFFFFF, 0xFFFFFFFF, 0x0, 0xFFFFFFFF, 0x0⟩]

/-- The register rows of LDP: access masks (R14) and reset values (R15), from its register tables. -/
def Reg.rowsLDP : List RegRow := [
  ⟨18, 0x000, 0x0, 1, 0x0, 0x0, 0x0, 0x0, 0x73F3F3F, 0x3F, 0x73F3F3F, 0x3F⟩,
  ⟨18, 0x004, 0x0, 1, 0x0, 0x0, 0x0, 0x0, 0x77, 0x22, 0x77, 0x22⟩,
  ⟨18, 0x008, 0x0, 1, 0x0, 0x0, 0x0, 0x0, 0x1FFFFF, 0x0, 0x1FFFFF, 0x0⟩,
  ⟨18, 0x00C, 0x0, 1, 0x0, 0x0, 0x0, 0xFFFFFFFF, 0xFFFFFFFF, 0x0, 0xFFFFFFFF, 0x0⟩]

/-- The register rows of EAC: access masks (R14) and reset values (R15), from its register tables. -/
def Reg.rowsEAC : List RegRow := [
  ⟨19, 0x000, 0x0, 1, 0x0, 0x8, 0x0, 0x0, 0x1F1F0C, 0x0, 0x1F1F0C, 0x0⟩,
  ⟨19, 0x100, 0x4, 24, 0x0, 0x0, 0x0, 0x0, 0x60000000, 0x0, 0x60000000, 0x0⟩]

/-- The register rows of STE: access masks (R14) and reset values (R15), from its register tables. -/
def Reg.rowsSTE : List RegRow := [
  ⟨14, 0x000, 0x0, 1, 0x0, 0x0, 0x0, 0x0, 0x8F, 0x0, 0x8F, 0x0⟩,
  ⟨14, 0x004, 0x0, 1, 0x0, 0x0, 0x0, 0x0, 0x0, 0x0, 0x0, 0x0⟩,
  ⟨14, 0x008, 0x0, 1, 0x0, 0x0, 0x0, 0x0, 0x80000000, 0x0, 0x80000000, 0x0⟩,
  ⟨14, 0x00C, 0x0, 1, 0x0, 0x0, 0x0, 0x0, 0x3FFF, 0x0, 0x3FFF, 0x0⟩,
  ⟨14, 0x010, 0x0, 1, 0x0, 0x0, 0x0, 0x0, 0x13F3F, 0x0, 0x13F3F, 0x0⟩,
  ⟨14, 0x014, 0x0, 1, 0x0, 0x0, 0x0, 0xFFFFFFFF, 0xFFFFFFFF, 0x0, 0xFFFFFFFF, 0x0⟩,
  ⟨14, 0x018, 0x0, 1, 0x0, 0x0, 0x0, 0x0, 0x0, 0x0, 0x0, 0x0⟩]

/-- The register rows of MEC: access masks (R14) and reset values (R15), from its register tables. -/
def Reg.rowsMEC : List RegRow := [
  ⟨12, 0x000, 0x0, 1, 0x0, 0x11, 0x0, 0x0, 0x1F, 0x0, 0x1F, 0x0⟩,
  ⟨12, 0x004, 0x0, 1, 0x0, 0x0, 0x0, 0x0, 0xFFFFFFFF, 0x0, 0xFFFFFFFF, 0x0⟩,
  ⟨12, 0x008, 0x0, 1, 0x1FFF07, 0x8, 0x0, 0x0, 0x1FFF0F, 0x0, 0x1FFF0F, 0x0⟩,
  ⟨12, 0x00C, 0x0, 1, 0xFF3FFF3F, 0x0, 0x0, 0x0, 0xFF3FFF3F, 0x0, 0xFF3FFF3F, 0x0⟩,
  ⟨12, 0x010, 0x0, 1, 0xFFFFFFFF, 0x0, 0x0, 0x0, 0xFFFFFFFF, 0x0, 0xFFFFFFFF, 0x0⟩,
  ⟨12, 0x014, 0x0, 1, 0x0, 0x0, 0x3, 0x0, 0x3, 0x0, 0x3, 0x0⟩,
  ⟨12, 0x018, 0x0, 1, 0x0, 0x0, 0x0, 0x0, 0x3FFFFFF, 0x0, 0x3FFFFFF, 0x0⟩,
  ⟨12, 0x01C, 0x0, 1, 0x0, 0x0, 0x0, 0x0, 0x3FFFFFF, 0x0, 0x3FFFFFF, 0x0⟩,
  ⟨12, 0x020, 0x0, 1, 0x0, 0x0, 0x0, 0xFF0000, 0xFF1FFF, 0x0, 0xFF1FFF, 0x0⟩,
  ⟨12, 0x024, 0x0, 1, 0x0, 0x0, 0x0, 0xFF0000, 0xFF1FFF, 0x0, 0xFF1FFF, 0x0⟩,
  ⟨12, 0x028, 0x0, 1, 0x0, 0x0, 0x0, 0xFFFFFF00, 0xFFFFFF3F, 0x0, 0xFFFFFF3F, 0x0⟩,
  ⟨12, 0x02C, 0x0, 1, 0x0, 0x0, 0x0, 0x0, 0x0, 0x0, 0x0, 0x0⟩,
  ⟨12, 0x030, 0x0, 1, 0x0, 0x0, 0x0, 0x0, 0x0, 0x0, 0x0, 0x0⟩]

/-- The register rows of BFM: access masks (R14) and reset values (R15), from its register tables. -/
def Reg.rowsBFM : List RegRow := [
  ⟨11, 0x000, 0x0, 1, 0x0, 0x0, 0x0, 0x0, 0x0, 0x0, 0x0, 0x0⟩,
  ⟨11, 0x004, 0x0, 1, 0x0, 0x0, 0x0, 0x0, 0x0, 0x0, 0x0, 0x0⟩,
  ⟨11, 0x008, 0x0, 1, 0x0, 0x0, 0x0, 0x0, 0xFFFFFF, 0x0, 0xFFFFFF, 0x0⟩,
  ⟨11, 0x00C, 0x0, 1, 0x0, 0x0, 0x0, 0x0, 0x3FF, 0x0, 0x3FF, 0x0⟩,
  ⟨11, 0x010, 0x0, 1, 0x0, 0x0, 0x0, 0x0, 0x1FFF1FFF, 0x0, 0x1FFF1FFF, 0x0⟩,
  ⟨11, 0x014, 0x0, 1, 0x0, 0x0, 0x0, 0x0, 0x180, 0x0, 0x180, 0x0⟩]

/-- The register rows of DMA: access masks (R14) and reset values (R15), from its register tables. -/
def Reg.rowsDMA : List RegRow := [
  ⟨13, 0x000, 0x20, 64, 0xFF1F1FFF, 0x0, 0x600000, 0x0, 0xFF7F1FFF, 0x30000, 0xFF7F1FFF, 0x30000⟩,
  ⟨13, 0x004, 0x20, 64, 0x0, 0x200, 0x0, 0x0, 0xFF03FF, 0x0, 0xFF03FF, 0x0⟩,
  ⟨13, 0x800, 0x40, 8, 0x0, 0xC, 0x0, 0x0, 0x7FF000F, 0x0, 0x7FF000F, 0x0⟩,
  ⟨13, 0xC00, 0x0, 1, 0x0, 0x0, 0x0, 0x0, 0xFFFFFFFF, 0x0, 0xFFFFFFFF, 0x0⟩,
  ⟨13, 0xC04, 0x0, 1, 0x0, 0x0, 0x0, 0x0, 0xFFFFFFFF, 0x0, 0xFFFFFFFF, 0x0⟩,
  ⟨13, 0xC08, 0x0, 1, 0x0, 0xFFFFFFFF, 0x0, 0x0, 0xFFFFFFFF, 0x0, 0xFFFFFFFF, 0x0⟩,
  ⟨13, 0xC0C, 0x0, 1, 0x0, 0xFFFFFFFF, 0x0, 0x0, 0xFFFFFFFF, 0x0, 0xFFFFFFFF, 0x0⟩]

/-- The register rows of ZMU: access masks (R14) and reset values (R15), from its register tables. -/
def Reg.rowsZMU : List RegRow := [
  ⟨10, 0x000, 0x0, 1, 0x1, 0x0, 0x4, 0x0, 0x7, 0x1, 0x7, 0x1⟩,
  ⟨10, 0x004, 0x0, 1, 0x0, 0x0, 0x0, 0x0, 0xF3F3F3F, 0x0, 0xF3F3F3F, 0x0⟩,
  ⟨10, 0x008, 0x0, 1, 0x201FFFFF, 0x0, 0x40000000, 0x0, 0xE01FFFFF, 0x0, 0xE01FFFFF, 0x0⟩,
  ⟨10, 0x00C, 0x0, 1, 0x7F, 0x0, 0x80, 0x0, 0xFF, 0x0, 0xFF, 0x0⟩,
  ⟨10, 0x010, 0x0, 1, 0x0, 0x0, 0x0, 0xFFFFFFFF, 0xFFFFFFFF, 0x0, 0xFFFFFFFF, 0x0⟩,
  ⟨10, 0x014, 0x0, 1, 0x0, 0x0, 0x0, 0xFFFFFFFF, 0xFFFFFFFF, 0x0, 0xFFFFFFFF, 0x0⟩,
  ⟨10, 0x018, 0x0, 1, 0x0, 0x0, 0x0, 0x0, 0x800000, 0x0, 0x800000, 0x0⟩,
  ⟨10, 0x01C, 0x0, 1, 0x0, 0x0, 0x0, 0x0, 0x0, 0x0, 0x0, 0x0⟩,
  ⟨10, 0x020, 0x0, 1, 0x0, 0x0, 0x0, 0x0, 0x0, 0x0, 0x0, 0x0⟩]

/-- The register rows of CQU: access masks (R14) and reset values (R15), from its register tables. -/
def Reg.rowsCQU : List RegRow := [
  ⟨9, 0x000, 0x0, 1, 0x0, 0x0, 0x0, 0x0, 0xFFFFFFFF, 0x0, 0xFFFFFFFF, 0x0⟩,
  ⟨9, 0x004, 0x0, 1, 0x0, 0x0, 0x0, 0x0, 0x7FFFFFF, 0x0, 0x7FFFFFF, 0x0⟩,
  ⟨9, 0x008, 0x0, 1, 0x0, 0x0, 0x0, 0x0, 0xFFFF7FFF, 0x0, 0xFFFF7FFF, 0x0⟩,
  ⟨9, 0x00C, 0x0, 1, 0x0, 0x0, 0x0, 0xFFFFFFFF, 0xFFFFFFFF, 0x0, 0xFFFFFFFF, 0x0⟩,
  ⟨9, 0x010, 0x0, 1, 0x0, 0x0, 0x0, 0x0, 0xFFF0FFF, 0x0, 0xFFF0FFF, 0x0⟩]

/-- The register rows of MSC: access masks (R14) and reset values (R15), from its register tables. -/
def Reg.rowsMSC : List RegRow := [
  ⟨15, 0x000, 0x0, 1, 0x0, 0x0, 0x0, 0x0, 0x3FFFFFFF, 0x0, 0x3FFFFFFF, 0x0⟩,
  ⟨15, 0x004, 0x0, 1, 0x0, 0x0, 0x0, 0x0, 0x3FFFFFFF, 0x0, 0x3FFFFFFF, 0x0⟩,
  ⟨15, 0x008, 0x0, 1, 0x0, 0x0, 0x0, 0xFFFFFFFF, 0xFFFFFFFF, 0x0, 0xFFFFFFFF, 0x0⟩,
  ⟨15, 0x00C, 0x0, 1, 0x0, 0x0, 0x0, 0x0, 0x7FFFF, 0x65DC0, 0x7FFFF, 0x65DC0⟩]

/-- The register rows of HPT: access masks (R14) and reset values (R15), from its register tables. -/
def Reg.rowsHPT : List RegRow := [
  ⟨8, 0x000, 0x0, 1, 0x0, 0x0, 0x0, 0x0, 0x67FF, 0x0, 0x67FF, 0x0⟩,
  ⟨8, 0x004, 0x0, 1, 0x7F, 0x0, 0x80, 0x0, 0x3FF, 0x50, 0x3FF, 0x50⟩,
  ⟨8, 0x008, 0x0, 1, 0x0, 0x0, 0x0, 0xFFFFFFFF, 0xFFFFFFFF, 0x0, 0xFFFFFFFF, 0x0⟩,
  ⟨8, 0x00C, 0x0, 1, 0x0, 0x0, 0x0, 0xFFFFFFFF, 0xFFFFFFFF, 0x0, 0xFFFFFFFF, 0x0⟩,
  ⟨8, 0x010, 0x0, 1, 0x0, 0x0, 0x0, 0xFFFFFF00, 0xFFFFFF07, 0x0, 0xFFFFFF07, 0x0⟩,
  ⟨8, 0x014, 0x0, 1, 0x0, 0x0, 0x0, 0xFFFFFFFF, 0xFFFFFFFF, 0x0, 0xFFFFFFFF, 0x0⟩]

/-- The register rows of NDC: access masks (R14) and reset values (R15), from its register tables. -/
def Reg.rowsNDC : List RegRow := [
  ⟨24, 0x000, 0x0, 1, 0x0, 0x0, 0x0, 0x0, 0xFFF07, 0x0, 0xFFF07, 0x0⟩,
  ⟨24, 0x004, 0x0, 1, 0x0, 0x0, 0x0, 0xFFFFFFFF, 0xFFFFFFFF, 0x0, 0xFFFFFFFF, 0x0⟩,
  ⟨24, 0x008, 0x0, 1, 0x0, 0x0, 0x0, 0xFFFFFFFF, 0xFFFFFFFF, 0x0, 0xFFFFFFFF, 0x0⟩]

/-- The register rows of PTX: access masks (R14) and reset values (R15), from its register tables. -/
def Reg.rowsPTX : List RegRow := [
  ⟨25, 0x000, 0x0, 1, 0x0, 0x0, 0x0, 0x0, 0x3FF7FF, 0x0, 0x3FF7FF, 0x0⟩,
  ⟨25, 0x004, 0x0, 1, 0x0, 0x0, 0x0, 0xFFFFFFFF, 0xFFFFFFFF, 0x0, 0xFFFFFFFF, 0x0⟩,
  ⟨25, 0x008, 0x0, 1, 0x0, 0x0, 0x0, 0xFFFFFFFF, 0xFFFFFFFF, 0x0, 0xFFFFFFFF, 0x0⟩]

/-- The register rows of BUR: access masks (R14) and reset values (R15), from its register tables. -/
def Reg.rowsBUR : List RegRow := [
  ⟨3, 0x000, 0x0, 1, 0x0, 0x10000, 0x0, 0x0, 0x1CFFF, 0x0, 0x1CFFF, 0x0⟩,
  ⟨3, 0x004, 0x0, 1, 0x0, 0x0, 0x0, 0x0, 0x0, 0x0, 0x0, 0x0⟩,
  ⟨3, 0x008, 0x0, 1, 0x0, 0x0, 0x0, 0x0, 0x0, 0x0, 0x0, 0x0⟩,
  ⟨3, 0x00C, 0x0, 1, 0xFFF, 0x0, 0x1000, 0x0, 0x1FFF, 0x0, 0x1FFF, 0x0⟩]

/-- The register rows of CRD: access masks (R14) and reset values (R15), from its register tables. -/
def Reg.rowsCRD : List RegRow := [
  ⟨4, 0x000, 0x0, 1, 0x0, 0x0, 0x0, 0x0, 0x34, 0x0, 0x34, 0x0⟩,
  ⟨4, 0x004, 0x0, 1, 0x0, 0x0, 0x3, 0x0, 0x3, 0x0, 0x3, 0x0⟩,
  ⟨4, 0x008, 0x0, 1, 0xFFFFFFFF, 0x0, 0x0, 0x0, 0xFFFFFFFF, 0x0, 0xFFFFFFFF, 0x0⟩,
  ⟨4, 0x00C, 0x0, 1, 0x0, 0x0, 0x0, 0x0, 0xFFFFFFFF, 0x0, 0xFFFFFFFF, 0x0⟩,
  ⟨4, 0x010, 0x0, 1, 0x0, 0x0, 0x0, 0x0, 0xFFFFFFFF, 0x0, 0xFFFFFFFF, 0x0⟩]

/-- The register rows of TST: access masks (R14) and reset values (R15), from its register tables. -/
def Reg.rowsTST : List RegRow := [
  ⟨6, 0x000, 0x0, 1, 0x0, 0x0, 0x2, 0x0, 0x2, 0x0, 0x2, 0x0⟩,
  ⟨6, 0x004, 0x0, 1, 0x7F, 0x0, 0x80, 0x0, 0x7FF, 0x0, 0x7FF, 0x0⟩,
  ⟨6, 0x008, 0x0, 1, 0x0, 0x0, 0x0, 0xFFFFFFFF, 0xFFFFFFFF, 0x0, 0xFFFFFFFF, 0x0⟩,
  ⟨6, 0x00C, 0x0, 1, 0x1F, 0x0, 0x20, 0x0, 0xFF, 0x0, 0xFF, 0x0⟩,
  ⟨6, 0x010, 0x0, 1, 0x0, 0x0, 0x0, 0xFFFFFFFF, 0xFFFFFFFF, 0x0, 0xFFFFFFFF, 0x0⟩]

/-- Every register row of the controller (R13 to R15). -/
def Reg.rows : List RegRow :=
  Reg.rowsNST ++ Reg.rowsRCU ++ Reg.rowsOPL ++ Reg.rowsELK ++ Reg.rowsZLK ++ Reg.rowsSPC ++
  Reg.rowsSLE ++ Reg.rowsFSQ ++ Reg.rowsRWC ++ Reg.rowsLDP ++ Reg.rowsEAC ++ Reg.rowsSTE ++
  Reg.rowsMEC ++ Reg.rowsBFM ++ Reg.rowsDMA ++ Reg.rowsZMU ++ Reg.rowsCQU ++ Reg.rowsMSC ++
  Reg.rowsHPT ++ Reg.rowsNDC ++ Reg.rowsPTX ++ Reg.rowsBUR ++ Reg.rowsCRD ++ Reg.rowsTST

/-- Whether a row names the register at an offset of a slot. -/
def RegRow.covers (r : RegRow) (slot off : Nat) : Bool :=
  r.slot == slot && ((List.range r.count).any fun i => r.off + r.stride * i == off)

/-- The row of a register, where the spec has one at that offset. -/
def Reg.row? (slot off : Nat) : Option RegRow := Reg.rows.find? fun r => r.covers slot off

/-- The effect of a write of a word on the held word (R14): RW bits take the value, W1C bits written 1 clear, W1S bits
written 1 set, every other bit stays. -/
def RegRow.write (r : RegRow) (old w : Word) : Word :=
  let rw : Word := BitVec.ofNat 32 r.rw
  let w1c : Word := BitVec.ofNat 32 r.w1c
  let w1s : Word := BitVec.ofNat 32 r.w1s
  ((old &&& ~~~ rw) ||| (w &&& rw)) &&& ~~~ (w &&& w1c) ||| (w &&& w1s)

/-- The effect of a read on the held word (R14): RC bits clear. -/
def RegRow.afterRead (r : RegRow) (old : Word) : Word := old &&& ~~~ (BitVec.ofNat 32 r.rc)

/-- A register's word after a block reset (R52, R15): the bits with a warm number take it, the others stay. -/
def RegRow.warm (r : RegRow) (old : Word) : Word :=
  (old &&& ~~~ (BitVec.ofNat 32 r.warmMask)) ||| BitVec.ofNat 32 r.warmVal

end Sys2Proof.Machine
end

