-- ==== Sys2Proof/Machine/State.lean ====
section
/-!
DEFINITION. The state of the block as plain data: every register (the register file), every FIFO, buffer, table, counter,
mode and pin the spec gives the controller and its partner chips, and the queue of waiting commands; the reasons a step
can stop; and the state right after reset.
-/

namespace Sys2Proof.Machine

/-! ### Start, reset and blocks (chapter 02). -/

/-- Where the device reset sequence stands (R35, R37). -/
inductive RstPhase where
  /-- A power-on is waiting for its 5 ms, or a pin reset has ended its save: step 6 is next. -/
  | stretch
  /-- The hold-up save of step 4 runs. -/
  | saving
  /-- The pin is no longer driven: step 7 is next. -/
  | release
  /-- Internal reset is released. -/
  | running
  /-- VDD_CORE is absent (R442). -/
  | unpowered
  deriving DecidableEq, Repr

/-- The state of a block (R48, R52). -/
inductive BlkState where
  | inReset
  | running
  | idleReq
  | resetting
  /-- The 64 cycles have passed; the release waits for CLK_GOOD. -/
  | waitClock
  deriving DecidableEq, Repr

/-- Progress of an item of the discovery order (R55). -/
inductive Item where
  | waiting | ok | failed | skipped
  deriving DecidableEq, Repr

/-- The pins and rails (R34 to R39, R47, R485). -/
structure Pins where
  nstOk       : Bool
  coreOk      : Bool
  sysrstLow   : Bool
  sysrstCount : Bool
  sysrstDrive : Bool
  perstLow    : Bool
  tapOut      : Bytes
  tapCells    : List Bool
  deriving DecidableEq, Repr

/-- The start sequence (R42, R55 to R63). `sev` is the severity of BOOT_STATUS.CODE: 0 none, 1 note, 2 hold, 3 halt. `hung`: a core
trapped and no longer services the watchdog (R309). -/
structure Start where
  rst       : RstPhase
  cause     : Nat
  sev       : Nat
  recovery  : Bool
  optTried  : Nat
  fwTried   : Nat
  zhosel    : Item
  motion    : Item
  base      : Item
  ezA       : Item
  ezB       : Item
  hsA       : Item
  hsB       : Item
  retried   : List Bool
  blocks    : List BlkState
  watchdog  : Bool
  trainOpen : Bool
  osc       : Bool
  hung      : Bool
  deriving DecidableEq, Repr

/-- Rails up, the pin driven low: a power-on on VDD_NST has just been detected (R37). -/
def Pins.reset : Pins := ⟨true, true, false, false, true, false, [], []⟩

/-- The start before P0 has ended: every block in reset. -/
def Start.reset : Start :=
  { rst := .stretch, cause := 1, sev := 0, recovery := false, optTried := 0, fwTried := 0,
    zhosel := .waiting, motion := .waiting, base := .waiting, ezA := .waiting, ezB := .waiting, hsA := .waiting,
    hsB := .waiting, retried := [false, false, false], blocks := List.replicate 26 .inReset,
    watchdog := false, trainOpen := false, osc := false, hung := false }

/-! ### The configuration loaded from the option image (R76 to R83). -/

/-- PLAT (R77). -/
structure PlatCfg where
  idleTmoUs : Nat
  ssc       : Bool
  maxRate   : Nat
  l1ss      : Bool
  deriving DecidableEq, Repr

/-- PLAT where no option image is loaded: its defaults (R77, R87). -/
def PlatCfg.reset : PlatCfg := ⟨1000, false, 5, true⟩

/-- DRAM (R77): GiB, MT/s, MiB, MiB, MR3, MR11. -/
structure DramCfg where
  capacity  : Nat
  rate      : Nat
  protCache : Nat
  wcache    : Nat
  mr3       : Byte
  mr11      : Byte
  deriving DecidableEq, Repr

/-- A LANE_TRIM record (R77): link, direction (0 transmit, 1 receive), lane; swing, pre, post, CTLE (0xFF adaptive). -/
structure LaneTrim where
  link  : Nat
  dir   : Nat
  lane  : Nat
  swing : Nat
  pre   : Nat
  post  : Nat
  ctle  : Nat
  deriving DecidableEq, Repr

/-- A POLARITY record (R77): link, transmit and receive inversion masks. -/
structure Polarity where
  link  : Nat
  txInv : Nat
  rxInv : Nat
  deriving DecidableEq, Repr

/-- A zone of a head's ZONE_TABLE (R78). -/
structure RadialZone where
  start   : Nat
  tracks  : Nat
  sectors : Nat
  bitRate : Nat
  deriving DecidableEq, Repr

/-- GEOM (R78): heads per actuator, wedges, zone tables by head number, sequencer modes. -/
structure GeomCfg where
  headsPerAct : Nat
  wedges      : Nat
  zones       : List (Nat × List RadialZone)
  fsqMode     : Nat
  deriving DecidableEq, Repr

/-- STRIPE (R78): D, SPARE, the rotation rows given (none: the built-in rotation), journal surfaces, Sideboard
stripes, rebuild shares. -/
structure StripeCfg where
  width       : Nat
  spare       : Nat
  rotRows     : List (List Nat)
  journalA    : Nat
  journalB    : Nat
  sideboard   : Nat
  shareNormal : Nat
  shareRaised : Nat
  deriving DecidableEq, Repr

/-- A BANK record (R79): loop, mode and bank, order, coefficients in Q3.28, output saturation. -/
structure Bank where
  loop  : Nat
  mode  : Nat
  bank  : Nat
  n     : Nat
  phi   : List Int
  gamma : List Int
  ell   : List Int
  c     : List Int
  k     : List Int
  sat   : Nat
  deriving DecidableEq, Repr

/-- SERVO (R79). -/
structure ServoCfg where
  banks    : List Bank
  rroGain  : Int
  rroBands : Nat
  wiPes    : Nat
  wiShock  : Nat
  deriving DecidableEq, Repr

/-- SPIN (R80): the 16 curve points, thresholds, the commutation table, currents in mA. -/
structure SpinCfg where
  curve    : List (Nat × Nat)
  turnOn   : Nat
  turnOff  : Nat
  comm     : List Int
  spinupMa : Nat
  runMa    : Nat
  deriving DecidableEq, Repr

/-- ASSIST (R81): per head MIN and MAX in 10 µA, window, interval, drift. -/
structure AssistCfg where
  limits      : List (Nat × Nat × Nat)
  window      : Nat
  calInterval : Nat
  drift       : Nat
  deriving DecidableEq, Repr

/-- THRESH (R81): ladder steps, iterations, rereads, head failure, bucket depth and leak of SRAM and DRAM, scrub
days and hours. -/
structure ThreshCfg where
  ladder    : Word
  otfIter   : Nat
  retryIter : Nat
  rereads   : Nat
  headFailSectors : Nat
  headFailWindow  : Nat
  sramDepth : Nat
  sramLeak  : Nat
  dramDepth : Nat
  dramLeak  : Nat
  scrubDays : Nat
  scrubHours : Nat
  deriving DecidableEq, Repr

/-- POWER (R82). -/
structure PowerCfg where
  t1       : Nat
  t2       : Nat
  t3       : Nat
  t4       : Nat
  apst     : Bool
  throttle : Nat
  hyst     : Nat
  crit     : Nat
  deriving DecidableEq, Repr

/-- NVME (R82): model number, firmware revision where given, vendor and subsystem IDs, OUI bytes, layout, capacity
limit in 10^9 bytes. `convZones` is none where NS_LAYOUT is absent: every zone conventional. -/
structure NvmeCfg where
  mn         : Bytes
  fr         : Option Bytes
  ssvid      : Nat
  ssid       : Nat
  oui        : Bytes
  convZones  : Option Nat
  zoned      : Bool
  mediaCache : Nat
  capLimit   : Nat
  deriving DecidableEq, Repr

/-- An accepted motion power chip identity (R83). -/
structure MotionId where
  vendor : Nat
  part   : Nat
  minRev : Nat
  maxRev : Nat
  deriving DecidableEq, Repr

/-- Everything the accepted option image sets. -/
structure OptCfg where
  plat   : PlatCfg
  dram   : DramCfg
  trims  : List LaneTrim
  polars : List Polarity
  geom   : GeomCfg
  stripe : StripeCfg
  servo  : ServoCfg
  spin   : SpinCfg
  assist : AssistCfg
  thresh : ThreshCfg
  power  : PowerCfg
  nvme   : NvmeCfg
  accept : List MotionId
  deriving DecidableEq, Repr

/-! ### Fuses, images and identities (R66, R73, R84, R88, R89). -/

/-- A drive maker key slot of the fuses (R73, R484): digest, programmed, revoked, failed its check. -/
structure KeySlot where
  digest  : Bytes
  prog    : Bool
  revoked : Bool
  deriving DecidableEq, Repr

/-- The fuses (R73, R84, R447). DS is held as the record of its burn: the secret itself is Config's
(assumption 9), and whether its check passed. -/
structure Fuses where
  oemSvn    : Nat
  htSvn     : Nat
  keys      : List KeySlot
  htRevoked : List Bool
  dsBurned  : Bool
  dsOk      : Bool
  deriving DecidableEq, Repr

/-- The boot NOR as far as the controller writes it (R66, R68): for each image kind and copy the last image it wrote
(none where it has written none), and the staged pieces of a download (offset, bytes) (R87, R380). -/
structure Nor where
  optA  : Option Bytes
  optB  : Option Bytes
  fwA   : Option Bytes
  fwB   : Option Bytes
  stage : List (Nat × Bytes)
  deriving DecidableEq, Repr

/-- The accepted option image beside its records (R70): copy, SEQ, SVN, SVN_COMMIT, KEY_SLOT, digest of the signed message. -/
structure OptImage where
  copy      : Copy
  seq       : Word
  svn       : Nat
  svnCommit : Bool
  keySlot   : Nat
  digest    : Bytes
  deriving DecidableEq, Repr

/-- The accepted firmware image (R84). -/
structure FwImage where
  copy      : Copy
  version   : Word
  patchSet  : Nat
  htSvn     : Nat
  svnCommit : Bool
  rejected  : Bool
  digest    : Bytes
  deriving DecidableEq, Repr

/-- A supervisor hook (R85). -/
structure Hook where
  romAddr   : Word
  patchAddr : Word
  deriving DecidableEq, Repr

/-- An overlay entry (R85, R217): store 0 horizontal, 1 micro-store, 2 nano-store; address; word. -/
structure OverlayEntry where
  store : Nat
  addr  : Nat
  word  : BitVec 160
  deriving DecidableEq, Repr

/-- The patches in force (R86): patch RAM bytes from the load offset, hooks, overlay. -/
structure Patches where
  loadOff : Nat
  code    : Bytes
  hooks   : List Hook
  overlay : List OverlayEntry
  deriving DecidableEq, Repr

/-- A motor record (R89): poles, KE in mV per 1,000 rpm, mΩ, µH, mA. -/
structure Motor where
  poles : Nat
  ke    : Nat
  res   : Nat
  ind   : Nat
  imax  : Nat
  deriving DecidableEq, Repr

/-- A head record (R89): index, retired at the factory, write current (10 µA), bias (µA), assist current (10 µA),
microactuator gain Q3.28, stroke in nm. -/
structure HeadRec where
  index    : Nat
  retired  : Bool
  writeCur : Nat
  bias     : Nat
  assist   : Nat
  maGain   : Int
  stroke   : Nat
  deriving DecidableEq, Repr

/-- The base module identity as read (R88, R89): serial, drive serial number, motor, and the bytes
0 to START_LEN - 1 as read. -/
structure BaseIdent where
  serial  : Bytes
  driveSn : Bytes
  motor   : Motor
  start   : Bytes
  deriving DecidableEq, Repr

/-- A head stack identity as read (R88, R89): serial, head count, spin-torque assist, front end vendor and part, heads
in record order, and the bytes 0 to START_LEN - 1 as read. -/
structure HsaIdent where
  serial    : Bytes
  headCount : Nat
  torque    : Bool
  feVendor  : Nat
  fePart    : Nat
  heads     : List HeadRec
  start     : Bytes
  deriving DecidableEq, Repr

/-- Identities (R55 to R58, R88): the memories as read (base, head stack A, head stack B), the bytes read in full after
P11, failed reads, and the IDENT bodies of the motion power chip and the two front ends. -/
structure Idents where
  base    : Option BaseIdent
  hsaA    : Option HsaIdent
  hsaB    : Option HsaIdent
  fullBase : Option Bytes
  fullA   : Option Bytes
  fullB   : Option Bytes
  fails   : List Nat
  motion  : Bytes
  feA     : Bytes
  feB     : Bytes
  deriving DecidableEq, Repr

/-- Fuses of a blank die (assumption 3): nothing programmed, revoked or burned. -/
def Fuses.reset : Fuses := ⟨0, 0, List.replicate 4 ⟨List.replicate 48 0, false, false⟩, [false, false], false, false⟩

/-- A NOR the controller has written nothing to. -/
def Nor.reset : Nor := ⟨none, none, none, none, []⟩

/-- No patch in force. -/
def Patches.reset : Patches := ⟨0, [], [], []⟩

/-- No identity read. -/
def Idents.reset : Idents := ⟨none, none, none, none, none, none, [], [], [], []⟩

/-! ### The Ezpol and Zhosel links and the partner chips (chapter 04). -/

/-- A sequenced cell (R100, R101): TYPE, UNIT, FLAGS, SEQ, PARAM, body and CRED. -/
structure Cell where
  typ   : Byte
  unit  : Nat
  flags : Nat
  seq   : BitVec 12
  param : BitVec 16
  body  : Bytes
  cred  : Byte
  deriving DecidableEq, Repr

/-- An ordered set (R99). -/
inductive OSet where
  | ts1 (lane : Nat) (s : TsBody)
  | ts2 (lane : Nat) (s : TsBody)
  | aln (lt : Word)
  | nak (seq : BitVec 12)
  | wih (mask comp reason : Byte)
  | alm (source unitMask : Byte)
  | pfail
  | lbx
  | slp
  deriving DecidableEq, Repr

/-- One end of a link (R104 to R106): next SEQ to send, the replay buffer with how often each cell was resent,
cells waiting for room in it, SEQ expected, whether a NAK for it has been sent, TS1 and TS2 received per lane, scrambler
registers of the lanes it receives as the last ALN loaded them, sets on their way to it. -/
structure LinkEnd where
  sndSeq  : BitVec 12
  replay  : List (Cell × Nat)
  waiting : List Cell
  rcvSeq  : BitVec 12
  nakSent : Bool
  ts1     : List Nat
  ts2     : List Nat
  scr     : List (BitVec 23)
  sets    : List OSet
  deriving DecidableEq, Repr

/-- A link (R93, R123 to R126): its two ends, credits of the units, blocks since the last ALN is the ALN's own count
(ALN_INTERVAL), lane set aside in each receive direction, times of failed retrains, tags outstanding with their
opcodes and first body bytes, trims the partner chip applied per lane, whether the sequence is a wake, loopback depth. -/
structure Link where
  ctl      : LinkEnd
  par      : LinkEnd
  cred0    : Nat
  cred1    : Nat
  asideUp  : Option Nat
  asideDn  : Option Nat
  failedAt : List Nat
  tags     : List (Byte × Byte × Nat)
  nextTag  : Byte
  trims    : List (Nat × TsBody)
  wake     : Bool
  lbErrors : Nat
  deriving DecidableEq, Repr

/-- A write armed on a unit (R110, R111). -/
structure Armed where
  start   : Word
  phase   : Nat
  precomp : Bool
  length  : Nat
  deriving DecidableEq, Repr

/-- A WDATA cell queued in a front end (R110). -/
structure WCell where
  last : Bool
  widx : Word
  bits : Bytes
  deriving DecidableEq, Repr

/-- A read path and write driver pair of a front end (R108 to R111, R113). -/
structure FeUnit where
  baud    : Word
  sidx    : Word
  head    : Option Nat
  pathOn  : Bool
  armed   : Option Armed
  writing : Bool
  queued  : List WCell
  written : Nat
  precomp : List Int
  freed   : Nat
  deriving DecidableEq, Repr

/-- The drive of a head in a front end (R111): bias, write current, heater; assist mode and powers. -/
structure FeHead where
  head     : Nat
  bias     : BitVec 16
  writeCur : BitVec 16
  heater   : BitVec 16
  mode     : Nat
  assistWr : BitVec 16
  standby  : BitVec 16
  lead     : BitVec 16
  tail     : BitVec 16
  deriving DecidableEq, Repr

/-- A head-stack front end (R108 to R116). -/
structure FrontEnd where
  monPeriod : BitVec 16
  win       : Nat
  dormant   : Bool
  loop      : Nat
  u0        : FeUnit
  u1        : FeUnit
  heads     : List FeHead
  mon       : Option MonBody
  inReset   : Bool
  deriving DecidableEq, Repr

/-- A set-point of an actuator (R119). -/
structure SetPoint where
  applyLt : Word
  vcm     : Int
  ma0     : Int
  ma1     : Int
  deriving DecidableEq, Repr

/-- The motion power chip (R117 to R122). `hold` is the spindle's turning on after the link timeout. -/
structure MotionChip where
  lt        : Word
  mstat     : BitVec 16
  linkTmo   : BitVec 16
  shockWi   : BitVec 16
  retractUs : BitVec 16
  aux       : Bool
  mode      : Nat
  samples   : Nat
  limit     : BitVec 16
  table     : List Int
  applyLt   : Word
  angle     : Word
  rate      : Int
  ampl      : BitVec 16
  vcmA      : Bool
  vcmB      : Bool
  limA      : BitVec 16
  limB      : BitVec 16
  ma        : List Nat
  spA       : SetPoint
  spB       : SetPoint
  retractA  : Bool
  retractB  : Bool
  discarded : Nat
  loop      : Bool
  powerFail : Bool
  ownOsc    : Bool
  hold      : Bool
  inReset   : Bool
  deriving DecidableEq, Repr

/-- What the controller holds of the partner chips' reports (R112, R120). -/
structure Reports where
  monA  : Option MonBody
  monB  : Option MonBody
  mstat : Option MstatBody
  gates : List Bool
  linkHold : Bool
  deriving DecidableEq, Repr

/-- Both ends of a link as they stand at link-up (R104, R107). -/
def LinkEnd.reset : LinkEnd := ⟨0, [], [], 0, false, [0, 0, 0, 0, 0], [0, 0, 0, 0, 0], [0, 0, 0, 0, 0], []⟩

/-- A link down, nothing sent or received. -/
def Link.reset : Link := ⟨.reset, .reset, 16, 16, none, none, [], [], 0, [], false, 0⟩

/-- A unit after the front end's reset: everything off (R36); values the spec does not give are 0 (assumption 3). -/
def FeUnit.reset : FeUnit := ⟨0, 0, none, false, none, false, [], 0, List.replicate 8 0, 0⟩

/-- A front end in reset (R36). -/
def FrontEnd.reset : FrontEnd := ⟨0, 0, false, 0, .reset, .reset, [], none, true⟩

/-- No set-point. -/
def SetPoint.zero : SetPoint := ⟨0, 0, 0, 0⟩

/-- The motion power chip in reset: coils retracted, bridge tristated (R36); defaults of R118. -/
def MotionChip.reset : MotionChip :=
  { lt := 0, mstat := 0, linkTmo := 2500, shockWi := 0, retractUs := 50, aux := false, mode := 0, samples := 0,
    limit := 0, table := List.replicate 1024 0, applyLt := 0, angle := 0, rate := 0, ampl := 0, vcmA := false,
    vcmB := false, limA := 0, limB := 0, ma := [0xFF, 0xFF, 0xFF, 0xFF], spA := .zero, spB := .zero, retractA := true,
    retractB := true, discarded := 0, loop := false, powerFail := false, ownOsc := true, hold := false, inReset := true }

/-- No report received; every write gate closed. -/
def Reports.reset : Reports := ⟨none, none, none, [false, false, false, false], false⟩

/-! ### Spindle control (chapter 05). -/

/-- A back-EMF or phase-current crossing as observed (R128, R132): time, phase 0 U, 1 V, 2 W, rising. -/
structure Crossing where
  lt     : Word
  phase  : Nat
  rising : Bool
  deriving DecidableEq, Repr

/-- The last ELEC cell's values (R132): time, currents U and V in mA, back-EMF of the three phases in mV. -/
structure ElecPrev where
  lt : Word
  iU : Int
  iV : Int
  eU : Rat
  eV : Rat
  eW : Rat
  deriving DecidableEq, Repr

/-- The rotor observer (R133): the anchor angle and time, speed in ANGLE units per tick times 2^16, time of the last
crossing, crossings in sequence with |ε| over 30° and with |ε| up to 30° in forward order, crossings left for which the
loss test is suspended, peak phase back-EMF seen. -/
structure Observer where
  theta   : Word
  omega   : Int
  tAnchor : Word
  tPrev   : Word
  lost    : Nat
  good    : Nat
  suspend : Nat
  last    : Option Nat
  prev    : Option ElecPrev
  peak    : Rat
  deriving DecidableEq, Repr

/-- The spindle controller (R128 to R151). Times are in ms. `braking`: the brake ends in a stop; `ramp`: electrical cycles
left of the rise of AMPL after a catch; `warmCatch`: P8 ends with the catch (R143);
`handover`: the open-loop ramp has ended and the observer runs (R142); `riseFrom`: LT at which the alignment, the ramp or the
rise from 1,000 rpm began. -/
structure Spindle where
  obs       : Observer
  seen      : List Crossing
  integ     : Rat
  ampl      : Nat
  ilim      : Nat
  demand    : Nat
  pending   : Option Nat
  ramp      : Nat
  revs      : Nat
  coast     : Bool
  fromRest  : Bool
  riseFrom  : Option Word
  attempts  : Nat
  moved     : Bool
  braking   : Bool
  halved    : Bool
  overs     : List Nat
  losses    : List Nat
  respinAt  : Option Nat
  stopAfter : Bool
  faults    : Nat
  retryDue  : Bool
  tableSent : Bool
  warmCatch : Bool
  handover : Bool
  deriving DecidableEq, Repr

/-- An observer that has seen nothing. -/
def Observer.reset : Observer := ⟨0, 0, 0, 0, 0, 0, 0, none, none, 0⟩

/-- A stopped spindle; the demand is held at 255 from P0 to P11 (R136). -/
def Spindle.reset : Spindle :=
  { obs := .reset, seen := [], integ := 0, ampl := 0, ilim := 0, demand := 255, pending := none, ramp := 0, revs := 0,
    coast := false, fromRest := false, riseFrom := none, attempts := 0, moved := false, braking := false,
    halved := false, overs := [], losses := [], respinAt := none, stopAfter := false, faults := 0,
    retryDue := false, tableSent := false,
    warmCatch := false, handover := false }

/-! ### Servo and positioning (chapter 06). Positions are in 2^-16 track, states in 2^-24, drives and gains in Q3.28. -/

/-- A read path and its microactuator loop as the servo loop engine holds them. `pend` is a head switch that waits for the
end of the unit's transfer (R184). -/
structure ServoUnit where
  pos     : Int
  prev    : Int
  offset  : Int
  xhat    : List Int
  drive   : Int
  micro   : Option Int
  missRun : Nat
  window  : Nat
  misses  : List Nat
  wedges  : Nat
  again   : Bool
  limRun  : Nat
  tolRun  : Nat
  acquired : Bool
  badIndex : Option Nat
  pend    : Option (Nat × Int)
  trim    : Int
  deriving DecidableEq, Repr

/-- A voice-coil seek reference (R172): start and end of the move, wedges run, wedges since r reached a, failures of the
same move. -/
structure SeekRef where
  start   : Int
  goal    : Int
  k       : Nat
  waited  : Nat
  fails   : Nat
  deriving DecidableEq, Repr

/-- The load of an actuator (R182): pulses given, a pulse driven now, head indices searched and acquired. -/
structure LoadState where
  pulses   : Nat
  pulsing  : Bool
  searched : List Nat
  acquired : List Nat
  deriving DecidableEq, Repr

/-- The heads and targets of the two units that an arm move serves (R168, R172). -/
abbrev ArmMove := Option (Nat × Int) × Option (Nat × Int)

/-- A servo loop engine of one actuator: the voice-coil loop with its mode (0 seek, 1 settle, 2 track-follow), the arm target a,
the seek under way and the next one, t_k and the last intervals in LT ticks, the wedge count, wedges in a row within the
permit's thresholds, the end of the last reference and the measured settle times in µs, shock and misses in this revolution and
shock in the one before, load and failed reloads (ms), pairs not formed (R171), an unload, an interrupted move, the start of
a seek, wedges in a row within 0.15 track (R172). -/
structure ServoAct where
  u0       : ServoUnit
  u1       : ServoUnit
  xhat     : List Int
  drive    : Int
  arm      : Int
  mode     : Nat
  seek     : Option SeekRef
  nextSeek : Option ArmMove
  tk       : Nat
  intervals : List Nat
  wedge    : Nat
  followRun : Nat
  settleFrom : Nat
  settles  : List Nat
  permitRun : Nat
  withheld : Bool
  afterRetrain : Bool
  shock    : Bool
  shockRev : Bool
  shockPrev : Bool
  missRev  : Bool
  load     : LoadState
  reloads  : List Nat
  noPair   : List (Nat × Nat)
  unloading : Bool
  resume   : Option Int
  seekAt   : Option Nat
  nearRun  : Nat
  deriving DecidableEq, Repr

/-- What the servo loop engines hold for all heads (R166, R167, R175): gains and skews by head, the cross-head map (16
bands by head), runout tables by head and band, b_vc by actuator, heads whose map waits for the background pass, and the minute of the last save to the calibration tracks. -/
structure ServoTables where
  gains  : List Int
  skews  : List Int
  map    : List (List Int)
  rro    : List ((Nat × Nat) × List Int)
  savedAt : Option Nat
  intact : Bool
  bandsLeft : List Nat
  bvc     : List Nat
  deriving DecidableEq, Repr

/-- A unit that follows nothing. -/
def ServoUnit.reset : ServoUnit :=
  { pos := 0, prev := 0, offset := 0, xhat := [], drive := 0, micro := none, missRun := 0, window := 0, misses := [],
    wedges := 0, again := false, limRun := 0, tolRun := 0, acquired := false, badIndex := none, pend := none, trim := 0 }

/-- An actuator unloaded; every settle time counts 0.8 ms (R173). -/
def ServoAct.reset : ServoAct :=
  { u0 := .reset, u1 := .reset, xhat := [], drive := 0, arm := 0, mode := 0, seek := none, nextSeek := none, tk := 0,
    intervals := [], wedge := 0, followRun := 0, settleFrom := 0, settles := List.replicate 64 800,
    permitRun := 0, withheld := false, afterRetrain := false, shock := false, shockRev := false, shockPrev := false,
    missRev := false, load := ⟨0, false, [], []⟩, reloads := [], noPair := [], unloading := false,
    resume := none, seekAt := none, nearRun := 0 }

/-- Nothing measured. -/
def ServoTables.reset : ServoTables :=
  ⟨List.replicate 24 0, List.replicate 24 0, List.replicate 24 (List.replicate 16 0), [], none, false, [], [0, 0]⟩

/-! ### Sector format and format sequencers (chapter 07). -/

/-- A defect descriptor (R193): its address, head and track, skip spans (wedge, start, length), slipped slots. -/
structure DefectDesc where
  addr  : Nat
  head  : Nat
  track : Nat
  skips : List (Nat × Nat × Nat)
  slips : List Nat
  deriving DecidableEq, Repr

/-- A run's report to its media manager (R199, R200): tag, status, slot at which the run stood, sectors finished, stopped. -/
structure RunReport where
  tag     : Word
  status  : Nat
  slot    : Nat
  done    : Nat
  stopped : Bool
  deriving DecidableEq, Repr

/-- A format sequencer (R197, R209 to R216): the run FIFO, the run in progress with the sectors it has passed, the
counters, the return stack, the registers its microwords write (DLBA, slot index, E, window half-width, report status),
its gates, the write stopped flag, bits of the write not yet in a cell with the index of the first, and its last report. -/
structure Fsq where
  fifo    : List RunCmd
  cur     : Option RunCmd
  done    : Nat
  slot    : Nat
  cnt     : List (BitVec 16)
  stack   : List Nat
  dlba    : BitVec 40
  expectE : Nat
  half    : Nat
  status  : Nat
  gates   : Byte
  stopped : Bool
  wbits   : List Bool
  widx    : Nat
  report  : Option RunReport
  deriving DecidableEq, Repr

/-- An idle sequencer. -/
def Fsq.reset : Fsq :=
  { fifo := [], cur := none, done := 0, slot := 0, cnt := [0, 0, 0, 0], stack := [], dlba := 0, expectE := 0, half := 24,
    status := 0, gates := 0, stopped := false, wbits := [], widx := 0, report := none }

/-! ### Read/write channels, decoder pool, retry store, ladder, assist (chapter 08). -/

/-- A read/write channel's loops in exact arithmetic (R224 to R228), for the head and zone of its run: the samples held with
the index of the next one and τ counted from the first of them, ν; G, o, α, taps, g₁, g₂, noise predictors; the newest
values y, z, decided bits, detector decisions, ε (newest first); bits near 0 in a row; loops frozen; the sum of ε² and its
number over the sector; the values captured while the STORE gate is on, with their flags; the sectors not yet in
SECTORS, head and zone of the last BIAS_SET and of the last PRECOMP, the last ASSIST_SET (head, MODE, current), times of the
sectors of R243. -/
structure Rwc where
  head    : Nat
  zone    : Nat
  xs      : List Rat
  next    : Word
  tau     : Rat
  nu      : Rat
  gain    : Rat
  off     : Rat
  asym    : Rat
  taps    : List Rat
  g1      : Rat
  g2      : Rat
  noise   : List (Rat × Rat × Rat)
  ys      : List Rat
  zs      : List Rat
  bits    : List Bool
  dets    : List Bool
  eps     : List Rat
  lowRun  : Nat
  frozen  : Bool
  errSum  : Rat
  errN    : Nat
  capture : List (Int × Nat)
  secN    : Nat
  lastBias : Option (Nat × Nat)
  lastPre : Option (Nat × Nat)
  lastAssist : Option (Nat × Nat × Nat)
  recent7 : List Nat
  deriving DecidableEq, Repr

/-- A sector that the decoder pool or the ladder works on (R203 to R206, R234, R238 to R240). Its place: channel, run tag,
index in the run, slot, drive LBA, kind, head, zone, track. Its sync result (0 SM1, 1 SM2, 2 missed), the alignment of the
mark found, the alignment decoded next, the scores S(d). Samples incomplete; occupying an entry of the retry store, with
the values and the channel snapshot of that entry; expired; its copies in DRAM, newest first. Its ladder step, the rereads
made in it, the trials left, the step's own decode still to come, iterations left over from a first decode that was held to
the limit of R235, the limit of the decode. Its first decode is still to end; waits for an engine; the engine working on it;
its row's space, address and number; it holds a place of R240; the reread it waits for; it belongs to an LB4 run. -/
structure LdpSector where
  ch      : Nat
  tag     : Word
  idx     : Nat
  slot    : Nat
  dlba    : Nat
  kind    : Nat
  head    : Nat
  zone    : Nat
  track   : Nat
  sync    : Nat
  mark    : Option Int
  align   : Int
  scores  : List (Int × Nat)
  incomplete : Bool
  stored  : Bool
  values  : List (Int × Nat)
  snap    : ChanEntry
  expired : Bool
  copies  : List (List (Int × Nat))
  step    : Nat
  reread  : Nat
  trials  : List Int
  own     : Bool
  more    : Nat
  iters   : Nat
  first   : Bool
  waiting : Bool
  engine  : Option Nat
  dst     : Option (Nat × Nat × Nat)
  place   : Bool
  rr      : Option Nat
  loop    : Bool
  deriving DecidableEq, Repr

/-- A head of the assist controller (R247 to R251): T_cal in 0.1 °C, m_cal, lasing threshold, the I_cal it starts from, drift
and event history, calibration due, before its next write, no writing above the limit, minute of the last calibration. -/
structure AssistHead where
  ical    : Nat
  tcal    : Int
  mcal    : Nat
  thresh  : Nat
  drifts  : Nat
  driftRun : Option Word
  events  : List Nat
  due     : Bool
  atOnce  : Bool
  noWrite : Bool
  calAt   : Nat
  deriving DecidableEq, Repr

/-- The decoder pool, the ladder and the assist controller: sectors in work, the channel tables by head and zone (R227) and
whether they changed since they were written back, the assist heads; `step8` holds head and hour of the sectors that reached step 8 (R242), `idleReread` the runs that read a sector
again with its drive LBA, `hot` the temperature of event 0x07 per front end, `outReset` the channels out of service until
the next device reset (R243). -/
structure Media where
  sectors  : List LdpSector
  table    : List ((Nat × Nat) × ChanEntry)
  changed  : Bool
  assist   : List AssistHead
  step8    : List (Nat × Nat)
  idleReread : List (Nat × Nat)
  hot      : List (Option Int)
  outReset : List Bool
  deriving DecidableEq, Repr

/-- A table entry that holds nothing: G 1, c₀ 1, variances 1 (assumption 3). -/
def ChanEntry.blank : ChanEntry :=
  { gain := 64, off := 0, asym := 0, taps := [0, 0, 0, 0, 0, 256, 0, 0, 0, 0, 0, 0], g1 := 0, g2 := 0,
    noise := List.replicate 32 (0, 0, 65536), precomp := List.replicate 8 0, bias := 0, heater := 0, icalW := 0 }

/-- A channel off, its loops at the defaults of a table that holds nothing (assumption 3): G 1, c₀ 1. -/
def Rwc.reset : Rwc :=
  { head := 0, zone := 0, xs := [], next := 0, tau := 3, nu := 0, gain := 1, off := 0, asym := 0,
    taps := [0, 0, 0, 0, 0, 1, 0, 0, 0, 0, 0, 0], g1 := 0, g2 := 0, noise := List.replicate 32 (0, 0, 1), ys := [],
    zs := [], bits := [], dets := [], eps := [], lowRun := 0, frozen := false, errSum := 0, errN := 0, capture := [],
    secN := 0, lastBias := none, lastPre := none, lastAssist := none, recent7 := [] }

/-- A head with nothing calibrated. -/
def AssistHead.reset : AssistHead := ⟨0, 0, 0, 0, 0, none, [], false, false, false, 0⟩

/-- No sector in work. -/
def Media.reset : Media :=
  { sectors := [], table := [], changed := false, assist := List.replicate 24 .reset, step8 := [], idleReread := [],
    hot := [none, none], outReset := [false, false, false, false] }

/-! ### Redundancy across surfaces and the Chest (chapter 09). -/

/-- A member entry of a placement record (R262): surface, state (0 live, 1 lost, 2 being written), band. -/
structure Member where
  surface : Nat
  state   : Nat
  band    : Nat
  deriving DecidableEq, Repr

/-- A placement record (R262), with the spare bands of its zone: (surface, band, vacated by a relocation). -/
structure Placement where
  zone     : Nat
  row      : Nat
  d        : Nat
  boundary : Nat
  moving   : Bool
  inPlace  : Bool
  lostRows : Bool
  reduced  : Bool
  waiting  : Bool
  kind     : Nat
  gen      : Nat
  cur      : List Member
  next     : List Member
  spares   : List (Nat × Nat × Bool)
  deriving DecidableEq, Repr

/-- A journal entry (R268) with its SEQ. -/
inductive JEntry where
  | begin_ (zone stripe first count : Nat) (placeNext : Bool)
  | commit (zone stripe first count : Nat) (placeNext : Bool)
  | moveStart (zone kind : Nat) (inPlace : Bool) (chg : List (Nat × Nat × Nat))
  | boundary (zone value : Nat)
  | ckpt (zone lo hi : Nat)
  | moveEnd (zone : Nat)
  | retire (surface : Nat)
  | lostRow (zone stripe row : Nat) (mask : Word)
  | metaCkpt (gen : Nat)
  | jband (actuator surface : Nat)
  | clean (saveId line : Nat)
  deriving DecidableEq, Repr

/-- The journal (R267 to R272): next SEQ, entries in SEQ order not yet in the Chest copy, entries in the Chest copy,
SEQ reached by the two band copies, SEQ of the newest META_CKPT, surfaces of the bands, and the half they write. -/
structure Journal where
  seq     : Nat
  pending : List (Nat × JEntry)
  chest   : List (Nat × JEntry)
  bandA   : Nat
  bandB   : Nat
  ckptSeq : Nat
  surfA   : Option Nat
  surfB   : Option Nat
  half    : Nat
  deriving DecidableEq, Repr

/-- The state of a Sideboard slot (R264, R265). -/
inductive SlotState where
  | filling | complete | begun | writing | committing
  deriving DecidableEq, Repr

/-- A Sideboard slot (R264): number, zone, stripe, first drive LBA, the blocks it holds by position, P and Q when
computed, what it is for: a home zone's stripe, or a media cache stripe. -/
structure SideSlot where
  num    : Nat
  zone   : Nat
  stripe : Nat
  first  : Nat
  blocks : List (Nat × Nat)
  cache  : Bool
  state  : SlotState
  underNext : Bool
  deriving DecidableEq, Repr

/-- A lost row of the list of R286. -/
structure LostRow where
  zone   : Nat
  stripe : Nat
  row    : Nat
  mask   : Word
  blocks : List Nat
  deriving DecidableEq, Repr

/-- The stripe engine (R257 to R294): placements, the Sideboard, the journal, the lost-row list, retired surfaces,
queued rebuild zones, relocations (zone, member), reshapes, the in-place chunk under way, journal bands to move, degraded
reads in fetch order. -/
structure Stripe where
  places   : List Placement
  slots    : List SideSlot
  journal  : Journal
  lost     : List LostRow
  retired  : List Nat
  rebuild  : List Nat
  relocs   : List (Nat × Nat)
  reshape  : List Nat
  jmoves   : List Nat
  degraded : List Nat
  deriving DecidableEq, Repr

/-- A journal with nothing in it. -/
def Journal.reset : Journal := ⟨1, [], [], 0, 0, 0, none, none, 0⟩

/-- A stripe engine that holds nothing. -/
def Stripe.reset : Stripe :=
  { places := [], slots := [], journal := .reset, lost := [], retired := [], rebuild := [], relocs := [], reshape := [],
    jmoves := [], degraded := [] }


/-! ### Buffer memory and error control (chapter 10). -/

/-- A block of the write cache (R304, R366, R370): drive LBA, FSN of the writer whose data it holds, ciphertext, part,
dirty, whether it is the block's current data, poisoned (R309), readers that pin it, its Sideboard slot. -/
structure CBlock where
  dlba     : Nat
  fsn      : Nat
  data     : Bytes
  prot     : Bool
  dirty    : Bool
  current  : Bool
  poisoned : Bool
  pins     : List Nat
  slot     : Option Nat
  deriving DecidableEq, Repr

/-- A window staging line (R295, R299): line number of the window, dirty, its 256 bytes. -/
structure WinLine where
  line  : Nat
  dirty : Bool
  data  : Bytes
  deriving DecidableEq, Repr

/-- An entry of the repeat tracker (R306). -/
structure Track where
  mem     : Mem
  addr    : Nat
  written : Bool
  deriving DecidableEq, Repr

/-- A codeword the flip mask has corrupted (R312): its memory and address, the mask of an SRAM codeword, the patterns of
DRAM symbols. -/
structure Flip where
  mem  : Mem
  addr : Nat
  mask : Nat
  syms : List (Nat × Nat)
  deriving DecidableEq, Repr

/-- What the Nightstand keeps of the memories (R45, R296, R307): the spare-row map (bank, spare, row), the page
retirement list (page, pool page), the trained DRAM values. -/
structure Retained where
  rows    : List (Nat × Nat × Nat)
  pages   : List (Nat × Nat)
  trained : Option Nat
  deriving DecidableEq, Repr

/-- The buffer manager and the memory error controller. The SRAM and the DRAM are canonical lists of cells keyed by SRAM
byte address and by usable address (R300); an unlisted cell reads 0. `lines` is in order of use, least recent first.
`scrub` is, per memory, the running pass: corrections, uncorrectable errors, triggered. `deferred` are the write-backs a hold-up save holds
back (R313), `ueFetch` the address of the last uncorrectable patch fetch (R309). -/
structure Buf where
  sram     : List Host.Cell
  dram     : List Host.Cell
  flips    : List Flip
  cache    : List CBlock
  rcache   : List (Nat × Bytes)
  lines    : List WinLine
  limit    : Nat
  unsafeDirty : Nat
  track    : List Track
  kept     : Retained
  badSpares : List (Nat × Nat)
  exhausted : List Mem
  scrubS   : Option (Nat × Nat × Bool)
  scrubD   : Option (Nat × Nat × Bool)
  rates    : List Byte
  selfRef  : Bool
  deferred : List Track
  ueFetch  : Option Nat
  deriving DecidableEq, Repr

/-- Nothing kept: VDD_NST has just come up (R296). -/
def Retained.reset : Retained := ⟨[], [], none⟩

/-- Empty memories. -/
def Buf.reset : Buf :=
  { sram := [], dram := [], flips := [], cache := [], rcache := [], lines := [], limit := 0, unsafeDirty := 0,
    track := [], kept := .reset, badSpares := [], exhausted := [], scrubS := none, scrubD := none, rates := [],
    selfRef := false, deferred := [], ueFetch := none }

/-! ### DMA fabric (chapter 11). -/

/-- A ring channel (R319, R320) beside its registers: the descriptor in progress with the bytes its PCIe source
returned, a KICK remembered, idle. -/
structure Ring where
  cur    : Option (Desc × List Bytes)
  kicked : Bool
  idle   : Bool
  deriving DecidableEq, Repr

/-- A streaming channel (R321 to R323): active set, shadow set, rows done of the active set. -/
structure Stream where
  active : Option Desc
  shadow : Option Desc
  rows   : List Nat
  deriving DecidableEq, Repr

/-- The DMA fabric: ring and streaming channels, the CTRL dwords the channels wrote in the descriptor region (by 32-byte
unit), pulses waiting per event line, the line that pulsed in the last delivery, and whether channels idle until the
next start (R329). -/
structure Dma where
  rings   : List Ring
  streams : List Stream
  ctrl    : List (Nat × Word)
  waiting : List Nat
  pulsed  : Option Nat
  paused  : Bool
  deriving DecidableEq, Repr

/-- A ring channel that has taken nothing. -/
def Ring.reset : Ring := ⟨none, false, true⟩

/-- A streaming channel with no set. -/
def Stream.reset : Stream := ⟨none, none, []⟩

/-- Every channel idle. -/
def Dma.reset : Dma :=
  { rings := List.replicate 64 .reset, streams := List.replicate 8 .reset, ctrl := [], waiting := List.replicate 64 0,
    pulsed := none, paused := false }

/-! ### Namespaces, zones and the zone map cache (chapter 12). -/

/-- The recorded layout (R331 to R334): Z, M, C, N_Z, the 512-byte format of the conventional namespace, D. -/
structure Layout where
  z    : Nat
  m    : Nat
  c    : Nat
  nz   : Nat
  b512 : Bool
  d    : Nat
  deriving DecidableEq, Repr

/-- A zone descriptor (R343) with its home frontier in stripes (R338): STATE 0 Empty, 1 Implicitly Opened, 2 Explicitly
Opened, 3 Closed, 4 Full, 5 conventional. -/
structure ZoneDesc where
  home     : Nat
  state    : Nat
  merging  : Bool
  wp       : Nat
  last     : Nat
  frontier : Nat
  deriving DecidableEq, Repr

/-- A media cache index extent (R339). -/
structure Extent where
  dlba   : Nat
  count  : Nat
  pzone  : Nat
  stripe : Nat
  off    : Nat
  zero   : Bool
  deriving DecidableEq, Repr

/-- A change of the map that the index log records (R340). -/
inductive LogRec where
  | extent (e : Extent)
  | remove (dlba count : Nat)
  | homeSwitch (zone home : Nat)
  | zoneChange (zone state wp : Nat)
  deriving DecidableEq, Repr

/-- A line of the map cache (R348): the 256-byte unit it holds, dirty, locked, awaiting a fill, being written back. -/
structure MapLine where
  unit   : Option Nat
  dirty  : Bool
  locked : Bool
  filling : Bool
  wback  : Bool
  deriving DecidableEq, Repr

/-- A miss register (R350, R351): its unit, its line once it has one, whether a write missed, secondaries in order (a
write or not), waiting for a write-back, whether a preload locks the line, and whether the preload is its primary. -/
structure MissReg where
  unit     : Nat
  line     : Option Nat
  write    : Bool
  second   : List Bool
  waitWb   : Bool
  lock     : Bool
  preload  : Bool
  deriving DecidableEq, Repr

/-- A merge of a home zone (R342): logical zone, target physical zone, the extents its snapshot included, whether a Zone
Reset abandoned it. -/
structure Merge where
  zone    : Nat
  target  : Nat
  snap    : List Extent
  highest : Nat
  deriving DecidableEq, Repr

/-- The zone map unit. `ring` is the current pool zone and its next stripe position; `order` the pool zones in the order
they were taken, oldest first; `log` the records of the current log zone, `logBase` the extents of its base. -/
structure Zmu where
  layout   : Option Layout
  zones    : List ZoneDesc
  extents  : List Extent
  ring     : Nat × Nat
  order    : List Nat
  logZone  : Nat
  log      : List LogRec
  logBytes : Nat
  logBase  : List Extent
  coreZone : Nat
  coreGen  : Nat
  merges   : List Merge
  lines    : List MapLine
  plru     : List Bool
  miss     : List (Option MissReg)
  waitMiss : List (Nat × Bool)
  deriving DecidableEq, Repr

/-- An empty line. -/
def MapLine.reset : MapLine := ⟨none, false, false, false, false⟩

/-- No layout recorded, an empty map cache. -/
def Zmu.reset : Zmu :=
  { layout := none, zones := [], extents := [], ring := (4, 0), order := [], logZone := 2,
    log := [], logBytes := 0, logBase := [], coreZone := 0, coreGen := 0, merges := [],
    lines := List.replicate 48 .reset, plru := List.replicate 64 false, miss := List.replicate 8 none, waitMiss := [] }

/-! ### Commands and the coherent view (chapter 13). -/

/-- A status code (R388): SCT, SC, DNR. -/
structure Status where
  sct : Nat
  sc  : Nat
  dnr : Bool
  deriving DecidableEq, Repr

/-- How far a command of the command store has come: fetched; its own row has run and it waits for its ordering point; a
reader past its snapshot; a writer admitted to the cache; its outcome committed. -/
inductive CmdPhase where
  | fetched | ready | snapped | admitted | committed
  deriving DecidableEq, Repr

/-- Where a reader found the current data of a block at its snapshot (R338, R365): the cached block of a writer's FSN,
the read cache, zeros, a lost block, or a place on media (physical zone, stripe, offset in the stripe). -/
inductive Loc where
  | cache (fsn : Nat)
  | rcache
  | zero
  | lost
  | media (pzone stripe off : Nat)
  deriving DecidableEq, Repr

/-- The run of a vendor command (R424): its next piece, pieces in all, the ring channel of a peer command, the record
counts, aggregates, emitted bytes and hash input of a SCAN. -/
structure VendorRun where
  next    : Nat
  pieces  : Nat
  chan    : Nat
  active  : Bool
  desc    : Bytes
  blocks  : Nat
  records : Nat
  matched : Nat
  emitted : Bytes
  full    : Bool
  lost    : Nat
  aggs    : List (Option Int)
  hash    : Bytes
  deriving DecidableEq, Repr

/-- An entry of the command store (R359) with its Hatrack entries (R364: first drive LBA, count, writer). `buf` holds
its buffered blocks (drive LBA, ciphertext), `waitFor` the blocks (drive LBA, FSN) whose durability it waits for. -/
structure Cmd where
  fsn     : Nat
  sqid    : Nat
  sqe     : Sqe
  phase   : CmdPhase
  status  : Option Status
  dw0     : Nat
  dw1     : Nat
  ranges  : List (Nat × Nat × Bool)
  passed  : Bool
  buf     : List (Nat × Bytes)
  locs    : List (Nat × Loc)
  prot    : Option Bool
  waitAdm : Bool
  waitFor : List (Nat × Nat)
  lba     : Nat
  aborts  : Option Nat
  vendor  : Option VendorRun
  deriving DecidableEq, Repr

/-- A submission queue (R357): entries, tail, head, completion queue, priority, created by the host. -/
structure Sq where
  qid  : Nat
  size : Nat
  tail : Nat
  head : Nat
  cqid : Nat
  prio : Nat
  deriving DecidableEq, Repr

/-- A completion queue (R357): entries, tail, head, phase tag, interrupts enabled, vector, completions since the last
interrupt (R363). -/
structure Cq where
  qid   : Nat
  size  : Nat
  tail  : Nat
  head  : Nat
  phase : Bool
  ien   : Bool
  iv    : Nat
  held  : Nat
  deriving DecidableEq, Repr

/-- A completion entry as posted (R376). -/
structure Cqe where
  cqid   : Nat
  slot   : Nat
  dw0    : Nat
  dw1    : Nat
  sqid   : Nat
  sqhd   : Nat
  cid    : Nat
  phase  : Bool
  status : Status
  deriving DecidableEq, Repr

/-- An entry of the Error Information log (R382, R395). -/
structure ErrEntry where
  count  : Nat
  sqid   : Nat
  cid    : Nat
  status : Nat
  loc    : Nat
  lba    : Nat
  nsid   : Nat
  deriving DecidableEq, Repr

/-- A result of the Device Self-test log (R360): code, result, power-on hours. -/
structure StResult where
  code   : Nat
  result : Nat
  hours  : Nat
  deriving DecidableEq, Repr

/-- The features (R363): the values the host set. -/
structure Feats where
  arb    : Word
  overT  : Nat
  under  : Nat
  wce    : Bool
  coal   : Word
  noCoal : List Nat
  aec    : Nat
  apst   : List Nat
  deriving DecidableEq, Repr

/-- The controller registers of BAR0 (R397). -/
structure NvmeRegs where
  intm  : Bool
  cc    : Word
  rdy   : Bool
  cfs   : Bool
  shst  : Nat
  nssro : Bool
  aqa   : Word
  asq   : Word64
  acq   : Word64
  deriving DecidableEq, Repr

/-- A run queued in the media scheduler (R378): number, actuator, kind (0 degraded member read, 1 reread, 2 host read,
3 segment write, 4 background), surface and target track, time of its fetch or launch in ms, urgent class. -/
structure MRun where
  id     : Nat
  act    : Nat
  kind   : Nat
  head   : Nat
  since  : Nat
  urgent : Bool
  run    : RunCmd
  deriving DecidableEq, Repr

/-- The command and coherence unit, the logs and the media scheduler. `why` holds the causes (bit, cause) of the Critical
Warning bits; `ndcN`, `ptxTx`, `ptxRx` the parts of a unit of NDC.BLOCKS and PTX.BYTES not yet counted; `uncorrect` the lost ranges (drive LBA, count) outside the lost-row list; `notReady` the DNR of Namespace
Not Ready while the namespaces are not open. -/
structure Cqu where
  sqs     : List Sq
  cqs     : List Cq
  nextFsn : Nat
  store   : List Cmd
  stopped : Bool
  fetchOff : Bool
  feats   : Feats
  nvme    : NvmeRegs
  aers    : List Nat
  events  : List (Nat × Nat × Nat)
  masked  : List Nat
  warning : Nat
  why     : List (Nat × Nat)
  errors  : List ErrEntry
  errCount : Nat
  test    : Nat
  results : List StResult
  scans   : List Bytes
  pages   : List (Nat × Bytes)
  readRem : Nat
  writeRem : Nat
  hostRd  : Nat
  hostWr  : Nat
  notReady : Option Bool
  holdIo  : Bool
  uncorrect : List (Nat × Nat)
  startLog : Bytes
  runs    : List MRun
  nextRun : Nat
  ndcN    : Nat
  ptxTx   : Nat
  ptxRx   : Nat
  deriving DecidableEq, Repr

/-- The defaults of the features (R363): WCE 1; values the spec does not give are 0. -/
def Feats.reset : Feats := ⟨0, 0, 0, true, 0, [], 0, List.replicate 32 0⟩

/-- The controller registers at reset: CC, AQA, ASQ, ACQ 0, not ready. -/
def NvmeRegs.reset : NvmeRegs := ⟨false, 0, false, false, 0, false, 0, 0, 0⟩

/-- No queue, no command. -/
def Cqu.reset : Cqu :=
  { sqs := [], cqs := [], nextFsn := 0, store := [], stopped := false, fetchOff := false, feats := .reset,
    nvme := .reset, aers := [], events := [], masked := [], warning := 0, why := [], errors := [], errCount := 0, test := 0,
    results := [], scans := [], pages := [], readRem := 0, writeRem := 0, hostRd := 0, hostWr := 0, notReady := some false,
    holdIo := false, uncorrect := [], startLog := [], runs := [], nextRun := 0, ndcN := 0,
    ptxTx := 0, ptxRx := 0 }

/-! ### Host port (chapter 14). -/

/-- An MSI-X table entry (R395, R396). -/
structure MsixEntry where
  addr : Word64
  data : Word
  mask : Bool
  deriving DecidableEq, Repr

/-- Something the host port has sent to the host: a completion entry, an interrupt message of a vector, INTA asserted or
not, a command's data, a memory write, a PME_TO_Ack, a poisoned or an unsupported completion, read data. -/
inductive Out where
  | cqe (e : Cqe)
  | msix (vector : Nat) (addr : Word64) (data : Word)
  | inta (on : Bool)
  | data (fsn : Nat) (b : Bytes)
  | memWrite (addr : Nat) (b : Bytes)
  | pmeToAck
  | poisoned
  | unsupported
  | readData (b : Bytes)
  | ltr (ms : Bool)
  deriving DecidableEq, Repr

/-- A media key pair (R405, R406): the slot (0 conventional, 1 zoned, 2 metadata), K1, K2. -/
structure KeyPair where
  slot : Nat
  k1   : Bytes
  k2   : Bytes
  deriving DecidableEq, Repr

/-- SPDM state (R404, R455): the step reached (0 none, 1 version, 2 capabilities, 3 algorithms), the bytes of the
version, capabilities and algorithms messages, of the digest and certificate messages, and of the measurement messages
since the last signature. -/
structure Spdm where
  stage : Nat
  vca   : Bytes
  certs : Bytes
  meas  : Bytes
  deriving DecidableEq, Repr

/-- The AER capability (R410): uncorrectable and correctable status, First Error Pointer, header log. -/
structure Aer where
  uncor  : Nat
  cor    : Nat
  first  : Option Nat
  header : Nat
  deriving DecidableEq, Repr

/-- The host port. `doeReq` is the request the firmware works on (R404); `sendq` holds what waits in D3hot (R399). -/
structure Hpt where
  bar0    : Nat
  bar2    : Nat
  bar4    : Nat
  msixEn  : Bool
  fmask   : Bool
  msix    : List MsixEntry
  pba     : List Bool
  inta    : Bool
  training : Bool
  aspm    : Bool
  mps     : Nat
  aer     : Aer
  doeBusy : Bool
  doeErr  : Bool
  doeResp : Option (List Word)
  doeReq  : Bytes
  spdm    : Spdm
  keys    : List KeyPair
  encN    : Nat
  decN    : Nat
  follower : Bool
  ltrIdle : Bool
  out     : List Out
  sendq   : List Out
  deriving DecidableEq, Repr

/-- No SPDM state. -/
def Spdm.reset : Spdm := ⟨0, [], [], []⟩

/-- No error logged. -/
def Aer.reset : Aer := ⟨0, 0, none, 0⟩

/-- The host port in reset: nothing enabled, every vector masked. -/
def Hpt.reset : Hpt :=
  { bar0 := 0, bar2 := 0, bar4 := 0, msixEn := false, fmask := false, msix := List.replicate 65 ⟨0, 0, true⟩,
    pba := List.replicate 65 false, inta := false, training := false, aspm := false, mps := 128, aer := .reset,
    doeBusy := false, doeErr := false, doeResp := none, doeReq := [], spdm := .reset, keys := [],
    encN := 0, decN := 0, follower := false, ltrIdle := true, out := [], sendq := [] }

/-! ### Power, boot record, Credenza, test unit (chapters 15 to 18). -/

/-- A power transition in progress (R435 to R438, R446): to a state of PS0 to PS4, entering or leaving, its next step. -/
structure Trans where
  to_   : Nat
  enter : Bool
  step  : Nat
  deriving DecidableEq, Repr

/-- Power management (R432 to R444): the last operational state the host selected, the transition in progress, a request
waiting for its end, the last four readings of the four sensors. -/
structure Power where
  lastOp  : Nat
  trans   : Option Trans
  want    : Option Nat
  temps   : List (List Int)
  deriving DecidableEq, Repr

/-- The Bureau (R447 to R470): DK's public point once derived, the mirror of the boot counter in the Nightstand, the
measurement blocks present, the chain buffer, and Sanitize Status (R462): SSTAT, passes, Global Data Erased, CDW10; and
whether an operation runs, with step failures in a row. -/
structure Bureau where
  dkPub   : Option Bytes
  mirror  : Option Nat
  blocks  : List (Nat × Bytes)
  chainBuf : List (Nat × Byte)
  chain   : Bytes
  sstat   : Nat
  passes  : Nat
  erased  : Bool
  scdw10  : Word
  running : Bool
  deriving DecidableEq, Repr

/-- A value of the Credenza (R471): value and saturated flag. -/
abbrev CrdVal := Nat × Bool

/-- The working copy of the Credenza (R471 to R476): counters by (ID, INSTANCE), bins by (HID, INSTANCE, BIN), ICAL_MFG
by head, minutes since the last write, a CLEAR that waits for a persist, hours at retirement and last calibration. -/
structure Credenza where
  cnt     : List ((Nat × Nat) × CrdVal)
  bins    : List ((Nat × Nat × Nat) × CrdVal)
  icalMfg : List Nat
  gen     : Nat
  minutes : Nat
  busy    : Bool
  clearWait : Bool
  retiredAt : List (Nat × Nat)
  calAt   : List (Nat × Nat)
  late    : List (Nat × Nat)
  deriving DecidableEq, Repr

/-- A Credenza slot of the Chest (R474). -/
structure CredSlot where
  gen     : Nat
  cnt     : List ((Nat × Nat) × CrdVal)
  bins    : List ((Nat × Nat × Nat) × CrdVal)
  icalMfg : List Nat
  rows    : List (Nat × Nat × Nat)
  pages   : List (Nat × Nat)
  retiredAt : List (Nat × Nat)
  calAt   : List (Nat × Nat)
  late    : List (Nat × Nat)
  deriving DecidableEq, Repr

/-- A step of a Sanitize or Format as the progress record holds it (R467). -/
structure Progress where
  op      : Nat
  step    : Nat
  passes  : Nat
  seq     : Nat
  cdw10   : Word
  pattern : Word
  zone    : Nat
  retired : Nat
  layout  : Layout
  boot    : Nat
  keys    : List (Nat × Bytes)
  deriving DecidableEq, Repr

/-- The test unit (R484 to R492): the digest buffer. -/
structure TestUnit where
  digest  : List (Nat × Byte)
  deriving DecidableEq, Repr

/-- No transition, PS0. -/
def Power.reset : Power := ⟨0, none, none, []⟩

/-- Nothing derived or measured. -/
def Bureau.reset : Bureau :=
  { dkPub := none, mirror := none, blocks := [], chainBuf := [], chain := [], sstat := 0, passes := 0, erased := false,
    scdw10 := 0, running := false }

/-- Every counter and bin 0. -/
def Credenza.reset : Credenza :=
  { cnt := [], bins := [], icalMfg := List.replicate 24 0, gen := 0, minutes := 0, busy := false, clearWait := false,
    retiredAt := [], calAt := [], late := [] }

/-- An empty digest buffer (R492). -/
def TestUnit.reset : TestUnit := ⟨[]⟩

/-! ### The Chest and the persistent records (R273 to R276, R449, R450, R467, R474). -/

/-- The Chest header (R273). STATE: 0 empty, 1 saved, 2 flushed, 3 erasing, 4 saving. -/
structure ChestHeader where
  saveId  : Nat
  lines   : Nat
  skipped : Nat
  state   : Nat
  serialA : Bytes
  serialB : Bytes
  deriving DecidableEq, Repr

/-- A saved line (R273): index, NAND device, drive LBA, SAVE_ID, payload, and whether its CRC was inverted (R309). -/
structure SavedLine where
  index  : Nat
  dev    : Nat
  dlba   : Nat
  saveId : Nat
  data   : Bytes
  bad    : Bool
  deriving DecidableEq, Repr

/-- The core map of the last metadata checkpoint (R341): generation, layout, zone descriptors, placement
records, lost-row list, retired surfaces, and the wrapped media keys (R406). -/
structure CoreMap where
  gen     : Nat
  layout  : Option Layout
  zones   : List ZoneDesc
  places  : List Placement
  lost    : List LostRow
  retired : List Nat
  keys    : List (Nat × Bytes)
  deriving DecidableEq, Repr

/-- The Chest (R273 to R276): header, saved lines, erased blocks of the save area per device, whether each device can be
read and written, bad blocks, a save running; and the persistent images held there: Credenza slots, the progress record,
the certificate chain, the copies of the boot counter. -/
structure Chest where
  header   : ChestHeader
  saved    : List SavedLine
  erased   : List Nat
  readOk   : List Bool
  writeOk  : List Bool
  bad      : List Nat
  saving   : Bool
  credSlots : List (Option CredSlot)
  progress : Option Progress
  chain    : Bytes
  bootCount : List (Option Nat)
  deriving DecidableEq, Repr

/-- No checkpoint on media. -/
def CoreMap.reset : CoreMap := ⟨0, none, [], [], [], [], []⟩

/-- A Chest as on a drive never formatted: serials all zero (R273), save area erased, both devices answering. -/
def Chest.reset : Chest :=
  { header := ⟨0, 0, 0, 0, List.replicate 16 0, List.replicate 16 0⟩, saved := [], erased := [1024, 1024],
    readOk := [true, true], writeOk := [true, true], bad := [0, 0], saving := false, credSlots := [none, none],
    progress := none, chain := [], bootCount := [none, none] }

/-! ### The machine. -/

/-- The state of the block: the controller, the parts whose state its commands change (the two front ends, the motion
power chip, the Chest, what the boot NOR and the media hold of its own records), the queue of waiting commands, and a
count of the free values used (`freeCount` is the model's own field, not the spec's: assumption 5). -/
structure State where
  regs    : RegFile
  pins    : Pins
  start   : Start
  cfg     : Option OptCfg
  plat    : PlatCfg
  opt     : Option OptImage
  fw      : Option FwImage
  patches : Patches
  fuses   : Fuses
  nor     : Nor
  ident   : Idents
  linkA   : Link
  linkB   : Link
  linkZ   : Link
  feA     : FrontEnd
  feB     : FrontEnd
  motion  : MotionChip
  rep     : Reports
  spin    : Spindle
  servoA  : ServoAct
  servoB  : ServoAct
  tables  : ServoTables
  fsqs    : List Fsq
  rwcs    : List Rwc
  media   : Media
  defects : List DefectDesc
  stripe  : Stripe
  chest   : Chest
  core    : CoreMap
  buf     : Buf
  dma     : Dma
  zmu     : Zmu
  cqu     : Cqu
  hpt     : Hpt
  power   : Power
  bur     : Bureau
  crd     : Credenza
  tst     : TestUnit
  freeCount : Nat
  pending : List Instr
  deriving DecidableEq, Repr

/-- Why a step stops with a fault. -/
inductive Fault where
  /-- Raised by an access to an SRAM or DRAM address beyond the memory the spec gives (R295, R300); safe: the hardware
  has no such address. -/
  | noSuchAddress (mem : Mem) (addr : Nat)
  deriving DecidableEq, Repr

/-- Why a step is refused. -/
inductive Refusal where
  /-- Raised by an arm of `exec` whose command has no meaning yet; safe: the hardware goes on where the model stops. -/
  | notModelled (mnemonic : String)
  deriving DecidableEq, Repr

/-- The machine right after reset: a power-on has just been detected on VDD_NST (R37), every register at its cold value
(R15), the power-on cause recorded, nothing loaded and no command waiting. -/
def State.reset : State :=
  { regs := [(0, 1)], pins := .reset, start := .reset, cfg := none, plat := .reset, opt := none, fw := none, patches := .reset,
    fuses := .reset, nor := .reset, ident := .reset, linkA := .reset, linkB := .reset, linkZ := .reset, feA := .reset,
    feB := .reset, motion := .reset, rep := .reset, spin := .reset, servoA := .reset, servoB := .reset,
    tables := .reset, fsqs := List.replicate 4 .reset, rwcs := List.replicate 4 .reset, media := .reset, defects := [],
    stripe := .reset, chest := .reset, core := .reset, buf := .reset, dma := .reset, zmu := .reset, cqu := .reset,
    hpt := .reset, power := .reset, bur := .reset, crd := .reset, tst := .reset, freeCount := 0, pending := [] }

end Sys2Proof.Machine
end

