-- ==== Sys2Proof/Machine/Ops.lean ====
section
/-!
DEFINITION. Operations that every family shares: reading and writing register fields, free values, association lists,
commands of the command store, asynchronous events and critical warnings (R386, R383), the Credenza (R471 to R473),
event lines (R326, R327).
-/

namespace Sys2Proof

/-- The bytes a code covers: an SRAM byte, a DRAM granule of 32 bytes (R297, R298). -/
def Mem.unit : Mem → Nat
  | .sram => 1
  | .dram => 32

/-- The unit of a memory an address lies in: the SRAM byte address, the granule index (R300). -/
def Mem.unitOf (m : Mem) (a : Nat) : Nat := a / m.unit

/-- The memory's instance number in the Credenza: 0 SRAM, 1 DRAM (R475). -/
def Mem.num : Mem → Nat
  | .sram => 0
  | .dram => 1

/-- The Ezpol port of an actuator (R7). -/
def Act.port : Act → Port
  | .a => .ezpolA
  | .b => .ezpolB

/-- An actuator's number: 0 A, 1 B (R7). -/
def Act.num : Act → Nat
  | .a => 0
  | .b => 1

end Sys2Proof

namespace Sys2Proof.Machine

/-! ### Lists. -/

/-- The value of a key in an association list. -/
def assocGet {κ α : Type} [DecidableEq κ] (d : α) : List (κ × α) → κ → α
  | [], _ => d
  | (k, v) :: t, x => if x = k then v else assocGet d t x

/-- Whether a key has an entry. -/
def assocHas {κ α : Type} [DecidableEq κ] (l : List (κ × α)) (x : κ) : Bool := l.any fun e => e.1 == x

/-- Set the value of a key. -/
def assocPut {κ α : Type} [DecidableEq κ] : List (κ × α) → κ → α → List (κ × α)
  | [], x, v => [(x, v)]
  | (k, w) :: t, x, v => if x = k then (k, v) :: t else (k, w) :: assocPut t x v

/-- Remove a key. -/
def assocDel {κ α : Type} [DecidableEq κ] (l : List (κ × α)) (x : κ) : List (κ × α) := l.filter fun e => e.1 != x

/-- Change the element at an index, where there is one. -/
def modifyAt {α : Type} : List α → Nat → (α → α) → List α
  | [], _, _ => []
  | x :: t, 0, f => f x :: t
  | x :: t, n + 1, f => x :: modifyAt t n f

/-- Put an element at an index, where there is one. -/
def setAt {α : Type} (l : List α) (n : Nat) (v : α) : List α := modifyAt l n fun _ => v

/-! ### Registers. -/

/-- A register field's value. -/
def State.get (s : State) (f : Fld) : Nat := s.regs.get f

/-- A one-bit field as a truth value. -/
def State.flag (s : State) (f : Fld) : Bool := s.regs.flag f

/-- Set a register field. -/
def State.put (s : State) (f : Fld) (v : Nat) : State := { s with regs := s.regs.set f v }

/-- Set a one-bit field. -/
def State.putB (s : State) (f : Fld) (b : Bool) : State := { s with regs := s.regs.setB f b }

/-- Add to a saturating field (R14). -/
def State.bump (s : State) (f : Fld) (n : Nat) : State := s.put f (min (s.get f + n) (2 ^ f.width - 1))

/-- Manufacturing mode: BOOT_SRC was sampled as 0b11 (R41, R482). -/
def State.mfg (s : State) : Bool := s.get Reg.RCU.STRAPS.BOOT_SRC == 3

/-- The host reaches BAR0: the link is up and not in loopback, the host port is out of reset, and P5 has ended (R59). -/
def State.hostUp (s : State) : Bool :=
  s.get Reg.HPT.LINK.SPEED != 0 && !s.hpt.follower && s.start.blocks.getD 8 .inReset != .resetting &&
  s.start.blocks.getD 8 .inReset != .waitClock && decide (s.get Reg.BUR.STATUS.STAGE ≥ 5)

/-- Replace the registers that a request bit names: a write that takes effect only in manufacturing mode (R14). -/
def State.inMfg (s : State) (f : State → State) : State := if s.mfg then f s else s

/-- A write of a word to a register by its access masks (R14). -/
def State.writeMasked (s : State) (slot off : Nat) (w : Word) : State :=
  match Reg.row? slot off with
  | none => s
  | some r => { s with regs := s.regs.setWord (Reg.key slot off) (r.write (s.regs.word (Reg.key slot off)) w) }

/-- A value the spec leaves open: the next free value. -/
def State.free (s : State) : Nat × State := (Config.freeValue s.freeCount, { s with freeCount := s.freeCount + 1 })

/-! ### Parts of the state by actuator and port. -/

/-- The link of a port (R93). -/
def State.link (s : State) : Port → Link
  | .ezpolA => s.linkA
  | .ezpolB => s.linkB
  | .zhosel => s.linkZ

/-- Change the link of a port. -/
def State.setLink (s : State) (p : Port) (l : Link) : State :=
  match p with
  | .ezpolA => { s with linkA := l }
  | .ezpolB => { s with linkB := l }
  | .zhosel => { s with linkZ := l }

/-- The front end of an actuator. -/
def State.fe (s : State) : Act → FrontEnd
  | .a => s.feA
  | .b => s.feB

/-- Change the front end of an actuator. -/
def State.setFe (s : State) (x : Act) (f : FrontEnd) : State :=
  match x with
  | .a => { s with feA := f }
  | .b => { s with feB := f }

/-- The servo loop engine of an actuator. -/
def State.servo (s : State) : Act → ServoAct
  | .a => s.servoA
  | .b => s.servoB

/-- Change the servo loop engine of an actuator. -/
def State.setServo (s : State) (x : Act) (v : ServoAct) : State :=
  match x with
  | .a => { s with servoA := v }
  | .b => { s with servoB := v }

/-! ### Status codes (R388). -/

/-- Successful Completion. -/
def Status.ok : Status := ⟨0, 0x00, false⟩
/-- Invalid Command Opcode. -/
def Status.badOpcode : Status := ⟨0, 0x01, true⟩
/-- Invalid Field in Command. -/
def Status.badField : Status := ⟨0, 0x02, true⟩
/-- Data Transfer Error. -/
def Status.dataXfer : Status := ⟨0, 0x04, false⟩
/-- Internal Error. -/
def Status.internal : Status := ⟨0, 0x06, false⟩
/-- Command Abort Requested. -/
def Status.aborted : Status := ⟨0, 0x07, false⟩
/-- Command Aborted due to SQ Deletion. -/
def Status.sqDeleted : Status := ⟨0, 0x08, false⟩
/-- Invalid Namespace or Format. -/
def Status.badNs : Status := ⟨0, 0x0B, true⟩
/-- Sanitize In Progress. -/
def Status.sanitizing : Status := ⟨0, 0x1D, false⟩
/-- Namespace is Write Protected. -/
def Status.writeProt : Status := ⟨0, 0x20, true⟩
/-- LBA Out of Range. -/
def Status.lbaRange : Status := ⟨0, 0x80, true⟩
/-- Namespace Not Ready, with the DNR of R387. -/
def Status.notReady (dnr : Bool) : Status := ⟨0, 0x82, dnr⟩
/-- Format In Progress. -/
def Status.formatting : Status := ⟨0, 0x84, false⟩
/-- Completion Queue Invalid. -/
def Status.cqInvalid : Status := ⟨1, 0x00, true⟩
/-- Invalid Queue Identifier. -/
def Status.badQid : Status := ⟨1, 0x01, true⟩
/-- Invalid Queue Size. -/
def Status.badQsize : Status := ⟨1, 0x02, true⟩
/-- Abort Command Limit Exceeded. -/
def Status.abortLimit : Status := ⟨1, 0x03, true⟩
/-- Asynchronous Event Request Limit Exceeded. -/
def Status.aerLimit : Status := ⟨1, 0x05, true⟩
/-- Invalid Firmware Slot. -/
def Status.fwSlot : Status := ⟨1, 0x06, true⟩
/-- Invalid Firmware Image. -/
def Status.fwImage : Status := ⟨1, 0x07, true⟩
/-- Invalid Interrupt Vector. -/
def Status.badVector : Status := ⟨1, 0x08, true⟩
/-- Invalid Log Page. -/
def Status.badLog : Status := ⟨1, 0x09, true⟩
/-- Invalid Format. -/
def Status.badFormat : Status := ⟨1, 0x0A, true⟩
/-- Invalid Queue Deletion. -/
def Status.badDelete : Status := ⟨1, 0x0C, true⟩
/-- Feature Identifier Not Saveable. -/
def Status.notSaveable : Status := ⟨1, 0x0D, true⟩
/-- Firmware Activation Requires NVM Subsystem Reset. -/
def Status.needsReset : Status := ⟨1, 0x10, true⟩
/-- Overlapping Range. -/
def Status.overlap : Status := ⟨1, 0x14, true⟩
/-- Device Self-test in Progress. -/
def Status.selfTest : Status := ⟨1, 0x1D, true⟩
/-- Zone Boundary Error. -/
def Status.zoneBoundary : Status := ⟨1, 0xB8, true⟩
/-- Zone Is Full. -/
def Status.zoneFull : Status := ⟨1, 0xB9, true⟩
/-- Zone Invalid Write. -/
def Status.zoneWrite : Status := ⟨1, 0xBC, true⟩
/-- Too Many Active Zones. -/
def Status.tooActive : Status := ⟨1, 0xBD, true⟩
/-- Too Many Open Zones. -/
def Status.tooOpen : Status := ⟨1, 0xBE, true⟩
/-- Invalid Zone State Transition. -/
def Status.zoneTrans : Status := ⟨1, 0xBF, true⟩
/-- Unrecovered Read Error. -/
def Status.unrecovered : Status := ⟨2, 0x81, true⟩

/-! ### The command store. -/

/-- The command with a fetch sequence number, while it is in the store (R359). -/
def State.cmd? (s : State) (fsn : Nat) : Option Cmd := s.cqu.store.find? fun c => c.fsn == fsn

/-- Replace a command of the store. -/
def State.setCmd (s : State) (c : Cmd) : State :=
  { s with cqu := { s.cqu with store := s.cqu.store.map fun d => if d.fsn = c.fsn then c else d } }

/-- Commit the outcome of a command, once (R376): its status and the two dwords of its completion. -/
def State.finish (s : State) (fsn : Nat) (st : Status) (dw0 dw1 : Nat) : State :=
  match s.cmd? fsn with
  | none => s
  | some c =>
    if c.phase = .committed then s
    else (s.setCmd { c with phase := .committed, status := some st, dw0 := dw0, dw1 := dw1, passed := true,
                            waitAdm := false, buf := [] }).bump Reg.CQU.ARBITER.COMMITTED 1

/-! ### Asynchronous events and critical warnings. -/

/-- Report an event (R386): it completes a held Asynchronous Event Request, or waits for one; an event type whose log
page has not been read since its last report is not reported again. -/
def State.asyncEvent (s : State) (typ info lid : Nat) : State :=
  let key := typ * 256 + info
  if key ∈ s.cqu.masked ∨ (typ, info, lid) ∈ s.cqu.events then s
  else
    match s.cqu.aers with
    | [] => { s with cqu := { s.cqu with events := s.cqu.events ++ [(typ, info, lid)] } }
    | f :: t =>
      ({ s with cqu := { s.cqu with aers := t, masked := key :: s.cqu.masked } } : State).finish f .ok
        (typ + info * 256 + lid * 65536) 0

/-- Bit `b` of the Critical Warning (R383). -/
def State.warns (s : State) (b : Nat) : Bool := s.cqu.warning.testBit b

/-- A cause sets a Critical Warning bit: newly set, and enabled by feature 0x0B, it raises the SMART event of R386. -/
def State.warn (s : State) (b cause : Nat) : State :=
  let s0 : State := { s with cqu := { s.cqu with why := if (b, cause) ∈ s.cqu.why then s.cqu.why else (b, cause) :: s.cqu.why } }
  if s.warns b then s0
  else
    let s1 : State := { s0 with cqu := { s0.cqu with warning := s0.cqu.warning ||| 2 ^ b } }
    if s.cqu.feats.aec.testBit b ∧ b < 4 then
      s1.asyncEvent 1 (if b = 0 then 2 else if b = 1 then 1 else 0) 0x02
    else s1

/-- A cause of a Critical Warning bit ends: the bit clears when none is left. -/
def State.unwarn (s : State) (b cause : Nat) : State :=
  let left := s.cqu.why.filter fun w => w != (b, cause)
  let s0 : State := { s with cqu := { s.cqu with why := left } }
  if s.warns b ∧ (left.all fun w => w.1 != b) then
    { s0 with cqu := { s0.cqu with warning := s0.cqu.warning - 2 ^ b } }
  else s0

/-! ### The Credenza. -/

/-- Add to a saturating value (R472): the new value and whether it saturated now for the first time. -/
def crdAdd (top : Nat) (v : CrdVal) (n : Nat) : CrdVal × Bool :=
  if v.2 then (v, false) else if v.1 + n > top then ((top, true), true) else ((v.1 + n, false), false)

/-- The vendor event of a first saturation (R472). -/
def State.saturated (s : State) (first : Bool) : State :=
  if first then s.asyncEvent 7 1 0xC1 else s

/-- Count in the Credenza (R473): counter, instance, increment. -/
def State.count (s : State) (id inst n : Nat) : State :=
  let r := crdAdd 0xFFFFFFFFFFFFFFFF (assocGet (0, false) s.crd.cnt (id, inst)) n
  ({ s with crd := { s.crd with cnt := assocPut s.crd.cnt (id, inst) r.1 } } : State).saturated r.2

/-- Count in a histogram (R476): one unit in a bin. -/
def State.bin (s : State) (hid inst b : Nat) : State :=
  let r := crdAdd 0xFFFFFFFF (assocGet (0, false) s.crd.bins (hid, inst, b)) 1
  ({ s with crd := { s.crd with bins := assocPut s.crd.bins (hid, inst, b) r.1 } } : State).saturated r.2

/-- A counter's value. -/
def State.counter (s : State) (id inst : Nat) : Nat := (assocGet (0, false) s.crd.cnt (id, inst)).1

/-- Power-on hours, from the minutes of counter 0x0001 (R475). -/
def State.hours (s : State) : Nat := s.counter 1 0 / 60

/-! ### Event lines. -/

/-- The overflow bit of an event line (R327, R330). -/
def evOvf (k : Nat) : Fld := if k < 32 then ⟨0x0D, 0xC08, k, 1⟩ else ⟨0x0D, 0xC0C, k - 32, 1⟩

/-- A pulse on an event line (R326, R327): up to 8 wait; a ninth is dropped and its overflow bit set. -/
def State.pulse (s : State) (k : Nat) : State :=
  if s.dma.waiting.getD k 0 ≥ 8 then s.put (evOvf k) 1
  else { s with dma := { s.dma with waiting := modifyAt s.dma.waiting k (· + 1) } }

/-! ### The configuration. -/

/-- The zone width D (R78), 20 where no option image is loaded. -/
def State.width (s : State) : Nat := match s.cfg with | some c => c.stripe.width | none => 20

/-- Block capacity of a zone: 96 × D × 256 (R334). -/
def zcap (d : Nat) : Nat := 96 * d * 256

/-- Logical blocks per zone (R334). -/
def zsze : Nat := 524288

/-- Send something to the host; in D3hot it waits (R399), as in L2/L3 Ready (R401), and otherwise the link leaves L1 first
(R412). -/
def State.send (s : State) (o : Out) : State :=
  if s.get Reg.HPT.LINK.DSTATE = 3 ∨ s.get Reg.HPT.LINK.PM_LINK = 4 then { s with hpt := { s.hpt with sendq := s.hpt.sendq ++ [o] } }
  else
    let s1 := if s.get Reg.HPT.LINK.PM_LINK ∈ [1, 2, 3] then s.put Reg.HPT.LINK.PM_LINK 0 else s
    { s1 with hpt := { s1.hpt with out := s1.hpt.out ++ [o] } }

end Sys2Proof.Machine
end

