-- ==== Sys2Proof/Machine/Geometry.lean ====
section
/-!
DEFINITION. The geometry of the surfaces and the layout of the zones: slots of a track (R186 to R189, R194, R195), bands
(R331), the reserved area (R176, R269), rotation rows (R260), the layout (R332, R333) and the placement records of a
fresh drive (R262).
-/

namespace Sys2Proof.Machine

/-- Populated surfaces of an actuator: 0 upward on A, 12 upward on B (R7). -/
def GeomCfg.surfaces (g : GeomCfg) (a : Nat) : List Nat := (List.range g.headsPerAct).map (· + 12 * a)

/-- All populated surfaces. -/
def GeomCfg.allSurfaces (g : GeomCfg) : List Nat := g.surfaces 0 ++ g.surfaces 1

/-- A head's zone table (R78). -/
def GeomCfg.table (g : GeomCfg) (h : Nat) : List RadialZone := assocGet [] g.zones h

/-- Tracks of a head's zone table. -/
def GeomCfg.tracks (g : GeomCfg) (h : Nat) : Nat := ((g.table h).map fun z => z.tracks).sum

/-- The radial zone of a track of a head, with its index. -/
def GeomCfg.zoneAt (g : GeomCfg) (h t : Nat) : Option (Nat × RadialZone) :=
  ((g.table h).mapIdx fun i z => (i, z)).find? fun p => decide (p.2.start ≤ t ∧ t < p.2.start + p.2.tracks)

/-- Start of wedge w in servo bits (R158, R11): w × 2,000,000 ÷ WEDGES, a half rounded up. -/
def GeomCfg.wedgeStart (g : GeomCfg) (w : Nat) : Nat := (2 * w * 2000000 + g.wedges) / (2 * g.wedges)

/-- Data bits of the window of a wedge (R186, R187). -/
def GeomCfg.windowBits (g : GeomCfg) (rate w : Nat) : Nat :=
  (g.wedgeStart (w + 1) - g.wedgeStart w) * rate / 240 - ceilDiv rate 10 - ceilDiv (202 * rate) 240 -
    ceilDiv (3 * rate) 2 - 64

/-- The defect descriptor of a track, where it has one (R193). -/
def State.descOf (s : State) (h t : Nat) : Option DefectDesc := s.defects.find? fun d => d.head == h && d.track == t

/-- Data bits a skip span removes: LEN + 64, cut at the window's end (R194). -/
def skipBits (g : GeomCfg) (rate : Nat) (k : Nat × Nat × Nat) : Nat :=
  min (k.2.2 + 64) (g.windowBits rate k.1 - k.2.1)

/-- Slots of a track of a head before slips (R189). -/
def State.trackSlots (s : State) (g : GeomCfg) (h t : Nat) : Nat :=
  match g.zoneAt h t with
  | none => 0
  | some (_, z) =>
    let all := ((List.range g.wedges).map (g.windowBits z.bitRate)).sum
    let gone := match s.descOf h t with | some d => (d.skips.map (skipBits g z.bitRate)).sum | none => 0
    min z.sectors ((all - gone) / 36672)

/-- Slots of a track that exist: slipped slots left out (R195). -/
def State.liveSlots (s : State) (g : GeomCfg) (h t : Nat) : Nat :=
  let n := s.trackSlots g h t
  n - (match s.descOf h t with | some d => (d.slips.filter (· < n)).length | none => 0)

/-- The first calibration track: the last 64 tracks of the head's zone table (R176). -/
def GeomCfg.calTrack (g : GeomCfg) (h : Nat) : Nat := g.tracks h - 64

/-- Tracks counted downward until their slots reach a number. -/
def State.areaTracks (s : State) (g : GeomCfg) (h : Nat) : Nat → Nat → Nat
  | 0, _ => 0
  | t + 1, need =>
    let n := s.liveSlots g h t
    if n ≥ need then t else s.areaTracks g h t (need - n)

/-- The first track of the reserved area: the fewest whole tracks below the calibration tracks with 16,384 slots
(R269, R331). -/
def State.reservedTrack (s : State) (g : GeomCfg) (h : Nat) : Nat := s.areaTracks g h (g.calTrack h) 16384

/-- Walk the tracks of the user area: slots still needed by the band in hand (0: its guard track is next), the track it
began on, and the first tracks of the whole bands so far. -/
def bandStep (slots : Nat → Nat) (acc : Nat × Nat × List Nat) (t : Nat) : Nat × Nat × List Nat :=
  match acc with
  | (0, b, l) => (24576, t + 1, l ++ [b])
  | (need, b, l) => (need - slots t, b, l)

/-- The first tracks of the whole bands of a surface (R331). -/
def State.bands (s : State) (g : GeomCfg) (h : Nat) : List Nat :=
  ((List.range (s.reservedTrack g h)).foldl (bandStep (s.liveSlots g h)) (24576, 0, [])).2.2

/-- Slot indices of a track that hold sectors (R195). -/
def State.slotIdx (s : State) (g : GeomCfg) (h t : Nat) : List Nat :=
  (List.range (s.trackSlots g h t)).filter fun k => !((match s.descOf h t with | some d => d.slips | none => []).contains k)

/-- The track and slot index of slot k counted from a track, slipped slots left out (R337); the fuel is tracks. -/
def State.slotFrom (s : State) (g : GeomCfg) (h : Nat) : Nat → Nat → Nat → Nat × Nat
  | 0, t, _ => (t, 0)
  | f + 1, t, k =>
    let l := s.slotIdx g h t
    if k < l.length then (t, l.getD k 0) else s.slotFrom g h f (t + 1) (k - l.length)

/-- The track and slot of slot k of a band of a surface (R337). -/
def State.slotPlace (s : State) (g : GeomCfg) (h band k : Nat) : Nat × Nat :=
  s.slotFrom g h (g.tracks h) ((s.bands g h).getD band 0) k

/-- Z: the fewest bands of any populated surface (R331). -/
def State.physZones (s : State) (g : GeomCfg) : Nat :=
  match minNat? (g.allSurfaces.map fun h => (s.bands g h).length) with | some n => n | none => 0

/-- The media cache pool for C conventional zones (R332). -/
def poolSize (c pct : Nat) : Nat := max 4 (ceilDiv (c * pct) 100) + 2

/-- The largest C at most n with 4 + M + C ≤ Z (R332). -/
def largestC (z pct : Nat) : Nat → Nat
  | 0 => 0
  | n + 1 => if 4 + poolSize (n + 1) pct + (n + 1) ≤ z then n + 1 else largestC z pct n

/-- Remove zones until the writable capacity fits CAP_LIMIT (R332): from the top of the zoned namespace first, then from
the conventional one. -/
def fitCap (cap d : Nat) : Nat → Nat → Nat → Nat × Nat
  | 0, c, nz => (c, nz)
  | k + 1, c, nz =>
    if (c + nz) * zcap d * 4096 ≤ cap then (c, nz)
    else if nz > 0 then fitCap cap d k c (nz - 1) else fitCap cap d k (c - 1) nz

/-- The layout R331 and R332 compute, or none where R333 refuses it. CAP_LIMIT 0 is no limit (R82). -/
def layoutOf (z : Nat) (n : NvmeCfg) (d : Nat) (b512 : Bool) : Option Layout :=
  let c0 := match n.convZones with | some c => c | none => largestC z n.mediaCache z
  let m0 := poolSize c0 n.mediaCache
  if 4 + m0 + c0 > z then none
  else
    let nz0 := if n.zoned then z - 4 - m0 - c0 else 0
    let (c, nz) := if n.capLimit = 0 then (c0, nz0) else fitCap (n.capLimit * 1000000000) d (c0 + nz0) c0 nz0
    if n.zoned ∧ nz = 0 then none else some ⟨z, poolSize c n.mediaCache, c, nz, b512, d⟩

/-- The surface order O (R260): alternating between the actuators. -/
def GeomCfg.order (g : GeomCfg) : List Nat := (List.range g.headsPerAct).flatMap fun k => [k, k + 12]

/-- The members of a rotation row: data 0 to D − 1, P, Q (R260). -/
def rowMembers (g : GeomCfg) (st : StripeCfg) (row : Nat) : List Nat :=
  match st.rotRows[row]? with
  | some r => r.take (st.width + 2)
  | none => (List.range (st.width + 2)).map fun m => g.order.getD ((row + m) % (2 * g.headsPerAct)) 0xFF

/-- Rotation rows N_R (R260). -/
def rotCount (g : GeomCfg) (st : StripeCfg) : Nat :=
  if st.rotRows.isEmpty then 2 * g.headsPerAct else st.rotRows.length

/-- The placement record of a fresh zone (R257, R262): band z of each surface; surfaces already retired hold no spare and
a member on one is lost. -/
def freshPlace (g : GeomCfg) (st : StripeCfg) (retired : List Nat) (z : Nat) : Placement :=
  let row := z % rotCount g st
  let mem := rowMembers g st row
  { zone := z, row := row, d := st.width, boundary := 0, moving := false, inPlace := false, lostRows := false,
    reduced := false, waiting := false, kind := 0, gen := 0,
    cur := mem.map fun h => ⟨h, if h ∈ retired then 1 else 0, z⟩, next := [],
    spares := (g.order.filter fun h => !(mem.contains h) && !(retired.contains h)).map fun h => (h, z, false) }

/-- The home zone of a fresh logical zone (R332). -/
def Layout.home (l : Layout) (lz : Nat) : Nat := 4 + l.m + lz

/-- The zone descriptors of a fresh layout: conventional zones, then empty zoned ones (R335, R343). -/
def Layout.freshZones (l : Layout) : List ZoneDesc :=
  (List.range (l.c + l.nz)).map fun lz => ⟨l.home lz, if lz < l.c then 5 else 0, false, 0, 0, 0⟩

/-- The pool zones of a layout, the last two as merge targets (R332). -/
def Layout.pool (l : Layout) : List Nat := (List.range l.m).map (· + 4)

end Sys2Proof.Machine
end

