-- ==== Sys2Proof/Machine/Ecc.lean ====
section
/-!
DEFINITION. The two memory codes: the extended Hamming code of an SRAM byte (R297) and the Reed-Solomon code of a DRAM
granule (R298).
-/

namespace Sys2Proof.Machine

/-- What a decoder finds: the data, whether they were corrected, or an uncorrectable pattern. -/
inductive Ecc (α : Type) where
  | good (a : α)
  | corrected (a : α)
  | bad
  deriving DecidableEq, Repr

/-- Exclusive-or of a list of truth values. -/
def xorAll (l : List Bool) : Bool := l.foldl xor false

/-- The position of data bit i among positions 1 to 12 (R297). -/
def hamPos : List Nat := [3, 5, 6, 7, 9, 10, 11, 12]

/-- Data bit at a position of the codeword, false at the check positions. -/
def hamData (b : Byte) (p : Nat) : Bool :=
  match hamPos.findIdx? (· == p) with | some i => b.getLsbD i | none => false

/-- Bits of positions 1 to 12 then c4 (R297): check bit ci is the XOR of the data positions with bit i set, c4 of all. -/
def hamEncode (b : Byte) : List Bool :=
  let c (i : Nat) : Bool := xorAll ((hamPos.filter fun p => p.testBit i).map (hamData b))
  let w := (List.range 12).map fun k =>
    if k + 1 = 1 then c 0 else if k + 1 = 2 then c 1 else if k + 1 = 4 then c 2 else if k + 1 = 8 then c 3
    else hamData b (k + 1)
  w ++ [xorAll w]

/-- The syndrome of positions 1 to 12 (R297). -/
def hamSyndrome (w : List Bool) : Nat :=
  (List.range 4).foldl (fun a i =>
    a + if xorAll (((List.range 12).filter fun k => (k + 1).testBit i).map fun k => w.getD k false) then 2 ^ i else 0) 0

/-- The data bits of a codeword. -/
def hamByte (w : List Bool) : Byte := BitVec.ofNat 8 (ofBits (hamPos.map fun p => w.getD (p - 1) false))

/-- The table of R297: s and p decide. -/
def hamDecode (w : List Bool) : Ecc Byte :=
  let sy := hamSyndrome w
  if xorAll w then
    if sy = 0 then .corrected (hamByte w)
    else if sy ≤ 12 then .corrected (hamByte (w.set (sy - 1) (!(w.getD (sy - 1) false))))
    else .bad
  else if sy = 0 then .good (hamByte w) else .bad

/-- Flip the bits of a codeword that a 13-bit mask names (R312). -/
def hamFlip (w : List Bool) (mask : Nat) : List Bool := w.mapIdx fun i b => xor b (mask.testBit i)

/-- Product in GF(2^8) with polynomial 0x11D (R298). -/
def gfMul (a b : Nat) : Nat :=
  (List.range 8).foldr (fun i acc =>
    let d := acc * 2
    let r := if d ≥ 256 then d ^^^ 0x11D else d
    if b.testBit i then r ^^^ a else r) 0

/-- α^n with α = 2. -/
def gfPow : Nat → Nat
  | 0 => 1
  | n + 1 => gfMul (gfPow n) 2

/-- Inverse: x^254. -/
def gfInv (x : Nat) : Nat := (List.range 253).foldl (fun a _ => gfMul a x) x

/-- Coefficients of (x + 1)(x + α)(x + α²)(x + α³) below x⁴, highest first (R298). -/
def rsGen : List Nat :=
  let step (p : List Nat) (r : Nat) : List Nat := List.zipWith (· ^^^ ·) (p ++ [0]) (0 :: p.map (gfMul r))
  (step (step (step (step [1] 1) 2) 4) 8).drop 1

/-- The granule with its index folded into symbols 0 to 3, little-endian (R298). -/
def rsFold (index : Nat) (data : List Nat) : List Nat :=
  data.mapIdx fun i d => if i < 4 then d ^^^ (index / 256 ^ i % 256) else d

/-- The 36 symbols of a granule: 32 folded data symbols, then the 4 check bytes (R298). -/
def rsEncode (index : Nat) (data : List Nat) : List Nat :=
  let d := rsFold index data
  let r := d.foldl (fun (r : List Nat) x =>
    let f := x ^^^ r.headD 0
    List.zipWith (· ^^^ ·) (r.drop 1 ++ [0]) (rsGen.map (gfMul f))) [0, 0, 0, 0]
  d ++ r

/-- Syndrome j of a codeword, symbol 0 the highest coefficient. -/
def rsSyn (w : List Nat) (j : Nat) : Nat := w.foldl (fun a x => gfMul a (gfPow j) ^^^ x) 0

/-- Decode a granule: any single symbol is corrected; two or three in error are reported (R298). -/
def rsDecode (index : Nat) (w : List Nat) : Ecc (List Nat) :=
  let s0 := rsSyn w 0; let s1 := rsSyn w 1; let s2 := rsSyn w 2; let s3 := rsSyn w 3
  if s0 = 0 ∧ s1 = 0 ∧ s2 = 0 ∧ s3 = 0 then .good (rsFold index (w.take 32))
  else if s0 = 0 ∨ gfMul s1 s1 ≠ gfMul s0 s2 ∨ gfMul s2 s2 ≠ gfMul s1 s3 then .bad
  else
    match (List.range 36).find? fun k => gfMul s0 (gfPow (35 - k)) == s1 with
    | some k => .corrected (rsFold index ((w.set k (w.getD k 0 ^^^ s0)).take 32))
    | none => .bad

/-- XOR patterns onto symbols (R312). -/
def rsFlip (w : List Nat) (pats : List (Nat × Nat)) : List Nat :=
  pats.foldl (fun v p => v.set p.1 (v.getD p.1 0 ^^^ p.2)) w

end Sys2Proof.Machine
end

