-- ==== Sys2Proof/Machine/Memory.lean ====
section
/-!
DEFINITION. The two memories (R295, R300) with their codes and the flip mask (R312): reading and writing cells, what a
read of a corrupted codeword finds, and the bookkeeping of corrections that every reader shares (R305 to R309).
-/

namespace Sys2Proof.Machine

/-- An unlisted cell reads 0. -/
def cellDefault : Nat → Byte := fun _ => 0

/-- Bytes of a memory: 16 MiB of SRAM (R295); the usable capacity of the DRAM in MiB (R300, R315). -/
def State.memSize (s : State) : Mem → Nat
  | .sram => 0x1000000
  | .dram => s.get Reg.BFM.DRAM_CFG.USABLE * 0x100000

/-- The cells of a memory. -/
def State.cells (s : State) : Mem → List Host.Cell
  | .sram => s.buf.sram
  | .dram => s.buf.dram

/-- Replace the cells of a memory. -/
def State.setCells (s : State) (m : Mem) (c : List Host.Cell) : State :=
  match m with
  | .sram => { s with buf := { s.buf with sram := c } }
  | .dram => { s with buf := { s.buf with dram := c } }

/-- The byte at an address of a memory, as written. -/
def State.byte (s : State) (m : Mem) (a : Nat) : Byte := Sparse.get cellDefault (s.cells m) a

/-- `n` bytes from an address. -/
def State.bytes (s : State) (m : Mem) (a n : Nat) : Bytes := Sparse.getRun cellDefault (s.cells m) a n

/-- Whether a corrupted unit lies in `n` bytes from an address. -/
def Flip.hits (f : Flip) (m : Mem) (a n : Nat) : Bool :=
  f.mem == m && decide (a < (f.addr + 1) * m.unit) && decide (f.addr * m.unit < a + n)

/-- Whether the code corrects a corrupted unit (R297, R298). -/
def State.corrects (s : State) (f : Flip) : Bool :=
  match f.mem with
  | .sram =>
    match hamDecode (hamFlip (hamEncode (s.byte .sram f.addr)) f.mask) with
    | .bad => false
    | _ => true
  | .dram =>
    match rsDecode f.addr (rsFlip (rsEncode f.addr ((s.bytes .dram (f.addr * 32) 32).map BitVec.toNat)) f.syms) with
    | .bad => false
    | _ => true

/-- The flip mask on a client write of `n` bytes at an address (R312): the first write to MEM takes it, with MATCH the
first that covers FLIP_ADDR; ARM clears and DONE sets. -/
def State.takeFlip (s : State) (m : Mem) (a n : Nat) : State :=
  let sel := if s.get Reg.MEC.FLIP_CTRL.MEM = 0 then Mem.sram else Mem.dram
  let ok := !s.flag Reg.MEC.FLIP_CTRL.MATCH ||
    (decide (a < (s.get Reg.MEC.FLIP_ADDR.ADDR + 1) * m.unit) && decide (s.get Reg.MEC.FLIP_ADDR.ADDR * m.unit < a + n))
  if s.flag Reg.MEC.FLIP_CTRL.ARM ∧ sel = m ∧ ok then
    let syms := ([(s.get Reg.MEC.FLIP_SYM.SYM0, s.get Reg.MEC.FLIP_SYM.PAT0),
      (s.get Reg.MEC.FLIP_SYM.SYM1, s.get Reg.MEC.FLIP_SYM.PAT1)]).filter fun p => p.2 != 0
    let f : Flip := ⟨m, m.unitOf a, if m = .sram then s.get Reg.MEC.FLIP_CTRL.SRAM_MASK else 0,
      if m = .dram then syms else []⟩
    let keep := if f.mask = 0 ∧ f.syms = [] then s.buf.flips else f :: s.buf.flips
    (({ s with buf := { s.buf with flips := keep } } : State).put Reg.MEC.FLIP_CTRL.ARM 0).put Reg.MEC.FLIP_CTRL.DONE 1
  else s

/-- A client write (R299): whole codewords replaced, so a corruption there is gone; then the flip mask. -/
def State.memWrite (s : State) (m : Mem) (a : Nat) (b : Bytes) : State :=
  let s1 := s.setCells m (Sparse.putRun cellDefault (s.cells m) a b)
  let s2 : State := { s1 with buf := { s1.buf with flips := s1.buf.flips.filter fun f => !f.hits m a b.length } }
  s2.takeFlip m a b.length

/-! ### Scrub passes. -/

/-- The running pass of a memory. -/
def State.scrub (s : State) : Mem → Option (Nat × Nat × Bool)
  | .sram => s.buf.scrubS
  | .dram => s.buf.scrubD

/-- Replace the running pass of a memory. -/
def State.setScrub (s : State) (m : Mem) (v : Option (Nat × Nat × Bool)) : State :=
  match m with
  | .sram => { s with buf := { s.buf with scrubS := v } }
  | .dram => { s with buf := { s.buf with scrubD := v } }

/-- Start a pass, unless one of that memory runs (R305, R311). -/
def State.startScrub (s : State) (m : Mem) (triggered : Bool) : State :=
  match s.scrub m with
  | some _ => s
  | none => s.setScrub m (some (0, 0, triggered))

/-- The fields of a pass summary, CORR, UE, COMPLETE and TRIGGERED (R314). -/
def scrubSum (m : Mem) : Fld × Fld × Fld × Fld :=
  match m with
  | .sram => (Reg.MEC.SCRUB_SUM_SRAM.CORR, Reg.MEC.SCRUB_SUM_SRAM.UE, Reg.MEC.SCRUB_SUM_SRAM.COMPLETE,
      Reg.MEC.SCRUB_SUM_SRAM.TRIGGERED)
  | .dram => (Reg.MEC.SCRUB_SUM_DRAM.CORR, Reg.MEC.SCRUB_SUM_DRAM.UE, Reg.MEC.SCRUB_SUM_DRAM.COMPLETE,
      Reg.MEC.SCRUB_SUM_DRAM.TRIGGERED)

/-- End a pass with its summary; `complete` where it reached its end (R311, R313). -/
def State.endScrub (s : State) (m : Mem) (complete : Bool) : State :=
  match s.scrub m with
  | none => s
  | some (c, u, t) =>
    let f := scrubSum m
    ((((s.setScrub m none).put f.1 (min c 0xFFFF)).put f.2.1 (min u 0xFF)).putB f.2.2.1 complete).putB f.2.2.2 t

/-! ### Corrections. -/

/-- DEPTH and LEAK of a memory's bucket (R81), where the option image is loaded. -/
def State.bucketCfg (s : State) (m : Mem) : Option (Nat × Nat) :=
  s.cfg.map fun c => match m with
    | .sram => (c.thresh.sramDepth, c.thresh.sramLeak)
    | .dram => (c.thresh.dramDepth, c.thresh.dramLeak)

/-- The level and overflow fields of a bucket (R314). -/
def bucketFlds : Mem → Fld × Fld
  | .sram => (Reg.MEC.BUCKET_SRAM.LEVEL, Reg.MEC.BUCKET_SRAM.OVERFLOWS)
  | .dram => (Reg.MEC.BUCKET_DRAM.LEVEL, Reg.MEC.BUCKET_DRAM.OVERFLOWS)

/-- The bucket of a memory has reached DEPTH (R305). -/
def State.bucketOverflow (s : State) (m : Mem) (depth : Nat) : State :=
  let f := bucketFlds m
  ((((((s.put Reg.MEC.STATUS.BUCKET_OVF 1).bump f.2 1).count 0x18 m.num 1).asyncEvent 7 0 0xC1).startScrub m true).put
    f.1 (depth / 2))

/-- One correction in the bucket (R305). -/
def State.bucketAdd (s : State) (m : Mem) : State :=
  let f := bucketFlds m
  let lvl := s.get f.1 + 1
  match s.bucketCfg m with
  | none => s.bump f.1 1
  | some (depth, _) => if lvl ≥ depth then s.bucketOverflow m depth else s.put f.1 lvl

/-- Spare rows of a bank used or unusable (R296, R307). -/
def State.sparesGone (s : State) (bank : Nat) : List Nat :=
  (s.buf.kept.rows.filter fun r => r.1 == bank).map (fun r => r.2.1) ++
  (s.buf.badSpares.filter fun r => r.1 == bank).map (fun r => r.2)

/-- The lowest-numbered free spare row of a bank. -/
def State.freeSpare (s : State) (bank : Nat) : Option Nat :=
  (List.range 16).find? fun k => !(s.sparesGone bank).contains k

/-- Fewest usable spare rows left in any bank (R314). -/
def State.spareMin (s : State) : Nat :=
  (List.range 64).foldl (fun a b => min a (16 - (s.sparesGone b).length)) 16

/-- Pool pages left (R307). -/
def State.poolLeft (s : State) : Nat := 1024 - s.buf.kept.pages.length

/-- The memory's spares have run out: the vendor event once (R308). -/
def State.sparesOut (s : State) (m : Mem) : State :=
  if m ∈ s.buf.exhausted then s
  else ({ s with buf := { s.buf with exhausted := m :: s.buf.exhausted } } : State).asyncEvent 7 0 0xC1

/-- Corrupted codewords of a run of bytes are rewritten corrected. -/
def State.rewrite (s : State) (m : Mem) (a n : Nat) : State :=
  { s with buf := { s.buf with flips := s.buf.flips.filter fun f => !(f.hits m a n && s.corrects f) } }

/-- A hard fault (R307, R308): the SRAM row moves to a free spare row of its bank, the DRAM page to a pool page; with
none free it stays in service. `u` is the byte address or the granule index. -/
def State.hardFault (s : State) (m : Mem) (u : Nat) : State :=
  let s1 := (s.bump Reg.MEC.TRACK.HARD 1).count 0x19 m.num 1
  match m with
  | .sram =>
    let bank := u / 0x40000
    let row := u % 0x40000 / 256
    match s1.freeSpare bank with
    | some k =>
      let s2 : State := { s1 with buf := { s1.buf with kept := { s1.buf.kept with
        rows := s1.buf.kept.rows ++ [(bank, k, row)] } } }
      s2.rewrite .sram (u / 256 * 256) 256
    | none => s1.sparesOut .sram
  | .dram =>
    let page := u / 128
    if s1.poolLeft = 0 then s1.sparesOut .dram
    else
      let s2 : State := { s1 with buf := { s1.buf with kept := { s1.buf.kept with
        pages := s1.buf.kept.pages ++ [(page, s1.buf.kept.pages.length)] } } }
      s2.rewrite .dram (page * 4096) 4096

/-- The tracker without an address. -/
def untrack (l : List Track) (m : Mem) (u : Nat) : List Track := l.filter fun t => !(t.mem == m && t.addr == u)

/-- Which entry a new address replaces (R306): the oldest SEEN, else the oldest WRITTEN. -/
def trackVictim (l : List Track) : Option Track :=
  match l.find? fun t => !t.written with
  | some t => some t
  | none => l.head?

/-- Enter a new address in the tracker; each replacement is counted (R306). -/
def State.trackNew (s : State) (m : Mem) (u : Nat) : State :=
  let s1 := if s.buf.track.length < 32 then s else
    match trackVictim s.buf.track with
    | some v => ({ s with buf := { s.buf with track := untrack s.buf.track v.mem v.addr } } : State).bump
        Reg.MEC.TRACK.REPLACED 1
    | none => s
  { s1 with buf := { s1.buf with track := s1.buf.track ++ [⟨m, u, false⟩] } }

/-- The write-back of a SEEN entry (R306): done, or cancelled by a client write; the state becomes WRITTEN. -/
def State.trackWriteback (s : State) (m : Mem) (u : Nat) (cancelled : Bool) : State :=
  let s1 : State := { s with buf := { s.buf with track := untrack s.buf.track m u ++ [⟨m, u, true⟩] } }
  let s2 := s1.bump Reg.MEC.TRACK.WRITEBACKS 1
  if cancelled then s2 else s2.rewrite m (u * m.unit) m.unit

/-- What the tracker does with a correction (R306, R313). -/
def State.trackCorrection (s : State) (m : Mem) (u : Nat) (clientWrote : Bool) : State :=
  match s.buf.track.find? fun t => t.mem == m && t.addr == u with
  | none => s.trackNew m u
  | some t =>
    if t.written then
      (({ s with buf := { s.buf with track := untrack s.buf.track m u } } : State).hardFault m u)
    else if s.chest.saving ∧ !clientWrote then
      { s with buf := { s.buf with deferred := untrack s.buf.deferred m u ++ [⟨m, u, false⟩] } }
    else s.trackWriteback m u clientWrote

/-- One corrected error at a unit (R305, R306, R310): the tracker and a retirement first, then the bucket (R313). -/
def State.correction (s : State) (m : Mem) (u : Nat) (clientWrote byScrub : Bool) : State :=
  let s0 := s.count 0x16 m.num 1
  let s1 := if byScrub then
      match s0.scrub m with
      | some (c, ue, t) => (s0.setScrub m (some (c + 1, ue, t))).rewrite m (u * m.unit) (if clientWrote then 0 else m.unit)
      | none => s0
    else s0
  (s1.trackCorrection m u clientWrote).bucketAdd m

/-! ### Uncorrectable errors. -/

/-- Record an uncorrectable error (R309, R313): UE, its memory and address; an entry of the tracker is freed. -/
def State.ueRecord (s : State) (m : Mem) (u : Nat) : State :=
  let s1 := ((s.put Reg.MEC.STATUS.UE 1).put Reg.MEC.STATUS.UE_MEM m.num).put Reg.MEC.UE_ADDR.ADDR u
  ({ s1 with buf := { s1.buf with track := untrack s1.buf.track m u } } : State).count 0x17 m.num 1

/-- Blocks become lost (R286, R309): counted, reported, and warned of. -/
def State.lostEvent (s : State) (n : Nat) : State :=
  if n = 0 then s else ((s.count 0x0A 0 n).asyncEvent 7 3 0xC4).warn 2 3

/-- The cached block of a drive LBA is poisoned (R309). -/
def State.poison (s : State) (dlba : Nat) : State :=
  let s1 : State := { s with buf := { s.buf with
    cache := s.buf.cache.map fun b => if b.dlba = dlba ∧ b.current then { b with poisoned := true } else b } }
  s1.lostEvent 1

/-- The first corrupted unit of `n` bytes from an address that the code cannot correct, in address order. -/
def State.firstBad (s : State) (m : Mem) (a n : Nat) : Option Nat :=
  minNat? ((s.buf.flips.filter fun f => f.hits m a n && !s.corrects f).map fun f => f.addr)

/-- The corrections a read of `n` bytes from an address meets. -/
def State.readCorrections (s : State) (m : Mem) (a n : Nat) : State :=
  ((s.buf.flips.filter fun f => f.hits m a n && s.corrects f).map fun f => f.addr).foldl
    (fun t u => t.correction m u false false) s

/-- A result enters the Device Self-test log, newest first, 20 kept. -/
def State.testResult (s : State) (result : Nat) : State :=
  if s.cqu.test = 0 then s
  else { s with cqu := { s.cqu with
    test := 0, results := (⟨s.cqu.test, result, s.hours⟩ :: s.cqu.results).take 20,
    runs := s.cqu.runs.filter fun r => r.kind != 5 } }

/-- The short self-test ends with the scrub passes of both memories. -/
def State.shortTestStep (s : State) : State :=
  if s.cqu.test = 1 ∧ s.buf.scrubS = none ∧ s.buf.scrubD = none then s.testResult 0 else s

end Sys2Proof.Machine
end

