-- ==== Sys2Proof/Machine/Map.lean ====
section
/-!
DEFINITION. The coherent view of the blocks: namespaces and drive LBAs (R335, R336), where a block's current data lie
(R338, R347), the media cache index (R339), the index log (R340), the write cache (R304, R366), the Sideboard slots
(R264, R266), the journal (R268), and the lost blocks (R286, R287).
-/

namespace Sys2Proof.Machine

/-! ### Namespaces. -/

/-- CC.CSS (R398). -/
def State.css (s : State) : Nat := s.cqu.nvme.cc.toNat / 16 % 8

/-- The namespace an NSID names (R336, R398): false conventional, true zoned, none where it does not exist. -/
def State.ns (s : State) (nsid : Nat) : Option Bool :=
  match s.zmu.layout with
  | none => none
  | some l =>
    if l.c > 0 ∧ nsid = 1 then some false
    else if l.nz > 0 ∧ nsid = (if l.c > 0 then 2 else 1) ∧ s.css = 6 then some true
    else none

/-- The NSID of a namespace. -/
def Layout.nsid (l : Layout) (zoned : Bool) : Nat := if zoned ∧ l.c > 0 then 2 else 1

/-- Logical blocks per 4 KiB block of a namespace (R336). -/
def Layout.per (l : Layout) (zoned : Bool) : Nat := if l.b512 ∧ !zoned then 8 else 1

/-- NSZE (R336). -/
def Layout.nsze (l : Layout) (zoned : Bool) : Nat :=
  if zoned then l.nz * zsze else l.c * zcap l.d * l.per false

/-- The drive LBA of 4 KiB block b of a namespace (R335, R336). -/
def Layout.dlba (l : Layout) (zoned : Bool) (b : Nat) : Nat :=
  if zoned then l.c * zsze + b else b / zcap l.d * zsze + b % zcap l.d

/-- The 4 KiB blocks that `n` logical blocks from LBA `a` touch: first and count. -/
def Layout.cover (l : Layout) (zoned : Bool) (a n : Nat) : Nat × Nat :=
  let p := l.per zoned
  (a / p, (a + n + p - 1) / p - a / p)

/-- The drive LBAs of a range of 4 KiB blocks. -/
def Layout.dlbas (l : Layout) (zoned : Bool) (b n : Nat) : List Nat :=
  (List.range n).map fun i => l.dlba zoned (b + i)

/-- A list of drive LBAs as ranges (first, count) of consecutive ones. -/
def runsOf : List Nat → List (Nat × Nat)
  | [] => []
  | x :: t =>
    match runsOf t with
    | (y, n) :: r => if x + 1 = y then (x, n + 1) :: r else (x, 1) :: (y, n) :: r
    | [] => [(x, 1)]

/-- Whether two ranges share a block. -/
def overlaps (a n b m : Nat) : Bool := decide (a < b + m) && decide (b < a + n)

/-- The zone descriptor of a logical zone. -/
def State.zone? (s : State) (lz : Nat) : Option ZoneDesc := s.zmu.zones[lz]?

/-- Change a logical zone's descriptor. -/
def State.setZone (s : State) (lz : Nat) (z : ZoneDesc) : State :=
  { s with zmu := { s.zmu with zones := setAt s.zmu.zones lz z } }

/-! ### Lost blocks. -/

/-- Whether a block is lost: in a lost row (R286) or uncorrectable (R309). -/
def State.isLost (s : State) (d : Nat) : Bool :=
  (s.stripe.lost.any fun r => r.blocks.contains d) || (s.cqu.uncorrect.any fun r => decide (r.1 ≤ d ∧ d < r.1 + r.2))

/-- A range of uncorrectable blocks without one block. -/
def cutRange (d : Nat) (r : Nat × Nat) : List (Nat × Nat) :=
  if r.1 ≤ d ∧ d < r.1 + r.2 then
    ([(r.1, d - r.1), (d + 1, r.1 + r.2 - d - 1)]).filter fun x => x.2 != 0
  else [r]

/-- A block leaves the lost list (R286): its rows leave when their last block does. -/
def State.unlose (s : State) (d : Nat) : State :=
  if s.isLost d then
    { s with
      stripe := { s.stripe with
        lost := (s.stripe.lost.map (fun r => { r with blocks := r.blocks.filter (· != d) })).filter (!·.blocks.isEmpty) },
      cqu := { s.cqu with uncorrect := s.cqu.uncorrect.flatMap (cutRange d) } }
  else s

/-- Whether a physical zone holds data: a home written, a pool zone with an extent, a metadata zone in use. -/
def State.holds (s : State) (pz : Nat) : Bool :=
  (s.zmu.zones.any fun z => z.home == pz && decide (z.frontier > 0)) ||
  (s.zmu.extents.any fun e => e.pzone == pz && !e.zero) || (decide (pz < 4) && decide (s.core.gen > 0))

/-- The condition of R287. -/
def State.exposed (s : State) : Bool :=
  (s.stripe.places.any fun p => s.holds p.zone && (p.reduced || p.cur.any fun m => m.state == 1)) ||
  !s.stripe.lost.isEmpty || !s.cqu.uncorrect.isEmpty

/-- Critical Warning bit 2 follows R287. -/
def State.expose (s : State) : State := if s.exposed then s.warn 2 3 else s.unwarn 2 3

/-! ### The media cache index and its log. -/

/-- What is left of an extent where a range replaces part of it (R339). -/
def Extent.minus (e : Extent) (a n : Nat) : List Extent :=
  if overlaps e.dlba e.count a n then
    ([{ e with count := a - e.dlba },
      { e with dlba := a + n, count := e.dlba + e.count - (a + n), off := e.off + (a + n - e.dlba) }] : List Extent).filter
        fun x => decide (x.count > 0) && decide (x.count ≤ e.count)
  else [e]

/-- Insert an extent in drive LBA order. -/
def insExtent (e : Extent) : List Extent → List Extent
  | [] => [e]
  | x :: t => if e.dlba < x.dlba then e :: x :: t else x :: insExtent e t

/-- A record of the index log is written (R340). -/
def State.logRec (s : State) (r : LogRec) : State :=
  { s with zmu := { s.zmu with log := s.zmu.log ++ [r], logBytes := s.zmu.logBytes + 16 } }

/-- Apply a record of the index log to the map. -/
def State.applyRec (s : State) : LogRec → State
  | .extent e =>
    { s with zmu := { s.zmu with extents := insExtent e (s.zmu.extents.flatMap fun x => x.minus e.dlba e.count) } }
  | .remove d n => { s with zmu := { s.zmu with extents := s.zmu.extents.flatMap fun x => x.minus d n } }
  | .homeSwitch z h =>
    match s.zone? z with
    | some zd => s.setZone z { zd with home := h }
    | none => s
  | .zoneChange z st wp =>
    match s.zone? z with
    | some zd => s.setZone z { zd with state := st, wp := wp }
    | none => s

/-- A change of the map that the index log records (R340): recorded, then made. -/
def State.mapChange (s : State) (r : LogRec) : State := (s.logRec r).applyRec r

/-- Blocks of the log's tail, dirty in the protected part (R340). -/
def State.tailBlocks (s : State) : Nat := ceilDiv (s.zmu.logBytes % (s.width * 0x100000)) 4096

/-- Whether a drive LBA range has an extent. -/
def State.hasExtent (s : State) (d n : Nat) : Bool := s.zmu.extents.any fun e => overlaps e.dlba e.count d n

/-! ### Where the current data lie. -/

/-- The current cached block of a drive LBA. -/
def State.cached (s : State) (d : Nat) : Option CBlock := s.buf.cache.find? fun b => b.dlba == d && b.current

/-- The first source that holds the block, of R338, R345 and R347. -/
def State.locate (s : State) (d : Nat) : Loc :=
  match s.cached d with
  | some b => if b.poisoned then .lost else .cache b.fsn
  | none =>
    if s.isLost d then .lost
    else
      match s.zmu.extents.find? fun e => decide (e.dlba ≤ d ∧ d < e.dlba + e.count) with
      | some e =>
        if e.zero then .zero
        else if s.buf.rcache.any fun r => r.1 == d then .rcache
        else .media e.pzone e.stripe (e.off + (d - e.dlba))
      | none =>
        match s.zone? (d / zsze) with
        | none => .zero
        | some z =>
          let o := d % zsze
          let i := o / (256 * s.width)
          if i ≥ z.frontier ∨ (z.state ≠ 5 ∧ o ≥ z.wp) then .zero
          else if s.buf.rcache.any fun r => r.1 == d then .rcache
          else .media z.home i (o % (256 * s.width))

/-! ### The write cache. -/

/-- Blocks per MiB. -/
def perMiB : Nat := 256

/-- Blocks of the protected and of the unprotected part of the write cache (R301). -/
def State.partSize (s : State) (prot : Bool) : Nat :=
  match s.cfg with
  | none => 0
  | some c => (if prot then c.dram.protCache else c.dram.wcache - c.dram.protCache) * perMiB

/-- Dirty blocks of a part, the log tail among the protected ones (R304, R340). -/
def State.dirty (s : State) (prot : Bool) : Nat :=
  (s.buf.cache.filter fun b => b.dirty && b.prot == prot).length + (if prot then s.tailBlocks else 0)

/-- Blocks that admitted writers hold in a part before their commits. -/
def State.buffered (s : State) (prot : Bool) : Nat :=
  ((s.cqu.store.filter fun c => c.prot == some prot && c.phase == .admitted).map fun c => c.buf.length).sum

/-- Blocks of a part that cannot be dropped: dirty, pinned, or in a slot. -/
def State.stuck (s : State) (prot : Bool) : Nat :=
  (s.buf.cache.filter fun b => b.prot == prot && (b.dirty || !b.pins.isEmpty || b.slot.isSome)).length

/-- The protected dirty limit L in blocks (R304): the limit of R150 and the erased part of the save area, the lines a
single Chest device can take (R275), and 0 while the Chest header shows STATE 1 or 2. -/
def State.limitL (s : State) : Nat :=
  if s.chest.header.state = 1 ∨ s.chest.header.state = 2 then 0
  else
    let er := (List.zipWith (fun (n : Nat) (ok : Bool) => if ok then n else 0) s.chest.erased s.chest.writeOk).sum
    min (min s.buf.limit (er * 64)) (s.partSize true)

/-- A part has room for `n` blocks of a writer. -/
def State.room (s : State) (prot : Bool) (n : Nat) : Bool :=
  decide (s.stuck prot + s.buffered prot + n ≤ s.partSize prot) &&
  (!prot || decide (s.dirty true + s.buffered true + n ≤ s.limitL))

/-- VWC bit 0 (R362): WCACHE above PROT_CACHE. -/
def State.vwc (s : State) : Bool := match s.cfg with | some c => decide (c.dram.wcache > c.dram.protCache) | none => false

/-- Which part a writer of `n` blocks uses now (R370, R304): none where it waits. `must` holds with FUA, with the cache
disabled, or with VWC bit 0 clear. -/
def State.admitPart (s : State) (must : Bool) (n : Nat) : Option Bool :=
  if must then
    if n > s.limitL then (if s.room false n then some false else none)
    else if s.room true n then some true else none
  else if s.room true n then some true
  else if s.room false n then some false
  else none

/-- A later write replaces a block (R366): a pinned block, or one in a slot, stays for its readers; others go. -/
def CBlock.superseded (b : CBlock) : Option CBlock :=
  if b.pins.isEmpty ∧ b.slot.isNone then none else some { b with current := false, dirty := false }

/-- Whether a part must drop a clean block to hold one more; the oldest goes. -/
def State.evictClean (s : State) (prot : Bool) : State :=
  if (s.buf.cache.filter fun b => b.prot == prot).length < s.partSize prot then s
  else
    match s.buf.cache.find? fun b => b.prot == prot && !b.dirty && b.pins.isEmpty && b.slot.isNone with
    | none => s
    | some v => { s with buf := { s.buf with cache := s.buf.cache.filter fun b => b != v } }

/-- One block of a writer becomes current (R367): the newest data of its drive LBA, off the lost list (R286). -/
def State.commitBlock (fsn : Nat) (prot : Bool) (s : State) (x : Nat × Bytes) : State :=
  let c := s.buf.cache.filterMap fun b => if b.dlba = x.1 ∧ b.current then b.superseded else some b
  let s1 : State := { s with buf := { s.buf with
    cache := c, rcache := s.buf.rcache.filter fun r => r.1 != x.1 } }
  let s2 := s1.evictClean prot
  let s3 : State := { s2 with buf := { s2.buf with
    cache := s2.buf.cache ++ [⟨x.1, fsn, x.2, prot, true, true, false, [], none⟩] } }
  s3.unlose x.1

/-- All blocks of a writer become current together (R367); the first commit clears Global Data Erased (R462). -/
def State.commitBlocks (s : State) (fsn : Nat) (prot : Bool) (l : List (Nat × Bytes)) : State :=
  let s1 := l.foldl (State.commitBlock fsn prot) s
  { s1 with bur := { s1.bur with erased := false } }

/-- A block is durable (R370): clean, replaced by a later durable one, or in the protected part. -/
def State.durable (s : State) (d fsn : Nat) : Bool :=
  match s.buf.cache.find? fun b => b.dlba == d && b.current with
  | none => true
  | some b => decide (b.fsn < fsn) || b.prot || !b.dirty

/-- Pin the cached blocks a reader names (R366). -/
def State.pin (s : State) (fsn : Nat) (locs : List (Nat × Loc)) : State :=
  let named (b : CBlock) : Bool := locs.any fun l => l.1 == b.dlba && decide (l.2 = .cache b.fsn)
  { s with buf := { s.buf with
      cache := s.buf.cache.map fun b => if named b then { b with pins := fsn :: b.pins } else b } }

/-- Release a reader's pins; a replaced block without pins or slot goes. -/
def State.unpin (s : State) (fsn : Nat) : State :=
  let c := s.buf.cache.map fun b => { b with pins := b.pins.filter (· != fsn) }
  { s with buf := { s.buf with cache := c.filter fun b => b.current || !b.pins.isEmpty || b.slot.isSome } }

/-- Blocks leave the cache without being written (R346, R460): every cached block of a set of drive LBAs. -/
def State.dropBlocks (s : State) (p : Nat → Bool) : State :=
  { s with buf := { s.buf with
      cache := s.buf.cache.filterMap fun b => if p b.dlba ∧ b.current then b.superseded else some b,
      rcache := s.buf.rcache.filter fun r => !(p r.1) } }

/-! ### The journal. -/

/-- Append an entry to the journal (R268). -/
def State.journal (s : State) (e : JEntry) : State :=
  { s with stripe := { s.stripe with journal := { s.stripe.journal with
      seq := s.stripe.journal.seq + 1, pending := s.stripe.journal.pending ++ [(s.stripe.journal.seq, e)] } } }

/-- Live journal blocks: 62 entries a block since the last META_CKPT (R267, R270). -/
def State.liveJournal (s : State) : Nat := ceilDiv (s.stripe.journal.seq - 1 - s.stripe.journal.ckptSeq) 62

/-! ### Sideboard slots. -/

/-- Slots of the Sideboard (R78, R264). -/
def State.slotCount (s : State) : Nat := match s.cfg with | some c => c.stripe.sideboard | none => 0

/-- A Sideboard slot by number. -/
def State.slot? (s : State) (n : Nat) : Option SideSlot := s.stripe.slots.find? fun x => x.num == n

/-- Replace a Sideboard slot. -/
def State.setSlot (s : State) (x : SideSlot) : State :=
  { s with stripe := { s.stripe with slots := s.stripe.slots.map fun y => if y.num = x.num then x else y } }

/-- The placement record of a physical zone. -/
def State.place? (s : State) (pz : Nat) : Option Placement := s.stripe.places.find? fun p => p.zone == pz

/-- Replace a placement record. -/
def State.setPlace (s : State) (p : Placement) : State :=
  { s with stripe := { s.stripe with places := s.stripe.places.map fun q => if q.zone = p.zone then p else q } }

/-- The lowest free slot number, where a new slot may be assigned (R266). -/
def State.freeSlot (s : State) : Option Nat :=
  if s.liveJournal > 7168 then none
  else (List.range s.slotCount).find? fun n => (s.slot? n).isNone

/-- Assign a slot to a stripe position with its blocks (R264): the blocks leave the write cache for the slot and stay
readable; all data segments are complete. -/
def State.assignSlot (s : State) (n pz i first : Nat) (blocks : List (Nat × Nat)) (cache : Bool) : State :=
  { s with
    stripe := { s.stripe with slots := s.stripe.slots ++ [⟨n, pz, i, first, blocks, cache, .complete, false⟩] },
    buf := { s.buf with cache := s.buf.cache.map fun b =>
      if b.current ∧ b.dirty ∧ (blocks.map Prod.snd).contains b.dlba then { b with slot := some n } else b } }

/-- The next stripe of a logical zone's home that no slot has taken. -/
def State.nextHome (s : State) (z : ZoneDesc) : Nat :=
  z.frontier + (s.stripe.slots.filter fun x => x.zone == z.home && !x.cache && x.state != .committing).length

/-- Give stripe i of a home zone a slot when all its blocks are dirty in the write cache together (R338, R345) and the
zone has no extent (conventional) or the stripe is at its frontier (zoned). -/
def State.gatherHome (s : State) (lz : Nat) : State :=
  match s.zone? lz, s.freeSlot with
  | some z, some n =>
    let i := s.nextHome z
    let w := 256 * s.width
    let ds := (List.range w).map fun k => lz * zsze + i * w + k
    let ok := ds.all fun d => s.buf.cache.any fun b => b.dlba == d && b.current && b.dirty && b.slot.isNone
    let waiting := match s.place? z.home with | some p => p.waiting | none => false
    if i < 96 ∧ ok ∧ !waiting ∧ (z.state ≠ 5 ∨ !s.hasExtent (lz * zsze) zsze) then
      s.assignSlot n z.home i (lz * zsze + i * w) (ds.mapIdx fun k d => (k, d)) false
    else s
  | _, _ => s

/-- Physical zones of the pool: those of the conventional area that are no zone's home (R332, R342). -/
def State.poolZones (s : State) : List Nat :=
  match s.zmu.layout with
  | none => []
  | some l => ((List.range (l.m + l.c)).map (· + 4)).filter fun p => !(s.zmu.zones.any fun z => z.home == p)

/-- A pool zone is free (R338): no extent points into it, no stripe launched into it is in flight, and it is neither the
ring's current zone nor a merge target in use. -/
def State.poolFree (s : State) (p : Nat) : Bool :=
  !(s.zmu.extents.any fun e => e.pzone == p && !e.zero) && !(s.stripe.slots.any fun x => x.zone == p) &&
  !(decide (s.zmu.ring.1 = p) && decide (0 < s.zmu.ring.2) && decide (s.zmu.ring.2 < 96)) &&
  !(s.zmu.merges.any fun m => m.target == p)

/-- Free pool zones. -/
def State.freePool (s : State) : List Nat := s.poolZones.filter s.poolFree

/-- The next position of the media cache ring (R338): the current pool zone, or the next free one. -/
def State.ringNext (s : State) : Option (Nat × Nat) :=
  let (z, i) := s.zmu.ring
  if i < 96 ∧ z ∈ s.poolZones ∧ (i > 0 ∨ z ∈ s.freePool) then some (z, i)
  else
    match s.freePool.find? (fun p => decide (p > z)) with
    | some p => some (p, 0)
    | none => s.freePool.head?.map fun p => (p, 0)

/-- Take a position of the ring. -/
def State.ringTake (s : State) (z i : Nat) : State :=
  let o := if z ∈ s.zmu.order ∧ i ≠ 0 then s.zmu.order else s.zmu.order.filter (· != z) ++ [z]
  { s with zmu := { s.zmu with ring := (z, i + 1), order := o } }

/-- The dirty blocks that go through the media cache, oldest first: dirty, current, in no slot (R338). -/
def State.loose (s : State) : List CBlock := s.buf.cache.filter fun b => b.dirty && b.current && b.slot.isNone

/-- Fill a media cache slot with the oldest loose blocks, empty rows holding fillers, and complete it (R338). -/
def State.gatherCache (s : State) (n : Nat) : State :=
  match s.ringNext, s.loose.take (256 * s.width) with
  | some (z, i), b :: t =>
    if (s.slot? n).isSome ∨ n ≥ s.slotCount ∨ s.liveJournal > 7168 then s
    else (s.ringTake z i).assignSlot n z i b.dlba ((b :: t).mapIdx fun k x => (k, x.dlba)) true
  | _, _ => s

end Sys2Proof.Machine
end

