-- ==== Sys2Proof/Machine/Ladder.lean ====
section
/-!
DEFINITION. The recovery ladder (R203 to R206, R239 to R243, R253): the order of the trials, the steps a sector climbs, its
places and rereads, and reconstruction as its last step.
-/

namespace Sys2Proof.Machine

/-! ### Runs. -/

/-- Queue runs in the media scheduler. -/
def State.queueRuns (s : State) (l : List MRun) : State :=
  { s with cqu := { s.cqu with runs := s.cqu.runs ++ l, nextRun := s.cqu.nextRun + l.length } }

/-- A run goes back to the media scheduler whole (R53, R243), with the place its kind has there. -/
def State.requeue (s : State) (n : Nat) (r : RunCmd) : State :=
  let kind := if r.kind = 1 then 3 else if r.kind = 2 then 1 else if r.kind = 0 ∧ !assocHas s.media.idleReread r.tag.toNat then 2 else 4
  { s with cqu := { s.cqu with runs := s.cqu.runs ++
      [{ id := r.tag.toNat, act := n / 2, kind := kind, head := 12 * (n / 2) + r.head.toNat, since := 0, urgent := false, run := r }] } }

/-! ### Thresholds (R81). -/

/-- OTF_ITER. -/
def State.otfIter (s : State) : Nat := match s.cfg with | some c => c.thresh.otfIter | none => 4

/-- RETRY_ITER. -/
def State.retryIter (s : State) : Nat := match s.cfg with | some c => c.thresh.retryIter | none => 24

/-- A step of the ladder is enabled (R240): 0, 3 and 8 always are. -/
def State.ladderOn (s : State) (k : Nat) : Bool :=
  [0, 3, 8].contains k || (match s.cfg with | some c => c.thresh.ladder.getLsbD k | none => true)

/-- A channel is out of service (R243). -/
def State.chanOut (s : State) (ch : Nat) : Bool := s.flag (Reg.RWC.STATUS.OUT ch)

/-- The other channel of the same actuator. -/
def otherChan (ch : Nat) : Nat := if ch % 2 = 0 then ch + 1 else ch - 1

/-! ### Sectors in work. -/

/-- Replace a sector in work. -/
def State.setSector (s : State) (x : LdpSector) : State :=
  { s with media := { s.media with sectors := s.media.sectors.map fun y =>
      if y.ch = x.ch ∧ y.tag = x.tag ∧ y.idx = x.idx then x else y } }

/-- A sector leaves the pool and the ladder; a reread still queued for it goes with it. -/
def State.dropSector (s : State) (x : LdpSector) : State :=
  { s with
    media := { s.media with sectors := s.media.sectors.filter fun y => !(y.ch == x.ch && y.tag == x.tag && y.idx == x.idx) }
    cqu := { s.cqu with runs := s.cqu.runs.filter fun r => some r.id != x.rr } }

/-- The score of an alignment (R205). -/
def scoreAt (l : List (Int × Nat)) (d : Int) : Nat := assocGet 0 l d

/-- The order of two alignments (R205): higher score, then the smaller |d|, then the positive one. -/
def alignBefore (l : List (Int × Nat)) (a b : Int) : Bool :=
  let sa := scoreAt l a
  let sb := scoreAt l b
  decide (sa > sb) || (sa == sb && (decide (a.natAbs < b.natAbs) || (a.natAbs == b.natAbs && decide (a ≥ b))))

/-- Insert an alignment in the order of R205. -/
def alignInsert (l : List (Int × Nat)) (a : Int) : List Int → List Int
  | [] => [a]
  | b :: t => if alignBefore l a b then a :: b :: t else b :: alignInsert l a t

/-- Alignments in the order of R205. -/
def alignSort (l : List (Int × Nat)) (ds : List Int) : List Int := ds.foldr (alignInsert l) []

/-- The 17 alignments of R203. -/
def syncTrials : List Int := (List.range 17).map fun (k : Nat) => (k : Int) - 8

/-- The alignments about a mark found (R204). -/
def markTrials (m : Int) : List Int := [m + 1, m + 2, m + 3, m + 4, m - 1, m - 2, m - 3, m - 4]

/-- The final alignment of R205: the mark's, or the one with the highest score. -/
def LdpSector.final (x : LdpSector) : Int :=
  match x.mark with
  | some m => m
  | none => (alignSort x.scores syncTrials).headD 0

/-! ### Places and rereads (R240, R241). -/

/-- Rereads that a step makes; step 7 has none where a channel of the actuator is out (R253). -/
def State.rereadsOf (s : State) (x : LdpSector) (k : Nat) : Nat :=
  if k = 3 then 1
  else if k = 4 then (match s.cfg with | some c => c.thresh.rereads | none => 0)
  else if k = 5 then 4
  else if k = 6 then 2
  else if k = 7 then (if s.chanOut x.ch || s.chanOut (otherChan x.ch) then 0 else 1)
  else 0

/-- The channel a sector's next reread runs on (R240, R253). -/
def State.rereadChan (s : State) (x : LdpSector) : Nat :=
  if x.step = 7 ∨ s.chanOut x.ch then otherChan x.ch else x.ch

/-- The reread of a sector is queued (R240, R241), with wide windows. -/
def State.queueReread (s : State) (x : LdpSector) : State :=
  let id := s.cqu.nextRun
  let d := s.descOf x.head x.track
  (s.setSector { x with place := true, rr := some id, waiting := false, stored := false }).queueRuns
    [{ id := id, act := x.ch / 2, kind := 1, head := x.head, since := 0, urgent := false,
       run := { kind := 2, head := BitVec.ofNat 8 (x.head % 12), count := 1, track := BitVec.ofNat 32 x.track,
                firstSlot := BitVec.ofNat 16 x.slot, seedKind := BitVec.ofNat 8 x.kind, descValid := d.isSome, wide := true,
                dlba := BitVec.ofNat 40 x.dlba, descAddr := BitVec.ofNat 32 (match d with | some e => e.addr | none => 0),
                tag := BitVec.ofNat 32 id } }]

/-- Places of an actuator: 64 for each channel in service (R240). -/
def State.places (s : State) (a : Nat) : Nat :=
  64 * ((List.range 2).filter fun u => !s.chanOut (2 * a + u)).length

/-- Places taken on an actuator. -/
def State.placesUsed (s : State) (a : Nat) : Nat := (s.media.sectors.filter fun x => x.place && x.ch / 2 == a).length

/-- A sector asks for its reread: it takes a place or waits for one. -/
def State.askReread (s : State) (x : LdpSector) : State :=
  let y := { x with waiting := false, engine := none, trials := [], own := false, more := 0 }
  if x.place ∨ s.placesUsed (x.ch / 2) < s.places (x.ch / 2) then s.queueReread y
  else s.setSector { y with place := false, rr := none }

/-- Sectors that wait for a place take those that are free, oldest first. -/
def State.fillPlaces (s : State) : State :=
  s.media.sectors.foldl (fun (t : State) x =>
    if x.step ≥ 3 ∧ x.step ≤ 7 ∧ !x.place ∧ x.rr.isNone ∧ t.placesUsed (x.ch / 2) < t.places (x.ch / 2) then t.queueReread x
    else t) s

/-! ### Relocation and reconstruction (R242, R253). -/

/-- The band of a surface that holds a track. -/
def bandHolding (starts : List Nat) (t : Nat) : Option Nat :=
  match (starts.filter (· ≤ t)).length with
  | 0 => none
  | k + 1 => some k

/-- R242: the sector is to be relocated: the member band that holds it is queued for relocation (R288). -/
def State.relocDue (s : State) (x : LdpSector) : State :=
  match s.cfg with
  | none => s
  | some c =>
    match bandHolding (s.bands c.geom x.head) x.track with
    | none => s
    | some b =>
      let hits := s.stripe.places.filterMap fun p =>
        (p.cur.findIdx? fun m => m.surface == x.head && m.band == b && m.state != 1).map fun i => (p.zone, i)
      match hits.head? with
      | none => s
      | some e =>
        if e ∈ s.stripe.relocs then s else { s with stripe := { s.stripe with relocs := s.stripe.relocs ++ [e] } }

/-- Commands past their snapshot that need a block from media. -/
def State.waitsFor (s : State) (d : Nat) : List Nat :=
  (s.cqu.store.filter fun c => c.phase == .snapped && c.locs.any fun l => l.1 == d &&
    (match l.2 with | .media _ _ _ => true | _ => false)).map fun c => c.fsn

/-- Step 8 (R240): the commands that need the block are served by a degraded read; a sector that no command waits for is left
to the relocation, which reads around it. -/
def State.toStep8 (s : State) (x : LdpSector) : State :=
  let s1 : State := { s with
    cqu := { s.cqu with runs := s.cqu.runs.filter fun r => some r.id != x.rr }
    media := { s.media with step8 := s.media.step8 ++ [(x.head, s.hours)] } }
  let fsns := if x.kind = 0 then s1.waitsFor x.dlba else []
  let y := { x with
    step := 8, waiting := false, engine := none, trials := [], own := false, more := 0, stored := false, place := false,
    rr := none }
  let s2 : State := { s1 with stripe := { s1.stripe with
    degraded := fsns.foldl (fun l f => insertNat f l) s1.stripe.degraded } }
  (if fsns.isEmpty then ((s2.dropSector y).bin 2 x.head 9).relocDue y else s2.setSector y).fillPlaces

/-- R253: the sectors of a retired head that are in the ladder go to step 8 at once. -/
def State.headToStep8 (s : State) (h : Nat) : State :=
  (s.media.sectors.filter fun x => x.head == h && decide (x.step < 8) && !x.first).foldl (fun (t : State) x => t.toStep8 x) s

/-- Step 8 has delivered blocks (R242): they are counted and relocated. -/
def State.step8Served (s : State) (blocks : List Nat) : State :=
  (s.media.sectors.filter fun x => x.step == 8 && blocks.contains x.dlba).foldl
    (fun (t : State) x => ((t.dropSector x).bin 2 x.head 9).relocDue x) s

/-! ### The steps (R240). -/

/-- A step that a sector can take: enabled, with an entry to work on for steps 1 and 2, with a reread to make for 3 to 7. -/
def State.canStep (s : State) (x : LdpSector) (k : Nat) : Bool :=
  s.ladderOn k &&
  (if k ≤ 2 then x.stored && !x.incomplete && !x.expired else if k ≤ 7 then decide (s.rereadsOf x k > 0) else true)

/-- The copy a sector leaves in DRAM (R240): its stored values, where its samples are complete. -/
def LdpSector.copied (x : LdpSector) : LdpSector :=
  { x with
    copies := if x.incomplete || x.values.isEmpty then x.copies else (x.values :: x.copies).take 4
    stored := false
    values := [] }

/-- The sector goes on to its next enabled step. -/
def State.ladderNext (s : State) (x : LdpSector) : State :=
  match (List.range 9).find? fun k => decide (k > x.step) && s.canStep x k with
  | none => s.toStep8 x
  | some k =>
    if k ≤ 2 then
      s.setSector { x with
        step := k, trials := [], own := false, more := 0, align := x.final, iters := s.retryIter, waiting := true,
        engine := none }
    else if k = 8 then s.toStep8 x
    else s.askReread { x.copied with step := k, reread := 0 }

/-- The record of FSQ.SYNC_LAST: result, alignment, score (R221). -/
def State.syncLast (s : State) (ch result : Nat) (a : Int) (score : Nat) : State :=
  ((s.put (Reg.FSQ.SYNC_LAST.RESULT ch) result).put (Reg.FSQ.SYNC_LAST.OFFSET ch) (unsigned 8 (clampI (-128) 127 a))).put
    (Reg.FSQ.SYNC_LAST.SCORE ch) (min score 64)

/-- The stored-sample sync steps of a sector have failed (R208). -/
def State.syncFailed (s : State) (x : LdpSector) : State :=
  (s.count 0x106 x.head 1).syncLast x.ch 4 x.final (scoreAt x.scores x.final)

/-- A decode of a sector has failed: the rest of a first decode that was held short, the next trial, the step's own decode,
the next reread of the step, or the next step (R203 to R206, R235, R240). -/
def State.decodeFailed (s : State) (x : LdpSector) : State :=
  if x.loop then s.dropSector x
  else if s.stripe.retired.contains x.head then s.toStep8 x
  else if x.expired then
    (if x.step < 3 then s.askReread { x.copied with step := 3, reread := 0 }
     else if x.reread + 1 < s.rereadsOf x x.step then s.askReread { x.copied with reread := x.reread + 1 }
     else s.ladderNext x)
  else if x.more > 0 then s.setSector { x with iters := x.more, more := 0, waiting := true, engine := none }
  else
    match x.trials with
    | a :: t => s.setSector { x with align := a, trials := t, iters := s.otfIter, waiting := true, engine := none }
    | [] =>
      if x.own then
        s.setSector { x with own := false, align := x.final, iters := s.retryIter, waiting := true, engine := none }
      else if x.step ≥ 3 then
        (if x.reread + 1 < s.rereadsOf x x.step then s.askReread { x.copied with reread := x.reread + 1 } else s.ladderNext x.copied)
      else (if x.step = 0 then s.syncFailed x else s).ladderNext x

/-- An entry of the retry store is lost or has been held for 2 ms (R239, R309): its sector goes to the first reread, after the
decode in progress. -/
def State.expireEntry (s : State) (x : LdpSector) : State :=
  let y := { x with expired := true, stored := false }
  if x.engine.isSome then s.setSector y else s.decodeFailed { y with first := false, waiting := false }

end Sys2Proof.Machine
end

