-- ==== Sys2Proof/Machine/Mec.lean ====
section
/-!
DEFINITION. The memory error controller's commands (R303, R305 to R312): corrections, bucket leak, tracker ages,
uncorrectable errors, scrub passes, the flip mask, the refresh-rate poll. An address is an SRAM byte address or a DRAM
granule index, as MEC's registers give them (R314).
-/

namespace Sys2Proof.Machine

/-- Whether a unit of a memory exists (R295, R300). -/
def State.unitExists (s : State) (m : Mem) (u : Nat) : Bool := decide ((u + 1) * m.unit ≤ s.memSize m)

/-- R305, R306: a correction. -/
def execMemoryCorrection (mem : Mem) (addr : Nat) (clientWrote byScrub : Bool) (s : State) :
    Host.Outcome State Fault Refusal :=
  if s.unitExists mem addr then .next (s.correction mem addr clientWrote byScrub) else .fault (.noSuchAddress mem addr)

/-- R305: the level falls by 1, never below 0; a LEAK of 0 means no leak. -/
def execBucketLeak (mem : Mem) (s : State) : Host.Outcome State Fault Refusal :=
  match s.bucketCfg mem with
  | none => .next s
  | some (_, leak) =>
    if leak = 0 then .next s else .next (s.put (bucketFlds mem).1 (s.get (bucketFlds mem).1 - 1))

/-- R306: an entry leaves the tracker by age. -/
def execTrackerAgeOut (mem : Mem) (addr : Nat) (s : State) : Host.Outcome State Fault Refusal :=
  .next { s with buf := { s.buf with track := untrack s.buf.track mem addr } }

/-- The ladder takes a retry store entry's sectors at step 3 (R309, R240). -/
def State.retryLost (s : State) (ch : Nat) (tag : Word) : State :=
  (s.media.sectors.filter fun x => x.ch == ch && x.tag == tag && x.stored).foldl
    (fun (t : State) x => t.expireEntry { x with values := [] }) s

/-- The treatment of the data by the region they came from (R309). -/
def State.ueRegion (s : State) : UeRegion → State
  | .dirtyCache d => s.poison d
  | .cleanCache d =>
    { s with buf := { s.buf with
        cache := s.buf.cache.filter fun b => !(b.dlba == d && !b.dirty),
        rcache := s.buf.rcache.filter fun b => b.1 != d } }
  | .sideboardPQ => s
  | .sideboardData d => s.poison d
  | .retryStore ch tag => s.retryLost ch tag
  | .savedLine d =>
    { s with chest := { s.chest with saved := s.chest.saved.map fun l => if l.dlba = d then { l with bad := true } else l } }
  | .other => s

/-- A halted channel (R328): the channel, memory, unit and bytes moved are recorded. -/
def State.haltInfo (s : State) (chan : Nat) (m : Mem) (u moved : Nat) : State :=
  (((s.put Reg.DMA.HALT_INFO.CHANNEL chan).put Reg.DMA.HALT_INFO.SRC_SP m.num).put Reg.DMA.HALT_INFO.BYTES
    (min moved 0xFFFFFF)).put Reg.DMA.HALT_ADDR.ADDR u

/-- End the descriptor of a ring channel (R318, R319): STATUS is written and OWN cleared in one write, the line pulses,
HEAD advances; the channel idles on STOP or a STATUS other than 0, and HALTED sets on 0x01 and 0x03. -/
def State.ringEnd (s : State) (n : Nat) (d : Desc) (st : Nat) : State :=
  let base := s.get (Reg.DMA.RING_CFG.BASE n)
  let size := 2 ^ s.get (Reg.DMA.RING_CFG.SIZE n)
  let head := s.get (Reg.DMA.RING_STATUS.HEAD n)
  let w := (if d.evEn then 2 else 0) + d.ev.toNat * 4 + d.srcSp.toNat * 256 + d.dstSp.toNat * 1024 +
    (if d.stop then 4096 else 0) + st * 65536
  let s1 : State := { s with dma := { s.dma with
    ctrl := assocPut s.dma.ctrl (base + head) (BitVec.ofNat 32 w),
    rings := modifyAt s.dma.rings n fun r => { r with cur := none, idle := r.idle || d.stop || st != 0 } } }
  let s2 := ((s1.put (Reg.DMA.RING_STATUS.LAST_STATUS n) st).put (Reg.DMA.RING_STATUS.HEAD n) ((head + 1) % size))
  let s3 := if st = 1 ∨ st = 3 then s2.put (Reg.DMA.RING_STATUS.HALTED n) 1 else s2
  if d.evEn then s3.pulse d.ev.toNat else s3

/-- A streaming channel halts (R328): HALTED, the shadow set dropped, the active set ended, its line pulsed. -/
def State.streamHalt (s : State) (m : Nat) : State :=
  (({ s with dma := { s.dma with streams := modifyAt s.dma.streams m fun _ => .reset } } : State).put
    (Reg.DMA.STR_STATUS.HALTED m) 1).pulse m

/-- A DMA channel halts on uncorrectable source data (R328): channels 0 to 63 ring, 64 to 71 streaming. -/
def State.dmaHalt (s : State) (chan : Nat) (m : Mem) (u moved : Nat) : State :=
  let s1 := s.haltInfo chan m u moved
  if chan < 64 then
    match (s1.dma.rings.getD chan .reset).cur with
    | some (d, _) => s1.ringEnd chan d 1
    | none => s1
  else s1.streamHalt (chan - 64)

/-- The result for the reader of uncorrectable data (R309). -/
def State.ueReader (s : State) (m : Mem) (u : Nat) : UeReader → State
  | .patchFetch =>
    if s.buf.ueFetch = some u then { s with start := { s.start with hung := true } }
    else { s with buf := { s.buf with ueFetch := some u } }
  | .otherFetch copy => if copy then s else { s with start := { s.start with hung := true } }
  | .dma chan moved => s.dmaHalt chan m u moved
  | .mapFill => s
  | .window => s.send .poisoned
  | .scrub =>
    match s.scrub m with
    | some (c, ue, t) => s.setScrub m (some (c, ue + 1, t))
    | none => s

/-- R309: an uncorrectable error is recorded, its reader told, and the data treated by their region. -/
def execUncorrectableError (mem : Mem) (addr : Nat) (reader : UeReader) (region : UeRegion) (s : State) :
    Host.Outcome State Fault Refusal :=
  if s.unitExists mem addr then .next (((s.ueRecord mem addr).ueReader mem addr reader).ueRegion region)
  else .fault (.noSuchAddress mem addr)

/-- R310: a periodic pass starts. -/
def execScrubPassStart (mem : Mem) (s : State) : Host.Outcome State Fault Refusal := .next (s.startScrub mem false)

/-- R311: a pass reaches its end and its summary replaces the previous one. -/
def execScrubPassEnd (mem : Mem) (s : State) : Host.Outcome State Fault Refusal :=
  .next (s.endScrub mem true).shortTestStep

/-- R311: MEC.SCRUB_CTRL.START_SRAM, in manufacturing mode. -/
def execStartSram (s : State) : Host.Outcome State Fault Refusal := .next (s.inMfg fun t => t.startScrub .sram true)

/-- R311: MEC.SCRUB_CTRL.START_DRAM, in manufacturing mode. -/
def execStartDram (s : State) : Host.Outcome State Fault Refusal := .next (s.inMfg fun t => t.startScrub .dram true)

/-- R312: a write of MEC.FLIP_CTRL, in manufacturing mode. -/
def execFlipArm (value : Word) (s : State) : Host.Outcome State Fault Refusal :=
  .next (s.inMfg fun t => t.writeMasked 0x0C 0x008 value)

/-- R303: the refresh rates the devices report; devices in self-refresh refresh themselves. -/
def execRefreshRatePoll (rates : List Byte) (s : State) : Host.Outcome State Fault Refusal :=
  if s.buf.selfRef then .next s else .next { s with buf := { s.buf with rates := rates } }

end Sys2Proof.Machine
end

