-- ==== Sys2Proof/Machine/Dma.lean ====
section
/-!
DEFINITION. The DMA fabric's commands (R316 to R329): descriptors of ring channels, KICK and ABORT, the sets of streaming
channels, and the delivery of event pulses.
-/

namespace Sys2Proof.Machine

/-- The descriptor errors of R316. -/
def descBroken (d : Desc) : Bool :=
  d.rows == 0 || d.len == 0 || decide (d.len.toNat > 0x1000000) || d.srcSp == 3 || d.dstSp == 3 ||
  (decide (d.rows.toNat > 1) && (d.dstStride == 0 || decide (d.dstStride.toNat * 32 < d.len.toNat))) ||
  (d.dstSp == 1 && (d.dst.toNat % 32 != 0 || d.len.toNat % 32 != 0))

/-- The memory of an address space (R316): 0 SRAM, 1 DRAM, 2 PCIe. -/
def spaceMem (sp : Nat) : Option Mem := if sp = 0 then some .sram else if sp = 1 then some .dram else none

/-- Where row r of a side starts (R316). -/
def srcAt (d : Desc) (r : Nat) : Nat := d.src.toNat + r * d.srcStride.toNat * 32

/-- Where row r of the destination starts (R316). -/
def dstAt (d : Desc) (r : Nat) : Nat := d.dst.toNat + r * d.dstStride.toNat * 32

/-- The first row whose bytes lie outside the memory of a side, with its address. -/
def State.hole (s : State) (d : Desc) : Option (Mem × Nat) :=
  let bad (sp : Nat) (addr : Nat → Nat) : Option (Mem × Nat) :=
    match spaceMem sp with
    | none => none
    | some m => ((List.range d.rows.toNat).find? fun r => decide (addr r + d.len.toNat > s.memSize m)).map fun r => (m, addr r)
  match bad d.srcSp.toNat (srcAt d) with
  | some x => some x
  | none => bad d.dstSp.toNat (dstAt d)

/-- Write bytes at an address of a space. -/
def State.dmaPut (s : State) (sp : Nat) (a : Nat) (b : Bytes) : State :=
  match spaceMem sp with
  | some m => s.memWrite m a b
  | none => s.send (.memWrite a b)

/-- Move row r, at most `lim` bytes of it (R319, R328): the bytes moved and, where the source is uncorrectable, its
memory and unit: every byte before the failing unit is written, and nothing from it onward. -/
def State.dmaRow (s : State) (d : Desc) (pcie : List Bytes) (r lim : Nat) : State × Nat × Option (Mem × Nat) :=
  let n := min lim d.len.toNat
  match spaceMem d.srcSp.toNat with
  | none => (s.dmaPut d.dstSp.toNat (dstAt d r) ((padTo d.len.toNat (pcie.getD r [])).take n), n, none)
  | some m =>
    let a := srcAt d r
    match s.firstBad m a n with
    | none => ((s.readCorrections m a n).dmaPut d.dstSp.toNat (dstAt d r) (s.bytes m a n), n, none)
    | some u =>
      let k := u * m.unit - a
      (s.dmaPut d.dstSp.toNat (dstAt d r) (s.bytes m a k), k, some (m, u))

/-- Move rows in order until `lim` bytes have gone or the source is uncorrectable. -/
def State.dmaRows (d : Desc) (pcie : List Bytes) : List Nat → Nat → Nat → State → State × Nat × Option (Mem × Nat)
  | [], _, moved, s => (s, moved, none)
  | r :: t, lim, moved, s =>
    if lim = 0 then (s, moved, none)
    else
      match s.dmaRow d pcie r lim with
      | (s1, n, some x) => (s1, moved + n, some x)
      | (s1, n, none) => State.dmaRows d pcie t (lim - n) (moved + n) s1

/-- Run a descriptor for at most `lim` bytes and end it with a status, or halt it on uncorrectable data (R319, R328). -/
def State.runDesc (s : State) (n : Nat) (d : Desc) (pcie : List Bytes) (lim st : Nat) : State :=
  match State.dmaRows d pcie (List.range d.rows.toNat) lim 0 s with
  | (s1, moved, some (m, u)) => ((s1.ueRecord m u).haltInfo n m u moved).ringEnd n d 1
  | (s1, _, none) => s1.ringEnd n d st

/-- Whether ring channel n idles until the next start (R329). -/
def Dma.held (f : Dma) (n : Nat) : Bool :=
  f.paused && !(decide (32 ≤ n ∧ n ≤ 39) || decide (56 ≤ n ∧ n ≤ 59))

/-- R319: ring channel n examines the descriptor at HEAD: with OWN it takes it; otherwise it idles until KICK. -/
def execDescriptorStart (n : Fin 64) (d : Desc) (pcieData : List Bytes) (s : State) :
    Host.Outcome State Fault Refusal :=
  let r := s.dma.rings.getD n .reset
  if !s.flag (Reg.DMA.RING_CFG.EN n) || s.flag (Reg.DMA.RING_STATUS.HALTED n) || s.dma.held n || r.cur.isSome ||
      (r.idle && !r.kicked) then .next s
  else if !d.own then
    .next { s with dma := { s.dma with rings := setAt s.dma.rings n { r with kicked := false, idle := true } } }
  else
    .next { s with dma := { s.dma with rings := setAt s.dma.rings n ⟨some (d, pcieData), false, false⟩ } }

/-- R319, R328: the descriptor of ring channel n ends: an error of R316 moves nothing; a PCIe error ends it after a part
of the transfer that the spec does not give. -/
def execDescriptorDone (n : Fin 64) (pcieErr : Bool) (s : State) : Host.Outcome State Fault Refusal :=
  match (s.dma.rings.getD n .reset).cur with
  | none => .next s
  | some (d, pcie) =>
    if descBroken d then .next (s.ringEnd n d 2)
    else
      match s.hole d with
      | some (m, a) => .fault (.noSuchAddress m a)
      | none =>
        let total := d.rows.toNat * d.len.toNat
        if pcieErr then
          let (v, s1) := s.free
          .next (s1.runDesc n d pcie (v % (total + 1)) 3)
        else .next (s.runDesc n d pcie total 0)

/-- The default RATE of a ring channel (R324). -/
def defaultRate (n : Nat) : Nat := if 40 ≤ n ∧ n ≤ 47 then 10 else if 48 ≤ n ∧ n ≤ 55 then 4 else 0

/-- R319, R324: a KICK is remembered. It is the client's hand-over: the client has loaded the default RATE before it first
enables the channel, and has cleared HALTED of a channel it has dealt with (assumption 6). -/
def execKick (n : Fin 64) (s : State) : Host.Outcome State Fault Refusal :=
  let s1 := if s.flag (Reg.DMA.RING_CFG.EN n) then s else
    (s.put (Reg.DMA.RING_CFG.RATE n) (defaultRate n)).put (Reg.DMA.RING_CFG.EN n) 1
  let s2 := s1.put (Reg.DMA.RING_STATUS.HALTED n) 0
  .next { s2 with dma := { s2.dma with rings := modifyAt s2.dma.rings n fun r => { r with kicked := true } } }

/-- R320: ABORT: the channel stops at the next 4 KiB or at the end of the row, after a part of the transfer that the spec
does not give; STATUS 0x04, or 0x01 where the source was uncorrectable (R329). -/
def execAbort (n : Fin 64) (s : State) : Host.Outcome State Fault Refusal :=
  match (s.dma.rings.getD n .reset).cur with
  | none => .next { s with dma := { s.dma with rings := modifyAt s.dma.rings n fun r => { r with idle := true } } }
  | some (d, pcie) =>
    if descBroken d then .next (s.ringEnd n d 2)
    else
      match s.hole d with
      | some (m, a) => .fault (.noSuchAddress m a)
      | none =>
        let (v, s1) := s.free
        let per := ceilDiv d.len.toNat 4096
        let k := v % (d.rows.toNat * per + 1)
        .next (s1.runDesc n d pcie (k / per * d.len.toNat + k % per * 4096) 4)

/-- R322: the client loads the shadow set: ignored with SHADOW_ERR while SHADOW_VALID is 1; an idle channel takes the set
at once. The load of a halted channel is the client's: it has cleared HALTED (assumption 6). -/
def execShadowLoad (m : Fin 8) (d : Desc) (s : State) : Host.Outcome State Fault Refusal :=
  let c := s.dma.streams.getD m .reset
  if c.shadow.isSome then .next (s.put (Reg.DMA.STR_STATUS.SHADOW_ERR m) 1)
  else if c.active.isSome then
    .next { s with dma := { s.dma with streams := setAt s.dma.streams m { c with shadow := some d } } }
  else
    .next (({ s with dma := { s.dma with streams := setAt s.dma.streams m ⟨some d, none, []⟩ } } : State).put
      (Reg.DMA.STR_STATUS.HALTED m) 0)

/-- The active set of streaming channel m ends: the shadow becomes active in the same cycle, the line pulses (R322,
R326). -/
def State.streamEnd (s : State) (m : Nat) : State :=
  let c := s.dma.streams.getD m .reset
  ({ s with dma := { s.dma with streams := setAt s.dma.streams m ⟨c.shadow, none, []⟩ } } : State).pulse m

/-- R322, R323, R328: the active set ends. The rows of channels 4 to 7 have moved in ascending order; those of channels 0
to 3 are the sectors of a run, which the decoder pool delivers and the sequencer takes. -/
def execStreamSetEnd (m : Fin 8) (s : State) : Host.Outcome State Fault Refusal :=
  match (s.dma.streams.getD m .reset).active with
  | none => .next s
  | some d =>
    if m.val < 4 then .next (s.streamEnd m)
    else if descBroken d then .next (s.streamEnd m)
    else
      match s.hole d with
      | some (x, a) => .fault (.noSuchAddress x a)
      | none =>
        match State.dmaRows d [] (List.range d.rows.toNat) (d.rows.toNat * d.len.toNat) 0 s with
        | (s1, moved, some (x, u)) => .next (((s1.ueRecord x u).haltInfo (64 + m) x u moved).streamHalt m)
        | (s1, _, none) => .next (s1.streamEnd m)

/-- R327: a fabric cycle delivers one waiting pulse of a line. -/
def execEventLinePulse (ev : Fin 64) (s : State) : Host.Outcome State Fault Refusal :=
  if s.dma.waiting.getD ev 0 = 0 then .next s
  else .next { s with dma := { s.dma with waiting := modifyAt s.dma.waiting ev (· - 1), pulsed := some ev } }

end Sys2Proof.Machine
end

