-- ==== Sys2Proof/Machine/Stripe.lean ====
section
/-!
DEFINITION. The stripe engine's commands (R257 to R293): launching stripes, the journal and its copies, metadata
checkpoints, retirement, degraded reads, rebuild, relocation and reshape, and the background erase of the Chest.
-/

namespace Sys2Proof.Machine

/-! ### Parity (R258, R259). -/

/-- g^n · b over GF(2^8). -/
def gfScale (c : Nat) (b : Bytes) : Bytes := b.map fun x => BitVec.ofNat 8 (gfMul c x.toNat)

/-- P over the data payloads (R258). -/
def parityP (n : Nat) (data : List Bytes) : Bytes := data.foldl xorBytes (zeros n)

/-- Q over the data payloads (R258). -/
def parityQ (n : Nat) (data : List Bytes) : Bytes :=
  (data.mapIdx fun i d => gfScale (gfPow i) d).foldl xorBytes (zeros n)

/-- g^(-n): the order of g is 255. -/
def gfNeg (n : Nat) : Nat := gfPow ((255 - n % 255) % 255)

/-- A row's reconstruction (R259): the data payloads and whether the check, where there is one, holds; none where three
or more members are lost. `m` lists the reads of members 0 to D − 1, P, Q. -/
def reconstruct (d : Nat) (m : List MemberRead) : Option (List Bytes × Bool) :=
  let n := 4096
  let data := (m.take d)
  let p := m.getD d none
  let q := m.getD (d + 1) none
  let lost := (List.range d).filter fun i => (data.getD i none).isNone
  let known := data.map fun x => x.getD (zeros n)
  let p' := fun (p : Bytes) => xorBytes p (parityP n known)
  let q' := fun (q : Bytes) => xorBytes q (parityQ n known)
  match lost, p, q with
  | [], some p, some q => some (known, parityP n known = p ∧ parityQ n known = q)
  | [], none, some q => some (known, parityQ n known = q)
  | [], some p, none => some (known, parityP n known = p)
  | [], none, none => some (known, true)
  | [x], some p, some q =>
    let out := known.set x (p' p)
    some (out, parityQ n out = q)
  | [x], some p, none => some (known.set x (p' p), true)
  | [x], none, some q => some (known.set x (gfScale (gfNeg x) (q' q)), true)
  | [x, y], some p, some q =>
    let num := xorBytes (gfScale (gfPow (y - x)) (p' p)) (gfScale (gfNeg x) (q' q))
    let dx := gfScale (gfInv (gfPow (y - x) ^^^ 1)) num
    some ((known.set x dx).set y (xorBytes (p' p) dx), true)
  | _, _, _ => none

/-! ### Spare space and moves. -/

/-- Spare bands a zone has left that count under R261. -/
def Placement.spareCount (p : Placement) : Nat := (p.spares.filter fun x => !x.2.2).length

/-- s_min (R261): over the zones that hold data, or over every zone when none does. -/
def State.spareMinZones (s : State) : Nat :=
  let held := s.stripe.places.filter fun p => s.holds p.zone
  let l := if held.isEmpty then s.stripe.places else held
  match minNat? (l.map Placement.spareCount) with | some n => n | none => 0

/-- U and SPARE (R261). -/
def State.spareCfg (s : State) : Nat × Nat :=
  match s.cfg with
  | some c => (2 * c.geom.headsPerAct - c.stripe.width - 2, c.stripe.spare)
  | none => (0, 0)

/-- Available Spare and its threshold (R261). -/
def State.spareLog (s : State) : Nat × Nat :=
  let (u, sp) := s.spareCfg
  if u = 0 then (100, 0) else (100 * s.spareMinZones / u, 100 * (u + 1 - sp) / u)

/-- Critical Warning bit 0 follows R261, bit 2 follows R287. -/
def State.redundancy (s : State) : State :=
  let s1 := s.expose
  let (a, t) := s1.spareLog
  if !s1.stripe.places.isEmpty ∧ a < t then s1.warn 0 1 else s1.unwarn 0 1

/-- The highest written position of a physical zone. -/
def State.highest (s : State) (pz : Nat) : Nat :=
  match s.zmu.zones.find? fun z => z.home == pz with
  | some z => z.frontier
  | none =>
    if s.zmu.ring.1 = pz then s.zmu.ring.2
    else if s.holds pz then 96 else 0

/-- Members of a placement that are lost. -/
def Placement.lostMembers (p : Placement) : List Nat :=
  (List.range p.cur.length).filter fun i => match p.cur[i]? with | some m => m.state == 1 | none => false

/-- The index of a surface in the surface order O (R260). -/
def orderIdx (h : Nat) : Nat := h % 12 * 2 + h / 12

/-- Live members of a list on an actuator. -/
def liveOn (l : List Member) (a : Nat) : Nat :=
  (l.filter fun m => m.surface != 0xFF && m.state == 0 && m.surface / 12 == a).length

/-- Choose a spare band for member `i` of a member list by the rules of R281, in order. -/
def chooseSpare (d : Nat) (l : List Member) (i : Nat) (spares : List (Nat × Nat × Bool)) :
    Option (Nat × Nat × Bool) :=
  let pq (c : Nat × Nat × Bool) : Bool :=
    let l' := l.set i ⟨c.1, 0, c.2.1⟩
    match l'[d]?, l'[d + 1]? with
    | some p, some q => p.surface == 0xFF || q.surface == 0xFF || p.surface / 12 != q.surface / 12
    | _, _ => true
  let c1 := spares.filter pq
  let best := match minNat? (c1.map fun c => liveOn l (c.1 / 12)) with | some n => n | none => 0
  let c2 := c1.filter fun c => liveOn l (c.1 / 12) == best
  let c3 := if c2.any fun c => !c.2.2 then c2.filter fun c => !c.2.2 else c2
  c3.foldl (fun b c => match b with
    | none => some c
    | some x => if orderIdx c.1 < orderIdx x.1 then some c else some x) none

/-- Replace lost members one after another by spare bands: the new list, the spares left, the changes; none where a
member has no qualifying band. -/
def replaceLost (d : Nat) : List Nat → List Member → List (Nat × Nat × Bool) → List (Nat × Nat × Nat) →
    Option (List Member × List (Nat × Nat × Bool) × List (Nat × Nat × Nat))
  | [], l, sp, ch => some (l, sp, ch)
  | i :: t, l, sp, ch =>
    match chooseSpare d l i sp with
    | none => none
    | some c => replaceLost d t (l.set i ⟨c.1, 2, c.2.1⟩) (sp.filter (· != c)) (ch ++ [(i, c.1, c.2.1)])

/-- Start a move to a NEXT placement (R262, R268): MOVE_START is written, GEN counts, BOUNDARY starts at 0. -/
def State.moveStart (s : State) (p : Placement) (kind : Nat) (inPlace : Bool) (next : List Member)
    (spares : List (Nat × Nat × Bool)) (chg : List (Nat × Nat × Nat)) : State :=
  (s.setPlace { p with moving := true, kind := kind, inPlace := inPlace, next := next, spares := spares, boundary := 0,
                       gen := p.gen + 1 }).journal (.moveStart p.zone kind inPlace chg)

/-- A member entry once its band is written. -/
def Member.settled (m : Member) : Member := if m.state = 2 then { m with state := 0 } else m

/-- Every queued move of a kind has ended: the vendor event of R386. -/
def State.movesDone (s : State) : State :=
  if s.stripe.rebuild.isEmpty ∧ s.stripe.relocs.isEmpty ∧ s.stripe.reshape.isEmpty ∧
      (s.stripe.places.all fun p => !p.moving) then s.asyncEvent 7 4 0xC4 else s

/-- The bands a move leaves: a relocation's old band becomes a spare that only rule 3 of R281 chooses (R288). -/
def Placement.vacated (p : Placement) : List (Nat × Nat × Bool) :=
  if p.kind ≠ 2 then []
  else ((List.range p.cur.length).filterMap fun i =>
    match p.cur[i]?, p.next[i]? with
    | some a, some b => if a.surface ≠ b.surface ∨ a.band ≠ b.band then some (a.surface, a.band, true) else none
    | _, _ => none)

/-- A donor zone takes the reshaped zone's old band in exchange (R290). -/
def State.donate (s : State) (zone surface taken given : Nat) : State :=
  { s with stripe := { s.stripe with places := s.stripe.places.map fun q =>
      if q.zone = zone then q
      else { q with
        cur := q.cur.map fun m => if m.surface = surface ∧ m.band = taken then { m with band := given } else m,
        spares := q.spares.map fun x => if x.1 = surface ∧ x.2.1 = taken then (x.1, given, x.2.2) else x } } }

/-- The end of a move, in one step (R263): NEXT becomes CUR, MOVING clears, BOUNDARY returns to 0; MOVE_END is written,
and the move is counted. -/
def State.moveEnd (s : State) (p : Placement) : State :=
  let old := p.cur.getD (p.d + 1) ⟨0xFF, 0, 0⟩
  let taken := (p.next.find? fun m => m.surface == old.surface).map fun m => m.band
  let s0 := match p.kind, p.inPlace, taken with
    | 3, false, some b => s.donate p.zone old.surface b old.band
    | _, _, _ => s
  let p' := { p with cur := p.next.map Member.settled, next := [], moving := false, boundary := 0, inPlace := false,
                     waiting := false, kind := 0, spares := p.spares ++ p.vacated,
                     reduced := p.reduced || (p.next.getD (p.d + 1) ⟨0xFF, 0, 0⟩).surface == 0xFF }
  let s1 := ((s0.setPlace p').journal (.moveEnd p.zone)).count 0x0C p.kind 1
  let left := p'.lostMembers
  let s2 : State := { s1 with stripe := { s1.stripe with
    rebuild := if left.isEmpty then s1.stripe.rebuild.filter (· != p.zone) else s1.stripe.rebuild,
    reshape := s1.stripe.reshape.filter (· != p.zone),
    relocs := if p.kind = 2 then s1.stripe.relocs.filter (fun r => r.1 != p.zone) else s1.stripe.relocs } }
  let s3 := if p.kind = 2 then
      ((p.vacated.map fun v => v.1).foldl (fun t h => t.count 0x10D h 1) s2).bump Reg.STE.COUNTS.RELOCS 1 else s2
  (s3.movesDone).redundancy

/-- Raise BOUNDARY of a moving zone (R263, R283): the single commit point; at 96 or the highest written position the
move ends. -/
def State.raiseBoundary (s : State) (p : Placement) (b : Nat) : State :=
  let p' := { p with boundary := b }
  let s1 := ((s.setPlace p').journal (.boundary p.zone b)).pulse 28
  if b ≥ 96 ∨ b ≥ s.highest p.zone then s1.moveEnd p' else s1

/-! ### Stripes. -/

/-- The members of stripe i of a zone (R263). -/
def Placement.membersAt (p : Placement) (i : Nat) : List Member :=
  if p.moving ∧ i < p.boundary then p.next else p.cur

/-- Runs queued for a segment write (R265), split at the ends of tracks. -/
def State.segRuns (s : State) (g : GeomCfg) (m : Member) (i first seedKind now : Nat) : List MRun :=
  let places := (List.range 256).map fun j => s.slotPlace g m.surface m.band (256 * i + j)
  let starts := (List.range 256).filter fun j => j == 0 || (places.getD j (0, 0)).1 != (places.getD (j - 1) (0, 0)).1
  starts.mapIdx fun k j =>
    let e := starts.getD (k + 1) 256
    let pl := places.getD j (0, 0)
    { id := s.cqu.nextRun + k, act := m.surface / 12, kind := 3, head := m.surface, since := now, urgent := false,
      run := { kind := 1, head := BitVec.ofNat 8 (m.surface % 12), count := e - j, track := BitVec.ofNat 32 pl.1,
               firstSlot := BitVec.ofNat 16 pl.2, seedKind := BitVec.ofNat 8 seedKind,
               descValid := (s.descOf m.surface pl.1).isSome, wide := false, dlba := BitVec.ofNat 40 (first + j),
               descAddr := BitVec.ofNat 32 (match s.descOf m.surface pl.1 with | some d => d.addr | none => 0),
               tag := BitVec.ofNat 32 (s.cqu.nextRun + k) } }

/-- Launch a complete slot (R265 step 1): BEGIN is written. In a zone with MOVING set a new stripe waits, with WAITING
set, until BOUNDARY reaches its position, and is launched under NEXT (R283). -/
def State.launch (s : State) (x : SideSlot) : State :=
  if x.state ≠ .complete then s
  else
    let go (next : Bool) : State :=
      (((s.setSlot { x with state := .begun, underNext := next }).journal
        (.begin_ x.zone x.stripe x.first x.blocks.length next)).pulse 26)
    match s.place? x.zone with
    | none => go false
    | some p =>
      if p.moving ∧ x.stripe > p.boundary then s.setPlace { p with waiting := true } else go p.moving

/-- R265: the Sideboard slot is launched. -/
def execStripeLaunch (slot : Nat) (s : State) : Host.Outcome State Fault Refusal :=
  match s.slot? slot with
  | none => .next s
  | some x => .next (s.launch x)

/-- Whether the journal entry that a slot waits for is durable (R269): none of its entries is still pending. -/
def State.entryDurable (s : State) (x : SideSlot) : Bool :=
  s.stripe.journal.pending.all fun e => match e.2 with
    | .begin_ z i _ _ _ => !(z == x.zone && i == x.stripe)
    | .commit z i _ _ _ => !(z == x.zone && i == x.stripe)
    | _ => true

/-- R265 step 2: BEGIN is durable, and the segment writes go to the media scheduler under the stripe's placement. -/
def execBeginDurable (slot : Nat) (s : State) : Host.Outcome State Fault Refusal :=
  match s.slot? slot with
  | none => .next s
  | some x =>
    if x.state = .begun ∧ s.entryDurable x then
      let s1 := s.setSlot { x with state := .writing }
      match s.place? x.zone, s.cfg with
      | some p, some c =>
        let ms := if x.underNext then p.next else p.membersAt x.stripe
        .next ((List.range ms.length).foldl (fun t m =>
          match ms[m]? with
          | none => t
          | some mb =>
            if mb.surface = 0xFF ∨ mb.state = 1 then t
            else t.queueRuns (t.segRuns c.geom mb x.stripe (x.first + 256 * m) (if m < p.d then 0 else m - p.d + 1) 0)) s1)
      | _, _ => .next s1
    else .next s

/-- Whether a slot's data for a drive LBA still stand (R365, R355): its block, or a newer one not yet durable. -/
def State.slotStands (s : State) (n d : Nat) : Bool :=
  s.buf.cache.any fun b => b.dlba == d && b.current && (b.slot == some n || b.dirty)

/-- Runs of consecutive drive LBAs at consecutive positions. -/
def posRuns : List (Nat × Nat) → List (Nat × Nat × Nat)
  | [] => []
  | (p, d) :: t =>
    match posRuns t with
    | (q, e, n) :: r => if p + 1 = q ∧ d + 1 = e then (p, d, n + 1) :: r else (p, d, 1) :: (q, e, n) :: r
    | [] => [(p, d, 1)]

/-- R265 step 3, R339, R345: all segments are on media and COMMIT is written; a media cache stripe adds its extents, a
home stripe advances the frontier and removes the extents it replaces. -/
def execStripeOnMedia (slot : Nat) (s : State) : Host.Outcome State Fault Refusal :=
  match s.slot? slot with
  | none => .next s
  | some x =>
    if x.state ≠ .writing then .next s
    else
      let s1 := (s.setSlot { x with state := .committing }).journal
        (.commit x.zone x.stripe x.first x.blocks.length x.underNext)
      let live := x.blocks.filter fun b => s.slotStands slot b.2
      let s2 :=
        if x.cache then
          (posRuns live).foldl (fun t r => t.mapChange (.extent ⟨r.2.1, r.2.2, x.zone, x.stripe, r.1, false⟩)) s1
        else if live.isEmpty then s1
        else
          let lz := x.first / zsze
          let s3 := if s1.hasExtent x.first x.blocks.length then s1.mapChange (.remove x.first x.blocks.length) else s1
          match s3.zone? lz with
          | some z => if z.home = x.zone then s3.setZone lz { z with frontier := max z.frontier (x.stripe + 1) } else s3
          | none => s3
      match s2.place? x.zone with
      | some p => if x.underNext ∧ p.moving ∧ x.stripe = p.boundary then .next (s2.raiseBoundary p (p.boundary + 1)) else .next s2
      | none => .next s2

/-- Finish the commands whose blocks have all become durable (R370, R372). -/
def State.wake (s : State) : State :=
  s.cqu.store.foldl (fun t c =>
    if c.phase = .committed ∨ c.waitFor.isEmpty then t
    else
      let left := c.waitFor.filter fun w => !t.durable w.1 w.2
      if left.isEmpty then
        match c.status with
        | some st => (t.setCmd { c with waitFor := [] }).finish c.fsn st c.dw0 c.dw1
        | none => t.setCmd { c with waitFor := [] }
      else t.setCmd { c with waitFor := left }) s

/-! ### The journal's copies and the checkpoint. -/

/-- R269: pending journal blocks reach the Chest copy, where a Chest device takes writes. -/
def State.chestWrite (s : State) : State :=
  if s.chest.writeOk.any id then
    { s with stripe := { s.stripe with journal := { s.stripe.journal with
        chest := s.stripe.journal.chest ++ s.stripe.journal.pending, pending := [] } } }
  else s

/-- R269: the journal's pending entries become durable. -/
def execJournalChestWrite (s : State) : Host.Outcome State Fault Refusal := .next s.chestWrite

/-- The band copies are written up to the newest entry (R269). -/
def State.bandFlush (s : State) : State :=
  let j := s.stripe.journal
  { s with stripe := { s.stripe with journal := { j with
      bandA := if j.surfA.isSome then j.seq - 1 else j.bandA, bandB := if j.surfB.isSome then j.seq - 1 else j.bandB } } }

/-- R269. -/
def execJournalBandFlush (s : State) : Host.Outcome State Fault Refusal := .next s.bandFlush

/-- A metadata checkpoint (R270, R341, R354): dirty map lines are written back, the core map is written to the other core
zone, META_CKPT is written, and the band copies move to their other half. -/
def State.checkpoint (s : State) : State :=
  let gen := s.core.gen + 1
  let s1 : State := { s with
    zmu := { s.zmu with
      coreZone := 1 - s.zmu.coreZone, coreGen := gen, lines := s.zmu.lines.map (fun l => { l with dirty := false }) },
    core := {
      gen := gen, layout := s.zmu.layout, zones := s.zmu.zones,
      places := s.stripe.places, lost := s.stripe.lost, retired := s.stripe.retired, keys := s.core.keys } }
  let s2 := (s1.journal (.metaCkpt gen)).bandFlush
  { s2 with stripe := { s2.stripe with journal := { s2.stripe.journal with
      ckptSeq := s2.stripe.journal.seq - 1, half := 1 - s2.stripe.journal.half,
      chest := s2.stripe.journal.chest.filter fun e => decide (e.1 ≥ s2.stripe.journal.seq - 1) } } }

/-- R270. -/
def execMetadataCheckpoint (s : State) : Host.Outcome State Fault Refusal := .next s.checkpoint

/-- R272: the band of an actuator moves to its lowest-numbered surface that is not retired and does not hold the other
journal band; with none, one band copy is kept. -/
def execJournalBandMove (x : Act) (s : State) : Host.Outcome State Fault Refusal :=
  if x.num ∈ s.stripe.jmoves then
    let j := s.stripe.journal
    let other := match x with | .a => j.surfB | .b => j.surfA
    let all := match s.cfg with | some c => c.geom.surfaces x.num | none => []
    let to_ := all.find? fun h => !(s.stripe.retired.contains h) && other != some h
    let j' := match x with
      | .a => { j with surfA := to_, bandA := if to_.isSome then j.seq - 1 else j.bandA }
      | .b => { j with surfB := to_, bandB := if to_.isSome then j.seq - 1 else j.bandB }
    let s1 : State := { s with stripe := { s.stripe with journal := j', jmoves := s.stripe.jmoves.filter (· != x.num) } }
    match to_ with
    | some h => .next (s1.journal (.jband x.num h))
    | none => .next s1
  else .next s

/-! ### Retirement. -/

/-- A placement after a surface's retirement (R280, R285): its member lost in CUR, its spare bands dropped. -/
def Placement.retire (p : Placement) (h : Nat) : Placement :=
  { p with
    cur := p.cur.map fun m => if m.surface = h then { m with state := 1 } else m,
    spares := p.spares.filter fun x => x.1 != h }

/-- Restart a zone's move under the new losses (R285): a replacement whose band survives keeps it. -/
def State.restartMove (s : State) (z : Nat) (h : Nat) : State :=
  match s.place? z with
  | none => s
  | some p =>
    if !p.moving then s
    else
      let keep := p.next.map fun m => if m.surface = h then { m with state := 1 } else m
      let lost := (List.range keep.length).filter fun i => match keep[i]? with | some m => m.state == 1 | none => false
      if lost.isEmpty then s
      else
        match replaceLost p.d lost keep p.spares [] with
        | none => s.setPlace { p with moving := false, next := [], kind := 0, boundary := 0 }
        | some (n, sp, ch) => s.moveStart p (if p.kind = 2 then 1 else p.kind) false n sp ch

/-- C0 retires a head, in the order of R280. -/
def State.retireHead (s : State) (h : Nat) : State :=
  if h ∈ s.stripe.retired then s
  else
    let s1 : State := { s with cqu := { s.cqu with runs := s.cqu.runs.filter fun r => r.head != h } }
    let s2 := (s1.headToStep8 h).journal (.retire h)
    let hit := (s2.stripe.places.filter fun p => p.cur.any fun m => m.surface == h).map fun p => p.zone
    let s3 : State := { s2 with stripe := { s2.stripe with
      retired := insertNat h s2.stripe.retired,
      places := s2.stripe.places.map fun p => p.retire h,
      rebuild := hit.foldl (fun l z => insertNat z l) s2.stripe.rebuild,
      relocs := s2.stripe.relocs.filter (fun r => match s2.place? r.1 with
        | some p => (match p.cur[r.2]? with | some m => m.surface != h | none => true)
        | none => true),
      jmoves := if s2.stripe.journal.surfA = some h then insertNat 0 s2.stripe.jmoves
        else if s2.stripe.journal.surfB = some h then insertNat 1 s2.stripe.jmoves else s2.stripe.jmoves } }
    let s4 := (s3.stripe.places.map fun p => p.zone).foldl (fun t z => t.restartMove z h) s3
    let s5 : State := { s4 with crd := { s4.crd with retiredAt := assocPut s4.crd.retiredAt h s4.hours } }
    (s5.asyncEvent 7 2 0xC4).redundancy

/-- A head found bad: before P10 has restored the map, it is only marked, and the retirement follows in P10 (R58, R280). -/
def State.retireInStart (s : State) (h : Nat) : State :=
  if s.get Reg.NST.BOOT_STATUS.PHASE < 0xB then
    { s with stripe := { s.stripe with retired := insertNat h s.stripe.retired } }
  else s.retireHead h

/-- R280: C0 retires a head that the drive has. -/
def execHeadRetire (head : Nat) (s : State) : Host.Outcome State Fault Refusal :=
  match s.cfg with
  | none => .next s
  | some c => if head ∈ c.geom.allSurfaces then .next (s.retireHead head) else .next s

/-! ### Lost rows and degraded reads. -/

/-- The drive LBAs of the data members a mask names in row j of stripe i of a physical zone. -/
def State.rowBlocks (s : State) (pz i j : Nat) (mask : Word) : List Nat :=
  let w := s.width
  ((List.range w).filter fun m => mask.getLsbD m).filterMap fun m =>
    let off := m * 256 + j
    match s.zmu.zones.findIdx? fun z => z.home == pz with
    | some lz => some (lz * zsze + i * (256 * w) + off)
    | none =>
      (s.zmu.extents.find? fun e => e.pzone == pz && e.stripe == i && decide (e.off ≤ off) && decide (off < e.off + e.count)).map
        fun e => e.dlba + (off - e.off)

/-- A row is lost (R286): LOST_ROW is written, the row enters the list, its blocks are reported; a full list makes the
media read-only. -/
def State.rowLost (s : State) (pz i j : Nat) (mask : Word) : State :=
  if s.stripe.lost.any fun r => r.zone == pz && r.stripe == i && r.row == j then s
  else
    let bl := (s.rowBlocks pz i j mask).filter fun d => !s.isLost d
    let s1 := s.journal (.lostRow pz i j mask)
    let s2 : State := { s1 with stripe := { s1.stripe with
      lost := if s1.stripe.lost.length < 1048576 ∧ !bl.isEmpty then s1.stripe.lost ++ [⟨pz, i, j, mask, bl⟩] else s1.stripe.lost,
      places := s1.stripe.places.map fun p => if p.zone = pz then { p with lostRows := true } else p } }
    let s3 := ((s2.count 0x0D 0 1).bump Reg.STE.COUNTS.ROWS_LOST 1).lostEvent bl.length
    (if s3.stripe.lost.length ≥ 1048576 then s3.warn 3 1 else s3).redundancy

/-- Members of a row's reads that gave nothing. -/
def erased (m : List MemberRead) : List Nat := (List.range m.length).filter fun i => (m.getD i none).isNone

/-- The mask of a list of members. -/
def maskOf (l : List Nat) : Word := BitVec.ofNat 32 (l.foldl (fun a i => a + 2 ^ i) 0)

/-- What the degraded read of one row does (R277, R259): the reconstructed blocks of the command go to its buffer; a
failed check after the further steps fails the command; a row with three erasures is lost once the further steps are
done. -/
def State.degradedRow (fsn pz i : Nat) (after : Bool) (s : State) (r : Nat × List MemberRead) : State :=
  match s.cmd? fsn with
  | none => s
  | some c =>
    match reconstruct s.width r.2 with
    | none => if after then s.rowLost pz i r.1 (maskOf (erased r.2)) else s
    | some (data, ok) =>
      if !ok then
        if after then
          ((s.bump Reg.STE.COUNTS.CHECK_FAIL 1).count 0x0E 0 1).finish fsn .unrecovered 0 0
        else s
      else
        let got := c.locs.filterMap fun l => match l.2 with
          | .media z st off => if z = pz ∧ st = i ∧ off % 256 = r.1 then some (l.1, data.getD (off / 256) []) else none
          | _ => none
        (s.setCmd { c with buf := got ++ c.buf }).step8Served (s.rowBlocks pz i r.1 0xFFFFFFFF)

/-- R277, R279: a degraded read serves rows of one stripe; commands are served in fetch order. -/
def execDegradedRead (fsn zone stripe : Nat) (rows : List (Nat × List MemberRead)) (afterFurther : Bool) (s : State) :
    Host.Outcome State Fault Refusal :=
  match s.cmd? fsn with
  | none => .next s
  | some c =>
    if c.phase ≠ .snapped ∨ s.stripe.degraded.any (· < fsn) then .next s
    else
      let s1 := rows.foldl (State.degradedRow fsn zone stripe afterFurther) s
      let again := !afterFurther && rows.any fun r => match reconstruct s.width r.2 with
        | none => true
        | some (_, ok) => !ok
      if again then .next s1
      else
        let s2 : State := { s1 with stripe := { s1.stripe with degraded := s1.stripe.degraded.filter (· != fsn) } }
        .next (((s2.count 0x0B 0 1).bump Reg.STE.COUNTS.DEGRADED 1).pulse 29)

/-! ### Rebuild, relocation, reshape. -/

/-- The zone the rebuild works on next (R282): the one that moves, else two lost members first, then WAITING, then
ascending number. -/
def State.nextRebuild (s : State) : Option Nat :=
  match s.stripe.places.find? fun p => p.moving && !p.inPlace with
  | some p => some p.zone
  | none =>
    let q := s.stripe.rebuild
    match q.find? fun z => match s.place? z with | some p => decide (p.lostMembers.length ≥ 2) | none => false with
    | some z => some z
    | none =>
      match q.find? fun z => match s.place? z with | some p => p.waiting | none => false with
      | some z => some z
      | none => q.head?

/-- Start the rebuild of a zone's lost members (R281); a zone without a qualifying band is queued for a reshape. -/
def State.startRebuild (s : State) (p : Placement) : State :=
  if p.moving then s
  else
    match replaceLost p.d p.lostMembers p.cur p.spares [] with
    | some (n, sp, ch) => if ch.isEmpty then s else s.moveStart p 1 false n sp ch
    | none => { s with stripe := { s.stripe with reshape := insertNat p.zone s.stripe.reshape,
                                                 rebuild := s.stripe.rebuild.filter (· != p.zone) } }

/-- R283, R284, R288, R290: a chunk of up to 8 stripes of a zone's move: rows unreadable in three or more members are
lost, and BOUNDARY is written. -/
def execRebuildChunk (zone : Nat) (lost : List (Nat × Nat × Word)) (s : State) : Host.Outcome State Fault Refusal :=
  if s.nextRebuild ≠ some zone then .next s
  else
    match s.place? zone with
    | none => .next s
    | some p =>
      let s1 := s.startRebuild p
      match s1.place? zone with
      | none => .next s1
      | some q =>
        if !q.moving then .next s1
        else
          let top := min 96 (max (s1.highest zone) q.boundary)
          let b := if s1.highest zone = 0 then 0 else min (q.boundary + 8) top
          let s2 := (lost.filter fun r => decide (q.boundary ≤ r.1 ∧ r.1 < b)).foldl
            (fun t r => t.rowLost zone r.1 r.2.1 r.2.2) s1
          match s2.place? zone with
          | none => .next s2
          | some q2 => .next (s2.raiseBoundary q2 b)

/-- R288: a member band is relocated to a spare band of the zone; with none the relocation waits. -/
def execRelocation (zone member : Nat) (s : State) : Host.Outcome State Fault Refusal :=
  match s.place? zone with
  | none => .next s
  | some p =>
    let wait : State := { s with stripe := { s.stripe with
      relocs := if (zone, member) ∈ s.stripe.relocs then s.stripe.relocs else s.stripe.relocs ++ [(zone, member)] } }
    if p.moving ∨ !s.stripe.rebuild.isEmpty ∨ member ≥ p.d + 2 then .next wait
    else
      match p.cur[member]?, chooseSpare p.d p.cur member p.spares with
      | some m, some c =>
        if m.state = 1 ∨ m.surface = 0xFF then .next s
        else .next (wait.moveStart p 2 false (p.cur.set member ⟨c.1, 2, c.2.1⟩) (p.spares.filter (· != c)) [(member, c.1, c.2.1)])
      | _, _ => .next wait

/-- The member that gives up its place in a reshape (R289, R292): Q, or P where Q is gone. -/
def Placement.parityLeft (p : Placement) : Option Nat :=
  match p.cur[p.d + 1]?, p.cur[p.d]? with
  | some q, some pp => if q.surface ≠ 0xFF then some (p.d + 1) else if pp.surface ≠ 0xFF then some p.d else none
  | _, _ => none

/-- A band of the lowest-numbered empty zone on a surface (R290). -/
def State.emptyBand (s : State) (zone surface : Nat) : Option Nat :=
  ((s.stripe.places.filter fun q => q.zone != zone && !s.holds q.zone && !q.moving).map fun q =>
    ((q.cur.filter fun m => m.surface == surface).map (fun m => m.band)) ++
    ((q.spares.filter fun x => x.1 == surface).map fun x => x.2.1)).flatten.head?

/-- R289 to R291: a zone whose lost member has no qualifying spare band takes one parity fewer: a lost parity goes in the
journal alone, another member moves to the parity's surface, beside where an empty zone has a band, else in place. -/
def execReshape (zone : Nat) (s : State) : Host.Outcome State Fault Refusal :=
  if zone ∈ s.stripe.reshape then
    match s.place? zone with
    | none => .next s
    | some p =>
      match p.lostMembers, p.parityLeft with
      | i :: _, some q =>
        if p.moving then .next s
        else
          let gone : Member := ⟨0xFF, 0, 0⟩
          if i = q then
            let s1 := s.moveStart p 3 false (p.cur.set q gone) p.spares [(q, 0xFF, 0)]
            match s1.place? zone with
            | some p1 => .next (s1.moveEnd p1)
            | none => .next s1
          else
            let old := p.cur.getD q gone
            match s.emptyBand zone old.surface with
            | some b =>
              .next (s.moveStart p 3 false ((p.cur.set i ⟨old.surface, 2, b⟩).set q gone) p.spares
                [(i, old.surface, b), (q, 0xFF, 0)])
            | none =>
              .next (s.moveStart p 3 true ((p.cur.set i ⟨old.surface, 2, old.band⟩).set q gone) p.spares
                [(i, old.surface, old.band), (q, 0xFF, 0)])
      | _, _ => .next { s with stripe := { s.stripe with reshape := s.stripe.reshape.filter (· != zone) } }
  else .next s

/-- R291: a chunk of an in-place reshape: CKPT, the positions overwritten, then BOUNDARY. -/
def execReshapeInPlaceChunk (zone : Nat) (s : State) : Host.Outcome State Fault Refusal :=
  match s.place? zone with
  | none => .next s
  | some p =>
    if p.moving ∧ p.inPlace then
      let b := min 96 (p.boundary + 8)
      .next ((s.journal (.ckpt zone p.boundary b)).raiseBoundary p b)
    else .next s

/-! ### The background erase of the save area. -/

/-- R276: one more block of the save area is erased on a device; the erase starts with STATE 3. -/
def execBackgroundErase (dev : Fin 2) (s : State) : Host.Outcome State Fault Refusal :=
  let h := s.chest.header
  if s.get Reg.NST.BOOT_STATUS.PHASE ≠ 0xF ∨ s.chest.saving then .next s
  else if h.state = 2 then
    .next { s with chest := { s.chest with header := { h with state := 3 }, erased := setAt [0, 0] dev 1 } }
  else if h.state = 3 then
    .next { s with chest := { s.chest with erased := modifyAt s.chest.erased dev fun n => min 1024 (n + 1) } }
  else .next s

/-- R276: the erase is done: STATE 0. -/
def execBackgroundEraseDone (s : State) : Host.Outcome State Fault Refusal :=
  if s.chest.header.state = 3 ∧ !s.chest.saving then
    .next { s with chest := { s.chest with header := { s.chest.header with state := 0 }, saved := [], erased := [1024, 1024] } }
  else .next s

end Sys2Proof.Machine
end

