-- ==== Sys2Proof/Machine/Cqu.lean ====
section
/-!
DEFINITION. The command and coherence unit's shared operations (R357 to R377, R387, R388): fields of submission queue
entries, the checks of a fetched I/O command in the order of R388, the Hatrack and ordering points, the zoned write
checks, data through the XTS pipelines (R405), and completions with their interrupts.
-/

namespace Sys2Proof.Machine

/-! ### Fields. -/

/-- Starting LBA: CDW10 and CDW11. -/
def sqeSlba (e : Sqe) : Nat := e.cdw10.toNat + e.cdw11.toNat * 2 ^ 32

/-- Number of logical blocks of an I/O command, counted from 1: 32 bits wide for SCAN (R423). -/
def sqeNlb (e : Sqe) : Nat := if e.opc = 0x82 then e.cdw12.toNat + 1 else e.cdw12.toNat % 0x10000 + 1

/-- FUA of Write, Read and Zone Append (R361), and of PEER_IN (R423). -/
def sqeFua (e : Sqe) : Bool := if e.opc = 0x88 then e.cdw15.getLsbD 8 else e.cdw12.getLsbD 30

/-- Bytes per logical block of a namespace. -/
def Layout.lbaSize (l : Layout) (zoned : Bool) : Nat := 4096 / l.per zoned

/-- The command is an I/O command. -/
def Cmd.isIo (c : Cmd) : Bool := c.sqid != 0

/-- I/O commands in flight (R359, R439). -/
def State.ioCount (s : State) : Nat := (s.cqu.store.filter Cmd.isIo).length

/-- Ranges of a Dataset Management with AD (R361, R364). -/
def dsmRanges (e : Sqe) : Nat := if e.opc = 0x09 ∧ e.cdw11.getLsbD 2 then e.cdw10.toNat % 256 + 1 else 0

/-- Hatrack entries in use (R364); those of a Dataset Management are held from its fetch. -/
def State.hatrack (s : State) : Nat :=
  (s.cqu.store.map fun c =>
    if c.isIo ∧ c.phase = .fetched then max c.ranges.length (dsmRanges c.sqe) else c.ranges.length).sum

/-- The compute domain is marked FAILED (R29, R50). -/
def State.computeFailed (s : State) : Bool := s.get (Reg.RCU.CLK_STATUS.DOM 9) == 3

/-- The I/O opcodes of R361 and R423. -/
def ioOpcodes : List Nat := [0x00, 0x01, 0x02, 0x08, 0x09, 0x0C, 0x79, 0x7A, 0x7D, 0x82, 0x84, 0x88]

/-- The admin opcodes of R360. -/
def adminOpcodes : List Nat :=
  [0x00, 0x01, 0x02, 0x04, 0x05, 0x06, 0x08, 0x09, 0x0A, 0x0C, 0x10, 0x11, 0x14, 0x80, 0x84]

/-- The admin opcodes of a recovery download (R87). -/
def recoveryOpcodes : List Nat := [0x02, 0x06, 0x09, 0x0A, 0x10, 0x11]

/-- A Sanitize is in progress (R463). -/
def State.sanitizing (s : State) : Bool :=
  s.bur.running && match s.chest.progress with | some p => p.op == 1 || p.op == 2 | none => false

/-- A Format is in progress (R466). -/
def State.formatting (s : State) : Bool :=
  s.bur.running && match s.chest.progress with | some p => p.op == 3 | none => false

/-- A bus address lies in a BAR of the function (R416). -/
def inBar (bar size a : Nat) : Bool := bar != 0 && decide (bar ≤ a) && decide (a < bar + size)

/-- A PRP or peer address in BAR0 or BAR4 (R416). -/
def State.refusedAddr (s : State) (a : Nat) : Bool :=
  inBar s.hpt.bar0 0x4000 a || (s.mfg && inBar s.hpt.bar4 0x4000000 a)

/-! ### The checks of R388, in its order. -/

/-- Invalid Field in Command of an I/O command (R361, R416, R423). -/
def State.ioField (s : State) (l : Layout) (z : Bool) (e : Sqe) : Bool :=
  let op := e.opc.toNat
  let c12 := e.cdw12.toNat
  let prps := s.refusedAddr e.prp1.toNat || s.refusedAddr e.prp2.toNat
  let big := decide (sqeNlb e * l.lbaSize z > 0x400000)
  let unit8 := l.per z == 8 && (sqeSlba e % 8 != 0 || sqeNlb e % 8 != 0)
  e.flags != 0 ||
  (if op = 0x01 ∨ op = 0x02 then c12 &&& 0x3EFF0000 != 0 || big || prps
   else if op = 0x08 then c12 &&& 0x3CFF0000 != 0
   else if op = 0x0C then c12 &&& 0x3EFF0000 != 0
   else if op = 0x09 then decide (e.cdw10.toNat > 0xFF) || decide (e.cdw11.toNat > 7) || prps
   else if op = 0x79 then
     decide (e.cdw13.toNat / 0x200 > 0) || !([1, 2, 3, 4].contains (e.cdw13.toNat % 256)) ||
       (!e.cdw13.getLsbD 8 && sqeSlba e % zsze != 0)
   else if op = 0x7A then
     decide (e.cdw13.toNat % 256 > 1) || decide (e.cdw13.toNat / 256 % 256 > 7) || decide (e.cdw13.toNat / 0x20000 > 0) || prps
   else if op = 0x7D then c12 &&& 0x3EFF0000 != 0 || decide (sqeNlb e > 256) || sqeSlba e % zsze != 0 || prps
   else if op = 0x82 then
     decide (e.cdw13.toNat / 0x40000 > 0) || decide (e.cdw14.toNat > 1024) || e.cdw15 != 0 || e.cdw2 != 0 || e.cdw3 != 0 ||
       e.mptr != 0 || unit8 || prps
   else if op = 0x84 ∨ op = 0x88 then
     decide (c12 / 0x10000 > 0) || e.cdw13.toNat % 4 != 0 || decide (e.cdw15.toNat / (if op = 0x84 then 256 else 512) > 0) ||
       e.cdw2 != 0 || e.cdw3 != 0 || e.mptr != 0 || e.prp1 != 0 || e.prp2 != 0 || unit8 ||
       s.refusedAddr (e.cdw13.toNat + e.cdw14.toNat * 2 ^ 32)
   else false)

/-- Commands whose range is SLBA and NLB. -/
def ranged (op : Nat) : Bool := [0x01, 0x02, 0x08, 0x0C, 0x82, 0x84, 0x88].contains op

/-- LBA Out of Range (R361). -/
def ioRange (l : Layout) (z : Bool) (e : Sqe) : Bool :=
  let op := e.opc.toNat
  if ranged op then decide (sqeSlba e + sqeNlb e > l.nsze z)
  else if op = 0x79 then !e.cdw13.getLsbD 8 && decide (sqeSlba e ≥ l.nsze z)
  else if op = 0x7A ∨ op = 0x7D then decide (sqeSlba e ≥ l.nsze z)
  else false

/-- Zone Boundary Error of a Write or Write Zeroes (R361). -/
def ioBoundary (l : Layout) (z : Bool) (e : Sqe) : Bool :=
  z && (e.opc == 0x01 || e.opc == 0x08) && decide (sqeSlba e % zsze + sqeNlb e > zcap l.d)

/-- A writer of R364. -/
def isWriter (e : Sqe) : Bool :=
  let op := e.opc.toNat
  [0x01, 0x08, 0x7D, 0x88].contains op || (op == 0x09 && e.cdw11.getLsbD 2) ||
  (op == 0x79 && (e.cdw13.toNat % 256 == 2 || e.cdw13.toNat % 256 == 4))

/-- Namespace Not Ready, then Namespace is Write Protected (R387, R487). -/
def State.ioState (s : State) (e : Sqe) : Option Status :=
  match s.cqu.notReady with
  | some dnr => some (.notReady dnr)
  | none =>
    if s.cqu.holdIo then some (.notReady false)
    else if s.warns 3 ∧ isWriter e then some .writeProt
    else none

/-- The first failure condition of R388 that a fetched I/O command meets before its execution. -/
def State.ioCheck (s : State) (e : Sqe) : Option Status :=
  let op := e.opc.toNat
  if !ioOpcodes.contains op ∨ s.start.recovery ∨ (op ≥ 0x82 ∧ s.computeFailed) then some .badOpcode
  else if op = 0 ∧ e.nsid = 0xFFFFFFFF then
    if s.sanitizing then some .sanitizing else if s.formatting then some .formatting
    else if e.flags ≠ 0 then some .badField else s.ioState e
  else
    match s.ns e.nsid.toNat, s.zmu.layout with
    | some z, some l =>
      if !z ∧ (op = 0x79 ∨ op = 0x7A ∨ op = 0x7D) then some .badOpcode
      else if s.sanitizing then some .sanitizing
      else if s.formatting then some .formatting
      else if s.ioField l z e then some .badField
      else if ioRange l z e then some .lbaRange
      else if ioBoundary l z e then some .zoneBoundary
      else s.ioState e
    | _, _ =>
      match s.cqu.notReady with
      | some dnr => if s.zmu.layout.isNone then some (.notReady dnr) else some .badNs
      | none => some .badNs

/-! ### The Hatrack. -/

/-- The Hatrack ranges of a fetched command (R364). -/
def State.rangesOf (s : State) (e : Sqe) : List (Nat × Nat × Bool) :=
  match s.ns e.nsid.toNat, s.zmu.layout with
  | some z, some l =>
    let op := e.opc.toNat
    let own (w : Bool) : List (Nat × Nat × Bool) :=
      let (b, n) := l.cover z (sqeSlba e) (sqeNlb e)
      (runsOf (l.dlbas z b n)).map fun r => (r.1, r.2, w)
    let zone (lz : Nat) : Nat × Nat × Bool := (lz * zsze, zcap l.d, true)
    if op = 0x02 ∨ op = 0x0C then own false
    else if op = 0x01 ∨ op = 0x08 then own true
    else if op = 0x7D then
      let lz := l.c + sqeSlba e / zsze
      match s.zone? lz with
      | some zd => [(lz * zsze + zd.wp, zcap l.d - zd.wp, true)]
      | none => []
    else if op = 0x79 ∧ (e.cdw13.toNat % 256 = 2 ∨ e.cdw13.toNat % 256 = 4) then
      if e.cdw13.getLsbD 8 then (List.range l.nz).map fun i => zone (l.c + i)
      else [zone (l.c + sqeSlba e / zsze)]
    else []
  | _, _ => []

/-- Two commands overlap with at least one a writer (R365). -/
def conflict (a b : List (Nat × Nat × Bool)) : Bool :=
  a.any fun x => b.any fun y => (x.2.2 || y.2.2) && overlaps x.1 x.2.1 y.1 y.2.1

/-- The logical zone of the zoned namespace a command writes. -/
def State.zoneOf (s : State) (e : Sqe) : Option Nat :=
  match s.ns e.nsid.toNat, s.zmu.layout with
  | some true, some l => if isWriter e then some (l.c + sqeSlba e / zsze) else none
  | _, _ => none

/-- Every earlier overlapping command has passed its ordering point, has failed or was aborted (R365); writers of one
zone of the zoned namespace commit in FSN order (R369). -/
def State.ordered (s : State) (c : Cmd) : Bool :=
  s.cqu.store.all fun d =>
    decide (d.fsn ≥ c.fsn) || d.passed || decide (d.phase = .committed) ||
      !(conflict d.ranges c.ranges || ((s.zoneOf d.sqe).isSome && s.zoneOf d.sqe == s.zoneOf c.sqe))

/-! ### Data. -/

/-- The key pair of a slot as XTS takes it (R405): K1 then K2. -/
def State.key (s : State) (slot : Nat) : Bytes :=
  match s.hpt.keys.find? fun k => k.slot == slot with | some k => k.k1 ++ k.k2 | none => zeros 64

/-- The key slot of a drive LBA's namespace. -/
def State.keySlot (s : State) (d : Nat) : Nat :=
  match s.zmu.layout with | some l => if d / zsze < l.c then 0 else 1 | none => 0

/-- Encrypt a block under its namespace's keys with its drive LBA as tweak (R405). -/
def State.encrypt (s : State) (d : Nat) (b : Bytes) : Bytes := xtsEncrypt (s.key (s.keySlot d)) d (padTo 4096 b)

/-- Decrypt a block (R405). -/
def State.decrypt (s : State) (d : Nat) (b : Bytes) : Bytes := xtsDecrypt (s.key (s.keySlot d)) d b

/-- Count blocks through a pipeline in units of 2^20 (R413). -/
def State.countEnc (s : State) (n : Nat) : State :=
  let t := s.hpt.encN + n
  ({ s with hpt := { s.hpt with encN := t % 0x100000 } } : State).bump Reg.HPT.XTS.ENC (t / 0x100000)

/-- As countEnc for decryption. -/
def State.countDec (s : State) (n : Nat) : State :=
  let t := s.hpt.decN + n
  ({ s with hpt := { s.hpt with decN := t % 0x100000 } } : State).bump Reg.HPT.XTS.DEC (t / 0x100000)

/-- The ciphertext of a block of a reader at its snapshot's place (R365): from the cache, the read cache, a degraded read
already served, or the media data given; none where it is lost or media did not deliver it. -/
def State.blockAt (s : State) (c : Cmd) (l : Nat × Loc) (media : Option Bytes) : Option Bytes :=
  match l.2 with
  | .cache f =>
    match s.buf.cache.find? fun b => b.dlba == l.1 && b.fsn == f with
    | some b => if b.poisoned then none else some (s.decrypt l.1 b.data)
    | none => none
  | .zero => some (zeros 4096)
  | .lost => none
  | .rcache =>
    match s.buf.rcache.find? fun r => r.1 == l.1 with
    | some r => some (s.decrypt l.1 r.2)
    | none => media.map (s.decrypt l.1)
  | .media _ _ _ =>
    match c.buf.find? fun b => b.1 == l.1 with
    | some b => some (s.decrypt l.1 b.2)
    | none => media.map (s.decrypt l.1)

/-- A place that needs media (R387). -/
def Loc.onMedia : Loc → Bool
  | .media _ _ _ => true
  | _ => false

/-- A member of a media place is lost at that stripe (R277). -/
def State.degradedAt (s : State) : Loc → Bool
  | .media pz i off =>
    match s.place? pz with
    | some p =>
      match (p.membersAt i)[off / 256]? with
      | some m => m.state == 1
      | none => false
    | none => false
  | _ => false

/-- The media cannot serve: the spindle is left stopped or the Zhosel link is down, or an actuator is out of service
(R387); the status of what needs media. -/
def State.mediaDown (s : State) : Option Status :=
  if (2, 20) ∈ s.cqu.why ∨ (2, 21) ∈ s.cqu.why then some (.notReady true)
  else if (3, 10) ∈ s.cqu.why ∨ (3, 11) ∈ s.cqu.why then some .unrecovered
  else none

/-- Keep a block read from media in the read cache. -/
def State.keepRead (s : State) (d : Nat) (b : Bytes) : State :=
  if s.buf.rcache.any fun r => r.1 == d then s else { s with buf := { s.buf with rcache := s.buf.rcache ++ [(d, b)] } }

/-- Host data in units of 512,000 bytes (R383): counter 0x0007 read, 0x0008 written. -/
def State.hostData (s : State) (write : Bool) (n : Nat) : State :=
  if write then
    let t := s.cqu.writeRem + n
    ({ s with cqu := { s.cqu with writeRem := t % 512000, hostWr := s.cqu.hostWr + 1 } } : State).count 8 0 (t / 512000)
  else
    let t := s.cqu.readRem + n
    ({ s with cqu := { s.cqu with readRem := t % 512000, hostRd := s.cqu.hostRd + 1 } } : State).count 7 0 (t / 512000)

/-- A command fails with Unrecovered Read Error, counted (R383, R475). -/
def State.failRead (s : State) (fsn : Nat) : State := (s.count 9 0 1).finish fsn .unrecovered 0 0

/-! ### The memory window's staging lines (R299, R414). -/

/-- Where the window lies in usable address space (R301). -/
def windowBase : Nat := 0x20000000

/-- Make a window line the most recently used one, filling it from DRAM when it is first touched and freeing the least
recently used line (R299, R414). -/
def State.winLine (s : State) (n : Nat) : State :=
  match s.buf.lines.find? fun l => l.line == n with
  | some l => { s with buf := { s.buf with lines := s.buf.lines.filter (fun x => x.line != n) ++ [l] } }
  | none =>
    let s1 := if s.buf.lines.length < 4096 then s else
      match s.buf.lines with
      | [] => s
      | v :: t =>
        let s2 : State := { s with buf := { s.buf with lines := t } }
        if v.dirty then s2.memWrite .dram (windowBase + v.line * 256) v.data else s2
    { s1 with buf := { s1.buf with
        lines := s1.buf.lines ++ [⟨n, false, s1.bytes .dram (windowBase + n * 256) 256⟩] } }

/-- Write one byte of the window into its staging line. -/
def State.winByte (s : State) (off : Nat) (b : Byte) : State :=
  let s1 := s.winLine (off / 256)
  { s1 with buf := { s1.buf with lines := s1.buf.lines.map fun l =>
      if l.line = off / 256 then { l with dirty := true, data := l.data.set (off % 256) b } else l } }

/-- Write bytes of the window. -/
def State.winWrite (s : State) (off : Nat) (b : Bytes) : State :=
  (b.foldl (fun (t : State × Nat) x => (t.1.winByte t.2 x, t.2 + 1)) (s, off)).1

/-- The byte the window reads at an offset: the staging line's, else the DRAM's (R414). -/
def State.winGet (s : State) (off : Nat) : Byte :=
  match s.buf.lines.find? fun l => l.line == off / 256 with
  | some l => l.data.getD (off % 256) 0
  | none => s.byte .dram (windowBase + off)

/-- Bytes of the window. -/
def State.winRead (s : State) (off n : Nat) : Bytes := (List.range n).map fun i => s.winGet (off + i)

/-- Send a command's data to the host; a PRP in BAR2 is served in the window (R416). -/
def State.toHost (s : State) (c : Cmd) (b : Bytes) : State :=
  if inBar s.hpt.bar2 0x10000000 c.sqe.prp1.toNat then s.winWrite (c.sqe.prp1.toNat - s.hpt.bar2) b
  else s.send (.data c.fsn b)

/-- A command's data from the host: those given, or the window's where its PRP lies in BAR2 (R416). -/
def State.fromHost (s : State) (c : Cmd) (size : Nat) (data : List Bytes) : List Bytes :=
  if inBar s.hpt.bar2 0x10000000 c.sqe.prp1.toNat then
    (List.range data.length).map fun i => s.winRead (c.sqe.prp1.toNat - s.hpt.bar2 + i * size) size
  else data

/-! ### Zones of the zoned namespace. -/

/-- Zones open, and zones active (R344). -/
def State.openZones (s : State) : List Nat :=
  (List.range s.zmu.zones.length).filter fun i => match s.zone? i with | some z => z.state == 1 || z.state == 2 | none => false

/-- Active zones: open or closed (R344). -/
def State.activeZones (s : State) : Nat :=
  (s.zmu.zones.filter fun z => z.state == 1 || z.state == 2 || z.state == 3).length

/-- A change of a zone's state is logged (R340, R346). -/
def State.zoneSet (s : State) (lz st wp : Nat) : State := s.mapChange (.zoneChange lz st wp)

/-- Make room to open a zone (R344): at 256 open zones the implicitly opened zone with the oldest last write is closed;
with none the open fails. -/
def State.openRoom (s : State) : State × Bool :=
  if s.openZones.length < 256 then (s, true)
  else
    let imp := s.openZones.filterMap fun i => match s.zone? i with | some z => if z.state = 1 then some (z.last, i) else none | none => none
    match imp.foldl (fun (b : Option (Nat × Nat)) x => match b with | none => some x | some y => if x.1 < y.1 then some x else some y) none with
    | some (_, i) => match s.zone? i with
      | some z => (s.zoneSet i 3 z.wp, true)
      | none => (s, false)
    | none => (s, false)

/-- Open a zone (R344, R346, R369): the active limit first, then the open limit. -/
def State.openZone (s : State) (lz : Nat) (explicit : Bool) : State × Option Status :=
  match s.zone? lz with
  | none => (s, none)
  | some z =>
    if z.state = 1 ∨ z.state = 2 then (if explicit then s.zoneSet lz 2 z.wp else s, none)
    else if z.state = 0 ∧ s.activeZones ≥ 1024 then (s, some .tooActive)
    else
      let (s1, ok) := s.openRoom
      if ok then (s1.zoneSet lz (if explicit then 2 else 1) z.wp, none) else (s, some .tooOpen)

/-- The checks of R369 at a writer's commit, in its order; the LBA it takes. -/
def State.zoneCheck (s : State) (c : Cmd) (lz blocks : Nat) : State × Option Status × Nat :=
  match s.zone? lz with
  | none => (s, none, 0)
  | some z =>
    if z.state = 4 then (s, some .zoneFull, 0)
    else if c.sqe.opc = 0x7D ∧ z.wp + blocks > zcap s.width then (s, some .zoneBoundary, 0)
    else if c.sqe.opc ≠ 0x7D ∧ sqeSlba c.sqe % zsze ≠ z.wp then (s, some .zoneWrite, 0)
    else
      match s.openZone lz false with
      | (_, some st) => (s, some st, 0)
      | (s1, none) => (s1, none, z.wp)

/-- The write pointer advances (R345): a zone written to its capacity is Full. `last` is in FSN order. -/
def State.zoneAdvance (s : State) (lz n fsn : Nat) : State :=
  match s.zone? lz with
  | none => s
  | some z =>
    let wp := z.wp + n
    let s1 := s.zoneSet lz (if wp ≥ zcap s.width then 4 else z.state) wp
    match s1.zone? lz with
    | some z1 => s1.setZone lz { z1 with last := fsn }
    | none => s1

/-! ### Completions. -/

/-- Signal vector or INTA for a completion queue (R396). -/
def State.signal (s : State) (q : Cq) : State :=
  if !q.ien then s
  else if s.hpt.msixEn then
    match s.hpt.msix[q.iv]? with
    | none => s
    | some e =>
      if e.mask ∨ s.hpt.fmask then { s with hpt := { s.hpt with pba := setAt s.hpt.pba q.iv true } }
      else s.send (.msix q.iv e.addr e.data)
  else
    let s1 : State := { s with hpt := { s.hpt with inta := true } }
    if s.cqu.nvme.intm then s1 else s1.send (.inta true)

/-- Replace a completion queue. -/
def State.setCq (s : State) (q : Cq) : State :=
  { s with cqu := { s.cqu with cqs := s.cqu.cqs.map fun x => if x.qid = q.qid then q else x } }

/-- A completion queue by number. -/
def State.cq? (s : State) (n : Nat) : Option Cq := s.cqu.cqs.find? fun q => q.qid == n

/-- A submission queue by number. -/
def State.sq? (s : State) (n : Nat) : Option Sq := s.cqu.sqs.find? fun q => q.qid == n

/-- Replace a submission queue. -/
def State.setSq (s : State) (q : Sq) : State :=
  { s with cqu := { s.cqu with sqs := s.cqu.sqs.map fun x => if x.qid = q.qid then q else x } }

/-- Entries a ring of `size` holds between head and tail. -/
def ringUsed (size head tail : Nat) : Nat := (tail + size - head) % size

/-- Interrupt Coalescing (R363, R396): the completion is held until THR + 1 have gathered, unless coalescing is off, the
queue is the admin queue, or the vector has CD set. -/
def State.coalesce (s : State) (q : Cq) : State :=
  let thr := s.cqu.feats.coal.toNat % 256
  let time := s.cqu.feats.coal.toNat / 256 % 256
  if q.qid = 0 ∨ time = 0 ∨ q.iv ∈ s.cqu.feats.noCoal ∨ q.held + 1 > thr then
    (s.setCq { q with held := 0 }).signal q
  else s.setCq { q with held := q.held + 1 }

/-- An entry of the Error Information log (R382, R395): the newest 64 are kept. -/
def State.errorLog (s : State) (sqid cid status lba nsid : Nat) : State :=
  let n := s.cqu.errCount + 1
  { s with cqu := { s.cqu with errCount := n, errors := (⟨n, sqid, cid, status, 0, lba, nsid⟩ :: s.cqu.errors).take 64 } }

/-- A status as its 15-bit field: SC, SCT, DNR. -/
def Status.code (t : Status) : Nat := t.sc + t.sct * 256 + (if t.dnr then 0x4000 else 0)

/-- R376, R358: post the completion of a command whose outcome is committed: entry, phase, head of its queue; it leaves
the store and the Hatrack, its pins are released, and an interrupt is signalled. An Abort's own completion follows that of
the command it aborted; a full queue, CFS and a power failure hold it back. -/
def State.post (s : State) (c : Cmd) (st : Status) : State :=
  match s.sq? c.sqid with
  | none => { s with cqu := { s.cqu with store := s.cqu.store.filter fun d => d.fsn != c.fsn } }
  | some sq =>
    match s.cq? sq.cqid with
    | none => s
    | some q =>
      if ringUsed q.size q.head q.tail + 1 ≥ q.size then s
      else
        let e : Cqe := ⟨q.qid, q.tail, c.dw0, c.dw1, c.sqid, sq.head, c.sqe.cid.toNat, q.phase, st⟩
        let t' := (q.tail + 1) % q.size
        let q' := { q with tail := t', phase := if t' = 0 then !q.phase else q.phase }
        let s1 : State := { s with cqu := { s.cqu with store := s.cqu.store.filter fun d => d.fsn != c.fsn } }
        let s2 := ((s1.unpin c.fsn).setCq q').send (.cqe e)
        let s3 := if st = .ok then s2 else s2.errorLog c.sqid c.sqe.cid.toNat st.code (sqeSlba c.sqe) c.sqe.nsid.toNat
        s3.coalesce q'

end Sys2Proof.Machine
end

