-- ==== Sys2Proof/Machine/Persist.lean ====
section
/-!
DEFINITION. What is made persistent: the Credenza's slots (R474), the hold-up save (R274), draining the write cache and
the shutdown (R373); and the triggers by which a command ends an idle level or a non-operational state (R438, R439).
-/

namespace Sys2Proof.Machine

/-! ### The Credenza's slots. -/

/-- GEN of a slot, 0 where it holds none. -/
def credGen : Option CredSlot → Nat
  | some c => c.gen
  | none => 0

/-- The older slot: the one with the lower GEN (R474). -/
def State.olderSlot (s : State) : Nat :=
  if credGen (s.chest.credSlots.getD 0 none) ≤ credGen (s.chest.credSlots.getD 1 none) then 0 else 1

/-- The working copy as a slot holds it. -/
def State.credImage (s : State) (gen : Nat) : CredSlot :=
  { gen := gen, cnt := s.crd.cnt, bins := s.crd.bins, icalMfg := s.crd.icalMfg, rows := s.buf.kept.rows,
    pages := s.buf.kept.pages, retiredAt := s.crd.retiredAt, calAt := s.crd.calAt, late := s.crd.late }

/-- Write the working copy to the older slot (R474), where a Chest device takes writes. -/
def State.credWrite (s : State) : State :=
  if s.chest.writeOk.any id then
    let n := s.olderSlot
    let gen := max (credGen (s.chest.credSlots.getD 0 none)) (credGen (s.chest.credSlots.getD 1 none)) + 1
    ({ s with
      chest := { s.chest with credSlots := setAt s.chest.credSlots n (some (s.credImage gen)) },
      crd := { s.crd with gen := gen, minutes := 0 } } : State).put Reg.CRD.STATUS.SLOT n
  else s

/-- A persist ends: CTRL.PERSIST reads 0; a CLEAR that waited clears, then persists at once (R490, R491). -/
def State.credClear (s : State) : State :=
  let ical := (List.range 24).map fun h => s.get (Reg.EAC.HEAD.WRITE_CUR h)
  let s1 : State := { s with crd := { s.crd with
    cnt := [], bins := [], icalMfg := ical, clearWait := false, retiredAt := [], calAt := [], late := [] } }
  ((s1.put Reg.CRD.STATUS.LOST 0).credWrite).put Reg.CRD.CTRL.CLEAR 0

/-- The write of a slot that was running ends (R474, R490). -/
def State.credPersist (s : State) : State :=
  let s1 := ({ s with crd := { s.crd with busy := false } } : State).credWrite.put Reg.CRD.CTRL.PERSIST 0
  if s1.crd.clearWait then s1.credClear else s1

/-! ### The hold-up save. -/

/-- The dirty protected lines, in cache order. -/
def State.protLines (s : State) : List CBlock := s.buf.cache.filter fun b => b.dirty && b.prot && b.current

/-- The device of line k: k mod 2, or the one device that takes writes (R273, R275). -/
def State.lineDev (s : State) (k : Nat) : Nat :=
  match s.chest.writeOk with
  | [true, false] => 0
  | [false, true] => 1
  | _ => k % 2

/-- The saved lines of the blocks at the positions that `keep` names (R273, R309). -/
def State.savedLines (s : State) (id : Nat) (keep : Nat → Bool) : List SavedLine :=
  ((s.protLines.mapIdx fun k b => (k, b)).filter fun x => keep x.1).map fun x =>
    ⟨x.1, s.lineDev x.1, x.2.dlba, id, x.2.data, x.2.poisoned⟩

/-- The lines a save has to write: the dirty protected lines, then the tail blocks of the index log (R274, R340). -/
def State.saveLines (s : State) : Nat := s.protLines.length + s.tailBlocks

/-- Of the index log's tail, the records in its first `k` blocks have been saved; the others are lost (R340). -/
def State.keepTail (s : State) (k : Nat) : State :=
  let t := s.zmu.logBytes % (s.width * 0x100000) / 16
  let lost := t - min t (256 * k)
  { s with zmu := { s.zmu with log := s.zmu.log.take (s.zmu.log.length - lost), logBytes := s.zmu.logBytes - 16 * lost } }

/-- Steps 1 to 3 of R274: the journal, the Credenza, and the header with STATE 4 where there are lines to save. A running
persist and a background erase are abandoned. -/
def State.saveStart (s : State) : State :=
  let s1 := ({ s with crd := { s.crd with busy := false } } : State).chestWrite.credWrite
  let hd := s1.chest.header
  let s2 : State := if s1.saveLines = 0 then s1 else
    { s1 with chest := { s1.chest with header := { hd with state := 4, saveId := hd.saveId + 1 }, saved := [] } }
  { s2 with chest := { s2.chest with saving := true } }

/-- Steps 4 and 5 of R274: the lines and the header with STATE 1, LINES and SKIPPED. Which lines fail is not the spec's:
a free value says where the `skipped` lines begin. -/
def State.saveEnd (s : State) (skipped : Nat) : State :=
  if !s.chest.saving then s
  else
    let n := s.saveLines
    let s0 : State := { s with chest := { s.chest with saving := false } }
    if n = 0 then s0
    else
      let (f, s1) := if skipped = 0 then (0, s0) else s0.free
      let hd := s1.chest.header
      let keep (k : Nat) : Bool := decide ((k + n - f % n) % n ≥ skipped)
      let lines := s1.savedLines hd.saveId keep
      let tail := ((List.range s.tailBlocks).takeWhile fun k => keep (s.protLines.length + k)).length
      ({ s1 with chest := { s1.chest with
          saved := lines, header := { hd with state := 1, lines := n, skipped := min skipped n } } } : State).keepTail tail

/-- The hold-up bus is lost before step 5: the first lines have been written, how many is a free value (R274). -/
def State.saveCut (s : State) : State :=
  if !s.chest.saving then s
  else
    let n := s.saveLines
    let (f, s1) := s.free
    let m := f % (n + 1)
    ({ s1 with chest := { s1.chest with
        saving := false,
        saved := if n = 0 then s1.chest.saved else s1.savedLines s1.chest.header.saveId fun k => decide (k < m) } } :
      State).keepTail (m - s.protLines.length)

/-! ### Draining the cache, and the shutdown. -/

/-- Every block that waits in no slot goes into free media cache slots, which are launched (R338, R372). -/
def State.drain (s : State) : State :=
  (List.range s.slotCount).foldl (fun t n =>
    if (t.slot? n).isSome ∨ t.loose.isEmpty then t
    else
      let t1 := t.gatherCache n
      match t1.slot? n with
      | some x => t1.launch x
      | none => t1) s

/-- An Asynchronous Event Request: it is held and never in flight for a shutdown or an idle time. -/
def Cmd.isAer (c : Cmd) : Bool := c.sqid == 0 && c.sqe.opc == 0x0C

/-- Steps 1 to 4 of R373, as far as they can go now: the commands in flight complete, every dirty block is written, then
the checkpoint and the Credenza, and SHST reads 0b10. -/
def State.shutdownStep (s : State) : State :=
  if s.cqu.nvme.shst ≠ 1 ∨ (s.cqu.store.any fun c => !c.isAer) then s
  else if s.buf.cache.any fun b => b.dirty then s.drain
  else
    let s1 := s.checkpoint.credWrite.unwarn 4 0
    { s1 with cqu := { s1.cqu with nvme := { s1.cqu.nvme with shst := 2 } } }

/-! ### Triggers. -/

/-- Leave a non-operational state, or stop the entry to one, for the last operational state the host selected (R438,
R446). -/
def State.exitPs (s : State) : State :=
  let entering : Bool := match s.power.trans with | some t => t.enter | none => false
  let leaving : Bool := match s.power.trans with | some t => !t.enter | none => false
  if leaving ∨ (!entering ∧ s.get Reg.RCU.PWR.EFFECTIVE < 3) then s
  else
    let s1 : State := { s with power := { s.power with trans := some ⟨s.power.lastOp, false, 0⟩ } }
    (s1.put Reg.RCU.PWR.TRANSITION 1).put Reg.RCU.PWR.HOST_PS s1.power.lastOp

/-- An I/O command restores the host-selected state from an idle level (R439) and ends a non-operational state (R438). -/
def State.wakeForIo (s : State) : State :=
  let s1 := if s.get Reg.RCU.PWR.EFFECTIVE < 3 ∧ s.get Reg.RCU.PWR.HOST_PS < 3 ∧ s.power.trans = none then
      s.put Reg.RCU.PWR.EFFECTIVE (s.get Reg.RCU.PWR.HOST_PS)
    else s
  s1.exitPs

end Sys2Proof.Machine
end

