-- ==== Sys2Proof/Machine/BureauOps.lean ====
section
/-!
DEFINITION. The Bureau's keys and measurements (R447 to R457): the device key and key-wrap key, the measurement blocks,
the signed record.
-/

namespace Sys2Proof.Machine

/-- The salt of R447. -/
def dsSalt : Bytes := asciiBytes ['H', 'T', 'L', '-', 'D', 'V', 'T', '2', '2', '5', '0']

/-- The private scalar of DK (R447). -/
def dkScalar : Nat :=
  beNat (hkdf384 dsSalt Config.deviceSecret (asciiBytes ['D', 'K']) 56) % (p384N - 1) + 1

/-- The key-wrap key KWK (R447). -/
def kwk : Bytes := hkdf384 dsSalt Config.deviceSecret (asciiBytes ['K', 'W']) 32

/-- An ECDSA P-384 signature by DK over the SHA-384 of a message, r then s (R455, R457). -/
def dkSign (m : Bytes) : Bytes := padTo 96 (Config.ecdsaSign dkScalar (sha384 m))

/-- A measurement block (R452): index, specification, size, DMTF type, value size, value. -/
def measBlock (i typ : Nat) (v : Bytes) : Bytes :=
  toLe 1 i ++ toLe 1 1 ++ toLe 2 (v.length + 3) ++ toLe 1 typ ++ toLe 2 v.length ++ v

/-- Put a measurement block; it is present from now on. -/
def State.measure (s : State) (i typ : Nat) (v : Bytes) : State :=
  let s1 : State := { s with bur := { s.bur with blocks := assocPut s.bur.blocks i (measBlock i typ v) } }
  s1.put Reg.BUR.STATUS.BLOCKS (s1.get Reg.BUR.STATUS.BLOCKS ||| 2 ^ (i - 1))

/-- The boot counter. -/
def State.bootCounter (s : State) : Nat := s.get Reg.BUR.COUNT_LO.COUNT + s.get Reg.BUR.COUNT_HI.COUNT * 2 ^ 32

/-- NST.BOOT_STATUS as a word. -/
def State.bootStatus (s : State) : Nat := (s.regs.word (Reg.key 1 0)).toNat

/-- The registers of log page 0xC3 as they stand (R384). -/
def State.startPage (s : State) : Bytes :=
  ([(1, 0), (1, 4), (0, 0), (0, 4), (2, 0), (2, 4), (2, 8), (0x10, 0x400), (0, 0x10)].flatMap fun (r : Nat × Nat) =>
    toLe 4 (s.regs.word (Reg.key r.1 r.2)).toNat)

/-- Index 8 is updated at the end of a phase (R452). -/
def State.measure8 (s : State) (phase : Nat) : State :=
  (s.measure 8 0x84 (toLe 8 s.bootCounter ++ toLe 4 s.bootStatus ++ toLe 1 phase ++
    toLe 1 (s.get Reg.BUR.STATUS.COUNTER_RESET) ++ toLe 2 0)).put Reg.BUR.STATUS.STAGE phase

/-- The blocks present, with their indices, in index order. -/
def State.measBlocks (s : State) : List (Nat × Bytes) :=
  (List.range 9).filterMap fun i => (s.bur.blocks.find? fun b => b.1 == i)

/-- The record: every block present, in index order (R452). -/
def State.record (s : State) : Bytes := s.measBlocks.flatMap Prod.snd

/-- Log page 0xC0 (R457). -/
def State.bootPage (s : State) : Bytes :=
  let chain := s.flag Reg.BUR.STATUS.CHAIN_PRESENT
  let rec_ := s.record
  let body := asciiBytes ['H', 'B', 'R', 'C'] ++ toLe 2 1 ++ toLe 1 (s.get Reg.BUR.STATUS.STAGE) ++
    toLe 1 (s.get Reg.BUR.STATUS.COUNTER_RESET + (if chain then 2 else 0)) ++ toLe 8 s.bootCounter ++
    toLe 4 rec_.length ++ toLe 1 s.measBlocks.length ++ zeros 3 ++
    (if chain then sha384 s.bur.chain else zeros 48) ++ zeros 56 ++ rec_
  body ++ (if chain then dkSign body else zeros 96)

end Sys2Proof.Machine
end

