-- ==== Sys2Proof/Machine/Commands.lean ====
section
/-!
DEFINITION. The commands of the queues (R357 to R360, R375): doorbells, fetching, creation and deletion of queues, Abort,
Asynchronous Event Request, self-tests, and the controller registers' CC (R377, R398, R373).
-/

namespace Sys2Proof.Machine

/-- An uncorrectable error is logged in the AER capability by its status bit; the first one with its number and header, which
is what the request was (R410). -/
def State.aerUncor (s : State) (bit : Nat) : State :=
  let a := s.hpt.aer
  let n := a.uncor ||| 2 ^ bit
  match a.first with
  | some _ => { s with hpt := { s.hpt with aer := { a with uncor := n } } }
  | none =>
    let v := s.free
    { v.2 with hpt := { v.2.hpt with aer := { a with uncor := n, first := some bit, header := v.1 } } }

/-- A request completes as an Unsupported Request (R408), counted (R413); a read has a completion. -/
def State.unsup (s : State) (read : Bool) : State :=
  let s1 := (s.bump Reg.HPT.ERRORS.UR_CA 1).aerUncor 20
  if read then { s1 with hpt := { s1.hpt with out := s1.hpt.out ++ [.unsupported] } } else s1

/-- A memory request from the host: none arrives before the end of P5 or with the link down (R59); in D3hot it completes as
an Unsupported Request (R399). -/
def State.memReq (s : State) (read : Bool) (f : State → State) : State :=
  if !s.hostUp then s else if s.get Reg.HPT.LINK.DSTATE = 3 then s.unsup read else f s

/-- A memory write from the host. -/
def State.mmio (s : State) (f : State → State) : State := s.memReq false f

/-- A fetched admin command with this opcode that has not run yet. -/
def State.adm (s : State) (fsn : Nat) (op : Byte) : Option Cmd :=
  match s.cmd? fsn with
  | some c => if c.sqid = 0 ∧ c.phase = .fetched ∧ c.sqe.opc = op then some c else none
  | none => none

/-- A fetched I/O command with this opcode that has not run yet. -/
def State.ioCmd (s : State) (fsn : Nat) (op : Byte) : Option Cmd :=
  match s.cmd? fsn with
  | some c => if c.sqid ≠ 0 ∧ c.phase = .fetched ∧ c.sqe.opc = op then some c else none
  | none => none

/-- A PRP of the command names BAR0 or BAR4 (R416). -/
def State.badPrp (s : State) (e : Sqe) : Bool := s.refusedAddr e.prp1.toNat || s.refusedAddr e.prp2.toNat

/-! ### Doorbells (R395). -/

/-- A doorbell write that is ignored is logged in the Error Information log (R395). -/
def State.doorbellError (s : State) (qid : Nat) : State := s.errorLog qid 0xFFFF 0 0 0

/-- R395: a submission queue tail. -/
def execSqTailDoorbell (qid : Nat) (value : Word) (s : State) : Host.Outcome State Fault Refusal :=
  .next (s.mmio fun s =>
    match s.sq? qid with
    | none => s.doorbellError qid
    | some q => if value.toNat ≥ q.size then s.doorbellError qid else s.setSq { q with tail := value.toNat })

/-- The level of INTA: asserted while an enabled completion queue holds entries the host has not taken (R396). -/
def State.intaLevel (s : State) : State :=
  let on := s.hpt.inta && s.cqu.cqs.any fun q => q.ien && q.head != q.tail
  let s1 : State := { s with hpt := { s.hpt with inta := on } }
  if s.hpt.inta ∧ !on ∧ !s.hpt.msixEn ∧ !s.cqu.nvme.intm then s1.send (.inta false) else s1

/-- R395: a completion queue head; one that would pass the tail is ignored. -/
def execCqHeadDoorbell (qid : Nat) (value : Word) (s : State) : Host.Outcome State Fault Refusal :=
  .next (s.mmio fun s =>
    match s.cq? qid with
    | none => s.doorbellError qid
    | some q =>
      if value.toNat ≥ q.size ∨ ringUsed q.size q.head value.toNat > ringUsed q.size q.head q.tail then
        s.doorbellError qid
      else (s.setCq { q with head := value.toNat }).intaLevel)

/-! ### Fetching (R358, R359). -/

/-- A queue may be fetched from now: it holds entries, the admin queue is served first, and nothing has stopped fetching
(R358, R373, R399, R409, R412). A submission queue that is being deleted is not fetched from. -/
def State.mayFetch (s : State) (q : Sq) : Bool :=
  q.head != q.tail && !s.cqu.fetchOff && !s.cqu.nvme.cfs && s.cqu.nvme.rdy && s.get Reg.HPT.LINK.DSTATE != 3 &&
  !s.dma.paused && (q.qid == 0 || match s.sq? 0 with | some a => a.head == a.tail | none => true) &&
  !(s.cqu.store.any fun c => c.sqid == 0 && c.sqe.opc == 0x00 && c.phase == .ready && c.sqe.cdw10.toNat % 0x10000 == q.qid)

/-- The command store and the Hatrack have room (R359, R364). -/
def State.hasRoom (s : State) (q : Sq) (e : Sqe) : Bool :=
  decide (s.cqu.store.length < 4096) &&
  (q.qid == 0 || (decide (s.ioCount < 4064) &&
    decide (s.hatrack + max (s.rangesOf e).length (dsmRanges e) ≤ 16384)))

/-- An admin command's opcode is one of R360, or of R87 in recovery download. -/
def State.adminOk (s : State) (e : Sqe) : Bool :=
  (if s.start.recovery then recoveryOpcodes else adminOpcodes).contains e.opc.toNat

/-- A command enters the store with the next FSN (R358). -/
def State.enter (s : State) (sqid : Nat) (e : Sqe) (ranges : List (Nat × Nat × Bool)) : State :=
  let c : Cmd := { fsn := s.cqu.nextFsn, sqid := sqid, sqe := e, phase := .fetched, status := none, dw0 := 0, dw1 := 0,
                   ranges := ranges, passed := ranges.isEmpty, buf := [], locs := [], prot := none, waitAdm := false,
                   waitFor := [], lba := 0, aborts := none, vendor := none }
  { s with cqu := { s.cqu with nextFsn := (s.cqu.nextFsn + 1) % 2 ^ 64, store := s.cqu.store ++ [c] } }

/-- The LTR message at a change between no command in flight and some (R400). -/
def State.ltr (s : State) : State :=
  let idle := s.cqu.store.all Cmd.isAer
  if idle = s.hpt.ltrIdle then s
  else ({ s with hpt := { s.hpt with ltrIdle := idle } } : State).send (.ltr idle)

/-- R358, R359, R364, R388: the entry at the head of a submission queue is fetched; a failure condition that holds at its
fetch commits its outcome at once. -/
def execCommandFetch (sqid : Nat) (e : Sqe) (s : State) : Host.Outcome State Fault Refusal :=
  match s.sq? sqid with
  | none => .next s
  | some q =>
    if !s.mayFetch q then .next s
    else if !s.hasRoom q e then .next { s with cqu := { s.cqu with stopped := true } }
    else
      let fsn := s.cqu.nextFsn
      let bad := if sqid = 0 then (if s.adminOk e then none else some Status.badOpcode) else s.ioCheck e
      let s00 : State := { s with cqu := { s.cqu with stopped := false } }
      let s0 := if (e.opc = 0x84 ∨ e.opc = 0x88) ∧ sqid ≠ 0 ∧ s.refusedAddr (e.cdw13.toNat + e.cdw14.toNat * 2 ^ 32) then
          s00.bump Reg.PTX.ERRORS.REFUSED 1 else s00
      let s1 := (s0.setSq { q with head := (q.head + 1) % q.size }).enter sqid e (if bad.isNone ∧ sqid ≠ 0 then s.rangesOf e else [])
      let s2 := (if sqid = 0 then s1 else s1.wakeForIo).ltr
      match bad with
      | some st => .next (s2.finish fsn st 0 0)
      | none => .next s2

/-! ### Queues (R357, R360). -/

/-- R357: Create I/O Completion Queue. -/
def execCreateIoCompletionQueue (fsn : Nat) (s : State) : Host.Outcome State Fault Refusal :=
  match s.adm fsn 0x05 with
  | none => .next s
  | some c =>
    let qid := c.sqe.cdw10.toNat % 0x10000
    let size := c.sqe.cdw10.toNat / 0x10000
    let iv := c.sqe.cdw11.toNat / 0x10000
    if !c.sqe.cdw11.getLsbD 0 ∨ s.badPrp c.sqe then .next (s.finish fsn .badField 0 0)
    else if qid = 0 ∨ qid > 64 ∨ (s.cq? qid).isSome then .next (s.finish fsn .badQid 0 0)
    else if size = 0 ∨ size > 4095 then .next (s.finish fsn .badQsize 0 0)
    else if iv > 64 then .next (s.finish fsn .badVector 0 0)
    else
      let q : Cq := ⟨qid, size + 1, 0, 0, true, c.sqe.cdw11.getLsbD 1, iv, 0⟩
      .next (({ s with cqu := { s.cqu with cqs := s.cqu.cqs ++ [q] } } : State).finish fsn .ok 0 0)

/-- R357: Create I/O Submission Queue. -/
def execCreateIoSubmissionQueue (fsn : Nat) (s : State) : Host.Outcome State Fault Refusal :=
  match s.adm fsn 0x01 with
  | none => .next s
  | some c =>
    let qid := c.sqe.cdw10.toNat % 0x10000
    let size := c.sqe.cdw10.toNat / 0x10000
    let cqid := c.sqe.cdw11.toNat / 0x10000
    if !c.sqe.cdw11.getLsbD 0 ∨ s.badPrp c.sqe then .next (s.finish fsn .badField 0 0)
    else if cqid = 0 ∨ (s.cq? cqid).isNone then .next (s.finish fsn .cqInvalid 0 0)
    else if qid = 0 ∨ qid > 64 ∨ (s.sq? qid).isSome then .next (s.finish fsn .badQid 0 0)
    else if size = 0 ∨ size > 4095 then .next (s.finish fsn .badQsize 0 0)
    else
      let q : Sq := ⟨qid, size + 1, 0, 0, cqid, c.sqe.cdw11.toNat / 2 % 4⟩
      .next (({ s with cqu := { s.cqu with sqs := s.cqu.sqs ++ [q] } } : State).finish fsn .ok 0 0)

/-- R357: Delete I/O Completion Queue. -/
def execDeleteIoCompletionQueue (fsn : Nat) (s : State) : Host.Outcome State Fault Refusal :=
  match s.adm fsn 0x04 with
  | none => .next s
  | some c =>
    let qid := c.sqe.cdw10.toNat % 0x10000
    if qid = 0 ∨ (s.cq? qid).isNone then .next (s.finish fsn .badQid 0 0)
    else if s.cqu.sqs.any fun q => q.cqid == qid then .next (s.finish fsn .badDelete 0 0)
    else
      .next (({ s with cqu := { s.cqu with cqs := s.cqu.cqs.filter fun q => q.qid != qid } } : State).finish fsn .ok 0 0)

/-- A queue under deletion goes, and the command completes, once every command of the queue has left the store (R360). -/
def State.deleteStep (s : State) : State :=
  s.cqu.store.foldl (fun t c =>
    if c.sqid = 0 ∧ c.sqe.opc = 0x00 ∧ c.phase = .ready then
      let qid := c.sqe.cdw10.toNat % 0x10000
      if t.cqu.store.any fun d => d.sqid == qid then t
      else ({ t with cqu := { t.cqu with sqs := t.cqu.sqs.filter fun q => q.qid != qid } } : State).finish c.fsn .ok 0 0
    else t) s

/-! ### Cancelling commands (R376, R377, R426). -/

/-- A result block of R420 with INVALID set, as an entry of log page 0xC6 for a SCAN that did not end (R426). -/
def scanCancelled (c : Cmd) (st : Nat) : Bytes :=
  padTo 512 (padTo 64 (toLe 2 c.sqid ++ toLe 2 c.sqe.cid.toNat ++ toLe 4 c.sqe.nsid.toNat ++ toLe 2 st ++ toLe 2 0 ++
    toLe 8 (sqeSlba c.sqe) ++ toLe 4 (sqeNlb c.sqe - 1)) ++ padTo 256 (zeros 32 ++ toLe 4 0x80000000))

/-- A SCAN that has started and is cancelled or aborted is entered in log page 0xC6 with INVALID set (R426). -/
def State.scanEnd (s : State) (c : Cmd) (st : Nat) : State :=
  if c.sqe.opc = 0x82 ∧ c.vendor.isSome then
    ({ s with cqu := { s.cqu with scans := (scanCancelled c st :: s.cqu.scans).take 16 } } : State).bump
      Reg.NDC.ERRORS.INVALID 1
  else s

/-- The command's outcome is decided before its completion: committed, or a PEER_IN whose first piece has committed
(R424). -/
def Cmd.decided (c : Cmd) : Bool := c.phase == .committed || (c.isIo && c.sqe.opc == 0x88 && c.passed && c.vendor.isSome)

/-- The arbiter commits an outcome that ends a command early (R376): its work stops and its data are discarded. -/
def State.cancel (s : State) (c : Cmd) (st : Status) : State :=
  if c.decided then s
  else
    let s1 : State := { s with
      cqu := { s.cqu with aers := s.cqu.aers.filter (· != c.fsn) },
      stripe := { s.stripe with degraded := s.stripe.degraded.filter (· != c.fsn) } }
    (s1.scanEnd c (st.sct * 256 + st.sc)).finish c.fsn st 0 0

/-- R360: Delete I/O Submission Queue: commands of the queue that are not committed end with Command Aborted due to SQ
Deletion. -/
def execDeleteIoSubmissionQueue (fsn : Nat) (s : State) : Host.Outcome State Fault Refusal :=
  match s.adm fsn 0x00 with
  | none => .next s
  | some c =>
    let qid := c.sqe.cdw10.toNat % 0x10000
    if qid = 0 ∨ (s.sq? qid).isNone then .next (s.finish fsn .badQid 0 0)
    else
      let s1 := (s.cqu.store.filter fun d => d.sqid == qid).foldl (fun t d => t.cancel d .sqDeleted) s
      .next (s1.setCmd { c with phase := .ready }).deleteStep

/-- Commands that an Abort never ends (R375). -/
def Cmd.unabortable (c : Cmd) : Bool := c.sqid == 0 && [0x80, 0x84, 0x10, 0x14, 0x08].contains c.sqe.opc.toNat

/-- R375: Abort. -/
def execAbortCommand (fsn : Nat) (s : State) : Host.Outcome State Fault Refusal :=
  match s.adm fsn 0x08 with
  | none => .next s
  | some c =>
    if (s.cqu.store.filter fun d => d.sqid == 0 && d.sqe.opc == 0x08).length > 4 then .next (s.finish fsn .abortLimit 0 0)
    else
      let sqid := c.sqe.cdw10.toNat % 0x10000
      let cid := c.sqe.cdw10.toNat / 0x10000
      match s.cqu.store.find? fun d => d.sqid == sqid && d.sqe.cid.toNat == cid with
      | none => .next ((s.bump Reg.CQU.ARBITER.NOT_ABORTED 1).finish fsn .ok 1 0)
      | some d =>
        if d.unabortable ∨ d.decided then .next ((s.bump Reg.CQU.ARBITER.NOT_ABORTED 1).finish fsn .ok 1 0)
        else
          let s1 := (s.cancel d .aborted).bump Reg.CQU.ARBITER.ABORTED 1
          .next ((s1.setCmd { c with aborts := some d.fsn }).finish fsn .ok 0 0)

/-! ### Asynchronous events (R386). -/

/-- Give a waiting event whose type may be reported to a held request. -/
def State.deliver (s : State) : State :=
  match s.cqu.aers, s.cqu.events.find? fun e => !(s.cqu.masked.contains (e.1 * 256 + e.2.1)) with
  | f :: t, some e =>
    ({ s with cqu := { s.cqu with
        aers := t, masked := (e.1 * 256 + e.2.1) :: s.cqu.masked, events := s.cqu.events.filter (· != e) } } : State).finish
      f .ok (e.1 + e.2.1 * 256 + e.2.2 * 65536) 0
  | _, _ => s

/-- R386: a ninth request completes with its limit exceeded; a held one takes a waiting event. -/
def execAsynchronousEventRequest (fsn : Nat) (s : State) : Host.Outcome State Fault Refusal :=
  match s.adm fsn 0x0C with
  | none => .next s
  | some c =>
    if s.cqu.aers.length ≥ 8 then .next (s.finish fsn .aerLimit 0 0)
    else
      let s1 := s.setCmd { c with phase := .ready }
      .next ({ s1 with cqu := { s1.cqu with aers := s1.cqu.aers ++ [fsn] } } : State).deliver

/-! ### Device Self-test (R360). -/

/-- The status a maintenance command meets while a Sanitize or Format runs (R463, R466). -/
def State.opBusy (s : State) : Option Status :=
  if s.sanitizing then some .sanitizing else if s.formatting then some .formatting else none

/-- A Device Self-test command with a code, past its shared checks: busy operations, then a test already running. -/
def State.selfTest (s : State) (fsn code : Nat) (go : State → State) : State :=
  match s.adm fsn 0x14 with
  | none => s
  | some c =>
    if c.sqe.cdw10.toNat % 16 ≠ code then
      if [1, 2, 15].contains (c.sqe.cdw10.toNat % 16) then s else s.finish fsn .badField 0 0
    else
      match s.opBusy with
      | some st => s.finish fsn st 0 0
      | none =>
        if code ≠ 15 ∧ s.cqu.test ≠ 0 then s.finish fsn .selfTest 0 0
        else (go s.exitPs).finish fsn .ok 0 0

/-- R360: the short test: a triggered scrub pass of each memory, which ends it, and a read of every head's calibration
tracks. -/
def execShortSelfTest (fsn : Nat) (s : State) : Host.Outcome State Fault Refusal :=
  .next (s.selfTest fsn 1 fun s =>
    (({ s with cqu := { s.cqu with test := 1 } } : State).startScrub .sram true).startScrub .dram true)

/-- The stripes that hold data: homes below their frontiers and the media cache's (R360, R338). -/
def State.writtenStripes (s : State) : List (Nat × Nat) :=
  (s.zmu.zones.flatMap fun z => (List.range z.frontier).map fun i => (z.home, i)) ++
  ((s.zmu.extents.filter fun e => !e.zero).map fun e => (e.pzone, e.stripe)).eraseDups

/-- R360: the extended test: a verify run of every written stripe at background priority (kind 5); it ends when the last
has been dispatched. -/
def execExtendedSelfTest (fsn : Nat) (s : State) : Host.Outcome State Fault Refusal :=
  .next (s.selfTest fsn 2 fun s =>
    let w := s.writtenStripes
    let runs := w.mapIdx fun k x =>
      let p := match s.place? x.1 with | some p => (p.membersAt x.2).head? | none => none
      let surf := match p with | some m => m.surface | none => 0
      ({ id := s.cqu.nextRun + k, act := surf / 12, kind := 5, head := surf, since := 0, urgent := false,
         run := { kind := 0, head := BitVec.ofNat 8 (surf % 12), count := 256, track := 0, firstSlot := 0, seedKind := 0,
                  descValid := false, wide := false, dlba := 0, descAddr := 0, tag := BitVec.ofNat 32 (s.cqu.nextRun + k) } } : MRun)
    let s1 := ({ s with cqu := { s.cqu with test := 2 } } : State).queueRuns runs
    if w.isEmpty then s1.testResult 0 else s1)

/-- R360: code 0xF aborts either test. -/
def execSelfTestAbort (fsn : Nat) (s : State) : Host.Outcome State Fault Refusal :=
  .next (s.selfTest fsn 15 fun s => s.testResult 1)

/-! ### CC (R377, R398, R373). -/

/-- CSTS.RDY may be set: P7 has ended, or P5 in recovery download (R59, R87). -/
def State.rdyAllowed (s : State) : Bool :=
  !s.flag Reg.NST.BOOT_STATUS.HALTED &&
  (decide (s.get Reg.BUR.STATUS.STAGE ≥ 7) || (s.start.recovery && decide (s.get Reg.BUR.STATUS.STAGE ≥ 5)))

/-- What R398 refuses in CC, with AQA. -/
def ccBad (cc aqa : Word) : Bool :=
  decide (cc.toNat / 0x80 % 16 > 4) || decide (cc.toNat / 0x800 % 8 > 1) ||
  !(cc.toNat / 16 % 8 == 0 || cc.toNat / 16 % 8 == 6) || cc.toNat / 0x10000 % 16 != 6 || cc.toNat / 0x100000 % 16 != 4 ||
  aqa.toNat % 0x1000 == 0 || aqa.toNat / 0x10000 % 0x1000 == 0

/-- The bits of CC that are honoured (R397). -/
def ccMask : Word := 0x00FFFFF1

/-- R398, R60, R61: EN goes from 0 to 1: a refused CC, or a halted start, sets CFS; else the admin queues exist, and RDY
sets once it may. -/
def execCcEnSet (cc : Word) (s : State) : Host.Outcome State Fault Refusal :=
  .next (s.mmio fun s =>
    if s.cqu.nvme.cc.getLsbD 0 ∨ !cc.getLsbD 0 then s
    else
      let n := { s.cqu.nvme with cc := cc &&& ccMask }
      if ccBad cc n.aqa ∨ s.flag Reg.NST.BOOT_STATUS.HALTED then
        { s with cqu := { s.cqu with nvme := { n with cfs := true } } }
      else
        { s with cqu := { s.cqu with
          nvme := { n with rdy := s.rdyAllowed && !n.cfs },
          sqs := [⟨0, n.aqa.toNat % 0x1000 + 1, 0, 0, 0, 0⟩],
          cqs := [⟨0, n.aqa.toNat / 0x10000 % 0x1000 + 1, 0, 0, true, true, 0, 0⟩] } })

/-- The default APST table of R440, as (ITPS, ITPT) packed as NVMe packs an entry. -/
def State.defaultApst (s : State) : List Nat :=
  match s.cfg with
  | none => List.replicate 32 0
  | some c =>
    let entry (ps t : Nat) : Nat := ps * 8 + min t 16777215 * 256
    let op := if c.power.t3 ≠ 0 then entry 3 c.power.t3 else if c.power.t4 ≠ 0 then entry 4 c.power.t4 else 0
    let e3 := if c.power.t3 ≠ 0 ∧ c.power.t4 ≠ 0 then entry 4 (c.power.t4 - c.power.t3) else 0
    [op, op, op, e3] ++ List.replicate 28 0

/-- The default over-temperature threshold: CRIT + 273 K (R443). -/
def State.defaultOver (s : State) : Nat := match s.cfg with | some c => c.power.crit + 273 | none => 0

/-- The features at their defaults (R363, R440, R443). -/
def State.defaultFeats (s : State) : Feats := { Feats.reset with overT := s.defaultOver, apst := s.defaultApst }

/-- R377: uncommitted commands are cancelled, unposted completions are discarded, every queue is deleted, RDY and CFS
clear, and the APST table returns to its default (R440). Committed writes keep their effect. -/
def State.ctrlReset (s : State) (cc : Word) : State :=
  let s1 := s.cqu.store.foldl (fun t c => if c.decided then t.unpin c.fsn else (t.unpin c.fsn).scanEnd c 0) s
  let s2 : State := { s1 with
    stripe := { s1.stripe with degraded := [] },
    hpt := { s1.hpt with inta := false },
    cqu := { s1.cqu with
      store := [], sqs := [], cqs := [], aers := [], masked := [], stopped := false, fetchOff := false,
      runs := s1.cqu.runs.filter (fun r => r.kind != 0 && r.kind != 2), feats := s1.defaultFeats,
      nvme := { s1.cqu.nvme with cc := cc &&& ccMask, rdy := false, cfs := false, shst := 0, intm := false } } }
  (s2.putB Reg.RCU.PWR.APSTE (match s.cfg with | some c => c.power.apst | none => false)).ltr

/-- R377: EN goes from 1 to 0. -/
def execControllerReset (cc : Word) (s : State) : Host.Outcome State Fault Refusal :=
  .next (s.mmio fun s => if s.cqu.nvme.cc.getLsbD 0 ∧ !cc.getLsbD 0 then s.ctrlReset cc else s)

/-- R373: SHN asks for a shutdown: fetching stops, and the steps run as far as they can now. -/
def execShutdown (cc : Word) (s : State) : Host.Outcome State Fault Refusal :=
  .next (s.mmio fun s =>
    if cc.toNat / 0x4000 % 4 = 0 ∨ s.cqu.nvme.shst ≠ 0 then s
    else
      let cc' := (s.cqu.nvme.cc &&& 0xFFFF3FFF) ||| (cc &&& 0x0000C000)
      ({ s with cqu := { s.cqu with
          fetchOff := true, nvme := { s.cqu.nvme with cc := cc', shst := 1 } } } : State).shutdownStep)

/-! ### Interrupt masks (R396) and coalescing (R363). -/

/-- R396: INTMS masks INTA through bit 0. -/
def execIntms (value : Word) (s : State) : Host.Outcome State Fault Refusal :=
  .next (s.mmio fun s =>
    if value.getLsbD 0 then
      let s1 : State := { s with cqu := { s.cqu with nvme := { s.cqu.nvme with intm := true } } }
      if s.hpt.inta ∧ !s.hpt.msixEn ∧ !s.cqu.nvme.intm then s1.send (.inta false) else s1
    else s)

/-- R396: INTMC unmasks it. -/
def execIntmc (value : Word) (s : State) : Host.Outcome State Fault Refusal :=
  .next (s.mmio fun s =>
    if value.getLsbD 0 then
      let s1 : State := { s with cqu := { s.cqu with nvme := { s.cqu.nvme with intm := false } } }
      if s.hpt.inta ∧ !s.hpt.msixEn ∧ s.cqu.nvme.intm then s1.send (.inta true) else s1
    else s)

/-- R363: the aggregation time of a completion queue runs out. -/
def execInterruptCoalescingTime (qid : Nat) (s : State) : Host.Outcome State Fault Refusal :=
  match s.cq? qid with
  | none => .next s
  | some q => .next (if q.held = 0 then s else (s.setCq { q with held := 0 }).signal q)

end Sys2Proof.Machine
end

