-- ==== Sys2Proof/Machine/Features.lean ====
section
/-!
DEFINITION. The features (R363) and the selection of a power state (R432, R446); the temperature thresholds (R383, R443).
-/

namespace Sys2Proof.Machine

/-- Composite Temperature in kelvin (R443). -/
def State.kelvin (s : State) : Nat := s.get Reg.RCU.THERMAL.TJ + 273

/-- Critical Warning bit 1: Composite Temperature beyond a threshold of feature 0x04 (R383). -/
def State.tempWarn (s : State) : State :=
  let f := s.cqu.feats
  if (f.overT ≠ 0 ∧ s.kelvin ≥ f.overT) ∨ s.kelvin ≤ f.under then s.warn 1 0 else s.unwarn 1 0

/-- The host selects a power state (R432, R438). -/
def State.applyPs (s : State) (n : Nat) : State :=
  if n < 3 then
    let s1 : State := { s with power := { s.power with lastOp := n } }
    if s.get Reg.RCU.PWR.EFFECTIVE ≥ 3 then s1.exitPs
    else (s1.put Reg.RCU.PWR.HOST_PS n).put Reg.RCU.PWR.EFFECTIVE n
  else if s.get Reg.RCU.PWR.EFFECTIVE = n then s.put Reg.RCU.PWR.HOST_PS n
  else
    let s1 : State := { s with power := { s.power with trans := some ⟨n, true, 0⟩ } }
    (s1.put Reg.RCU.PWR.TRANSITION 1).put Reg.RCU.PWR.HOST_PS n

/-- Set Features Power Management: taken at once, or, during a transition or while a Sanitize or Format runs for a
non-operational state, when that has ended; the latest request wins (R446, R463). -/
def State.selectPs (s : State) (n : Nat) : State :=
  let entering : Bool := match s.power.trans with | some t => t.enter | none => false
  if entering ∧ n < 3 then
    ({ s with power := { s.power with lastOp := n, want := none } } : State).exitPs
  else if s.power.trans.isSome ∨ (n ≥ 3 ∧ s.opBusy.isSome) then { s with power := { s.power with want := some n } }
  else ({ s with power := { s.power with want := none } } : State).applyPs n

/-- The features supported (R363). -/
def featureIds : List Nat := [0x01, 0x02, 0x04, 0x06, 0x07, 0x08, 0x09, 0x0B, 0x0C]

/-- Replace the features. -/
def State.setFeats (s : State) (f : Feats) : State := { s with cqu := { s.cqu with feats := f } }

/-- Every dirty block of the unprotected part, with its writer. -/
def State.unprotDirty (s : State) : List (Nat × Nat) :=
  (s.buf.cache.filter fun b => b.current && b.dirty && !b.prot).map fun b => (b.dlba, b.fsn)

/-- Feature 0x04, the temperature thresholds (R384): the composite sensor only; the warning follows. -/
def State.setThreshold (s : State) (fsn : Nat) (d : Word) : State :=
  let sel := d.toNat / 0x10000 % 16
  let th := d.toNat / 0x100000 % 4
  if (sel ≠ 0 ∧ sel ≠ 15) ∨ th > 1 then s.finish fsn .badField 0 0
  else
    let f := s.cqu.feats
    let v := d.toNat % 0x10000
    (s.setFeats (if th = 0 then { f with overT := v } else { f with under := v })).tempWarn.finish fsn .ok 0 0

/-- Feature 0x06, the write cache: switched off, the command waits until nothing unprotected is dirty. -/
def State.setWriteCache (s : State) (c : Cmd) (on : Bool) : State :=
  if !s.vwc then s.finish c.fsn .ok 0 0
  else if on then (s.setFeats { s.cqu.feats with wce := true }).finish c.fsn .ok 0 0
  else
    let s1 := s.setFeats { s.cqu.feats with wce := false }
    let w := s1.unprotDirty
    if w.isEmpty then s1.finish c.fsn .ok 0 0
    else (s1.setCmd { c with phase := .admitted, status := some .ok, waitFor := w }).drain

/-- The value of a feature is set, and the command completes. -/
def State.setFeature (s : State) (c : Cmd) (fid : Nat) (d : Word) (data : Bytes) : State :=
  let f := s.cqu.feats
  if fid = 0x01 then (s.setFeats { f with arb := d }).finish c.fsn .ok 0 0
  else if fid = 0x02 then
    if d.toNat % 32 > 4 then s.finish c.fsn .badField 0 0 else (s.selectPs (d.toNat % 32)).finish c.fsn .ok 0 0
  else if fid = 0x04 then s.setThreshold c.fsn d
  else if fid = 0x06 then s.setWriteCache c (d.getLsbD 0)
  else if fid = 0x07 then s.finish c.fsn .ok (63 + 63 * 65536) 0
  else if fid = 0x08 then (s.setFeats { f with coal := BitVec.ofNat 32 (d.toNat % 0x10000) }).finish c.fsn .ok 0 0
  else if fid = 0x09 then
    let iv := d.toNat % 0x10000
    let rest := f.noCoal.filter (· != iv)
    if iv > 64 then s.finish c.fsn .badVector 0 0
    else (s.setFeats { f with noCoal := if d.getLsbD 16 then iv :: rest else rest }).finish c.fsn .ok 0 0
  else if fid = 0x0B then (s.setFeats { f with aec := d.toNat % 256 }).finish c.fsn .ok 0 0
  else
    let tbl := (List.range 32).map fun i => leAt data (8 * i) 4
    ((s.setFeats { f with apst := tbl }).putB Reg.RCU.PWR.APSTE (d.getLsbD 0)).finish c.fsn .ok 0 0

/-- R363: Set Features; the APST table comes as the command's data. -/
def execSetFeatures (fsn : Nat) (data : Bytes) (s : State) : Host.Outcome State Fault Refusal :=
  match s.adm fsn 0x09 with
  | none => .next s
  | some c =>
    let fid := c.sqe.cdw10.toNat % 256
    if !featureIds.contains fid ∨ s.badPrp c.sqe then .next (s.finish c.fsn .badField 0 0)
    else if c.sqe.cdw10.getLsbD 31 then .next (s.finish c.fsn .notSaveable 0 0)
    else .next (s.setFeature c fid c.sqe.cdw11 data)

/-- The dword a feature reports, from a set of features. -/
def State.featureWord (s : State) (f : Feats) (dflt : Bool) (fid : Nat) (d : Word) : Nat :=
  if fid = 0x01 then f.arb.toNat
  else if fid = 0x02 then (if dflt then 0 else s.get Reg.RCU.PWR.HOST_PS)
  else if fid = 0x04 then (if d.toNat / 0x100000 % 4 = 0 then f.overT else f.under)
  else if fid = 0x06 then (if f.wce then 1 else 0)
  else if fid = 0x07 then 63 + 63 * 65536
  else if fid = 0x08 then f.coal.toNat
  else if fid = 0x09 then d.toNat % 0x10000 + (if f.noCoal.contains (d.toNat % 0x10000) then 0x10000 else 0)
  else if fid = 0x0B then f.aec
  else if dflt then (match s.cfg with | some c => if c.power.apst then 1 else 0 | none => 0)
  else s.get Reg.RCU.PWR.APSTE

/-- R363: Get Features: the current or the default value; the APST table goes out as data. -/
def execGetFeatures (fsn : Nat) (s : State) : Host.Outcome State Fault Refusal :=
  match s.adm fsn 0x0A with
  | none => .next s
  | some c =>
    let fid := c.sqe.cdw10.toNat % 256
    let sel := c.sqe.cdw10.toNat / 256 % 8
    let d := c.sqe.cdw11
    if !featureIds.contains fid ∨ sel > 1 ∨ s.badPrp c.sqe ∨
        (fid = 0x04 ∧ (d.toNat / 0x10000 % 16 ≠ 0 ∨ d.toNat / 0x100000 % 4 > 1)) then .next (s.finish fsn .badField 0 0)
    else if fid = 0x09 ∧ d.toNat % 0x10000 > 64 then .next (s.finish fsn .badVector 0 0)
    else
      let f := if sel = 1 then s.defaultFeats else s.cqu.feats
      let s1 := if fid = 0x0C then s.toHost c (f.apst.flatMap fun e => toLe 8 e) else s
      .next (s1.finish fsn .ok (s.featureWord f (sel == 1) fid d) 0)

end Sys2Proof.Machine
end

