-- ==== Sys2Proof/Machine/Io.lean ====
section
/-!
DEFINITION. The I/O commands (R361, R364 to R372, R405, R407): transfer and admission of writers, their commit, the
snapshots and data of readers, Write Zeroes, Dataset Management, Flush and Verify, and the media scheduler (R378).
-/

namespace Sys2Proof.Machine

/-! ### Writers: transfer and admission. -/

/-- Media need not wait for: durability before completion (R370): FUA, the cache disabled, or no volatile cache. -/
def State.mustProtect (s : State) (e : Sqe) : Bool := sqeFua e || !s.cqu.feats.wce || !s.vwc

/-- The 4 KiB blocks of a writer's data: drive LBA and plaintext, in the 512-byte format the sectors given of each block
(R368). -/
def Layout.pieces (l : Layout) (z : Bool) (e : Sqe) (data : List Bytes) : List (Nat × Bytes) :=
  let (b, n) := l.cover z (sqeSlba e) (sqeNlb e)
  let p := l.per z
  (List.range n).map fun i =>
    let lo := max (sqeSlba e) ((b + i) * p)
    let hi := min (sqeSlba e + sqeNlb e) ((b + i + 1) * p)
    (l.dlba z (b + i),
      (List.range (hi - lo)).flatMap fun k => padTo (4096 / p) (data.getD (lo - sqeSlba e + k) []))

/-- Encrypt whole blocks on their way into the buffer (R405); a partial block stays a plaintext until its merge (R407). -/
def State.seal (s : State) (l : List (Nat × Bytes)) : List (Nat × Bytes) :=
  l.map fun x => if x.2.length = 4096 then (x.1, s.encrypt x.1 x.2) else x

/-- A writer's blocks are in hand and wait for admission (R367, R370). -/
def State.handIn (s : State) (c : Cmd) (buf : List (Nat × Bytes)) : State :=
  (s.setCmd { c with phase := .ready, waitAdm := true, buf := buf }).countEnc buf.length

/-- The status of a transfer that failed (R367). -/
def xferStatus : Xfer → Option Status
  | .ok => none
  | .pcieError => some .dataXfer
  | .uncorrectable => some .internal

/-- A write's data arrive (R361, R367, R416). -/
def State.writeData (s : State) (c : Cmd) (data : List Bytes) (xfer : Xfer) (sealed : Bool) : State :=
  match xferStatus xfer, s.ns c.sqe.nsid.toNat, s.zmu.layout with
  | some st, _, _ => s.finish c.fsn st 0 0
  | none, some z, some l =>
    let size := l.lbaSize z
    let d := s.fromHost c size ((List.range (sqeNlb c.sqe)).map fun i => padTo size (data.getD i []))
    let b := l.pieces z c.sqe d
    (s.handIn c (if sealed then s.seal b else b)).hostData true (sqeNlb c.sqe * size)
  | none, _, _ => s

/-- R361, R367: Write: its blocks have been transferred. -/
def execWrite (fsn : Nat) (data : List Bytes) (xfer : Xfer) (s : State) : Host.Outcome State Fault Refusal :=
  match s.ioCmd fsn 0x01 with
  | none => .next s
  | some c => .next (s.writeData c data xfer true)

/-- R345, R361: Zone Append: as Write; its blocks take their place, and with it their tweak, at the commit. -/
def execZoneAppend (fsn : Nat) (data : List Bytes) (xfer : Xfer) (s : State) : Host.Outcome State Fault Refusal :=
  match s.ioCmd fsn 0x7D with
  | none => .next s
  | some c => .next (s.writeData c data xfer false)

/-- R304, R370: a writer's blocks are admitted to one part, or wait; with the media unable to serve, it is answered (R387). -/
def execWriteAdmission (fsn : Nat) (s : State) : Host.Outcome State Fault Refusal :=
  match s.cmd? fsn with
  | none => .next s
  | some c =>
    if !c.waitAdm ∨ c.phase ≠ .ready then .next s
    else
      match s.admitPart (s.mustProtect c.sqe) c.buf.length with
      | some p => .next (s.setCmd { c with phase := .admitted, waitAdm := false, prot := some p })
      | none =>
        match s.mediaDown with
        | some st => .next (s.finish fsn st 0 0)
        | none => .next s

/-! ### The commit (R367). -/

/-- The current plaintext of a block at a writer's ordering point (R368): from the cache, zeros, or the media data given;
none where it cannot be read. -/
def State.baseData (s : State) (current : List (Nat × Option Bytes)) (d : Nat) : Option Bytes :=
  match s.locate d with
  | .cache f => (s.buf.cache.find? fun b => b.dlba == d && b.fsn == f).map fun b => s.decrypt d b.data
  | .rcache => (s.buf.rcache.find? fun r => r.1 == d).map fun r => s.decrypt d r.2
  | .zero => some (zeros 4096)
  | .lost => none
  | .media _ _ _ => assocGet none current d

/-- Merge a writer's partial blocks into the current data (R368, R407); none where a block cannot be read. -/
def State.mergeEdges (s : State) (l : Layout) (z : Bool) (e : Sqe) (current : List (Nat × Option Bytes)) :
    List (Nat × Bytes) → Option (List (Nat × Bytes))
  | [] => some []
  | (d, b) :: t =>
    match s.mergeEdges l z e current t with
    | none => none
    | some r =>
      if b.length ≥ 4096 then some ((d, b) :: r)
      else
        let first := l.dlba z (sqeSlba e / l.per z)
        let at_ := if d = first then sqeSlba e % l.per z * l.lbaSize z else 0
        match s.baseData current d with
        | none => none
        | some old => some ((d, s.encrypt d (old.take at_ ++ b ++ old.drop (at_ + b.length))) :: r)

/-- Add ZERO extents over whole blocks (R339): cached data of the range give way, and it leaves the lost list. -/
def State.zeroRange (s : State) (r : Nat × Nat) : State :=
  let s1 := s.dropBlocks fun d => decide (r.1 ≤ d ∧ d < r.1 + r.2)
  let s2 := (List.range r.2).foldl (fun t i => t.unlose (r.1 + i)) s1
  s2.mapChange (.extent ⟨r.1, r.2, 0, 0, 0, true⟩)

/-- Home stripes that have become complete take slots (R264). -/
def State.gatherHomes (s : State) (l : List (Nat × Bytes)) : State :=
  (l.map fun x => x.1 / zsze).eraseDups.foldl State.gatherHome s

/-- A writer's outcome after its commit (R370): at once, or when its blocks are durable. -/
def State.writerDone (s : State) (c : Cmd) (must : Bool) (blocks : List Nat) (dw0 dw1 : Nat) : State :=
  let wait := if must then (blocks.filter fun d => !s.durable d c.fsn).map fun d => (d, c.fsn) else []
  if wait.isEmpty then s.finish c.fsn .ok dw0 dw1
  else
    (s.setCmd { c with phase := .admitted, passed := true, status := some .ok, dw0 := dw0, dw1 := dw1, waitFor := wait,
                       buf := [], waitAdm := false, prot := none }).drain.expose

/-- The commit of a Write, Write Zeroes or Zone Append (R367 to R369). -/
def State.commitWriter (s : State) (c : Cmd) (z : Bool) (l : Layout) (current : List (Nat × Option Bytes)) : State :=
  let lz := l.c + sqeSlba c.sqe / zsze
  let n := sqeNlb c.sqe
  let (s1, bad, wp) := if z then s.zoneCheck c lz n else (s, none, 0)
  match bad with
  | some st => s.finish c.fsn st 0 0
  | none =>
    let append := c.sqe.opc == 0x7D
    let placed := if append then (c.buf.mapIdx fun i x => (lz * zsze + wp + i, s.encrypt (lz * zsze + wp + i) x.2)) else c.buf
    match s1.mergeEdges l z c.sqe current placed with
    | none => s.failRead c.fsn
    | some b =>
      let prot := c.prot.getD true
      let s2 := s1.commitBlocks c.fsn prot b
      let s3 := if c.sqe.opc = 0x08 ∧ !z then
          (c.ranges.foldl (fun t r =>
            let whole := (List.range r.2.1).filter fun i => !(b.any fun x => x.1 == r.1 + i)
            (runsOf (whole.map (r.1 + ·))).foldl State.zeroRange t) s2)
        else s2
      let s4 := ((if z then s3.zoneAdvance lz n c.fsn else s3).gatherHomes b).expose
      let lba := sqeSlba c.sqe / zsze * zsze + wp
      s4.writerDone c (s.mustProtect c.sqe) (b.map Prod.fst) (if append then lba % 2 ^ 32 else 0)
        (if append then lba / 2 ^ 32 else 0)

/-! ### Zone Management Send (R346). -/

/-- ZSA of the command: 1 Close, 2 Finish, 3 Open, 4 Reset. -/
def sqeZsa (e : Sqe) : Nat := e.cdw13.toNat % 256

/-- A zone that is reset (R346, R283): its cached blocks, extents, lost rows and moves go. -/
def State.resetZone (s : State) (lz : Nat) : State :=
  match s.zone? lz with
  | none => s
  | some z =>
    let lo := lz * zsze
    let inZone (d : Nat) : Bool := decide (lo ≤ d ∧ d < lo + zsze)
    let s1 := s.dropBlocks inZone
    let s2 := if s1.hasExtent lo zsze then s1.mapChange (.remove lo zsze) else s1
    let s3 : State := { s2 with
      stripe := { s2.stripe with
        lost := (s2.stripe.lost.map (fun r => { r with blocks := r.blocks.filter fun d => !inZone d })).filter fun r => !r.blocks.isEmpty },
      cqu := { s2.cqu with uncorrect := s2.cqu.uncorrect.filter fun r => !inZone r.1 },
      zmu := { s2.zmu with merges := s2.zmu.merges.filter fun m => m.zone != lz } }
    let s4 := match s3.place? z.home with
      | some p => if p.moving then s3.moveEnd p else s3
      | none => s3
    let s5 := s4.zoneSet lz 0 0
    (match s5.zone? lz with
      | some z5 => s5.setZone lz { z5 with frontier := 0, merging := false }
      | none => s5).expose

/-- The zero blocks a Finish writes: from the write pointer to the end of its stripe (R346). -/
def State.finishBlocks (s : State) (lz : Nat) : List Nat :=
  match s.zone? lz with
  | none => []
  | some z =>
    let w := 256 * s.width
    if z.state ≥ 4 ∨ z.wp % w = 0 then [] else (List.range (w - z.wp % w)).map fun i => lz * zsze + z.wp + i

/-- Finish a zone (R346): none while its zero blocks find no room in the cache. -/
def State.finishZone (s : State) (fsn lz : Nat) : Option State :=
  match s.zone? lz with
  | none => some s
  | some z =>
    let ds := s.finishBlocks lz
    match (if ds.isEmpty then some true else s.admitPart false ds.length) with
    | none => none
    | some p =>
      let b := ds.map fun d => (d, s.encrypt d (zeros 4096))
      let s1 := if b.isEmpty then s else (s.countEnc b.length).commitBlocks fsn p b
      some ((s1.zoneSet lz 4 (z.wp + ds.length)).gatherHome lz)

/-- One zone's action (R346): the new state with the status where it is refused; none where it must wait. -/
def State.zoneAct (s : State) (fsn zsa lz : Nat) : Option (State × Option Status) :=
  match s.zone? lz with
  | none => some (s, none)
  | some z =>
    if zsa = 3 then
      if z.state = 4 then some (s, some .zoneTrans) else some (s.openZone lz true)
    else if zsa = 1 then
      if z.state = 0 ∨ z.state = 4 then some (s, some .zoneTrans)
      else if z.state = 3 then some (s, none)
      else some (s.zoneSet lz (if z.wp = 0 then 0 else 3) z.wp, none)
    else if zsa = 2 then
      if z.state = 4 then some (s, none) else (s.finishZone fsn lz).map fun t => (t, none)
    else if z.state = 0 then some (s, none)
    else some (s.resetZone lz, none)

/-- The zones that an action with Select All takes (R346). -/
def selectAll (zsa st : Nat) : Bool :=
  if zsa = 3 then st == 3
  else if zsa = 1 then st == 1 || st == 2
  else if zsa = 2 then st == 1 || st == 2 || st == 3
  else st == 1 || st == 2 || st == 3 || st == 4

/-- The zones of a Zone Management Send, ascending; it stops at the first that fails. None where one must wait. -/
def State.zoneActs (fsn zsa : Nat) : List Nat → State → Option (State × Option Status)
  | [], s => some (s, none)
  | lz :: t, s =>
    match s.zoneAct fsn zsa lz with
    | none => none
    | some (s1, some st) => some (s1, some st)
    | some (s1, none) => State.zoneActs fsn zsa t s1

/-- The commit of a Zone Management Send (R369, R346). -/
def State.commitZones (s : State) (c : Cmd) (l : Layout) : State :=
  let zsa := sqeZsa c.sqe
  let zones := if c.sqe.cdw13.getLsbD 8 then
      ((List.range l.nz).map (l.c + ·)).filter fun lz => match s.zone? lz with | some z => selectAll zsa z.state | none => false
    else [l.c + sqeSlba c.sqe / zsze]
  match State.zoneActs c.fsn zsa zones s with
  | none => s
  | some (s1, some st) => s1.finish c.fsn st 0 0
  | some (s1, none) => s1.finish c.fsn .ok 0 0

/-- R367: a writer commits once every earlier overlapping command has passed its ordering point. -/
def State.tryCommit (s : State) (fsn : Nat) (current : List (Nat × Option Bytes)) : State :=
  match s.cmd? fsn with
  | none => s
  | some c =>
    if c.phase ≠ .admitted ∨ c.passed ∨ !s.ordered c then s
    else
      match s.ns c.sqe.nsid.toNat, s.zmu.layout with
      | some z, some l =>
        if c.sqe.opc = 0x79 then s.commitZones c l
        else if c.sqe.opc = 0x09 then
          ((c.ranges.foldl (fun t r => t.zeroRange (r.1, r.2.1)) s).expose).finish fsn .ok 0 0
        else s.commitWriter c z l current
      | _, _ => s

/-- R367: the completion arbiter commits a writer. -/
def execWriterCommit (fsn : Nat) (current : List (Nat × Option Bytes)) (s : State) : Host.Outcome State Fault Refusal :=
  .next (s.tryCommit fsn current)

/-- A Zone Management Send's action has been decoded; it commits when its turn comes (R346, R369). -/
def State.zoneSend (s : State) (fsn zsa : Nat) : State :=
  match s.ioCmd fsn 0x79 with
  | none => s
  | some c =>
    if sqeZsa c.sqe ≠ zsa then s
    else (s.setCmd { c with phase := .admitted, passed := false }).tryCommit fsn []

/-- R346: Open. -/
def execZoneOpen (fsn : Nat) (s : State) : Host.Outcome State Fault Refusal := .next (s.zoneSend fsn 3)
/-- R346: Close. -/
def execZoneClose (fsn : Nat) (s : State) : Host.Outcome State Fault Refusal := .next (s.zoneSend fsn 1)
/-- R346: Finish. -/
def execZoneFinish (fsn : Nat) (s : State) : Host.Outcome State Fault Refusal := .next (s.zoneSend fsn 2)
/-- R346: Reset. -/
def execZoneReset (fsn : Nat) (s : State) : Host.Outcome State Fault Refusal := .next (s.zoneSend fsn 4)

/-- R361, R339: Write Zeroes: zero blocks on the zoned namespace, and for the partial blocks of the 512-byte format; the
whole blocks of the conventional namespace become ZERO extents at the commit. -/
def execWriteZeroes (fsn : Nat) (s : State) : Host.Outcome State Fault Refusal :=
  match s.ioCmd fsn 0x08 with
  | none => .next s
  | some c =>
    match s.ns c.sqe.nsid.toNat, s.zmu.layout with
    | some z, some l =>
      let b := l.pieces z c.sqe []
      let buf := if z then s.seal b else b.filter fun x => x.2.length != 4096
      if buf.isEmpty then .next ((s.setCmd { c with phase := .admitted }).tryCommit fsn [])
      else .next (s.handIn c buf)
    | _, _ => .next s

/-- R361, R364: Dataset Management: ranges with AD on the conventional namespace become ZERO extents over the whole blocks
they hold; anything else has no effect. -/
def execDatasetManagement (fsn : Nat) (ranges : List (Nat × Nat)) (xfer : Xfer) (s : State) :
    Host.Outcome State Fault Refusal :=
  match s.ioCmd fsn 0x09 with
  | none => .next s
  | some c =>
    match xferStatus xfer, s.ns c.sqe.nsid.toNat, s.zmu.layout with
    | some st, _, _ => .next (s.finish fsn st 0 0)
    | none, some z, some l =>
      let rs := ranges.take (c.sqe.cdw10.toNat % 256 + 1)
      if rs.any fun r => decide (r.2 + r.1 > l.nsze z) then .next (s.finish fsn .lbaRange 0 0)
      else if !c.sqe.cdw11.getLsbD 2 ∨ z then .next (s.finish fsn .ok 0 0)
      else
        let p := l.per z
        let blocks := rs.flatMap fun r =>
          let b := (r.2 + p - 1) / p
          let e := (r.2 + r.1) / p
          runsOf (l.dlbas z b (e - b))
        .next ((s.setCmd { c with phase := .admitted, passed := false, ranges := blocks.map fun r => (r.1, r.2, true) }).tryCommit
          fsn [])
    | none, _, _ => .next s

/-! ### Readers. -/

/-- The drive LBAs a command covers. -/
def State.coveredBy (s : State) (e : Sqe) : List Nat :=
  match s.ns e.nsid.toNat, s.zmu.layout with
  | some z, some l =>
    let (b, n) := l.cover z (sqeSlba e) (sqeNlb e)
    l.dlbas z b n
  | _, _ => []

/-- Runs queued for the media places of a reader, one per block in place order, those of one track joined (R378, R337). -/
def State.readRuns (s : State) (g : GeomCfg) (locs : List (Nat × Loc)) (urgent : Bool) : List MRun :=
  let places := locs.filterMap fun l => match l.2 with
    | .media pz i off =>
      match s.place? pz with
      | some p => ((p.membersAt i)[off / 256]?).bind fun m =>
          if m.state = 1 ∨ m.surface = 0xFF then none
          else some (l.1, m.surface, s.slotPlace g m.surface m.band (256 * i + off % 256))
      | none => none
    | _ => none
  let follows (a b : Nat × Nat × Nat × Nat) : Bool :=
    a.1 + 1 == b.1 && a.2.1 == b.2.1 && a.2.2.1 == b.2.2.1 && decide (a.2.2.2 < b.2.2.2)
  let starts := (List.range places.length).filter fun j =>
    j == 0 || !(follows (places.getD (j - 1) (0, 0, 0, 0)) (places.getD j (0, 0, 0, 0)))
  starts.mapIdx fun k j =>
    let e := starts.getD (k + 1) places.length
    let pl := places.getD j (0, 0, 0, 0)
    { id := s.cqu.nextRun + k, act := pl.2.1 / 12, kind := 2, head := pl.2.1, since := 0, urgent := urgent,
      run := { kind := 0, head := BitVec.ofNat 8 (pl.2.1 % 12), count := e - j, track := BitVec.ofNat 32 pl.2.2.1,
               firstSlot := BitVec.ofNat 16 pl.2.2.2, seedKind := 0,
               descValid := (s.descOf pl.2.1 pl.2.2.1).isSome, wide := false, dlba := BitVec.ofNat 40 pl.1,
               descAddr := BitVec.ofNat 32 (match s.descOf pl.2.1 pl.2.2.1 with | some d => d.addr | none => 0),
               tag := BitVec.ofNat 32 (s.cqu.nextRun + k) } }

/-- A reader's snapshot (R365, R366): its blocks' places are fixed, cached ones pinned, runs queued for the others; a
place on a lost member waits for its degraded read (R277). -/
def State.snapshot (s : State) (c : Cmd) : State :=
  let locs := (s.coveredBy c.sqe).map fun d => (d, s.locate d)
  let wait := if c.sqe.opc = 0x02 ∧ sqeFua c.sqe then
      locs.filterMap fun l => match s.cached l.1 with
        | some b => if b.dirty ∧ !b.prot then some (l.1, b.fsn) else none
        | none => none
    else []
  let s1 := (s.setCmd { c with phase := .snapped, passed := true, locs := locs, waitFor := wait }).pin c.fsn locs
  let s2 : State := if locs.any fun l => s1.degradedAt l.2 then
      { s1 with stripe := { s1.stripe with degraded := insertNat c.fsn s1.stripe.degraded } }
    else s1
  let urgent := match s.sq? c.sqid with | some q => q.prio == 0 && s.cqu.nvme.cc.toNat / 0x800 % 8 == 1 | none => false
  let s3 := match s.cfg with | some g => s2.queueRuns (s2.readRuns g.geom locs urgent) | none => s2
  if wait.isEmpty then s3 else s3.drain

/-- R365: a Read or Verify takes its snapshot once every earlier overlapping writer has passed its ordering point. -/
def execReaderSnapshot (fsn : Nat) (s : State) : Host.Outcome State Fault Refusal :=
  match s.cmd? fsn with
  | none => .next s
  | some c =>
    if c.isIo ∧ c.phase = .fetched ∧ (c.sqe.opc = 0x02 ∨ c.sqe.opc = 0x0C) ∧ s.ordered c then .next (s.snapshot c)
    else .next s

/-- The plaintext blocks of a reader with the media data given; none where a block cannot be delivered. -/
def State.readBlocks (s : State) (c : Cmd) (media : List (Option Bytes)) : List (Option Bytes) :=
  c.locs.mapIdx fun i l => s.blockAt c l ((media.getD i none))

/-- Blocks that came from media stay in the read cache. -/
def State.keepReads (s : State) (c : Cmd) (media : List (Option Bytes)) : State :=
  ((c.locs.mapIdx fun i l => (l, media.getD i none)).foldl (fun t x =>
    if x.1.2.onMedia ∧ t.locate x.1.1 = x.1.2 then
      match x.2 with
      | some b => t.keepRead x.1.1 b
      | none => t
    else t) s)

/-- A degraded place of the command that has not been served yet (R277). -/
def State.degradedLeft (s : State) (c : Cmd) : Bool := s.stripe.degraded.contains c.fsn

/-- What R387 answers to a reader whose blocks need media that cannot serve. -/
def State.readDown (s : State) (c : Cmd) : Option Status :=
  if c.locs.any fun l => l.2.onMedia then s.mediaDown else none

/-- The end of a reader (R367): at once, or with FUA when the named blocks are durable. -/
def State.readerDone (s : State) (c : Cmd) : State :=
  let left := c.waitFor.filter fun w => !s.durable w.1 w.2
  if left.isEmpty then s.finish c.fsn .ok 0 0
  else s.setCmd { c with status := some .ok, waitFor := left, buf := [] }

/-- R361, R365: Read: its blocks reach the host. -/
def execRead (fsn : Nat) (media : List (Option Bytes)) (xfer : Xfer) (s : State) : Host.Outcome State Fault Refusal :=
  match s.cmd? fsn with
  | none => .next s
  | some c =>
    if !c.isIo ∨ c.phase ≠ .snapped ∨ c.sqe.opc ≠ 0x02 ∨ c.status.isSome then .next s
    else
      match s.readDown c with
      | some st => .next (if st = .unrecovered then s.failRead fsn else s.finish fsn st 0 0)
      | none =>
        if s.degradedLeft c then .next s
        else
          let bs := s.readBlocks c media
          if bs.any Option.isNone then .next (s.failRead fsn)
          else
            match xferStatus xfer, s.ns c.sqe.nsid.toNat, s.zmu.layout with
            | some st, _, _ => .next (s.finish fsn st 0 0)
            | none, some z, some l =>
              let size := l.lbaSize z
              let all := bs.flatMap fun b => b.getD []
              let data := (all.drop (sqeSlba c.sqe % l.per z * size)).take (sqeNlb c.sqe * size)
              let s1 := ((s.toHost c data).countDec (c.locs.filter fun x => decide (x.2 ≠ .zero)).length).hostData false data.length
              .next ((s1.keepReads c media).readerDone c)
            | none, _, _ => .next s

/-- R361: Verify: every block is read, none transferred; dirty cached blocks count as verified. -/
def execVerify (fsn : Nat) (media : List (Option Bytes)) (s : State) : Host.Outcome State Fault Refusal :=
  match s.cmd? fsn with
  | none => .next s
  | some c =>
    if !c.isIo ∨ c.phase ≠ .snapped ∨ c.sqe.opc ≠ 0x0C then .next s
    else
      match s.readDown c with
      | some st => .next (if st = .unrecovered then s.failRead fsn else s.finish fsn st 0 0)
      | none =>
        if s.degradedLeft c then .next s
        else if (s.readBlocks c media).any Option.isNone then .next (s.failRead fsn)
        else .next ((s.keepReads c media).finish fsn .ok 0 0)

/-! ### Flush (R372). -/

/-- The command is a writer of one of the namespaces a Flush names. -/
def Cmd.flushedBy (c : Cmd) (f : Cmd) : Bool :=
  c.isIo && decide (c.fsn < f.fsn) && (isWriter c.sqe || c.sqe.opc == 0x79) &&
  (f.sqe.nsid == 0xFFFFFFFF || c.sqe.nsid == f.sqe.nsid)

/-- Dirty blocks of the unprotected part that earlier writers of a Flush's namespaces committed. -/
def State.flushWaits (s : State) (f : Cmd) : List (Nat × Nat) :=
  let slot := match s.zmu.layout with
    | some l => if f.sqe.nsid = 0xFFFFFFFF then none else some (if l.c > 0 ∧ f.sqe.nsid = 1 then 0 else 1)
    | none => none
  (s.buf.cache.filter fun b => b.current && b.dirty && !b.prot && decide (b.fsn < f.fsn) &&
    (match slot with | none => true | some k => s.keySlot b.dlba == k)).map fun b => (b.dlba, b.fsn)

/-- A Flush goes as far as it can: it waits for earlier writers to commit or fail, then for their blocks. -/
def State.flushStep (s : State) (f : Cmd) : State :=
  if s.cqu.store.any fun c => c.flushedBy f && !c.passed && c.phase != .committed then s
  else
    let w := s.flushWaits f
    if w.isEmpty then s.finish f.fsn .ok 0 0
    else (s.setCmd { f with phase := .admitted, passed := true, status := some .ok, waitFor := w }).drain

/-- R372: Flush. -/
def execFlush (fsn : Nat) (s : State) : Host.Outcome State Fault Refusal :=
  match s.ioCmd fsn 0x00 with
  | none => .next s
  | some c =>
    let c1 := { c with phase := .ready, passed := true }
    .next ((s.setCmd c1).flushStep c1)

/-- Every Flush that waits for earlier writers goes on (R372). -/
def State.flushes (s : State) : State :=
  s.cqu.store.foldl (fun t c =>
    if c.isIo ∧ c.sqe.opc = 0x00 ∧ c.phase = .ready then t.flushStep c else t) s

/-! ### The media scheduler (R378). -/

/-- The class of a queued run at a time in ms. -/
def MRun.cls (r : MRun) (now : Nat) : Nat :=
  if r.kind = 0 then 1
  else if r.kind = 1 then 2
  else if r.kind = 2 then (if now - r.since > 250 then 3 else 5)
  else if r.kind = 3 then (if now - r.since > 500 then 4 else 5)
  else 6

/-- Which of two runs of one class goes first: the older in classes 3 and 4, the one of least access time in class 5
(an urgent read counts 2 ms less), else the one queued first. -/
def MRun.before (access : List (Nat × Nat)) (cls : Nat) (a b : MRun) : Bool :=
  let cost (r : MRun) : Nat := assocGet 0 access r.id + (if r.urgent ∧ r.kind = 2 then 0 else 2000)
  if cls = 3 ∨ cls = 4 then decide (a.since ≤ b.since)
  else if cls = 5 then decide (cost a ≤ cost b)
  else true

/-- The first run of a list in the order of its class. -/
def MRun.pick (access : List (Nat × Nat)) (cls : Nat) : List MRun → Option MRun
  | [] => none
  | r :: t =>
    match MRun.pick access cls t with
    | none => some r
    | some x => if r.before access cls x then some r else some x

/-- A channel serves media in the power state and at the thermal level in force (R433, R444), and is in service (R243). -/
def State.channelOpen (s : State) (ch : Nat) : Bool :=
  let ps := s.get Reg.RCU.PWR.EFFECTIVE
  let th := s.get Reg.RCU.PWR.THERM_LEVEL
  s.get (Reg.RWC.STATUS.OUT ch) == 0 && decide (ps < 3) && decide (th < 3) &&
  ((ps == 0 && decide (th < 2)) || ch % 2 == 0) &&
  (ps != 2 || (s.fsqs.mapIdx fun i f => (i, f)).all fun x => x.1 == ch || (x.2.cur.isNone && x.2.fifo.isEmpty))

/-- BITRATE of the zone a run lies in (R78). -/
def State.runRate (s : State) (act : Nat) (r : RunCmd) : Nat :=
  match s.cfg with
  | none => 0
  | some c => match c.geom.zoneAt (12 * act + r.head.toNat) r.track.toNat with | some (_, z) => z.bitRate | none => 0

/-- The decoder limit in Mbit/s (R236): 4,000 for each engine in service, at most four of them from thermal level 1 on and three
at level 2 (R444); 10,400 in PS1 and 4,000 in PS2 (R433). -/
def State.decoderLimit (s : State) : Nat :=
  let engines := ((List.range 6).filter fun e => (s.get Reg.LDP.ENGINES.IN_SERVICE).testBit e).length
  let th := s.get Reg.RCU.PWR.THERM_LEVEL
  let l := 4000 * (if th ≥ 2 then min engines 3 else if th = 1 then min engines 4 else engines)
  let ps := s.get Reg.RCU.PWR.EFFECTIVE
  if ps = 1 then min l 10400 else if ps = 2 then min l 4000 else l

/-- R236: a run fits under the decoder limit beside the runs in progress, by the summed channel rates at the measured speed. -/
def State.rateFits (s : State) (act : Nat) (r : RunCmd) : Bool :=
  let busy := ((List.range 4).map fun n => match s.fsqs[n]? with
    | some f => (match f.cur with | some q => if q.kind = 5 then 0 else s.runRate (n / 2) q | none => 0)
    | none => 0).sum
  decide ((busy + s.runRate act r) * s.get Reg.SPC.SPEED.RPM ≤ s.decoderLimit * 7200)

/-- A write may start on a head now: AT_SPEED and no WRITE_HOLD (R137, R144), no assist limit or calibration in its way (R249,
R250), its front end not over temperature (R252). -/
def State.writeReady (s : State) (h : Nat) : Bool :=
  s.flag Reg.SPC.STATUS.AT_SPEED && !s.flag Reg.SPC.STATUS.WRITE_HOLD && (s.media.hot.getD (h / 12) none).isNone &&
  (match s.media.assist[h]? with | some a => !a.noWrite && !a.atOnce | none => true)

/-- A reread runs on its own channel (R240, R253). -/
def State.rereadHere (s : State) (ch : Nat) (r : MRun) : Bool :=
  match s.media.sectors.find? fun x => x.rr == some r.id with
  | some x => s.rereadChan x == ch
  | none => true

/-- R378, R236: a channel of an actuator is free and takes the first run of the first class that has one among those the
mechanics allow now (`access` names them with their access times) and the decoder limit lets start; an entry to PS3 or PS4 has
stopped the others' dispatch but segment writes' (R435). A run is timed from the
first dispatch that sees it (assumption 20). -/
def execMediaDispatch (ch : Fin 4) (access : List (Nat × Nat)) (now : Nat) (s : State) : Host.Outcome State Fault Refusal :=
  let stamped := s.cqu.runs.map fun r => if r.since = 0 then { r with since := now } else r
  let s0 : State := { s with cqu := { s.cqu with runs := stamped } }
  let room := match s.fsqs[ch.val]? with | some f => decide (f.fifo.length < 4) | none => false
  if !s.channelOpen ch.val ∨ !room then .next s0
  else
    let entering : Bool := match s.power.trans with | some t => t.enter | none => false
    let ok := stamped.filter fun r => r.act == ch.val / 2 && (!entering || r.kind == 3) && assocHas access r.id && (r.kind != 3 || s.writeReady r.head) &&
      s.rereadHere ch.val r && (r.kind == 5 || s.rateFits r.act r.run)
    match (List.range 6).findSome? fun k => MRun.pick access (k + 1) (ok.filter fun r => r.cls now == k + 1) with
    | none => .next s0
    | some r =>
      let s1 : State := { s0 with
        cqu := { s0.cqu with runs := stamped.filter fun x => x.id != r.id },
        fsqs := if r.kind = 5 then s0.fsqs else modifyAt s0.fsqs ch.val fun f => { f with fifo := f.fifo ++ [r.run] } }
      let s2 := if r.cls now = 3 then s1.bump Reg.MSC.AGED.READS 1 else if r.cls now = 4 then s1.bump Reg.MSC.AGED.WRITES 1 else s1
      let s3 := s2.pulse (30 + r.act)
      .next (if r.kind = 5 ∧ (s3.cqu.runs.all fun x => x.kind != 5) then s3.testResult 0 else s3)

end Sys2Proof.Machine
end

