-- ==== Sys2Proof/Machine/Bureau.lean ====
section
/-!
DEFINITION. Sanitize and Format NVM with their progress record (R458 to R468), and the commit of the certificate chain
(R449).
-/

namespace Sys2Proof.Machine

/-! ### The progress record (R467). -/

/-- Write the progress record to the Progress region of the Chest; where no device takes it, the operation stays where
it is and Critical Warning bit 2 sets (R463). -/
def State.progressTo (s : State) (p : Progress) : State :=
  if s.chest.writeOk.any id then { s with chest := { s.chest with progress := some { p with seq := p.seq + 1 } } }
  else s.warn 2 30

/-- SES of a Format's CDW10 (R464). -/
def fmtSes (cdw10 : Word) : Nat := cdw10.toNat / 0x200 % 8

/-- The key slots a layout needs: conventional, zoned, metadata (R405). -/
def Layout.slots (l : Layout) : List Nat := (if l.c > 0 then [0] else []) ++ (if l.nz > 0 then [1] else []) ++ [2]

/-- The key slots step 3 draws anew: all, but with SES 0 only those that have no key yet. -/
def State.drawn (s : State) (p : Progress) : List Nat :=
  if p.op = 3 ∧ fmtSes p.cdw10 = 0 then p.layout.slots.filter fun k => !(assocHas s.core.keys k) else p.layout.slots

/-- The step after a recorded one (R460, R461, R465): none at the end, and for an overwrite while its passes run. -/
def State.nextStep (s : State) (p : Progress) : Option Nat :=
  if p.step ≥ 7 then none
  else if p.op = 1 then
    (match p.step with
      | 1 => some 2
      | 2 => some 4
      | 4 => if p.passes ≥ owPasses p.cdw10 then some 3 else none
      | 3 => some 5
      | n => some (n + 1))
  else if p.op = 3 ∧ p.step = 2 ∧ (s.drawn p).isEmpty then some 4
  else some (p.step + 1)
where
  /-- Passes an Overwrite makes (R459): 0 is taken as 16. -/
  owPasses (cdw10 : Word) : Nat := if cdw10.toNat / 16 % 16 = 0 then 16 else cdw10.toNat / 16 % 16

/-! ### The steps of R460. -/

/-- Step 2: every cached, Sideboard and window line goes; the window reads zeros. -/
def State.discardAll (s : State) : State :=
  let inWindow (a : Nat) : Bool := decide (windowBase ≤ a ∧ a < windowBase + 0x10000000)
  { s with
    buf := { s.buf with
      cache := [], rcache := [], lines := [], dram := s.buf.dram.filter (fun c => !inWindow c.1),
      flips := s.buf.flips.filter fun f => !(f.mem == .dram && inWindow f.addr) },
    stripe := { s.stripe with slots := [], degraded := [] },
    cqu := { s.cqu with runs := [] } }

/-- Draw a key of a pair (R406): the next output of the DRBG. -/
def State.drawKey (s : State) : Bytes × State :=
  (padTo 32 (Config.drbg s.freeCount), { s with freeCount := s.freeCount + 1 })

/-- A pair K1, K2; one with equal halves is drawn again (R406); the model stops after four and keeps the fifth. -/
def State.drawPair : Nat → State → Bytes × State
  | 0, s =>
    let (a, s1) := s.drawKey
    let (b, s2) := s1.drawKey
    (a ++ b, s2)
  | n + 1, s =>
    let (a, s1) := s.drawKey
    let (b, s2) := s1.drawKey
    if a = b then State.drawPair n s2 else (a ++ b, s2)

/-- Step 3: new pairs, wrapped under KWK, in the progress record; kept pairs beside them. -/
def State.drawKeys (s : State) (p : Progress) : State × Progress :=
  (s.drawn p).foldl (fun (a : State × Progress) k =>
    let (pair, s1) := State.drawPair 4 a.1
    (s1, { a.2 with keys := assocPut a.2.keys k (keyWrap kwk pair) })) (s, { p with keys := s.core.keys })

/-- Step 4: every zone empty, no extent, no lost row, every move ended; for a Format the zones and placements are those
of the new layout (R460, R465). -/
def State.resetMap (s : State) (p : Progress) : State :=
  let s1 := (s.stripe.places.filter fun q => q.moving).foldl (fun t q => t.moveEnd q) s
  let places := match p.op, s.cfg with
    | 3, some c => (List.range p.layout.z).map fun z => freshPlace c.geom c.stripe s.stripe.retired z
    | _, _ => s1.stripe.places.map fun q => { q with lostRows := false, waiting := false }
  let s2 : State := { s1 with
    zmu := { Zmu.reset with layout := some p.layout, zones := p.layout.freshZones, coreZone := s1.zmu.coreZone,
                            coreGen := s1.zmu.coreGen, logZone := s1.zmu.logZone },
    stripe := { s1.stripe with places := places, lost := [], rebuild := [], relocs := [], reshape := [] },
    cqu := { s1.cqu with uncorrect := [] } }
  (s2.unwarn 3 1).redundancy

/-- Step 5: the Chest save area and the journal ring are erased; a Format also records the head stacks' serials (R273). -/
def State.eraseChest (s : State) (p : Progress) : State :=
  let hd := s.chest.header
  let hd1 := { hd with state := 0, lines := 0, skipped := 0 }
  let hd2 := if p.op = 3 then
      { hd1 with
        serialA := (match s.ident.hsaA with | some h => padTo 16 h.serial | none => hd.serialA),
        serialB := (match s.ident.hsaB with | some h => padTo 16 h.serial | none => hd.serialB) }
    else hd1
  { s with
    chest := { s.chest with saved := [], header := hd2, erased := [1024, 1024] },
    stripe := { s.stripe with journal := { s.stripe.journal with pending := [], chest := [] } } }

/-- Load wrapped key pairs into the host port (R406). -/
def State.loadKeys (s : State) (keys : List (Nat × Bytes)) : State :=
  let ks := keys.filterMap fun k => (keyUnwrap kwk k.2).map fun b => (⟨k.1, b.take 32, b.drop 32⟩ : KeyPair)
  let s1 : State := { s with hpt := { s.hpt with keys := ks } }
  let has (n : Nat) : Bool := ks.any fun k => k.slot == n
  (((s1.putB Reg.HPT.XTS.CONV_KEYS (has 0)).putB Reg.HPT.XTS.ZONED_KEYS (has 1)).putB Reg.HPT.XTS.META_KEYS (has 2)).putB
    Reg.HPT.LINK.KEYS_LOADED (!ks.isEmpty)

/-- Step 6: a checkpoint under the new keys, which are then loaded. -/
def State.checkpointKeys (s : State) (p : Progress) : State :=
  let keys := if p.keys.isEmpty then s.core.keys else p.keys
  (({ s with core := { s.core with keys := keys } } : State).checkpoint).loadKeys keys

/-- Step 7: the operation is done (R462, R463); a Format command completes, and a power state that waited is taken. -/
def State.opEnd (s : State) (p : Progress) : State :=
  let s1 : State := { s with bur := { s.bur with
    running := false, erased := s.bur.erased || p.op != 3 || fmtSes p.cdw10 != 0,
    sstat := if p.op = 3 then s.bur.sstat else 1, scdw10 := if p.op = 3 then s.bur.scdw10 else p.cdw10 } }
  let s2 := (s1.unwarn 2 30)
  let s3 := match s2.cqu.store.find? fun c => c.sqid == 0 && c.sqe.opc == 0x80 && c.phase == .admitted with
    | some c => if p.op = 3 then s2.finish c.fsn .ok 0 0 else s2
    | none => s2
  match s3.power.want with
  | some n => if s3.power.trans.isNone then s3.selectPs n else s3
  | none => s3

/-- One step of the operation that runs. -/
def State.opStep (s : State) : State :=
  match s.chest.progress with
  | none => s
  | some p =>
    if !s.bur.running then s
    else
      match s.nextStep p with
      | none => s
      | some n =>
        let (s1, p1) :=
          if n = 2 then (s.discardAll, p)
          else if n = 3 then s.drawKeys p
          else if n = 4 then (s.resetMap p, p)
          else if n = 5 then (s.eraseChest p, p)
          else if n = 6 then (s.checkpointKeys p, p)
          else (s, p)
        let s2 := s1.progressTo { p1 with step := n }
        if n = 7 ∧ (s2.chest.progress.map fun q => q.step) = some 7 then s2.opEnd p1 else s2

/-! ### Starting. -/

/-- Begin an operation: step 1 writes the record (R460, R467). -/
def State.opBegin (s : State) (op : Nat) (cdw10 pattern : Word) (l : Layout) : State :=
  let seq := match s.chest.progress with | some p => p.seq | none => 0
  let p : Progress := { op := op, step := 1, passes := 0, seq := seq, cdw10 := cdw10, pattern := pattern, zone := 0,
                        retired := s.stripe.retired.foldl (fun a h => a + 2 ^ h) 0, layout := l, boot := s.bootCounter,
                        keys := [] }
  let s1 : State := { s with bur := { s.bur with
    running := true, sstat := if op = 3 then s.bur.sstat else 2, passes := if op = 3 then s.bur.passes else 0,
    scdw10 := if op = 3 then s.bur.scdw10 else cdw10 } }
  s1.progressTo p

/-- The layout a Format computes from the option image now (R464, R331, R332). -/
def State.newLayout (s : State) (cdw10 : Word) : Option Layout :=
  match s.cfg with
  | some c => layoutOf (s.physZones c.geom) c.nvme c.stripe.width (cdw10.getLsbD 0)
  | none => none

/-- The first Sanitize or Format that waits starts once every I/O command has completed (R364, R459), the other operation
has ended (R466) and a power state exit is over (R469). A Sanitize command completes at its start. -/
def State.opStart (s : State) : State :=
  if s.bur.running ∨ s.ioCount ≠ 0 ∨ s.power.trans.isSome ∨ s.get Reg.RCU.PWR.EFFECTIVE ≥ 3 then s
  else
    match s.cqu.store.find? fun c => c.sqid == 0 && (c.sqe.opc == 0x80 || c.sqe.opc == 0x84) && c.phase == .ready with
    | none => s
    | some c =>
      if c.sqe.opc = 0x80 then
        match s.newLayout c.sqe.cdw10 with
        | none => s.finish c.fsn .badFormat 0 0
        | some l => (s.setCmd { c with phase := .admitted }).opBegin 3 c.sqe.cdw10 0 l
      else
        match s.zmu.layout with
        | none => s.finish c.fsn (.notReady true) 0 0
        | some l =>
          (s.opBegin (if c.sqe.cdw10.toNat % 8 = 3 then 1 else 2) c.sqe.cdw10 c.sqe.cdw11 l).finish c.fsn .ok 0 0

/-- A Sanitize with an action, past the checks of R459 and R463; an action no command has is refused by whichever runs. -/
def State.sanitize (s : State) (fsn act : Nat) : State :=
  match s.adm fsn 0x84 with
  | none => s
  | some c =>
    let a := c.sqe.cdw10.toNat % 8
    if a ≠ act ∧ [1, 3, 4].contains a then s
    else
      match (if a = 1 then none else s.opBusy) with
      | some st => s.finish fsn st 0 0
      | none =>
        if a ≠ act ∨ c.sqe.cdw10.getLsbD 9 then s.finish fsn .badField 0 0
        else if a = 1 then s.finish fsn .ok 0 0
        else ((s.exitPs).setCmd { c with phase := .ready }).opStart

/-- An operation of a kind runs. -/
def State.opRuns (s : State) (op : Nat) : Bool :=
  s.bur.running && match s.chest.progress with | some p => p.op == op | none => false

/-- R464, R465: Format NVM; while its operation runs, its next step. -/
def execFormatNvm (fsn : Nat) (s : State) : Host.Outcome State Fault Refusal :=
  match s.adm fsn 0x80 with
  | none => .next (if s.opRuns 3 then s.opStep else s)
  | some c =>
    let d := c.sqe.cdw10
    if c.sqe.nsid ≠ 0xFFFFFFFF ∧ (s.ns c.sqe.nsid.toNat).isNone then .next (s.finish fsn .badNs 0 0)
    else
      match s.opBusy with
      | some st => .next (s.finish fsn st 0 0)
      | none =>
        if fmtSes d > 2 then .next (s.finish fsn .badField 0 0)
        else if d.toNat % 512 > 1 ∨ d.toNat / 0x1000 % 4 ≠ 0 ∨ (s.newLayout d).isNone then .next (s.finish fsn .badFormat 0 0)
        else .next (((s.exitPs).setCmd { c with phase := .ready }).opStart)

/-- R459: Exit Failure Mode has no effect. -/
def execExitFailureMode (fsn : Nat) (s : State) : Host.Outcome State Fault Refusal := .next (s.sanitize fsn 1)

/-- R461: Overwrite; while it runs, its next step other than a zone of a pass. -/
def execOverwrite (fsn : Nat) (s : State) : Host.Outcome State Fault Refusal :=
  .next (if (s.adm fsn 0x84).isNone ∧ s.opRuns 1 then s.opStep else s.sanitize fsn 3)

/-- R461: a physical zone of a pass has been written; the record follows (R467). -/
def execOverwriteZone (s : State) : Host.Outcome State Fault Refusal :=
  match s.chest.progress with
  | none => .next s
  | some p =>
    if !s.opRuns 1 ∨ p.step ≠ 4 ∨ p.passes ≥ State.nextStep.owPasses p.cdw10 then .next s
    else
      let last := p.zone + 1 ≥ p.layout.z
      let p1 := if last then { p with zone := 0, passes := p.passes + 1 } else { p with zone := p.zone + 1 }
      let s1 := s.progressTo p1
      .next (if last ∧ (s1.chest.progress.map fun q => q.passes) = some p1.passes then
        { s1 with bur := { s1.bur with passes := p1.passes } } else s1)

/-- R460: Cryptographic Erase; while it runs, its next step. -/
def execCryptographicErase (fsn : Nat) (s : State) : Host.Outcome State Fault Refusal :=
  .next (if (s.adm fsn 0x84).isNone ∧ s.opRuns 2 then s.opStep else s.sanitize fsn 4)

/-- R468: an unfinished operation goes on by its next step, after P11. -/
def execSanitizeResume (s : State) : Host.Outcome State Fault Refusal := .next s.opStep

/-- R449: a write of BUR.CTRL.COMMIT, in manufacturing mode: the chain that passes every check is written to both
copies. -/
def execChainCommit (leafHasDk signaturesOk rootOk : Bool) (s : State) : Host.Outcome State Fault Refusal :=
  .next (s.inMfg fun s =>
    let n := s.get Reg.BUR.CTRL.CHAIN_LEN
    let b := (List.range n).map fun i => assocGet (0 : Byte) s.bur.chainBuf i
    (if leafHasDk ∧ signaturesOk ∧ rootOk then
      if s.chest.writeOk.any id then { s with chest := { s.chest with chain := b } } else s
    else s.put Reg.BUR.STATUS.CHAIN_ERR 1).put Reg.BUR.CTRL.COMMIT 0)

end Sys2Proof.Machine
end

