-- ==== Sys2Proof/Machine/Completion.lean ====
section
/-!
DEFINITION. Posting completions (R376, R412) and the durability of a stripe's COMMIT (R265, R370), with what both set
going: flushes, queue deletions, a waiting Sanitize or Format, a shutdown (R372, R360, R459, R373).
-/

namespace Sys2Proof.Machine

/-- What a completion or a durable stripe lets go on. -/
def State.settle (s : State) : State := s.wake.flushes.deleteStep.opStart.shutdownStep.ltr

/-- The command that an Abort ended has not left the store yet (R376). -/
def State.abortWaits (s : State) (c : Cmd) : Bool :=
  match c.aborts with | some f => (s.cmd? f).isSome | none => false

/-- R376, R412: a committed outcome is posted; not while CFS is set, after a power-fail report, or before the completion of
the command that an Abort ended. -/
def execCompletionPost (fsn : Nat) (s : State) : Host.Outcome State Fault Refusal :=
  match s.cmd? fsn with
  | none => .next s
  | some c =>
    match c.phase, c.status with
    | .committed, some st =>
      if s.cqu.nvme.cfs ∨ s.dma.paused ∨ s.abortWaits c then .next s else .next (s.post c st).settle
    | _, _ => .next s

/-- R265 step 4, R304, R370: COMMIT is durable: the slot is released, its blocks are clean, and waits end. -/
def execCommitDurable (slot : Nat) (s : State) : Host.Outcome State Fault Refusal :=
  match s.slot? slot with
  | none => .next s
  | some x =>
    if x.state = .committing ∧ s.entryDurable x then
      let c := s.buf.cache.map fun b => if b.slot = some slot then { b with slot := none, dirty := false } else b
      let s1 : State := { s with
        buf := { s.buf with cache := c.filter fun b => b.current || !b.pins.isEmpty || b.slot.isSome },
        stripe := { s.stripe with slots := s.stripe.slots.filter fun y => y.num != slot } }
      .next (s1.pulse 27).settle
    else .next s

end Sys2Proof.Machine
end

