-- ==== Sys2Proof/Machine/Identify.lean ====
section
/-!
DEFINITION. Identify (R360, R362): the controller and namespace structures, as NVM Express Base 2.0 and its zoned command
set lay them out, with the values of R362, R432, R336, R344.
-/

namespace Sys2Proof.Machine

/-- A structure of `n` bytes with fields at offsets. -/
def fieldsAt (n : Nat) (fs : List (Nat × Bytes)) : Bytes :=
  fs.foldl (fun b f => b.take f.1 ++ f.2 ++ b.drop (f.1 + f.2.length)) (zeros n)

/-- Two upper-case hexadecimal digits. -/
def hexByte (n : Nat) : Bytes :=
  let h (x : Nat) : Byte := BitVec.ofNat 8 (if x < 10 then 0x30 + x else 0x37 + x)
  [h (n / 16 % 16), h (n % 16)]

/-- FR (R82): the option image's, or HT with the firmware version's digits. -/
def State.fr (s : State) : Bytes :=
  match s.cfg.bind fun c => c.nvme.fr with
  | some f => f
  | none =>
    let v := s.get Reg.OPL.FW_VERSION.VERSION
    asciiBytes ['H', 'T'] ++ hexByte (v / 2 ^ 24) ++ hexByte (v / 2 ^ 16 % 256) ++ hexByte (v % 256)

/-- A power state descriptor (R432): MP, MPS, NOPS, ENLAT, EXLAT, the four relative levels. -/
def psDesc (mp mps nops en ex r : Nat) : Bytes :=
  toLe 2 mp ++ [0] ++ toLe 1 (mps + 2 * nops) ++ toLe 4 en ++ toLe 4 ex ++ List.replicate 4 (BitVec.ofNat 8 r) ++ zeros 16

/-- The power state descriptors of R432. -/
def psDescs : Bytes :=
  psDesc 780 0 0 0 0 0 ++ psDesc 500 0 0 10000 1000 1 ++ psDesc 160 0 0 10000 1000 2 ++
  psDesc 90 0 1 1000000 1200000 3 ++ psDesc 950 1 1 15000000 22000000 4

/-- The Identify Controller structure (R362). -/
def State.idController (s : State) : Bytes :=
  let n := s.cfg.map fun c => c.nvme
  let sn := match s.ident.base with | some b => b.driveSn | none => zeros 20
  fieldsAt 4096 [
    (0, toLe 2 0x1F2C), (2, toLe 2 (match n with | some n => n.ssvid | none => 0x1F2C)), (4, padTo 20 sn),
    (24, padTo 40 (match n with | some n => n.mn | none => [])), (64, padTo 8 s.fr),
    (73, padTo 3 (match n with | some n => n.oui | none => [])), (77, [10]), (80, toLe 4 0x20000),
    (88, toLe 4 10000000), (92, toLe 4 0), (256, toLe 2 0x16), (258, [3]), (259, [7]), (260, [4]), (261, [6]),
    (262, [63]), (263, [4]), (265, [1]), (316, toLe 2 1440), (328, toLe 4 0x60000005), (512, [0x66]), (513, [0x44]),
    (516, toLe 4 (if s.start.recovery then 0 else 2)), (520, toLe 2 0x8C), (524, [7]),
    (525, [if s.vwc then 7 else 6]), (2048, psDescs)]

/-- The Identify Namespace structure (R336, R362). -/
def State.idNamespace (s : State) (l : Layout) (z : Bool) : Bytes :=
  let cap := if z then l.nz * zcap l.d else l.nsze false
  let nawun := if l.per z = 8 then 8191 else 1023
  fieldsAt 4096 [
    (0, toLe 8 (l.nsze z)), (8, toLe 8 cap), (16, toLe 8 cap), (24, [2]), (25, [if z then 0 else 1]),
    (26, [if l.per z = 8 then 1 else 0]), (33, [9]), (34, toLe 2 nawun), (36, toLe 2 (if s.vwc then 0 else nawun)),
    (128, toLe 4 0x000C0000), (132, if z then zeros 4 else toLe 4 0x00090000)]

/-- The zoned namespace structure of CSI 2 (R344, R334). -/
def zonedNamespace : Bytes :=
  fieldsAt 4096 [(2, toLe 2 1), (4, toLe 4 1023), (8, toLe 4 255), (2816, toLe 8 zsze), (2824, [0])]

/-- The NSIDs that exist, ascending (R336, R398). -/
def State.nsids (s : State) : List Nat := [1, 2].filter fun n => (s.ns n).isSome

/-- The 4,096 bytes an Identify returns, or the status of its failure (R360, R362, R388). -/
def State.identifyData (s : State) (e : Sqe) : Bytes ⊕ Status :=
  let cns := e.cdw10.toNat % 256
  let csi := e.cdw11.toNat / 2 ^ 24
  let nsid := e.nsid.toNat
  if cns = 0x00 ∨ cns = 0x03 ∨ (cns = 0x05 ∧ csi = 2) then
    match s.ns nsid, s.zmu.layout with
    | some z, some l =>
      if cns = 0x00 then .inl (s.idNamespace l z)
      else if cns = 0x03 then .inl (padTo 4096 [4, 1, 0, 0, if z then 2 else 0])
      else if z then .inl zonedNamespace else .inr .badField
    | _, _ => .inr .badNs
  else if cns = 0x01 then .inl s.idController
  else if cns = 0x02 then
    if nsid ≥ 0xFFFFFFFE then .inr .badNs else .inl (padTo 4096 ((s.nsids.filter (· > nsid)).flatMap fun n => toLe 4 n))
  else if cns = 0x06 ∧ csi = 2 then .inl (padTo 4096 [8])
  else .inr .badField

/-- R362: Identify. -/
def execIdentify (fsn : Nat) (s : State) : Host.Outcome State Fault Refusal :=
  match s.adm fsn 0x06 with
  | none => .next s
  | some c =>
    match s.identifyData c.sqe with
    | .inr st => .next (s.finish fsn st 0 0)
    | .inl b => if s.badPrp c.sqe then .next (s.finish fsn .badField 0 0) else .next ((s.toHost c b).finish fsn .ok 0 0)

end Sys2Proof.Machine
end

