-- ==== Sys2Proof/Machine/Logs.lean ====
section
/-!
DEFINITION. The log pages (R381 to R385, R426, R457, R462, R477 to R481) and Get Log Page (R382).
-/

namespace Sys2Proof.Machine

/-! ### The build's units. -/

/-- The populated heads, ascending (R475). -/
def State.heads (s : State) : List Nat := match s.cfg with | some c => c.geom.allSurfaces | none => []

/-- The instances of a counter (R475). -/
def State.counterInst (s : State) (id : Nat) : List Nat :=
  if id ≥ 0x100 then s.heads
  else if id = 0x0C then [1, 2, 3]
  else if id = 0x13 then [1, 2, 3, 4, 5, 6, 7]
  else if id = 0x14 then [0, 1, 2, 3, 4]
  else if id = 0x15 then [1, 2, 3]
  else if id = 0x1A then [0, 1, 2, 3, 4, 5]
  else if id = 0x1B ∨ id = 0x1C then [0, 1, 2, 3]
  else if id = 0x1D then [0, 1, 2]
  else if (0x16 ≤ id ∧ id ≤ 0x19) ∨ (0x20 ≤ id ∧ id ≤ 0x25) then [0, 1]
  else [0]

/-- The counter IDs (R475). -/
def counterIds : List Nat :=
  [0x01, 0x02, 0x03, 0x04, 0x05, 0x06, 0x07, 0x08, 0x09, 0x0A, 0x0B, 0x0C, 0x0D, 0x0E, 0x10, 0x11, 0x12, 0x13, 0x14, 0x15,
   0x16, 0x17, 0x18, 0x19, 0x1A, 0x1B, 0x1C, 0x1D, 0x20, 0x21, 0x22, 0x23, 0x24, 0x25, 0x100, 0x101, 0x102, 0x103, 0x104,
   0x105, 0x106, 0x107, 0x108, 0x109, 0x10A, 0x10B, 0x10C, 0x10D]

/-- Every counter: ID and instance, in page order. -/
def State.counters (s : State) : List (Nat × Nat) :=
  counterIds.flatMap fun id => (s.counterInst id).map fun i => (id, i)

/-- A counter's value and flag. -/
def State.cntVal (s : State) (k : Nat × Nat) : CrdVal := assocGet (0, false) s.crd.cnt k

/-- The histograms (R476): HID, bins. -/
def histIds : List (Nat × Nat) := [(1, 97), (2, 10), (3, 6), (4, 17), (5, 16), (6, 20), (7, 12)]

/-- The instances of a histogram. -/
def State.histInst (s : State) (hid : Nat) : List Nat :=
  if hid ≤ 2 then s.heads else if hid = 3 then [0, 1, 2, 3] else if hid = 5 then [0, 1] else [0]

/-- Every histogram: HID, instance, bins. -/
def State.hists (s : State) : List (Nat × Nat × Nat) :=
  histIds.flatMap fun h => (s.histInst h.1).map fun i => (h.1, i, h.2)

/-- A bin's value and flag. -/
def State.binVal (s : State) (k : Nat × Nat × Nat) : CrdVal := assocGet (0, false) s.crd.bins k

/-- Saturated counters and saturated bins (R472). -/
def State.saturatedCounts (s : State) : Nat × Nat :=
  ((s.crd.cnt.filter fun c => c.2.2).length, (s.crd.bins.filter fun c => c.2.2).length)

/-! ### Pages. -/

/-- Percentage of a head's assist margin that is used (R480). -/
def State.pctUsed (s : State) (h : Nat) : Nat :=
  let w : Int := s.get (Reg.EAC.HEAD.WRITE_CUR h)
  let m : Int := s.crd.icalMfg.getD h 0
  let mx : Int := match s.cfg with
    | some c => (match c.assist.limits.find? fun l => l.1 == h with | some l => (l.2.2 : Int) | none => 0)
    | none => 0
  if mx - m ≤ 0 then 0 else (clampI 0 255 ((100 * (w - m)) / (mx - m))).toNat

/-- Percentage Used (R383). -/
def State.percentUsed (s : State) : Nat :=
  let live := s.heads.filter fun h => !s.stripe.retired.contains h
  let sp := match s.cfg with | some c => c.stripe.spare | none => 0
  let r := if sp = 0 then 0 else 100 * s.stripe.retired.length / sp
  min 255 ((live.map s.pctUsed).foldl max r)

/-- Page 0x01 (R382). -/
def State.errorPage (s : State) : Bytes :=
  padTo 4096 (s.cqu.errors.flatMap fun e =>
    padTo 64 (toLe 8 e.count ++ toLe 2 e.sqid ++ toLe 2 e.cid ++ toLe 2 (2 * e.status) ++ toLe 2 e.loc ++ toLe 8 e.lba ++ toLe 4 e.nsid))

/-- Page 0x02 (R383). -/
def State.smartPage (s : State) : Bytes :=
  let (av, th) := s.spareLog
  fieldsAt 512 [
    (0, toLe 1 s.cqu.warning), (1, toLe 2 s.kelvin), (3, toLe 1 av), (4, toLe 1 th), (5, toLe 1 s.percentUsed),
    (32, toLe 16 (s.counter 7 0)), (48, toLe 16 (s.counter 8 0)), (64, toLe 16 s.cqu.hostRd), (80, toLe 16 s.cqu.hostWr),
    (112, toLe 16 (s.counter 2 0)), (128, toLe 16 s.hours), (144, toLe 16 (s.counter 4 0)), (160, toLe 16 (s.counter 9 0)),
    (176, toLe 16 s.cqu.errCount)]
/-- Page 0x03 (R381). -/
def State.slotPage (s : State) : Bytes :=
  let v := s.get Reg.OPL.OPT_SEQ.SEQ
  fieldsAt 512 [(0, [2]), (8, (List.range 4).flatMap fun i => hexByte (v / 2 ^ (24 - 8 * i) % 256)), (16, padTo 8 s.fr)]

/-- A command's entry of page 0x05: supported, and whether it changes logical block content. -/
def effects (supported writes : List Nat) : Bytes :=
  (List.range 256).flatMap fun i =>
    toLe 4 (if supported.contains i then (if writes.contains i then 3 else 1) else 0)

/-- Page 0x05 for a command set (R360, R361, R423): the zone commands belong to the zoned one. -/
def State.effectsPage (s : State) (csi : Nat) : Bytes :=
  let io := ioOpcodes.filter fun o => csi == 2 || !([0x79, 0x7A, 0x7D].contains o)
  effects (if s.start.recovery then recoveryOpcodes else adminOpcodes) [0x80, 0x84] ++
  effects (if s.start.recovery then [] else io) [0x01, 0x08, 0x09, 0x79, 0x7D, 0x88] ++ zeros 2048

/-- Page 0x06 (R360): the running test with its progress, and the newest results. -/
def State.testPage (s : State) (progress : Nat) : Bytes :=
  let res := s.cqu.results.flatMap fun r => padTo 28 (toLe 1 (r.result + 16 * r.code) ++ [0, 0, 0] ++ toLe 8 r.hours)
  let none_ := (List.range (20 - s.cqu.results.length)).flatMap fun _ => padTo 28 [0x0F]
  toLe 1 s.cqu.test ++ toLe 1 (if s.cqu.test = 0 then 0 else progress) ++ [0, 0] ++ res ++ none_

/-- Physical zones Z of the recorded layout. -/
def State.zCount (s : State) : Nat := match s.zmu.layout with | some l => l.z | none => 0

/-- Passes an Overwrite makes (R459): 0 is taken as 16. -/
def owPass (cdw10 : Word) : Nat := if cdw10.toNat / 16 % 16 = 0 then 16 else cdw10.toNat / 16 % 16

/-- SPROG (R462). -/
def State.sprog (s : State) : Nat :=
  if !s.sanitizing then 65535
  else match s.chest.progress with
    | none => 65535
    | some p =>
      if p.op = 1 then 65536 * (p.passes * s.zCount + p.zone) / (owPass p.cdw10 * max 1 s.zCount)
      else 65536 * p.step / 7

/-- The seconds ETO gives per pass (R461). -/
def State.etoPass (s : State) : Nat := s.zCount * s.heads.length * 24576 * 4096 / 1300000000

/-- Page 0x81 (R462). -/
def State.sanitizePage (s : State) : Bytes :=
  fieldsAt 512 [
    (0, toLe 2 s.sprog), (2, toLe 2 (s.bur.sstat + 8 * s.bur.passes + (if s.bur.erased then 256 else 0))),
    (4, toLe 4 s.bur.scdw10.toNat),
    (8, toLe 4 (owPass (match s.chest.progress with | some p => p.cdw10 | none => s.bur.scdw10) * s.etoPass)),
    (12, toLe 4 0xFFFFFFFF), (16, toLe 4 10), (20, toLe 4 0xFFFFFFFF), (24, toLe 4 0xFFFFFFFF), (28, toLe 4 0xFFFFFFFF)]

/-- Page 0xC1 (R477). -/
def State.counterPage (s : State) : Bytes :=
  let l := s.counters
  padTo 64 (asciiBytes ['H', 'L', 'C', 'T'] ++ toLe 2 1 ++ toLe 2 0 ++ toLe 4 l.length ++ toLe 4 s.saturatedCounts.1 ++
    toLe 8 s.crd.gen ++ toLe 1 (s.get Reg.CRD.STATUS.LOST)) ++
  l.flatMap fun k =>
    let v := s.cntVal k
    toLe 2 k.1 ++ toLe 2 k.2 ++ toLe 4 (if v.2 then 1 else 0) ++ toLe 8 v.1

/-- A histogram record (R478). -/
def State.histRecord (s : State) (h : Nat × Nat × Nat) : Bytes :=
  let vs := (List.range h.2.2).map fun b => s.binVal (h.1, h.2.1, b)
  let words := (List.range (ceilDiv h.2.2 32)).flatMap fun w =>
    toLe 4 ((List.range 32).foldl (fun a k => if (vs.getD (32 * w + k) (0, false)).2 then a + 2 ^ k else a) 0)
  let len := 16 + 4 * h.2.2 + 4 * ceilDiv h.2.2 32
  padTo (16 * ceilDiv len 16) (toLe 2 h.1 ++ toLe 2 h.2.1 ++ toLe 2 h.2.2 ++ toLe 1 (if vs.any (·.2) then 1 else 0) ++ [0] ++
    toLe 4 (16 * ceilDiv len 16) ++ zeros 4 ++ (vs.flatMap fun v => toLe 4 v.1) ++ words)

/-- Page 0xC2 (R478). -/
def State.histPage (s : State) : Bytes :=
  let l := s.hists
  padTo 64 (asciiBytes ['H', 'H', 'S', 'T'] ++ toLe 2 1 ++ toLe 2 0 ++ toLe 4 l.length ++ toLe 4 s.saturatedCounts.2 ++
    toLe 8 s.crd.gen ++ toLe 1 (s.get Reg.CRD.STATUS.LOST)) ++
  l.flatMap s.histRecord

/-- Merge ascending lists of LBAs into ranges with their namespace (R385). -/
def lostRanges (s : State) : List (Nat × Nat × Nat) :=
  match s.zmu.layout with
  | none => []
  | some l =>
    let ds := (s.stripe.lost.flatMap fun r => r.blocks) ++
      (s.cqu.uncorrect.flatMap fun r => (List.range r.2).map fun i => r.1 + i)
    let sorted := ds.foldl (fun a d => insertNat d a) []
    let lba (d : Nat) : Nat × Nat :=
      if d / zsze < l.c then (l.nsid false, (d / zsze * zcap l.d + d % zsze) * l.per false) else (l.nsid true, d - l.c * zsze)
    sorted.foldr (fun d acc =>
      let (n, a) := lba d
      let per := if d / zsze < l.c then l.per false else 1
      match acc with
      | (n', c, a') :: t => if n' = n ∧ a + per = a' then (n, c + per, a) :: t else (n, per, a) :: acc
      | [] => [(n, per, a)]) []

/-- Zones with a move queued or running. -/
def State.movesLeft (s : State) : Nat :=
  let running := (s.stripe.places.filter fun p => p.moving).map fun p => p.zone
  ((running ++ s.stripe.rebuild ++ s.stripe.reshape ++ s.stripe.relocs.map Prod.fst).eraseDups).length

/-- Page 0xC4 (R385). -/
def State.lostPage (s : State) : Bytes :=
  let l := lostRanges s
  padTo 64 (toLe 4 (s.stripe.retired.foldl (fun a h => a + 2 ^ h) 0) ++ toLe 2 s.spareMinZones ++ toLe 2 0 ++ toLe 4 s.movesLeft ++
    toLe 4 l.length) ++
  l.flatMap fun r => toLe 4 r.1 ++ toLe 4 r.2.1 ++ toLe 8 r.2.2

/-- Page 0xC5 (R479): a memory read in full, else the start-use part with zeros after it. -/
def State.identPage (s : State) : Bytes :=
  let i := s.ident
  let fl := (if i.fullBase.isSome then 1 else 0) + (if i.fullA.isSome then 2 else 0) + (if i.fullB.isSome then 4 else 0)
  padTo 64 (asciiBytes ['H', 'I', 'D', 'R'] ++ toLe 1 fl) ++ padTo 32 i.motion ++ padTo 32 i.feA ++ padTo 32 i.feB ++
  padTo 4096 (i.fullBase.getD (match i.base with | some b => b.start | none => [])) ++
  padTo 8192 (i.fullA.getD (match i.hsaA with | some b => b.start | none => [])) ++
  padTo 8192 (i.fullB.getD (match i.hsaB with | some b => b.start | none => []))

/-- A head's record of the head stacks. -/
def State.headRec (s : State) (h : Nat) : Option HeadRec :=
  match (if h < 12 then s.ident.hsaA else s.ident.hsaB) with
  | some a => a.heads.find? fun r => r.index == h % 12
  | none => none

/-- Ĝ_h in tracks per unit of full-scale drive (R167). -/
def State.gain (s : State) (h : Nat) : Rat := ((s.tables.gains.getD h 0 : Int) : Rat) / (2 ^ 28 : Nat)

/-- A head served alone (R167, R183): its gain lies outside 50 % to 150 % of the recorded one, its skew exceeds 2 µs, or its map
waits for the background pass. -/
def State.alone (s : State) (h : Nat) : Bool :=
  let g := s.tables.gains.getD h 0
  let r := match s.headRec h with | some x => x.maGain | none => 0
  decide (2 * g < r) || decide (2 * g > 3 * r) || decide (g ≤ 0) || decide ((s.tables.skews.getD h 0).natAbs > 2000) ||
    s.tables.bandsLeft.contains h

/-- STATE of an entry of page 0xC7 (R480). -/
def State.headState (s : State) (h : Nat) : Nat :=
  if !s.heads.contains h then 0
  else if (match s.headRec h with | some r => r.retired | none => false) then 4
  else if s.stripe.retired.contains h then 3
  else if s.alone h then 2
  else 1

/-- An entry of page 0xC7 (R480). -/
def State.healthEntry (s : State) (h : Nat) : Bytes :=
  let hs := if h < 12 then s.ident.hsaA else s.ident.hsaB
  let win := match s.cfg with | some c => c.thresh.headFailWindow | none => 0
  let mx := match s.cfg with
    | some c => (match c.assist.limits.find? fun l => l.1 == h with | some l => l.2.2 | none => 0)
    | none => 0
  let at8 := (s.media.step8.filter fun x => x.1 == h && decide (s.hours ≤ x.2 + win)).length
  let sat32 (n : Nat) : Nat := min n 0xFFFFFFFF
  let gain : Int := (s.tables.gains.getD h 0) / 2 ^ 20
  padTo 64 (toLe 1 h ++ toLe 1 (s.headState h) ++ toLe 1 (match hs with | some x => if x.torque then 1 else 0 | none => 0) ++
    toLe 1 (s.get (Reg.EAC.HEAD.AT_LIMIT h) + 2 * s.get (Reg.EAC.HEAD.RECAL_DUE h)) ++
    toLe 2 (s.get (Reg.EAC.HEAD.WRITE_CUR h)) ++ toLe 2 (s.crd.icalMfg.getD h 0) ++ toLe 2 mx ++ toLe 1 (s.pctUsed h) ++ zeros 1 ++
    toLe 2 at8 ++ toLe 2 (match s.cfg with | some c => c.thresh.headFailSectors | none => 0) ++
    toLe 4 (sat32 (assocGet 0 s.crd.late h)) ++ toLe 4 (sat32 (s.counter 0x103 h)) ++ toLe 4 (sat32 (s.counter 0x108 h)) ++
    toLe 4 (assocGet 0 s.crd.retiredAt h) ++ toLe 4 (assocGet 0 s.crd.calAt h) ++
    toLe 2 (unsigned 16 gain) ++ toLe 2 (unsigned 16 (s.tables.skews.getD h 0)))

/-- Page 0xC7 (R480). -/
def State.healthPage (s : State) : Bytes :=
  padTo 64 (asciiBytes ['H', 'H', 'L', 'T'] ++ toLe 4 24) ++ (List.range 24).flatMap s.healthEntry

/-- The page of an identifier; none where the controller has no such page (R382). -/
def State.logPage (s : State) (lid csi progress : Nat) : Option Bytes :=
  match lid with
  | 0x01 => some s.errorPage
  | 0x02 => some s.smartPage
  | 0x03 => some s.slotPage
  | 0x05 => some (s.effectsPage csi)
  | 0x06 => some (s.testPage progress)
  | 0x81 => some s.sanitizePage
  | 0xC0 => some s.bootPage
  | 0xC1 => some s.counterPage
  | 0xC2 => some s.histPage
  | 0xC3 => some (padTo 512 (if s.cqu.startLog.isEmpty then s.startPage else s.cqu.startLog))
  | 0xC4 => some s.lostPage
  | 0xC5 => some s.identPage
  | 0xC6 => some (padTo 8192 s.cqu.scans.flatten)
  | 0xC7 => some s.healthPage
  | _ => none

/-- Pages taken at their first piece and fixed for the later ones (R385, R457, R481). -/
def fixedPages : List Nat := [0xC0, 0xC1, 0xC2, 0xC4, 0xC5, 0xC7]

/-- The log page of an event (R386): type × 256 + information. -/
def eventPage (key : Nat) : Nat :=
  if key / 256 = 1 then 0x02
  else if key % 256 < 2 then 0xC1
  else if key % 256 = 5 then 0xC7
  else 0xC4

/-- A page read with RAE cleared lets its event types be reported again (R386). -/
def State.clearEvents (s : State) (lid : Nat) : State :=
  State.deliver { s with cqu := { s.cqu with masked := s.cqu.masked.filter fun k => eventPage k != lid } }

/-- R382: Get Log Page, with LPOL, LPOU and RAE. -/
def execGetLogPage (fsn : Nat) (s : State) : Host.Outcome State Fault Refusal :=
  match s.adm fsn 0x02 with
  | none => .next s
  | some c =>
    let lid := c.sqe.cdw10.toNat % 256
    let rae := c.sqe.cdw10.getLsbD 15
    let len := (c.sqe.cdw10.toNat / 0x10000 + c.sqe.cdw11.toNat % 0x10000 * 0x10000 + 1) * 4
    let off := c.sqe.cdw12.toNat + c.sqe.cdw13.toNat * 2 ^ 32
    let csi := c.sqe.cdw14.toNat / 2 ^ 24
    if s.badPrp c.sqe ∨ (lid = 0x05 ∧ csi ≠ 0 ∧ csi ≠ 2) then .next (s.finish fsn .badField 0 0)
    else
      let (f, s0) := if lid = 0x06 ∧ s.cqu.test ≠ 0 then s.free else (0, s)
      match s0.logPage lid csi (f % 101) with
      | none => .next (s.finish fsn .badLog 0 0)
      | some fresh =>
        let held := s0.cqu.pages.find? fun p => p.1 == lid
        let page := match held with
          | some p => if off = 0 ∨ !fixedPages.contains lid then fresh else p.2
          | none => fresh
        let s1 := (s0.toHost c (padTo len (page.drop off)))
        let s2 : State := { s1 with cqu := { s1.cqu with
          pages := if fixedPages.contains lid ∧ rae then assocPut s1.cqu.pages lid page else assocDel s1.cqu.pages lid } }
        .next ((if rae then s2 else s2.clearEvents lid).finish fsn .ok 0 0)

end Sys2Proof.Machine
end

