-- ==== Sys2Proof/Machine/OptionImage.lean ====
section
/-!
DEFINITION. The option image: its header, section table, records, cross-checks and defaults (spec/03_option_image.md
R69 to R83), the check of a copy in the order of R74, and the manufacturing exception of R483.
-/

namespace Sys2Proof.Machine

/-! ### The default commutation table (R80): round(32,767 × sin(2π i ÷ 1,024)). -/

/-- π times 2^100, rounded down. -/
def piFix : Nat := 3982441812995697363688351113952

/-- The Taylor sum of sin x with x, the term and the sum scaled by 2^100; `k` terms more, the next of degree `d` + 2. -/
def sinTerms : Nat → Nat → Int → Int → Int
  | 0, _, _, _ => 0
  | k + 1, d, x2, t =>
    let t' := -(t * x2 / (2 ^ 100)) / ((d + 1) * (d + 2) : Nat)
    t + sinTerms k (d + 2) x2 t'

/-- sin(2π i ÷ 1,024) scaled by 2^100 for i up to 256. -/
def sinQuarter (i : Nat) : Int :=
  let x : Int := (piFix * i / 512 : Nat)
  sinTerms 20 1 (x * x / 2 ^ 100) x

/-- Entry i of the default commutation table (R80). -/
def commDefault (i : Nat) : Int :=
  let j := i % 512
  let q := if j ≤ 256 then j else 512 - j
  let v := roundDiv (32767 * sinQuarter q) (2 ^ 100)
  if i % 1024 < 512 then v else -v

/-- Holtale's PCI vendor identifier (R391). -/
def holtaleVendor : Nat := 0x1F2C

/-! ### Records (R71, R72). -/

/-- A record of a section: section, tag, offset of its TAG in the image, value bytes. -/
structure OptRec where
  sec : Nat
  tag : Nat
  off : Nat
  val : Bytes
  deriving DecidableEq, Repr

/-- A section table entry (R70). -/
structure OptSec where
  id    : Nat
  off   : Nat
  len   : Nat
  deriving DecidableEq, Repr

/-- The records of a section body and the offsets of records that run past it or whose padding is not zero. The first
argument bounds the number of records; `off` is the body's offset in the image. -/
def optRecords : Nat → Nat → Nat → Bytes → List OptRec × List Nat
  | 0, _, _, _ => ([], [])
  | n + 1, sec, off, b =>
    if b.isEmpty then ([], [])
    else
      let len := leAt b 2 2
      let padded := 4 * ceilDiv len 4
      if b.length < 4 + padded then ([], [off])
      else
        let (rs, bad) := optRecords n sec (off + 4 + padded) (b.drop (4 + padded))
        let pad := slice b (4 + len) (padded - len)
        (⟨sec, leAt b 0 2, off, slice b 4 len⟩ :: rs, if pad.all (· == 0) then bad else off :: bad)

/-- The zones of a ZONE_TABLE value. -/
def zoneTable (v : Bytes) : List RadialZone :=
  (List.range (byteAt v 1)).map fun i =>
    let o := 4 + 12 * i
    ⟨leAt v o 4, leAt v (o + 4) 4, leAt v (o + 8) 2, leAt v (o + 10) 2⟩

/-- Zones start at track `t` and follow each other without a gap (R78). -/
def zonesContiguous : Nat → List RadialZone → Bool
  | _, [] => true
  | t, z :: zs => z.start == t && zonesContiguous (t + z.tracks) zs

/-- The points of a CURVE value (R80). -/
def curvePoints (v : Bytes) : List (Nat × Nat) :=
  (List.range 16).map fun i => (byteAt v (4 * i), leAt v (4 * i + 2) 2)

/-- DEMAND strictly rises and RPM never falls from point to point. -/
def curveRising : List (Nat × Nat) → Bool
  | a :: b :: t => decide (a.1 < b.1) && decide (a.2 ≤ b.2) && curveRising (b :: t)
  | _ => true

/-- The rules of CURVE (R80). -/
def curveOk (v : Bytes) : Bool :=
  let ps := curvePoints v
  ps.head? == some (0, 0) && (ps.getD 15 (0, 0)).1 == 255 && curveRising ps &&
    ps.all (fun p => p.2 == 0 || inRange 5400 7200 p.2) &&
    (List.range 16).all (fun i => byteAt v (4 * i + 1) == 0)

/-- The non-zero idle times strictly rise (R82). -/
def idleRising : Nat → List Nat → Bool
  | _, [] => true
  | lo, 0 :: t => idleRising lo t
  | lo, x :: t => decide (lo < x) && idleRising x t

/-- The length rule and the range rules of one record (R77 to R83); none for a tag its section does not define. -/
def optRecordOk (sec tag : Nat) (v : Bytes) : Option Bool :=
  let n := v.length
  let u8 := byteAt v
  let u16 := fun i => leAt v i 2
  let u32 := fun i => leAt v i 4
  match sec, tag with
  | 0x01, 1 => some (n == 2 && inRange 10 10000 (u16 0))
  | 0x01, 2 => some (n == 1 && inRange 0 1 (u8 0))
  | 0x01, 3 => some (n == 1 && inRange 1 5 (u8 0))
  | 0x01, 4 => some (n == 1 && inRange 0 1 (u8 0))
  | 0x02, 1 => some (n == 1 && [2, 4, 6, 8].contains (u8 0))
  | 0x02, 2 => some (n == 2 && [3200, 4267, 5500, 6400].contains (u16 0))
  | 0x02, 3 => some (n == 2 && inRange 16 512 (u16 0) && u16 0 % 16 == 0)
  | 0x02, 4 => some (n == 2 && inRange 512 4096 (u16 0) && u16 0 % 64 == 0)
  | 0x02, 5 => some (n == 2)
  | 0x03, 1 => some (n == 8 && inRange 0 2 (u8 0) && inRange 0 1 (u8 1) &&
      decide (u8 2 < (if u8 0 == 2 then 2 else if u8 1 == 0 then 2 else 5)) && inRange 0 15 (u8 3) &&
      inRange 0 7 (u8 4) && inRange 0 15 (u8 5) && (inRange 0 31 (u8 6) || u8 6 == 0xFF) && u8 7 == 0)
  | 0x03, 2 => some (n == 4 && inRange 0 2 (u8 0) && decide (u8 1 < 4) &&
      decide (u8 2 < (if u8 0 == 2 then 4 else 32)) && u8 3 == 0)
  | 0x04, 1 => some (n == 1 && [8, 10, 12].contains (u8 0))
  | 0x04, 2 => some (n == 2 && inRange 256 640 (u16 0) && u16 0 % 4 == 0)
  | 0x04, 3 => some (n == 4 + 12 * u8 1 && inRange 1 64 (u8 1) && u16 2 == 0 && zonesContiguous 0 (zoneTable v) &&
      (zoneTable v).all fun z => decide (1 ≤ z.tracks) && inRange 1 4096 z.sectors && inRange 1000 5200 z.bitRate)
  | 0x04, 4 => some (n == 1 && decide (u8 0 < 16))
  | 0x05, 1 => some (n == 1 && inRange 8 20 (u8 0))
  | 0x05, 2 => some (n == 1 && inRange 2 3 (u8 0))
  | 0x05, 3 => some (n == 2 + u8 1 && inRange 10 22 (u8 1) && decide (u8 0 < 64) && decide ((v.drop 2).Nodup) &&
      (decide (u8 (u8 1) < 12) != decide (u8 (u8 1 + 1) < 12)))
  | 0x05, 4 => some (n == 2 && decide (u8 0 < 12) && inRange 12 23 (u8 1))
  | 0x05, 5 => some (n == 1 && inRange 4 32 (u8 0))
  | 0x05, 6 => some (n == 2 && inRange 5 80 (u8 0) && inRange (u8 0) 90 (u8 1))
  | 0x06, 1 =>
      let m := u8 3
      some (n == 8 + 4 * (m * m + 4 * m) && inRange 0 3 (u8 0) && inRange 0 2 (u8 1) && inRange 0 1 (u8 2) &&
        inRange 1 16 m && inRange 1 0x7FFFFFFF (u32 (n - 4)))
  | 0x06, 2 => some (n == 4 && decide (u32 0 ≤ 2 ^ 28))
  | 0x06, 3 => some (n == 2)
  | 0x06, 4 => some (n == 1 && inRange 5 25 (u8 0))
  | 0x06, 5 => some (n == 2 && inRange 5 100 (u16 0))
  | 0x07, 1 => some (n == 64 && curveOk v)
  | 0x07, 2 => some (n == 1 && decide (1 ≤ u8 0))
  | 0x07, 3 => some (n == 1 && decide (u8 0 ≤ 254))
  | 0x07, 4 => some (n == 2048)
  | 0x07, 5 => some (n == 2 && inRange 500 3000 (u16 0))
  | 0x07, 6 => some (n == 2 && inRange 200 2500 (u16 0))
  | 0x08, 1 => some (n == 6 && u8 1 == 0 && decide (u16 4 ≤ 6000) && decide (u16 2 ≤ u16 4))
  | 0x08, 2 => some (n == 1 && inRange 2 20 (u8 0))
  | 0x08, 3 => some (n == 2 && inRange 10 10080 (u16 0))
  | 0x08, 4 => some (n == 1 && inRange 1 20 (u8 0))
  | 0x09, 1 => some (n == 4)
  | 0x09, 2 => some (n == 1 && inRange 1 6 (u8 0))
  | 0x09, 3 => some (n == 1 && inRange 4 24 (u8 0))
  | 0x09, 4 => some (n == 1 && inRange 0 16 (u8 0))
  | 0x09, 5 => some (n == 4 && inRange 1 1024 (u16 0) && inRange 1 720 (u16 2))
  | 0x09, 6 => some (n == 6 && inRange 0 1 (u8 0) && u8 1 == 0 && inRange 1 4096 (u16 2) && inRange 0 1024 (u16 4))
  | 0x09, 7 => some (n == 4 && inRange 1 90 (u16 0) && inRange 1 168 (u16 2))
  | 0x0A, 1 =>
      let ts := [u32 0, u32 4, u32 8, u32 12]
      some (n == 16 && ts.all (fun t => t == 0 || inRange 100 86400000 t) && idleRising 0 ts)
  | 0x0A, 2 => some (n == 1 && inRange 0 1 (u8 0))
  | 0x0A, 3 => some (n == 3 && inRange 90 104 (u8 0) && inRange 2 10 (u8 1) && inRange 105 115 (u8 2))
  | 0x0B, 1 => some (n == 40 && printable v)
  | 0x0B, 2 => some (n == 8 && printable v)
  | 0x0B, 3 => some (n == 4)
  | 0x0B, 4 => some (n == 4 && u8 3 == 0)
  | 0x0B, 5 => some (n == 8 && inRange 0 1 (u8 4) && inRange 1 10 (u8 5) && u16 6 == 0)
  | 0x0B, 6 => some (n == 4 && (u32 0 == 0 || inRange 1000 52000 (u32 0)))
  | 0x0C, 1 => some (n == 8 && decide (u8 4 ≤ u8 5) && u16 6 == 0)
  | _, _ => none

/-- The index fields that make two records of one tag distinct (R72). -/
def optRecordKey (r : OptRec) : List Nat :=
  let u8 := byteAt r.val
  match r.sec, r.tag with
  | 0x03, 1 => [3, 1, u8 0, u8 1, u8 2]
  | 0x03, 2 => [3, 2, u8 0]
  | 0x04, 3 => [4, 3, u8 0]
  | 0x05, 3 => [5, 3, u8 0]
  | 0x06, 1 => [6, 1, u8 0, u8 1, u8 2]
  | 0x08, 1 => [8, 1, u8 0]
  | 0x09, 6 => [9, 6, u8 0]
  | 0x0C, 1 => [12, 1, leAt r.val 0 2, leAt r.val 2 2, u8 4, u8 5]
  | s, t => [s, t]

/-- The offsets of records that repeat an earlier one (R71, R72). -/
def optRepeats : List (List Nat) → List OptRec → List Nat
  | _, [] => []
  | seen, r :: rs =>
    let k := optRecordKey r
    if seen.contains k then r.off :: optRepeats seen rs else optRepeats (k :: seen) rs

/-! ### Looking records up, with the defaults of R77 to R83. -/

/-- The records of a section and tag. -/
def recsOf (rs : List OptRec) (sec tag : Nat) : List OptRec := rs.filter fun r => r.sec == sec && r.tag == tag

/-- A field of the one record of a section and tag, or its default. -/
def recField (rs : List OptRec) (sec tag i n dflt : Nat) : Nat :=
  match recsOf rs sec tag with
  | [] => dflt
  | r :: _ => leAt r.val i n

/-- The offset of the last of the present records of some tags; none where none is present. -/
def recsLast (rs : List OptRec) (tags : List (Nat × Nat)) : Option Nat :=
  (tags.flatMap fun t => (recsOf rs t.1 t.2).map (·.off)).foldl (fun a o => some (max (a.getD 0) o)) none

/-- A cross-check: where it fails, the offset of the record at the highest offset of those involved (R74). -/
def crossCheck (rs : List OptRec) (tags : List (Nat × Nat)) (ok : Bool) : List Nat :=
  if ok then [] else (recsLast rs tags).toList

/-- A head or surface number is populated in a build of `h` heads per actuator (R7). -/
def populated (h n : Nat) : Bool := decide (n < h) || inRange 12 (12 + h - 1) n

/-- The populated heads in number order (R7). -/
def headsOf (h : Nat) : List Nat := List.range h ++ (List.range h).map (· + 12)

/-- The stripe data width (R78): its record, or N_H − 4. -/
def cfgWidth (rs : List OptRec) : Nat := recField rs 5 1 0 1 (2 * recField rs 4 1 0 1 0 - 4)

/-- The cross-checks of R77 to R83 over the records of known tags. One that a broken record is part of names an offset no lower than
that record's own, so it never decides OPL.FAIL_OFFSET. -/
def optCross (rs : List OptRec) : List Nat :=
  let h := recField rs 4 1 0 1 0
  let d := cfgWidth rs
  let wc := recField rs 2 4 0 2 512
  let rows := recsOf rs 5 3
  let width := if (recsOf rs 5 1).isEmpty then [(4, 1)] else [(5, 1)]
  crossCheck rs [(2, 4), (2, 3)] (decide (recField rs 2 3 0 2 512 ≤ wc)) ++
  crossCheck rs ([(2, 4), (2, 1), (5, 5)] ++ width)
    (decide (wc + 256 + (d + 2) * recField rs 5 5 0 1 16 + 512 ≤ recField rs 2 1 0 1 8 * 1024)) ++
  (if h = 0 then [] else
    crossCheck rs ((5, 2) :: (4, 1) :: width) (decide (d + 2 + recField rs 5 2 0 1 2 ≤ 2 * h)) ++
    ((recsOf rs 4 3).flatMap fun r =>
      if populated h (byteAt r.val 0) then [] else [max r.off ((recsLast rs [(4, 1)]).getD 0)]) ++
    ((recsOf rs 8 1).flatMap fun r =>
      if populated h (byteAt r.val 0) then [] else [max r.off ((recsLast rs [(4, 1)]).getD 0)]) ++
    (rows.flatMap fun r =>
      if (r.val.drop 2).all (fun x => populated h x.toNat) then []
      else [max r.off ((recsLast rs [(4, 1)]).getD 0)]) ++
    crossCheck rs [(5, 4), (4, 1)]
      ((recsOf rs 5 4).all fun r => populated h (byteAt r.val 0) && populated h (byteAt r.val 1))) ++
  (rows.flatMap fun r => if byteAt r.val 1 = d + 2 then [] else [max r.off ((recsLast rs width).getD 0)]) ++
  crossCheck rs [(5, 3)]
    ((List.range rows.length).all fun i => rows.any fun r => byteAt r.val 0 == i) ++
  ((recsOf rs 6 1).flatMap fun r =>
    (recsOf rs 6 1).flatMap fun q =>
      if byteAt r.val 0 = byteAt q.val 0 ∧ byteAt r.val 1 = byteAt q.val 1 ∧ byteAt r.val 3 ≠ byteAt q.val 3
      then [max r.off q.off] else []) ++
  crossCheck rs [(7, 2), (7, 3)] (decide (recField rs 7 3 0 1 24 < recField rs 7 2 0 1 40)) ++
  crossCheck rs [(12, 1)] (decide ((recsOf rs 12 1).length ≤ 8))

/-- The missing required records (R77 to R83), each named by its section. A record that is there but breaks a rule is not missing;
the heads are those of a sound HEADS_PER_ACT. -/
def optMissing (rs good : List OptRec) : List Nat :=
  let need := fun (ok : Bool) (sec : Nat) => if ok then [] else [sec]
  let has := fun s t => !(recsOf rs s t).isEmpty
  let heads := headsOf (recField good 4 1 0 1 0)
  need (has 2 1) 2 ++ need (has 4 1) 4 ++
  need (heads.all fun n => (recsOf rs 4 3).any fun r => byteAt r.val 0 == n) 4 ++
  need ((List.range 4).all fun l => (List.range 3).all fun m =>
    (recsOf rs 6 1).any fun r => byteAt r.val 0 == l && byteAt r.val 1 == m && byteAt r.val 2 == 0) 6 ++
  need (has 7 1) 7 ++
  need (heads.all fun n => (recsOf rs 8 1).any fun r => byteAt r.val 0 == n) 8 ++
  need (has 0xB 1) 0xB ++ need (has 0xC 1) 0xC

/-! ### The header, the section table and the whole check (R70, R74). -/

/-- The sections that must be present (R76). -/
def requiredSections : List Nat := [0x02, 0x04, 0x06, 0x07, 0x08, 0x0B, 0x0C]

/-- The section table entries of an image. -/
def optSections (b : Bytes) : List (OptSec × Bytes) :=
  (List.range (leAt b 0x14 2)).map fun i =>
    let e := slice b (0x100 + 16 * i) 16
    (⟨byteAt e 0, leAt e 4 4, leAt e 8 4⟩, e)

/-- Two bodies overlap. -/
def bodiesOverlap (a b : OptSec) : Bool :=
  decide (a.off < b.off + b.len) && decide (b.off < a.off + a.len)

/-- No two bodies of a list overlap. -/
def noOverlap : List OptSec → Bool
  | [] => true
  | s :: t => t.all (fun x => !bodiesOverlap s x) && noOverlap t

/-- A list of numbers rises strictly. -/
def rising : List Nat → Bool
  | a :: b :: t => decide (a < b) && rising (b :: t)
  | _ => true

/-- The section table rules and body CRCs of R70: result 0x9 where one fails. -/
def sectionsOk (b : Bytes) (imageLen : Nat) : Bool :=
  let ss := optSections b
  let tableEnd := 0x100 + 16 * ss.length
  decide (tableEnd ≤ imageLen - 96) &&
  rising (ss.map (·.1.id)) && noOverlap (ss.map (·.1)) &&
  ss.all fun (s, e) =>
    byteAt e 1 == 1 && decide (byteAt e 2 < 2) && byteAt e 3 == 0 &&
    (inRange 1 0xC s.id || byteAt e 2 == 1) &&
    s.off % 16 == 0 && decide (tableEnd ≤ s.off) && s.len % 4 == 0 && decide (s.off + s.len ≤ imageLen - 96) &&
    leAt e 12 4 == (crc32 (slice b s.off s.len)).toNat

/-- The header fields whose ranges give result 0x2 (R74). -/
def optHeaderOk (b : Bytes) : Bool :=
  slice b 0 4 == [0x48, 0x4F, 0x50, 0x54] && leAt b 6 2 == 1 && decide (byteAt b 0x13 < 2) &&
  (slice b 0x16 2).all (· == 0) && (slice b 0x1B 5).all (· == 0) && (slice b 0x9C 96).all (· == 0) &&
  decide (leAt b 0x10 2 ≤ 64) && decide (byteAt b 0x12 ≤ 3) && inRange 1 64 (leAt b 0x14 2) &&
  printable (slice b 0x20 16)

/-- The known records of an image in image order, and the offsets of the failures found among them (R71, R74). -/
def optCheckRecords (b : Bytes) : List OptRec × List Nat :=
  let ss := (optSections b).map (·.1) |>.filter fun s => inRange 1 0xC s.id
  let parsed := ss.map fun s => optRecords (s.len / 4) s.id s.off (slice b s.off s.len)
  let all := parsed.flatMap (·.1)
  let known := all.filter fun r => (optRecordOk r.sec r.tag r.val).isSome
  let good := all.filter fun r => optRecordOk r.sec r.tag r.val == some true
  let bad := parsed.flatMap (·.2) ++
    (all.flatMap fun r =>
      match optRecordOk r.sec r.tag r.val with
      | some true => []
      | some false => [r.off]
      | none => if r.tag / 0x8000 = 1 then [] else [r.off]) ++
    optRepeats [] known ++
    optCross known ++
    ((optMissing known good).flatMap fun s =>
      match ss.find? (·.id == s) with
      | some x => [x.off]
      | none => [0x100]) ++
    (if requiredSections.all fun s => ss.any (·.id == s) then [] else [0x100])
  (good, bad)

/-- A BANK record's contents (R79). -/
def bankOf (v : Bytes) : Bank :=
  let n := byteAt v 3
  let q := fun i => signed 32 (leAt v (4 + 4 * i) 4)
  let vec := fun o => (List.range n).map fun i => q (o + i)
  ⟨byteAt v 0, byteAt v 1, byteAt v 2, n, (List.range (n * n)).map q, vec (n * n), vec (n * n + n),
    vec (n * n + 2 * n), vec (n * n + 3 * n), leAt v (4 + 4 * (n * n + 4 * n)) 4⟩

/-- The PLAT records of a copy, with their defaults (R77). -/
def platOf (rs : List OptRec) : PlatCfg :=
  ⟨recField rs 1 1 0 2 1000, recField rs 1 2 0 1 0 == 1, recField rs 1 3 0 1 5, recField rs 1 4 0 1 1 == 1⟩

/-- The configuration that a copy's sound records give, every absent record at its default (R77 to R83). -/
def cfgOf (rs : List OptRec) : OptCfg :=
  let f := recField rs
  let h := f 4 1 0 1 0
  let str := fun s t => (recsOf rs s t).head?.map (·.val)
  let bucket := fun m i dflt =>
    match (recsOf rs 9 6).find? (fun r => byteAt r.val 0 == m) with
    | some r => leAt r.val i 2
    | none => dflt
  let rot := (List.range (recsOf rs 5 3).length).map fun i =>
    match (recsOf rs 5 3).find? (fun r => byteAt r.val 0 == i) with
    | some r => (r.val.drop 2).map (·.toNat)
    | none => []
  { plat := platOf rs
    dram := ⟨f 2 1 0 1 8, f 2 2 0 2 6400, f 2 3 0 2 512, f 2 4 0 2 512,
      BitVec.ofNat 8 (f 2 5 0 1 0x31), BitVec.ofNat 8 (f 2 5 1 1 0x44)⟩
    trims := (recsOf rs 3 1).map fun r =>
      let u := byteAt r.val
      ⟨u 0, u 1, u 2, u 3, u 4, u 5, u 6⟩
    polars := (recsOf rs 3 2).map fun r => ⟨byteAt r.val 0, byteAt r.val 1, byteAt r.val 2⟩
    geom := ⟨h, f 4 2 0 2 640, (recsOf rs 4 3).map fun r => (byteAt r.val 0, zoneTable r.val), f 4 4 0 1 0⟩
    stripe := ⟨cfgWidth rs, f 5 2 0 1 2, rot, f 5 4 0 1 0, f 5 4 1 1 12, f 5 5 0 1 16, f 5 6 0 1 25, f 5 6 1 1 50⟩
    servo := ⟨(recsOf rs 6 1).map fun r => bankOf r.val, (f 6 2 0 4 (2 ^ 24) : Nat), f 6 3 0 2 0xFFFF, f 6 4 0 1 12,
      f 6 5 0 2 20⟩
    spin := ⟨curvePoints ((str 7 1).getD []), f 7 2 0 1 40, f 7 3 0 1 24,
      (match str 7 4 with
        | some v => (List.range 1024).map fun i => signed 16 (leAt v (2 * i) 2)
        | none => (List.range 1024).map commDefault),
      f 7 5 0 2 1800, f 7 6 0 2 1200⟩
    assist := ⟨(recsOf rs 8 1).map fun r => (byteAt r.val 0, leAt r.val 2 2, leAt r.val 4 2), f 8 2 0 1 8,
      f 8 3 0 2 240, f 8 4 0 1 5⟩
    thresh := ⟨BitVec.ofNat 32 (f 9 1 0 4 0xFFFFFFFF), f 9 2 0 1 4, f 9 3 0 1 24, f 9 4 0 1 4, f 9 5 0 2 64,
      f 9 5 2 2 24, bucket 0 2 64, bucket 0 4 8, bucket 1 2 64, bucket 1 4 8, f 9 7 0 2 14, f 9 7 2 2 24⟩
    power := ⟨f 10 1 0 4 0, f 10 1 4 4 2000, f 10 1 8 4 600000, f 10 1 12 4 0, f 10 2 0 1 0 == 1, f 10 3 0 1 100,
      f 10 3 1 1 5, f 10 3 2 1 110⟩
    nvme := ⟨(str 0xB 1).getD [], str 0xB 2, f 0xB 3 0 2 holtaleVendor, f 0xB 3 2 2 0x2250,
      ((str 0xB 4).getD (zeros 4)).take 3,
      (match str 0xB 5 with
        | some v => some (leAt v 0 4)
        | none => none),
      f 0xB 5 4 1 0 == 1, f 0xB 5 5 1 2, f 0xB 6 0 4 0⟩
    accept := (recsOf rs 0xC 1).map fun r => ⟨leAt r.val 0 2, leAt r.val 2 2, byteAt r.val 4, byteAt r.val 5⟩ }

/-- What the check of an option image copy gives: the result code of R92, OPL.FAIL_OFFSET for result 0xA, the PLAT
records of a valid copy, and the accepted image; `unsigned` says it was accepted by the exception of R483. -/
structure OptCheck where
  result   : Nat
  failOff  : Nat
  image    : Option (OptImage × OptCfg)
  unsigned : Bool
  deriving DecidableEq, Repr

/-- A check that ended with a result other than accepted. -/
def OptCheck.fail (r : Nat) : OptCheck := ⟨r, 0, none, false⟩

/-- The key slot named by the header is blank. -/
def keyBlank (fz : Fuses) (slot : Nat) : Bool :=
  match fz.keys[slot]? with
  | some k => !k.prog
  | none => true

/-- The key slot check of R74: the slot is programmed, not revoked, and its digest is that of PUBKEY. -/
def keyOk (fz : Fuses) (slot : Nat) (pub : Bytes) : Bool :=
  match fz.keys[slot]? with
  | some k => k.prog && !k.revoked && sha384 pub == k.digest
  | none => false

/-- The check of a copy of the option image in the order of R74. `mfg` is manufacturing mode: while no key slot is
programmed, a blank key slot alone does not fail the copy (R483). -/
def checkOption (fz : Fuses) (mfg : Bool) (copy : Copy) (rd : NorRead) : OptCheck :=
  let b := rd.bytes
  let len := leAt b 8 4
  let slot := byteAt b 0x12
  let pub := slice b 0x30 96
  let errIn := fun n => match rd.errAt with
    | some o => decide (o < n)
    | none => false
  let waive := mfg && fz.keys.all (fun k => !k.prog) && keyBlank fz slot
  if errIn 256 then .fail 0xB
  else if !optHeaderOk b then .fail 0x2
  else if leAt b 0xFC 4 != (crc32 (b.take 0xFC)).toNat then .fail 0x3
  else if leAt b 0x18 2 != 0x2250 || decide (byteAt b 0x1A > 0xB0) then .fail 0x4
  else if !(len % 16 == 0 && inRange 0x400 0x80000 len) then .fail 0x5
  else if !(keyOk fz slot pub || waive) then .fail 0x6
  else if decide (leAt b 0x10 2 < fz.oemSvn) then .fail 0x7
  else if errIn len then .fail 0xB
  else
    let digest := sha384 (b.take (len - 96))
    if !ecdsaVerify pub digest (slice b (len - 96) 96) then .fail 0x8
    else if !sectionsOk b len then .fail 0x9
    else
      let (rs, bad) := optCheckRecords b
      match minNat? bad with
      | some o => ⟨0xA, o, none, false⟩
      | none =>
        ⟨0x1, 0, some (⟨copy, BitVec.ofNat 32 (leAt b 0xC 4), leAt b 0x10 2, byteAt b 0x13 == 1 && !waive, slot, digest⟩,
          cfgOf rs), waive⟩

end Sys2Proof.Machine
end

