-- ==== Sys2Proof/Machine/Exact.lean ====
section
/-!
DEFINITION. Exact arithmetic of the control loops: rationals, rounding (R11), square roots to 40 binary places, and the
constants the spec writes as π and √3 (assumption 21).
-/

namespace Sys2Proof.Machine

/-- π to 100 binary places. -/
def piR : Rat := (piFix : Rat) / (2 ^ 100 : Nat)

/-- The integer part of a rational. -/
def ratFloor (r : Rat) : Int := r.num / (r.den : Int)

/-- The nearest integer, halves away from zero (R11). -/
def ratRound (r : Rat) : Int := roundDiv r.num r.den

/-- The integer part of a square root, digit by digit from bit `n - 1`. -/
def isqrtBits : Nat → Nat → Nat → Nat
  | 0, _, r => r
  | n + 1, x, r => isqrtBits n x (if (r + 2 ^ n) * (r + 2 ^ n) ≤ x then r + 2 ^ n else r)

/-- The square root of a rational that is not negative, to 40 binary places. -/
def ratSqrt (x : Rat) : Rat := (isqrtBits 128 (x.num.toNat * 2 ^ 80 / x.den) 0 : Rat) / (2 ^ 40 : Nat)

/-- √3. -/
def sqrt3 : Rat := ratSqrt 3

/-- The absolute value of a rational. -/
def ratAbs (r : Rat) : Rat := if r < 0 then -r else r

/-- The absolute value of an integer. -/
def intAbs (i : Int) : Int := if i < 0 then -i else i

/-- Clamp a rational. -/
def ratClamp (lo hi r : Rat) : Rat := if r < lo then lo else if hi < r then hi else r

/-- Euler's series of atan(y ÷ x) for 0 ≤ y ≤ x, in 2^-80 rad: terms left, k, the next term, y², x² + y². -/
def atanTerms : Nat → Nat → Nat → Nat → Nat → Nat
  | 0, _, _, _, _ => 0
  | n + 1, k, c, y2, d => c + atanTerms n (k + 1) (c * (2 * k + 2) * y2 / ((2 * k + 3) * d)) y2 d

/-- atan(y ÷ x) ÷ 2π for 0 ≤ y ≤ x, x not 0, as a fraction of a turn. -/
def atanTurn (y x : Nat) : Rat :=
  (atanTerms 80 0 (x * y * 2 ^ 80 / (x * x + y * y)) (y * y) (x * x + y * y) : Rat) / (2 ^ 80 : Nat) / (2 * piR)

/-- atan2(y, x) ÷ 2π in [-0.5, 0.5) with 16 fraction bits (R159); at the origin the spec states no value. -/
def turn16 (y x : Int) : Int :=
  if x = 0 ∧ y = 0 then Config.atan2Origin
  else
    let a := y.natAbs
    let b := x.natAbs
    let q : Rat := if a ≤ b then atanTurn a b else 1 / 4 - atanTurn b a
    let h : Rat := if x < 0 then 1 / 2 - q else q
    let r := ratRound ((if y < 0 then -h else h) * 65536)
    if r ≥ 32768 then r - 65536 else r

end Sys2Proof.Machine
end

