-- ==== Sys2Proof/Machine/Boot.lean ====
section
/-!
DEFINITION. Phases and boot codes (R42, R58, R61, R63), and what takes the media out of service (R387): shared by the start
and by every block that can fail during it.
-/

namespace Sys2Proof.Machine

/-- The last phase entered (R64). -/
def State.phase (s : State) : Nat := s.get Reg.NST.BOOT_STATUS.PHASE

/-- The start is in a phase, not halted (R61). -/
def State.inPhase (s : State) (n : Nat) : Bool :=
  s.start.rst == .running && s.phase == n && !s.flag Reg.NST.BOOT_STATUS.HALTED

/-- Enter a phase. -/
def State.toPhase (s : State) (n : Nat) : State := s.put Reg.NST.BOOT_STATUS.PHASE n

/-- The codes that arise in parallel on two units, at one instant (R63): of these the lowest code and unit stand. -/
def sameInstant (a b : Nat) : Bool := (decide (a = 0x60 ∨ a = 0x61) && decide (b = 0x60 ∨ b = 0x61)) || (a == 0x80 && b == 0x80)

/-- R63: a code of a severity (1 note, 2 hold, 3 halt) with its unit is reached. -/
def State.bootCode (s : State) (sev code unit : Nat) : State :=
  let bit := if sev = 3 then Reg.NST.BOOT_STATUS.HALTED else if sev = 2 then Reg.NST.BOOT_STATUS.HELD
    else Reg.NST.BOOT_STATUS.NOTED
  let s1 := s.put bit 1
  let old := s.get Reg.NST.BOOT_STATUS.CODE
  let oldU := s.get Reg.NST.BOOT_STATUS.UNIT
  let lower : Bool := s.start.sev == sev && sameInstant old code &&
    (decide (code < old) || (code == old && decide (unit < oldU)))
  if sev > s.start.sev ∨ lower then
    ((({ s1 with start := { s1.start with sev := sev } } : State).put Reg.NST.BOOT_STATUS.CODE code).put
      Reg.NST.BOOT_STATUS.UNIT unit)
  else s1

/-- R61: a halting code: every block but NST and the RCU is in reset; after P5 the host port stays out of it, and CFS sets
where CC.EN is 1 (R60). -/
def State.halt (s : State) (code unit : Nat) : State :=
  let after5 := decide (s.phase > 5)
  let s1 := s.bootCode 3 code unit
  let blocks := s1.start.blocks.mapIdx fun i b => if i ≤ 1 ∨ (after5 ∧ i = 8) then b else .inReset
  { s1 with
    start := { s1.start with blocks := blocks, watchdog := false, trainOpen := s1.start.trainOpen && after5 }
    cqu := { s1.cqu with nvme := { s1.cqu.nvme with rdy := false, cfs := s1.cqu.nvme.cfs || s1.cqu.nvme.cc.getLsbD 0 } } }

/-- R58: a hold code. -/
def State.hold (s : State) (code unit : Nat) : State := s.bootCode 2 code unit

/-- The start is held (R58). -/
def State.held (s : State) : Bool := s.flag Reg.NST.BOOT_STATUS.HELD

/-- The namespaces do not open in this start (R58, R387). -/
def State.holdIo (s : State) : State :=
  (({ s with cqu := { s.cqu with notReady := some true } } : State).warn 2 1)

/-- The cause of an actuator's loss in the Critical Warning (R387). -/
def actCause : Act → Nat
  | .a => 10
  | .b => 11

/-- An actuator is out of service (R106, R182, R387). -/
def State.actDown (s : State) (x : Act) : Bool := s.cqu.why.contains (3, actCause x)

/-- R387: an actuator leaves service. -/
def State.loseAct (s : State) (x : Act) : State := (s.warn 3 (actCause x)).warn 2 (actCause x)

/-- Close the write gates of an actuator's channels (R22). -/
def State.closeGates (s : State) (x : Act) : State :=
  let g := s.rep.gates
  { s with rep := { s.rep with gates :=
      (match x with
        | .a => [false, false, g.getD 2 false, g.getD 3 false]
        | .b => [g.getD 0 false, g.getD 1 false, false, false]) } }

end Sys2Proof.Machine
end

