-- ==== Sys2Proof/Machine/Link.lean ====
section
/-!
DEFINITION. The links (R93 to R107, R115, R116, R123 to R126): states and registers of a port, sending ordered sets and
cells, go-back-N delivery, training, retrains and link-down.
-/

namespace Sys2Proof.Machine

/-! ### Ports and their registers (R127). -/

/-- A port's number: LINK of TS1 (R99). -/
def portNum : Port → Nat
  | .ezpolA => 0
  | .ezpolB => 1
  | .zhosel => 2

/-- The actuator of an Ezpol port. -/
def portAct : Port → Option Act
  | .ezpolA => some .a
  | .ezpolB => some .b
  | .zhosel => none

/-- STATUS.STATE of a port. -/
def linkStateFld : Port → Fld
  | .ezpolA => Reg.ELK.STATUS.STATE 0
  | .ezpolB => Reg.ELK.STATUS.STATE 1
  | .zhosel => Reg.ZLK.STATUS.STATE

/-- A field of a port's registers, moved from port A's place. -/
def portFld (f : Nat → Fld) (p : Port) : Fld :=
  match p with
  | .ezpolA => f 0
  | .ezpolB => f 1
  | .zhosel => { f 0 with slot := 0x17 }

/-- The state of a link: 0 down, 1 training, 2 up, 3 narrow or x1, 4 retraining, 5 dormant, 6 failed. -/
def State.linkState (s : State) (p : Port) : Nat := s.get (linkStateFld p)

/-- The LB4 loopback of an Ezpol link runs (R126): its cells travel over the link. -/
def State.lb4 (s : State) (p : Port) : Bool :=
  match p with
  | .ezpolA => s.flag (Reg.ELK.LB_CTRL.RUN 0) && s.get (Reg.ELK.LB_CTRL.DEPTH 0) == 4
  | .ezpolB => s.flag (Reg.ELK.LB_CTRL.RUN 1) && s.get (Reg.ELK.LB_CTRL.DEPTH 1) == 4
  | .zhosel => false

/-- Cells pass. -/
def State.linkUp (s : State) (p : Port) : Bool := s.linkState p == 2 || s.linkState p == 3 || s.lb4 p

/-- Lanes of a direction (R93). -/
def laneCount (p : Port) (down : Bool) : Nat := if p = .zhosel ∨ down then 2 else 5

/-- Physical lanes in use in a direction: all but the one set aside (R115, R124). -/
def Link.lanes (l : Link) (p : Port) (down : Bool) : List Nat :=
  (List.range (laneCount p down)).filter fun k => (if down then l.asideDn else l.asideUp) != some k

/-- The scrambler seeds (R96). -/
def seeds : List (BitVec 23) := [0x1DBFBC, 0x607BB1, 0x1EC760, 0x18C0DB, 0x010F12]

/-! ### Ends. -/

/-- The end that receives in a direction. -/
def Link.rcv (l : Link) (down : Bool) : LinkEnd := if down then l.par else l.ctl

/-- Change the end that receives in a direction. -/
def Link.setRcv (l : Link) (down : Bool) (e : LinkEnd) : Link := if down then { l with par := e } else { l with ctl := e }

/-- An ordered set on its way to an end. -/
def LinkEnd.put (e : LinkEnd) (o : OSet) : LinkEnd := { e with sets := e.sets ++ [o] }

/-- An ordered set has arrived at its end. -/
def LinkEnd.take (e : LinkEnd) (o : OSet) : LinkEnd := { e with sets := e.sets.erase o }

/-- Send an ordered set in a direction (R99). -/
def State.sendSet (s : State) (p : Port) (down : Bool) (o : OSet) : State :=
  let l := s.link p
  s.setLink p (l.setRcv down ((l.rcv down).put o))

/-- An ordered set arrives. -/
def State.setArrives (s : State) (p : Port) (down : Bool) (o : OSet) : State :=
  let l := s.link p
  s.setLink p (l.setRcv down ((l.rcv down).take o))

/-! ### Sending cells (R103, R104, R107). -/

/-- CMD cells. -/
def cmdType : Byte := 0x10

/-- A cell may leave its queue: room in the replay buffer, fewer than 16 commands outstanding, a credit for write data. -/
def Link.mayLeave (l : Link) (c : Cell) : Bool :=
  decide (l.ctl.replay.length < 64) && (c.typ != cmdType || decide (l.tags.length < 16)) &&
  (c.typ != 0x01 || decide ((if c.unit = 0 then l.cred0 else l.cred1) > 0))

/-- A sequenced cell leaves the controller. -/
def Link.leave (l : Link) (c : Cell) : Link :=
  let c1 : Cell := { c with seq := l.ctl.sndSeq }
  { l with
    ctl := { l.ctl with sndSeq := l.ctl.sndSeq + 1, replay := l.ctl.replay ++ [(c1, 0)] }
    tags := if c.typ = cmdType then l.tags ++ [(BitVec.ofNat 8 (c.param.toNat / 256), BitVec.ofNat 8 c.param.toNat, byteAt c.body 0)] else l.tags
    cred0 := if c.typ = 0x01 ∧ c.unit = 0 then l.cred0 - 1 else l.cred0
    cred1 := if c.typ = 0x01 ∧ c.unit ≠ 0 then l.cred1 - 1 else l.cred1 }

/-- Waiting cells leave in order, as far as they can; the first argument bounds their number. -/
def Link.pump : Nat → Link → Link
  | 0, l => l
  | n + 1, l =>
    match l.ctl.waiting with
    | [] => l
    | c :: t => if l.mayLeave c then Link.pump n ({ l with ctl := { l.ctl with waiting := t } }.leave c) else l

/-- Let the waiting cells of a link leave. -/
def Link.flow (l : Link) : Link := Link.pump l.ctl.waiting.length l

/-- Send a cell to the partner chip; nothing is sent on a link that is not in operation. -/
def State.sendCell (s : State) (p : Port) (c : Cell) : State :=
  if s.linkUp p ∨ s.linkState p = 4 then
    let l := s.link p
    s.setLink p ({ l with ctl := { l.ctl with waiting := l.ctl.waiting ++ [c] } }.flow)
  else s

/-- Send a command (R103): PARAM holds OPCODE and TAG. -/
def State.sendCmd (s : State) (p : Port) (unit : Nat) (opcode : Nat) (body : Bytes) : State :=
  let l := s.link p
  let c : Cell := ⟨cmdType, unit, 0, 0, BitVec.ofNat 16 (opcode + 256 * l.nextTag.toNat), padTo 20 body, 0⟩
  (s.setLink p { l with nextTag := l.nextTag + 1 }).sendCell p c

/-- Send a command to a front end. -/
def State.feCmd (s : State) (x : Act) (unit opcode : Nat) (body : Bytes) : State := s.sendCmd x.port unit opcode body

/-- Send a command to the motion power chip. -/
def State.motCmd (s : State) (unit opcode : Nat) (body : Bytes) : State := s.sendCmd .zhosel unit opcode body

/-! ### Acknowledgement and resending (R104, R106). -/

/-- An ACK reaches an end: cells before it leave the replay buffer. One that is not outstanding changes nothing. -/
def LinkEnd.acked (e : LinkEnd) (ack : BitVec 12) : LinkEnd :=
  if ack = e.sndSeq then { e with replay := [] }
  else
    match e.replay.findIdx? fun c => c.1.seq == ack with
    | some i => { e with replay := e.replay.drop i }
    | none => e

/-- Cells of the replay buffer from a place on are sent again. -/
def LinkEnd.resend (e : LinkEnd) (i : Nat) : LinkEnd :=
  { e with replay := e.replay.mapIdx fun k c => if k ≥ i then (c.1, c.2 + 1) else c }

/-- A cell has been sent again a fourth time without ACK passing it (R106). -/
def LinkEnd.worn (e : LinkEnd) : Bool := e.replay.any fun c => decide (c.2 ≥ 4)

/-- A retrain starts (R106, R125); for Zhosel every write gate closes until the servo loop engines report lock (R122). -/
def State.retrainStart (s : State) (p : Port) : State :=
  if s.linkUp p then
    let s1 := ((s.put (linkStateFld p) 4).bump (portFld Reg.ELK.STATUS.RETRAINS p) 1).count 0x1C (portNum p) 1
    if p = .zhosel then
      let s2 := (s1.closeGates .a).closeGates .b
      { s2 with rep := { s2.rep with linkHold := true } }
    else s1
  else s

/-- The resend of an end's cells from a place on, at the controller or at the partner chip. -/
def State.resendFrom (s : State) (p : Port) (atController : Bool) (i : Nat) : State :=
  let l := s.link p
  if atController then
    let e := l.ctl.resend i
    let s1 := (s.setLink p { l with ctl := e }).bump (portFld Reg.ELK.ERRORS.REPLAYS p) 1
    if e.worn then s1.retrainStart p else s1
  else
    let e := l.par.resend i
    let s1 := s.setLink p { l with par := e }
    if e.worn then s1.retrainStart p else s1

/-- R104, R107: a cell whose CRC passes arrives at the controller: its ACK is used; a sequenced one is accepted where its
SEQ is the one expected, and its credits are then returned. The flag says whether the cell is to be acted on. -/
def State.accept (s : State) (p : Port) (h : CellHdr) (sequenced : Bool) : State × Bool :=
  if !s.linkUp p then (s, false)
  else
    let l := s.link p
    let l1 := { l with ctl := l.ctl.acked h.ack }
    if !sequenced then (s.setLink p l1.flow, true)
    else if h.seq ≠ l1.ctl.rcvSeq then (s.setLink p l1.flow, false)
    else
      let c := h.cred.toNat
      let l2 := { l1 with
        ctl := { l1.ctl with rcvSeq := l1.ctl.rcvSeq + 1, nakSent := false }
        cred0 := if p = Port.zhosel then l1.cred0 else l1.cred0 + c % 16
        cred1 := if p = Port.zhosel then l1.cred1 else l1.cred1 + c / 16 }
      (s.setLink p l2.flow, true)

/-- A command or data cell of the controller arrives at the partner chip: it is accepted, and its ACK says what the
controller has accepted. -/
def State.parAccept (s : State) (p : Port) : State :=
  let l := s.link p
  s.setLink p { l with par := { (l.par.acked l.ctl.rcvSeq) with rcvSeq := l.par.rcvSeq + 1, nakSent := false } }

/-- The write slots a front end frees, taken into CRED: at most 15 of each unit (R101). -/
def State.takeCred (s : State) (p : Port) : State × Byte :=
  match portAct p with
  | none => (s, 0)
  | some x =>
    let f := s.fe x
    let a := min f.u0.freed 15
    let b := min f.u1.freed 15
    (s.setFe x { f with u0 := { f.u0 with freed := f.u0.freed - a }, u1 := { f.u1 with freed := f.u1.freed - b } },
      BitVec.ofNat 8 (a + 16 * b))

/-- The partner chip sends a sequenced cell with the credits it has to return; at most 64 are outstanding, further ones
wait. -/
def State.parSend (s : State) (p : Port) (c0 : Cell) : State :=
  let (s, cred) := s.takeCred p
  let c : Cell := { c0 with cred := cred }
  let l := s.link p
  if l.par.replay.length < 64 then
    s.setLink p { l with par := { l.par with
      sndSeq := l.par.sndSeq + 1, replay := l.par.replay ++ [(({ c with seq := l.par.sndSeq } : Cell), 0)] } }
  else s.setLink p { l with par := { l.par with waiting := l.par.waiting ++ [c] } }

/-- R103: the partner chip answers a command. -/
def State.answer (s : State) (p : Port) (unit status opcode : Nat) (tag : Byte) (body : Bytes) : State :=
  s.parSend p ⟨0x11, unit, status, 0, BitVec.ofNat 16 (opcode + 256 * tag.toNat), body, 0⟩

/-! ### Training (R123, R124). -/

/-- The trims that TS1 of a lane requests of the partner chip (R98): the transmitter settings of the lane's receive
record, the receiver setting of its transmit record. -/
def State.trimOf (s : State) (p : Port) (dir lane : Nat) : LaneTrim :=
  match s.cfg with
  | some c => (c.trims.find? fun t => t.link == portNum p && t.dir == dir && t.lane == lane).getD
      ⟨portNum p, dir, lane, 8, 2, 4, 0xFF⟩
  | none => ⟨portNum p, dir, lane, 8, 2, 4, 0xFF⟩

/-- Bytes 1 to 7 of the controller's TS1 and TS2 on a lane (R99). -/
def State.tsBody (s : State) (p : Port) (lane : Nat) : TsBody :=
  let rx := s.trimOf p 1 lane
  let tx := s.trimOf p 0 lane
  let b := BitVec.ofNat 8
  ⟨b (portNum p), b lane, b rx.swing, b rx.pre, b rx.post, b tx.ctle,
    (match (s.link p).asideUp with | some k => b (1 + 2 * k) | none => 0)⟩

/-- Step 1 of training: the controller sends TS1 on the downlink lanes; both ends start anew, keeping the partner's trims
and the numbers of failed retrains. -/
def State.trainStart (s : State) (p : Port) (wake : Bool) : State :=
  let l := s.link p
  let fresh : Link := { Link.reset with trims := l.trims, failedAt := l.failedAt, wake := wake, lbErrors := l.lbErrors }
  let sets := (List.range (laneCount p true)).map fun k => OSet.ts1 k (s.tsBody p k)
  (s.setLink p { fresh with par := { fresh.par with sets := sets } }).put (linkStateFld p) 1

/-- ALN in both directions loads the scramblers (R96, R99). -/
def Link.aligned (l : Link) : Link :=
  { l with ctl := { l.ctl with scr := seeds }, par := { l.par with scr := seeds } }

/-- The link is up: cells start at SEQ 0 with 16 credits per unit (R123), over the lanes locked. -/
def State.linkReady (s : State) (p : Port) (asideUp asideDn : Option Nat) (up dn : Nat) (narrow : Bool) : State :=
  let l := s.link p
  let fresh : Link := { Link.reset with
    trims := l.trims, failedAt := [], lbErrors := l.lbErrors, asideUp := asideUp, asideDn := asideDn }
  (((s.setLink p fresh.aligned).put (linkStateFld p) (if narrow then 3 else 2)).put
    (portFld Reg.ELK.STATUS.UP_LANES p) up).put (portFld Reg.ELK.STATUS.DN_LANES p) dn

/-- The lanes an Ezpol link locked allow it to come up (R115): at most one uplink lane missing, no downlink lane. The lane
set aside is then named. -/
def ezpolLanes (up dn : Nat) : Option (Option Nat) :=
  if dn % 4 ≠ 3 then none
  else
    match (List.range 5).filter fun k => !up.testBit k with
    | [] => some none
    | [k] => some (some k)
    | _ => none

/-- The lanes a Zhosel link locked allow it to come up (R124): one lane in each direction; lane 0 where both lock. -/
def zhoselLanes (up dn : Nat) : Option (Option Nat × Option Nat) :=
  let aside (m : Nat) : Option Nat := if m % 4 = 1 then some 1 else if m % 4 = 2 then some 0 else none
  if up % 4 = 0 ∨ dn % 4 = 0 then none
  else if up % 4 = 3 ∧ dn % 4 = 3 then some (none, none)
  else some (if up % 4 = 3 then some 1 else aside up, if dn % 4 = 3 then some 1 else aside dn)

/-- The link goes down (R106): an Ezpol link takes its actuator out of service, a Zhosel link the media (R387). -/
def State.linkDown (s : State) (p : Port) : State :=
  let s1 := (s.setLink p { Link.reset with trims := (s.link p).trims, lbErrors := (s.link p).lbErrors }).put (linkStateFld p) 0
  match portAct p with
  | some x => (s1.closeGates x).loseAct x
  | none => s1.warn 2 21

end Sys2Proof.Machine
end

