-- ==== Sys2Proof/Machine/FrontEnd.lean ====
section
/-!
DEFINITION. The head-stack front ends (R107 to R116, R126): the commands they execute, write data, and what stops a write.
-/

namespace Sys2Proof.Machine

/-! ### Units. -/

/-- A unit of a front end. -/
def FrontEnd.unit (f : FrontEnd) (u : Fin 2) : FeUnit := if u = 0 then f.u0 else f.u1

/-- Change a unit. -/
def FrontEnd.setUnit (f : FrontEnd) (u : Fin 2) (v : FeUnit) : FrontEnd := if u = 0 then { f with u0 := v } else { f with u1 := v }

/-- The other unit. -/
def FrontEnd.other (f : FrontEnd) (u : Fin 2) : FeUnit := if u = 0 then f.u1 else f.u0

/-- A write is armed or runs on the unit. -/
def FeUnit.busy (u : FeUnit) : Bool := u.armed.isSome || u.writing

/-- R113: a stopped unit discards its queued write data and returns their credits. -/
def FeUnit.stop (u : FeUnit) : FeUnit :=
  { u with armed := none, writing := false, queued := [], freed := u.freed + u.queued.length }

/-- Stop the units of a mask. -/
def FrontEnd.stopMask (f : FrontEnd) (mask : Nat) : FrontEnd :=
  { f with u0 := if mask.testBit 0 then f.u0.stop else f.u0, u1 := if mask.testBit 1 then f.u1.stop else f.u1 }

/-- Credits go back in sequenced IDLE cells while there are any (R107). -/
def State.returnCredits (s : State) (x : Act) : State :=
  let one (t : State) : State :=
    if (t.fe x).u0.freed + (t.fe x).u1.freed = 0 ∨ !t.linkUp x.port then t else t.parSend x.port ⟨0, 0, 0, 0, 0, [], 0⟩
  one (one s)

/-- Write the queued cells in order (R110): each frees its slot; the driver stops after LENGTH bits. -/
def FeUnit.drain : Nat → FeUnit → FeUnit
  | 0, u => u
  | n + 1, u =>
    match u.armed, u.queued with
    | some a, c :: t =>
      if c.widx.toNat ≠ u.written then u
      else
        let w := min a.length (u.written + 1920)
        let u1 := { u with written := w, queued := t, freed := u.freed + 1 }
        if w ≥ a.length then { u1 with armed := none, writing := false, queued := [], freed := u1.freed + t.length }
        else FeUnit.drain n u1
    | _, _ => u

/-! ### Commands (R111). -/

/-- A front end hears its link: trained, neither in reset nor dormant, and not returning cells in LB3 (R126). -/
def State.feHears (s : State) (x : Act) : Bool :=
  s.linkUp x.port && !(s.fe x).inReset && !(s.fe x).dormant && (s.fe x).loop != 3

/-- A front end executes a command: new state, STATUS and body of the answer. -/
def State.feExec (s : State) (x : Act) (unit opcode : Nat) (tag : Byte) (f : FrontEnd → FrontEnd × Nat × Bytes) : State :=
  if !s.feHears x then s
  else
    let r := f (s.fe x)
    (((s.parAccept x.port).setFe x r.1).answer x.port unit r.2.1 opcode tag r.2.2).returnCredits x

/-- A little-endian field of an answer. -/
def w16 (v : BitVec 16) : Bytes := toLe 2 v.toNat

/-- R111 0x01. -/
def execEzpolIdent (act : Act) (tag : Byte) (s : State) : Host.Outcome State Fault Refusal :=
  .next (s.feExec act 0 0x01 tag fun f => (f, 0, padTo 20 (Config.partnerIdent act.num)))

/-- R111 0x02. -/
def execEzpolConfig (act : Act) (tag : Byte) (monPeriod : BitVec 16) (win : Byte) (s : State) :
    Host.Outcome State Fault Refusal :=
  .next (s.feExec act 0 0x02 tag fun f =>
    if inRange 5 1000 monPeriod.toNat ∧ inRange 2 20 win.toNat then ({ f with monPeriod := monPeriod, win := win.toNat }, 0, [])
    else (f, 2, []))

/-- R111 0x03: BAUD is set and SIDX starts at 0. -/
def execRate (act : Act) (unit : Fin 2) (tag : Byte) (baud : Word) (s : State) : Host.Outcome State Fault Refusal :=
  .next (s.feExec act unit.val 0x03 tag fun f =>
    if inRange 1000000 5200000 baud.toNat then (f.setUnit unit { f.unit unit with baud := baud, sidx := 0 }, 0, [])
    else (f, 2, []))

/-- R111 0x04: refused while the other unit holds the head or a write is armed. -/
def execHeadSel (act : Act) (unit : Fin 2) (tag : Byte) (head : Byte) (s : State) : Host.Outcome State Fault Refusal :=
  .next (s.feExec act unit.val 0x04 tag fun f =>
    if head.toNat > 11 then (f, 2, [])
    else if (f.other unit).head = some head.toNat ∨ (f.unit unit).busy then (f, 3, [])
    else (f.setUnit unit { f.unit unit with head := some head.toNat }, 0, []))

/-- R111 0x05. -/
def execPathCtrl (act : Act) (unit : Fin 2) (tag : Byte) (onOff : Byte) (s : State) : Host.Outcome State Fault Refusal :=
  .next (s.feExec act unit.val 0x05 tag fun f =>
    if onOff.toNat > 1 then (f, 2, []) else (f.setUnit unit { f.unit unit with pathOn := onOff != 0 }, 0, []))

/-- START_SIDX lies at least 2 µs ahead of the counter (R110), at 1.125 samples per bit of BAUD kbit/s (R109). -/
def armAhead (baud start sidx : Word) : Bool :=
  let d := (start - sidx).toNat
  decide (d < 2 ^ 31) && decide (d * 8000 ≥ 18 * baud.toNat)

/-- R110, R111 0x06: a write is armed; too late where it starts within 2 µs. -/
def execWriteArm (act : Act) (unit : Fin 2) (tag : Byte) (start : Word) (phase precompOn : Byte) (length sidx : Word)
    (s : State) : Host.Outcome State Fault Refusal :=
  .next (s.feExec act unit.val 0x06 tag fun f =>
    let u := { f.unit unit with sidx := sidx }
    if phase.toNat > 63 ∨ length = 0 ∨ precompOn.toNat > 1 then (f.setUnit unit u, 2, [])
    else if u.busy then (f.setUnit unit u, 3, [])
    else if !armAhead u.baud start sidx then (f.setUnit unit u, 4, [])
    else (f.setUnit unit { u with armed := some ⟨start, phase.toNat, precompOn != 0, length.toNat⟩, written := 0 }, 0, []))

/-- R111 0x07: the write is cancelled; the answer says how many bits were written. -/
def execWriteCancel (act : Act) (unit : Fin 2) (tag : Byte) (s : State) : Host.Outcome State Fault Refusal :=
  .next (s.feExec act unit.val 0x07 tag fun f =>
    (f.setUnit unit (f.unit unit).stop, 0, toLe 4 (f.unit unit).written))

/-- The drive of a head; one that nothing has set is all 0. -/
def FrontEnd.head (f : FrontEnd) (h : Nat) : FeHead :=
  (f.heads.find? fun x => x.head == h).getD ⟨h, 0, 0, 0, 0, 0, 0, 0, 0⟩

/-- Set the drive of a head. -/
def FrontEnd.setHead (f : FrontEnd) (v : FeHead) : FrontEnd :=
  { f with heads := v :: f.heads.filter fun x => x.head != v.head }

/-- R111 0x08. -/
def execBiasSet (act : Act) (tag : Byte) (head : Byte) (bias writeCur heater : BitVec 16) (s : State) :
    Host.Outcome State Fault Refusal :=
  .next (s.feExec act 0 0x08 tag fun f =>
    if head.toNat > 11 then (f, 2, [])
    else (f.setHead { f.head head.toNat with bias := bias, writeCur := writeCur, heater := heater }, 0, []))

/-- R111 0x09. -/
def execPrecomp (act : Act) (unit : Fin 2) (tag : Byte) (entries : List Int) (s : State) :
    Host.Outcome State Fault Refusal :=
  .next (s.feExec act unit.val 0x09 tag fun f =>
    if entries.length = 8 ∧ entries.all fun e => decide (-16 ≤ e) && decide (e ≤ 16) then
      (f.setUnit unit { f.unit unit with precomp := entries }, 0, [])
    else (f, 2, []))

/-- R111 0x0A. -/
def execAssistSet (act : Act) (tag : Byte) (head mode : Byte) (writeCur standby lead tail : BitVec 16) (s : State) :
    Host.Outcome State Fault Refusal :=
  .next (s.feExec act 0 0x0A tag fun f =>
    if head.toNat > 11 ∨ mode.toNat > 2 ∨ writeCur.toNat > 6000 ∨ standby.toNat > 6000 ∨ lead.toNat > 5000 ∨
        tail.toNat > 5000 then (f, 2, [])
    else (f.setHead { f.head head.toNat with
      mode := mode.toNat, assistWr := writeCur, standby := standby, lead := lead, tail := tail }, 0, []))

/-- R111 0x0B: the answer holds what the front end measured. -/
def execHeadTest (act : Act) (tag : Byte) (head : Byte) (reader writer volt : BitVec 16) (result : Byte) (s : State) :
    Host.Outcome State Fault Refusal :=
  .next (s.feExec act 0 0x0B tag fun f =>
    if head.toNat > 11 then (f, 2, []) else (f, 0, w16 reader ++ w16 writer ++ w16 volt ++ [result]))

/-- R111 0x0C, R126: LB3 and LB4; in LB3 no write or assist current is driven. -/
def execEzpolLoop (act : Act) (tag : Byte) (depth : Byte) (s : State) : Host.Outcome State Fault Refusal :=
  .next (s.feExec act 0 0x0C tag fun f =>
    if depth = 3 then ({ f.stopMask 3 with loop := 3 }, 0, [])
    else if depth = 4 then ({ f with loop := 4 }, 0, [])
    else (f, 2, []))

/-! ### Write data and what stops a write (R110, R113). -/

/-- R110: write data for an armed unit is queued, and written at once while the driver runs; for a unit with no write armed
it is discarded and its credit returned. -/
def execWdata (act : Act) (unit : Fin 2) (last : Bool) (widx : Word) (bits : Bytes) (s : State) :
    Host.Outcome State Fault Refusal :=
  .next (if !s.feHears act then s
    else
      let f := s.fe act
      let u := f.unit unit
      let u1 := if u.armed.isNone then { u with freed := u.freed + 1 }
        else
          let v : FeUnit := { u with queued := u.queued ++ [⟨last, widx, bits⟩] }
          if v.writing then FeUnit.drain v.queued.length v else v
      ((s.parAccept act.port).setFe act (f.setUnit unit u1)).returnCredits act)

/-- An EVENT cell of a front end (R111). -/
def State.feEvent (s : State) (x : Act) (unit code head : Nat) (sidx : Word) : State :=
  s.parSend x.port ⟨0x13, unit, 0, 0, BitVec.ofNat 16 code, toLe 1 code ++ toLe 1 head ++ toLe 2 0 ++ toLe 4 sidx.toNat, 0⟩

/-- R110: the read path counter reaches START_SIDX: the driver starts; with no bits there it stops with event 0x04. -/
def execWriteDriverStart (act : Act) (unit : Fin 2) (s : State) : Host.Outcome State Fault Refusal :=
  let f := s.fe act
  let u := f.unit unit
  match u.armed with
  | none => .next s
  | some a =>
    if u.writing ∨ f.inReset ∨ f.dormant then .next s
    else
      match u.queued with
      | c :: _ =>
        if c.widx = 0 then
          let v := { u with writing := true, sidx := a.start }
          .next ((s.setFe act (f.setUnit unit (FeUnit.drain v.queued.length v))).returnCredits act)
        else
          .next (((s.setFe act (f.setUnit unit u.stop)).feEvent act unit.val 0x04 (u.head.getD 0) a.start).returnCredits act)
      | [] => .next ((s.setFe act (f.setUnit unit u.stop)).feEvent act unit.val 0x04 (u.head.getD 0) a.start)

/-- R113: the assist monitor has been outside its window for 10 ns: the front end stops the driver and sends ALM 0x03. -/
def execAssistFaultStop (act : Act) (unit : Fin 2) (s : State) : Host.Outcome State Fault Refusal :=
  let f := s.fe act
  if !(f.unit unit).writing then .next s
  else
    .next (((s.setFe act (f.setUnit unit (f.unit unit).stop)).returnCredits act).sendSet act.port false
      (.alm 0x03 (BitVec.ofNat 8 (2 ^ unit.val))))

/-- R113: the downlink is lost at the front end: both drivers stop. -/
def execDownlinkLossStop (act : Act) (s : State) : Host.Outcome State Fault Refusal :=
  .next (s.setFe act ((s.fe act).stopMask 3))

/-- R113, R99: WIH stops the units of its mask, both where the complement is wrong. -/
def execWih (act : Act) (mask comp reason : Byte) (s : State) : Host.Outcome State Fault Refusal :=
  let m := if comp = mask ^^^ 0xFF then mask.toNat % 4 else 3
  .next (((s.setArrives act.port true (.wih mask comp reason)).setFe act ((s.fe act).stopMask m)).returnCredits act)

/-- R116: SLP, sent only with no sequenced cell outstanding either way and no write armed: the front end is dormant. -/
def execSlp (act : Act) (s : State) : Host.Outcome State Fault Refusal :=
  let l := s.link act.port
  let f := s.fe act
  if s.linkUp act.port ∧ l.ctl.replay.isEmpty ∧ l.par.replay.isEmpty ∧ !f.u0.busy ∧ !f.u1.busy then
    let g := { f with dormant := true, u0 := { f.u0 with pathOn := false }, u1 := { f.u1 with pathOn := false } }
    .next (((s.setArrives act.port true .slp).setFe act g).put (linkStateFld act.port) 5)
  else .next s

/-- R125, R116: activity on downlink lane 0 wakes a dormant front end: a link-up from step 1, with the trained receiver
settings kept. -/
def execWakeFromDormant (act : Act) (s : State) : Host.Outcome State Fault Refusal :=
  if s.linkState act.port = 5 then
    .next ((s.setFe act { s.fe act with dormant := false }).trainStart act.port true)
  else .next s

/-- R126: LBX ends LB3 and LB4 in the partner chip. -/
def execLbx (port : Port) (s : State) : Host.Outcome State Fault Refusal :=
  let s1 := s.setArrives port true .lbx
  match portAct port with
  | some x => .next (s1.setFe x { s1.fe x with loop := 0 })
  | none => .next { s1 with motion := { s1.motion with loop := false } }

end Sys2Proof.Machine
end

