-- ==== Sys2Proof/Machine/Motion.lean ====
section
/-!
DEFINITION. The motion power chip (R117 to R122): the commands it executes, its set-points, and what it does by itself on a
power failure and a silent link.
-/

namespace Sys2Proof.Machine

/-- The chip hears its link. -/
def State.motHears (s : State) : Bool := s.linkUp .zhosel && !s.motion.inReset && !s.motion.loop

/-- The chip executes a command: new state, STATUS and body of the answer. -/
def State.motExec (s : State) (unit opcode : Nat) (tag : Byte) (f : MotionChip → MotionChip × Nat × Bytes) : State :=
  if !s.motHears then s
  else
    let r := f s.motion
    (({ (s.parAccept .zhosel) with motion := r.1 } : State)).answer .zhosel unit r.2.1 opcode tag r.2.2

/-- R118 0x01. -/
def execZhoselIdent (tag : Byte) (s : State) : Host.Outcome State Fault Refusal :=
  .next (s.motExec 0 0x01 tag fun m => (m, 0, padTo 20 (Config.partnerIdent 2)))

/-- R118 0x02. -/
def execZhoselConfig (tag : Byte) (period tmo shock retract : BitVec 16) (s : State) : Host.Outcome State Fault Refusal :=
  .next (s.motExec 0 0x02 tag fun m =>
    if inRange 5 1000 period.toNat ∧ inRange 500 10000 tmo.toNat ∧ inRange 10 200 retract.toNat then
      ({ m with mstat := period, linkTmo := tmo, shockWi := shock, retractUs := retract }, 0, [])
    else (m, 2, []))

/-- R118 0x03. -/
def execAux (tag : Byte) (onOff : Byte) (s : State) : Host.Outcome State Fault Refusal :=
  .next (s.motExec 0 0x03 tag fun m => if onOff.toNat > 1 then (m, 2, []) else ({ m with aux := onOff != 0 }, 0, []))

/-- R118 0x10. -/
def execSpinMode (tag : Byte) (mode samples : Byte) (limit : BitVec 16) (s : State) : Host.Outcome State Fault Refusal :=
  .next (s.motExec 0 0x10 tag fun m =>
    if mode.toNat > 3 ∨ !([16, 32, 64].contains samples.toNat) then (m, 2, [])
    else ({ m with mode := mode.toNat, samples := samples.toNat, limit := limit, hold := false }, 0, []))

/-- R118 0x11, R131: eight entries from BASE on. -/
def execSpinTable (tag : Byte) (base : BitVec 16) (entries : List (BitVec 16)) (s : State) :
    Host.Outcome State Fault Refusal :=
  .next (s.motExec 0 0x11 tag fun m =>
    if base.toNat % 8 ≠ 0 ∨ base.toNat ≥ 1024 ∨ entries.length ≠ 8 then (m, 2, [])
    else
      ({ m with table := m.table.mapIdx fun i v =>
          if base.toNat ≤ i ∧ i < base.toNat + 8 then (entries.getD (i - base.toNat) 0).toInt else v }, 0, []))

/-- A link time has passed (R117): it lies before another, modulo 2^32. -/
def ltPassed (t now : Word) : Bool := t != now && decide ((now - t).toNat < 2 ^ 31)

/-- R118 0x12, R130: one that arrives late applies at once, its ANGLE advanced by RATE for each tick passed, with LATE. -/
def execSpinDrive (tag : Byte) (applyLt angle rate : Word) (ampl : BitVec 16) (lt : Word) (s : State) :
    Host.Outcome State Fault Refusal :=
  .next (s.motExec 0 0x12 tag fun m =>
    if ltPassed applyLt lt then
      ({ m with lt := lt, applyLt := lt, angle := angle + rate * (lt - applyLt), rate := rate.toInt, ampl := ampl }, 0, [1])
    else ({ m with lt := lt, applyLt := applyLt, angle := angle, rate := rate.toInt, ampl := ampl }, 0, [0]))

/-- R118 0x20, R119: the coils named are enabled with their limits, and their set-points are taken again. -/
def execVcmEn (tag : Byte) (mask : Byte) (limA limB : BitVec 16) (s : State) : Host.Outcome State Fault Refusal :=
  .next (s.motExec 0 0x20 tag fun m =>
    if mask.toNat > 3 then (m, 2, [])
    else
      let m1 := if mask.getLsbD 0 then { m with vcmA := true, limA := limA, retractA := false } else m
      (if mask.getLsbD 1 then { m1 with vcmB := true, limB := limB, retractB := false } else m1, 0, []))

/-- R118 0x21: the microactuators driven for the actuator of UNIT. -/
def execMaSelect (act : Act) (tag : Byte) (idx0 idx1 : Byte) (s : State) : Host.Outcome State Fault Refusal :=
  let ok (b : Byte) : Bool := decide (b.toNat ≤ 11) || b == 0xFF
  .next (s.motExec act.num 0x21 tag fun m =>
    if ok idx0 ∧ ok idx1 then
      ({ m with ma := (m.ma.set (2 * act.num) idx0.toNat).set (2 * act.num + 1) idx1.toNat }, 0, [])
    else (m, 2, []))

/-- Retract the actuators of a mask: their coils no longer follow set-points. -/
def MotionChip.retract (m : MotionChip) (mask : Nat) : MotionChip :=
  let m1 := if mask.testBit 0 then { m with retractA := true, vcmA := false, spA := .zero } else m
  if mask.testBit 1 then { m1 with retractB := true, vcmB := false, spB := .zero } else m1

/-- R118 0x22. -/
def execRetract (tag : Byte) (mask : Byte) (s : State) : Host.Outcome State Fault Refusal :=
  .next (s.motExec 0 0x22 tag fun m => if mask.toNat > 3 then (m, 2, []) else (m.retract mask.toNat, 0, []))

/-- R118 0x30: refused unless the spindle is in mode 0 below 30 rpm and both actuators are retracted. -/
def execZhoselLoop (tag : Byte) (depth : Byte) (rpm : Nat) (s : State) : Host.Outcome State Fault Refusal :=
  .next (s.motExec 0 0x30 tag fun m =>
    if depth ≠ 3 then (m, 2, [])
    else if m.mode = 0 ∧ rpm < 30 ∧ m.retractA ∧ m.retractB then ({ m with loop := true }, 0, [])
    else (m, 3, []))

/-- R119: a set-point applies at APPLY_LT; one late by more than 20 µs is discarded and counted, one for a retracted
actuator is ignored. A microactuator that MA_SELECT does not name is driven to 0. -/
def execSetpt (act : Act) (wedge : BitVec 16) (applyLt : Word) (vcm ma0 ma1 : BitVec 16) (lt : Word) (s : State) :
    Host.Outcome State Fault Refusal :=
  if !s.motHears then .next s
  else
    let m : MotionChip := { s.motion with lt := lt }
    let s1 := s.parAccept .zhosel
    let off : Bool := match act with | .a => m.retractA || !m.vcmA | .b => m.retractB || !m.vcmB
    if off then .next { s1 with motion := m }
    else if ltPassed applyLt lt ∧ (lt - applyLt).toNat > 2500 then
      .next (({ s1 with motion := { m with discarded := min 255 (m.discarded + 1) } } : State).parSend .zhosel
        ⟨0x13, act.num, 0, 0, 0x24, toLe 1 0x24 ++ toLe 1 act.num ++ toLe 2 wedge.toNat ++ toLe 4 lt.toNat, 0⟩)
    else
      let named (i : Nat) : Bool := m.ma.getD (2 * act.num + i) 0xFF != 0xFF
      let sp : SetPoint := ⟨applyLt, vcm.toInt, if named 0 then ma0.toInt else 0, if named 1 then ma1.toInt else 0⟩
      .next { s1 with motion := match act with | .a => { m with spA := sp } | .b => { m with spB := sp } }

/-- R122: no valid traffic for LINK_TMO: both actuators are retracted, and the spindle is kept turning from the last
SPIN_DRIVE for 1 s. -/
def execLinkTmoExpire (s : State) : Host.Outcome State Fault Refusal :=
  if s.linkUp .zhosel ∨ s.motion.inReset then .next s
  else .next { s with motion := { s.motion.retract 3 with hold := s.motion.mode == 1, ownOsc := true } }

/-- R121 step 4: no RETRACT arrived within RETRACT_DELAY after the power failure: the chip retracts both actuators. -/
def execRetractDelayExpire (s : State) : Host.Outcome State Fault Refusal :=
  if s.motion.powerFail then .next { s with motion := s.motion.retract 3 } else .next s

end Sys2Proof.Machine
end

