-- ==== Sys2Proof/Machine/ServoOps.lean ====
section
/-!
DEFINITION. What other blocks ask of the servo loop engines: the state of an actuator, stopping its writes (R22, R113),
retract and unload (R181).
-/

namespace Sys2Proof.Machine

/-- The state of an actuator (R185): 0 unloaded, 1 loading, 2 seek, 3 settle, 4 track-follow, 5 lock lost, 6 retracted, 7 out
of service. -/
def State.actState (s : State) (x : Act) : Nat := s.get (Reg.SLE.ACT_STATUS.STATE x.num)

/-- Enter a state; the permit stands only in track-follow. -/
def State.toAct (s : State) (x : Act) (n : Nat) : State :=
  let s1 := s.put (Reg.SLE.ACT_STATUS.STATE x.num) n
  if n = 4 then s1 else s1.put (Reg.SLE.ACT_STATUS.PERMIT x.num) 0

/-- The channel of a unit (R108). -/
def chanOf (x : Act) (u : Nat) : Nat := 2 * x.num + u

/-- The actuator of a channel (R9). -/
def chanAct (ch : Nat) : Act := if ch < 2 then .a else .b

/-- A transfer is in progress on a unit. -/
def State.transferring (s : State) (x : Act) (u : Nat) : Bool :=
  match s.fsqs[chanOf x u]? with | some f => f.cur.isSome | none => false

/-- Change a format sequencer. -/
def State.setFsq (s : State) (n : Nat) (f : Fsq) : State := { s with fsqs := setAt s.fsqs n f }

/-- R247: a channel's head that is no longer selected has its assist element off: ASSIST_SET with MODE 0. -/
def State.assistOff (s : State) (ch : Nat) : State :=
  match s.rwcs[ch]? with
  | none => s
  | some c =>
    match c.lastAssist with
    | none => s
    | some (h, m, _) =>
      let s1 : State := { s with rwcs := setAt s.rwcs ch { c with lastAssist := none } }
      if m = 0 then s1 else s1.feCmd (chanAct ch) 0 0x0A (toLe 1 (h % 12) ++ zeros 9)

/-- R113: WIH for the units of a mask; the spec gives REASON no coding: a free value. -/
def State.sendWih (s : State) (x : Act) (mask : Nat) : State :=
  let m := BitVec.ofNat 8 mask
  let (r, s1) := s.free
  s1.sendSet x.port true (.wih m (m ^^^ 0xFF) (BitVec.ofNat 8 r))

/-- R22: the format sequencers of the units of a mask deassert their write gates; a write in progress is stopped. -/
def State.stopUnits (s : State) (x : Act) (mask : Nat) : State :=
  (List.range 2).foldl (fun (t : State) u =>
    if !mask.testBit u then t
    else
      let ch := chanOf x u
      let open_ := t.rep.gates.getD ch false
      let t1 : State := { t with rep := { t.rep with gates := setAt t.rep.gates ch false } }
      match t1.fsqs[ch]? with
      | some f => if open_ then t1.setFsq ch { f with stopped := true } else t1
      | none => t1) s

/-- R22, R113: as stopUnits, with WIH for the units whose gates were open. -/
def State.stopWrites (s : State) (x : Act) (mask : Nat) : State :=
  let open_ := (List.range 2).foldl (fun a u =>
    if mask.testBit u ∧ s.rep.gates.getD (chanOf x u) false then a + 2 ^ u else a) 0
  let s1 := s.stopUnits x mask
  if open_ = 0 then s1 else s1.sendWih x open_

/-- The microactuator loops of both units are off. -/
def State.microOff (s : State) (x : Act) : State :=
  let v := s.servo x
  (((s.setServo x { v with
      u0 := { v.u0 with xhat := [], drive := 0, micro := none }, u1 := { v.u1 with xhat := [], drive := 0, micro := none } }).put
    (Reg.SLE.ACT_STATUS.U0_MODE x.num) 3).put (Reg.SLE.ACT_STATUS.U1_MODE x.num) 3)

/-- R181: retract from wherever the arm is: RETRACT is sent, and no SETPT follows. -/
def State.retractAct (s : State) (x : Act) : State :=
  let s1 := (s.stopWrites x 3).motCmd 0 0x22 (toLe 1 (2 ^ x.num))
  let v := s1.servo x
  ((s1.setServo x { v with seek := none, nextSeek := none, unloading := false, resume := none, drive := 0 }).microOff x).toAct x 6

/-- R181: unload: the arm seeks to track 0 with the microactuators at 0, then RETRACT follows; without a position it is sent
at once. -/
def State.unloadAct (s : State) (x : Act) : State :=
  let st := s.actState x
  if st = 0 ∨ st = 6 ∨ st = 7 then s
  else if st = 1 ∨ st = 5 then
    let s1 := s.retractAct x
    s1.setServo x { s1.servo x with unloading := true }
  else
    let s1 := (s.stopWrites x 3).microOff x
    let v := s1.servo x
    (s1.setServo x { v with
      unloading := true, nextSeek := none, resume := none, seek := some ⟨v.arm, 0, 0, 0, 0⟩
      u0 := { v.u0 with offset := 0, pend := none }, u1 := { v.u1 with offset := 0, pend := none } }).toAct x 2

/-- Both actuators unload. -/
def State.unloadBoth (s : State) : State := (s.unloadAct .a).unloadAct .b

/-- Both actuators are off the disc. -/
def State.unloaded (s : State) : Bool := [Act.a, Act.b].all fun x => [0, 6, 7].contains (s.actState x)

end Sys2Proof.Machine
end

