-- ==== Sys2Proof/Machine/Spindle.lean ====
section
/-!
DEFINITION. Spindle control (R128 to R152): the rotor observer, the speed loop, demand and target, start, catch, brake,
recovery, faults, and the protected dirty limit of R150.
-/

namespace Sys2Proof.Machine

/-! ### Motor and configuration. -/

/-- The motor record (R89). -/
def State.motor (s : State) : Motor := match s.ident.base with | some b => b.motor | none => ⟨0, 0, 0, 0, 0⟩

/-- The pole pair count p (R128). -/
def State.pairs (s : State) : Nat := s.motor.poles / 2

/-- SPIN (R80). -/
def State.spinCfg (s : State) : SpinCfg := match s.cfg with | some c => c.spin | none => ⟨[], 0, 0, [], 0, 0⟩

/-- Linear interpolation on the speed curve, rounded down to a whole rpm (R136). -/
def curveAt : List (Nat × Nat) → Nat → Nat
  | (d0, r0) :: (d1, r1) :: t, d => if d ≤ d1 then r0 + (r1 - r0) * (d - d0) / (d1 - d0) else curveAt ((d1, r1) :: t) d
  | [(_, r)], _ => r
  | [], _ => 0

/-- n_min: the lowest RPM of the curve that is not 0 (R136). -/
def State.nMin (s : State) : Nat := (minNat? ((s.spinCfg.curve.map Prod.snd).filter (· != 0))).getD 0

/-- The target of a demand while running (R136). -/
def State.targetOf (s : State) (d : Nat) : Nat := max (curveAt s.spinCfg.curve d) s.nMin

/-- ω̂ in 2^-16 ANGLE units per tick of a mechanical speed (R128). -/
def State.omegaOf (s : State) (rpm : Rat) : Int := ratRound (rpm * s.pairs * (2 ^ 32 * 8 : Nat) * 65536 / (60000000000 : Nat))

/-- The mechanical speed of ω̂ in rpm (R128). -/
def State.rpmOf (s : State) (omega : Int) : Rat :=
  (omega : Rat) * (60000000000 : Nat) / ((2 ^ 32 * 8 * 65536 : Nat) * (s.pairs : Rat))

/-- Mechanical rad/s of rpm. -/
def radOf (rpm : Rat) : Rat := rpm * 2 * piR / 60

/-- Kt in N·m per A of peak phase current (R135). -/
def State.kt (s : State) : Rat := 3 / 2 * ((s.motor.ke : Rat) / 1000 / sqrt3 / (10472 / 100))

/-- J_def in g·cm² (R135). -/
def State.jDef (s : State) : Nat := match s.cfg with | some c => 120 + 250 * c.geom.headsPerAct | none => 120

/-- J in g·cm²: measured in this start, or kept for a warm start, else J_def (R135). -/
def State.inertia (s : State) : Nat :=
  let kept := s.get Reg.NST.SPIN_KEEP.J_GCM2
  if kept ≠ 0 ∧ (s.flag Reg.SPC.STATUS.J_MEASURED ∨ s.flag Reg.RCU.LAST_CAUSE.WARM) then kept else s.jDef

/-- The current limits of R129 in mA: during a start or a rise, and at speed. -/
def State.limitUp (s : State) : Nat := min s.spinCfg.spinupMa s.motor.imax
/-- As limitUp, at speed. -/
def State.limitRun (s : State) : Nat := min s.spinCfg.runMa s.motor.imax

/-- The state of the spindle controller (R153). -/
def State.spinState (s : State) : Nat := s.get Reg.SPC.STATUS.STATE

/-- Enter a state. -/
def State.toSpin (s : State) (n : Nat) : State := s.put Reg.SPC.STATUS.STATE n

/-- Change the spindle controller. -/
def State.setSpin (s : State) (v : Spindle) : State := { s with spin := v }

/-- The target in rpm. -/
def State.target (s : State) : Nat := s.get Reg.SPC.SPEED.TARGET

/-- The speed is at least a percentage of the target (R143, R145). -/
def State.speedOver (s : State) (pct : Nat) : Bool :=
  s.target != 0 && decide (s.get Reg.SPC.SPEED.RPM * 100 ≥ s.target * pct)

/-! ### The protected dirty limit (R147 to R150). -/

/-- The limit at a speed in blocks: E ÷ 3.5 W less 50 ms, at 160 MB/s, in steps of 16 MiB, at most PROT_CACHE. -/
def State.dirtyLimit (s : State) (rpm : Nat) : Nat :=
  if rpm < 300 then 0
  else
    let jh : Rat := (min s.inertia s.jDef : Nat) / (10000000 : Nat)
    let w := radOf rpm
    let wMin := radOf ((4500 : Rat) / s.motor.ke * 1000)
    let e := 6 / 10 * (1 / 2) * jh * (w * w - wMin * wMin)
    let bytes := (e / (35 / 10) - 5 / 100) * 160000000
    min ((ratFloor bytes).toNat / 0x1000000 * 4096) (s.partSize true)

/-- The limit is computed anew (R150). -/
def State.limitAt (s : State) (rpm : Nat) : State := { s with buf := { s.buf with limit := s.dirtyLimit rpm } }

/-! ### What is sent (R129, R131). -/

/-- SPIN_MODE (R118); in drive mode a change of I_lim scales the integrator (R134). Nothing is sent after a power-fail
report (R146). -/
def State.sendMode (s : State) (mode limit : Nat) : State :=
  if s.dma.paused then s
  else
    let v := s.spin
    let i := if mode = 1 ∧ v.ilim ≠ limit ∧ limit ≠ 0 then v.integ * v.ilim / limit else v.integ
    (s.setSpin { v with ilim := if mode = 1 then limit else v.ilim, integ := i }).motCmd 0 0x10
      (toLe 1 mode ++ toLe 1 64 ++ toLe 2 limit)

/-- SPIN_DRIVE with an angle, a rate and an amplitude at APPLY_LT = LT + 20 µs. -/
def State.driveAt (s : State) (lt : Word) (angle : Int) (rate : Int) (ampl : Nat) : State :=
  if s.dma.paused then s
  else s.motCmd 0 0x12 (toLe 4 ((lt + 2500).toNat) ++ toLe 4 (unsigned 32 angle) ++ toLe 4 (unsigned 32 rate) ++ toLe 2 ampl)

/-- SPIN_DRIVE from the observer (R129): the angle extrapolated to APPLY_LT, RATE = round(ω̂). -/
def State.sendDrive (s : State) (lt : Word) : State :=
  let o := s.spin.obs
  let dt := ((lt + 2500) - o.tAnchor).toNat
  s.driveAt lt ((o.theta.toNat : Int) + o.omega * dt / 65536) (roundDiv o.omega 65536)
    (if s.spin.halved then s.spin.ampl / 2 else s.spin.ampl)

/-- R131: COMM_TABLE as 128 SPIN_TABLE commands, once before the first drive mode of a start. -/
def State.sendTable (s : State) : State :=
  if s.spin.tableSent then s
  else
    let t := s.spinCfg.comm
    (List.range 128).foldl (fun (a : State) i =>
      a.motCmd 0 0x11 (toLe 2 (8 * i) ++ (List.range 8).flatMap fun k => toLe 2 (unsigned 16 (t.getD (8 * i + k) 0))))
      (s.setSpin { s.spin with tableSent := true })

/-! ### Targets. -/

/-- AT_SPEED clears; new writes are held (R137). -/
def State.offSpeed (s : State) : State :=
  (((s.put Reg.SPC.STATUS.AT_SPEED 0).put Reg.SPC.STATUS.WRITE_HOLD 1)).setSpin { s.spin with revs := 0 }

/-- Take a new target (R137): a rise runs at the spin-up limit. -/
def State.takeTarget (s : State) (n : Nat) : State :=
  let rise := decide (n > s.target)
  let s1 := (s.offSpeed).put Reg.SPC.SPEED.TARGET n
  if rise ∧ s1.spinState = 5 then s1.sendMode 1 s1.limitUp else s1

/-- Observation (R139): the bridge is tristated and crossings are collected. -/
def State.observe (s : State) : State :=
  let s1 := s.offSpeed.setSpin { s.spin with
    seen := [], ramp := 0, revs := 0, coast := false, riseFrom := none, fromRest := false, braking := false,
    handover := false, halved := false, warmCatch := false, obs := .reset, integ := 0, ampl := 0 }
  (s1.toSpin 1).sendMode 0 0

/-- A stopped spindle starts (R136, R139). -/
def State.startSpin (s : State) : State :=
  let s1 := s.put Reg.SPC.SPEED.TARGET (s.targetOf s.spin.demand)
  (s1.setSpin { s1.spin with attempts := 0, moved := false, pending := none }).observe

/-- The spindle stops (R434): it is braked below 30 rpm, then the bridge is tristated. -/
def State.stopSpin (s : State) : State :=
  let s1 := (s.offSpeed.put Reg.SPC.SPEED.TARGET 0)
  ((s1.setSpin { s1.spin with braking := true, pending := none, stopAfter := false }).toSpin 2).sendMode 2 s1.motor.imax

/-- R138: the lowered target is taken once the protected dirty data are within the limit of the new speed. -/
def State.lowerTarget (s : State) : State :=
  match s.spin.pending with
  | some n =>
    if n < s.target ∧ s.dirty true ≤ s.buf.limit ∧ s.spinState ≠ 6 then
      let s1 := s.setSpin { s.spin with pending := none }
      if n = 0 then s1.stopSpin else s1.takeTarget n
    else s
  | none => s

/-- R136, R138, R146: the demand in force is D. -/
def State.setDemand (s : State) (d : Nat) : State :=
  let s0 := s.setSpin { s.spin with demand := d }
  let st := s.spinState
  if st = 0 then (if d ≥ s.spinCfg.turnOn then s0.startSpin else s0)
  else if st = 7 ∨ s.spin.braking then s0
  else
    let n := if d ≤ s.spinCfg.turnOff then 0 else s.targetOf d
    if n = s.target then s0.setSpin { s0.spin with pending := none, stopAfter := false }
    else if n > s.target then
      (s0.setSpin { s0.spin with pending := some n, stopAfter := false }).limitAt (min s0.target n)
    else
      let s1 := (s0.setSpin { s0.spin with pending := some n, stopAfter := decide (n = 0 ∧ st = 6) }).limitAt n
      s1.lowerTarget

/-- R136: the demand changes; from P0 to P11 it is held at 255. -/
def execSpeedDemandChange (demand : Byte) (s : State) : Host.Outcome State Fault Refusal :=
  if s.phase = 0xF then .next (s.setDemand demand.toNat) else .next s

/-- R138. -/
def execTargetLower (s : State) : Host.Outcome State Fault Refusal := .next s.lowerTarget

/-! ### Faults (R151). -/

/-- A spindle fault: the bridge is tristated, the heads unload, the detail is recorded; in a start it holds the start with
code 0x70; after P11 the first is retried, the second leaves the spindle stopped. -/
def State.spinFault (s : State) (detail : Nat) : State :=
  let s1 := ((s.offSpeed.toSpin 7).sendMode 0 0).unloadBoth
  let s2 := ((s1.put Reg.SPC.FAULT.DETAIL detail).put Reg.SPC.FAULT.VALID 1).count 0x13 detail 1
  let s3 := (s2.setSpin { s2.spin with
    pending := none, braking := false, coast := false, handover := false, faults := s2.spin.faults + 1 }).limitAt 0
  if s.phase = 0xF then
    if s3.spin.faults ≤ 1 then s3.setSpin { s3.spin with retryDue := true } else s3.warn 2 20
  else (s3.hold 0x70 detail).holdIo

/-- R151: 10 s after a fault after P11 one new start runs. -/
def execSpindleFaultRetry (s : State) : Host.Outcome State Fault Refusal :=
  if s.spinState = 7 ∧ s.spin.retryDue then .next (s.setSpin { s.spin with retryDue := false }).startSpin
  else .next s

/-- R143: the target is not reached within 24 s of entering P8. -/
def execSpinUpTimeout (s : State) : Host.Outcome State Fault Refusal :=
  if [8, 9, 10].contains s.phase ∧ s.start.rst = .running ∧ !s.held ∧ !s.flag Reg.SPC.STATUS.AT_SPEED then
    .next (s.spinFault 4)
  else .next s

/-! ### Observation and what follows (R139 to R142). -/

/-- The place of a crossing in forward order, 1 to 6 (R128). -/
def Crossing.num (c : Crossing) : Nat :=
  match c.phase, c.rising with
  | 0, true => 1
  | 1, false => 2
  | 2, true => 3
  | 0, false => 4
  | 1, true => 5
  | _, _ => 6

/-- Steps in forward and in backward order between consecutive crossings. -/
def orderSteps : List Crossing → Nat × Nat
  | a :: b :: t =>
    let (f, r) := orderSteps (b :: t)
    (if b.num = a.num % 6 + 1 then f + 1 else f, if a.num = b.num % 6 + 1 then r + 1 else r)
  | _ => (0, 0)

/-- The mechanical speed from the crossing intervals (R139): 60° of an electrical cycle each. -/
def State.seenRpm (s : State) (l : List Crossing) : Nat :=
  match l.head?, l.getLast? with
  | some a, some b =>
    let dt := (b.lt - a.lt).toNat
    if l.length < 2 ∨ dt = 0 ∨ s.pairs = 0 then 0
    else (l.length - 1) * 60 * 125000000 / (6 * s.pairs * dt)
  | _, _ => 0

/-- The angle of a crossing (R128). -/
def zcAngle (k : Nat) : Nat := (k - 1) * 2 ^ 32 / 6

/-- Catch (R140): θ̂ from the last crossing, ω̂ from the last three intervals, AMPL from 0 over 4 cycles, the loss test
suspended for 12 crossings. -/
def State.catch_ (s : State) (l : List Crossing) : State :=
  let r := l.reverse
  match r.head?, (r.drop 3).head? with
  | some z, some a =>
    let dt := (z.lt - a.lt).toNat
    let o : Observer := { Observer.reset with
      theta := BitVec.ofNat 32 (zcAngle z.num), omega := if dt = 0 then 0 else roundDiv (2 ^ 31 * 65536 : Nat) dt,
      tAnchor := z.lt, tPrev := z.lt, suspend := 12, last := some z.num }
    let s1 := s.sendTable.setSpin { s.sendTable.spin with
      obs := o, integ := 0, ampl := 0, ramp := 4, seen := [], fromRest := false, riseFrom := none }
    let s2 := ((s1.toSpin 5).put Reg.SPC.SPEED.RPM (ratFloor (s1.rpmOf o.omega)).toNat).sendMode 1 s1.limitUp
    s2.sendDrive z.lt
  | _, _ => s

/-- Alignment (R142 step 1): drive mode at the angle of θ = 0. -/
def State.align (s : State) : State :=
  let s1 := s.sendTable
  ((s1.setSpin { s1.spin with seen := [], riseFrom := none, obs := .reset, handover := false }).toSpin 3).sendMode 1 s1.limitUp

/-- Braking before alignment (R141). -/
def State.brake (s : State) : State :=
  ((s.setSpin { s.spin with braking := false, seen := [] }).toSpin 2).sendMode 2 s.motor.imax

/-- What observation finds and does (R139, R140). -/
def State.observed (s : State) : State :=
  let l := s.spin.seen
  let rpm := s.seenRpm l
  let (f, r) := orderSteps l
  let back := decide (l.length ≥ 3 ∧ r > f)
  let fwd := decide (l.length ≥ 3 ∧ f > r)
  let s1 := (s.putB Reg.SPC.STATUS.BACKWARD back).put Reg.SPC.SPEED.RPM rpm
  if l.length < 2 ∨ rpm < 30 then s1.align
  else if fwd ∧ rpm ≥ 300 ∧ l.length ≥ 4 then
    let warm := s.flag Reg.RCU.LAST_CAUSE.WARM && s.phase == 8 &&
      decide (rpm * 100 ≥ s.get Reg.NST.SPIN_KEEP.TARGET_RPM * 95)
    let s2 := s1.catch_ l
    s2.setSpin { s2.spin with warmCatch := warm }
  else s1.brake

/-- R139, R140: the observation ends. -/
def execObservationEnd (s : State) : Host.Outcome State Fault Refusal :=
  if s.spinState = 1 then .next s.observed else .next s

/-- The stopped spindle (R434, R150). -/
def State.stopped (s : State) : State :=
  let s1 := ((((s.toSpin 0).sendMode 0 0).put Reg.SPC.SPEED.RPM 0).put Reg.SPC.SPEED.TARGET 0).limitAt 0
  let s2 := s1.setSpin { s1.spin with braking := false }
  if s2.phase = 0xF ∧ s2.spin.demand ≥ s2.spinCfg.turnOn then s2.startSpin else s2

/-- R141: no crossing for 1 ÷ (3p) s: the rotor is below 30 rpm. -/
def execBrakeBelow30rpm (s : State) : Host.Outcome State Fault Refusal :=
  if s.spinState ≠ 2 then .next s
  else if s.spin.braking then .next s.stopped
  else .next s.align

/-- R141: a start whose braking has not reached 30 rpm within 8 s. -/
def execBrakeTimeout (s : State) : Host.Outcome State Fault Refusal :=
  if s.spinState = 2 ∧ !s.spin.braking then .next (s.spinFault 1) else .next s

/-- R142 step 2: the alignment ends and the open-loop ramp starts. -/
def execAlignmentDone (s : State) : Host.Outcome State Fault Refusal :=
  if s.spinState = 3 then
    .next ((s.setSpin { s.spin with riseFrom := none, ampl := 65535, handover := false }).toSpin 4)
  else .next s

/-- R142 step 3: the ramp has reached 300 rpm: the observer starts. -/
def execOpenLoopRampDone (s : State) : Host.Outcome State Fault Refusal :=
  if s.spinState = 4 ∧ !s.spin.handover then
    .next (s.setSpin { s.spin with handover := true, obs := { Observer.reset with omega := s.omegaOf 300 } })
  else .next s

/-- R142 step 5: the handover has not succeeded within 0.5 s. -/
def execHandoverTimeout (moved : Bool) (s : State) : Host.Outcome State Fault Refusal :=
  if s.spinState = 4 ∧ s.spin.handover then
    let n := s.spin.attempts + 1
    let s1 := s.setSpin { s.spin with attempts := n, moved := s.spin.moved || moved, handover := false }
    .next (if n ≥ 3 then s1.spinFault (if s1.spin.moved then 3 else 2) else s1.align)
  else .next s

/-- R129, R142: below 1,000 rpm a SPIN_DRIVE goes out at least every 50 µs: the alignment's rising AMPL, the ramp's rising
RATE, or the observer's angle. -/
def execSpinDriveRefresh (lt : Word) (s : State) : Host.Outcome State Fault Refusal :=
  let st := s.spinState
  let from_ := s.spin.riseFrom.getD lt
  let t := (lt - from_).toNat
  let s1 := s.setSpin { s.spin with riseFrom := some from_ }
  if st = 3 then
    let a := 65535 * min t 12500000 / 12500000
    .next ((s1.setSpin { s1.spin with ampl := a }).driveAt lt 0xC0000000 0 a)
  else if st = 4 then
    let u := min t 125000000
    let full := s.omegaOf 300
    let rate := full * u / 125000000
    let angle := full * u * u / (2 * 125000000 * 65536) + full * (t - u : Nat) / 65536
    .next (s1.driveAt lt angle (roundDiv rate 65536) s1.spin.ampl)
  else if st = 5 ∧ s.get Reg.SPC.SPEED.RPM < 1000 then .next (s.sendDrive lt)
  else .next s

/-! ### The speed loop (R134 to R137). -/

/-- At speed (R137): AT_SPEED sets, I_lim becomes RUN_MA, the dirty limit is computed; a start's P8 ends (R143). -/
def State.atSpeed (s : State) : State :=
  let s1 := ((s.put Reg.SPC.STATUS.AT_SPEED 1).put Reg.SPC.STATUS.WRITE_HOLD 0).sendMode 1 s.limitRun
  let s2 := s1.limitAt s1.target
  if s2.inPhase 8 ∧ !s2.held then s2.toPhase 9 else s2

/-- R134: the loop's output u for an error in rad/s at an electrical period in s; the integrator is held while it
saturates. -/
def State.loopStep (s : State) (e te : Rat) : State × Rat :=
  let i := (s.spin.ilim : Rat) / 1000
  let kp := 2 * piR * 4 * ((s.inertia : Rat) / (10000000 : Nat)) / (s.kt * i)
  let ki := kp * 2 * piR * te
  let u := kp * e + s.spin.integ
  if 0 ≤ u ∧ u ≤ 1 then (s.setSpin { s.spin with integ := s.spin.integ + ki * e }, u) else (s, ratClamp 0 1 u)

/-- A target that is waiting and higher is taken at a sample of the speed loop (R137). -/
def State.raiseTarget (s : State) : State :=
  match s.spin.pending with
  | some n => if n > s.target then (s.setSpin { s.spin with pending := none }).takeTarget n else s
  | none => s

/-- The inertia run (R135): the rise from 1,000 rpm begins, and at 3,000 rpm the coast with AMPL 0. -/
def State.inertiaRun (s : State) (rpm : Nat) (t : Word) : State :=
  if !s.spin.fromRest ∨ s.spin.coast then s
  else if s.spin.riseFrom.isNone ∧ rpm ≥ 1000 ∧ rpm < 3000 then s.setSpin { s.spin with riseFrom := some t }
  else if s.spin.riseFrom.isSome ∧ rpm ≥ 3000 then s.setSpin { s.spin with coast := true, ampl := 0 }
  else s

/-- R134, R137: one sample of the speed loop, at crossing 1. -/
def State.speedLoop (s : State) (t : Word) : State :=
  let rpm := s.rpmOf s.spin.obs.omega
  let n := (ratFloor rpm).toNat
  let s1 := ((s.put Reg.SPC.SPEED.RPM n).setSpin { s.spin with halved := false }).raiseTarget
  if s1.spin.coast then s1
  else
    let tgt : Rat := s1.target
    let te : Rat := if rpm ≤ 0 ∨ s.pairs = 0 then 0 else 60 / (rpm * s.pairs)
    let (s2, u) := s1.loopStep (radOf tgt - radOf rpm) te
    let r := s2.spin.ramp
    let a := (ratRound (65535 * u * (if r = 0 then 1 else (5 - r : Rat) / 4))).toNat
    let s3 := (s2.setSpin { s2.spin with ampl := a, ramp := r - 1 }).inertiaRun n t
    let err := ratAbs (rpm - tgt)
    let s4 :=
      if err * 1000 ≤ tgt then
        let k := s3.spin.revs + 1
        let s' := s3.setSpin { s3.spin with revs := k }
        if k ≥ 16 * s.pairs ∧ !s'.flag Reg.SPC.STATUS.AT_SPEED then s'.atSpeed else s'
      else
        let s' := s3.setSpin { s3.spin with revs := 0 }
        if err * 200 > tgt ∧ s'.flag Reg.SPC.STATUS.AT_SPEED then s'.offSpeed else s'
    if s4.spin.warmCatch ∧ s4.spin.ramp = 0 ∧ s4.inPhase 8 then
      (s4.setSpin { s4.spin with warmCatch := false }).toPhase 9
    else s4

/-- R135: the coast ends: J is computed, kept for a warm start, and the dirty limit follows. -/
def execJCoastEnd (riseUs decel : Nat) (s : State) : Host.Outcome State Fault Refusal :=
  if s.spinState ≠ 5 ∨ !s.spin.coast then .next s
  else
    let ta : Rat := (riseUs : Rat) / 1000000
    let acc : Rat := (if ta = 0 then 0 else (20944 / 100) / ta) + (decel : Rat) / 1000
    let j : Rat := if acc = 0 then 0 else s.kt * (s.spin.ilim : Rat) / 1000 / acc * 10000000
    let s1 := (s.put Reg.NST.SPIN_KEEP.J_GCM2 (min 0xFFFF (ratRound j).toNat)).put Reg.SPC.STATUS.J_MEASURED 1
    let s2 := s1.setSpin { s1.spin with coast := false, fromRest := false, riseFrom := none }
    .next (s2.limitAt (min s2.target (s2.get Reg.SPC.SPEED.RPM)))

/-! ### Losing the rotor (R144, R145). -/

/-- A new start from observation with the heads unloaded (R145). -/
def State.respin (s : State) (now : Nat) : State :=
  let s1 := (s.unloadBoth).count 0x12 0 1
  (s1.setSpin { s1.spin with respinAt := some now, attempts := 0, moved := false }).observe

/-- The rotor is declared lost. -/
def State.rotorLost (s : State) (now : Nat) : State :=
  let recent := (s.spin.losses.filter fun t => decide (now - t ≤ 60000)) ++ [now]
  let s1 := ((s.offSpeed.bump Reg.SPC.STATUS.LOSSES 1).count 0x11 0 1)
  let s2 := s1.setSpin { s1.spin with losses := recent, seen := [], coast := false, halved := false }
  match s.spin.respinAt with
  | some t =>
    if now - t ≤ 60000 then s2.spinFault 6
    else if recent.length ≥ 3 then (s2.setSpin { s2.spin with losses := [] }).respin now
    else (s2.toSpin 6).sendMode 0 0
  | none =>
    if recent.length ≥ 3 then (s2.setSpin { s2.spin with losses := [] }).respin now else (s2.toSpin 6).sendMode 0 0

/-- R144, R145: two cycles of tristate end: with four consecutive forward crossings the rotor is caught, else the observation
is extended; below 85 % of the target the spindle starts again. -/
def execRotorRecoveryEnd (forward now : Nat) (s : State) : Host.Outcome State Fault Refusal :=
  if s.spinState ≠ 6 then .next s
  else
    let l := s.spin.seen
    let rpm := s.seenRpm l
    if l.length ≥ 2 ∧ rpm * 100 < s.target * 85 then .next (s.respin now)
    else if forward ≥ 4 ∧ l.length ≥ 4 then
      let s1 := s.catch_ l
      .next (if s1.spin.stopAfter then s1.lowerTarget else s1)
    else .next (s.toSpin 1)

/-! ### Crossings (R132, R133, R142). -/

/-- The handover succeeds (R142 step 4): the speed loop closes, unless the back-EMF is off KE by more than 25 % (R152). -/
def State.handoverOk (s : State) : State :=
  let ll := sqrt3 * s.spin.obs.peak
  let want := (s.motor.ke : Rat) * s.rpmOf s.spin.obs.omega / 1000
  if ratAbs (ll - want) * 4 > want then s.spinFault 7
  else
    ((s.setSpin { s.spin with handover := false, integ := 0, ramp := 0, fromRest := true, riseFrom := none }).toSpin 5).count
      0x10 0 1

/-- R133, R144: a back-EMF crossing at a time updates the observer; three errors over 30° in a row lose the rotor, twelve
forward crossings within 30° end a handover; a SPIN_DRIVE follows (R129). -/
def State.crossing (s : State) (c : Crossing) (now : Nat) : State :=
  let o := s.spin.obs
  let closed := decide (s.spinState = 5)
  let hand := decide (s.spinState = 4) && s.spin.handover
  if !closed ∧ !hand then s
  else
    let k := c.num
    let o1 : Observer :=
      match o.last with
      | none => { o with theta := BitVec.ofNat 32 (zcAngle k), tAnchor := c.lt, tPrev := c.lt, last := some k, good := 1 }
      | some j =>
        let pred := (o.theta.toNat : Int) + o.omega * ((c.lt - o.tAnchor).toNat : Nat) / 65536
        let eps := signed 32 (unsigned 32 ((zcAngle k : Nat) - pred))
        let dt := (c.lt - o.tPrev).toNat
        let dw := if dt = 0 then 0 else roundDiv (eps * 65536) (32 * dt)
        let wide := decide (intAbs eps * 12 > (2 ^ 32 : Nat))
        { o with
          theta := BitVec.ofNat 32 (unsigned 32 (pred + roundDiv eps 4)), omega := clampI (-(2 ^ 47)) (2 ^ 47 - 1) (o.omega + dw),
          tAnchor := c.lt, tPrev := c.lt, last := some k,
          lost := if o.suspend > 0 ∨ !wide then 0 else o.lost + 1, suspend := o.suspend - 1,
          good := if !wide ∧ k = j % 6 + 1 then o.good + 1 else 0 }
    let s1 := s.setSpin { s.spin with obs := o1 }
    if hand then (if o1.good ≥ 12 then (s1.handoverOk) else s1)
    else if o1.lost ≥ 3 then s1.rotorLost now
    else
      let s2 := if k = 1 then s1.speedLoop c.lt else s1
      if s2.spinState = 5 then s2.sendDrive c.lt else s2

/-- The crossings that a pair of ELEC cells shows (R132), with the time of each by linear interpolation. -/
def elecCrossings (p : ElecPrev) (lt : Word) (eU eV eW : Rat) : List Crossing :=
  let dt : Rat := ((lt - p.lt).toNat : Nat)
  let one (ph : Nat) (a b : Rat) : Option Crossing :=
    if decide (a < 0) = decide (b < 0) then none
    else some ⟨p.lt + BitVec.ofNat 32 (ratFloor (dt * ratAbs a / (ratAbs a + ratAbs b))).toNat, ph, decide (a < 0)⟩
  let l := [one 0 p.eU eU, one 1 p.eV eV, one 2 p.eW eW].filterMap id
  l.foldl (fun (acc : List Crossing) c =>
    (acc.filter fun d => decide ((d.lt - p.lt).toNat ≤ (c.lt - p.lt).toNat)) ++ [c] ++
      (acc.filter fun d => decide ((d.lt - p.lt).toNat > (c.lt - p.lt).toNat))) []

/-- R132: an ELEC cell: the back-EMF of each phase from the motor record, and the crossings since the last cell. -/
def State.elecCell (s : State) (lt : Word) (iU iV vU vV vW : Int) (now : Nat) : State :=
  let m := s.motor
  let iW := -iU - iV
  let vn : Rat := ((vU + vV + vW : Int) : Rat) / 3
  let o := s.spin.obs
  let l (i j : Int) : Rat :=
    match o.prev with
    | some p => let dt := (lt - p.lt).toNat
                if dt = 0 then 0 else (m.ind : Rat) * 1000 * ((i - j : Int) : Rat) / ((8 * dt : Nat) : Rat)
    | none => 0
  let jU := match o.prev with | some p => p.iU | none => iU
  let jV := match o.prev with | some p => p.iV | none => iV
  let e (v i j : Int) : Rat := (v : Rat) - vn - (m.res : Rat) * (i : Rat) / 1000 - l i j
  let eU := e vU iU jU
  let eV := e vV iV jV
  let eW := e vW iW (-jU - jV)
  let pk := [eU, eV, eW].foldl (fun a x => if ratAbs x > a then ratAbs x else a) o.peak
  let zs := match o.prev with | some p => elecCrossings p lt eU eV eW | none => []
  let s1 := s.setSpin { s.spin with obs := { o with prev := some ⟨lt, iU, iV, eU, eV, eW⟩, peak := pk } }
  zs.foldl (fun t c => t.crossing c now) s1

/-- R132, R103: an ELEC cell reaches the controller. -/
def execElec (hdr : CellHdr) (sample : BitVec 16) (lt : Word) (iU iV vU vV vW : Int) (now : Nat) (s : State) :
    Host.Outcome State Fault Refusal :=
  let (s1, ok) := s.accept .zhosel hdr true
  .next (if ok ∧ sample.toNat < 64 ∧ (s1.spinState = 5 ∨ (s1.spinState = 4 ∧ s1.spin.handover)) then
    s1.elecCell lt iU iV vU vV vW now else s1)

/-- R132, R139, R141: a ZC cell: crossings of back-EMF while the bridge is tristated, of phase current while it brakes. -/
def execZc (hdr : CellHdr) (entries : List ZcEntry) (now : Nat) (s : State) : Host.Outcome State Fault Refusal :=
  let (s1, ok) := s.accept .zhosel hdr true
  if !ok then .next s1
  else
    let l := (entries.take 3).map fun e => (⟨e.lt, e.phase.toNat, e.rising⟩ : Crossing)
    let st := s1.spinState
    if st = 1 ∨ st = 6 then
      let s2 := s1.setSpin { s1.spin with seen := s1.spin.seen ++ l }
      .next (if st = 1 ∧ s2.spin.seen.length ≥ 18 then s2.observed
        else if st = 6 ∧ s2.spin.seen.length ≥ 2 ∧ s2.seenRpm s2.spin.seen * 100 < s2.target * 85 then s2.respin now
        else s2)
    else if st = 2 then .next (s1.setSpin { s1.spin with seen := (s1.spin.seen ++ l).drop (s1.spin.seen.length + l.length - 4) })
    else .next s1

/-- R146: spindle overcurrent: AMPL is halved for one electrical cycle; three within 1 s are a fault. -/
def State.overcurrent (s : State) (now : Nat) : State :=
  let r := (s.spin.overs.filter fun t => decide (now - t ≤ 1000)) ++ [now]
  let s1 := s.setSpin { s.spin with overs := r, halved := true }
  if r.length ≥ 3 then (s1.setSpin { s1.spin with overs := [] }).spinFault 5 else s1

end Sys2Proof.Machine
end

