-- ==== Sys2Proof/Machine/Servo.lean ====
section
/-!
DEFINITION. Servo and positioning (R154 to R185): the wedge, the control law, two heads on one arm, seek, settle and
track-follow, runout, the write permit, lock loss, head load and calibration.
-/

namespace Sys2Proof.Machine

/-! ### Units and registers. -/

/-- A unit of an actuator. -/
def ServoAct.unit (v : ServoAct) (u : Nat) : ServoUnit := if u = 0 then v.u0 else v.u1

/-- Change a unit. -/
def ServoAct.setUnit (v : ServoAct) (u : Nat) (w : ServoUnit) : ServoAct := if u = 0 then { v with u0 := w } else { v with u1 := w }

/-- Change a unit of an actuator. -/
def State.mapUnit (s : State) (x : Act) (u : Nat) (f : ServoUnit → ServoUnit) : State :=
  s.setServo x ((s.servo x).setUnit u (f ((s.servo x).unit u)))

/-- U0_ON, U1_ON. -/
def onFld (x : Act) (u : Nat) : Fld := if u = 0 then Reg.SLE.ACT_STATUS.U0_ON x.num else Reg.SLE.ACT_STATUS.U1_ON x.num
/-- U0_HEAD, U1_HEAD. -/
def headFld (x : Act) (u : Nat) : Fld := if u = 0 then Reg.SLE.ACT_STATUS.U0_HEAD x.num else Reg.SLE.ACT_STATUS.U1_HEAD x.num
/-- U0_MODE, U1_MODE: 0 seek, 1 settle, 2 track-follow, 3 off. -/
def modeFld (x : Act) (u : Nat) : Fld := if u = 0 then Reg.SLE.ACT_STATUS.U0_MODE x.num else Reg.SLE.ACT_STATUS.U1_MODE x.num
/-- U0_PES, U1_PES. -/
def pesFld (x : Act) (u : Nat) : Fld := if u = 0 then Reg.SLE.PES.U0_PES x.num else Reg.SLE.PES.U1_PES x.num

/-- The unit supplies position (R155). -/
def State.unitOn (s : State) (x : Act) (u : Nat) : Bool := s.flag (onFld x u)

/-- The head of a unit, 0 to 23 (R108). -/
def State.unitHead (s : State) (x : Act) (u : Nat) : Nat := 12 * x.num + s.get (headFld x u)

/-- The units that supply position. -/
def State.onUnits (s : State) (x : Act) : List Nat := (List.range 2).filter fun u => s.unitOn x u

/-- WEDGES (R78). -/
def State.wedgeCount (s : State) : Nat := match s.cfg with | some c => c.geom.wedges | none => 1

/-- The measured spindle speed in rpm. -/
def State.rpm (s : State) : Nat := s.get Reg.SPC.SPEED.RPM

/-- WI_PES in per cent of a track (R79). -/
def State.wiPes (s : State) : Nat := match s.cfg with | some c => c.servo.wiPes | none => 12

/-! ### The cross-head map (R166). -/

/-- T_h. -/
def State.headTracks (s : State) (h : Nat) : Nat := match s.cfg with | some c => c.geom.tracks h | none => 0

/-- The centre of a radial band. -/
def bandCentre (t b : Nat) : Rat := ((b * t / 16 + (b + 1) * t / 16 : Nat) : Rat) / 2

/-- The bands that bracket a track and their weights; beyond the outer centres the outer band alone. -/
def bandWeights (t : Nat) (trk : Rat) : List (Nat × Rat) :=
  match (List.range 16).find? fun b => decide (trk < bandCentre t b) with
  | some 0 => [(0, 1)]
  | none => [(15, 1)]
  | some b =>
    let lo := bandCentre t (b - 1)
    let w := (trk - lo) / (bandCentre t b - lo)
    [(b - 1, 1 - w), (b, w)]

/-- The radial band of a track (R166). -/
def bandAt (t trk : Nat) : Nat := (List.range 16).foldl (fun a b => if b * t / 16 ≤ trk then b else a) 0

/-- The track of a position. -/
def trackOf (p : Int) : Nat := (p / 65536).toNat

/-- Replace what the engines hold for all heads. -/
def State.putTables (s : State) (t : ServoTables) : State := { s with tables := t }

/-- M_h at a position of the head, in 2^-16 track; 0 for the reference head. -/
def State.mapAt (s : State) (h : Nat) (p : Int) : Int :=
  if h % 12 = 0 then 0
  else
    let l := s.tables.map.getD h []
    ratRound ((bandWeights (s.headTracks h) ((p : Rat) / 65536)).foldl (fun a w => a + w.2 * ((l.getD w.1 0 : Int) : Rat)) 0)

/-- A position of a head in the reference frame. -/
def State.inFrame (s : State) (h : Nat) (p : Int) : Int := p - s.mapAt h p

/-- Two heads can be served at once (R168, R171). -/
def State.canPair (s : State) (x : Act) (h j : Nat) (xh xj : Int) : Bool :=
  !s.alone h && !s.alone j && decide (h ≠ j) && !((s.servo x).noPair.contains (min h j, max h j)) &&
    decide (((intAbs (xh - xj) : Int) : Rat) * 4 ≤ 3 * (s.gain h + s.gain j) * 65536)

/-! ### The control law (R161, R162). -/

/-- The bank of a loop in a mode; bank B stands for bank A where the image has none (R79). -/
def State.bankFor (s : State) (loop mode bank : Nat) : Option Bank :=
  match s.cfg with
  | none => none
  | some c =>
    match c.servo.banks.find? fun b => b.loop == loop && b.mode == mode && b.bank == bank with
    | some b => some b
    | none => c.servo.banks.find? fun b => b.loop == loop && b.mode == mode && b.bank == 0

/-- The sum of products of coefficients in Q3.28 and states in 2^-24: 2^-52. -/
def dotI : List Int → List Int → Int
  | a :: l, b :: m => a * b + dotI l m
  | _, _ => 0

/-- u_c and u of a loop: Q3.28 (R161). -/
def Bank.drives (b : Bank) (x : List Int) (uff : Rat) : Int × Int :=
  let uc := ratRound (((-(dotI b.k x) : Int) : Rat) / ((2 ^ 24 : Nat) : Rat) + uff * (2 ^ 28 : Nat))
  let lim : Int := min (b.sat : Int) 0x0FFFE000
  (uc, clampI (-lim) lim uc)

/-- C · x̂ in tracks. -/
def Bank.predict (b : Bank) (x : List Int) : Rat := (dotI b.c x : Rat) / ((2 ^ 52 : Nat) : Rat)

/-- x̂[k+1] and the number of states that saturated: `corr` is y - C · x̂. -/
def Bank.next (b : Bank) (x : List Int) (uc u : Int) (corr : Rat) : List Int × Nat :=
  let rows := (List.range b.n).map fun i =>
    let a : Rat := (dotI ((b.phi.drop (i * b.n)).take b.n) x : Rat) / ((2 ^ 28 : Nat) : Rat)
    let g : Rat := ((b.gamma.getD i 0 * u : Int) : Rat) / ((2 ^ 32 : Nat) : Rat)
    let l : Rat := ((b.ell.getD i 0 : Int) : Rat) * corr / 16
    let v := ratRound (a + g + l)
    if b.n ≥ 3 ∧ i = b.n - 1 ∧ uc ≠ u then (x.getD i 0, 0)
    else if v > 2 ^ 47 - 1 then (2 ^ 47 - 1, 1)
    else if v < -(2 ^ 47) then (-(2 ^ 47), 1)
    else (v, 0)
  (rows.map Prod.fst, rows.foldl (fun a r => a + r.2) 0)

/-- States carried across a change of mode (R165). -/
def carryStates (old new : Option Bank) (x : List Int) : List Int :=
  match old, new with
  | some a, some b =>
    (List.range b.n).map fun i =>
      if i = 0 then x.getD 0 0
      else if b.n ≥ 3 ∧ a.n ≥ 3 ∧ i = b.n - 1 then x.getD (a.n - 1) 0
      else if i = 1 ∧ a.n ≥ 2 then x.getD 1 0
      else 0
  | none, some b => List.replicate b.n 0
  | _, none => []

/-- The active bank, 0 A and 1 B. -/
def State.activeBank (s : State) (x : Act) : Nat := s.get (Reg.SLE.ACT_STATUS.BANK x.num)

/-- The voice-coil loop enters a mode. -/
def State.vcmMode (s : State) (x : Act) (m : Nat) : State :=
  let v := s.servo x
  let b := s.activeBank x
  s.setServo x { v with mode := m, xhat := carryStates (s.bankFor x.num v.mode b) (s.bankFor x.num m b) v.xhat }

/-- A microactuator loop enters a mode; off, it holds no states. -/
def State.microMode (s : State) (x : Act) (u m : Nat) : State :=
  let o := s.get (modeFld x u)
  let b := s.activeBank x
  let l := 2 + x.num
  let s1 := s.put (modeFld x u) m
  s1.mapUnit x u fun w => { w with
    xhat := if m = 3 then [] else carryStates (if o = 3 then none else s.bankFor l o b) (s.bankFor l m b) w.xhat
    micro := if m = 3 then none else w.micro }

/-- R164: the bank for the next wedge. -/
def State.swapBank (s : State) (x : Act) : State :=
  let r := s.rpm
  if r ≥ 6300 then s.put (Reg.SLE.ACT_STATUS.BANK x.num) 0
  else if r < 6250 then s.put (Reg.SLE.ACT_STATUS.BANK x.num) 1
  else s

/-! ### Seeks (R172 to R174). -/

/-- b_vc in tracks/s². -/
def State.bvc (s : State) (x : Act) : Rat :=
  let b := s.get (Reg.SLE.CAL.BVC x.num)
  ((if b = 0 then Config.nominalBvc x.num else b : Nat) : Rat) * 100000000

/-- V in tracks/s. -/
def seekV : Rat := (48000000 : Nat)

/-- The length of a move in seconds and the speed it reaches (R173). -/
def moveTime (b d : Rat) : Rat × Rat :=
  if b ≤ 0 ∨ d ≤ 0 then (0, 0)
  else
    let a1 := b * 7 / 10
    let a2 := b * 6 / 10
    if d ≤ seekV * seekV / (2 * a1) + seekV * seekV / (2 * a2) then
      let v := ratSqrt (2 * d * a1 * a2 / (a1 + a2))
      (v / a1 + v / a2, v)
    else (d / seekV + seekV / (2 * a1) + seekV / (2 * a2), seekV)

/-- The distance covered at a time of a move of d tracks, and the reference acceleration as a fraction of b_vc. -/
def moveAt (b d t : Rat) : Rat × Rat :=
  let (tt, v) := moveTime b d
  if t ≥ tt then (d, 0)
  else
    let a1 := b * 7 / 10
    let a2 := b * 6 / 10
    if t < v / a1 then (a1 * t * t / 2, 7 / 10)
    else if t ≥ tt - v / a2 then (d - a2 * (tt - t) * (tt - t) / 2, -6 / 10)
    else (v * v / (2 * a1) + v * (t - v / a1), 0)

/-- The mean of the last measured wedge intervals in ticks; from the spindle's speed while there is none. -/
def State.interval (s : State) (x : Act) : Rat :=
  let l := (s.servo x).intervals
  if l.isEmpty then
    let d := s.rpm * s.wedgeCount
    if d = 0 then 0 else ((7500000000 : Nat) : Rat) / (d : Nat)
  else (l.foldl (· + ·) 0 : Nat) / ((l.length : Nat) : Rat)

/-- The sample period in s. -/
def State.period (s : State) (x : Act) : Rat := s.interval x * 8 / (1000000000 : Nat)

/-- r[k] in 2^-16 track, the voice-coil feedforward, and the wedges left of the reference (R172, R169). -/
def State.seekRef (s : State) (x : Act) (k : SeekRef) : Int × Rat × Nat :=
  let b := s.bvc x
  let dir : Int := if k.goal < k.start then -1 else 1
  let d := ((intAbs (k.goal - k.start) : Int) : Rat) / 65536
  let t := (k.k : Rat) * s.period x
  let (r, a) := moveAt b d t
  let (tt, _) := moveTime b d
  let left := if t ≥ tt ∨ s.period x = 0 then 0 else (-(ratFloor (-((tt - t) / s.period x)))).toNat
  (if left = 0 then k.goal else k.start + dir * ratRound (r * 65536), a * (dir : Rat), left)

/-- The heads of an arm move with the arm target and the units' offsets (R168); none where they cannot be served at once. -/
def State.armTarget (s : State) (x : Act) (m : ArmMove) : Option (Int × Int × Int) :=
  match m with
  | (some (h, p), some (j, q)) =>
    let xh := s.inFrame h p
    let xj := s.inFrame j q
    if s.canPair x h j xh xj then
      let a := ratRound (((xh : Rat) * s.gain j + (xj : Rat) * s.gain h) / (s.gain h + s.gain j))
      some (a, xh - a, xj - a)
    else none
  | (some (h, p), none) => some (s.inFrame h p, 0, 0)
  | (none, some (j, q)) => some (s.inFrame j q, 0, 0)
  | (none, none) => none

/-- MA_SELECT for the two units (R154, R167): 0xFF where the path is off or the head is served alone. -/
def State.maSelect (s : State) (x : Act) : State :=
  let idx (u : Nat) : Nat := if s.unitOn x u ∧ !s.alone (s.unitHead x u) then s.get (headFld x u) else 0xFF
  s.motCmd x.num 0x21 (toLe 1 (idx 0) ++ toLe 1 (idx 1))

/-- A unit selects a head (R184, R180): HEAD_SEL and MA_SELECT, the wide window for two wedges, a new count of misses. -/
def State.selectHead (s : State) (x : Act) (u h : Nat) : State :=
  let s1 := ((s.assistOff (chanOf x u)).put (headFld x u) (h % 12)).feCmd x u 0x04 (toLe 1 (h % 12))
  (s1.mapUnit x u fun w => { w with
    window := 2, misses := [], wedges := 0, again := false, missRun := 0, limRun := 0, tolRun := 0, badIndex := none }).maSelect x

/-- Turn a unit's read path on or off (R155). -/
def State.pathCtrl (s : State) (x : Act) (u : Nat) (on : Bool) : State :=
  let s1 := if on then s else s.assistOff (chanOf x u)
  (((s1.putB (onFld x u) on).put (Reg.RWC.STATUS.STATE (chanOf x u)) (if on then 1 else 0)).feCmd x u 0x05
    (toLe 1 (if on then 1 else 0))).maSelect x

/-- The arm starts a move (R172): microactuator loops off, and their drives ramp to the new offsets. -/
def State.startMove (s : State) (x : Act) (m : ArmMove) : State :=
  match s.armTarget x m with
  | none => s
  | some (a, o0, o1) =>
    let sw (t : State) (u : Nat) (g : Option (Nat × Int)) : State :=
      match g with
      | some (h, _) => if t.unitHead x u = h then t else (t.selectHead x u h).mapUnit x u fun w => { w with drive := 0 }
      | none => t
    let s1 := sw (sw s 0 m.1) 1 m.2
    let s2 := ((s1.vcmMode x 0).microMode x 0 3).microMode x 1 3
    let v := s2.servo x
    ((s2.setServo x { v with
        seek := some ⟨v.arm, a, 0, 0, 0⟩, nextSeek := none, seekAt := some v.tk, settleFrom := v.tk,
        u0 := { v.u0 with offset := o0, tolRun := 0 }, u1 := { v.u1 with offset := o1, tolRun := 0 } }).toAct x 2).putB
      (Reg.SLE.ACT_STATUS.PAIRED x.num) (m.1.isSome && m.2.isSome)

/-- No transfer is in progress on the actuator (R170). -/
def State.armFree (s : State) (x : Act) : Bool := !s.transferring x 0 && !s.transferring x 1

/-- Heads of an arm move belong to the actuator and stand in service. -/
def State.moveOk (s : State) (x : Act) (m : ArmMove) : Bool :=
  let ok (g : Option (Nat × Int)) : Bool :=
    match g with
    | some (h, _) => decide (h / 12 = x.num) && !s.stripe.retired.contains h
    | none => true
  ok m.1 && ok m.2 && (m.1.isSome || m.2.isSome)

/-- R172, R168, R170: the arm moves once it follows a track and no unit transfers; a request during a seek is taken after the
seek settles (R184). -/
def execSeek (act : Act) (t0 t1 : Option (Nat × Int)) (s : State) : Host.Outcome State Fault Refusal :=
  let v := s.servo act
  let st := s.actState act
  if !s.moveOk act (t0, t1) ∨ (s.armTarget act (t0, t1)).isNone ∨ v.unloading then .next s
  else if st = 4 ∧ v.seek = none ∧ s.armFree act then .next (s.startMove act (t0, t1))
  else if st = 2 ∨ st = 3 ∨ st = 4 ∨ st = 5 then .next (s.setServo act { v with nextSeek := some (t0, t1) })
  else .next s

/-! ### Micro-seeks and head switches (R170, R184). -/

/-- A unit takes a new head and target: within reach a micro-seek; beyond it the arm must move. -/
def State.moveUnit (s : State) (x : Act) (u h : Nat) (target : Int) : State :=
  let v := s.servo x
  let st := s.actState x
  let only : ArmMove := if u = 0 then (some (h, target), none) else (none, some (h, target))
  if !s.moveOk x only ∨ v.unloading ∨ !([2, 3, 4, 5].contains st) then s
  else if s.transferring x u ∨ (st ≠ 3 ∧ st ≠ 4) ∨ v.seek.isSome then s.mapUnit x u fun w => { w with pend := some (h, target) }
  else
    let o := s.inFrame h target - v.arm
    let s0 := s.mapUnit x u fun w => { w with pend := none }
    if s.alone h ∨ ((intAbs o : Int) : Rat) * 4 > 3 * s.gain h * 65536 then
      if st = 4 ∧ s.armFree x then s0.startMove x only
      else s0.setServo x { s0.servo x with nextSeek := some only }
    else
      let same := decide (s.unitHead x u = h)
      let s1 := if same then s0 else (s0.selectHead x u h).mapUnit x u fun w => { w with xhat := [], drive := 0 }
      let from_ : Int := if same then (v.unit u).micro.getD (v.unit u).offset else 0
      let s2 := if same then s1 else s1.put (modeFld x u) 3
      (s2.microMode x u (if from_ = o then 1 else 0)).mapUnit x u fun w => { w with
        offset := o, micro := if from_ = o then none else some from_, tolRun := 0 }

/-- R170. -/
def execMicroSeek (act : Act) (unit : Fin 2) (head : Nat) (target : Int) (s : State) : Host.Outcome State Fault Refusal :=
  .next (s.moveUnit act unit.val head target)

/-- R184. -/
def execHeadSwitch (act : Act) (unit : Fin 2) (head : Nat) (target : Int) (s : State) : Host.Outcome State Fault Refusal :=
  .next (s.moveUnit act unit.val head target)

/-! ### Set-points (R157, R119). -/

/-- SETPT: APPLY_LT is t_k + 2.0 µs; IDX0 and IDX1 carry the two microactuators. -/
def State.sendSetpt (s : State) (x : Act) (wedge : Nat) (apply : Nat) (vcm m0 m1 : Int) : State :=
  s.sendCell .zhosel ⟨0x14, x.num, 0, 0, BitVec.ofNat 16 wedge,
    toLe 4 (apply % 2 ^ 32) ++ toLe 2 (unsigned 16 vcm) ++ toLe 2 (unsigned 16 m0) ++ toLe 2 (unsigned 16 m1) ++ zeros 10, 0⟩

/-- A drive as SETPT carries it: round(u × 2^15) (R162). -/
def setptOf (u : Int) : Int := roundDiv u (2 ^ 13)

/-! ### The wedge (R158 to R160). -/

/-- What the engine made of a unit's wedge: its position, and that in the reference frame. -/
structure UnitMeas where
  p    : Int
  pt   : Int
  deriving DecidableEq, Repr

/-- The half-width of the address-mark window in servo bits; none is the whole interval (R160). -/
def State.markWindow (s : State) (x : Act) (w : ServoUnit) : Option Nat :=
  let st := s.actState x
  if st = 1 ∨ st = 5 ∨ !w.acquired then none
  else if st = 2 ∨ w.window > 0 ∨ s.spinState = 6 then some 16
  else some 8

/-- The wedge of a unit is missed (R160): `time` is the predicted mark time, `index` the predicted index. -/
def State.missedWedge (s : State) (x : Act) (w : ServoUnit) (o : WedgeObs) (time : Rat) (index : Nat) : Bool :=
  let late := match s.markWindow x w with
    | none => false
    | some n => decide (ratAbs ((o.time : Rat) - time) * (s.rpm : Nat) > ((n * 3750 : Nat) : Rat))
  !o.found || !o.parity || late || decide (16 * (o.a1 * o.a1 + o.a2 * o.a2) < o.amp * o.amp) ||
    (s.actState x == 4 && o.index.toNat != index)

/-- P = T′ + δ (R159): the track number nearest the prediction; without one, T. -/
def positionOf (o : WedgeObs) (pred : Option Int) : Int :=
  let p := (o.track.toNat : Int) * 65536 + turn16 o.a1 o.a2
  match pred with
  | none => p
  | some q => [p - 65536, p + 65536].foldl (fun a c => if intAbs (c - q) < intAbs (a - q) then c else a) p

/-- A unit's miss is counted (R160, R180, R185), and a head that misses too many wedges is selected again, then fails. -/
def State.countMiss (s : State) (x : Act) (u : Nat) (missed : Bool) : State :=
  let h := s.unitHead x u
  let w := (s.servo x).unit u
  let n := w.wedges + 1
  let recent := (w.misses.filter fun k => decide (k + 1024 > n)) ++ (if missed then [n] else [])
  let s1 := s.mapUnit x u fun w => { w with
    wedges := n, misses := recent, missRun := if missed then w.missRun + 1 else 0, window := w.window - 1 }
  let s2 := if missed then (s1.bump (Reg.SLE.COUNTS.MISSED x.num) 1).count 0x108 h 1 else s1
  if recent.length ≤ 64 then s2
  else if w.again then (s2.mapUnit x u fun w => { w with misses := [], again := false }).retireInStart h
  else (s2.selectHead x u h).mapUnit x u fun w => { w with again := true }

/-! ### Lock (R180). -/

/-- A lost lock: the actuator searches with the whole-interval window and its loops run on their estimators. -/
def State.lockLost (s : State) (x : Act) : State :=
  let v := s.servo x
  let s1 := (s.stopWrites x 3).count 0x25 x.num 1
  if v.unloading then
    let s2 := s1.retractAct x
    s2.setServo x { s2.servo x with unloading := true }
  else
    (s1.setServo x { s1.servo x with
      resume := (v.seek.map fun k => k.goal), seek := none, withheld := true, permitRun := 0, followRun := 0,
      u0 := { v.u0 with acquired := false, tolRun := 0 }, u1 := { v.u1 with acquired := false, tolRun := 0 } }).toAct x 5

/-- A seek has failed (R174): the arm stays where it is measured and the move is repeated; the third time the lock is lost. -/
def State.seekFailed (s : State) (x : Act) (arm : Int) (k : SeekRef) : State :=
  let s1 := (s.bump (Reg.SLE.COUNTS.SEEK_ERR x.num) 1).count 0x24 x.num 1
  if k.fails ≥ 2 then s1.lockLost x
  else
    let s2 := s1.vcmMode x 2
    (s2.setServo x { s2.servo x with arm := arm, seek := some ⟨arm, k.goal, 0, 0, k.fails + 1⟩ }).toAct x 4

/-- The actuator enters settle at the end of a seek, or after acquisition (R172): the microactuator loops of heads not served
alone settle too. -/
def State.enterSettle (s : State) (x : Act) : State :=
  let s1 := s.vcmMode x 1
  ((s.onUnits x).foldl (fun t u => if t.alone (t.unitHead x u) then t else
    (t.microMode x u 1).mapUnit x u fun w => { w with micro := none, tolRun := 0 }) s1).toAct x 3

/-- The seek time histogram (R476). -/
def State.seekTime (s : State) (x : Act) : State :=
  let v := s.servo x
  match v.seekAt with
  | none => s
  | some t => (s.bin 5 x.num (min 15 ((v.tk - t) / 125000))).setServo x { v with seekAt := none }

/-- Settle becomes track-follow (R172, R173). -/
def State.enterFollow (s : State) (x : Act) : State :=
  let s1 := (s.vcmMode x 2)
  let s2 := (s.onUnits x).foldl (fun t u => if t.get (modeFld x u) = 1 then t.microMode x u 2 else t) s1
  let v := s2.servo x
  let s3 := s2.setServo x { v with settles := v.settles.drop 1 ++ [(v.tk - v.settleFrom) * 8 / 1000], permitRun := 0 }
  let s4 := (s3.toAct x 4).seekTime x
  let ref := 12 * x.num
  if v.load.searched.contains 0 ∧ !v.load.acquired.contains 0 ∧ !s4.unitOn x 0 then
    ((s4.pathCtrl x 0 true).selectHead x 0 ref).mapUnit x 0 fun w => { w with acquired := false }
  else s4

/-- Acquired after a lost lock (R180 step 3): settle at the measured position; an interrupted move is then repeated. -/
def State.reacquired (s : State) (x : Act) (arm : Int) : State :=
  let v := s.servo x
  let s1 := s.setServo x { v with
    arm := arm, settleFrom := v.tk, resume := none,
    seek := match v.resume with | some g => some ⟨arm, g, 0, 0, 0⟩ | none => none }
  s1.enterSettle x

/-! ### The write permit (R177). -/

/-- WRITE_HOLD, AT_SPEED and the link allow writing. -/
def State.writeOpen (s : State) (x : Act) : Bool :=
  s.actState x == 4 && !(s.servo x).shock && s.flag Reg.SPC.STATUS.AT_SPEED && !s.flag Reg.SPC.STATUS.WRITE_HOLD &&
    s.linkUp .zhosel

/-- The permit of a wedge: `errs` are the errors of the active heads in 2^-16 track, none where a head missed it. -/
def State.permit (s : State) (x : Act) (errs : List (Option Int)) (inTime : Bool) : State :=
  let within (num den : Nat) : Bool := errs.all fun e =>
    match e with | some i => decide (i.natAbs * den ≤ num * s.wiPes * 65536) | none => false
  let v := s.servo x
  let near := within 3 400 && inTime
  let ok := within 1 100 && inTime
  let pr := if near ∧ s.actState x = 4 then v.permitRun + 1 else 0
  let fr := if ok ∧ s.actState x = 4 then v.followRun + 1 else 0
  let grant := ok && s.writeOpen x && (!v.withheld || decide (pr ≥ 4)) && (!v.afterRetrain || decide (fr ≥ 16))
  let s1 := (s.setServo x { v with
    permitRun := pr, followRun := fr, withheld := !grant, afterRetrain := v.afterRetrain && !grant }).putB
    (Reg.SLE.ACT_STATUS.PERMIT x.num) grant
  if grant then
    let other := match x with | .a => s1.servoB.afterRetrain | .b => s1.servoA.afterRetrain
    if other then s1 else { s1 with rep := { s1.rep with linkHold := false } }
  else (if s.actState x = 4 then s1.bump (Reg.SLE.COUNTS.INHIBITS x.num) 1 else s1).stopWrites x 3

/-! ### One wedge of the loops (R161 to R172). -/

/-- The runout feedforward of a head at a wedge (R175). -/
def State.runout (s : State) (h w : Nat) (p : Int) : Rat :=
  (bandWeights (s.headTracks h) ((p : Rat) / 65536)).foldl (fun a b =>
    a + b.2 * (((assocGet [] s.tables.rro (h, b.1)).getD w 0 : Int) : Rat)) 0 / ((2 ^ 18 : Nat) : Rat)

/-- u_c and u of a unit's microactuator at a wedge: its loop, the ramp of a seek over the `left` wedges, or 0. -/
def State.microDrive (s : State) (x : Act) (u w left : Nat) : Int × Int :=
  let q := (s.servo x).unit u
  let h := s.unitHead x u
  if !s.unitOn x u ∨ s.alone h ∨ (s.servo x).unloading then (0, 0)
  else
    let m := s.get (modeFld x u)
    if m = 3 then
      let goal := ratRound (((q.offset : Int) : Rat) / 65536 / s.gain h * (2 ^ 28 : Nat))
      let d := if left = 0 then goal else q.drive + roundDiv (goal - q.drive) left
      (d, d)
    else
      match s.bankFor (2 + x.num) m (s.activeBank x) with
      | none => (0, 0)
      | some b =>
        b.drives q.xhat ((((q.micro.getD q.offset : Int) : Rat) / 65536) / s.gain h + s.runout h w q.pos)

/-- The microactuator's displacement in tracks: the gain by the drive of the last SETPT (R169). -/
def State.displaced (s : State) (x : Act) (u : Nat) : Rat :=
  let h := s.unitHead x u
  if s.alone h then 0 else s.gain h * ((setptOf ((s.servo x).unit u).drive : Int) : Rat) / 32768

/-- The update of a unit's microactuator loop and its moving reference (R161, R170). -/
def State.microNext (s : State) (x : Act) (u : Nat) (uc ud : Int) (m : Option UnitMeas) (arm : Int) : State :=
  let q := (s.servo x).unit u
  let md := s.get (modeFld x u)
  let ref := arm + q.micro.getD q.offset + q.trim
  let (xs, sat) : List Int × Nat :=
    if md = 3 then (q.xhat, 0)
    else
      match s.bankFor (2 + x.num) md (s.activeBank x) with
      | none => (q.xhat, 0)
      | some b =>
        b.next q.xhat uc ud (match m with | some r => ((r.pt - ref : Int) : Rat) / 65536 - b.predict q.xhat | none => 0)
  let step := q.micro.map fun r => if r < q.offset then min q.offset (r + 16384) else max q.offset (r - 16384)
  let stuck := decide (uc ≠ ud) && decide (s.actState x = 4)
  let s1 := (s.mapUnit x u fun w => { w with
    xhat := xs, drive := ud, limRun := if stuck then w.limRun + 1 else 0,
    micro := if step = some q.offset then none else step }).bump (Reg.SLE.COUNTS.SEEK_ERR x.num) sat
  if md = 0 ∧ (step = none ∨ step = some q.offset) then s1.microMode x u 1 else s1

/-- The weights of the arm estimates (R169): 0.5 for each of two active heads; a head served alone is followed by itself. -/
def State.voters (s : State) (x : Act) : List Nat :=
  match (s.onUnits x).find? fun u => s.alone (s.unitHead x u) with
  | some u => [u]
  | none => s.onUnits x

/-- A unit's measurement of a wedge is taken: its counts, lock, and the errors that settle needs. -/
def State.takeMeas (s : State) (x : Act) (u : Nat) (o : WedgeObs) (m : Option UnitMeas) (index : Nat) (arm : Int) : State :=
  let n := s.wedgeCount
  let w := (s.servo x).unit u
  let tol (r : UnitMeas) : Bool := decide ((r.pt - (arm + w.offset + w.trim)).natAbs * 200 ≤ s.wiPes * 65536)
  let s1 := s.mapUnit x u fun w =>
    match m with
    | some r => { w with prev := w.pos, pos := r.p, tolRun := if s.actState x = 5 ∨ tol r then w.tolRun + 1 else 0 }
    | none => { w with tolRun := 0 }
  let s2 := match m with
    | some r => s1.put (pesFld x u) (unsigned 16 (clampI (-32768) 32767 (roundDiv (r.pt - (arm + w.offset + w.trim)) 16)))
    | none => s1
  let back := m.isSome && !w.acquired && s.actState x != 5
  let s3 := if back then
      let v := s2.servo x
      (s2.setServo x { v with load := { v.load with acquired := insertNat (s.get (headFld x u)) v.load.acquired } }).mapUnit x u
        fun w => { w with acquired := true }
    else s2
  let s4 := s3.countMiss x u m.isNone
  let bad := o.found && o.parity && o.index.toNat != index
  let agree := bad && w.badIndex == some ((o.index.toNat + n - 1) % n)
  let s5 := s4.mapUnit x u fun w => { w with
    badIndex := if bad then some o.index.toNat else none, acquired := w.acquired && decide (w.missRun < 8) }
  if agree then s5.setServo x { s5.servo x with wedge := o.index.toNat } else s5

/-- After the measurements: what the actuator's state becomes (R172, R174, R179, R180). -/
def State.servoTrans (s : State) (x : Act) (y : Option Rat) (armMeas : Int) (left : Nat) (errs : List (Option Int)) : State :=
  let v := s.servo x
  let st := s.actState x
  let on := s.onUnits x
  let lost := !on.isEmpty && on.all fun u => !(v.unit u).acquired
  if st = 5 then
    if on.any fun u => decide ((v.unit u).tolRun ≥ 4) then
      (on.foldl (fun (t : State) u => t.mapUnit x u fun w => { w with acquired := decide (w.tolRun ≥ 4) }) s).reacquired x armMeas
    else s
  else if lost then s.lockLost x
  else if st = 2 then
    match v.seek with
    | none => s
    | some k =>
      let yy := ratAbs (y.getD 0)
      if yy > 64 ∧ y.isSome then s.seekFailed x armMeas k
      else if left > 0 then s.setServo x { v with seek := some { k with k := k.k + 1 } }
      else
        let v1 := if k.waited = 0 then { v with settleFrom := v.tk } else v
        if y.isSome ∧ yy ≤ 2 then
          let s1 := s.setServo x { v1 with seek := none, arm := k.goal }
          if v.unloading then
            let s2 := s1.motCmd 0 0x22 (toLe 1 (2 ^ x.num))
            ((s2.setServo x { s2.servo x with drive := 0 }).microOff x).toAct x 6
          else s1.enterSettle x
        else if k.waited ≥ 16 then (s.setServo x v1).seekFailed x armMeas k
        else s.setServo x { v1 with seek := some { k with k := k.k + 1, waited := k.waited + 1 } }
  else if st = 3 then
    if !on.isEmpty ∧ (on.all fun u => decide ((v.unit u).tolRun ≥ 8)) then s.enterFollow x else s
  else
    let worst (t : Nat) : Bool := errs.any fun e => match e with | some i => decide (i.natAbs > t) | none => false
    let s0 := on.foldl (fun (t : State) u =>
      if t.get (modeFld x u) = 1 ∧ decide (((t.servo x).unit u).tolRun ≥ 8) then t.microMode x u 2 else t) s
    if v.shock ∧ worst (64 * 65536) then s0.lockLost x
    else if v.shock ∧ worst 32768 then
      (s0.setServo x { v with u0 := { v.u0 with tolRun := 0 }, u1 := { v.u1 with tolRun := 0 }, settleFrom := v.tk }).enterSettle x
    else s0

/-- A unit's pending head takes its place where no transfer is under way. -/
def State.takeMoves (s : State) (x : Act) : State :=
  (List.range 2).foldl (fun (t : State) u =>
    match ((t.servo x).unit u).pend with
    | some (h, p) => if t.transferring x u then t else t.moveUnit x u h p
    | none => t) s

/-- The next seek starts where the arm tracks and is free. -/
def State.takeSeek (s : State) (x : Act) : State :=
  match (s.servo x).nextSeek with
  | some m => if s.actState x = 4 ∧ s.armFree x then s.startMove x m else s
  | none => s

/-- What waits for the end of a transfer or a settle: a pending head switch, a repeated or a queued move, the end of a pairing. -/
def State.takePending (s : State) (x : Act) : State :=
  if s.actState x ≠ 4 then s
  else
    let v := s.servo x
    match v.seek with
    | some _ => if s.armFree x then (((s.vcmMode x 0).microMode x 0 3).microMode x 1 3).toAct x 2 else s
    | none =>
      let s2 := (s.takeMoves x).takeSeek x
      let w := s2.servo x
      if (w.u0.limRun ≥ 64 ∨ w.u1.limRun ≥ 64) ∧ s2.flag (Reg.SLE.ACT_STATUS.PAIRED x.num) ∧ s2.armFree x then
        let h := s2.unitHead x 0
        let j := s2.unitHead x 1
        (s2.setServo x { w with noPair := (min h j, max h j) :: w.noPair }).put (Reg.SLE.ACT_STATUS.PAIRED x.num) 0
      else s2

/-- What the control law leaves at a wedge (R162): the estimate, the drive, the time and the interval, the wedge's number and whether
a wedge of the revolution was missed; saturations are counted. -/
def State.lawDone (s : State) (x : Act) (xhat : List Int) (drive : Int) (tk w : Nat) (intervals : List Nat) (miss : Bool)
    (sat : Nat) : State :=
  (s.setServo x { s.servo x with
    xhat := xhat, drive := drive, tk := tk, intervals := intervals, wedge := w, missRev := miss }).bump
    (Reg.SLE.COUNTS.SEEK_ERR x.num) sat

/-- The errors of the followed units at a wedge decide the permits, the state and what waits for it. -/
def State.wedgeEnd (s : State) (x : Act) (errs : List (Option Int)) (y : Option Rat) (arm : Int) (left : Nat) (inTime : Bool) :
    State :=
  let near := !errs.isEmpty && errs.all fun e => match e with | some i => decide (i.natAbs ≤ 9830) | none => false
  let s1 := (s.setServo x { s.servo x with nearRun := if near then (s.servo x).nearRun + 1 else 0 }).permit x errs inTime
  ((s1.servoTrans x y arm left errs).takePending x).swapBank x

/-- A wedge of an actuator whose loops are closed. -/
def State.loopWedge (s : State) (x : Act) (o0 o1 : WedgeObs) (inTime : Bool) : State :=
  let v := s.servo x
  let st := s.actState x
  let n := s.wedgeCount
  let w := (v.wedge + 1) % n
  let (r, aff, left) := match v.seek with
    | some k => if st = 2 then s.seekRef x k else (v.arm, 0, 0)
    | none => (v.arm, 0, 0)
  let bank := s.bankFor x.num v.mode (s.activeBank x)
  let (uc, ud) := match bank with | some b => b.drives v.xhat aff | none => (0, 0)
  let cx := match bank with | some b => b.predict v.xhat | none => 0
  let (c0, d0) := s.microDrive x 0 w left
  let (c1, d1) := s.microDrive x 1 w left
  let predT : Rat := (v.tk : Rat) + s.interval x
  let on := s.onUnits x
  let refU := if s.unitOn x 0 then 0 else 1
  let skew (u : Nat) : Rat := ((s.tables.skews.getD (s.unitHead x u) 0 : Int) : Rat) / 8
  let obs (u : Nat) : WedgeObs := if u = 0 then o0 else o1
  let meas (u : Nat) : Option UnitMeas :=
    if !s.unitOn x u then none
    else
      let h := s.unitHead x u
      let q := v.unit u
      if s.missedWedge x q (obs u) (predT + skew u - skew refU) w then none
      else
        let pred := r + ratRound ((cx + s.displaced x u) * 65536) + s.mapAt h q.pos
        let p := positionOf (obs u) (if st = 5 then none else some pred)
        some ⟨p, s.inFrame h p⟩
  let m0 := meas 0
  let m1 := meas 1
  let m (u : Nat) : Option UnitMeas := if u = 0 then m0 else m1
  let refM := m refU
  let othU := 1 - refU
  let tk : Nat :=
    if refM.isSome then (obs refU).time
    else if (m othU).isSome then (ratRound (((obs othU).time : Nat) - skew othU)).toNat
    else (ratRound predT).toNat
  let found := refM.isSome || (m othU).isSome
  let arms := (s.voters x).filterMap fun u => (m u).map fun q => ((q.pt : Int) : Rat) / 65536 - s.displaced x u
  let arm : Option Rat := if arms.isEmpty then none else some (arms.foldl (· + ·) 0 / ((arms.length : Nat) : Rat))
  let y : Option Rat := arm.map fun a => a - (r : Rat) / 65536
  let armMeas : Int := match arm with | some a => ratRound (a * 65536) | none => r
  let s1 := s.sendSetpt x w (tk + 250) (setptOf ud) (setptOf d0) (setptOf d1)
  let (xs, sat) : List Int × Nat := match bank with
    | some b => b.next v.xhat uc ud (if st = 5 then 0 else match y with | some a => a - cx | none => 0)
    | none => ([], 0)
  let iv := if found then ((v.intervals ++ [tk - v.tk]).drop ((v.intervals.length + 1) - 8)) else v.intervals
  let miss := v.missRev || st != 4 || on.any fun u => (m u).isNone
  let s2 := s1.lawDone x xs ud tk w iv miss sat
  let held (q : Option UnitMeas) : Option UnitMeas := if st = 5 then none else q
  let s3 := ((s2.microNext x 0 c0 d0 (held m0) v.arm).microNext x 1 c1 d1 (held m1) v.arm)
  let s4 := on.foldl (fun (t : State) u => t.takeMeas x u (obs u) (m u) w v.arm) s3
  let errs := on.map fun u => (m u).map fun q => q.pt - (v.arm + (v.unit u).offset + (v.unit u).trim)
  s4.wedgeEnd x errs y armMeas left inTime

/-! ### Loading (R182). -/

/-- The voice-coil loop closes in seek mode on a unit's head, and the arm goes to the middle of band 8 of the reference head
(R183 step 3). -/
def State.closeLoop (s : State) (x : Act) (u : Nat) : State :=
  let w := (s.servo x).unit u
  let h := s.unitHead x u
  let arm := s.inFrame h w.pos
  let goal := ratRound (bandCentre (s.headTracks (12 * x.num)) 8 * 65536)
  let n := match s.bankFor x.num 0 (s.activeBank x) with | some b => b.n | none => 0
  let vel := (w.pos - w.prev) * 256
  let v := s.servo x
  let s1 := s.setServo x { v with
    arm := arm, mode := 0, seek := some ⟨arm, goal, 0, 0, 0⟩, nextSeek := none, seekAt := none, settleFrom := v.tk,
    xhat := (List.range n).map fun i => if i = 1 then vel else 0, drive := 0, resume := none, unloading := false,
    withheld := true, permitRun := 0, followRun := 0,
    load := { v.load with acquired := insertNat (h % 12) v.load.acquired } }
  let s2 := (s1.mapUnit x u fun w => { w with acquired := true, offset := 0, missRun := 0, tolRun := 0 }).count 0x20 x.num 1
  let other := 1 - u
  let s3 := if u = 1 then s2.pathCtrl x 0 false else s2
  ((s3.mapUnit x other fun w => { w with offset := 0, tolRun := 0 }).microOff x).toAct x 2

/-- A wedge of an actuator that searches: four valid wedges in a row on the reference unit's head close the loop. -/
def State.loadWedge (s : State) (x : Act) (o0 o1 : WedgeObs) : State :=
  let v := s.servo x
  let step (t : State) (u : Nat) (o : WedgeObs) : State :=
    if !t.unitOn x u then t
    else
      let w := (t.servo x).unit u
      if t.missedWedge x w o 0 0 then t.mapUnit x u fun w => { w with tolRun := 0 }
      else t.mapUnit x u fun w => { w with tolRun := w.tolRun + 1, prev := w.pos, pos := positionOf o none }
  let s1 := step (step s 0 o0) 1 o1
  let o := if s1.unitOn x 0 ∧ (s1.servo x).u0.tolRun ≠ 0 then o0 else o1
  let seen := decide ((s1.servo x).u0.tolRun ≠ 0) || decide ((s1.servo x).u1.tolRun ≠ 0)
  let s2 := if seen then
      let t := s1.servo x
      s1.setServo x { t with
        tk := o.time, wedge := o.index.toNat,
        intervals := if v.tk = 0 ∨ o.time ≤ v.tk then [] else (t.intervals ++ [o.time - v.tk]).drop (t.intervals.length + 1 - 8) }
    else s1
  let s3 := if (s2.servo x).u1.tolRun ≥ 4 then
      let t := s2.servo x
      s2.setServo x { t with load := { t.load with acquired := insertNat (s2.get (headFld x 1)) t.load.acquired } }
    else s2
  if (s3.servo x).u0.tolRun ≥ 4 then s3.closeLoop x 0 else s3

/-- R161: a wedge of an actuator. -/
def execServoWedge (act : Act) (u0 u1 : WedgeObs) (inTime : Bool) (s : State) : Host.Outcome State Fault Refusal :=
  let st := s.actState act
  if st = 1 then
    if (s.servo act).load.pulsing then .next s else .next (s.loadWedge act u0 u1)
  else if st = 2 ∨ st = 3 ∨ st = 4 ∨ st = 5 then .next (s.loopWedge act u0 u1 inTime)
  else .next s

/-- The voice-coil current of a load pulse: 0.12 of full scale, and 0.02 more for each repeat. -/
def pulseDrive (n : Nat) : Int := roundDiv (((12 + 2 * (n - 1) : Nat) : Int) * 32768) 100

/-- The heads of an actuator that can be searched, in ascending order. -/
def State.searchable (s : State) (x : Act) : List Nat :=
  (s.heads.filter fun h => decide (h / 12 = x.num) && !s.stripe.retired.contains h).map fun h => h % 12

/-- A pulse starts: in its search window unit 0 searches on the reference head and unit 1 on the next other head. -/
def State.loadPulse (s : State) (x : Act) (lt : Word) : State :=
  let v := s.servo x
  let n := v.load.pulses + 1
  let others := (s.searchable x).filter fun h => h ≠ 0
  let j := if others.isEmpty then none else others[(n - 1) % others.length]?
  let s1 := s.setServo x { v with
    tk := 0, intervals := [], u0 := { v.u0 with tolRun := 0 }, u1 := { v.u1 with tolRun := 0 },
    load := { v.load with
      pulses := n, pulsing := true
      searched := match j with
        | some h => insertNat h (insertNat 0 v.load.searched)
        | none => insertNat 0 v.load.searched } }
  let s2 := ((s1.pathCtrl x 0 true).selectHead x 0 (12 * x.num))
  let s3 := match j with
    | some h => (s2.pathCtrl x 1 true).selectHead x 1 (12 * x.num + h)
    | none => s2
  s3.sendSetpt x 0 (lt.toNat + 250) (pulseDrive n) 0 0

/-- IMAX of the motion power chip's identity (R118). -/
def State.vcmImax (s : State) : Nat := leAt s.ident.motion 6 2

/-- R182 step 1, R183 step 1: VCM_EN and the first pulse; the configuration of R179 goes first. -/
def execHeadLoad (act : Act) (lt : Word) (s : State) : Host.Outcome State Fault Refusal :=
  let st := s.actState act
  if (s.phase = 9 ∨ s.phase = 0xF) ∧ !s.held ∧ (st = 0 ∨ st = 6) ∧ s.speedOver 90 ∧ s.linkUp .zhosel ∧ s.linkUp act.port then
    let wi := match s.cfg with | some c => c.servo.wiShock | none => 20
    let s1 := s.motCmd 0 0x02 (toLe 2 20 ++ toLe 2 2500 ++ toLe 2 wi ++ toLe 2 50)
    let s2 := s1.motCmd 0 0x20 (toLe 1 (2 ^ act.num) ++ zeros 1 ++ toLe 2 s.vcmImax ++ toLe 2 s.vcmImax)
    let v := s2.servo act
    let s3 := s2.setServo act { ServoAct.reset with reloads := v.reloads, noPair := v.noPair, wedge := v.wedge }
    .next ((s3.toAct act 1).loadPulse act lt)
  else .next s

/-- R182 step 2: the pulse ends after 6 ms. -/
def execLoadPulseEnd (act : Act) (lt : Word) (s : State) : Host.Outcome State Fault Refusal :=
  let v := s.servo act
  if s.actState act = 1 ∧ v.load.pulsing then
    .next ((s.setServo act { v with load := { v.load with pulsing := false } }).sendSetpt act 0 (lt.toNat + 250) 0 0 0)
  else .next s

/-- An actuator has failed to load (R182, R63, R180): in P9 the start is held; later a second failed reload within 60 s takes
it out of service. -/
def State.loadFailed (s : State) (x : Act) (now : Nat) : State :=
  let s1 := s.retractAct x
  if s.phase ≠ 0xF then (s1.hold 0x80 x.num).holdIo
  else
    let v := s1.servo x
    let recent := (v.reloads.filter fun t => decide (now - t ≤ 60000)) ++ [now]
    let s2 := s1.setServo x { v with reloads := recent }
    if recent.length ≥ 2 then (s2.toAct x 7).loseAct x else s2

/-- R182: no acquisition within 300 ms of a pulse: the loop closes on a head that unit 1 acquired, or the pulse is repeated,
up to three times. -/
def execLoadAcquisitionTimeout (act : Act) (lt : Word) (now : Nat) (s : State) : Host.Outcome State Fault Refusal :=
  let v := s.servo act
  if s.actState act ≠ 1 ∨ v.load.pulsing then .next s
  else if v.load.acquired.contains (s.get (headFld act 1)) ∧ s.unitOn act 1 then .next (s.closeLoop act 1)
  else if v.load.pulses < 4 then .next (s.loadPulse act lt)
  else .next (s.loadFailed act now)

/-- R180 steps 2 and 4: two revolutions without acquisition: the actuator unloads, and is to be loaded again. -/
def execAcquisitionTimeout (act : Act) (s : State) : Host.Outcome State Fault Refusal :=
  if s.actState act = 5 then .next (s.unloadAct act) else .next s

/-- R181. -/
def execUnload (act : Act) (s : State) : Host.Outcome State Fault Refusal := .next (s.unloadAct act)

/-! ### Learning (R171, R175, R176). -/

/-- A revolution qualifies for learning on a unit (R176). -/
def State.learns (s : State) (x : Act) (u : Nat) : Bool :=
  let v := s.servo x
  let h := s.unitHead x u
  let b := bandAt (s.headTracks h) (trackOf (v.unit u).pos)
  s.unitOn x u && s.actState x == 4 && s.get (modeFld x u) == 2 && !v.missRev && !v.shockRev && !v.shockPrev &&
    s.flag Reg.SPC.STATUS.AT_SPEED && !s.alone h && (s.get Reg.SLE.RRO_STATUS.BANDS).testBit b

/-- The runout tables of a head after a revolution of measurements (R176). -/
def State.learnRunout (s : State) (x : Act) (u : Nat) (e : List Int) : State :=
  if !s.learns x u ∨ e.length ≠ s.wedgeCount ∨ e.isEmpty then s
  else
    let h := s.unitHead x u
    let n := s.wedgeCount
    let p := ((s.servo x).unit u).pos
    let gq : Rat := match s.cfg with | some c => ((c.servo.rroGain : Int) : Rat) / (2 ^ 28 : Nat) | none => 0
    let at_ (i : Nat) : Int := e.getD (i % n) 0
    let smooth (w : Nat) : Rat := (((at_ (w + n - 1) + 2 * at_ w + at_ (w + 1) : Int) : Int) : Rat) / 4 / 65536
    let delta (w : Nat) : Rat := gq / s.gain h * smooth ((w + 2) % n) * (2 ^ 18 : Nat)
    (bandWeights (s.headTracks h) ((p : Rat) / 65536)).foldl (fun (t : State) b =>
      let old := assocGet [] t.tables.rro (h, b.1)
      let raw := (List.range n).map fun w => (old.getD w 0) - ratRound (b.2 * delta w)
      let new := raw.map (clampI (-32768) 32767)
      let t1 : State := { t with tables := { t.tables with rro := assocPut t.tables.rro (h, b.1) new } }
      let t2 := t1.put Reg.SLE.RRO_STATUS.SAVE_PENDING 1
      if raw.any fun r => decide (r ≥ 32767) || decide (r ≤ -32768) then t2.put Reg.SLE.RRO_STATUS.CLAMPED 1 else t2) s

/-- M_h of the current band changes. -/
def State.shiftMap (s : State) (h : Nat) (p d : Int) : State :=
  let b := bandAt (s.headTracks h) (trackOf p)
  { s with tables := { s.tables with map := modifyAt s.tables.map h fun l => modifyAt l b (· + d) } }

/-- The map follows the mean m of A_h - A_j (R171). -/
def State.learnMap (s : State) (x : Act) (m : Int) : State :=
  let v := s.servo x
  if s.actState x ≠ 4 ∨ v.missRev ∨ s.get (modeFld x 0) ≠ 2 ∨ s.get (modeFld x 1) ≠ 2 then s
  else
    let h := s.unitHead x 0
    let j := s.unitHead x 1
    let s1 :=
      if h % 12 = 0 then s.shiftMap j v.u1.pos (roundDiv (-m) 16)
      else if j % 12 = 0 then s.shiftMap h v.u0.pos (roundDiv m 16)
      else (s.shiftMap h v.u0.pos (roundDiv m 32)).shiftMap j v.u1.pos (roundDiv (-m) 32)
    let s2 := s1.put Reg.SLE.RRO_STATUS.SAVE_PENDING 1
    let other := if h % 12 = 0 then some j else if j % 12 = 0 then some h else none
    match other with
    | some k => s2.setServo x { v with noPair := v.noPair.filter fun q => q.1 != k && q.2 != k }
    | none => s2

/-- R171, R176: a revolution ends. -/
def execServoRevolution (act : Act) (e0 e1 : List Int) (mean : Option Int) (s : State) : Host.Outcome State Fault Refusal :=
  if !([2, 3, 4, 5].contains (s.actState act)) then .next s
  else
    let s1 := (s.learnRunout act 0 e0).learnRunout act 1 e1
    let s2 := match mean with
      | some m => if s.unitOn act 0 ∧ s.unitOn act 1 then s1.learnMap act m else s1
      | none => s1
    let v := s2.servo act
    .next (s2.setServo act { v with shockPrev := v.shockRev, shockRev := v.shock, missRev := false })

/-- R176, R227: the servo and channel tables are written to the calibration tracks, at most once an hour, or on an unload for
PS3 or PS4. -/
def execCalSave (minutes : Nat) (s : State) : Host.Outcome State Fault Refusal :=
  let unloading : Bool := match s.power.trans with | some t => t.enter | none => false
  let hour : Bool := match s.tables.savedAt with | some t => decide (minutes ≥ t + 60) | none => true
  if (s.flag Reg.SLE.RRO_STATUS.SAVE_PENDING ∨ s.media.changed) ∧ (hour ∨ unloading) then
    .next { (s.put Reg.SLE.RRO_STATUS.SAVE_PENDING 0).putTables { s.tables with savedAt := some minutes } with
      media := { s.media with changed := false } }
  else .next s

/-- R177: 2 ms without a further alarm. -/
def execShockQuietExpire (act : Act) (s : State) : Host.Outcome State Fault Refusal :=
  .next (s.setServo act { s.servo act with shock := false })

/-! ### Calibration (R183). -/

/-- R183: after P11 the 16 bands of a head have been measured; when none is left MAP_PARTIAL clears. -/
def execMapBackgroundPass (act : Act) (head : Nat) (map : List Int) (s : State) : Host.Outcome State Fault Refusal :=
  if s.phase ≠ 0xF ∨ head / 12 ≠ act.num ∨ !s.tables.bandsLeft.contains head ∨ map.length ≠ 16 then .next s
  else
    let left := s.tables.bandsLeft.filter fun h => h != head
    let s1 := s.putTables { s.tables with bandsLeft := left, map := setAt s.tables.map head map }
    .next (if left.any fun h => decide (h / 12 = act.num) then s1 else s1.put (Reg.SLE.CAL.MAP_PARTIAL act.num) 0)

/-- Steps 4 to 6 of R183 on one actuator. -/
def State.calibrate (s : State) (x : Act) (m : CalMeas) : State :=
  let heads := s.heads.filter fun h => decide (h / 12 = x.num)
  let s1 := ((s.put (Reg.SLE.CAL.BVC x.num) m.bvc.toNat).put (Reg.SLE.CAL.CAL_VALID x.num) 1).putB
    (Reg.SLE.CAL.MAP_PARTIAL x.num) (!m.mapOk)
  let one (t : State) (h : Nat) : State :=
    let i := h % 12
    let b8 := m.band8.getD i 0
    let old := m.stored.getD i []
    let row : List Int :=
      if i = 0 then List.replicate 16 0
      else if m.mapOk then (List.range 16).map fun b => old.getD b 0 + (b8 - old.getD 8 0)
      else List.replicate 16 b8
    let bands : List (List Int) := if m.tablesOk then m.rro.getD i [] else []
    let rro := (List.range 16).foldl (fun r b => assocPut r (h, b) (bands.getD b [])) t.tables.rro
    t.putTables { t.tables with
      gains := setAt t.tables.gains h (m.gains.getD i 0), skews := setAt t.tables.skews h (m.skews.getD i 0),
      map := setAt t.tables.map h row, rro := rro,
      bandsLeft := if m.mapOk ∨ i = 0 then t.tables.bandsLeft.filter fun k => k != h else insertNat h t.tables.bandsLeft }
  let s2 := heads.foldl one s1
  let s3 := s2.putTables { s2.tables with intact := true, bvc := setAt s2.tables.bvc x.num m.bvc.toNat }
  let mine (h : Nat) : Bool := heads.contains h
  { s3 with media := { s3.media with
    table := (s3.media.table.filter fun e => !mine e.1.1) ++ m.chan.filter fun e => mine e.1.1
    assist := s3.media.assist.mapIdx fun h a =>
      match m.assist.find? fun r => r.head == h with
      | some r => if mine h then { a with tcal := r.tcal, mcal := r.mcal, thresh := r.thresh } else a
      | none => a } }

/-- The values kept in DRAM show in the registers again (R183, R185). -/
def State.recalled (s : State) (x : Act) : State :=
  (((s.put (Reg.SLE.CAL.BVC x.num) (s.tables.bvc.getD x.num 0)).put (Reg.SLE.CAL.CAL_VALID x.num) 1).putB
    (Reg.SLE.CAL.MAP_PARTIAL x.num) (s.tables.bandsLeft.any fun h => decide (h / 12 = x.num))).maSelect x

/-- A unit whose head has been retired gives it up: its path goes off (R155). -/
def State.dropRetired (s : State) (x : Act) : State :=
  (List.range 2).foldl (fun (t : State) u =>
    if t.unitOn x u ∧ t.stripe.retired.contains (t.unitHead x u) then t.pathCtrl x u false else t) s

/-- Heads searched that have not acquired by step 4 are retired (R182). -/
def State.retireSearched (s : State) (x : Act) : State :=
  let l := (s.servo x).load
  ((l.searched.filter fun h => !l.acquired.contains h).foldl (fun (t : State) h =>
    (t.retireInStart (12 * x.num + h)).bootCode 1 0x81 x.num) s).dropRetired x

/-- R183: the servo part of P9, with both actuators in track-follow; on the warm path the tables kept in DRAM are used. -/
def execServoCalibration (ma mb : CalMeas) (s : State) : Host.Outcome State Fault Refusal :=
  if !s.inPhase 9 ∨ s.held ∨ s.actState .a ≠ 4 ∨ s.actState .b ≠ 4 then .next s
  else
    let s1 := (s.retireSearched .a).retireSearched .b
    if s.flag Reg.NST.START.DRAM_SR_KEPT ∧ s.tables.intact ∧ s.flag Reg.RCU.LAST_CAUSE.WARM then
      .next ((s1.recalled .a).recalled .b)
    else .next ((((s1.calibrate .a ma).calibrate .b mb).maSelect .a).maSelect .b)

end Sys2Proof.Machine
end

