-- ==== Sys2Proof/Machine/LinkRows.lean ====
section
/-!
DEFINITION. What reaches the controller over the links, and the links' own events (R94, R96, R99, R103 to R106, R111 to
R113, R120, R121, R125, R249): the rows of chapter 04 that no partner chip executes.
-/

namespace Sys2Proof.Machine

/-! ### Ordered sets of training (R99, R123, R124). -/

/-- A link that trains or retrains. -/
def State.trains (s : State) (p : Port) : Bool := s.linkState p == 1 || s.linkState p == 4

/-- The lane that byte 7 sets aside in the sender's receive direction (R99). -/
def tsAside (b : TsBody) : Option Nat := if b.byte7.getLsbD 0 then some (b.byte7.toNat / 2 % 8) else none

/-- A TS1 or TS2 of a lane stands where it should (R123 step 4). -/
def tsFits (p : Port) (lane : Nat) (b : TsBody) : Bool := b.link.toNat == portNum p && b.lane.toNat == lane

/-- One more of a lane, up to a top. -/
def oneMore (l : List Nat) (lane top : Nat) : List Nat := modifyAt l lane fun k => min top (k + 1)

/-- The sender of a training set requests trims and names the lane it sets aside: at the controller the partner's, at the
partner chip the controller's (R98, R99, R115, R124). -/
def Link.heard (l : Link) (atController : Bool) (lane : Nat) (b : TsBody) : Link :=
  if atController then { l with asideDn := (tsAside b).orElse fun _ => l.asideDn }
  else { l with asideUp := (tsAside b).orElse fun _ => l.asideUp, trims := assocPut l.trims lane b }

/-- Every lane in use of a direction has received a count. -/
def Link.allLanes (l : Link) (p : Port) (down : Bool) (counts : List Nat) (n : Nat) : Bool :=
  (l.lanes p down).all fun k => decide (counts.getD k 0 ≥ n)

/-- R99, R123 step 5: a TS1 is received: eight on every lane let the controller send TS2. A LINK or LANE that does not fit
restarts the sequence. -/
def execTs1 (port : Port) (atController : Bool) (lane : Nat) (b : TsBody) (s : State) : Host.Outcome State Fault Refusal :=
  if !s.trains port then .next s
  else
    let s1 := s.setArrives port (!atController) (.ts1 lane b)
    if !tsFits port lane b then .next (if s.linkState port = 1 then s1.trainStart port (s1.link port).wake else s1)
    else
      let l := (s1.link port).heard atController lane b
      let e := l.rcv (!atController)
      let had := l.allLanes port (!atController) e.ts1 8
      let l1 := l.setRcv (!atController) { e with ts1 := oneMore e.ts1 lane 8 }
      let s2 := s1.setLink port l1
      let now := l1.allLanes port (!atController) (l1.rcv (!atController)).ts1 8
      .next (if atController ∧ now ∧ !had then
          (l1.lanes port true).foldl (fun t k => t.sendSet port true (.ts2 k (t.tsBody port k))) s2
        else s2)

/-- R99: a TS2 is received; sixteen count. -/
def execTs2 (port : Port) (atController : Bool) (lane : Nat) (b : TsBody) (s : State) : Host.Outcome State Fault Refusal :=
  if !s.trains port then .next s
  else
    let s1 := s.setArrives port (!atController) (.ts2 lane b)
    if !tsFits port lane b then .next (if s.linkState port = 1 then s1.trainStart port (s1.link port).wake else s1)
    else
      let l := (s1.link port).heard atController lane b
      let e := l.rcv (!atController)
      .next (s1.setLink port (l.setRcv (!atController) { e with ts2 := oneMore e.ts2 lane 16 }))

/-- R96, R117: an ALN loads the scramblers of the end that receives it, and on the Zhosel downlink the chip's LT. -/
def execAln (port : Port) (down : Bool) (lt : Word) (s : State) : Host.Outcome State Fault Refusal :=
  if !s.linkUp port ∧ !s.trains port then .next s
  else
    let s1 := s.setArrives port down (.aln lt)
    let l := s1.link port
    let s2 := s1.setLink port (l.setRcv down { l.rcv down with scr := seeds })
    .next (if port = .zhosel ∧ down then { s2 with motion := { s2.motion with lt := lt, ownOsc := false } } else s2)

/-- R99: 4,096 blocks have passed: the sender places an ALN. -/
def execAlnInterval (port : Port) (down : Bool) (lt : Word) (s : State) : Host.Outcome State Fault Refusal :=
  if s.linkUp port then .next (s.sendSet port down (.aln (if port = .zhosel ∧ down then lt else 0))) else .next s

/-! ### Delivery (R104 to R107). -/

/-- R104: a NAK at a sender: every outstanding cell from its SEQ on is sent again; one not outstanding is ignored. -/
def execNak (port : Port) (atController : Bool) (seq : BitVec 16) (s : State) : Host.Outcome State Fault Refusal :=
  let q := BitVec.ofNat 12 seq.toNat
  let s1 := s.setArrives port (!atController) (.nak q)
  let l := s1.link port
  let e := if atController then l.ctl else l.par
  match e.replay.findIdx? fun c => c.1.seq == q with
  | some i => .next (if s.linkUp port then s1.resendFrom port atController i else s1)
  | none => .next s1

/-- R104, R105: a cell that fails its CRC is discarded, and one NAK goes back for the SEQ expected. -/
def execCellCrcFail (port : Port) (atController : Bool) (s : State) : Host.Outcome State Fault Refusal :=
  if !s.linkUp port then .next s
  else
    let s1 := if atController then (s.bump (portFld Reg.ELK.ERRORS.CRC_ERR port) 1).count 0x1D (portNum port) 1 else s
    let l := s1.link port
    let e := l.rcv (!atController)
    .next (if e.nakSent then s1
      else (s1.setLink port (l.setRcv (!atController) { e with nakSent := true })).sendSet port atController (.nak e.rcvSeq))

/-- R106: ACK has not advanced: all outstanding cells are sent again. -/
def execReplayTimeout (port : Port) (s : State) : Host.Outcome State Fault Refusal :=
  if s.linkUp port ∧ !(s.link port).ctl.replay.isEmpty then .next (s.resendFrom port true 0) else .next s

/-- R106: lane 0 is silent. -/
def execLane0Silence (port : Port) (s : State) : Host.Outcome State Fault Refusal := .next (s.retrainStart port)

/-- R94, R106: block lock is lost on a lane in use. -/
def execBlockLockLost (port : Port) (down : Bool) (lane : Nat) (s : State) : Host.Outcome State Fault Refusal :=
  if !((s.link port).lanes port down).contains lane ∨ !s.linkUp port then .next s
  else .next ((if down then s else s.bump (portFld Reg.ELK.ERRORS.BLK_ERR port) 8).retrainStart port)

/-- R103, R104: an IDLE; it is sequenced when it returns credits. -/
def execIdle (port : Port) (hdr : CellHdr) (s : State) : Host.Outcome State Fault Refusal :=
  .next (s.accept port hdr (hdr.cred != 0)).1

/-! ### Channels out of service (R115, R243). -/

/-- A channel leaves or returns to service: the unit's read path follows. -/
def State.channelOut (s : State) (x : Act) (u : Nat) (out : Bool) : State :=
  let ch := chanOf x u
  if out = s.flag (Reg.RWC.STATUS.OUT ch) then s
  else
    let s1 := s.putB (Reg.RWC.STATUS.OUT ch) out
    let s2 : State := if out then
        match s1.fsqs[ch]? with
        | some f => f.fifo.foldl (fun (t : State) r => t.requeue ch r) ((s1.count 0x1B ch 1).setFsq ch { f with fifo := [] })
        | none => s1.count 0x1B ch 1
      else s1
    if out ∧ s2.unitOn x u then (s2.pathCtrl x u false).put (Reg.SLE.ACT_STATUS.PAIRED x.num) 0 else s2

/-- Narrow mode puts the channel of unit 1 out of service, and full width returns it (R115, R243). -/
def State.narrowChannel (s : State) (x : Act) (narrow : Bool) : State :=
  s.channelOut x 1 (narrow || s.media.outReset.getD (chanOf x 1) false)

/-! ### Retrains (R106, R122, R125). -/

/-- R125, R106: a retrain ends. With lanes enough the link is up again, its cells are sent again from the oldest, and after a
Zhosel retrain the loss test is suspended (R146) and the permit waits for 16 wedges (R181); three failures within 1 s, or too
few lanes, take the link down. -/
def execLinkRetrain (port : Port) (ok : Bool) (up : BitVec 5) (dn : BitVec 2) (now : Nat) (s : State) :
    Host.Outcome State Fault Refusal :=
  if s.linkState port ≠ 4 then .next s
  else
    let l := s.link port
    let lanes : Option (Option Nat × Option Nat) :=
      if port = .zhosel then zhoselLanes up.toNat dn.toNat else (ezpolLanes up.toNat dn.toNat).map fun k => (k, none)
    if !ok then
      let recent := (l.failedAt.filter fun t => decide (now - t ≤ 1000)) ++ [now]
      let s1 := s.setLink port { l with failedAt := recent }
      .next (if recent.length ≥ 3 then s1.linkDown port else s1)
    else
      match lanes with
      | none => .next (s.linkDown port)
      | some (au, ad) =>
        let fresh (e : LinkEnd) : LinkEnd := { e with replay := e.replay.map fun c => (c.1, 0), nakSent := false, sets := [] }
        let l1 : Link := { l with ctl := fresh l.ctl, par := fresh l.par, asideUp := au, asideDn := ad }
        let narrow := au.isSome || ad.isSome
        let s1 := (((s.setLink port l1.aligned.flow).put (linkStateFld port) (if narrow then 3 else 2)).put
          (portFld Reg.ELK.STATUS.UP_LANES port) up.toNat).put (portFld Reg.ELK.STATUS.DN_LANES port) dn.toNat
        match portAct port with
        | some x => .next (s1.narrowChannel x narrow)
        | none =>
          .next { s1 with
            spin := { s1.spin with obs := { s1.spin.obs with suspend := 12 } }
            servoA := { s1.servoA with afterRetrain := true, withheld := true }
            servoB := { s1.servoB with afterRetrain := true, withheld := true } }

/-! ### Alarms, events and reports (R111 to R113, R120, R249). -/

/-- Change a head of the assist controller. -/
def State.mapAssist (s : State) (h : Nat) (f : AssistHead → AssistHead) : State :=
  { s with media := { s.media with assist := modifyAt s.media.assist h f } }

/-- A head is to be recalibrated (R249, R250); `atOnce`: before its next write. -/
def State.recalDue (s : State) (h : Nat) (atOnce : Bool) : State :=
  (s.mapAssist h fun a => { a with due := true, atOnce := a.atOnce || atOnce, drifts := 0, events := [] }).put
    (Reg.EAC.HEAD.RECAL_DUE h) 1

/-- R249: an assist event 0x03 of a head; the third within 60 s has it recalibrated before its next write. -/
def State.assistEvent (s : State) (h now : Nat) : State :=
  let s1 := ((s.count 0x10B h 1).put Reg.EAC.STATUS.FAULT 1).put Reg.EAC.STATUS.FAULT_HEAD h
  match s1.media.assist[h]? with
  | none => s1
  | some a =>
    let recent := (a.events.filter fun t => decide (now - t ≤ 60000)) ++ [now]
    if recent.length ≥ 3 then s1.recalDue h true else s1.mapAssist h fun a => { a with events := recent }

/-- R113, R177, R179: a shock alarm of an actuator: its gates close, WIH is sent, and learning is held. -/
def State.shockAlarm (s : State) (x : Act) : State :=
  let s1 := (s.stopWrites x 3).count 0x23 x.num 1
  let v := s1.servo x
  (s1.setServo x { v with shock := true, shockRev := true, withheld := true, permitRun := 0 }).put
    (Reg.SLE.ACT_STATUS.PERMIT x.num) 0

/-- The actuators of a mask. -/
def actsOf (mask : Nat) : List Act := [Act.a, Act.b].filter fun x => mask.testBit x.num

/-- R113, R99: an ALM: shock from the motion power chip, or an assist fault of a front end's units; one whose complement is
wrong is ignored. -/
def execAlm (port : Port) (source unitMask comp : Byte) (now : Nat) (s : State) : Host.Outcome State Fault Refusal :=
  let s1 := s.setArrives port false (.alm source unitMask)
  if comp ≠ source ^^^ 0xFF then .next s1
  else
    match portAct port with
    | none => .next (if source = 0x20 then (actsOf unitMask.toNat).foldl State.shockAlarm s1 else s1)
    | some x =>
      .next (if source = 0x03 then
          let s2 := s1.stopUnits x (unitMask.toNat % 4)
          ((List.range 2).filter fun u => unitMask.getLsbD u).foldl (fun t u => t.assistEvent (t.unitHead x u) now) s2
        else s1)

/-- A head found open or shorted is retired; during a start that is noted (R58, R252). -/
def State.badHead (s : State) (h : Nat) : State :=
  let x : Act := if h < 12 then .a else .b
  let s1 := s.retireInStart h
  if s.phase = 0xF ∨ s.stripe.retired.contains h then s1 else s1.bootCode 1 0x81 x.num

/-- An actuator whose chip retracts it by itself, or has done so (R122, R181). -/
def State.retracted (s : State) (x : Act) : State :=
  if [2, 3, 4, 5].contains (s.actState x) then
    let s1 := (s.closeGates x).stopUnits x 3
    let v := s1.servo x
    (((s1.setServo x { v with seek := none, nextSeek := none, unloading := false, resume := none, drive := 0 }).microOff
      x).toAct x 6).count 0x22 x.num 1
  else s

/-- An event code of a front end (R111, R252). -/
def State.feEventCode (s : State) (x : Act) (code head now : Nat) : State :=
  let h := 12 * x.num + head
  let mask := (List.range 2).foldl (fun m u => if s.unitHead x u = h then m + 2 ^ u else m) 0
  if code = 0x01 ∨ code = 0x02 then (s.stopWrites x mask).badHead h
  else if code = 0x03 then (s.stopUnits x mask).assistEvent h now
  else if code = 0x04 then s.stopUnits x mask
  else if code = 0x07 then
    let t := match (match x with | .a => s.rep.monA | .b => s.rep.monB) with | some m => some m.temp | none => none
    let (f, s1) := s.free
    let s2 := s1.stopWrites x 3
    { s2 with media := { s2.media with hot := setAt s2.media.hot x.num (some (t.getD (f : Nat))) } }
  else s

/-- R111: an EVENT cell acts by its code. -/
def execEvent (port : Port) (hdr : CellHdr) (code head : Byte) (_detail : BitVec 16) (_time : Word) (now : Nat) (s : State) :
    Host.Outcome State Fault Refusal :=
  let (s1, ok) := s.accept port hdr true
  if !ok then .next s1
  else
    match portAct port with
    | some x => .next (s1.feEventCode x code.toNat head.toNat now)
    | none =>
      let c := code.toNat
      .next (if c = 0x20 then (actsOf (2 ^ head.toNat % 4)).foldl State.shockAlarm s1
        else if c = 0x25 then s1.overcurrent now
        else if c = 0x26 then (s1.retracted .a).retracted .b
        else s1)

/-- R249: the monitor of a head that writes against its value at calibration; the third write in a row beyond DRIFT calls for
a recalibration. A write is told by its run's tag. -/
def State.monDrift (s : State) (x : Act) (u : Nat) (m : MonUnit) : State :=
  let h := 12 * x.num + m.head.toNat
  let tag := match s.fsqs[chanOf x u]? with | some f => f.cur.map fun r => r.tag | none => none
  match s.media.assist[h]?, s.cfg with
  | some a, some c =>
    if !m.wrActive ∨ a.mcal = 0 ∨ (a.driftRun = tag ∧ tag.isSome) then s
    else if ((m.assist.toNat : Int) - a.mcal).natAbs * 100 > c.assist.drift * a.mcal then
      let s1 := s.mapAssist h fun a => { a with drifts := a.drifts + 1, driftRun := tag }
      if a.drifts ≥ 2 then s1.recalDue h false else s1
    else s.mapAssist h fun a => { a with drifts := 0, driftRun := tag }
  | _, _ => s

/-- R112, R249, R252: a MON cell: the report is kept, drift is checked, and the gates of a hot front end may open again 5 °C
below the event. -/
def execMon (act : Act) (hdr : CellHdr) (m : MonBody) (s : State) : Host.Outcome State Fault Refusal :=
  let (s1, ok) := s.accept act.port hdr true
  if !ok then .next s1
  else
    let s2 : State := { s1 with rep := match act with
      | .a => { s1.rep with monA := some m }
      | .b => { s1.rep with monB := some m } }
    let cool := match s2.media.hot.getD act.num none with | some t => decide (m.temp + 50 ≤ t) | none => false
    let s3 : State := if cool then { s2 with media := { s2.media with hot := setAt s2.media.hot act.num none } } else s2
    .next ((s3.monDrift act 0 m.unit0).monDrift act 1 m.unit1)

/-- R120, R181: an MSTAT cell: an actuator that unloads and shows retracted is unloaded; one the chip retracted by itself is
retracted. -/
def execMstat (hdr : CellHdr) (m : MstatBody) (s : State) : Host.Outcome State Fault Refusal :=
  let (s1, ok) := s.accept .zhosel hdr true
  if !ok then .next s1
  else
    let s2 : State := { s1 with rep := { s1.rep with mstat := some m } }
    let one (t : State) (x : Act) (ret : Bool) : State :=
      if !ret then t
      else if (t.servo x).unloading ∧ t.actState x = 6 then
        ((t.setServo x { t.servo x with unloading := false }).toAct x 0).count 0x21 x.num 1
      else t.retracted x
    .next (one (one s2 .a m.retA) .b m.retB)

/-! ### Answers (R103). -/

/-- The identity of the motion power chip is on the accepted list (R83). -/
def State.motionAccepted (s : State) (b : Bytes) : Bool :=
  match s.cfg with
  | none => false
  | some c => c.accept.any fun a => a.vendor == leAt b 0 2 && a.part == leAt b 2 2 && decide (a.minRev ≤ byteAt b 4) &&
      decide (byteAt b 4 ≤ a.maxRev)

/-- Step 5 of R56: both Ezpol links train in parallel. -/
def State.ezpolTrain (s : State) : State := (s.trainStart .ezpolA false).trainStart .ezpolB false

/-- The IDENT answer of the motion power chip in P7 (R56 step 3, R58): accepted, its auxiliary output is enabled; else code 0x51,
the base module is not read, and the Ezpol links are next. -/
def State.motionIdent (s : State) (status : Nat) (body : Bytes) : State :=
  if !s.inPhase 7 ∨ s.start.motion ≠ .waiting then s
  else if status = 0 ∧ s.motionAccepted body then
    ({ s with ident := { s.ident with motion := body } } : State).motCmd 0 0x03 (toLe 1 1)
  else
    let s1 := s.hold 0x51 0
    ({ s1 with
      ident := { s1.ident with motion := if status = 0 then body else [] }
      start := { s1.start with motion := .failed, base := .skipped } } : State).ezpolTrain

/-- The IDENT answer of a front end (R123 step 7): its heads are tested, and CONFIG sets WIN (R249); MON_PERIOD is a free value in
the range of R111. -/
def State.feIdent (s : State) (x : Act) (body : Bytes) : State :=
  let s1 : State := { s with ident := match x with | .a => { s.ident with feA := body } | .b => { s.ident with feB := body } }
  let (f, s2) := s1.free
  let win := match s2.cfg with | some c => c.assist.window | none => 8
  let s3 := s2.feCmd x 0 0x02 (toLe 2 (5 + f % 996) ++ toLe 1 win)
  if s3.inPhase 7 then
    (s3.heads.filter fun h => decide (h / 12 = x.num)).foldl (fun t h => t.feCmd x 0 0x0B (toLe 1 (h % 12))) s3
  else s3

/-- R103: a RESP: its command is no longer outstanding, and the answer is used. -/
def execResp (port : Port) (hdr : CellHdr) (_unit : BitVec 4) (status : BitVec 4) (opcode tag : Byte) (body : Bytes) (s : State) :
    Host.Outcome State Fault Refusal :=
  let (s1, ok) := s.accept port hdr true
  let l := s1.link port
  match l.tags.find? fun t => t.1 == tag && t.2.1 == opcode with
  | none => .next s1
  | some t =>
    if !ok then .next s1
    else
      let s2 := s1.setLink port ({ l with tags := l.tags.erase t }.flow)
      let st := status.toNat
      match portAct port with
      | none =>
        .next (if opcode = 0x01 then s2.motionIdent st body
          else if opcode = 0x03 ∧ s2.inPhase 7 ∧ s2.start.motion = .waiting ∧ st = 0 then
            { s2 with start := { s2.start with motion := .ok } }
          else if opcode = 0x12 ∧ st = 0 ∧ byteAt body 0 = 1 then s2.bump Reg.SPC.STATUS.LATE 1
          else s2)
      | some x =>
        .next (if opcode = 0x01 ∧ st = 0 then s2.feIdent x body
          else if opcode = 0x0B ∧ st = 0 ∧ byteAt body 6 ≠ 0 then s2.badHead (12 * x.num + t.2.2)
          else s2)

/-! ### Power failure (R121, R22, R274). -/

/-- The hold-up save starts where the start has ended (R35, R274). -/
def State.saveIfWarm (s : State) : State := if s.flag Reg.NST.START.WARM_VALID then s.saveStart else s

/-- R121: PFAIL: every write gate closes, RETRACT goes out for both actuators, the spindle controller and the DMA channels outside
the save path stop (R146, R329), and the hold-up save starts. -/
def execPfail (s : State) : Host.Outcome State Fault Refusal :=
  let s0 := s.setArrives .zhosel false .pfail
  if s0.dma.paused then .next s0
  else
    let s1 := (s0.stopUnits .a 3).stopUnits .b 3
    let one (t : State) (x : Act) : State :=
      let u := t.retractAct x
      if [1, 2, 3, 4, 5].contains (t.actState x) then u.count 0x22 x.num 1 else u
    let s2 := one (one s1 .a) .b
    let s3 : State := { s2 with
      dma := { s2.dma with paused := true }
      motion := { s2.motion with mode := 3, powerFail := true }
      buf := { s2.buf with scrubS := none, scrubD := none } }
    .next s3.saveIfWarm

end Sys2Proof.Machine
end

