-- ==== Sys2Proof/Machine/Channel.lean ====
section
/-!
DEFINITION. The read/write channels (R190 to R192, R222 to R231, R244, R246): what a sector's bits are on the medium, and the
loops that a SMPL cell drives.
-/

namespace Sys2Proof.Machine

/-! ### The recorded sector (R190 to R192, R229 to R231). -/

/-- The CRC of R192: CRC-32C of the payload from SEED, SEED being that of the drive LBA and KIND. -/
def sectorCrc (payload : Bytes) (dlba kind : Nat) : Word :=
  (payload.foldl (crcByte 0x82F63B78) (crc32c (toLe 5 dlba ++ toLe 1 kind ++ toLe 2 0))) ^^^ 0xFFFFFFFF

/-- A block column of the mother code: 192 bits. -/
abbrev Block := BitVec 192

/-- A circulant of exponent e by a block (R229). -/
def circ (e : Nat) (x : Block) : Block := x.rotateRight (e % 192)

/-- The information blocks: 32 known zeros, payload and CRC (R229). -/
def infoBlocks (info : List Bool) : List Block :=
  (List.range 171).map fun j => BitVec.ofNat 192 (ofBits (((List.replicate 32 false ++ info).drop (192 * j)).take 192))

/-- What information column j adds to block row r (R230). -/
def infoTerm (r j : Nat) (x : Block) : Block :=
  ((List.range 4).filter fun m => (j + [0, 4, 9, 13].getD m 0) % 19 == r).foldl
    (fun a m => a ^^^ circ (j * (2 * m + 1) + 17 * m) x) 0

/-- The information syndrome of a block row. -/
def infoSyndrome (xs : List Block) (r : Nat) : Block := (xs.mapIdx fun j x => infoTerm r j x).foldl (· ^^^ ·) 0

/-- The parity blocks (R230): the first is the sum of the information syndromes, the others follow row by row. -/
def parityBlocks (xs : List Block) : List Block :=
  let sy := (List.range 19).map (infoSyndrome xs)
  let p0 := sy.foldl (· ^^^ ·) 0
  let next (acc : List Block) (r : Nat) : List Block :=
    let own : Block := if r = 0 then circ 1 p0 else (acc.getLastD 0) ^^^ (if r = 9 then p0 else 0)
    acc ++ [sy.getD r 0 ^^^ own]
  p0 :: (List.range 18).foldl next []

/-- The codeword of a payload (R191): payload, CRC, parity. -/
def codeword (payload : Bytes) (dlba kind : Nat) : List Bool :=
  let info := bitsLsb (padTo 4096 payload) ++ (List.range 32).map fun i => (sectorCrc (padTo 4096 payload) dlba kind).getLsbD i
  info ++ (parityBlocks (infoBlocks info)).flatMap fun b => (List.range 192).map fun i => b.getLsbD i

/-- The generator of R96: its output over a number of bits. -/
def scramble : Nat → BitVec 23 → List Bool
  | 0, _ => []
  | n + 1, r =>
    let b (i : Nat) : Bool := r.getLsbD i
    b 22 :: scramble n ((r <<< 1) ||| BitVec.ofNat 23 (xor (xor (xor (b 22) (b 20)) (xor (b 15) (b 7))) (xor (b 4) (b 1))).toNat)

/-- Bits of a mark, most significant first (R190). -/
def markBits (m : Word) : List Bool := (List.range 32).map fun i => m.getLsbD (31 - i)

/-- 0b1100 repeated. -/
def tone (n : Nat) : List Bool := (List.replicate n [true, true, false, false]).flatten

/-- The 36,672 bits of a slot (R190, R231). -/
def slotBits (payload : Bytes) (dlba kind slot : Nat) : List Bool :=
  let cw := List.zipWith xor (codeword payload dlba kind) (scramble 36448 (BitVec.ofNat 23 (0x6B * 0x10000 + slot)))
  tone 32 ++ markBits 0x1F358A2E ++ cw.take 480 ++ markBits 0xE4B20D71 ++ cw.drop 480 ++ tone 8

/-! ### Channel loops (R224 to R228). -/

/-- A_ref in ADC steps (R225). -/
def aRef : Rat := 20

/-- ±1 of a bit. -/
def pm (b : Bool) : Rat := if b then 1 else -1

/-- The loops that may not move at a bit (R226): timing, gain set (G, o, α), equaliser set (taps, target, predictors). -/
structure Frozen where
  timing : Bool
  gain   : Bool
  eq     : Bool
  deriving DecidableEq, Repr

/-- What is frozen at a bit with the flags of its samples and the bits near 0 in a row. -/
def frozenAt (b : ChanBit) (f : SmplFlags) (lowRun : Nat) : Frozen :=
  let all := b.gated || f.wact || f.switch || f.gap
  let lost := decide (lowRun ≥ 16)
  ⟨b.gated, all || f.ovr || lost, all || lost⟩

/-- The interpolated value at τ rounded to 1/64 sample (R224), where its eight samples are held. -/
def Rwc.interp (c : Rwc) : Option Rat :=
  let t := (ratRound (c.tau * 64)).toNat
  let n := t / 64
  if n < 3 ∨ n + 4 ≥ c.xs.length then none
  else some (((List.range 8).map fun i => Config.interpolator (t % 64) i * c.xs.getD (n + i - 3) 0).sum)

/-- The partial-response target of three bits, newest first (R225). -/
def Rwc.target (c : Rwc) (l : List Bool) : Rat :=
  match l with
  | x :: y :: z :: _ => pm x + c.g1 * pm y + c.g2 * pm z
  | x :: y :: [] => pm x + c.g1 * pm y
  | [x] => pm x
  | [] => 0

/-- The pattern of five bits, the newest lowest (R228). -/
def pattern5 (l : List Bool) : Nat := (l.take 5).reverse.foldl (fun a b => 2 * a + (if b then 1 else 0)) 0

/-- R225, R228: the equaliser, target and noise predictors take ε of the bit 16 bits back; in LB4 they stay fixed (R253). -/
def Rwc.adaptEq (c : Rwc) (move : Bool) : Rwc :=
  if c.zs.length < 28 ∨ c.dets.length < 5 then c
  else
    let z (i : Int) : Rat := c.zs.getD (16 + i).toNat 0
    let w := (c.taps.mapIdx fun j a => a * z ((j : Int) - 5)).sum
    let e := w - c.target c.dets
    let n1 := c.eps.getD 0 0
    let n2 := c.eps.getD 1 0
    let k := pattern5 c.dets
    let (p1, p2, v) := c.noise.getD k (0, 0, 1)
    let r := e - p1 * n1 - p2 * n2
    let c1 : Rwc := { c with eps := [e, n1], errSum := c.errSum + e * e, errN := c.errN + 1 }
    if !move then c1
    else
      { c1 with
        taps := c.taps.mapIdx fun j a => if j = 5 then a else ratClamp (-2) (511 / 256) (a - e * z ((j : Int) - 5) / 4096)
        g1 := ratClamp (-2) (127 / 64) (c.g1 + e * pm (c.dets.getD 1 false) / 65536)
        g2 := ratClamp (-2) (127 / 64) (c.g2 + e * pm (c.dets.getD 2 false) / 65536)
        noise := setAt c.noise k (p1 + r * n1 / 4096, p2 + r * n2 / 4096, v + (r * r - v) / 1024) }

/-- One channel bit (R222 to R228); bits whose samples are not held yet are left out. The flag says whether a span of lost
signal begins. -/
def Rwc.bit (lb4 : Bool) (f : SmplFlags) (acc : Rwc × Nat) (b : ChanBit) : Rwc × Nat :=
  let (c, los) := acc
  match c.interp with
  | none => acc
  | some y =>
    let low := if ratAbs y < 8 then c.lowRun + 1 else 0
    let fz := frozenAt b f low
    let bits := (b.decided :: c.bits).take 4
    let a := c.target bits
    let a1 := c.target (bits.drop 1)
    let et := if fz.timing then 0 else c.ys.getD 0 0 * a - y * a1
    let tau := c.tau + 9 / 8 * (1 + c.nu) + et / (if b.acq then 16 else 128)
    let nu := ratClamp (-1 / 100) (1 / 100) (c.nu + et / (if b.acq then 512 else 8192))
    let z := c.gain * (y - c.asym * y * y - c.off)
    let zi := pm b.decided * aRef
    let fl := (if f.ovr then 1 else 0) + (if b.gated then 2 else 0) + (if f.wact then 4 else 0) + (if low ≥ 16 then 8 else 0) +
      (if f.switch || f.gap then 16 else 0)
    let cap := if low = 16 then c.capture.mapIdx fun i v => if i + 15 ≥ c.capture.length ∧ v.2 / 8 % 2 = 0 then (v.1, v.2 + 8) else v
      else c.capture
    let c1 : Rwc := { c with
      tau := tau, nu := nu, ys := [y], zs := (z :: c.zs).take 28, bits := bits, dets := (b.soft :: c.dets).take 5,
      lowRun := low, frozen := fz.eq || fz.gain || fz.timing,
      gain := if fz.gain || lb4 || !b.train then c.gain else ratClamp 0 (255 / 64) (c.gain + (aRef - ratAbs z) / 1024),
      off := if fz.gain then c.off else ratClamp (-32) (127 / 4) (c.off + (z - zi) / 512),
      asym := if fz.gain then c.asym
        else ratClamp (-128 / 1024) (127 / 1024) (c.asym + (z - zi) * (zi * zi - aRef * aRef / 2) / 16384),
      capture := if b.store then cap ++ [(clampI (-32) 31 (ratRound y), fl)] else cap }
    (c1.adaptEq (!fz.eq && !lb4), if low = 16 then los + 1 else los)

/-- Samples of a cell join those held (R109); where cells are missing, τ coasts past them. -/
def Rwc.take (c : Rwc) (sidx : Word) (xs : List Int) : Rwc :=
  let gap := (sidx - c.next).toNat
  let new : List Rat := xs.map fun (x : Int) => (x : Rat)
  let c1 : Rwc :=
    if gap = 0 then { c with xs := c.xs ++ new }
    else
      let t := c.tau - c.xs.length - gap
      let step := 9 / 8 * (1 + c.nu)
      let m : Rat := if t < 3 then ((ratFloor ((3 - t) / step) + 1 : Int) : Rat) else 0
      { c with xs := new, tau := t + m * step }
  { c1 with next := sidx + BitVec.ofNat 32 xs.length }

/-- Samples that no later bit needs are let go. -/
def Rwc.trim (c : Rwc) : Rwc :=
  let n := min c.xs.length ((ratFloor c.tau).toNat - 4)
  { c with xs := c.xs.drop n, tau := c.tau - n }

/-- An LB4 run is in progress on a channel (R126, R198). -/
def State.inLb4 (s : State) (ch : Nat) : Bool :=
  match s.fsqs[ch]? with | some f => (match f.cur with | some r => r.kind == 5 | none => false) | none => false

/-- R109, R222 to R228: a SMPL cell reaches its channel, and the channel bits its samples complete pass through the loops. -/
def execSmpl (act : Act) (hdr : CellHdr) (unit : Fin 2) (flags : SmplFlags) (sidx : Word) (samples : List Int)
    (bits : List ChanBit) (s : State) : Host.Outcome State Fault Refusal :=
  let (s1, ok) := s.accept act.port hdr true
  let ch := chanOf act unit.val
  match ok, s1.rwcs[ch]? with
  | true, some c =>
    let (c1, los) := bits.foldl (Rwc.bit (s1.inLb4 ch) flags) (c.take sidx samples, 0)
    let s2 : State := { s1 with rwcs := setAt s1.rwcs ch c1.trim }
    let s3 := (s2.bump (Reg.RWC.COUNTS.LOS ch) los).putB (Reg.RWC.STATUS.FROZEN ch) c1.frozen
    .next (match bits.getLast? with | some b => s3.putB (Reg.RWC.STATUS.T_LOCK ch) (!b.acq) | none => s3)
  | _, _ => .next s1

/-! ### Channel table entries (R227). -/

/-- The entry of a head and zone. -/
def State.entry (s : State) (h z : Nat) : ChanEntry := assocGet ChanEntry.blank s.media.table (h, z)

/-- A run starts its loops from the entry (R227), ν from 0 (R224) and SIDX from 0 (R109); LB4 fixes them (R253). -/
def Rwc.load (c : Rwc) (e : ChanEntry) (h z : Nat) (lb4 : Bool) : Rwc :=
  let q (d : Nat) (v : Int) : Rat := (v : Rat) / (d : Nat)
  { c with
    head := h, zone := z, xs := [], next := 0, tau := 3, nu := 0, ys := [], zs := [], bits := [], dets := [], eps := [],
    lowRun := 0, errSum := 0, errN := 0, capture := [],
    gain := if lb4 then 1 else q 64 e.gain, off := q 4 e.off, asym := q 1024 e.asym,
    taps := if lb4 then Rwc.reset.taps else e.taps.map (q 256),
    g1 := if lb4 then 0 else q 64 e.g1, g2 := if lb4 then 0 else q 64 e.g2,
    noise := e.noise.map fun n => (q 65536 n.1, q 65536 n.2.1, q 65536 n.2.2) }

/-- v ← v + (v_f − v) ÷ 8 in units of 1 ÷ d (R227). -/
def eighth (d : Nat) (v : Int) (f : Rat) : Int := ratRound (v + (f * d - v) / 8)

/-- R227: the entry moves toward the run's final values. -/
def entryToward (e : ChanEntry) (c : Rwc) : ChanEntry :=
  { e with
    gain := eighth 64 e.gain c.gain, off := eighth 4 e.off c.off, asym := eighth 1024 e.asym c.asym,
    taps := e.taps.mapIdx fun i v => eighth 256 v (c.taps.getD i 0),
    g1 := eighth 64 e.g1 c.g1, g2 := eighth 64 e.g2 c.g2,
    noise := e.noise.mapIdx fun i n =>
      let m := c.noise.getD i (0, 0, 1)
      (eighth 65536 n.1 m.1, eighth 65536 n.2.1 m.2.1, eighth 65536 n.2.2 m.2.2) }

/-- The channel snapshot of a retry store entry (R238): the values in force, in the formats of R225. -/
def Rwc.snapshot (c : Rwc) (e : ChanEntry) : ChanEntry :=
  let q (d : Nat) (v : Rat) : Int := ratRound (v * d)
  { e with
    gain := q 64 c.gain, off := q 4 c.off, asym := q 1024 c.asym, taps := c.taps.map (q 256), g1 := q 64 c.g1, g2 := q 64 c.g2,
    noise := c.noise.map fun n => (q 65536 n.1, q 65536 n.2.1, q 65536 n.2.2) }

end Sys2Proof.Machine
end

