-- ==== Sys2Proof/Machine/Sequencer.lean ====
section
/-!
DEFINITION. The format sequencers (R186 to R221, R244 to R248): microword fetches, runs sector by sector, what a run's start
sends the front end, write permits and stops, and the end of a run.
-/

namespace Sys2Proof.Machine

/-! ### The control store (R209 to R218). -/

/-- Bits of a word. -/
def fld (w : BitVec 160) (lo n : Nat) : Nat := w.toNat / 2 ^ lo % 2 ^ n

/-- The word the overlay gives for an address of a store, else the word delivered (R217). -/
def State.overlaid (s : State) (store addr : Nat) (w : BitVec 160) : BitVec 160 :=
  match s.patches.overlay.find? fun e => e.store == store && e.addr == addr with
  | some e => e.word
  | none => w

/-- The CHK of a word is right (R211). -/
def chkOk (w : BitVec 160) : Bool :=
  (List.range 8).all fun i =>
    !(xor (((List.range 19).map fun k => w.getLsbD (8 * k + i)).foldl xor false) (w.getLsbD (152 + i)))

/-- The PAR of a micro-word is right (R214). -/
def parOk (w : BitVec 32) : Bool := !((List.range 32).map fun i => w.getLsbD i).foldl xor false

/-- A fetch in the sequencer's mode (R210 to R217): the 160-bit word with the NEXT, SEQ and CINV that hold, and whether its
check bits are right. -/
def State.fetched (s : State) (two : Bool) (pc : Nat) (o : FetchObs) : BitVec 160 × Nat × Nat × Bool × Bool :=
  if two then
    let mw : BitVec 32 := BitVec.ofNat 32 (s.overlaid 1 pc (BitVec.ofNat 160 o.micro.toNat)).toNat
    let nw := s.overlaid 2 (mw.toNat % 4096) o.word
    (nw, mw.toNat / 2 ^ 15 % 2 ^ 15, mw.toNat / 2 ^ 12 % 8, mw.getLsbD 30, parOk mw && chkOk nw)
  else
    let w := s.overlaid 0 pc o.word
    (w, fld w 0 13, fld w 13 3, w.getLsbD 22, chkOk w)

/-- What a microword writes: gates, counters, its destination register (R211). -/
def Fsq.word (f : Fsq) (w : BitVec 160) : Fsq :=
  let gate := fld w 23 8
  let mask := fld w 31 8
  let gates : Byte := (f.gates &&& ~~~(BitVec.ofNat 8 mask)) ||| BitVec.ofNat 8 (gate &&& mask)
  let sel := fld w 65 3 / 2
  let imm := fld w 70 32
  let c := f.cnt.getD sel 0
  let cop := fld w 68 2
  let cnt := if cop = 1 then setAt f.cnt sel (BitVec.ofNat 16 imm) else if cop = 2 then setAt f.cnt sel (c - 1)
    else if cop = 3 then setAt f.cnt sel (c + 1) else f.cnt
  let g := { f with gates := gates, cnt := cnt }
  match fld w 102 5 with
  | 1 => { g with dlba := BitVec.ofNat 40 (g.dlba.toNat / 2 ^ 32 * 2 ^ 32 + imm) }
  | 2 => { g with dlba := BitVec.ofNat 40 (imm % 256 * 2 ^ 32 + g.dlba.toNat % 2 ^ 32) }
  | 3 => { g with slot := imm }
  | 4 => { g with expectE := imm }
  | 5 => { g with half := imm }
  | 6 => { g with status := imm }
  | _ => g

/-- The condition of a word (R213): those the sequencer's own state decides, else what was there. -/
def Fsq.condition (f : Fsq) (w : BitVec 160) (seen : Bool) : Bool :=
  let c := fld w 16 6
  if c = 0 then true
  else if c ≥ 0x10 then false
  else if c = 0x08 then f.cnt.getD (fld w 65 3 / 2) 0 == 0
  else if c = 0x0A then f.stopped
  else if c = 0x0F then f.cur.isSome || !f.fifo.isEmpty
  else seen

/-- The next address, with the sequencer after it, or the fault code of R216 (R212). -/
def Fsq.nextPc (f : Fsq) (two : Bool) (pc next seq : Nat) (t : Bool) (w : BitVec 160) : Except Nat (Fsq × Nat) :=
  let top := if two then 32768 else 8192
  let inc := (pc + 1) % top
  let sel := fld w 65 3 / 2
  match seq with
  | 0 => .ok (f, inc)
  | 1 => .ok (f, next)
  | 2 => .ok (f, if t then next else inc)
  | 3 => if f.stack.length ≥ 4 then .error 2 else .ok ({ f with stack := inc :: f.stack }, next)
  | 4 => match f.stack with
    | [] => .error 3
    | a :: r => .ok ({ f with stack := r }, a)
  | 5 =>
    if next % 16 ≠ 0 then .error 4
    else .ok (f, next + (match f.cur, f.fifo with | some r, _ => r.kind.toNat % 16 | none, r :: _ => r.kind.toNat % 16 | none, [] => 0))
  | 6 =>
    let c := f.cnt.getD sel 0 - 1
    .ok ({ f with cnt := setAt f.cnt sel c }, if c = 0 then inc else next)
  | _ => .ok (f, 0)

/-- A fault of R216: the write gate closes, the sequencer halts and reports, and its channel leaves service; its run goes back
to the media scheduler (R220, R243). -/
def State.fsqFault (s : State) (n code : Nat) : State :=
  let x := chanAct n
  let s1 := s.stopWrites x (2 ^ (n % 2))
  let s2 := ((s1.put (Reg.FSQ.STATUS.STATE n) 5).put (Reg.FSQ.STATUS.FAULT n) 1).put (Reg.FSQ.STATUS.FAULT_CODE n) code
  let s3 : State := match s2.fsqs[n]? with
    | none => s2
    | some f =>
      let g := { f with
        cur := none, report := f.cur.map fun r => ⟨r.tag, f.status, f.slot, f.done, true⟩, wbits := [], stopped := false }
      match f.cur with
      | some r => (s2.setFsq n g).requeue n r
      | none => s2.setFsq n g
  let s4 : State := { s3 with media := { s3.media with outReset := setAt s3.media.outReset n true } }
  s4.channelOut x (n % 2) true

/-- One fetch (R209 to R217): checked, its effects, its next address. EV lines of the sequencers follow the sectors and runs
themselves (R326). -/
def State.fsqFetch (n : Nat) (s : State) (o : FetchObs) : State :=
  match s.fsqs[n]? with
  | none => s
  | some f =>
    if s.get (Reg.FSQ.STATUS.STATE n) = 5 then s
    else
      let two := s.flag (Reg.FSQ.STATUS.MODE n)
      let pc := s.get (Reg.FSQ.STATUS.PC n)
      let (w, next, seq, inv, ok) := s.fetched two pc o
      if !ok then s.fsqFault n 1
      else
        let f1 := f.word w
        match f1.nextPc two pc next seq (xor (f1.condition w o.cond) inv) w with
        | .error e => s.fsqFault n e
        | .ok (f2, pc2) =>
          let ev := fld w 107 6
          let s1 := (s.setFsq n f2).put (Reg.FSQ.STATUS.PC n) pc2
          if w.getLsbD 113 ∧ ev ≠ 8 + 2 * n ∧ ev ≠ 9 + 2 * n then s1.pulse ev else s1

/-! ### Layout of a track (R187 to R195). -/

/-- The descriptor a run names (R193, R197). -/
def State.descFor (s : State) (r : RunCmd) : Option DefectDesc :=
  if r.descValid then s.defects.find? fun d => d.addr == r.descAddr.toNat else none

/-- Data-bit positions of a track, from the start of slot 0, at which a window begins, and at which a skip span lies. -/
def State.trackMarks (s : State) (t : Nat) (rate : Nat) (d : Option DefectDesc) : List Nat × List Nat :=
  match s.cfg with
  | none => ([], [])
  | some c =>
    let g := c.geom
    let step (acc : Nat × List Nat × List Nat) (j : Nat) : Nat × List Nat × List Nat :=
      let w := (12 * t + j) % g.wedges
      let sk : List (Nat × Nat × Nat) := match d with | some e => e.skips.filter fun k => k.1 == w | none => []
      let len := g.windowBits rate w - (sk.map (skipBits g rate)).sum
      (acc.1 + len, acc.2.1 ++ [acc.1], acc.2.2 ++ sk.map fun k => acc.1 + k.2.1)
    let r := (List.range g.wedges).foldl step (0, [], [])
    (r.2.1, r.2.2)

/-- Insert the resync field of R187 and R194 at data-bit offsets, highest first. -/
def withResync (bits : List Bool) (at_ : List Nat) : List Bool :=
  at_.foldr (fun p l => l.take p ++ tone 16 ++ l.drop p) bits

/-- Offsets of positions inside slot k. -/
def inSlot (k : Nat) (ps : List Nat) : List Nat :=
  (ps.filter fun p => decide (36672 * k ≤ p) && decide (p < 36672 * (k + 1))).map (· - 36672 * k)

/-- The next slot that is not slipped (R195); the fuel is the slips. -/
def nextLive (slips : List Nat) : Nat → Nat → Nat
  | 0, k => k
  | n + 1, k => if slips.contains k then nextLive slips n (k + 1) else k

/-- A run that writes: kinds 1, 4 and 5 (R198). -/
def runWrites (r : RunCmd) : Bool := r.kind == 1 || r.kind == 4 || r.kind == 5

/-! ### The start of a run (R199, R223, R245 to R248). -/

/-- The radial zone of a run, with its index. -/
def State.runZone (s : State) (n : Nat) (r : RunCmd) : Nat × Nat :=
  match s.cfg with
  | none => (0, 0)
  | some c => match c.geom.zoneAt (12 * (n / 2) + r.head.toNat) r.track.toNat with | some (i, z) => (i, z.bitRate) | none => (0, 0)

/-- The head stack of a head is of the spin-torque type (R89). -/
def State.torque (s : State) (h : Nat) : Bool :=
  match (if h < 12 then s.ident.hsaA else s.ident.hsaB) with | some b => b.torque | none => false

/-- I_cal of a head and zone (R248): the channel table's, else the one calibration starts from (R89). -/
def State.ical (s : State) (h z : Nat) : Nat :=
  if assocHas s.media.table (h, z) then (s.entry h z).icalW
  else match s.media.assist[h]? with
    | some a => if a.ical ≠ 0 then a.ical else (match s.headRec h with | some r => r.assist | none => 0)
    | none => 0

/-- HEAD_LIMIT of a head (R81). -/
def State.headLimit (s : State) (h : Nat) : Nat × Nat :=
  match s.cfg with
  | some c => match c.assist.limits.find? fun l => l.1 == h with | some l => l.2 | none => (0, 6000)
  | none => (0, 6000)

/-- The current of R248, and whether it was clamped. -/
def State.assistCur (s : State) (h z : Nat) : Nat × Bool :=
  let mon := if h < 12 then s.rep.monA else s.rep.monB
  let base : Rat := (s.ical h z : Nat)
  let i : Rat := match mon, s.media.assist[h]? with
    | some m, some a => if s.torque h then base else base * (1 + (4 : Rat) / 1000 * ((m.temp - a.tcal : Int) : Rat) / 10)
    | _, _ => base
  let v := (ratRound i).toNat
  let (lo, hi) := s.headLimit h
  (min hi (max lo v), decide (v < lo) || decide (hi < v))

/-- The standby current of R247: 90 % of the lasing threshold; 0 for spin-torque. -/
def State.standbyCur (s : State) (h : Nat) : Nat :=
  if s.torque h then 0 else match s.media.assist[h]? with | some a => (a.thresh * 9 + 5) / 10 | none => 0

/-- A write run is queued for a head (R247). -/
def State.writeQueued (s : State) (n h : Nat) : Bool :=
  (s.cqu.runs.any fun r => r.head == h && r.kind == 3) ||
  (match s.fsqs[n]? with
    | some f => f.fifo.any fun r => (r.kind == 1 || r.kind == 4) && 12 * (n / 2) + r.head.toNat == h
    | none => false)

/-- ASSIST_SET where R245 and R247 call for it, and the registers of the head (R256). -/
def State.assistStart (s : State) (n h z : Nat) (write : Bool) : State :=
  let (i, lim) := s.assistCur h z
  let sb := s.standbyCur h
  let s1 := ((s.put (Reg.EAC.HEAD.WRITE_CUR h) i).put (Reg.EAC.HEAD.STANDBY_CUR h) sb).putB (Reg.EAC.HEAD.AT_LIMIT h) lim
  let mode := if write || s.writeQueued n h then 2 else if s.torque h then 0 else 1
  match s1.rwcs[n]? with
  | none => s1
  | some c =>
    let due := match c.lastAssist with
      | some (h', m', i') => h' != h || m' != mode || decide (((i : Int) - i').natAbs * 100 > i')
      | none => true
    if !due then s1
    else
      let (lead, tail) := if s.torque h then (30, 20) else (600, 200)
      ({ s1 with rwcs := setAt s1.rwcs n { c with lastAssist := some (h, mode, i) } } : State).feCmd (chanAct n) 0 0x0A
        (toLe 1 (h % 12) ++ toLe 1 mode ++ toLe 2 i ++ toLe 2 sb ++ toLe 2 lead ++ toLe 2 tail)

/-- BIAS_SET (R245, R227, R240): a reread of step 6 has the bias at 90 % or 110 % and the heater 0.5 mW up. -/
def State.biasStart (s : State) (n h z : Nat) (turn : Option Nat) : State :=
  match s.rwcs[n]? with
  | none => s
  | some c =>
    if c.lastBias = some (h, z) ∧ turn.isNone then s
    else
      let e := s.entry h z
      let b := match turn with | some 0 => (e.bias * 9 + 5) / 10 | some _ => (e.bias * 11 + 5) / 10 | none => e.bias
      let ht := if turn.isSome then e.heater + 5 else e.heater
      let w := match s.headRec h with | some r => r.writeCur | none => 0
      ({ s with rwcs := setAt s.rwcs n { c with lastBias := if turn.isSome then none else some (h, z) } } : State).feCmd
        (chanAct n) 0 0x08 (toLe 1 (h % 12) ++ toLe 1 0 ++ toLe 2 b ++ toLe 2 w ++ toLe 2 ht)

/-- PRECOMP (R245, R246). -/
def State.precompStart (s : State) (n h z : Nat) : State :=
  match s.rwcs[n]? with
  | none => s
  | some c =>
    if c.lastPre = some (h, z) then s
    else
      ({ s with rwcs := setAt s.rwcs n { c with lastPre := some (h, z) } } : State).feCmd (chanAct n) (n % 2) 0x09
        (toLe 1 0 ++ ((s.entry h z).precomp.map fun v => BitVec.ofNat 8 (unsigned 8 v)))

/-- The sector that a reread serves. -/
def State.rereadOf (s : State) (r : RunCmd) : Option LdpSector :=
  if r.kind = 2 then s.media.sectors.find? fun x => x.rr == some r.tag.toNat else none

/-- Bits of a write run: the slots' data bits and the resync fields among them. -/
def State.writeLength (s : State) (n : Nat) (r : RunCmd) : Nat :=
  let d := s.descFor r
  let (ws, ks) := s.trackMarks r.track.toNat (s.runZone n r).2 d
  let slips := match d with | some e => e.slips | none => []
  let slots := (List.range r.count).foldl (fun (l : List Nat) _ =>
    l ++ [nextLive slips 4 (match l.getLast? with | some k => k + 1 | none => r.firstSlot.toNat)]) []
  (slots.map fun k => 36672 + 64 * (inSlot k (ws ++ ks)).length).sum

/-- WRITE_ARM of a run (R245, R246): START_SIDX and PHASE follow the slot's place under the head, which the spec leaves to the
sequencer's timing: free values. -/
def State.writeArmCmd (s : State) (n : Nat) (r : RunCmd) : State :=
  let (a, s1) := s.free
  let (p, s2) := s1.free
  s2.feCmd (chanAct n) (n % 2) 0x06
    (toLe 4 a ++ toLe 1 (p % 64) ++ toLe 1 (if r.kind = 5 then 0 else 1) ++ toLe 2 0 ++ toLe 4 (s.writeLength n r))

/-- The start condition of R199: reads by R172, writes by the permit; nothing is asked of LB4. -/
def State.mayStart (s : State) (n : Nat) (r : RunCmd) : Bool :=
  let x := chanAct n
  let u := n % 2
  let h := 12 * x.num + r.head.toNat
  let here := s.unitOn x u && s.unitHead x u == h && trackOf (((s.servo x).unit u).pos + 32768) == r.track.toNat
  if r.kind = 5 then true
  else if runWrites r then
    here && s.flag (Reg.SLE.ACT_STATUS.PERMIT x.num) && !s.rep.linkHold && s.flag Reg.SPC.STATUS.AT_SPEED &&
    !s.flag Reg.SPC.STATUS.WRITE_HOLD && (s.media.hot.getD x.num none).isNone && (r.kind != 1 || s.writeReady h)
  else here && (s.actState x == 4 || (s.actState x == 3 && decide ((s.servo x).nearRun ≥ 2)))

/-- The channel and the front end take the rate of a run's zone, and the channel its parameters. -/
def State.runLoad (s : State) (n : Nat) (r : RunCmd) : State :=
  let x := chanAct n
  let h := 12 * x.num + r.head.toNat
  let (z, rate) := s.runZone n r
  let baud := roundDiv (rate * 1000 * s.get Reg.SPC.SPEED.RPM : Nat) 7200
  let s1 := s.feCmd x (n % 2) 0x03 (toLe 4 baud.toNat)
  { s1 with rwcs := modifyAt s1.rwcs n fun c => c.load (s1.entry h z) h z (r.kind == 5) }

/-- What a run sends to the front end before its first sector: bias, precompensation, assist. -/
def State.runHead (s : State) (n : Nat) (r : RunCmd) (turn : Option Nat) : State :=
  let x := chanAct n
  let h := 12 * x.num + r.head.toNat
  let z := (s.runZone n r).1
  if r.kind = 5 then s
  else
    let s1 := s.biasStart n h z turn
    let s2 := if runWrites r then s1.precompStart n h z else s1
    s2.assistStart n h z (runWrites r)

/-- The off-track trim of a reread (R241). -/
def State.rereadTrim (s : State) (n : Nat) : Option LdpSector → State
  | some y =>
    if y.step = 5 then
      s.mapUnit (chanAct n) (n % 2) fun w => { w with trim := [5243, -5243, 10486, -10486].getD y.reread 0 }
    else s
  | none => s

/-- The sequencer takes a run up: the write gate of a run that writes, the run in progress, the state of sequencer and channel. -/
def State.runOpen (s : State) (n : Nat) (r : RunCmd) : State :=
  let s1 : State := { s with
    rep := { s.rep with gates := if runWrites r then setAt s.rep.gates n true else s.rep.gates }
    fsqs := modifyAt s.fsqs n fun f => { f with
      cur := some r, done := 0, slot := r.firstSlot.toNat, dlba := r.dlba, half := if r.wide || r.kind = 2 then 48 else 24,
      stopped := false, wbits := [], widx := 0 } }
  let st := if r.kind = 5 then 6 else if r.kind = 1 ∨ r.kind = 4 then 3 else if r.kind = 2 then 4 else 2
  (s1.put (Reg.FSQ.STATUS.STATE n) st).put (Reg.RWC.STATUS.STATE n) (if r.kind = 1 ∨ r.kind = 4 then 3 else 2)

/-- The run starts (R199, R223, R227, R245): RATE, the loops from the entry, the unit's commands, the gate. -/
def State.startRun (s : State) (n : Nat) (r : RunCmd) : State :=
  let again := s.rereadOf r
  let turn := match again with | some y => if y.step = 6 then some y.reread else none | none => none
  let s1 := ((s.runLoad n r).runHead n r turn).rereadTrim n again
  (if runWrites r then s1.writeArmCmd n r else s1).runOpen n r

/-- R199: the run at the head of the FIFO is taken; one whose start condition is not met waits for its slot's next pass. -/
def State.takeRun (s : State) (n : Nat) : State :=
  match s.fsqs[n]? with
  | none => s
  | some f =>
    match f.cur, f.fifo with
    | some r, _ => if s.get (Reg.FSQ.STATUS.STATE n) = 1 ∧ s.mayStart n r then s.startRun n r else s
    | none, r :: t =>
      if r.kind.toNat ≥ 6 then
        (s.setFsq n { f with fifo := t, report := some ⟨r.tag, 0xF, r.firstSlot.toNat, 0, false⟩ }).pulse (9 + 2 * n)
      else
        let s1 := s.setFsq n { f with fifo := t, cur := some r, done := 0, slot := r.firstSlot.toNat }
        if s1.mayStart n r then s1.startRun n r else s1.put (Reg.FSQ.STATUS.STATE n) 1
    | none, [] => s

/-! ### Sectors (R199 to R207, R239, R244). -/

/-- The sync search of R201: the candidate with the fewest disagreements, at most 3, the earliest on a tie. -/
def syncFind (half : Nat) (l : List (Int × Nat)) : Option Int :=
  ((l.filter fun c => decide (c.1.natAbs ≤ half) && decide (c.2 ≤ 3)).foldl (fun (b : Option (Int × Nat)) c =>
    match b with
    | none => some c
    | some d => if c.2 < d.2 ∨ (c.2 = d.2 ∧ c.1 < d.1) then some c else some d) none).map Prod.fst

/-- The search of R202, R203: which mark was found, and where. -/
def syncResult (half : Nat) (o : SectorObs) : Nat × Option Int :=
  match syncFind half o.sm1 with
  | some q => (0, some q)
  | none => match syncFind half o.sm2 with
    | some q => (1, some q)
    | none => (2, none)

/-- Occupied entries of a channel's retry store (R239). -/
def State.held24 (s : State) (ch : Nat) : Nat := (s.media.sectors.filter fun x => x.stored && x.ch == ch).length

/-- The loops' values at a slot end show in the registers (R254). -/
def State.slotEnd (s : State) (n h : Nat) : State :=
  match s.rwcs[n]? with
  | none => s
  | some c =>
    let e := c.snapshot ChanEntry.blank
    let s1 := (((s.put (Reg.RWC.LOOPS.GAIN n) (unsigned 8 e.gain)).put (Reg.RWC.LOOPS.OFFSET n) (unsigned 8 e.off)).put
      (Reg.RWC.LOOPS.ASYM n) (unsigned 8 e.asym)).put (Reg.RWC.LOOPS.FREQ n) (unsigned 8 (clampI (-128) 127 (ratRound (c.nu * 8192))))
    let s2 := if c.errN = 0 then s1 else
      s1.put (Reg.RWC.STATUS.MSE n) (min 0xFFFF (ratRound (c.errSum / c.errN * 256)).toNat)
    let k := (c.secN + 1) / 4096
    let s3 : State := { s2 with rwcs := setAt s2.rwcs n { c with errSum := 0, errN := 0, capture := [], secN := (c.secN + 1) % 4096 } }
    ((s3.bump (Reg.RWC.COUNTS.SECTORS n) k).count 0x100 h 1).pulse (16 + n)

/-- A sector that was not captured is read at its slot's next pass (R239). -/
def State.missSector (s : State) (n : Nat) (r : RunCmd) (slot i : Nat) : State :=
  let id := s.cqu.nextRun
  (s.bump (Reg.FSQ.COUNTS.MISSED_REV n) 1).queueRuns
    [{ id := id, act := n / 2, kind := if r.kind = 2 then 1 else 2, head := 12 * (n / 2) + r.head.toNat, since := 0, urgent := false,
       run := { r with count := 1, firstSlot := BitVec.ofNat 16 slot, dlba := r.dlba + BitVec.ofNat 40 i, tag := BitVec.ofNat 32 id } }]

/-- Where row i of a run's set goes (R323). -/
def State.rowDst (s : State) (n i : Nat) : Option (Nat × Nat × Nat) :=
  match (s.dma.streams.getD n .reset).active with
  | some d => if i < d.rows.toNat then some (d.dstSp.toNat, dstAt d i, i) else none
  | none => none

/-- A sector of a read run is handed to the decoder pool with its sync result (R199, R202, R203, R207). -/
def State.readSector (s : State) (n : Nat) (r : RunCmd) (o : SectorObs) (slot i half : Nat) : State :=
  let h := 12 * (n / 2) + r.head.toNat
  let again := s.rereadOf r
  if s.held24 n ≥ 24 ∨ (!o.dataReady ∧ again.isNone) then
    let s1 := s.missSector n r slot i
    match again with
    | some x => s1.setSector { x with rr := some s.cqu.nextRun }
    | none => s1
  else
    let (sync, mark) := syncResult half o
    let z := (s.runZone n r).1
    let c := s.rwcs.getD n .reset
    let order := alignSort o.scores syncTrials
    let (al, trials) := match mark with
      | some m => (m, alignSort o.scores (markTrials m))
      | none => (order.headD 0, order.tail)
    let s1 := (s.slotEnd n h).pulse (8 + 2 * n)
    let s2 := if sync = 1 then (s1.bump (Reg.FSQ.COUNTS.SM2_USED n) 1).count 0x103 h 1
      else if sync = 2 then s1.bump (Reg.FSQ.COUNTS.MISSED n) 1 else s1
    let values := c.capture
    match again with
    | some x =>
      let y := { x with
        sync := sync, mark := mark, align := al, scores := o.scores, incomplete := o.incomplete, stored := true, values := values,
        snap := c.snapshot (s.entry h z), expired := o.incomplete, trials := trials, own := true, rr := none, iters := s.otfIter,
        waiting := !o.incomplete, engine := none }
      let s3 := s2.setSector y
      if o.incomplete then s3.decodeFailed y else s3
    | none =>
      let y : LdpSector := {
        ch := n, tag := r.tag, idx := i, slot := slot, dlba := r.dlba.toNat + i, kind := r.seedKind.toNat, head := h, zone := z,
        track := r.track.toNat, sync := sync, mark := mark, align := al, scores := o.scores, incomplete := o.incomplete,
        stored := true, values := values, snap := c.snapshot (s.entry h z), expired := false, copies := [], step := 0, reread := 0,
        trials := trials, own := false, more := 0, iters := s.otfIter, first := true, waiting := !o.incomplete, engine := none,
        dst := s.rowDst n i, place := false, rr := none, loop := r.kind == 5 }
      let s3 : State := { s2 with media := { s2.media with sectors := s2.media.sectors ++ [y] } }
      if o.incomplete then
        (s3.syncLast n 5 y.final (scoreAt o.scores y.final)).askReread { y with first := false, step := 3, stored := false }
      else s3

/-- WDATA cells of 1,920 bits (R110); the rest stays until more bits come, or goes as the last cell. The fuel bounds the cells. -/
def State.wdataCells (n : Nat) (last : Bool) : Nat → State → State
  | 0, s => s
  | k + 1, s =>
    match s.fsqs[n]? with
    | none => s
    | some f =>
      let final := last && decide (f.wbits.length ≤ 1920)
      if f.wbits.isEmpty ∨ (f.wbits.length < 1920 ∧ !last) then s
      else
        let bits := f.wbits.take 1920
        let body := (List.range 240).map fun b => BitVec.ofNat 8 (ofBits ((bits.drop (8 * b)).take 8))
        let c : Cell := ⟨0x01, n % 2, if final then 1 else 0, 0, 0, toLe 4 f.widx ++ body, 0⟩
        State.wdataCells n last k ((s.setFsq n { f with wbits := f.wbits.drop 1920, widx := f.widx + 1920 }).sendCell (chanAct n).port c)

/-- The payload of the next row of a write's set (R244): none where the channel has none, with the channel halted where it was
uncorrectable (R22, R328). -/
def State.takePayload (s : State) (n : Nat) : State × Option Bytes :=
  let c := s.dma.streams.getD n .reset
  match c.active with
  | none => (s, none)
  | some d =>
    let i := c.rows.length
    match spaceMem d.srcSp.toNat with
    | none => (s, none)
    | some m =>
      let a := srcAt d i
      if descBroken d ∨ i ≥ d.rows.toNat ∨ a + 4096 > s.memSize m then (s, none)
      else
        match s.firstBad m a 4096 with
        | some u => (((s.ueRecord m u).haltInfo (64 + n) m u (i * d.len.toNat)).streamHalt n, none)
        | none =>
          let b := s.bytes m a 4096
          let s1 := s.readCorrections m a 4096
          let s2 : State := { s1 with dma := { s1.dma with streams := setAt s1.dma.streams n { c with rows := c.rows ++ [i] } } }
          (if i + 1 ≥ d.rows.toNat then s2.streamEnd n else s2, some b)

/-- A write may go on over the windows that begin in a sector (R177, R200, R252): their permits, the spindle, the links. -/
def State.writeGoesOn (s : State) (n : Nat) (permits : List Bool) : Bool :=
  permits.isEmpty ||
  (permits.all id && s.flag Reg.SPC.STATUS.AT_SPEED && !s.flag Reg.SPC.STATUS.WRITE_HOLD && !s.rep.linkHold &&
    (s.media.hot.getD (n / 2) none).isNone)

/-- A sector of a write run (R199, R200, R244): the flag says that the run stops at it. -/
def State.writeSector (s : State) (n : Nat) (r : RunCmd) (o : SectorObs) (slot i : Nat) (permits : List Bool) (marks : List Nat) :
    State × Bool :=
  let stop (t : State) : State × Bool := (t.stopWrites (chanAct n) (2 ^ (n % 2)), true)
  let stopped := match s.fsqs[n]? with | some f => f.stopped | none => true
  if stopped then (s, true)
  else if r.kind ≠ 5 ∧ !s.writeGoesOn n permits then stop s
  else if !o.dataReady then stop s
  else
    match s.takePayload n with
    | (s1, none) => stop s1
    | (s1, some p) =>
      let bits := withResync (slotBits p (r.dlba.toNat + i) r.seedKind.toNat slot) marks
      let s2 : State := { s1 with fsqs := modifyAt s1.fsqs n fun f => { f with wbits := f.wbits ++ bits } }
      let s3 := State.wdataCells n (decide (i + 1 ≥ r.count)) 64 s2
      ((s3.count 0x101 (12 * (n / 2) + r.head.toNat) 1).pulse (8 + 2 * n), false)

/-- The sequencer goes on to the sector after the one in a slot. -/
def State.nextSector (s : State) (n : Nat) (r : RunCmd) (slot : Nat) : State :=
  { s with fsqs := modifyAt s.fsqs n fun g => { g with
      done := g.done + 1, slot := slot + 1, dlba := r.dlba + BitVec.ofNat 40 (g.done + 1), expectE := 128 } }

/-- The sequencer stands at a slot. -/
def State.atSlot (s : State) (n slot : Nat) : State :=
  { s with fsqs := modifyAt s.fsqs n fun g => { g with slot := slot } }

/-- The next sector of the run in progress; the permits left. -/
def State.runSector (n : Nat) (acc : State × List Bool) (o : SectorObs) : State × List Bool :=
  let (s, permits) := acc
  match s.fsqs[n]? with
  | none => acc
  | some f =>
    match f.cur with
    | none => acc
    | some r =>
      let st := s.get (Reg.FSQ.STATUS.STATE n)
      if st < 2 ∨ st = 5 ∨ f.stopped ∨ f.done ≥ r.count then acc
      else
        let d := s.descFor r
        let slot := nextLive (match d with | some e => e.slips | none => []) 4 f.slot
        let (ws, ks) := s.trackMarks r.track.toNat (s.runZone n r).2 d
        let here := inSlot slot ws
        let rest := permits.drop here.length
        if r.kind = 1 ∨ r.kind = 4 then
          let w := s.writeSector n r o slot f.done (permits.take here.length)
            ((inSlot slot (ws ++ ks)).foldl (fun l p => insertNat p l) [])
          (if w.2 then w.1.atSlot n slot else w.1.nextSector n r slot, rest)
        else if r.kind = 5 then
          let w := s.writeSector n r o slot f.done [] []
          (if w.2 then w.1.atSlot n slot else (w.1.readSector n r o slot f.done f.half).nextSector n r slot, permits)
        else ((s.readSector n r o slot f.done f.half).nextSector n r slot, rest)

/-- R197, R199: sequencer n takes the run at the head of its FIFO, or goes on with the one in progress, and runs its sectors. A
halted sequencer, and one whose channel is out of service, does nothing (R216, R243). -/
def execFsqRun (n : Fin 4) (permits : List Bool) (sectors : List SectorObs) (fetches : List FetchObs) (s : State) :
    Host.Outcome State Fault Refusal :=
  if s.get (Reg.FSQ.STATUS.STATE n) = 5 ∨ s.chanOut n then .next s
  else
    let s1 := s.takeRun n
    let s2 := fetches.foldl (State.fsqFetch n) s1
    .next (sectors.foldl (State.runSector n) (s2, permits)).1

/-- R199: the start condition is not met when FIRST_SLOT begins: the run waits one revolution for it. -/
def execMissedRevolution (n : Fin 4) (s : State) : Host.Outcome State Fault Refusal :=
  if s.get (Reg.FSQ.STATUS.STATE n) = 1 then .next (s.bump (Reg.FSQ.COUNTS.MISSED_REV n) 1) else .next s

/-- No sector of a run has failed (R227). -/
def State.runClean (s : State) (n : Nat) (r : RunCmd) : Bool :=
  s.media.sectors.all fun x => !(x.ch == n && x.tag == r.tag && (!x.first || x.incomplete))

/-- R227: the entry of a run's head and zone takes an eighth of what the loops learned. -/
def State.learnEntry (s : State) (n : Nat) : State :=
  match s.rwcs[n]? with
  | none => s
  | some c => { s with media := { s.media with
      table := assocPut s.media.table (c.head, c.zone) (entryToward (s.entry c.head c.zone) c), changed := true } }

/-- R199, R200: the run of sequencer n ends: its report, the gate closed, the entry's update after a read; a write that stopped
is counted and goes back to the media scheduler whole (R53). -/
def execRunEnd (n : Fin 4) (s : State) : Host.Outcome State Fault Refusal :=
  match s.fsqs[n.val]? with
  | none => .next s
  | some f =>
    match f.cur with
    | none => .next s
    | some r =>
      let st := s.get (Reg.FSQ.STATUS.STATE n)
      if st < 2 ∨ st = 5 ∨ (!f.stopped ∧ f.done < r.count) then .next s
      else
        let x := chanAct n
        let g := { f with cur := none, wbits := [], stopped := false, report := some ⟨r.tag, f.status, f.slot, f.done, f.stopped⟩ }
        let s1 : State := { s.setFsq n g with rep := { s.rep with gates := setAt s.rep.gates n false } }
        let s2 := (((s1.put (Reg.FSQ.STATUS.STATE n) 0).put (Reg.RWC.STATUS.STATE n) 1).mapUnit x (n.val % 2) fun w =>
          { w with trim := 0 }).pulse (9 + 2 * n)
        if runWrites r ∧ r.kind ≠ 5 then
          if f.stopped then
            let h := 12 * x.num + r.head.toNat
            let s3 := (s2.bump (Reg.RWC.COUNTS.STOPPED n) 1).count 0x109 h 1
            let s4 := if (s3.dma.streams.getD n .reset).active.isSome then s3.streamEnd n else s3
            .next (s4.requeue n r)
          else .next s2
        else if r.kind ≠ 5 ∧ s2.runClean n r then .next (s2.learnEntry n)
        else .next s2

end Sys2Proof.Machine
end

