-- ==== Sys2Proof/Machine/Decoder.lean ====
section
/-!
DEFINITION. The decoder pool's commands (R232 to R243): grants, the end of a decode, delivery, expiry and removal of engines;
and the assist controller's calibrations (R250, R251).
-/

namespace Sys2Proof.Machine

/-! ### The pool (R234, R235). -/

/-- Sectors an engine works on. -/
def State.inEngine (s : State) : List LdpSector := s.media.sectors.filter fun x => x.engine.isSome

/-- The lowest free engine in service. -/
def State.freeEngine (s : State) : Option Nat :=
  (List.range 6).find? fun e => (s.get Reg.LDP.ENGINES.IN_SERVICE).testBit e && !(s.inEngine.any fun x => x.engine == some e)

/-- The limit of R235 is in force: some channel holds 16 or more entries. -/
def State.capped (s : State) : Bool := (List.range 4).any fun ch => decide (s.held24 ch ≥ 16)

/-- The limit of a first decode that starts now (R235). -/
def State.otfLimit (s : State) : Nat := if s.capped then min s.otfIter 4 else s.otfIter

/-- The sector that gets the next engine (R234): the oldest first decode whose channel is within CH_MAX; retry work only while
no first decode waits, within RETRY_MAX. -/
def State.nextGrant (s : State) : Option LdpSector :=
  let otf := s.media.sectors.filter fun x => x.waiting && x.first
  if otf.isEmpty then
    if (s.inEngine.filter fun x => !x.first).length < s.get Reg.LDP.QUOTA.RETRY_MAX then
      s.media.sectors.find? fun x => x.waiting
    else none
  else otf.find? fun x => decide ((s.inEngine.filter fun y => y.ch == x.ch).length < s.get Reg.LDP.QUOTA.CH_MAX)

/-- R234, R235: the pool grants a free engine. -/
def execDecoderGrant (s : State) : Host.Outcome State Fault Refusal :=
  match s.freeEngine, s.nextGrant with
  | some e, some x =>
    .next (s.setSector { x with engine := some e, waiting := false, iters := if x.first then s.otfLimit else x.iters })
  | _, _ => .next s

/-! ### The end of a decode (R233, R237, R242, R243). -/

/-- A head on which SECTORS sectors have reached step 8 within WINDOW hours has failed (R242). -/
def State.headCheck (s : State) (h : Nat) : State :=
  match s.cfg with
  | none => s
  | some c =>
    let n := (s.media.step8.filter fun e => e.1 == h && decide (s.hours ≤ e.2 + c.thresh.headFailWindow)).length
    if n ≥ c.thresh.headFailSectors ∧ c.thresh.headFailSectors ≠ 0 then s.retireInStart h else s

/-- An engine leaves the pool until the next device reset (R237): cause 1 parity, 2 reference decode, 3 output buffer. -/
def State.removeEngine (s : State) (e cause : Nat) : State :=
  let m := s.get Reg.LDP.ENGINES.REMOVED
  if m.testBit e then s
  else
    (((s.put Reg.LDP.ENGINES.REMOVED (m + 2 ^ e)).put Reg.LDP.ENGINES.IN_SERVICE (0x3F - (m + 2 ^ e))).put
      Reg.LDP.ENGINES.CAUSE cause).count 0x1A 0 1

/-- The sector of an engine that was removed is decoded again from its entry or its copies, or read again (R237, R253). -/
def State.decodeAgain (s : State) (x : LdpSector) : State :=
  if x.step = 8 then s.setSector { x with engine := none }
  else if x.stored || !x.values.isEmpty || !x.copies.isEmpty then s.setSector { x with engine := none, waiting := true }
  else s.askReread { x with engine := none, first := false, step := max 3 x.step }

/-- The payload goes to the sector's row (R233, R323); the set ends with its last row. -/
def State.postRow (s : State) (x : LdpSector) (payload : Bytes) : State :=
  match x.dst with
  | none => s
  | some (sp, a, i) =>
    let s1 := s.dmaPut sp a (padTo 4096 payload)
    let c := s1.dma.streams.getD x.ch .reset
    match c.active with
    | none => s1
    | some d =>
      if dstAt d i ≠ a ∨ d.dstSp.toNat ≠ sp then s1
      else
        let rows := insertNat i c.rows
        let s2 : State := { s1 with dma := { s1.dma with streams := setAt s1.dma.streams x.ch { c with rows := rows } } }
        if rows.length ≥ d.rows.toNat then s2.streamEnd x.ch else s2

/-- What SYNC_LAST records of a delivered sector (R221). -/
def LdpSector.result (x : LdpSector) : Nat :=
  if x.step = 1 ∨ x.step = 2 ∨ (x.step ≥ 3 ∧ !x.own) then 4
  else match x.mark with
    | none => 2
    | some m => if x.align = m then x.sync else 3

/-- The counts of a delivered sector (R208, R235, R476), and of those delivered at step 3 or later (R480). -/
def State.countSector (s : State) (x : LdpSector) : State :=
  let b := (clampI (-48) 48 x.align + 48).toNat
  let s1 := (s.bin 1 x.head b).bin 2 x.head (if x.first then 0 else x.step + 1)
  let s2 := s1.syncLast x.ch x.result x.align (scoreAt x.scores x.align)
  if x.step ≥ 3 then { s2 with crd := { s2.crd with late := assocPut s2.crd.late x.head (assocGet 0 s2.crd.late x.head + 1) } }
  else if x.step ≠ 0 then s2
  else if x.result = 2 then (s2.count 0x104 x.head 1).bump (Reg.FSQ.COUNTS.TRIAL_OK x.ch) 1
  else if x.result = 3 then (s2.count 0x105 x.head 1).bump (Reg.FSQ.COUNTS.TRIAL_OK x.ch) 1
  else s2

/-- R242: a sector delivered at step 3 or 4 is read again at the next idle period. -/
def State.readAgain (s : State) (x : LdpSector) : State :=
  let id := s.cqu.nextRun
  let d := s.descOf x.head x.track
  let s1 := s.queueRuns
    [{ id := id, act := x.head / 12, kind := 4, head := x.head, since := 0, urgent := false,
       run := { kind := 0, head := BitVec.ofNat 8 (x.head % 12), count := 1, track := BitVec.ofNat 32 x.track,
                firstSlot := BitVec.ofNat 16 x.slot, seedKind := BitVec.ofNat 8 x.kind, descValid := d.isSome, wide := false,
                dlba := BitVec.ofNat 40 x.dlba, descAddr := BitVec.ofNat 32 (match d with | some e => e.addr | none => 0),
                tag := BitVec.ofNat 32 id } }]
  { s1 with media := { s1.media with idleReread := assocPut s1.media.idleReread id x.dlba } }

/-- R243: a channel on which 16 sectors within 60 s failed through step 6 and were delivered at step 7 on the other leaves
service until the next device reset. -/
def State.step7Rule (s : State) (ch now : Nat) : State :=
  match s.rwcs[ch]? with
  | none => s
  | some c =>
    let l := (c.recent7.filter fun t => decide (now - t ≤ 60000)) ++ [now]
    let s1 : State := { s with rwcs := setAt s.rwcs ch { c with recent7 := l } }
    if l.length < 16 then s1
    else
      ({ s1 with media := { s1.media with outReset := setAt s1.media.outReset ch true } } : State).channelOut (chanAct ch) (ch % 2) true

/-- What the media manager does about where a sector was delivered (R242, R243). -/
def State.afterDelivery (s : State) (x : LdpSector) (now : Nat) : State :=
  let idle := assocHas s.media.idleReread x.tag.toNat
  let s1 : State := { s with media := { s.media with idleReread := assocDel s.media.idleReread x.tag.toNat } }
  if x.step < 3 then s1
  else if idle ∨ x.step ≥ 5 then (if x.step = 7 then s1.step7Rule x.ch now else s1).relocDue x
  else s1.readAgain x

/-- R233: a sector is delivered. -/
def State.deliverSector (s : State) (x : LdpSector) (payload : Bytes) (now : Nat) : State :=
  let s1 := (s.postRow x payload).dropSector x
  if x.loop then s1 else ((s1.countSector x).afterDelivery x now).fillPlaces

/-- R233, R237: a decode ends in an engine. The CRC is checked only where the syndrome is zero. -/
def execDecodeEnd (engine : Fin 6) (zero : Bool) (iters : Nat) (payload : Bytes) (crc : Word) (trouble : Nat) (now : Nat)
    (s : State) : Host.Outcome State Fault Refusal :=
  match s.media.sectors.find? fun x => x.engine == some engine.val with
  | none => .next s
  | some x =>
    let s1 := s.pulse (20 + engine.val)
    if trouble ≠ 0 then
      let s2 := s1.removeEngine engine (min trouble 3)
      let s3 := if trouble ≥ 3 then s2.streamHalt x.ch else s2
      .next (s3.decodeAgain x)
    else if x.step = 8 then .next (s1.setSector { x with engine := none })
    else
      let good := zero && sectorCrc (padTo 4096 payload) x.dlba x.kind == crc
      let s2 := if zero && !good then (s1.bump Reg.LDP.COUNTS.MISCORR 1).count 0x107 x.head 1 else s1
      let s3 := if x.first && !good then (s2.bump Reg.LDP.COUNTS.OTF_FAIL 1).count 0x102 x.head 1 else s2
      let s4 := if x.first && zero && !x.loop then s3.bin 3 x.ch (min 5 (iters - 1)) else s3
      if good then .next (s4.deliverSector x payload now)
      else
        let y := { x with
          first := false, engine := none, more := if x.first && !zero then s4.otfIter - x.iters else x.more,
          trials := if x.first && zero && x.mark.isSome then [] else x.trials }
        .next ((s4.decodeFailed y).headCheck x.head)

/-- R239: an entry has been occupied for 2 ms. -/
def execRetryStoreExpire (ch : Fin 4) (tag : Word) (sector : Nat) (s : State) : Host.Outcome State Fault Refusal :=
  match s.media.sectors.find? fun x => x.ch == ch.val && x.tag == tag && x.idx == sector && x.stored with
  | none => .next s
  | some x => .next (((s.bump Reg.LDP.COUNTS.EXPIRED 1).expireEntry x).headCheck x.head)

/-- R237: every engine decodes the reference codeword; one whose result differs leaves the pool. -/
def execReferenceDecode (good : BitVec 6) (s : State) : Host.Outcome State Fault Refusal :=
  .next ((List.range 6).foldl (fun (t : State) e =>
    if good.getLsbD e ∨ !(t.get Reg.LDP.ENGINES.IN_SERVICE).testBit e then t
    else
      let t1 := t.removeEngine e 2
      match t1.media.sectors.find? fun x => x.engine == some e with
      | some x => t1.decodeAgain x
      | none => t1) s)

/-! ### Assist calibration (R246, R250, R251). -/

/-- The head is populated and in use. -/
def State.headInUse (s : State) (h : Nat) : Bool :=
  (match s.cfg with | some c => c.geom.allSurfaces.contains h | none => false) && !s.stripe.retired.contains h

/-- R250: CAL_INTERVAL has passed for a head: its calibration is scheduled. -/
def execAssistCalDue (head : Nat) (s : State) : Host.Outcome State Fault Refusal :=
  if s.headInUse head then .next (s.mapAssist head fun a => { a with due := true }) else .next s

/-- Scale I_cal of every zone of a head by n ÷ d. -/
def State.scaleIcal (s : State) (h n d : Nat) : State :=
  let sc (v : Nat) : Nat := (roundDiv (v * n : Nat) d).toNat
  let base := s.ical h 0xFFFF
  let s1 : State := { s with media := { s.media with
    changed := true
    table := s.media.table.map fun e => if e.1.1 = h then (e.1, { e.2 with icalW := sc e.2.icalW }) else e } }
  s1.mapAssist h fun a => { a with ical := sc base }

/-- The zone of the calibration area: that of the head's last track (R250). -/
def State.calZone (s : State) (h : Nat) : Nat :=
  match s.cfg with
  | none => 0
  | some c => match c.geom.zoneAt h (c.geom.tracks h - 1) with | some (i, _) => i | none => 0

/-- The choice of R250: the lowest of the seven currents (in percent of I_cal) whose score lies within 5 % of the best; scores
are in 1/16 iterations. -/
def assistChoice (scores : List (Nat × Nat)) : Nat :=
  let sc := scores.map fun p => p.1 + 64 * p.2
  let best := (minNat? sc).getD 0
  85 + 5 * ((sc.findIdx? fun v => decide (v * 100 ≤ best * 105)).getD 3)

/-- R250: a calibration of a head. Fewer than seven scores: a second event 0x03 ended it (R253). A head that needs more than
MAX has failed. It does not start while a write run is in progress on the head (R253). -/
def execAssistCalibration (head : Nat) (scores : List (Nat × Nat)) (threshold : Nat) (signs : List Int) (temp : Int) (monitor : Nat)
    (s : State) : Host.Outcome State Fault Refusal :=
  let due := match s.media.assist[head]? with | some a => a.due | none => false
  let writing := (List.range 4).any fun n => match s.fsqs[n]? with
    | some f => (match f.cur with | some r => runWrites r && 12 * (n / 2) + r.head.toNat == head | none => false)
    | none => false
  if !due || writing || !s.headInUse head then .next s
  else if scores.length < 7 then .next (s.recalDue head true)
  else
    let i := s.ical head (s.calZone head)
    let (lo, hi) := s.headLimit head
    let k := assistChoice scores
    let chosen := roundDiv ((min hi (max lo (roundDiv (i * k : Nat) 100).toNat) : Nat) * 103) 100
    let s1 := ((s.count 0x10A head 1).put Reg.EAC.STATUS.CAL_HEAD head).put (Reg.EAC.HEAD.RECAL_DUE head) 0
    let beyond := decide (chosen.toNat > hi)
    let s2 := if i = 0 then s1 else s1.scaleIcal head chosen.toNat i
    let s3 := s2.mapAssist head fun a => { a with
      tcal := temp, mcal := monitor, thresh := if s.torque head then a.thresh else threshold, due := false, atOnce := false,
      drifts := 0, noWrite := beyond, calAt := s.counter 1 0 }
    let s4 : State := { s3 with
      media := { s3.media with table := s3.media.table.map fun e =>
        if e.1.1 = head then
          (e.1, { e.2 with precomp := e.2.precomp.mapIdx fun j v => clampI (-16) 16 (v + Int.sign (signs.getD j 0)) })
        else e }
      rwcs := s3.rwcs.map fun c => match c.lastPre with
        | some (h, _) => if h = head then { c with lastPre := none } else c
        | none => c }
    let s5 : State := { s4 with crd := { s4.crd with calAt := assocPut s4.crd.calAt head s4.hours } }
    .next (if beyond then s5.retireInStart head else s5)

/-- R251: the assist part of P9, after the servo part on both actuators: I_cal moves to the best of the three currents, with a
full calibration to follow; P10 begins. -/
def execAssistCheck (best : List (Nat × Nat)) (s : State) : Host.Outcome State Fault Refusal :=
  if !s.inPhase 9 ∨ s.held ∨ !s.flag (Reg.SLE.CAL.CAL_VALID 0) ∨ !s.flag (Reg.SLE.CAL.CAL_VALID 1) then .next s
  else
    let one (t : State) (e : Nat × Nat) : State :=
      if e.2 = 1 ∨ !t.headInUse e.1 then t
      else (t.scaleIcal e.1 (if e.2 = 0 then 95 else 105) 100).mapAssist e.1 fun a => { a with due := true }
    .next ((best.foldl one s).toPhase 10)

end Sys2Proof.Machine
end

