-- ==== Sys2Proof/Machine/Reset.lean ====
section
/-!
DEFINITION. Resets (R33 to R39, R44, R46 to R54, R402): power-on, the SYSRST_N sequence, block resets and the resets of the
host port.
-/

namespace Sys2Proof.Machine

/-! ### What a device reset leaves. -/

/-- The always-on registers of slot 0: LAST_CAUSE and STRAPS (R65). -/
def alwaysOn (k : Nat) : Bool := k == Reg.key 0 0 || k == Reg.key 0 4

/-- Registers that a device reset keeps: the Nightstand's, LAST_CAUSE and STRAPS (R64, R65). -/
def keptReg (k : Nat) : Bool := k / 0x10000 == 1 || alwaysOn k

/-- The chips on SYSRST_N enter reset (R36): drivers off, coils retracted, the bridge tristated. -/
def State.partnersReset (s : State) : State :=
  { s with feA := .reset, feB := .reset, motion := { MotionChip.reset with lt := s.motion.lt }, ident := .reset }

/-- SYSRST_N is high again: the partner chips leave reset (R36). -/
def State.partnersOut (s : State) : State :=
  { s with
    feA := { s.feA with inReset := false }
    feB := { s.feB with inReset := false }
    motion := { s.motion with inReset := false } }

/-- Every block of the die but the Nightstand, the RCU's reset logic and the save path takes a device reset (R35 step 3):
what lasts is what fuses, NOR, Chest, media and Nightstand hold, and what DRAM holds if `tables`. The Nightstand's part of
the memories and of the Bureau is theirs. -/
def State.dieReset (s : State) (tables : Bool) : State :=
  { State.reset with
    regs := s.regs.filter fun e => keptReg e.1 || e.1 / 0x10000 == 0
    pins := s.pins
    start := s.start
    fuses := s.fuses
    nor := { s.nor with stage := [] }
    defects := s.defects
    chest := s.chest
    core := s.core
    tables := if tables then s.tables else .reset
    media := { Media.reset with table := if tables then s.media.table else [] }
    stripe := { Stripe.reset with journal := s.stripe.journal }
    buf := { Buf.reset with
      cache := s.buf.cache, kept := s.buf.kept, unsafeDirty := s.buf.unsafeDirty, badSpares := s.buf.badSpares }
    dma := { Dma.reset with paused := true }
    zmu := { Zmu.reset with
      logZone := s.zmu.logZone, log := s.zmu.log, logBytes := s.zmu.logBytes, logBase := s.zmu.logBase, order := s.zmu.order
      ring := s.zmu.ring, coreZone := s.zmu.coreZone, coreGen := s.zmu.coreGen }
    cqu := { Cqu.reset with uncorrect := s.cqu.uncorrect }
    feA := s.feA, feB := s.feB, motion := s.motion
    bur := { Bureau.reset with
      mirror := s.bur.mirror, sstat := s.bur.sstat, passes := s.bur.passes, erased := s.bur.erased, scdw10 := s.bur.scdw10 }
    crd := s.crd
    hpt := { Hpt.reset with out := s.hpt.out }
    freeCount := s.freeCount
    pending := s.pending }

/-- The save path enters reset (R35 step 6): the write cache, the live journal and the working copy of the Credenza are gone. Of
the journal the copies stay: the Chest's, and the entries that a band copy holds (R269). -/
def State.savePathReset (s : State) : State :=
  let j := s.stripe.journal
  { s with
    stripe := { s.stripe with journal := { j with pending := j.pending.filter fun e => decide (e.1 ≤ max j.bandA j.bandB) } }
    buf := { s.buf with cache := [], badSpares := [] }
    dma := .reset
    crd := .reset }

/-- Every block is in reset and no phase has begun. -/
def State.startOver (s : State) (r : RstPhase) (cause : Nat) : State :=
  let st : Start := { Start.reset with
    rst := r, cause := cause, osc := s.start.osc }
  let s1 := (({ s with start := st } : State).put Reg.RCU.LAST_CAUSE.CAUSE cause).putB Reg.NST.START.OSC_KEPT s.start.osc
  { s1 with regs := s1.regs.setWord (Reg.key 1 0) 0 }

/-- R64: PREV_STATUS takes BOOT_STATUS, and SPIN_KEEP the target, as they stand when a reset ends the start. -/
def State.keepStatus (s : State) : State :=
  if s.start.rst ≠ .running then s
  else
    let s1 : State := { s with regs := s.regs.setWord (Reg.key 1 4) (s.regs.word (Reg.key 1 0)) }
    s1.put Reg.NST.SPIN_KEEP.TARGET_RPM s.target

/-- A loss of power without a completed shutdown waits to be counted (R374, R383). -/
def State.lossNoted (s : State) : State :=
  if s.start.rst = .running ∧ s.cqu.nvme.shst ≠ 2 then { s with buf := { s.buf with unsafeDirty := s.buf.unsafeDirty + 1 } } else s

/-! ### Power (R37, R442, R374, R516). -/

/-- Records of the index log not yet in a launched stripe stand in the protected cache (R340): a loss of power that no save has
met loses them. -/
def State.tailLost (s : State) : State :=
  if s.start.rst ≠ .running ∨ s.chest.header.state = 1 ∨ s.chest.header.state = 4 ∨ !s.flag Reg.NST.START.WARM_VALID then s
  else s.keepTail 0

/-- All supplies of the die but the Nightstand's are gone, or have come back: nothing volatile is left. -/
def State.coldDie (s : State) (r : RstPhase) (cause : Nat) : State :=
  let s1 := s.lossNoted.saveCut.tailLost.keepStatus
  let s2 := (((s1.dieReset false).savePathReset).partnersReset.startOver r cause)
  (((s2.put Reg.NST.START.DRAM_SR_KEPT 0).put Reg.RCU.LAST_CAUSE.WARM 0).put Reg.RCU.LAST_CAUSE.SAVED 0)

/-- The Nightstand has lost its supply too: its registers, its part of the memories, its mirror and its oscillator. -/
def State.nightstandLost (s : State) : State :=
  { s with
    regs := s.regs.filter fun e => e.1 / 0x10000 != 1
    buf := { s.buf with kept := .reset }
    bur := { s.bur with mirror := none }
    start := { s.start with osc := false } }

/-- R37: a power-on on VDD_NST, or on VDD_CORE alone with VDD_NST held; every power-on start is cold. -/
def execPowerOn (rail : Rail) (s : State) : Host.Outcome State Fault Refusal :=
  let nst : Bool := rail == .nst || !s.pins.nstOk
  let s1 := s.coldDie .stretch (if nst then 1 else 2)
  let s2 := if nst then s1.nightstandLost else s1
  .next { s2 with pins := { s2.pins with nstOk := true, coreOk := true, sysrstCount := false, sysrstDrive := true } }

/-- R442: VDD_CORE is removed with VDD_NST held. -/
def execVddCoreOff (s : State) : Host.Outcome State Fault Refusal :=
  if !s.pins.coreOk then .next s
  else
    let s1 := s.coldDie .unpowered 2
    .next { s1 with pins := { s1.pins with coreOk := false, sysrstCount := false, sysrstDrive := true } }

/-- R274, R374: the supplies, VDD_NST included, fall away: a hold-up save that has not written its last header has failed, and
all volatile state is gone. -/
def execPowerLoss (s : State) : Host.Outcome State Fault Refusal :=
  if !s.pins.coreOk ∧ !s.pins.nstOk then .next s
  else
    let s1 := ((if s.pins.coreOk then s.coldDie .unpowered 1 else s)).nightstandLost
    .next { s1 with pins := { s1.pins with nstOk := false, coreOk := false, sysrstCount := false, sysrstDrive := true } }

/-! ### SYSRST_N (R34 to R38). -/

/-- Steps 1 to 4 of R35 at recognition: cause and warm-valid latched, BOOT_STATUS copied, write gates closed, SYSRST_N driven,
the die reset but for the save path, and the save started where warm-valid was set. -/
def State.driveReset (s : State) (cause : Nat) : State :=
  if s.start.rst ≠ .running then s
  else
    let warm := s.flag Reg.NST.START.WARM_VALID
    let s1 := if warm ∧ !s.chest.saving then s.saveStart else s
    let dramOk := s1.get (Reg.RCU.CLK_STATUS.DOM 4) == 2
    let s2 := ((s1.keepStatus.dieReset (warm && dramOk)).partnersReset).startOver (if warm then .saving else .stretch) cause
    let s3 := ((s2.putB Reg.RCU.LAST_CAUSE.WARM warm).putB Reg.RCU.LAST_CAUSE.SAVED warm).put Reg.NST.START.DRAM_SR_KEPT 0
    { s3 with pins := { s3.pins with sysrstCount := false, sysrstDrive := true } }

/-- R34, R113: a low level has passed the filter: the drivers of both front ends stop, and the 1 µs count starts. -/
def execSysrstNLow (s : State) : Host.Outcome State Fault Refusal :=
  let stop (t : State) (x : Act) : State := (t.setFe x ((t.fe x).stopMask 3)).returnCredits x
  let s1 := stop (stop s .a) .b
  .next { s1 with pins := { s1.pins with sysrstLow := true, sysrstCount := s1.start.rst == .running } }

/-- R34: SYSRST_N is high again: a count that runs is abandoned. -/
def execSysrstNHigh (s : State) : Host.Outcome State Fault Refusal :=
  let s1 : State := { s with pins := { s.pins with sysrstLow := false, sysrstCount := false } }
  .next (if s1.start.rst = .release ∧ !s1.pins.sysrstDrive then s1.partnersOut else s1)

/-- R35: the count expires: a reset from outside is recognised. -/
def execSysrstRecognised (s : State) : Host.Outcome State Fault Refusal :=
  if s.pins.sysrstCount then .next (s.driveReset 3) else .next s

/-- R35 steps 4 and 5, R274: the save ends; after a reset, the devices enter self-refresh where the DRAM clock is good. -/
def execHoldupSaveDone (skipped : Nat) (s : State) : Host.Outcome State Fault Refusal :=
  let s1 := s.saveEnd skipped
  if s.start.rst = .saving then
    let kept := s.get (Reg.RCU.CLK_STATUS.DOM 4) == 2
    .next (({ s1 with start := { s1.start with rst := .stretch } } : State).putB Reg.NST.START.DRAM_SR_KEPT kept)
  else .next s1

/-- R35 step 6, R37: the save path enters reset, and the controller stops driving SYSRST_N. -/
def execResetStretchEnd (s : State) : Host.Outcome State Fault Refusal :=
  if s.start.rst = .stretch then
    let s1 := s.savePathReset
    let s2 : State := { s1 with
      start := { s1.start with rst := .release }
      pins := { s1.pins with sysrstDrive := false } }
    .next (if s2.pins.sysrstLow then s2 else s2.partnersOut)
  else .next s

/-- A domain's PLL is started: CLK_GOOD is awaited (R48). -/
def State.startClocks (s : State) : State :=
  (List.range 10).foldl (fun (t : State) n => t.put (Reg.RCU.CLK_STATUS.DOM n) (if n = 0 then 2 else 1)) s

/-- P1 has ended: P2 starts the PLLs (R42). -/
def State.enterP2 (s : State) : State := (s.toPhase 2).startClocks

/-- R35 step 7, R39 to R41: internal reset is released, the straps are sampled and P0 ends; an invalid strap halts the start in
P1; P1 ends at once where the oscillator ran through the reset. -/
def execInternalResetRelease (bootSrc clkMode : BitVec 2) (s : State) : Host.Outcome State Fault Refusal :=
  if s.start.rst ≠ .release ∨ s.pins.sysrstLow then .next s
  else
    let s1 : State := { s with
      regs := s.regs.filter fun e => keptReg e.1
      start := { s.start with rst := .running, blocks := s.start.blocks.mapIdx fun i b => if i ≤ 1 then .running else b }
      cqu := { s.cqu with nvme := { s.cqu.nvme with nssro := s.start.cause == 5 } } }
    let s2 := (((s1.put Reg.RCU.STRAPS.BOOT_SRC bootSrc.toNat).put Reg.RCU.STRAPS.CLK_MODE clkMode.toNat).putB
      Reg.TST.MODE.MFG (bootSrc == 3)).toPhase 1
    let s3 := s2.putB Reg.HPT.LINK.SEP_REF (clkMode != 2)
    .next (if clkMode = 3 ∧ bootSrc ≠ 3 then s3.halt 0x02 0 else if s3.start.osc then s3.enterP2 else s3)

/-- R42: the oscillator has settled, and P1 ends. -/
def execOscSettled (s : State) : Host.Outcome State Fault Refusal :=
  if s.inPhase 1 ∧ !s.start.osc then
    .next ({ s with start := { s.start with osc := true } } : State).enterP2
  else .next s

/-- R38: NSSR: the host writes the value of the reset. -/
def execNssr (value : Word) (s : State) : Host.Outcome State Fault Refusal :=
  .next (s.mmio fun t => if value = 0x4E564D65 then t.driveReset 5 else t)

/-- R38: a halted start is retried under manufacturing control. -/
def execMfgStartRetry (s : State) : Host.Outcome State Fault Refusal :=
  .next (s.inMfg fun t => if t.flag Reg.NST.BOOT_STATUS.HALTED then t.driveReset 7 else t)

/-- R38: core 0 services the watchdog; a core that hangs does not (R309). -/
def execWatchdogService (s : State) : Host.Outcome State Fault Refusal := .next s

/-- R38: 1.0 s without service. -/
def execWatchdogExpire (s : State) : Host.Outcome State Fault Refusal :=
  if s.start.watchdog then .next (s.driveReset 4) else .next s

end Sys2Proof.Machine
end

