-- ==== Sys2Proof/Machine/BlockReset.lean ====
section
/-!
DEFINITION. Block resets (R51 to R54, R65) and the resets of the host port (R402). What a block held is dropped when its reset
is asserted; its registers take their Warm values when it is released.
-/

namespace Sys2Proof.Machine

/-! ### Domains. -/

/-- The domain of a slot (R28): its clock must be good before the block is released. BFM stands in the fabric domain. -/
def domOf (slot : Nat) : List Nat :=
  if slot ≤ 1 then [0]
  else if slot ≤ 7 then [1]
  else if slot = 8 then [2]
  else if slot = 0xB then [3, 4]
  else if slot ≤ 0xF then [3]
  else if slot = 0x10 ∨ slot = 0x11 ∨ slot = 0x16 then [5, 6]
  else if slot = 0x12 then [7]
  else if slot ≤ 0x17 then [8]
  else [9]

/-- CLK_GOOD of every domain of a slot. -/
def State.clockGood (s : State) (slot : Nat) : Bool := (domOf slot).all fun d => s.get (Reg.RCU.CLK_STATUS.DOM d) == 2

/-- The state of the block in a slot. -/
def State.block (s : State) (slot : Nat) : BlkState := s.start.blocks.getD slot .inReset

/-- Change the state of a block. -/
def State.setBlock (s : State) (slot : Nat) (b : BlkState) : State :=
  { s with start := { s.start with blocks := setAt s.start.blocks slot b } }

/-- The BLK_RST or BLK_FORCED bit of a slot (R65). -/
def blkBit (off slot : Nat) : Fld := ⟨0, off, slot, 1⟩

/-- The actuators whose half of a media block a reset covers: those of a domain that has lost its clock, both where none has
(R28, R51). -/
def State.halves (s : State) : List Act :=
  let bad := [Act.a, Act.b].filter fun x => s.get (Reg.RCU.CLK_STATUS.DOM (5 + x.num)) != 2
  if bad.isEmpty then [.a, .b] else bad

/-! ### What a block reset drops (R53). -/

/-- The link of the host port is down; `train`: it retrains. -/
def State.hostLinkDrop (s : State) (train : Bool) : State :=
  ((({ s with hpt := { s.hpt with training := train } } : State).put Reg.HPT.LINK.SPEED 0).put Reg.HPT.LINK.WIDTH 0).put
    Reg.HPT.LINK.PM_LINK 0

/-- Every ring descriptor with a PCIe side ends with a PCIe error. -/
def State.pcieDescsEnd (s : State) : State :=
  (List.range 64).foldl (fun (t : State) n =>
    match (t.dma.rings.getD n .reset).cur with
    | some (d, _) => if d.srcSp == 2 || d.dstSp == 2 then t.ringEnd n d 3 else t
    | none => t) s

/-- R54, R377, R402: the host port is reset: the effect of a controller reset, the NVMe registers, the DOE mailbox and the keys;
sticky AER fields stay. A ring descriptor with a PCIe side ends with a PCIe error. -/
def State.hostDrop (s : State) : State :=
  let s1 := (s.ctrlReset 0).pcieDescsEnd
  let s2 : State := { s1 with
    hpt := { Hpt.reset with out := s1.hpt.out, aer := s1.hpt.aer, training := s1.hpt.training, follower := s1.hpt.follower }
    cqu := { s1.cqu with nvme := { NvmeRegs.reset with nssro := s1.cqu.nvme.nssro } } }
  ((((s2.put Reg.HPT.LINK.IN_RESET 1).put Reg.HPT.LINK.KEYS_LOADED 0).put Reg.HPT.XTS.CONV_KEYS 0).put
    Reg.HPT.XTS.ZONED_KEYS 0).put Reg.HPT.XTS.META_KEYS 0

/-- A format sequencer's runs go back to the media scheduler whole (R53, R200), and it is idle. -/
def State.fsqDrop (s : State) (ch : Nat) : State :=
  match s.fsqs[ch]? with
  | none => s
  | some f =>
    let runs := (match f.cur with | some r => [r] | none => []) ++ f.fifo
    let s1 := runs.foldl (fun (t : State) r => t.requeue ch r) s
    { s1 with
      fsqs := setAt s1.fsqs ch .reset
      rep := { s1.rep with gates := setAt s1.rep.gates ch false } }

/-- The decoder pool: decodes in progress are made again, and entries of the retry store are lost (R53, R239). -/
def State.ldpDrop (s : State) : State :=
  let again (x : LdpSector) : LdpSector := if x.engine.isSome then { x with engine := none, waiting := true } else x
  let s1 : State := { s with media := { s.media with sectors := s.media.sectors.map again } }
  (s1.media.sectors.filter fun x => x.stored).foldl (fun (t : State) x => t.expireEntry x) s1

/-- What the block in a slot drops when its reset is asserted. -/
def State.blockDrop (s : State) (slot : Nat) : State :=
  let chans := s.halves.flatMap fun x => [chanOf x 0, chanOf x 1]
  if slot = 8 then s.hostDrop
  else if slot = 0xA then
    { s with zmu := { s.zmu with
      lines := List.replicate 48 .reset, plru := List.replicate 64 false, miss := List.replicate 8 none, waitMiss := [] } }
  else if slot = 0xD then
    { s with dma := { s.dma with rings := List.replicate 64 .reset, streams := List.replicate 8 .reset } }
  else if slot = 0x10 then chans.foldl State.fsqDrop s
  else if slot = 0x11 then { s with rwcs := chans.foldl (fun l ch => setAt l ch .reset) s.rwcs }
  else if slot = 0x12 then s.ldpDrop
  else if slot = 0x14 then { s with servoA := .reset, servoB := .reset }
  else if slot = 0x15 then { s with spin := { Spindle.reset with demand := s.spin.demand } }
  else s

/-! ### The sequence of R52. -/

/-- A block reset is requested: IDLE_REQ to a block that runs; a second request merges. -/
def State.requestReset (s : State) (slot : Nat) : State :=
  if slot ≥ 8 ∧ s.start.rst = .running ∧ s.block slot = .running then s.setBlock slot .idleReq else s

/-- Reset is asserted to a block. -/
def State.assertReset (s : State) (slot : Nat) : State := (s.setBlock slot .resetting).blockDrop slot

/-- Registers outside the half of a block that was reset keep their values: instance 0 or 1 (links), 0 to 3 (channels). -/
def State.warmRegs (s : State) (slot : Nat) : State :=
  let all : Bool := s.halves.length == 2
  let kept (off : Nat) : Bool := !all &&
    (decide (off ≥ 0x400) || !(s.halves.any fun x =>
      if slot = 0x16 then off / 0x100 == x.num else decide (off / 0x200 = x.num)))
  let media : Bool := slot == 0x10 || slot == 0x11 || slot == 0x16
  let rf := (Reg.rows.filter fun r => r.slot == slot).foldl (fun (f : RegFile) r =>
    (List.range r.count).foldl (fun (f : RegFile) i =>
      let off := r.off + r.stride * i
      if media ∧ kept off then f else f.setWord (Reg.key slot off) (r.warm (f.word (Reg.key slot off)))) f) s.regs
  { s with regs := rf }

/-- A block is released (R52): its registers take their Warm values, but HPT.RESETS and the link's speed and width, the channels
and engines out of service, and what a start has latched. The host port's keys are loaded again (R402), links train, the spindle
controller takes the demand up again. -/
def State.releaseBlock (s : State) (slot : Nat) : State :=
  let h := s.halves
  let s1 := ((s.warmRegs slot).setBlock slot .running).put (blkBit 0x20 slot) 0
  if slot = 8 then
    let resets := s.regs.word (Reg.key 8 0x00C)
    let s2 := ((({ s1 with regs := s1.regs.setWord (Reg.key 8 0x00C) resets } : State).put Reg.HPT.LINK.SPEED
      (s.get Reg.HPT.LINK.SPEED)).put Reg.HPT.LINK.WIDTH (s.get Reg.HPT.LINK.WIDTH))
    if s.phase ≥ 0xB then s2.loadKeys s2.core.keys else s2
  else if slot = 0x11 then
    (List.range 4).foldl (fun (t : State) ch => t.putB (Reg.RWC.STATUS.OUT ch) (s.flag (Reg.RWC.STATUS.OUT ch))) s1
  else if slot = 0x12 then
    (s1.put Reg.LDP.ENGINES.REMOVED (s.get Reg.LDP.ENGINES.REMOVED)).put Reg.LDP.ENGINES.IN_SERVICE
      (s.get Reg.LDP.ENGINES.IN_SERVICE)
  else if slot = 0x15 ∧ s.phase ≥ 8 then s1.setDemand s1.spin.demand
  else if slot = 0x16 ∧ s.phase ≥ 7 then h.foldl (fun (t : State) x => t.trainStart x.port false) s1
  else if slot = 0x17 ∧ s.phase ≥ 7 then s1.trainStart .zhosel false
  else s1

/-- Blocks that waited for CLK_GOOD are released (R51, R52). -/
def State.releaseWaiting (s : State) : State :=
  (List.range 26).foldl (fun (t : State) n => if t.block n = .waitClock ∧ t.clockGood n then t.releaseBlock n else t) s

/-- R52: a block reset is requested. -/
def execBlockResetRequest (slot : Fin 26) (s : State) : Host.Outcome State Fault Refusal :=
  let s1 := s.requestReset slot
  .next (if slot = 8 ∧ s.block 8 = .running then s1.hostLinkDrop true else s1)

/-- R52: the block acknowledges idle. -/
def execIdleAck (slot : Fin 26) (s : State) : Host.Outcome State Fault Refusal :=
  if s.start.rst = .running ∧ s.block slot = .idleReq then .next (s.assertReset slot) else .next s

/-- R52: no IDLE_ACK in time: BLK_FORCED, and reset is asserted. -/
def execIdleAckTimeout (slot : Fin 26) (s : State) : Host.Outcome State Fault Refusal :=
  if s.start.rst = .running ∧ s.block slot = .idleReq then .next ((s.put (blkBit 0x24 slot) 1).assertReset slot) else .next s

/-- R52: 64 cycles have passed: the block is released once its clock is good. -/
def execBlockResetRelease (slot : Fin 26) (s : State) : Host.Outcome State Fault Refusal :=
  if s.start.rst = .running ∧ s.block slot = .resetting then
    .next (if s.clockGood slot then s.releaseBlock slot else s.setBlock slot .waitClock)
  else .next s

/-- R65: RCU.BLK_RST: in manufacturing mode each bit requests a block reset and reads 1 until the release. -/
def execBlkRst (value : Word) (s : State) : Host.Outcome State Fault Refusal :=
  .next (s.inMfg fun t => ((List.range 26).filter fun n => decide (n ≥ 8) && value.getLsbD n).foldl (fun (t : State) n =>
    if t.block n = .inReset then t
    else
      let t1 := (t.requestReset n).put (blkBit 0x20 n) 1
      if n = 8 ∧ t.block 8 = .running then t1.hostLinkDrop true else t1) t)

/-! ### Loss of lock (R51). -/

/-- The domain whose blocks a PLL of its own clocks, with their slots; SYSPLL ends in a device reset. -/
def pllDomain : Pll → Option (Nat × List Nat)
  | .sys => none
  | .pcie => some (2, [8])
  | .ddr => some (4, [0xB])
  | .serA => some (5, [0x10, 0x11, 0x16])
  | .serB => some (6, [0x10, 0x11, 0x16])

/-- The LOCK_LOSS bit of a PLL (R65). -/
def pllBit : Pll → Fld
  | .sys => Reg.RCU.LOCK_LOSS.SYSPLL
  | .pcie => Reg.RCU.LOCK_LOSS.PCIEPLL
  | .ddr => Reg.RCU.LOCK_LOSS.DDRPLL
  | .serA => Reg.RCU.LOCK_LOSS.SERPLLA
  | .serB => Reg.RCU.LOCK_LOSS.SERPLLB

/-- R51: a PLL loses lock after its blocks were released: LOCK_LOSS records it, and its blocks take a block reset; SYSPLL goes
straight to the device reset of cause 6. -/
def execPllLockLoss (pll : Pll) (s : State) : Host.Outcome State Fault Refusal :=
  if s.start.rst ≠ .running ∨ s.phase < 3 then .next s
  else
    let s1 := s.put (pllBit pll) 1
    match pllDomain pll with
    | none => .next (s1.driveReset 6)
    | some (d, slots) =>
      if s.get (Reg.RCU.CLK_STATUS.DOM d) ≠ 2 then .next s
      else
        let s2 := slots.foldl (fun (t : State) n => t.requestReset n) (s1.put (Reg.RCU.CLK_STATUS.DOM d) 1)
        .next (if pll = .pcie then s2.hostLinkDrop true else s2)

/-- R51: CLK_GOOD does not return within 2 ms: FAILED; the compute domain stays off (R29), any other domain drives SYSRST_N with
cause 6. -/
def execLockLossTimeout (dom : Fin 10) (s : State) : Host.Outcome State Fault Refusal :=
  if s.start.rst ≠ .running ∨ s.phase < 3 ∨ s.get (Reg.RCU.CLK_STATUS.DOM dom) ≠ 1 then .next s
  else
    let s1 := s.put (Reg.RCU.CLK_STATUS.DOM dom) 3
    .next (if dom = 9 then s1 else s1.driveReset 6)

/-! ### Resets of the host port (R402). -/

/-- R54, R402: PERST_N is asserted: the link is down until it trains under R47. -/
def execPerstNAssert (s : State) : Host.Outcome State Fault Refusal :=
  if s.pins.perstLow then .next s
  else
    let s1 : State := { s with pins := { s.pins with perstLow := true } }
    if s1.start.rst ≠ .running ∨ s1.block 8 = .inReset then .next s1
    else .next (((s1.bump Reg.HPT.RESETS.PERST 1).hostLinkDrop false).requestReset 8)

/-- R47: PERST_N is high again. -/
def execPerstNRelease (s : State) : Host.Outcome State Fault Refusal :=
  .next { s with pins := { s.pins with perstLow := false } }

/-- R402: a Hot Reset is received: the link retrains at once. -/
def execHotReset (s : State) : Host.Outcome State Fault Refusal :=
  if s.get Reg.HPT.LINK.SPEED = 0 then .next s
  else .next (((s.bump Reg.HPT.RESETS.HOT 1).hostLinkDrop true).requestReset 8)

/-- R402: the link is down from another cause: it retrains at once; counted in the Credenza (R475). -/
def execPcieLinkDown (s : State) : Host.Outcome State Fault Refusal :=
  if s.get Reg.HPT.LINK.SPEED = 0 then .next s
  else .next ((((s.bump Reg.HPT.RESETS.DOWN 1).count 0x1C 3 1).hostLinkDrop true).requestReset 8)

/-- R402: a Function Level Reset: the link stays up. -/
def execFunctionLevelReset (s : State) : Host.Outcome State Fault Refusal :=
  if s.get Reg.HPT.LINK.SPEED = 0 then .next s else .next ((s.bump Reg.HPT.RESETS.FLR 1).requestReset 8)

end Sys2Proof.Machine
end

