-- ==== Sys2Proof/Machine/ZoneMap.lean ====
section
/-!
DEFINITION. The zone map unit's commands (R338 to R354): the media cache, the index log, cleaning and merges, and the
48-line map cache with its miss registers.
-/

namespace Sys2Proof.Machine

/-! ### The media cache. -/

/-- R338: a media cache slot is launched 2 s after its first block entered it, its empty rows filled with fillers. The
slot is filled here with the oldest blocks that wait (assumption 8). -/
def execMediaCacheSlotTimeout (slot : Nat) (s : State) : Host.Outcome State Fault Refusal :=
  let s1 := s.gatherCache slot
  match s1.slot? slot with
  | some x => if x.cache then .next (s1.launch x) else .next s1
  | none => .next s1

/-- A record of the log that changes a zone, not the index. -/
def LogRec.ofZone : LogRec → Bool
  | .extent _ | .remove _ _ => false
  | .homeSwitch _ _ | .zoneChange _ _ _ => true

/-- R340: the log exceeds 128 MiB or the live index: the whole index is written as a base into the other log zone, where the
log goes on; its zone records go over with it. -/
def execIndexLogBase (s : State) : Host.Outcome State Fault Refusal :=
  if s.zmu.logBytes > 0x8000000 ∨ s.zmu.logBytes > s.zmu.extents.length * 16 then
    .next { s with zmu := { s.zmu with
      logZone := 5 - s.zmu.logZone, logBase := s.zmu.extents, log := s.zmu.log.filter LogRec.ofZone, logBytes := 0 } }
  else .next s

/-- Cleaning is called for (R342): fewer than four pool zones free beside the two merge targets, or a large index. -/
def State.needsCleaning (s : State) : Bool :=
  s.zmu.layout.isSome && (decide (s.freePool.length < 4 + 2) || decide (s.zmu.extents.length > 6291456))

/-- The highest position of a logical zone that holds data outside the write cache (R342). -/
def State.mergeHeight (s : State) (lz : Nat) (z : ZoneDesc) : Nat :=
  (s.zmu.extents.filter fun e => e.dlba / zsze == lz && !e.zero).foldl
    (fun h e => max h (ceilDiv ((e.dlba + e.count) % zsze) (256 * s.width))) z.frontier

/-- Start the merge of a conventional zone into a free pool zone (R342 step 1). -/
def State.mergeStart (s : State) (lz : Nat) : State :=
  match s.zone? lz, s.freePool.reverse.head? with
  | some z, some t =>
    if z.state = 5 ∧ !z.merging then
      let snap := s.zmu.extents.filter fun e => e.dlba / zsze == lz
      let m : Merge := ⟨lz, t, snap, s.mergeHeight lz z⟩
      ({ s with zmu := { s.zmu with merges := s.zmu.merges ++ [m] } } : State).setZone lz { z with merging := true }
    else s
  | _, _ => s

/-- R342: cleaning takes the oldest pool zone of the ring and merges every home zone with live blocks in it. -/
def execCleaning (s : State) : Host.Outcome State Fault Refusal :=
  if s.needsCleaning then
    match s.zmu.order.find? fun p => s.poolZones.contains p && s.zmu.extents.any fun e => e.pzone == p && !e.zero with
    | none => .next s
    | some p =>
      let lzs := ((s.zmu.extents.filter fun e => e.pzone == p && !e.zero).map fun e => e.dlba / zsze).eraseDups
      .next ((lzs.foldl State.mergeStart s).put Reg.ZMU.MCACHE.CLEANING 1)
  else .next (if s.zmu.merges.isEmpty then s.put Reg.ZMU.MCACHE.CLEANING 0 else s)

/-- Whether an extent is part of a snapshot's extent. -/
def Extent.within (x e : Extent) : Bool :=
  x.pzone == e.pzone && x.stripe == e.stripe && x.zero == e.zero && decide (e.dlba ≤ x.dlba) &&
  decide (x.dlba + x.count ≤ e.dlba + e.count) && decide (x.off = e.off + (x.dlba - e.dlba))

/-- R342 step 3: the merged data are in the target: the switch is logged, the descriptor's home changes, and the extents
of the snapshot go. -/
def execMergeSwitch (zone target : Nat) (s : State) : Host.Outcome State Fault Refusal :=
  match s.zmu.merges.find? fun m => m.zone == zone && m.target == target with
  | none => .next s
  | some m =>
    let w := 256 * s.width
    let s0 := (List.range m.highest).foldl (fun t i =>
      (t.journal (.begin_ target i (zone * zsze + i * w) w false)).journal (.commit target i (zone * zsze + i * w) w false)) s
    let s1 := s0.mapChange (.homeSwitch zone target)
    let gone := s1.zmu.extents.filter fun x => m.snap.any fun e => x.within e
    let s2 := gone.foldl (fun t x => t.mapChange (.remove x.dlba x.count)) s1
    let s3 : State := { s2 with zmu := { s2.zmu with merges := s2.zmu.merges.filter (· != m) } }
    let s4 : State := match s3.zone? zone with
      | some z => s3.setZone zone { z with merging := false, frontier := m.highest }
      | none => s3
    .next (if s4.zmu.merges.isEmpty ∧ !s4.needsCleaning then s4.put Reg.ZMU.MCACHE.CLEANING 0 else s4)

/-! ### The map cache. -/

/-- A line that may be chosen (R349): not locked, not awaiting a fill, not being written back. -/
def Zmu.eligible (z : Zmu) (i : Nat) : Bool :=
  match z.lines[i]? with
  | some l => !l.locked && !l.filling && !l.wback
  | none => false

/-- Whether the subtree of node n holds an eligible line (R349); leaves are nodes 64 to 111. -/
def Zmu.subtree (z : Zmu) : Nat → Nat → Bool
  | 0, n => z.eligible (n - 64)
  | f + 1, n => z.subtree f (2 * n) || z.subtree f (2 * n + 1)

/-- The walk of R349 from node n down `f` levels: the child b[n] names, or the other where that subtree holds none. -/
def Zmu.walk (z : Zmu) : Nat → Nat → Nat
  | 0, n => n - 64
  | f + 1, n =>
    let side := if z.plru.getD n false then 1 else 0
    if z.subtree f (2 * n + side) then z.walk f (2 * n + side) else z.walk f (2 * n + (1 - side))

/-- The victim (R349): the lowest-numbered invalid line, else the line of the walk, else none. -/
def Zmu.victim (z : Zmu) : Option Nat :=
  match (List.range 48).find? fun i => z.eligible i && (match z.lines[i]? with | some l => l.unit.isNone | none => false) with
  | some i => some i
  | none => if z.subtree 6 1 then some (z.walk 6 1) else none

/-- Point the bits of a line's path away from it (R349), from node n upward. -/
def touchUp : Nat → Nat → List Bool → List Bool
  | 0, _, b => b
  | f + 1, n, b => touchUp f (n / 2) (setAt b (n / 2) (n % 2 == 0))

/-- A hit or fill of a line. -/
def Zmu.touch (z : Zmu) (i : Nat) : Zmu := { z with plru := touchUp 6 (64 + i) z.plru }

/-- Give a miss register its line (R349, R351): an invalid or clean victim is filled at once, a dirty one is written back
first. -/
def Zmu.allocate (z : Zmu) (k : Nat) (r : MissReg) : Zmu :=
  match z.victim with
  | none => { z with miss := setAt z.miss k (some { r with line := none }) }
  | some i =>
    let l := z.lines.getD i .reset
    if l.dirty then
      { z with lines := setAt z.lines i { l with wback := true, dirty := false },
               miss := setAt z.miss k (some { r with line := some i, waitWb := true }) }
    else
      { z with lines := setAt z.lines i ⟨none, false, false, true, false⟩,
               miss := setAt z.miss k (some { r with line := some i, waitWb := false }) }

/-- The miss register that holds a unit. -/
def Zmu.missOf (z : Zmu) (u : Nat) : Option Nat := z.miss.findIdx? fun m => match m with | some r => r.unit == u | none => false

/-- The line that holds a unit. -/
def Zmu.lineOf (z : Zmu) (u : Nat) : Option Nat := z.lines.findIdx? fun l => l.unit == some u && !l.filling

/-- The cache is enabled and not in a flush. -/
def State.mapOn (s : State) : Bool := s.flag Reg.ZMU.CTRL.ENABLE && !s.flag Reg.ZMU.CTRL.FLUSHING

/-- Lock a line (R352): beyond 32 the lock is refused and REJECTED set. -/
def State.lockLine (s : State) (i : Nat) : State :=
  if (s.zmu.lines.getD i .reset).locked then s.put Reg.ZMU.PRELOAD.REJECTED 0
  else if (s.zmu.lines.filter fun l => l.locked).length ≥ 32 then s.put Reg.ZMU.PRELOAD.REJECTED 1
  else
    ({ s with zmu := { s.zmu with lines := modifyAt s.zmu.lines i fun l => { l with locked := true } } } : State).put
      Reg.ZMU.PRELOAD.REJECTED 0

/-- A miss (R350, R351): merged into the register of its unit, or given a register, or made to wait. -/
def State.mapMiss (s : State) (u : Nat) (write preload lock : Bool) : State :=
  match s.zmu.missOf u with
  | some k =>
    match s.zmu.miss.getD k none with
    | some r =>
      if r.second.length < 8 then
        ({ s with zmu := { s.zmu with miss := setAt s.zmu.miss k (some { r with
            second := r.second ++ [write], lock := r.lock || lock, preload := r.preload || preload }) } } : State).bump
          Reg.ZMU.MISSES.MERGED 1
      else { s with zmu := { s.zmu with waitMiss := s.zmu.waitMiss ++ [(u, write)] } }
    | none => s
  | none =>
    match s.zmu.miss.findIdx? fun m => m.isNone with
    | none => { s with zmu := { s.zmu with waitMiss := s.zmu.waitMiss ++ [(u, write)] } }
    | some k =>
      let r : MissReg := ⟨u, none, write, [], false, lock, preload⟩
      let inWb := s.zmu.lines.any fun l => l.unit == some u && l.wback
      let s1 := s.bump Reg.ZMU.MISSES.PRIMARY 1
      if inWb then
        ({ s1 with zmu := { s1.zmu with miss := setAt s1.zmu.miss k (some { r with waitWb := true }) } } : State).bump
          Reg.ZMU.MISSES.EVICT_WAIT 1
      else
        let z := s1.zmu.allocate k r
        let s2 : State := { s1 with zmu := z }
        match z.miss.getD k none with
        | some r2 => if r2.waitWb then s2.bump Reg.ZMU.MISSES.EVICT_WAIT 1 else s2
        | none => s2

/-- A lookup of a 256-byte unit (R348 to R353): bypassed while the cache is off; a hit is counted and moves the tree; a
write that hits makes the line dirty, except in a flush, which writes it through and lets misses bypass. -/
def State.mapLookup (s : State) (u : Nat) (write : Bool) : State :=
  if !s.flag Reg.ZMU.CTRL.ENABLE then s
  else
    match s.zmu.lineOf u with
    | some i =>
      if (s.zmu.lines.getD i .reset).wback ∧ s.mapOn then s.mapMiss u write false false
      else
        let z := s.zmu.touch i
        let z' := if write ∧ s.mapOn then { z with lines := modifyAt z.lines i fun l => { l with dirty := true } } else z
        ({ s with zmu := z' } : State).bump Reg.ZMU.HITS.HITS 1
    | none => if s.mapOn then s.mapMiss u write false false else s

/-- R348 to R351: a lookup. -/
def execMapCacheMiss (unit : Nat) (write : Bool) (s : State) : Host.Outcome State Fault Refusal :=
  .next (s.mapLookup unit write)

/-- A miss register that waits for a line tries again (R349). -/
def State.missAgain (t : State) (k : Nat) : State :=
  match t.zmu.miss.getD k none with
  | some r => if r.line.isNone ∧ !r.waitWb then { t with zmu := t.zmu.allocate k r } else t
  | none => t

/-- Registers that found no line try again, and one waiting miss is looked up again (R349, R350). -/
def State.mapRetry (s : State) : State :=
  let s1 := (List.range 8).foldl State.missAgain s
  match s1.zmu.waitMiss with
  | [] => s1
  | (u, w) :: rest =>
    if s1.zmu.miss.any fun m => m.isNone then ({ s1 with zmu := { s1.zmu with waitMiss := rest } } : State).mapLookup u w
    else s1

/-- A flush or a CLEAN goes on (R353, R354): once fills in progress are complete, every dirty line is written back; a
flush that has nothing left invalidates and unlocks every line and turns the cache off. -/
def State.mapSweep (s : State) : State :=
  let fills := s.zmu.lines.any fun l => l.filling
  let mark (t : State) : State := { t with zmu := { t.zmu with lines := t.zmu.lines.map fun l =>
    if l.dirty then { l with dirty := false, wback := true } else l } }
  let busy (t : State) : Bool := t.zmu.lines.any fun l => l.wback
  if s.flag Reg.ZMU.CTRL.FLUSHING then
    if fills then s
    else
      let s1 := mark s
      if busy s1 then s1
      else
        (({ s1 with zmu := { s1.zmu with lines := List.replicate 48 .reset, miss := List.replicate 8 none, waitMiss := [] } }
          : State).put Reg.ZMU.CTRL.FLUSHING 0).put Reg.ZMU.CTRL.ENABLE 0
  else if s.flag Reg.ZMU.CTRL.CLEAN then
    let s1 := mark s
    if busy s1 then s1 else s1.put Reg.ZMU.CTRL.CLEAN 0
  else s

/-- R350, R352: the fill of miss register k ends: its line is valid, dirty where a write waited, and its secondaries are
served in order; a preload locks it. -/
def execMapFillDone (k : Fin 8) (s : State) : Host.Outcome State Fault Refusal :=
  match s.zmu.miss.getD k none with
  | none => .next s
  | some r =>
    match r.line with
    | none => .next s
    | some i =>
      if r.waitWb then .next s
      else
        let d := (r.write || r.second.any id) && s.mapOn
        let z := { s.zmu with lines := setAt s.zmu.lines i ⟨some r.unit, d, false, false, false⟩,
                              miss := setAt s.zmu.miss k none }
        let s1 : State := { s with zmu := z.touch i }
        let s2 := if r.lock then s1.lockLine i else s1
        let s3 := if r.preload then s2.put Reg.ZMU.PRELOAD.GO 0 else s2
        .next (s3.mapRetry.mapSweep)

/-- R351: the write-back of a line is acknowledged: the miss that takes the line fills it, and a miss for the unit written
back fills from DRAM. -/
def execMapWritebackDone (line : Fin 48) (s : State) : Host.Outcome State Fault Refusal :=
  let l := s.zmu.lines.getD line .reset
  if !l.wback then .next s
  else
    let taker := s.zmu.miss.any fun m => match m with | some r => r.line == some line.val && r.waitWb | none => false
    let free (m : Option MissReg) : Option MissReg :=
      m.map fun r => if r.line = some line.val ∨ (r.line.isNone ∧ some r.unit = l.unit) then { r with waitWb := false } else r
    let l' : MapLine := if taker then ⟨none, false, false, true, false⟩ else { l with wback := false }
    let s1 : State := { s with zmu := { s.zmu with lines := setAt s.zmu.lines line l', miss := s.zmu.miss.map free } }
    .next (s1.mapRetry.mapSweep)

/-- R352: a write of ZMU.PRELOAD: with GO, the unit is filled and, with LOCK, locked; GO reads 1 until the fill ends. -/
def execPreload (value : Word) (s : State) : Host.Outcome State Fault Refusal :=
  let s1 := s.writeMasked 0x0A 0x008 value
  let u := s1.get Reg.ZMU.PRELOAD.LINE
  let lock := s1.flag Reg.ZMU.PRELOAD.LOCK
  if !value.getLsbD 30 then .next s1
  else if !s1.mapOn then .next (s1.put Reg.ZMU.PRELOAD.GO 0)
  else
    match s1.zmu.lineOf u with
    | some i =>
      if (s1.zmu.lines.getD i .reset).wback then .next (s1.mapMiss u false true lock)
      else .next ((if lock then s1.lockLine i else s1).put Reg.ZMU.PRELOAD.GO 0)
    | none => .next (s1.mapMiss u false true lock)

/-- R352: a write of ZMU.UNLOCK: with GO, one line or every line is unlocked. -/
def execUnlock (value : Word) (s : State) : Host.Outcome State Fault Refusal :=
  let s1 := s.writeMasked 0x0A 0x00C value
  if !value.getLsbD 7 then .next s1
  else
    let all := s1.flag Reg.ZMU.UNLOCK.ALL
    let idx := s1.get Reg.ZMU.UNLOCK.INDEX
    let lines := s1.zmu.lines.mapIdx fun i l => if all ∨ i = idx then { l with locked := false } else l
    .next (({ s1 with zmu := { s1.zmu with lines := lines } } : State).put Reg.ZMU.UNLOCK.GO 0)

/-- R353: a write of ZMU.CTRL.ENABLE: 0 starts a flush, 1 re-enables an empty cache; either has no effect in a flush. -/
def execEnable (onOff : Bool) (s : State) : Host.Outcome State Fault Refusal :=
  if s.flag Reg.ZMU.CTRL.FLUSHING then .next s
  else if onOff then .next (s.put Reg.ZMU.CTRL.ENABLE 1)
  else if s.flag Reg.ZMU.CTRL.ENABLE then .next ((s.put Reg.ZMU.CTRL.FLUSHING 1).mapSweep)
  else .next s

/-- R354: ZMU.CTRL.CLEAN writes back every dirty line without disabling the cache. -/
def execClean (s : State) : Host.Outcome State Fault Refusal := .next ((s.put Reg.ZMU.CTRL.CLEAN 1).mapSweep)

end Sys2Proof.Machine
end

