-- ==== Sys2Proof/Machine/PowerRows.lean ====
section
/-!
DEFINITION. Power states and temperature (R433 to R446): idle levels, APST, the steps of entering and leaving PS3 and PS4, the
thermal levels.
-/

namespace Sys2Proof.Machine

/-! ### The speed demand (R434). -/

/-- The demand in force: the smaller of the power state's and the thermal level's. -/
def State.demandOf (s : State) (ps : Nat) : Nat :=
  let on := s.spinCfg.turnOn
  min (if ps = 4 then 0 else if ps = 3 then on else 255) (if s.get Reg.RCU.PWR.THERM_LEVEL = 3 then on else 255)

/-- Issue the demand of a power state; the start holds 255 until P11 has ended (R136). -/
def State.issueDemand (s : State) (ps : Nat) : State :=
  if s.phase ≠ 0xF then s
  else
    let d := s.demandOf ps
    if d = s.get Reg.RCU.PWR.DEMAND then s else (s.put Reg.RCU.PWR.DEMAND d).setDemand d

/-- The blocks of a domain are power-gated (R431): they lose their state, and are released later with their Warm values. -/
def State.gate (s : State) (slots : List Nat) : State :=
  slots.foldl (fun (t : State) n => (t.blockDrop n).releaseBlock n) s

/-! ### Idle levels and APST (R439 to R441). -/

/-- No I/O command is in flight and no transition runs. -/
def State.idleNow (s : State) : Bool := s.ioCount == 0 && s.power.trans.isNone && s.start.rst == .running && s.phase == 0xF

/-- The timers of the option image (R82). -/
def State.timer (s : State) (f : PowerCfg → Nat) : Nat := match s.cfg with | some c => f c.power | none => 0

/-- R439: after T_PS1 of idle time the limits of PS1 are in force. -/
def execIdleTimerPs1 (s : State) : Host.Outcome State Fault Refusal :=
  if s.idleNow ∧ s.get Reg.RCU.PWR.HOST_PS = 0 ∧ s.get Reg.RCU.PWR.EFFECTIVE = 0 ∧ s.timer (·.t1) ≠ 0 then
    .next (s.put Reg.RCU.PWR.EFFECTIVE 1)
  else .next s

/-- R439: after T_PS2 those of PS2. -/
def execIdleTimerPs2 (s : State) : Host.Outcome State Fault Refusal :=
  if s.idleNow ∧ s.get Reg.RCU.PWR.HOST_PS ≤ 1 ∧ s.get Reg.RCU.PWR.EFFECTIVE ≤ 1 ∧ s.timer (·.t2) ≠ 0 then
    .next (s.put Reg.RCU.PWR.EFFECTIVE 2)
  else .next s

/-- R441: an autonomous entry is deferred while redundancy is to be restored or cleaning is forced. -/
def State.apstDeferred (s : State) : Bool :=
  (s.stripe.places.any fun p => s.holds p.zone && !p.lostMembers.isEmpty) || !s.stripe.relocs.isEmpty ||
  !s.stripe.reshape.isEmpty || (s.stripe.places.any fun p => p.moving) || s.needsCleaning

/-- R440: the idle time of the APST entry of the current state has passed. -/
def execApstTimer (s : State) : Host.Outcome State Fault Refusal :=
  let e := s.cqu.feats.apst.getD (s.get Reg.RCU.PWR.HOST_PS) 0
  let ps := e / 8 % 32
  if s.idleNow ∧ s.flag Reg.RCU.PWR.APSTE ∧ e / 256 ≠ 0 ∧ (ps = 3 ∨ ps = 4) ∧ ps > s.get Reg.RCU.PWR.EFFECTIVE ∧
      !s.apstDeferred ∧ !s.bur.running then .next (s.applyPs ps)
  else .next s

/-! ### Entering PS3 and PS4 (R435). -/

/-- The transition's next step. -/
def State.transStep (s : State) : State :=
  match s.power.trans with
  | some t => { s with power := { s.power with trans := some { t with step := t.step + 1 } } }
  | none => s

/-- A transition has ended in a state; a request that waited for it is taken (R446). -/
def State.transEnd (s : State) (n : Nat) : State :=
  let s1 : State := { s with power := { s.power with trans := none } }
  let s2 := ((s1.put Reg.RCU.PWR.TRANSITION 0).put Reg.RCU.PWR.EFFECTIVE n).put Reg.RCU.PWR.HOST_PS n
  match s2.power.want with
  | some w => s2.selectPs w
  | none => s2

/-- Every format sequencer is idle. -/
def State.runsEnded (s : State) : Bool := s.fsqs.all fun f => f.cur.isNone && f.fifo.isEmpty

/-- The blocks that PS3 and PS4 power-gate (R433); the links themselves are dormant. -/
def gatedSlots : List Nat := [0x10, 0x11, 0x12, 0x18, 0x19]

/-- A step of the entry to PS3 or PS4: runs end and tables are saved; the demand falls; for PS4 every block goes to media and a
checkpoint is written; the heads unload; SLP is sent; the domains stop. -/
def State.enterStep (s : State) (n : Nat) : State :=
  match s.power.trans with
  | some ⟨m, true, k⟩ =>
    if m ≠ n then s
    else if k = 0 then
      if s.runsEnded ∧ !s.flag Reg.SLE.RRO_STATUS.SAVE_PENDING ∧ !s.media.changed then s.transStep else s
    else if k = 1 then (s.issueDemand 3).transStep
    else if k = 2 then
      if s.spin.pending.isSome ∨ (n = 4 ∧ s.buf.cache.any fun b => b.dirty) then s.drain
      else ((if n = 4 then s.checkpoint else s).credWrite).transStep
    else if k = 3 then ((List.range 4).foldl (fun (t : State) ch => t.assistOff ch) s.unloadBoth).transStep
    else if k = 4 then
      if s.unloaded then
        ([Act.a, Act.b].foldl (fun (t : State) x => if t.linkUp x.port then t.sendSet x.port true .slp else t) s).transStep
      else s
    else if s.linkUp .ezpolA ∨ s.linkUp .ezpolB then s
    else ((s.gate gatedSlots).issueDemand n).transEnd n
  | _ => s

/-- R435: the next step of the entry to PS3. -/
def execPs3Entry (s : State) : Host.Outcome State Fault Refusal := .next (s.enterStep 3)

/-- R435: the next step of the entry to PS4. -/
def execPs4Entry (s : State) : Host.Outcome State Fault Refusal := .next (s.enterStep 4)

/-! ### Leaving them (R436, R437). -/

/-- A dormant link is woken (R125). -/
def State.wakeLink (s : State) (x : Act) : State :=
  if s.linkState x.port = 5 then (s.setFe x { s.fe x with dormant := false }).trainStart x.port true else s

/-- An actuator follows a track, or is out of service. -/
def State.actReady (s : State) (x : Act) : Bool := s.actState x == 4 || s.actState x == 7 || s.actDown x

/-- A step of the exit: a stopped spindle starts; at 90 % of the speed the links wake and DRAM leaves self-refresh; once both
actuators have been loaded and follow, the exit ends with the demand of the state it leads to. -/
def State.exitStep (s : State) : State :=
  match s.power.trans with
  | some ⟨n, false, k⟩ =>
    if k = 0 then (if s.get Reg.SPC.STATUS.STATE = 0 then s.issueDemand 0 else s).transStep
    else if k = 1 then
      if s.speedOver 90 then
        let s1 := (s.wakeLink .a).wakeLink .b
        ({ s1 with buf := { s1.buf with selfRef := false } } : State).transStep
      else s
    else if s.actReady .a ∧ s.actReady .b then ((s.issueDemand 0).transEnd n).opStart
    else s
  | _ => s

/-- R436: the next step of the exit from PS3, or from an entry that stopped. -/
def execPs3Exit (s : State) : Host.Outcome State Fault Refusal :=
  if s.get Reg.RCU.PWR.EFFECTIVE = 4 then .next s else .next s.exitStep

/-- R437: the next step of the exit from PS4. -/
def execPs4Exit (s : State) : Host.Outcome State Fault Refusal :=
  if s.get Reg.RCU.PWR.EFFECTIVE = 4 then .next s.exitStep else .next s

/-- R433: in PS3 or PS4, 1 ms without a DRAM access: self-refresh. -/
def execDramSelfRefreshIdle (s : State) : Host.Outcome State Fault Refusal :=
  if s.get Reg.RCU.PWR.EFFECTIVE ≥ 3 then .next { s with buf := { s.buf with selfRef := true } } else .next s

/-! ### Temperature (R443, R444). -/

/-- T_j: the mean of the last four readings of the hottest sensor, of those taken so far. -/
def meanTj (temps : List (List Int)) : Int :=
  temps.foldl (fun m l => max m (if l.isEmpty then 0 else l.sum / (l.length : Int))) 0

/-- The level T_j leads to from a level: the highest one entered, or one lower below the leave temperature. -/
def thermLevel (p : PowerCfg) (old : Nat) (tj : Int) : Nat :=
  let t2 := (p.throttle + p.crit) / 2
  let enter (k : Nat) : Int := if k = 1 then p.throttle else if k = 2 then t2 else p.crit
  let up := ((List.range 4).filter fun k => decide (k ≠ 0 ∧ tj ≥ enter k)).foldl max 0
  if up > old then up
  else if old ≠ 0 ∧ tj < enter old - p.hyst then old - 1
  else old

/-- A change of level (R444): at level 3 the heads unload, the demand is TURN_ON and decoder and compute are power-gated; in PS3
and PS4 only the level is recorded (R446). -/
def State.toLevel (s : State) (n : Nat) : State :=
  let old := s.get Reg.RCU.PWR.THERM_LEVEL
  if n = old then s
  else
    let s1 := s.put Reg.RCU.PWR.THERM_LEVEL n
    let s2 := if old = 0 then s1.bump Reg.RCU.THERMAL.ENTRIES 1 else s1
    let s3 := if n = 3 then s2.put Reg.RCU.THERMAL.CRIT_SEEN 1 else s2
    let ps := s.get Reg.RCU.PWR.EFFECTIVE
    if ps ≥ 3 ∨ s.phase ≠ 0xF then s3
    else if n = 3 then (s3.unloadBoth.gate [0x12, 0x18, 0x19]).issueDemand ps
    else if old = 3 then s3.issueDemand ps
    else s3

/-- R443, R444, R383: every 10 ms the four sensors are read. -/
def execThermalSample (r0 r1 r2 r3 : Int) (s : State) : Host.Outcome State Fault Refusal :=
  if s.start.rst ≠ .running then .next s
  else
    let add (i : Nat) (r : Int) : List Int := r :: ((s.power.temps.getD i []).take 3)
    let temps := [add 0 r0, add 1 r1, add 2 r2, add 3 r3]
    let tj := meanTj temps
    let s1 : State := { s with power := { s.power with temps := temps } }
    let s2 := (s1.put Reg.RCU.THERMAL.TJ (min tj.toNat 255)).put Reg.RCU.THERMAL.TJ_MAX
      (max (s1.get Reg.RCU.THERMAL.TJ_MAX) (min tj.toNat 255))
    match s2.cfg with
    | none => .next s2
    | some c => .next ((s2.toLevel (thermLevel c.power (s2.get Reg.RCU.PWR.THERM_LEVEL) tj)).tempWarn)

end Sys2Proof.Machine
end

