-- ==== Sys2Proof/Machine/HostPort.lean ====
section
/-!
DEFINITION. The host port's own commands (R399 to R401, R408 to R411, R414): power states of function and link, errors of the
link, the memory window, Loopback as Follower.
-/

namespace Sys2Proof.Machine

/-- The host port runs with its link up, whether or not the host reaches BAR0 yet. -/
def State.portUp (s : State) : Bool :=
  s.get Reg.HPT.LINK.SPEED != 0 && s.block 8 == .running && s.start.rst == .running

/-- What waited goes out in order (R399). -/
def State.flushSends (s : State) : State := { s with hpt := { s.hpt with out := s.hpt.out ++ s.hpt.sendq, sendq := [] } }

/-! ### Power states (R399 to R401). -/

/-- R401: PME_Turn_Off is answered, and the link enters L2/L3 Ready. -/
def execPmeTurnOff (s : State) : Host.Outcome State Fault Refusal :=
  if s.portUp ∧ s.get Reg.HPT.LINK.PM_LINK ≠ 4 then
    .next (({ s with hpt := { s.hpt with out := s.hpt.out ++ [.pmeToAck] } } : State).put Reg.HPT.LINK.PM_LINK 4)
  else .next s

/-- R399: the function enters D3hot, and the link L1. -/
def execD3hotEntry (s : State) : Host.Outcome State Fault Refusal :=
  if s.portUp ∧ s.get Reg.HPT.LINK.DSTATE = 0 ∧ s.get Reg.HPT.LINK.PM_LINK ≠ 4 then
    .next ((s.put Reg.HPT.LINK.DSTATE 3).put Reg.HPT.LINK.PM_LINK 1)
  else .next s

/-- R399: back to D0: what waited goes out. -/
def execD3hotExit (s : State) : Host.Outcome State Fault Refusal :=
  if s.portUp ∧ s.get Reg.HPT.LINK.DSTATE = 3 ∧ s.get Reg.HPT.LINK.PM_LINK ≠ 4 then
    .next ((s.put Reg.HPT.LINK.DSTATE 0).put Reg.HPT.LINK.PM_LINK 0).flushSends
  else .next s

/-- R400: 16 µs without a TLP or DLLP, with ASPM L1 enabled in Link Control. -/
def execAspmL1Entry (s : State) : Host.Outcome State Fault Refusal :=
  if s.portUp ∧ s.hpt.aspm ∧ s.get Reg.HPT.LINK.DSTATE = 0 ∧ s.get Reg.HPT.LINK.PM_LINK = 0 then
    .next (s.put Reg.HPT.LINK.PM_LINK 1)
  else .next s

/-- R400: the link leaves L1 or a substate of it. -/
def execAspmL1Exit (s : State) : Host.Outcome State Fault Refusal :=
  if s.portUp ∧ s.get Reg.HPT.LINK.DSTATE = 0 ∧ s.get Reg.HPT.LINK.PM_LINK ∈ [1, 2, 3] then
    .next (s.put Reg.HPT.LINK.PM_LINK 0)
  else .next s

/-- R411: the link partner asks for Loopback: the port follows, and its link is down for everything else (R402). -/
def execLoopbackFollower (s : State) : Host.Outcome State Fault Refusal :=
  if s.block 8 ≠ .running ∨ s.start.rst ≠ .running ∨ !(s.hpt.training || s.get Reg.HPT.LINK.SPEED != 0) then .next s
  else
    let s1 : State := { s with hpt := { s.hpt with follower := true } }
    if s.get Reg.HPT.LINK.SPEED = 0 then .next s1
    else .next ((((s1.bump Reg.HPT.RESETS.DOWN 1).count 0x1C 3 1).hostLinkDrop true).requestReset 8)

/-! ### Errors of the link (R408, R409). -/

/-- CSTS.CFS sets while the controller is enabled (R409). -/
def State.fatal (s : State) : State :=
  if s.cqu.nvme.cc.getLsbD 0 then { s with cqu := { s.cqu with nvme := { s.cqu.nvme with cfs := true } } } else s

/-- A correctable error's status bit. -/
def State.aerCor (s : State) (bit : Nat) : State :=
  { s with hpt := { s.hpt with aer := { s.hpt.aer with cor := s.hpt.aer.cor ||| 2 ^ bit } } }

/-- The failed completion to a request of the controller is logged: poisoned and timed out in AER, the others counted. -/
def State.cplLogged (s : State) : CplErr → State
  | .poisoned => s.aerUncor 12
  | .timeout => s.aerUncor 14
  | .unsupported => s.bump Reg.HPT.ERRORS.UR_CA 1
  | .abort => s.bump Reg.HPT.ERRORS.UR_CA 1

/-- What the host port does on each error (R408). -/
def State.pcieErr (s : State) : PcieErr → State
  | .receiver => (s.bump Reg.HPT.ERRORS.RX_ERR 1).aerCor 0
  | .badTlp => (s.bump Reg.HPT.ERRORS.RX_ERR 1).aerCor 6
  | .badDllp => (s.bump Reg.HPT.ERRORS.RX_ERR 1).aerCor 7
  | .replayTimeout => (s.bump Reg.HPT.ERRORS.REPLAYS 1).aerCor 12
  | .replayRollover => (s.bump Reg.HPT.ERRORS.REPLAYS 1).aerCor 8
  | .poisonedWriteData fsn => (s.aerUncor 12).finish fsn .dataXfer 0 0
  | .poisonedWindowWrite => s.aerUncor 12
  | .completionData fsn kind => (s.cplLogged kind).finish fsn .dataXfer 0 0
  | .completionQueue kind => (s.cplLogged kind).fatal
  | .unexpectedCompletion => s.aerUncor 16
  | .malformed => s.aerUncor 18
  | .flowControl => s.aerUncor 13
  | .receiverOverflow => s.aerUncor 17
  | .dataLinkProtocol => s.aerUncor 4
  | .unsupportedRequest => s.unsup true
  | .internalHostManager => s.fatal

/-- R408: an error is detected, logged and acted on. -/
def execPcieError (e : PcieErr) (s : State) : Host.Outcome State Fault Refusal :=
  if s.portUp ∨ e = .internalHostManager then .next (s.pcieErr e) else .next s

/-! ### The memory window (R414). -/

/-- A window access lies in BAR2 and the compute domain serves it (R29, R414). -/
def State.inWindow (s : State) (off n : Nat) : Bool := decide (off + n ≤ 0x10000000) && !s.computeFailed

/-- R414: a BAR2 write lands in its staging lines. -/
def execMemoryWindowWrite (off : Nat) (data : Bytes) (s : State) : Host.Outcome State Fault Refusal :=
  .next (s.mmio fun s => if s.inWindow off data.length then s.winWrite off data else s.unsup false)

/-- The window lines a range touches. -/
def winLines (off n : Nat) : List Nat := (List.range (if n = 0 then 0 else (off + n - 1) / 256 - off / 256 + 1)).map (off / 256 + ·)

/-- A line is filled from DRAM whose codewords the code cannot correct (R410). -/
def State.fillBad (s : State) (line : Nat) : Bool :=
  !(s.buf.lines.any fun l => l.line == line) && (s.firstBad .dram (windowBase + line * 256) 256).isSome

/-- A line is filled with what the read corrects counted, unless it lies in a staging line already. -/
def State.winFill (s : State) (line : Nat) : State :=
  if s.buf.lines.any fun l => l.line == line then s.winLine line
  else (s.readCorrections .dram (windowBase + line * 256) 256).winLine line

/-- R414, R410: a BAR2 read; one that meets an uncorrectable error has a poisoned completion. -/
def execMemoryWindowRead (off len : Nat) (s : State) : Host.Outcome State Fault Refusal :=
  .next (s.memReq true fun s =>
    if !s.inWindow off len then s.unsup true
    else
      match (winLines off len).find? fun l => s.fillBad l with
      | some l =>
        match s.firstBad .dram (windowBase + l * 256) 256 with
        | some u => (s.ueRecord .dram u).send .poisoned
        | none => s
      | none =>
        let s1 := (winLines off len).foldl (fun (t : State) l => t.winFill l) s
        s1.send (.readData (s1.winRead off len)))

end Sys2Proof.Machine
end

