-- ==== Sys2Proof/Machine/Test.lean ====
section
/-!
DEFINITION. The Credenza's writes (R473, R474, R490, R491), the fuses (R484), HOLD and the loopbacks (R126, R411, R487), the test
access port (R485).
-/

namespace Sys2Proof.Machine

/-! ### The Credenza (R473, R474, R491). -/

/-- R474: the write of a slot that a minute, PERSIST or CLEAR has called for ends. -/
def execCredenzaPersist (s : State) : Host.Outcome State Fault Refusal :=
  if s.start.rst = .running ∧ s.crd.busy then .next s.credPersist else .next s

/-- The bin of histogram 0x0007 for a junction temperature (R476). -/
def tjBin (tj : Nat) : Nat := if tj < 30 then 0 else min 11 ((tj - 30) / 8 + 1)

/-- R473, R474, R476: a minute of power-on time, of the power state, of the thermal level and of T_j; every 60 minutes the
working copy is written. -/
def execMinuteTick (s : State) : Host.Outcome State Fault Refusal :=
  if s.start.rst ≠ .running then .next s
  else
    let th := s.get Reg.RCU.PWR.THERM_LEVEL
    let s1 := ((s.count 0x01 0 1).count 0x14 (s.get Reg.RCU.PWR.EFFECTIVE) 1).bin 7 0 (tjBin (s.get Reg.RCU.THERMAL.TJ))
    let s2 := if th = 0 then s1 else s1.count 0x15 th 1
    let m := s2.crd.minutes + 1
    .next { s2 with crd := { s2.crd with minutes := m, busy := s2.crd.busy || decide (m ≥ 60) } }

/-- R491, R490: CRD.CTRL.CLEAR, in manufacturing mode; it waits for a write that is running. -/
def execCrdClear (s : State) : Host.Outcome State Fault Refusal :=
  .next (s.inMfg fun t =>
    if t.crd.busy then ({ t with crd := { t.crd with clearWait := true } } : State).put Reg.CRD.CTRL.CLEAR 1 else t.credClear)

/-- R491: CRD.CTRL.PERSIST, in manufacturing mode. -/
def execPersist (s : State) : Host.Outcome State Fault Refusal :=
  .next (s.inMfg fun t => ({ t with crd := { t.crd with busy := true } } : State).put Reg.CRD.CTRL.PERSIST 1)

/-! ### Fuses (R484). -/

/-- The end of a fuse operation: OP, INDEX and the result in TST.FUSE. -/
def State.fuseDone (s : State) (op index : Nat) (err : Bool) : State :=
  ((((s.put Reg.TST.FUSE.OP op).put Reg.TST.FUSE.INDEX index).put Reg.TST.FUSE.GO 0).put Reg.TST.FUSE.DONE 1).putB
    Reg.TST.FUSE.ERR err

/-- The digest in the digest buffer. -/
def State.fuseDigest (s : State) : Bytes := (List.range 48).map fun i => assocGet (0 : Byte) s.tst.digest i

/-- R484: DS is burned, its check last; a burn that fails leaves a check that fails. -/
def execBurnDs (ok : Bool) (s : State) : Host.Outcome State Fault Refusal :=
  .next (s.inMfg fun t =>
    if t.fuses.dsBurned then t.fuseDone 1 0 true
    else ({ t with fuses := { t.fuses with dsBurned := true, dsOk := ok } } : State).fuseDone 1 0 !ok)

/-- R484: a key slot is programmed from the digest buffer; one whose check fails reads as revoked. -/
def execProgramKeySlot (index : Fin 4) (ok : Bool) (s : State) : Host.Outcome State Fault Refusal :=
  .next (s.inMfg fun t =>
    match t.fuses.keys[index.val]? with
    | none => t
    | some k =>
      if k.prog then t.fuseDone 2 index true
      else ({ t with fuses := { t.fuses with keys := setAt t.fuses.keys index ⟨t.fuseDigest, true, k.revoked || !ok⟩ } } :
        State).fuseDone 2 index !ok)

/-- R484: a drive maker key slot is revoked. -/
def execRevokeKeySlot (index : Fin 4) (ok : Bool) (s : State) : Host.Outcome State Fault Refusal :=
  .next (s.inMfg fun t =>
    match t.fuses.keys[index.val]? with
    | none => t
    | some k =>
      if k.revoked then t.fuseDone 3 index true
      else ({ t with fuses := { t.fuses with keys := setAt t.fuses.keys index { k with revoked := ok } } } : State).fuseDone 3
        index !ok)

/-- R484: a Holtale key is revoked. -/
def execRevokeHoltaleKey (index : Fin 2) (ok : Bool) (s : State) : Host.Outcome State Fault Refusal :=
  .next (s.inMfg fun t =>
    if t.fuses.htRevoked.getD index.val false then t.fuseDone 4 index true
    else ({ t with fuses := { t.fuses with htRevoked := setAt t.fuses.htRevoked index.val ok } } : State).fuseDone 4 index !ok)

/-! ### HOLD and loopbacks (R487). -/

/-- R487: TST.MODE.HOLD sets with no I/O command in flight and no dirty block; I/O completes with Namespace Not Ready, DNR 0. -/
def execHold (s : State) : Host.Outcome State Fault Refusal :=
  .next (s.inMfg fun t =>
    if t.ioCount ≠ 0 ∨ (t.buf.cache.any fun b => b.dirty) then t
    else ({ t with cqu := { t.cqu with holdIo := true } } : State).put Reg.TST.MODE.HOLD 1)

/-- An actuator is retracted or unloaded (R181). -/
def State.actAway (s : State) (x : Act) : Bool := s.actState x == 0 || s.actState x == 6

/-- The precondition of a TST loopback (R487), and whether its depth exists (R488). -/
def State.tstReady (s : State) (iface depth : Nat) : Bool :=
  if depth = 0 ∨ depth > 4 then false
  else if iface = 0 then s.flag Reg.TST.MODE.HOLD
  else if iface = 1 then true
  else if iface = 2 ∨ iface = 3 then depth != 4 || s.chest.header.state == 0
  else iface == 4 && (depth == 2 || depth == 3)

/-- R487: a write of TST.LB with RUN, in manufacturing mode. LB4 of the NOR overwrites the staging region (R488). -/
def execTstLoopback (value : Word) (s : State) : Host.Outcome State Fault Refusal :=
  .next (s.inMfg fun t =>
    if t.flag Reg.TST.LB.RUN then t
    else
      let t1 := (((t.writeMasked 6 0x004 (value &&& 0x7F)).put Reg.TST.LB.DONE 0).put Reg.TST.LB.FAIL 0).put Reg.TST.LB.REFUSED 0
      let iface := t1.get Reg.TST.LB.IF
      let depth := t1.get Reg.TST.LB.DEPTH
      if !value.getLsbD 7 then t1
      else if t1.tstReady iface depth then
        let t2 := t1.put Reg.TST.LB.RUN 1
        if iface = 1 ∧ depth = 4 then { t2 with nor := { t2.nor with stage := [] } } else t2
      else ((t1.put Reg.TST.LB.DONE 1).put Reg.TST.LB.FAIL 1).put Reg.TST.LB.REFUSED 1)

/-- LB_CTRL of a port: DEPTH, RUN, DONE, FAIL, and its slot and offset. -/
def lbFlds : Port → Fld × Fld × Fld × Fld × Nat × Nat
  | .ezpolA => (Reg.ELK.LB_CTRL.DEPTH 0, Reg.ELK.LB_CTRL.RUN 0, Reg.ELK.LB_CTRL.DONE 0, Reg.ELK.LB_CTRL.FAIL 0, 0x16, 0x004)
  | .ezpolB => (Reg.ELK.LB_CTRL.DEPTH 1, Reg.ELK.LB_CTRL.RUN 1, Reg.ELK.LB_CTRL.DONE 1, Reg.ELK.LB_CTRL.FAIL 1, 0x16, 0x104)
  | .zhosel => (Reg.ZLK.LB_CTRL.DEPTH, Reg.ZLK.LB_CTRL.RUN, Reg.ZLK.LB_CTRL.DONE, Reg.ZLK.LB_CTRL.FAIL, 0x17, 0x004)

/-- The precondition of a link loopback (R487). -/
def State.lbReady (s : State) (p : Port) (depth : Nat) : Bool :=
  if depth = 0 ∨ depth > 4 then false
  else if depth = 1 then true
  else match p with
    | .ezpolA => s.actAway .a
    | .ezpolB => s.actAway .b
    | .zhosel => s.motion.mode == 0 && decide (s.get Reg.SPC.SPEED.RPM < 30) && s.actAway .a && s.actAway .b

/-- The partner chip enters or leaves its loopback (R126). -/
def State.partnerLoop (s : State) (p : Port) (depth : Nat) : State :=
  match p with
  | .ezpolA => { s with feA := { (if depth = 3 then s.feA.stopMask 3 else s.feA) with loop := depth } }
  | .ezpolB => { s with feB := { (if depth = 3 then s.feB.stopMask 3 else s.feB) with loop := depth } }
  | .zhosel => { s with motion := { s.motion with loop := depth != 0 } }

/-- R126, R487: a write of ELK.LB_CTRL or ZLK.LB_CTRL, in manufacturing mode. With RUN the link leaves the up state; LB3 and LB4
are entered at the partner chip by LOOP. -/
def execElkLoopback (port : Port) (value : Word) (s : State) : Host.Outcome State Fault Refusal :=
  .next (s.inMfg fun t =>
    let f := lbFlds port
    if t.flag f.2.1 then t
    else
      let t1 := ((t.writeMasked f.2.2.2.2.1 f.2.2.2.2.2 (value &&& 0x0F)).put f.2.2.1 0).put f.2.2.2.1 0
      let depth := t1.get f.1
      if !value.getLsbD 4 then t1
      else if t1.lbReady port depth then
        let t2 := if depth ≥ 3 then t1.partnerLoop port depth else t1
        (t2.put f.2.1 1).put (linkStateFld port) 0
      else (t1.put f.2.2.1 1).put f.2.2.2.1 1)

/-- R411, R487: a write of HPT.LB_CTRL, in manufacturing mode. LB2 and LB3 take the link down. -/
def execHptLoopback (value : Word) (s : State) : Host.Outcome State Fault Refusal :=
  .next (s.inMfg fun t =>
    if t.flag Reg.HPT.LB_CTRL.RUN ∨ t.block 8 ≠ .running then t
    else
      let t1 := ((t.writeMasked 8 0x004 (value &&& 0x7F)).put Reg.HPT.LB_CTRL.DONE 0).put Reg.HPT.LB_CTRL.FAIL 0
      let depth := t1.get Reg.HPT.LB_CTRL.DEPTH
      if !value.getLsbD 7 then t1
      else if depth = 0 ∨ depth > 4 ∨ (depth ≤ 2 ∧ t1.cqu.nvme.cc.getLsbD 0) then
        (t1.put Reg.HPT.LB_CTRL.DONE 1).put Reg.HPT.LB_CTRL.FAIL 1
      else
        let t2 := t1.put Reg.HPT.LB_CTRL.RUN 1
        if depth = 2 ∨ depth = 3 then t2.hostLinkDrop false else t2)

/-- A link loopback ends (R487): DONE and FAIL, the partner chip leaves its loopback, the link trains from its first step. -/
def State.lbEnd (s : State) (p : Port) (errors : Nat) : State :=
  let f := lbFlds p
  if s.flag f.2.1 then
    ((((s.put f.2.1 0).put f.2.2.1 1).putB f.2.2.2.1 (errors != 0)).partnerLoop p 0).trainStart p false
  else s

/-- R487: the loopback of an interface ends with the errors that its criterion of R488 counts. -/
def execLoopbackDone (unit : Fin 5) (errors : Nat) (s : State) : Host.Outcome State Fault Refusal :=
  .next (
    if unit = 0 then
      if s.flag Reg.TST.LB.RUN then
        (((s.put Reg.TST.LB.RUN 0).put Reg.TST.LB.DONE 1).putB Reg.TST.LB.FAIL (errors != 0)).put Reg.TST.LB_ERR.ERRORS
          (min errors 0xFFFFFFFF)
      else s
    else if unit = 1 then s.lbEnd .ezpolA errors
    else if unit = 2 then s.lbEnd .ezpolB errors
    else if unit = 3 then s.lbEnd .zhosel errors
    else if s.flag Reg.HPT.LB_CTRL.RUN then
      let s1 := ((s.put Reg.HPT.LB_CTRL.RUN 0).put Reg.HPT.LB_CTRL.DONE 1).putB Reg.HPT.LB_CTRL.FAIL (errors != 0)
      if s1.get Reg.HPT.LINK.SPEED = 0 then { s1 with hpt := { s1.hpt with training := true } } else s1
    else s)

/-! ### The test access port (R485). -/

/-- R485: NSTREAD shifts out BOOT_STATUS, then PREV_STATUS, in every state of the machine. -/
def execNstread (s : State) : Host.Outcome State Fault Refusal :=
  .next { s with pins := { s.pins with
    tapOut := toLe 4 (s.regs.word (Reg.key 1 0)).toNat ++ toLe 4 (s.regs.word (Reg.key 1 4)).toNat } }

/-- R485: EXTEST drives the boundary cells at the balls, and what it samples is shifted out. -/
def execExtest (drive sample : List Bool) (s : State) : Host.Outcome State Fault Refusal :=
  .next { s with pins := { s.pins with tapCells := drive, tapOut := toLe ((sample.length + 7) / 8) (ofBits sample) } }

end Sys2Proof.Machine
end

