-- ==== Sys2Proof/Machine/Vendor.lean ====
section
/-!
DEFINITION. The vendor commands (R418 to R426): SCAN with its descriptor, records, aggregates and result block, and
PEER_OUT and PEER_IN, each run as pieces of 1,024 blocks.
-/

namespace Sys2Proof.Machine

/-! ### The scan descriptor (R419). -/

/-- A field as the descriptor describes it: offset, width, type. -/
structure ScanField where
  off   : Nat
  width : Nat
  typ   : Nat
  deriving DecidableEq, Repr

/-- The field of a predicate entry at a place of the descriptor. -/
def predField (d : Bytes) (at_ : Nat) : ScanField := ⟨leAt d at_ 2, byteAt d (at_ + 2), byteAt d (at_ + 3)⟩

/-- The field of an aggregate entry. -/
def aggField (d : Bytes) (at_ : Nat) : ScanField := ⟨leAt d (at_ + 4) 2, byteAt d (at_ + 1), byteAt d (at_ + 2)⟩

/-- Bytes that must be 0. -/
def allZero (d : Bytes) (i n : Nat) : Bool := (slice d i n).all fun x => x == 0

/-- A field lies in a record and has a width and type of R419. -/
def ScanField.ok (f : ScanField) (reclen : Nat) : Bool :=
  decide (f.off + f.width ≤ reclen) && [1, 2, 4, 8].contains f.width && decide (f.typ ≤ 3)

/-- A predicate entry holds to R419. -/
def predOk (d : Bytes) (reclen k : Nat) : Bool :=
  let at_ := 64 + 32 * k
  (predField d at_).ok reclen && decide (byteAt d (at_ + 4) ≤ 6) && allZero d (at_ + 5) 3 && allZero d (at_ + 24) 8 &&
  (byteAt d (at_ + 4) == 6 || allZero d (at_ + 16) 8)

/-- An aggregate entry holds to R419. -/
def aggOk (d : Bytes) (reclen k : Nat) : Bool :=
  let at_ := 320 + 16 * k
  (aggField d at_).ok reclen && decide (1 ≤ byteAt d at_ ∧ byteAt d at_ ≤ 3) && byteAt d (at_ + 3) == 0 && allZero d (at_ + 6) 10

/-- RECLEN. -/
def scanReclen (d : Bytes) : Nat := leAt d 0 2

/-- The descriptor holds to R419, and OUT_LEN is 0 exactly when EMIT is clear (R423). -/
def scanOk (d : Bytes) (outLen : Nat) : Bool :=
  let r := scanReclen d
  decide (8 ≤ r ∧ r ≤ 4096) && r % 8 == 0 && decide (byteAt d 2 ≤ 8) && decide (byteAt d 3 ≤ 1) && decide (byteAt d 4 ≤ 4) &&
  decide (byteAt d 5 < 8) && allZero d 6 58 && allZero d 384 128 &&
  ((List.range (byteAt d 2)).all (predOk d r)) && ((List.range (byteAt d 4)).all (aggOk d r)) &&
  ((byteAt d 5 % 2 == 1) == (outLen != 0))

/-- The value of a field of a record, in its type (R419). -/
def ScanField.value (f : ScanField) (rec : Bytes) : Int :=
  let b := slice rec f.off f.width
  let n := if f.typ < 2 then leNat b else beNat b
  if f.typ % 2 = 1 then signed (8 * f.width) n else n

/-- A predicate on a record. -/
def predHolds (d : Bytes) (rec : Bytes) (k : Nat) : Bool :=
  let at_ := 64 + 32 * k
  let f := predField d at_
  let raw := leAt d (at_ + 8) 8
  let v : Int := if f.typ % 2 = 1 then signed 64 raw else raw
  let x := f.value rec
  match byteAt d (at_ + 4) with
  | 0 => x == v
  | 1 => x != v
  | 2 => decide (x < v)
  | 3 => decide (x ≤ v)
  | 4 => decide (x > v)
  | 5 => decide (x ≥ v)
  | _ => (unsigned 64 x &&& leAt d (at_ + 16) 8) == raw

/-- A record matches (R418): the predicates combined with AND or OR; with none, every record matches. -/
def scanMatch (d rec : Bytes) : Bool :=
  let n := byteAt d 2
  if n = 0 then true
  else if byteAt d 3 = 0 then (List.range n).all (predHolds d rec) else (List.range n).any (predHolds d rec)

/-- An aggregate takes a matching record's value. -/
def aggAdd (d rec : Bytes) (k : Nat) (a : Option Int) : Option Int :=
  let x := (aggField d (320 + 16 * k)).value rec
  match byteAt d (320 + 16 * k), a with
  | 1, some y => some (y + x)
  | 2, some y => some (min y x)
  | 3, some y => some (max y x)
  | _, some y => some y
  | _, none => some x

/-- One record of a scan (R418, R421). -/
def scanRecord (outMax : Nat) (v : VendorRun) (rec : Bytes) : VendorRun :=
  let v1 := { v with records := v.records + 1 }
  if !scanMatch v.desc rec then v1
  else
    let emit := byteAt v.desc 5 % 2 == 1
    let fits := !v.full && decide (v.emitted.length + rec.length ≤ outMax)
    { v1 with
      matched := v.matched + 1,
      aggs := v.aggs.mapIdx fun k a => aggAdd v.desc rec k a,
      hash := if byteAt v.desc 5 / 2 % 2 = 1 then v.hash ++ rec else v.hash,
      emitted := if emit ∧ fits then v.emitted ++ rec else v.emitted,
      full := if emit then !fits else v.full }

/-- One 4 KiB block of a scan: its whole records in order. -/
def scanBlock (outMax : Nat) (v : VendorRun) (b : Bytes) : VendorRun :=
  let r := scanReclen v.desc
  ((List.range (4096 / r)).map fun i => slice b (i * r) r).foldl (scanRecord outMax)
    { v with blocks := v.blocks + 1 }

/-- FLAGS of the result block (R420). -/
def scanFlags (v : VendorRun) (invalid : Bool) : Nat :=
  (if v.full then 1 else 0) + (if v.matched = 0 then 2 else 0) + (if v.lost > 0 then 4 else 0) + (if invalid then 2 ^ 31 else 0)

/-- An aggregate's 16 bytes (R420). -/
def aggBytes (d : Bytes) (k : Nat) (a : Option Int) : Bytes :=
  if byteAt d (320 + 16 * k) = 1 then toLe 16 (unsigned 128 (a.getD 0)) else toLe 8 (unsigned 64 (a.getD 0)) ++ zeros 8

/-- The result block (R420). -/
def scanResult (v : VendorRun) (slba : Nat) (invalid : Bool) : Bytes :=
  toLe 8 v.blocks ++ toLe 8 v.records ++ toLe 8 v.matched ++ toLe 8 (v.emitted.length / scanReclen v.desc) ++
  toLe 4 (scanFlags v invalid) ++ toLe 4 (min v.lost 0xFFFFFFFF) ++ toLe 8 slba ++ zeros 16 ++
  padTo 64 (((v.aggs.mapIdx fun k a => aggBytes v.desc k a)).flatten) ++
  (if byteAt v.desc 5 / 2 % 2 = 1 then sha256 v.hash else zeros 32) ++ zeros 96

/-! ### Starting (R425). -/

/-- The command is a vendor command of a kind that runs. -/
def Cmd.vendorRuns (c : Cmd) (scan : Bool) : Bool :=
  c.isIo && (if scan then c.sqe.opc == 0x82 else c.sqe.opc == 0x84 || c.sqe.opc == 0x88) &&
  (match c.vendor with | some v => v.active | none => false) && c.phase != .committed

/-- Vendor commands of a kind that run now: at most 2 SCANs and 4 peer commands. -/
def State.vendorCount (s : State) (scan : Bool) : Nat := (s.cqu.store.filter fun c => c.vendorRuns scan).length

/-- 4 KiB blocks of a vendor command. -/
def State.vendorBlocks (s : State) (e : Sqe) : Nat :=
  match s.ns e.nsid.toNat, s.zmu.layout with
  | some z, some l => sqeNlb e / l.per z
  | _, _ => 0

/-- A vendor run that has done nothing. -/
def State.newRun (s : State) (e : Sqe) (chan : Nat) (desc : Bytes) : VendorRun :=
  { next := 0, pieces := ceilDiv (s.vendorBlocks e) 1024, chan := chan, active := true, desc := desc, blocks := 0,
    records := 0, matched := 0, emitted := [], full := false, lost := 0,
    aggs := List.replicate (byteAt desc 4) none, hash := [] }

/-- The descriptor's place in the window (R419). -/
def sqeDesc (e : Sqe) : Nat := e.cdw13.toNat % 0x40000 * 1024

/-- R418, R419, R423, R425: SCAN starts: at most two run; the descriptor is read once. -/
def execScan (fsn : Nat) (s : State) : Host.Outcome State Fault Refusal :=
  match s.ioCmd fsn 0x82 with
  | none => .next s
  | some c =>
    if c.vendor.isSome then .next s
    else if s.computeFailed then .next (s.finish fsn .badOpcode 0 0)
    else if s.vendorCount true ≥ 2 then .next s
    else
      let d := s.winRead (sqeDesc c.sqe) 512
      if (s.firstBad .dram (windowBase + sqeDesc c.sqe) 512).isSome then .next (s.finish fsn .internal 0 0)
      else if !scanOk d (c.sqe.cdw14.toNat % 0x800) then
        .next ((s.bump Reg.NDC.ERRORS.DESC_REJ 1).finish fsn .badField 0 0)
      else .next (s.setCmd { c with vendor := some (s.newRun c.sqe 0 d) })

/-- The ring channel a peer command takes: the first of 40 to 47 that no other runs on (R422). -/
def State.peerChan (s : State) : Nat :=
  ((List.range 8).map (· + 40)).find? (fun n => !(s.cqu.store.any fun c =>
    c.vendorRuns false && match c.vendor with | some v => v.chan == n | none => false)) |>.getD 40

/-- RATE of a peer command: 0 means 10 (R423), at most 4 from thermal level 1 on (R444). -/
def State.peerRate (s : State) (e : Sqe) : Nat :=
  let r := if e.cdw15.toNat % 256 = 0 then 10 else e.cdw15.toNat % 256
  if s.get Reg.RCU.PWR.THERM_LEVEL ≥ 1 then min r 4 else r

/-- A peer command starts on a ring channel with its RATE (R422, R425). -/
def State.peerStart (s : State) (fsn : Nat) (op : Byte) : State :=
  match s.ioCmd fsn op with
  | none => s
  | some c =>
    if c.vendor.isSome then s
    else if s.computeFailed then s.finish fsn .badOpcode 0 0
    else if s.vendorCount false ≥ 4 then s
    else
      let n := s.peerChan
      (s.setCmd { c with vendor := some (s.newRun c.sqe n []), passed := op != 0x88 }).put (Reg.DMA.RING_CFG.RATE n) (s.peerRate c.sqe)

/-- R422: PEER_OUT. -/
def execPeerOut (fsn : Nat) (s : State) : Host.Outcome State Fault Refusal := .next (s.peerStart fsn 0x84)
/-- R422: PEER_IN. -/
def execPeerIn (fsn : Nat) (s : State) : Host.Outcome State Fault Refusal := .next (s.peerStart fsn 0x88)

/-! ### Pieces (R424). -/

/-- Piece k of a vendor command as a command of its own range. -/
def State.pieceSqe (s : State) (c : Cmd) (k : Nat) : Sqe :=
  let per := match s.ns c.sqe.nsid.toNat, s.zmu.layout with | some z, some l => l.per z | _, _ => 1
  let lo := sqeSlba c.sqe + k * 1024 * per
  let n := min (1024 * per) (sqeNlb c.sqe - k * 1024 * per)
  { c.sqe with
    opc := if c.sqe.opc = 0x88 then 0x01 else 0x02, cdw10 := BitVec.ofNat 32 lo, cdw11 := BitVec.ofNat 32 (lo / 2 ^ 32), cdw12 := BitVec.ofNat 32 (n - 1) }

/-- A piece as a command with the next FSN and its own Hatrack ranges. -/
def State.piece (s : State) (c : Cmd) (k : Nat) : Cmd :=
  let e := s.pieceSqe c k
  { c with fsn := s.cqu.nextFsn, sqe := e,
           ranges := s.rangesOf e }

/-- The next FSN is taken (R358, R424). -/
def State.takeFsn (s : State) : State := { s with cqu := { s.cqu with nextFsn := (s.cqu.nextFsn + 1) % 2 ^ 64 } }

/-- The plaintext of the blocks of a piece of a reader. -/
def State.pieceBlocks (s : State) (p : Cmd) (blocks : List (Option Bytes)) : List (Option Bytes) :=
  (s.coveredBy p.sqe).mapIdx fun i d => s.blockAt { p with buf := [] } (d, s.locate d) (blocks.getD i none)

/-- Blocks processed by the scan engine are counted in units of 2^20 (R428). -/
def State.countScan (s : State) (n : Nat) : State :=
  let t := s.cqu.ndcN + n
  ({ s with cqu := { s.cqu with ndcN := t % 0x100000 } } : State).bump Reg.NDC.BLOCKS.BLOCKS (t / 0x100000)

/-- Peer bytes are counted in units of 2^30 (R428). -/
def State.countPeer (s : State) (out : Bool) (n : Nat) : State :=
  if out then
    let t := s.cqu.ptxTx + n
    ({ s with cqu := { s.cqu with ptxTx := t % 2 ^ 30 } } : State).bump Reg.PTX.BYTES.SENT (t / 2 ^ 30)
  else
    let t := s.cqu.ptxRx + n
    ({ s with cqu := { s.cqu with ptxRx := t % 2 ^ 30 } } : State).bump Reg.PTX.BYTES.RECEIVED (t / 2 ^ 30)

/-- The outcome of a SCAN: result block, emitted records, log page 0xC6, completion (R420, R421, R423, R426). -/
def State.scanDone (s : State) (c : Cmd) (v : VendorRun) (st : Status) : State :=
  let inv := decide (st ≠ .ok)
  let res := scanResult v (sqeSlba c.sqe) inv
  let entry := padTo 512 (padTo 64 (toLe 2 c.sqid ++ toLe 2 c.sqe.cid.toNat ++ toLe 4 c.sqe.nsid.toNat ++
    toLe 2 (st.sct * 256 + st.sc) ++ toLe 2 0 ++ toLe 8 (sqeSlba c.sqe) ++ toLe 4 (sqeNlb c.sqe - 1)) ++ res)
  let s1 := s.winWrite (sqeDesc c.sqe + 512) res
  let s2 := if v.emitted.isEmpty then s1 else s1.toHost c v.emitted
  let s3 : State := { s2 with cqu := { s2.cqu with scans := (entry :: s2.cqu.scans).take 16 } }
  let s4 := (if inv then s3.bump Reg.NDC.ERRORS.INVALID 1 else s3).bump Reg.NDC.ERRORS.LOST v.lost
  if st = .unrecovered then s4.failRead c.fsn
  else s4.finish c.fsn st (min v.matched 0xFFFFFFFF) (scanFlags v inv % 8)

/-- A piece of a SCAN. -/
def State.scanPiece (s : State) (c : Cmd) (v : VendorRun) (blocks : List (Option Bytes)) (xfer : Xfer) : State :=
  let p := s.piece c v.next
  let bs := s.pieceBlocks p blocks
  let s1 := ((s.takeFsn).countDec bs.length).countScan bs.length
  let outMax := c.sqe.cdw14.toNat % 0x800 * 4096
  let skip := byteAt v.desc 5 / 4 % 2 == 1
  let v1 := bs.foldl (fun (a : VendorRun × Bool) b =>
    match b with
    | some x => if a.2 then a else (scanBlock outMax a.1 x, false)
    | none => if skip then ({ a.1 with lost := a.1.lost + 1 }, a.2) else (a.1, true)) (v, false)
  let v2 := { v1.1 with next := v.next + 1 }
  if v1.2 then s1.scanDone c v2 .unrecovered
  else
    match xferStatus xfer with
    | some st => s1.scanDone c v2 st
    | none => if v2.next ≥ v2.pieces then s1.scanDone c v2 .ok else s1.setCmd { c with vendor := some v2 }

/-- Where the piece's bytes lie in peer memory. -/
def peerAddr (c : Cmd) (k : Nat) : Nat := c.sqe.cdw13.toNat + c.sqe.cdw14.toNat * 2 ^ 32 + k * 1024 * 4096

/-- A piece of PEER_OUT: the blocks go to peer memory, or to the window on the die (R416). -/
def State.outPiece (s : State) (c : Cmd) (v : VendorRun) (blocks : List (Option Bytes)) (xfer : Xfer) : State :=
  let p := s.piece c v.next
  let bs := s.pieceBlocks p blocks
  let s1 := (s.takeFsn).countDec bs.length
  if bs.any Option.isNone then s1.failRead c.fsn
  else
    match xferStatus xfer with
    | some st => (if st = .dataXfer then s1.bump Reg.PTX.ERRORS.PCIE_ERR 1 else s1).finish c.fsn st 0 0
    | none =>
      let data := bs.flatMap fun b => b.getD []
      let at_ := peerAddr c v.next
      let s2 := if inBar s.hpt.bar2 0x10000000 at_ then s1.winWrite (at_ - s.hpt.bar2) data else s1.send (.memWrite at_ data)
      let s3 := s2.countPeer true data.length
      if v.next + 1 ≥ v.pieces then s3.finish c.fsn .ok 0 0
      else s3.setCmd { c with vendor := some { v with next := v.next + 1 } }

/-- A piece of PEER_IN: a writer of its own: admitted, checked and committed (R422, R424, R369); it waits while the cache
has no room. The command completes after its last piece, with FUA once every piece is durable. -/
def State.inPiece (s : State) (c : Cmd) (v : VendorRun) (blocks : List (Option Bytes)) (xfer : Xfer) : State :=
  match xferStatus xfer, s.ns c.sqe.nsid.toNat, s.zmu.layout with
  | some st, _, _ => ((if st = .dataXfer then s.bump Reg.PTX.ERRORS.PCIE_ERR 1 else s).takeFsn).finish c.fsn st 0 0
  | none, some z, some l =>
    let p := s.piece c v.next
    let ds := s.coveredBy p.sqe
    let must := s.mustProtect c.sqe
    match s.admitPart must ds.length with
    | none => match s.mediaDown with
      | some st => s.finish c.fsn st 0 0
      | none => s
    | some prot =>
      let at_ := peerAddr c v.next
      let data := if inBar s.hpt.bar2 0x10000000 at_ then
          (List.range ds.length).map fun i => s.winRead (at_ - s.hpt.bar2 + i * 4096) 4096
        else (List.range ds.length).map fun i => padTo 4096 ((blocks.getD i none).getD [])
      let lz := l.c + sqeSlba p.sqe / zsze
      let (s1, bad, _) := if z then s.takeFsn.zoneCheck p lz ds.length else (s.takeFsn, none, 0)
      match bad with
      | some st => s.takeFsn.finish c.fsn st 0 0
      | none =>
        let b := List.zipWith (fun d x => (d, s.encrypt d x)) ds data
        let s2 := ((s1.countEnc b.length).countPeer false (4096 * b.length)).commitBlocks p.fsn prot b
        let s3 := ((if z then s2.zoneAdvance lz ds.length p.fsn else s2).gatherHomes b).expose
        let wait := if must then (ds.filter fun d => !s3.durable d p.fsn).map fun d => (d, p.fsn) else []
        let c1 := { c with passed := true, waitFor := c.waitFor ++ wait, vendor := some { v with next := v.next + 1 } }
        if v.next + 1 < v.pieces then s3.setCmd c1
        else
          let left := c1.waitFor.filter fun w => !s3.durable w.1 w.2
          if left.isEmpty then s3.finish c.fsn .ok 0 0
          else ((s3.setCmd { c1 with status := some .ok, waitFor := left }).drain)
  | none, _, _ => s

/-- R424: the next piece of a vendor command: it waits for earlier overlapping commands, as a command of its FSN would;
no peer request is issued in D3hot (R426), no SCAN piece runs at thermal level 2 or above (R444). -/
def execVendorPiece (fsn : Nat) (blocks : List (Option Bytes)) (xfer : Xfer) (s : State) :
    Host.Outcome State Fault Refusal :=
  match s.cmd? fsn with
  | none => .next s
  | some c =>
    match c.vendor with
    | none => .next s
    | some v =>
      if c.phase = .committed ∨ c.status.isSome ∨ v.next ≥ v.pieces ∨ s.get Reg.HPT.LINK.DSTATE = 3 ∨
          !s.ordered (s.piece c v.next) then .next s
      else if c.sqe.opc = 0x82 then
        if s.get Reg.RCU.PWR.THERM_LEVEL ≥ 2 then .next s else .next (s.scanPiece c v blocks xfer)
      else if c.sqe.opc = 0x84 then .next (s.outPiece c v blocks xfer)
      else .next (s.inPiece c v blocks xfer)

end Sys2Proof.Machine
end

