-- ==== Sys2Proof/Machine/Views.lean ====
section
/-!
DEFINITION. What a read of a register gives (R13, R14): fields whose value the state of a unit holds are computed from it, in
the word that the register file holds for the others.
-/

namespace Sys2Proof.Machine

/-- A field with its value, saturating. -/
def ov (f : Fld) (v : Nat) : Fld × Nat := (f, min v (2 ^ f.width - 1))

/-- A one-bit field. -/
def ovB (f : Fld) (b : Bool) : Fld × Nat := (f, if b then 1 else 0)

/-- Blocks as MiB, rounded up. -/
def mibUp (n : Nat) : Nat := (n + 255) / 256

/-- Writers that wait for admission to a part of the write cache (R370, R304). -/
def State.admissionWaits (s : State) (prot : Bool) : Nat :=
  (s.cqu.store.filter fun c => c.waitAdm && c.phase == .ready &&
    (prot == (s.mustProtect c.sqe && decide (c.buf.length ≤ s.limitL)))).length

/-- Buffer manager (R315). -/
def State.viewBfm (s : State) : List (Fld × Nat) :=
  let dev (n : Nat) : Nat := if s.chest.readOk.getD n false && s.chest.writeOk.getD n false then 0 else 2
  [ov Reg.BFM.CACHE.PROT_DIRTY (mibUp (s.dirty true)), ov Reg.BFM.CACHE.UNPROT_DIRTY (mibUp (s.dirty false)),
   ovB Reg.BFM.CACHE.PROT_WAIT (s.admissionWaits true != 0), ovB Reg.BFM.CACHE.UNPROT_WAIT (s.admissionWaits false != 0),
   ov Reg.BFM.PROT_LIMIT.LIMIT (s.limitL / 256),
   ov Reg.BFM.WINDOW.DIRTY (s.buf.lines.filter fun l => l.dirty).length, ov Reg.BFM.WINDOW.VALID s.buf.lines.length,
   ov Reg.BFM.CHEST.DEV0 (dev 0), ov Reg.BFM.CHEST.DEV1 (dev 1), ov Reg.BFM.CHEST.STATE s.chest.header.state,
   ovB Reg.BFM.CHEST.SAVING s.chest.saving, ov Reg.BFM.CHEST.BAD0 (s.chest.bad.getD 0 0),
   ov Reg.BFM.CHEST.BAD1 (s.chest.bad.getD 1 0)]

/-- Memory error controller (R308, R314). -/
def State.viewMec (s : State) : List (Fld × Nat) :=
  [ovB Reg.MEC.STATUS.SCRUB_SRAM s.buf.scrubS.isSome, ovB Reg.MEC.STATUS.SCRUB_DRAM s.buf.scrubD.isSome,
   ovB Reg.MEC.STATUS.SPARE_LOW (decide (s.spareMin ≤ 2 ∨ s.poolLeft < 64)), ovB Reg.MEC.STATUS.POOL_EMPTY (s.poolLeft == 0),
   ovB Reg.MEC.SCRUB_CTRL.START_SRAM (match s.buf.scrubS with | some r => r.2.2 | none => false),
   ovB Reg.MEC.SCRUB_CTRL.START_DRAM (match s.buf.scrubD with | some r => r.2.2 | none => false),
   ov Reg.MEC.TRACK.USED s.buf.track.length, ov Reg.MEC.SPARE.SRAM_MIN s.spareMin, ov Reg.MEC.SPARE.POOL_LEFT s.poolLeft,
   ov Reg.MEC.RETIRED.DRAM_PAGES s.buf.kept.pages.length, ov Reg.MEC.RETIRED.SRAM_ROWS s.buf.kept.rows.length]

/-- DMA fabric (R330). -/
def State.viewDma (s : State) : List (Fld × Nat) :=
  ((List.range 64).map fun n => ovB (Reg.DMA.RING_STATUS.BUSY n) (s.dma.rings.getD n .reset).cur.isSome) ++
  ((List.range 8).flatMap fun m =>
    let x := s.dma.streams.getD m .reset
    [ovB (Reg.DMA.STR_STATUS.ACTIVE m) x.active.isSome, ovB (Reg.DMA.STR_STATUS.SHADOW_VALID m) x.shadow.isSome,
     ov (Reg.DMA.STR_STATUS.ROWS_DONE m) x.rows.length])

/-- Zone map unit (R356). -/
def State.viewZmu (s : State) : List (Fld × Nat) :=
  let l : Layout := match s.zmu.layout with | some l => l | none => ⟨0, 0, 0, 0, false, 0⟩
  let pool := s.poolZones.length
  [ov Reg.ZMU.CACHE_STATUS.VALID (s.zmu.lines.filter fun x => x.unit.isSome && !x.filling).length,
   ov Reg.ZMU.CACHE_STATUS.DIRTY (s.zmu.lines.filter fun x => x.dirty).length,
   ov Reg.ZMU.CACHE_STATUS.LOCKED (s.zmu.lines.filter fun x => x.locked).length,
   ov Reg.ZMU.CACHE_STATUS.MISS_BUSY (s.zmu.miss.filter fun x => x.isSome).length,
   ov Reg.ZMU.MCACHE.EXTENTS (s.zmu.extents.length / 256),
   ov Reg.ZMU.MCACHE.FILL (if pool = 0 then 0 else 100 * (pool - s.freePool.length) / pool),
   ov Reg.ZMU.MCACHE.FREE s.freePool.length, ov Reg.ZMU.LAYOUT.ZONES l.z, ov Reg.ZMU.LAYOUT.POOL l.m,
   ov Reg.ZMU.NAMESPACES.CONV l.c, ov Reg.ZMU.NAMESPACES.ZONED l.nz]

/-- Command and coherence unit (R389). -/
def State.viewCqu (s : State) : List (Fld × Nat) :=
  let waits (w : Bool) (c : Cmd) : Bool := c.isIo && !c.passed && (c.phase == .ready || c.phase == .admitted) &&
    c.ranges.any fun r => r.2.2 == w
  [(Reg.CQU.FETCH.FSN, s.cqu.nextFsn % 2 ^ 32), ov Reg.CQU.INFLIGHT.ADMIN (s.cqu.store.filter fun c => c.sqid == 0).length,
   ov Reg.CQU.INFLIGHT.IO s.ioCount, ovB Reg.CQU.INFLIGHT.FETCH_STOPPED s.cqu.stopped, ov Reg.CQU.HATRACK.ENTRIES s.hatrack,
   ov Reg.CQU.HATRACK.READERS_WAITING (s.cqu.store.filter (waits false)).length,
   ov Reg.CQU.HATRACK.WRITERS_WAITING (s.cqu.store.filter (waits true)).length,
   ov Reg.CQU.CACHE_WAIT.PROT (s.admissionWaits true), ov Reg.CQU.CACHE_WAIT.UNPROT (s.admissionWaits false)]

/-- Media scheduler (R389): classes at the time of the newest dispatch that a queued run has seen. -/
def State.viewMsc (s : State) : List (Fld × Nat) :=
  let now := s.cqu.runs.foldl (fun m r => max m r.since) 0
  let n (a k : Nat) : Nat := (s.cqu.runs.filter fun r => r.act == a &&
    (MRun.cls { r with since := if r.since = 0 then now else r.since } now == k)).length
  [ov Reg.MSC.QUEUE_A.CLASS1 (n 0 1), ov Reg.MSC.QUEUE_A.CLASS2 (n 0 2), ov Reg.MSC.QUEUE_A.CLASS3 (n 0 3),
   ov Reg.MSC.QUEUE_A.CLASS4 (n 0 4), ov Reg.MSC.QUEUE_A.CLASS5 (n 0 5), ov Reg.MSC.QUEUE_A.CLASS6 (n 0 6),
   ov Reg.MSC.QUEUE_B.CLASS1 (n 1 1), ov Reg.MSC.QUEUE_B.CLASS2 (n 1 2), ov Reg.MSC.QUEUE_B.CLASS3 (n 1 3),
   ov Reg.MSC.QUEUE_B.CLASS4 (n 1 4), ov Reg.MSC.QUEUE_B.CLASS5 (n 1 5), ov Reg.MSC.QUEUE_B.CLASS6 (n 1 6),
   ov Reg.MSC.LIMIT.LIMIT s.decoderLimit,
   ov Reg.MSC.LIMIT.ENGINES ((List.range 6).filter fun e => (s.get Reg.LDP.ENGINES.IN_SERVICE).testBit e).length]

/-- A zone holding data has two lost members: the raised share is in force (R282). -/
def State.raisedShare (s : State) : Bool :=
  s.stripe.places.any fun p => s.holds p.zone && decide (p.lostMembers.length ≥ 2)

/-- Stripe engine (R294). -/
def State.viewSte (s : State) : List (Fld × Nat) :=
  let moving (k : Nat) : Bool := s.stripe.places.any fun p => p.moving && p.kind == k
  let share : Nat := match s.cfg with
    | some c => if s.raisedShare then c.stripe.shareRaised else c.stripe.shareNormal
    | none => 0
  let filling (x : SideSlot) : Bool := x.state == .filling || x.state == .complete
  [ovB Reg.STE.STATUS.REBUILDING (!s.stripe.rebuild.isEmpty || moving 1), ovB Reg.STE.STATUS.RAISED s.raisedShare,
   ovB Reg.STE.STATUS.RESHAPING (!s.stripe.reshape.isEmpty || moving 3),
   ovB Reg.STE.STATUS.RELOCATING (!s.stripe.relocs.isEmpty || moving 2),
   ovB Reg.STE.STATUS.DEGRADED (s.stripe.places.any fun p => s.holds p.zone && !p.lostMembers.isEmpty),
   ovB Reg.STE.STATUS.LOST_ROWS (!s.stripe.lost.isEmpty), ovB Reg.STE.STATUS.LIST_FULL (decide (s.stripe.lost.length ≥ 1048576)),
   ovB Reg.STE.STATUS.JBAND_MOVING (!s.stripe.jmoves.isEmpty), ov Reg.STE.STATUS.SPARE_MIN s.spareMinZones,
   ov Reg.STE.STATUS.RETIRED s.stripe.retired.length,
   ov Reg.STE.RETIRED_MAP.SURF (s.stripe.retired.foldl (fun m h => m ||| 2 ^ h) 0),
   ov Reg.STE.MOVE.ZONES_LEFT s.movesLeft, ov Reg.STE.MOVE.SHARE share,
   ovB Reg.STE.MOVE.IN_PLACE (s.stripe.places.any fun p => p.moving && p.inPlace),
   ov Reg.STE.JOURNAL.LIVE s.liveJournal, ov Reg.STE.JOURNAL.CHEST_STATE s.chest.header.state,
   ov Reg.STE.SIDEBOARD.FILLING (s.stripe.slots.filter filling).length,
   ov Reg.STE.SIDEBOARD.IN_FLIGHT (s.stripe.slots.filter fun x => !filling x).length,
   ovB Reg.STE.SIDEBOARD.STALLED (decide (s.liveJournal > 7168 ∨ s.stripe.slots.length ≥ s.slotCount))]

/-- Decoder pool (R255). -/
def State.viewLdp (s : State) : List (Fld × Nat) :=
  let held (ch : Nat) : Nat := (s.media.sectors.filter fun x => x.stored && x.ch == ch).length
  let busy := s.media.sectors.foldl (fun m x => match x.engine with | some e => m ||| 2 ^ e | none => m) 0
  [ov Reg.LDP.ENGINES.BUSY busy, ov Reg.LDP.STORE.CH0_HELD (held 0), ov Reg.LDP.STORE.CH1_HELD (held 1),
   ov Reg.LDP.STORE.CH2_HELD (held 2), ov Reg.LDP.STORE.CH3_HELD (held 3),
   ovB Reg.LDP.STORE.CAPPED ((List.range 4).any fun ch => decide (held ch ≥ 16))]

/-- Assist controller (R256). -/
def State.viewEac (s : State) : List (Fld × Nat) :=
  let torque (i : Option HsaIdent) : Bool := match i with | some h => h.torque | none => false
  [ovB Reg.EAC.STATUS.TYPE_A (torque s.ident.hsaA), ovB Reg.EAC.STATUS.TYPE_B (torque s.ident.hsaB)]

/-- Scan engine and peer transfer (R428); pieces are atomic, so none is in flight between commands. -/
def State.viewNdc (s : State) : List (Fld × Nat) :=
  let scans := s.cqu.store.filter fun c => c.isIo && c.sqe.opc == 0x82 && c.phase != .committed
  [ov Reg.NDC.STATUS.ACTIVE (scans.filter fun c => match c.vendor with | some v => v.active | none => false).length,
   ov Reg.NDC.STATUS.WAITING (scans.filter fun c => match c.vendor with | some v => !v.active | none => true).length]

/-- Peer transfer (R428). -/
def State.viewPtx (s : State) : List (Fld × Nat) :=
  let act (op : Byte) : Nat := (s.cqu.store.filter fun c => c.isIo && c.sqe.opc == op &&
    match c.vendor with | some v => v.active | none => false).length
  [ov Reg.PTX.STATUS.OUT (act 0x84), ov Reg.PTX.STATUS.IN (act 0x88)]

/-- What a domain's power is (R433, R444, R445): 0 running, 1 clock-gated, 2 power-gated, 3 self-refresh. -/
def State.domPower (s : State) (d : Nat) : Nat :=
  let ps := s.get Reg.RCU.PWR.EFFECTIVE
  let busy : Bool := if d = 7 then s.media.sectors.any fun x => x.engine.isSome else s.cqu.store.any fun c => c.vendor.isSome
  if d = 4 then (if ps ≥ 3 ∧ s.buf.selfRef then 3 else 0)
  else if d = 5 ∨ d = 6 then (if ps ≥ 3 then 2 else 0)
  else if d = 7 ∨ d = 9 then
    (if ps ≥ 3 ∨ s.get Reg.RCU.PWR.THERM_LEVEL = 3 then 2 else if ps = 2 ∧ !busy then 1 else 0)
  else 0

/-- Reset and clock unit (R445). -/
def State.viewRcu (s : State) : List (Fld × Nat) := (List.range 10).map fun d => ov (Reg.RCU.DOM_POWER.DOM d) (s.domPower d)

/-- Credenza (R491): the selected value where CRD.SEL names one that exists. -/
def State.viewCrd (s : State) : List (Fld × Nat) :=
  let id := s.get Reg.CRD.SEL.ID
  let inst := s.get Reg.CRD.SEL.INSTANCE
  let bin := s.get Reg.CRD.SEL.BIN
  let hist := s.flag Reg.CRD.SEL.HIST
  let ok : Bool := if hist then s.hists.any fun h => h.1 == id && h.2.1 == inst && decide (bin < h.2.2)
    else s.counters.contains (id, inst)
  let v : CrdVal := if !ok then (0, false) else if hist then s.binVal (id, inst, bin) else s.cntVal (id, inst)
  let n := s.saturatedCounts.1 + s.saturatedCounts.2
  [ovB Reg.CRD.STATUS.SAT_ANY (n != 0), ovB Reg.CRD.STATUS.PERSIST_BUSY s.crd.busy, ovB Reg.CRD.STATUS.SEL_VALID ok,
   ovB Reg.CRD.STATUS.SEL_SAT v.2, ov Reg.CRD.STATUS.SATURATED n, (Reg.CRD.VAL_LO.VALUE, v.1 % 2 ^ 32),
   (Reg.CRD.VAL_HI.VALUE, v.1 / 2 ^ 32 % 2 ^ 32)]

/-- The computed fields of a slot's registers. -/
def State.view (s : State) (slot : Nat) : List (Fld × Nat) :=
  if slot = 0 then s.viewRcu
  else if slot = 4 then s.viewCrd
  else if slot = 9 then s.viewCqu
  else if slot = 0xA then s.viewZmu
  else if slot = 0xB then s.viewBfm
  else if slot = 0xC then s.viewMec
  else if slot = 0xD then s.viewDma
  else if slot = 0xE then s.viewSte
  else if slot = 0xF then s.viewMsc
  else if slot = 0x12 then s.viewLdp
  else if slot = 0x13 then s.viewEac
  else if slot = 0x18 then s.viewNdc
  else if slot = 0x19 then s.viewPtx
  else []

/-- The word a register shows. -/
def State.shown (s : State) (slot off : Nat) : Word :=
  ((s.view slot).filter fun o => o.1.slot == slot && o.1.off == off).foldl (fun w o => o.1.inWord w o.2)
    (s.regs.word (Reg.key slot off))

/-- A read of a register (R14): the word, and the register with its RC bits clear; an unlisted offset reads 0. -/
def State.readReg (s : State) (slot off : Nat) : Word × State :=
  match Reg.row? slot off with
  | none => (0, s)
  | some r => (s.shown slot off, { s with regs := s.regs.setWord (Reg.key slot off) (r.afterRead (s.regs.word (Reg.key slot off))) })

end Sys2Proof.Machine
end

