-- ==== Sys2Proof/Machine/Aperture.lean ====
section
/-!
DEFINITION. Register accesses of the host: the diagnostic aperture (R14, R485, R486), BAR0 (R395 to R397) and configuration space
(R391, R392, R394, R410).
-/

namespace Sys2Proof.Machine

/-- The state a meaning leads to; a register write that stops leaves the machine as it is. -/
def State.via (s : State) (o : Host.Outcome State Fault Refusal) : State := match o with | .next t => t | _ => s

/-! ### The aperture (R486). -/

/-- The block of a slot is in reset, or power-gated (R433, R444, R486). -/
def State.blockDown (s : State) (slot : Nat) : Bool :=
  !(s.block slot == .running || s.block slot == .idleReq) ||
  (gatedSlots.contains slot && decide (s.get Reg.RCU.PWR.EFFECTIVE ≥ 3)) ||
  (slot == 0x12 || slot == 0x18 || slot == 0x19) && s.get Reg.RCU.PWR.THERM_LEVEL == 3

/-- Four bytes of a table of bytes as a word. -/
def wordOf (f : Nat → Byte) (i : Nat) : Word := BitVec.ofNat 32 (leNat ((List.range 4).map fun k => f (i + k)))

/-- Write a word into a table of bytes. -/
def putWord (l : List (Nat × Byte)) (i : Nat) (w : Word) : List (Nat × Byte) :=
  (List.range 4).foldl (fun l k => assocPut l (i + k) (BitVec.ofNat 8 (w.toNat / 2 ^ (8 * k)))) l

/-- A read of a block's offset: registers, the BUR chain buffer and DK_PUB (R470), the TST digest buffer (R492). -/
def State.apRead (s : State) (slot off : Nat) : Word × State :=
  if slot = 3 ∧ 0x1000 ≤ off ∧ off < 0x2000 then (wordOf (fun i => assocGet 0 s.bur.chainBuf i) (off - 0x1000), s)
  else if slot = 3 ∧ 0x100 ≤ off ∧ off < 0x160 then
    (wordOf (fun i => match s.bur.dkPub with | some b => b.getD i 0 | none => 0) (off - 0x100), s)
  else if slot = 6 ∧ 0x100 ≤ off ∧ off < 0x130 then (wordOf (fun i => assocGet 0 s.tst.digest i) (off - 0x100), s)
  else s.readReg slot off

/-- A write of CRD.CTRL (R491). -/
def State.crdCtrl (s : State) (w : Word) : State :=
  let s1 := if w.getLsbD 1 then s.via (execPersist s) else s
  if w.getLsbD 0 then s1.via (execCrdClear s1) else s1

/-- A write of TST.FUSE (R484): OP and INDEX, and GO, whose operation ends later. -/
def State.fuseGo (s : State) (w : Word) : State :=
  let s1 := s.writeMasked 6 0x00C w
  if w.getLsbD 5 then (s1.put Reg.TST.FUSE.DONE 0).put Reg.TST.FUSE.ERR 0 else s1

/-- A write of MEC.SCRUB_CTRL (R311). -/
def State.scrubCtrl (s : State) (w : Word) : State :=
  let s1 := if w.getLsbD 0 then s.via (execStartSram s) else s
  if w.getLsbD 1 then s1.via (execStartDram s1) else s1

/-- A write of ZMU.CTRL (R353, R354). -/
def State.zmuCtrl (s : State) (w : Word) : State :=
  let s1 := s.via (execEnable (w.getLsbD 0) s)
  if w.getLsbD 2 then s1.via (execClean s1) else s1

/-- A write of a ring channel's RING_CFG (R319, R320, R330). -/
def State.ringCfg (s : State) (n : Fin 64) (w : Word) : State :=
  let s1 := s.writeMasked 0xD (0x20 * n.val) (w &&& ~~~ (0x600000 : Word))
  let s2 := if w.getLsbD 21 then s1.via (execKick n s1) else s1
  if w.getLsbD 22 then s2.via (execAbort n s2) else s2

/-- The chain buffer after a write of a word. -/
def State.chainWord (s : State) (off : Nat) (w : Word) : State :=
  { s with bur := { s.bur with chainBuf := putWord s.bur.chainBuf off w } }

/-- The fuse digest after a write of a word. -/
def State.digestWord (s : State) (off : Nat) (w : Word) : State :=
  { s with tst := { s.tst with digest := putWord s.tst.digest off w } }

/-- Replace the NVMe registers. -/
def State.setNvme (s : State) (m : NvmeRegs) : State := { s with cqu := { s.cqu with nvme := m } }

/-- A write of a block's offset (R14): registers whose write starts something do it, buffers take the word, every other register
follows its Access column. -/
def State.apWrite (s : State) (slot off : Nat) (w : Word) : State :=
  if slot = 0 ∧ off = 0x020 then s.via (execBlkRst w s)
  else if slot = 3 ∧ 0x1000 ≤ off ∧ off < 0x2000 then s.chainWord (off - 0x1000) w
  else if slot = 4 ∧ off = 0x004 then s.crdCtrl w
  else if slot = 6 ∧ off = 0x000 then (if w.getLsbD 1 then s.via (execHold s) else s)
  else if slot = 6 ∧ off = 0x004 then s.via (execTstLoopback w s)
  else if slot = 6 ∧ off = 0x00C then s.fuseGo w
  else if slot = 6 ∧ 0x100 ≤ off ∧ off < 0x130 then s.digestWord (off - 0x100) w
  else if slot = 8 ∧ off = 0x004 then s.via (execHptLoopback w s)
  else if slot = 0xA ∧ off = 0x000 then s.zmuCtrl w
  else if slot = 0xA ∧ off = 0x008 then s.via (execPreload w s)
  else if slot = 0xA ∧ off = 0x00C then s.via (execUnlock w s)
  else if slot = 0xC ∧ off = 0x008 then s.via (execFlipArm w s)
  else if slot = 0xC ∧ off = 0x014 then s.scrubCtrl w
  else if slot = 0xD ∧ off < 0x800 ∧ off % 0x20 = 0 then s.ringCfg (Fin.ofNat 64 (off / 0x20)) w
  else if slot = 0x16 ∧ off = 0x004 then s.via (execElkLoopback .ezpolA w s)
  else if slot = 0x16 ∧ off = 0x104 then s.via (execElkLoopback .ezpolB w s)
  else if slot = 0x17 ∧ off = 0x004 then s.via (execElkLoopback .zhosel w s)
  else s.writeMasked slot off w

/-- An access through BAR4 (R486). -/
def State.aperture (s : State) (off size : Nat) (value : Option Word) : State :=
  if !s.mfg ∨ off ≥ 0x4000000 then s.unsup value.isNone
  else if size ≠ 4 ∨ off % 4 ≠ 0 then (s.unsup value.isNone).bump Reg.TST.APERTURE.UR 1
  else
    let slot := off / 0x10000
    let o := off % 0x10000
    match value with
    | none =>
      if slot ≥ 0x1A then s.send (.readData (zeros 4))
      else if s.blockDown slot then (s.bump Reg.TST.APERTURE.DROPPED 1).send (.readData (List.replicate 4 0xFF))
      else
        let r := s.apRead slot o
        r.2.send (.readData (toLe 4 r.1.toNat))
    | some w =>
      if slot ≥ 0x1A then s
      else if s.blockDown slot then s.bump Reg.TST.APERTURE.DROPPED 1
      else s.apWrite slot o w

/-- R486: a BAR4 access, with the value written or none for a read. -/
def execApertureAccess (off size : Nat) (value : Option Word) (s : State) : Host.Outcome State Fault Refusal :=
  .next (s.memReq value.isNone fun s => s.aperture off size value)

/-! ### BAR0 (R395 to R397). -/

/-- Vectors that pend and are masked no longer send their messages (R396). -/
def State.msixFlush (s : State) : State :=
  (List.range 65).foldl (fun (t : State) i =>
    match t.hpt.msix[i]? with
    | some e =>
      if t.hpt.msixEn ∧ !t.hpt.fmask ∧ !e.mask ∧ t.hpt.pba.getD i false then
        ({ t with hpt := { t.hpt with pba := setAt t.hpt.pba i false } } : State).send (.msix i e.addr e.data)
      else t
    | none => t) s

/-- A write of a dword of the MSI-X table: address low and high, data, vector control. -/
def State.msixWrite (s : State) (off : Nat) (w : Word) : State :=
  let i := off / 16
  let k := off % 16 / 4
  let f (e : MsixEntry) : MsixEntry :=
    if k = 0 then { e with addr := (e.addr &&& 0xFFFFFFFF00000000) ||| (w &&& ~~~ (3 : Word)).setWidth 64 }
    else if k = 1 then { e with addr := (e.addr &&& 0x00000000FFFFFFFF) ||| (w.setWidth 64 <<< 32) }
    else if k = 2 then { e with data := w }
    else { e with mask := w.getLsbD 0 }
  ({ s with hpt := { s.hpt with msix := modifyAt s.hpt.msix i f } } : State).msixFlush

/-- A dword of a 64-bit register. -/
def setHalf (old : Word64) (high : Bool) (w : Word) : Word64 :=
  if high then (old &&& 0x00000000FFFFFFFF) ||| (w.setWidth 64 <<< 32) else (old &&& 0xFFFFFFFF00000000) ||| w.setWidth 64

/-- A write of CC (R397): what it does follows from EN and SHN before and after. -/
def State.ccWrite (s : State) (w : Word) : State :=
  let old := s.cqu.nvme.cc.getLsbD 0
  if !old ∧ w.getLsbD 0 then s.via (execCcEnSet w s)
  else if old ∧ !w.getLsbD 0 then s.via (execControllerReset w s)
  else if w.toNat / 0x4000 % 4 ≠ 0 ∧ s.cqu.nvme.shst = 0 then s.via (execShutdown w s)
  else { s with cqu := { s.cqu with nvme := { s.cqu.nvme with cc := w &&& ccMask } } }

/-- A 4-byte write to a BAR0 offset (R395, R397). -/
def State.bar0Write (s : State) (off : Nat) (w : Word) : State :=
  let n := s.cqu.nvme
  if off = 0x0C then s.via (execIntms w s)
  else if off = 0x10 then s.via (execIntmc w s)
  else if off = 0x14 then s.ccWrite w
  else if off = 0x1C then (if w.getLsbD 4 then s.setNvme { n with nssro := false } else s)
  else if off = 0x20 then s.via (execNssr w s)
  else if off = 0x24 then s.setNvme { n with aqa := w &&& 0x0FFF0FFF }
  else if off = 0x28 then s.setNvme { n with asq := setHalf n.asq false (w &&& 0xFFFFF000) }
  else if off = 0x2C then s.setNvme { n with asq := setHalf n.asq true w }
  else if off = 0x30 then s.setNvme { n with acq := setHalf n.acq false (w &&& 0xFFFFF000) }
  else if off = 0x34 then s.setNvme { n with acq := setHalf n.acq true w }
  else if 0x1000 ≤ off ∧ off < 0x1208 then
    (if off % 8 = 0 then s.via (execSqTailDoorbell ((off - 0x1000) / 8) w s)
     else s.via (execCqHeadDoorbell ((off - 0x1000) / 8) w s))
  else if 0x2000 ≤ off ∧ off < 0x2410 then s.msixWrite (off - 0x2000) w
  else s

/-! ### Configuration space (R391 to R394, R400, R403, R410). -/

/-- A dword of a 64-bit BAR of a size. -/
def setBar (old size : Nat) (high : Bool) (w : Word) : Nat :=
  if high then old % 2 ^ 32 + w.toNat * 2 ^ 32 else old / 2 ^ 32 * 2 ^ 32 + w.toNat / size * size

/-- A write of the AER status registers, whose bits clear where 1 is written; the first error is forgotten with its bit. -/
def State.aerClear (s : State) (uncor : Bool) (w : Word) : State :=
  let a := s.hpt.aer
  let a1 : Aer := if uncor then
      { a with uncor := a.uncor &&& (0xFFFFFFFF - w.toNat)
               first := match a.first with | some b => if w.getLsbD b then none else some b | none => none }
    else { a with cor := a.cor &&& (0xFFFFFFFF - w.toNat) }
  { s with hpt := { s.hpt with aer := a1 } }

/-- A write of the DOE read mailbox: the next dword of the response is read. -/
def State.doePop (s : State) : State :=
  match s.hpt.doeResp with
  | some (_ :: x :: t) => { s with hpt := { s.hpt with doeResp := some (x :: t) } }
  | _ => { s with hpt := { s.hpt with doeResp := none } }

/-- A write of a dword of configuration space. -/
def State.cfgWrite (s : State) (off : Nat) (w : Word) : State :=
  let h := s.hpt
  let setH (x : Hpt) : State := { s with hpt := x }
  if off = 0x10 ∨ off = 0x14 then setH { h with bar0 := setBar h.bar0 0x4000 (off == 0x14) w }
  else if off = 0x18 ∨ off = 0x1C then setH { h with bar2 := setBar h.bar2 0x10000000 (off == 0x1C) w }
  else if off = 0x20 ∨ off = 0x24 then
    (if s.mfg then setH { h with bar4 := setBar h.bar4 0x4000000 (off == 0x24) w } else s)
  else if off = 0x50 then (setH { h with msixEn := w.getLsbD 31, fmask := w.getLsbD 30 }).msixFlush
  else if off = 0x78 then setH { h with mps := 128 * 2 ^ (w.toNat / 32 % 8) }
  else if off = 0x80 then setH { h with aspm := w.getLsbD 1 }
  else if off = 0x104 then s.aerClear true w
  else if off = 0x110 then s.aerClear false w
  else if off = 0x244 then s.doePop
  else s

/-- R14: a write of a register by the host, wherever it lies. -/
def execRegisterWrite (space : RegSpace) (off : Nat) (value : Word) (s : State) : Host.Outcome State Fault Refusal :=
  match space with
  | .block slot => .next (s.mmio fun s => s.aperture (slot.val * 0x10000 + off % 0x10000) 4 (some value))
  | .bar0 => .next (s.mmio fun s => if off % 4 ≠ 0 ∨ off ≥ 0x4000 then s.unsup false else s.bar0Write off value)
  | .config => if s.portUp then .next (s.cfgWrite off value) else .next s

end Sys2Proof.Machine
end

