-- ==== Sys2Proof/Machine/FwImage.lean ====
section
/-!
DEFINITION. The firmware image: its copy-level checks, the content checks of its patch set, and the patches it loads (R84
to R86).
-/

namespace Sys2Proof.Machine

/-- The identifier of the B0 ROM (R219). -/
def b0RomId : Nat := 0xB0225001

/-- An entry of the patch directory (R84) with its body. -/
structure FwPatch where
  target : Nat
  zero   : Nat
  count  : Nat
  off    : Nat
  len    : Nat
  crc    : Nat
  body   : Bytes
  deriving DecidableEq, Repr

/-- The directory of an image. -/
def fwDir (b : Bytes) : List FwPatch :=
  (List.range (leAt b 0x1A 2)).map fun i =>
    let o := 0x20 + 16 * i
    ⟨byteAt b o, byteAt b (o + 1), leAt b (o + 2) 2, leAt b (o + 4) 4, leAt b (o + 8) 4, leAt b (o + 12) 4,
      slice b (leAt b (o + 4) 4) (leAt b (o + 8) 4)⟩

/-- The header fields whose ranges give result 0x2 (R84). -/
def fwHeaderOk (b : Bytes) : Bool :=
  slice b 0 4 == [0x48, 0x46, 0x57, 0x49] && leAt b 6 2 == 1 && decide (byteAt b 0x19 < 2) &&
  decide (byteAt b 0x18 ≤ 1) && leAt b 0x10 2 != 0 && decide (leAt b 0x12 2 ≤ 64) && decide (leAt b 0x1A 2 ≤ 32)

/-- The directory and the placement and CRCs of the bodies (R84): result 0x9 where one is wrong. -/
def fwDirOk (b : Bytes) (len : Nat) : Bool :=
  let d := fwDir b
  let dirEnd := 0x20 + 16 * d.length
  decide (dirEnd ≤ len - 96) && noOverlap (d.map fun p => ⟨p.target, p.off, p.len⟩) &&
  d.all fun p => p.zero == 0 && decide (dirEnd ≤ p.off) && decide (p.off + p.len ≤ len - 96) &&
    p.crc == (crc32 p.body).toNat

/-- The copy-level checks of R84, in the order of R74: the result code of R92. -/
def checkFw (fz : Fuses) (rd : NorRead) : Nat :=
  let b := rd.bytes
  let len := leAt b 8 4
  let key := byteAt b 0x18
  let errIn := fun n => match rd.errAt with
    | some o => decide (o < n)
    | none => false
  if errIn 0x20 then 0xB
  else if !fwHeaderOk b then 0x2
  else if leAt b 0x1C 4 != (crc32 (b.take 0x1C)).toNat then 0x3
  else if !(len % 16 == 0 && inRange 0x400 0x400000 len) then 0x5
  else if fz.htRevoked.getD key false then 0x6
  else if decide (leAt b 0x12 2 < fz.htSvn) then 0x7
  else if errIn len then 0xB
  else if !ecdsaVerify (Config.holtaleKey key) (sha384 (b.take (len - 96))) (slice b (len - 96) 96) then 0x8
  else if !fwDirOk b len then 0x9
  else 0x1

/-- Hooks of a supervisor patch (R85). -/
def fwHooks (p : FwPatch) : List Hook :=
  let n := leAt p.body 4 4
  (List.range p.count).map fun i =>
    ⟨BitVec.ofNat 32 (leAt p.body (8 + n + 8 * i) 4), BitVec.ofNat 32 (leAt p.body (12 + n + 8 * i) 4)⟩

/-- Entries of a sequencer overlay (R85). -/
def fwOverlay (p : FwPatch) : List OverlayEntry :=
  (List.range p.count).map fun i =>
    ⟨byteAt p.body (24 * i), leAt p.body (24 * i + 2) 2, BitVec.ofNat 160 (leAt p.body (24 * i + 4) 20)⟩

/-- No element twice. -/
def distinct {α : Type} [DecidableEq α] : List α → Bool
  | [] => true
  | x :: t => !(t.contains x) && distinct t

/-- The content of one patch meets R85. -/
def fwPatchOk (p : FwPatch) : Bool :=
  if p.target = 1 then
    let off := leAt p.body 0 4
    let n := leAt p.body 4 4
    p.len == 8 + n + 8 * p.count && decide (off + n ≤ 0x40000) && decide (p.count ≤ 128) &&
    distinct ((fwHooks p).map fun h => h.romAddr) &&
    (fwHooks p).all fun h => decide (h.romAddr.toNat ≤ 0xFFFFF) && h.romAddr.toNat % 4 == 0 &&
      decide (off ≤ h.patchAddr.toNat) && decide (h.patchAddr.toNat < off + n)
  else if p.target = 2 then
    p.len == 24 * p.count && decide (p.count ≤ 256) &&
    distinct ((fwOverlay p).map fun e => (e.store, e.addr)) &&
    ((List.range p.count).all fun i => byteAt p.body (24 * i + 1) == 0) &&
    (fwOverlay p).all fun e => match e.store with
      | 0 => decide (e.addr < 8192)
      | 1 => decide (e.addr < 32768) && decide (e.word.toNat < 2 ^ 32)
      | 2 => decide (e.addr < 4096)
      | _ => false
  else false

/-- The content of the patch set passes (R86): the ROM's identifier, every patch, and one patch of each TARGET at most. -/
def fwContentOk (b : Bytes) : Bool :=
  leAt b 0x14 4 == b0RomId && distinct ((fwDir b).map fun p => p.target) && (fwDir b).all fwPatchOk

/-- What an accepted image puts in force (R86). -/
def fwPatches (b : Bytes) : Patches :=
  (fwDir b).foldl (fun (a : Patches) p =>
    if p.target = 1 then
      { a with loadOff := leAt p.body 0 4, code := slice p.body 8 (leAt p.body 4 4), hooks := fwHooks p }
    else { a with overlay := fwOverlay p }) .reset

/-- The record of an accepted image (R84, R86). -/
def fwImageOf (copy : Copy) (b : Bytes) : FwImage :=
  { copy := copy, version := BitVec.ofNat 32 (leAt b 0xC 4), patchSet := leAt b 0x10 2, htSvn := leAt b 0x12 2,
    svnCommit := byteAt b 0x19 == 1, rejected := !fwContentOk b, digest := sha384 (b.take (leAt b 8 4 - 96)) }

end Sys2Proof.Machine
end

