-- ==== Sys2Proof/Machine/Firmware.lean ====
section
/-!
DEFINITION. Zone Management Receive (R361), and Firmware Image Download and Firmware Commit (R380) with the images of the
boot NOR (R66 to R68).
-/

namespace Sys2Proof.Machine

/-! ### Zone reports. -/

/-- The zone state code of a report: ZNS numbers the states of R343 from 1 and Full 0xE. -/
def zoneStateCode (st : Nat) : Nat := if st = 4 then 0xE else st + 1

/-- The filter ZRASF takes zones of this state. -/
def zrasfTakes (f st : Nat) : Bool := f == 0 || (decide (f ≤ 5) && st + 1 == f)

/-- A zone descriptor of a report: type 2, state, ZCAP, ZSLBA, write pointer. -/
def zoneReportDesc (d i : Nat) (z : ZoneDesc) : Bytes :=
  padTo 64 (toLe 1 2 ++ toLe 1 (zoneStateCode z.state * 16) ++ zeros 6 ++ toLe 8 (zcap d) ++ toLe 8 (i * zsze) ++
    toLe 8 (i * zsze + z.wp))

/-- The report from a zone on (R361): count, then descriptors as far as the length asked for reaches. -/
def State.zoneReport (s : State) (l : Layout) (e : Sqe) : Bytes :=
  let first := sqeSlba e / zsze
  let size := (e.cdw12.toNat + 1) * 4
  let hits := (List.range l.nz).filterMap fun i =>
    match s.zone? (l.c + i) with
    | some z => if i ≥ first ∧ zrasfTakes (e.cdw13.toNat / 256 % 256) z.state then some (i, z) else none
    | none => none
  let n := if e.cdw13.getLsbD 16 then min hits.length ((size - 64) / 64) else hits.length
  padTo size (padTo 64 (toLe 8 n) ++ (hits.take (size / 64)).flatMap fun h => zoneReportDesc l.d h.1 h.2)

/-- R361: Zone Management Receive. -/
def execZoneManagementReceive (fsn : Nat) (s : State) : Host.Outcome State Fault Refusal :=
  match s.ioCmd fsn 0x7A, s.zmu.layout with
  | some c, some l => .next ((s.toHost c (s.zoneReport l c.sqe)).finish fsn .ok 0 0)
  | _, _ => .next s

/-! ### The NOR. -/

/-- The primary copy by the strap in force (R67). -/
def State.primary (s : State) : Copy := if s.get Reg.RCU.STRAPS.BOOT_SRC = 1 then .b else .a

/-- The other copy. -/
def otherCopy : Copy → Copy
  | .a => .b
  | .b => .a

/-- The image the controller last wrote to a copy: the option image's, or the firmware image's. -/
def Nor.copy? (n : Nor) (fw : Bool) : Copy → Option Bytes
  | .a => if fw then n.fwA else n.optA
  | .b => if fw then n.fwB else n.optB

/-- Set the image of a copy. -/
def Nor.setCopy (n : Nor) (fw : Bool) (c : Copy) (b : Option Bytes) : Nor :=
  match c, fw with
  | .a, false => { n with optA := b }
  | .b, false => { n with optB := b }
  | .a, true => { n with fwA := b }
  | .b, true => { n with fwB := b }

/-- What a read of a copy gives: the bytes the controller wrote there, where it wrote some. -/
def State.norRead (s : State) (fw : Bool) (c : Copy) (rd : NorRead) : NorRead :=
  match s.nor.copy? fw c with
  | some b => { rd with bytes := b }
  | none => rd

/-! ### Download and commit. -/

/-- R380, R87: a piece of an image is staged. -/
def execFirmwareImageDownload (fsn : Nat) (data : Bytes) (s : State) : Host.Outcome State Fault Refusal :=
  match s.adm fsn 0x11 with
  | none => .next s
  | some c =>
    let n := (c.sqe.cdw10.toNat + 1) * 4
    let off := c.sqe.cdw11.toNat * 4
    if off + n > 0x400000 ∨ s.badPrp c.sqe then .next (s.finish fsn .badField 0 0)
    else if s.nor.stage.any fun p => overlaps p.1 p.2.length off n then .next (s.finish fsn .overlap 0 0)
    else
      let b := padTo n ((s.fromHost c n [data]).headD [])
      .next (({ s with nor := { s.nor with stage := s.nor.stage ++ [(off, b)] } } : State).finish fsn .ok 0 0)

/-- The staged image: the pieces joined from offset 0; none where one is missing. -/
def stagedFrom : Nat → Nat → List (Nat × Bytes) → Option Bytes
  | 0, _, l => if l.isEmpty then some [] else none
  | n + 1, off, l =>
    match l.find? fun p => p.1 == off with
    | some p => (stagedFrom n (off + p.2.length) (l.filter fun q => q.1 != off)).map (p.2 ++ ·)
    | none => if l.isEmpty then some [] else none

/-- The staged image, and whether it is a firmware image; none where its MAGIC is neither or it fails a check (R74, R84,
R86). -/
def State.stagedImage (s : State) : Option (Bytes × Bool) :=
  match stagedFrom s.nor.stage.length 0 s.nor.stage with
  | none => none
  | some b =>
    if slice b 0 4 = [0x48, 0x4F, 0x50, 0x54] then
      if (checkOption s.fuses s.mfg .a ⟨b, none⟩).result = 1 then some (b.take (leAt b 8 4), false) else none
    else if slice b 0 4 = [0x48, 0x46, 0x57, 0x49] then
      if checkFw s.fuses ⟨b, none⟩ = 1 ∧ fwContentOk b then some (b.take (leAt b 8 4), true) else none
    else none

/-- R68: the fallback copy is written and read back, then the primary; a copy whose read-back failed holds what the NOR
then returns. -/
def State.norWrite (s : State) (fw : Bool) (b : Bytes) (backFallback backPrimary : Bool) : State :=
  let p := s.primary
  let n := s.nor.setCopy fw (otherCopy p) (if backFallback then some b else none)
  let n1 := if backFallback then n.setCopy fw p (if backPrimary then some b else none) else n
  { s with nor := n1 }

/-- R380, R68, R463: the staged image is checked and written; a staged image is used up by its commit. -/
def execFirmwareCommit (fsn : Nat) (backFallback backPrimary : Bool) (s : State) : Host.Outcome State Fault Refusal :=
  match s.adm fsn 0x10 with
  | none => .next s
  | some c =>
    let fs := c.sqe.cdw10.toNat % 8
    let ca := c.sqe.cdw10.toNat / 8 % 8
    match s.opBusy with
    | some st => .next (s.finish fsn st 0 0)
    | none =>
      if ca > 3 then .next (s.finish fsn .badField 0 0)
      else if fs > 2 then .next (s.finish fsn .fwSlot 0 0)
      else if ca = 2 then .next (s.finish fsn .needsReset 0 0)
      else
        let s1 : State := { s with nor := { s.nor with stage := [] } }
        match s.stagedImage with
        | none => .next (s1.finish fsn .fwImage 0 0)
        | some (b, fw) =>
          if fs ≠ 0 ∧ fw ≠ decide (fs = 2) then .next (s1.finish fsn .fwImage 0 0)
          else
            .next ((s1.norWrite fw b backFallback backPrimary).finish fsn
              (if !backFallback then .fwImage else if ca = 0 then .ok else .needsReset) 0 0)

end Sys2Proof.Machine
end

