-- ==== Sys2Proof/Machine/Start.lean ====
section
/-!
DEFINITION. The start from P2 to P6 (R42, R48, R49, R67, R74, R84, R86, R87, R296, R302) and the opening of the host port's
link (R47, R59).
-/

namespace Sys2Proof.Machine

/-! ### P2: clocks. -/

/-- Blocks that wait for their clocks only are released; the format sequencers wait for the end of P5 as well (R48, R86). -/
def State.releaseBlocks (s : State) : State :=
  { s with start := { s.start with blocks := s.start.blocks.mapIdx fun i b =>
      if b = .inReset ∧ s.clockGood i ∧ (i ≠ 0x10 ∨ s.get Reg.BUR.STATUS.STAGE ≥ 5) then .running else b } }

/-- P3 is entered (R44): WARM_VALID clears; the fuses show in OPL.FUSES (R92). -/
def State.enterP3 (s : State) : State :=
  let mask (f : KeySlot → Bool) : Nat := (s.fuses.keys.mapIdx fun i k => if f k then 2 ^ i else 0).sum
  let s1 := (s.toPhase 3).put Reg.NST.START.WARM_VALID 0
  let s2 := (((s1.put Reg.OPL.FUSES.OEM_SVN s.fuses.oemSvn).put Reg.OPL.FUSES.HT_SVN s.fuses.htSvn).put
    Reg.OPL.FUSES.KEY_PROG (mask fun k => k.prog)).put Reg.OPL.FUSES.KEY_REVOKED (mask fun k => k.revoked)
  let s3 := s2.put Reg.OPL.FUSES.HT_REVOKED (s.fuses.htRevoked.mapIdx fun i r => if r then 2 ^ i else 0).sum
  { s3 with start := { s3.start with recovery := s3.get Reg.RCU.STRAPS.BOOT_SRC == 2 } }

/-- P2 ends when every domain is good, or compute FAILED (R42, R49). -/
def State.p2Step (s : State) : State :=
  let ok (d : Nat) : Bool := s.get (Reg.RCU.CLK_STATUS.DOM d) == 2 || (d == 9 && s.computeFailed)
  if s.inPhase 2 ∧ (List.range 10).all ok then s.enterP3 else s

/-- R49: CLK_GOOD is not reached within 2 ms: FAILED; an essential domain halts the start, compute is a note. -/
def execClkGoodTimeout (dom : Fin 10) (s : State) : Host.Outcome State Fault Refusal :=
  if !s.inPhase 2 ∨ s.get (Reg.RCU.CLK_STATUS.DOM dom) ≠ 1 then .next s
  else
    let s1 := s.put (Reg.RCU.CLK_STATUS.DOM dom) 3
    .next (if dom = 9 then (s1.bootCode 1 0x03 0).p2Step else s1.halt 0x01 dom)

/-! ### P3: the option image. -/

/-- The fields that an option image loads (R15): in recovery only those of PLAT (R67). -/
def State.loadOption (s : State) (c : OptCfg) : State :=
  let s1 := s.put Reg.RCU.IDLE_TMO.TMO_US c.plat.idleTmoUs
  let s2 : State := { s1 with plat := c.plat }
  let s3 := s2.putB Reg.HPT.LINK.SRIS
    (c.plat.ssc && s.flag Reg.HPT.LINK.SEP_REF && s.get Reg.RCU.STRAPS.CLK_MODE != 3)
  if s.start.recovery then s3
  else
    let rate := if c.dram.rate = 3200 then 0 else if c.dram.rate = 4267 then 1 else if c.dram.rate = 5500 then 2 else 3
    let s4 : State := { s3 with cfg := some c }
    let s5 := (List.range 4).foldl (fun (t : State) n =>
      t.put (Reg.FSQ.STATUS.MODE n) (if c.geom.fsqMode.testBit n then 1 else 0)) s4
    let s6 := ((s5.put Reg.SLE.RRO_STATUS.BANDS c.servo.rroBands).put Reg.LDP.QUOTA.OTF_LIMIT c.thresh.otfIter).put
      Reg.LDP.QUOTA.RETRY_ITER c.thresh.retryIter
    let s7 := ((s6.put Reg.STE.MOVE.SHARE c.stripe.shareNormal).put Reg.STE.JOURNAL.SURF_A c.stripe.journalA).put
      Reg.STE.JOURNAL.SURF_B c.stripe.journalB
    let s8 := (((s7.put Reg.STE.LAYOUT.D c.stripe.width).put Reg.STE.LAYOUT.SPARE c.stripe.spare).putB
      Reg.STE.LAYOUT.BUILTIN c.stripe.rotRows.isEmpty).put Reg.STE.LAYOUT.ROWS (rotCount c.geom c.stripe)
    let s9 := ((s8.put Reg.STE.LAYOUT.U (2 * c.geom.headsPerAct - c.stripe.width - 2)).put
      Reg.MEC.SCRUB_CTRL.INTERVAL_H c.thresh.scrubHours).put Reg.BFM.DRAM_CFG.RATE rate
    let s10 := s9.putB Reg.RCU.PWR.APSTE c.power.apst
    { s10 with cqu := { s10.cqu with feats := s10.defaultFeats } }

/-- P3 ends: the link may train, and P4, or on a warm start P5, is next (R42, R45, R59). -/
def State.endP3 (s : State) : State :=
  let s1 : State := { s with start := { s.start with trainOpen := true } }
  let s2 := s1.putB Reg.OPL.STATUS.RECOVERY s.start.recovery
  s2.toPhase (if s.flag Reg.RCU.LAST_CAUSE.WARM then 5 else 4)

/-- R48: CLK_GOOD of a domain: its blocks are released, with P2 ending at the last; after a lock loss the blocks that waited
are (R51). -/
def execClkGood (dom : Fin 10) (s : State) : Host.Outcome State Fault Refusal :=
  if s.start.rst ≠ .running ∨ s.phase < 2 ∨ s.get (Reg.RCU.CLK_STATUS.DOM dom) ≠ 1 then .next s
  else .next ((s.put (Reg.RCU.CLK_STATUS.DOM dom) 2).releaseBlocks.releaseWaiting.p2Step)

/-- R74, R67, R62: a copy of the option image has been read: the primary first, then the fallback; with neither valid the start
goes on as a recovery download. -/
def execOptionCopyCheck (copy : Copy) (rd : NorRead) (s : State) : Host.Outcome State Fault Refusal :=
  let turn := if s.start.optTried = 0 then s.primary else otherCopy s.primary
  if !s.inPhase 3 ∨ copy ≠ turn then .next s
  else
    let k := checkOption s.fuses s.mfg copy (s.norRead false copy rd)
    let s1 := s.put (match copy with | .a => Reg.OPL.STATUS.OPT_A | .b => Reg.OPL.STATUS.OPT_B) k.result
    let s2 := if k.result = 0xA then s1.put Reg.OPL.FAIL_OFFSET.OFFSET k.failOff else s1
    match k.image with
    | some (img, c) =>
      let s3 := ((s2.put Reg.OPL.STATUS.OPT_ACTIVE (match copy with | .a => 1 | .b => 2)).put Reg.OPL.OPT_SEQ.SEQ
        img.seq.toNat).putB Reg.TST.MODE.UNSIGNED k.unsigned
      let s4 := if copy = s.primary then s3 else s3.bootCode 1 0x10 0
      .next (({ s4 with opt := some img } : State).loadOption c).endP3
    | none =>
      if s.start.optTried = 0 then .next { s2 with start := { s2.start with optTried := 1 } }
      else
        let s3 := s2.hold 0x11 0
        .next ({ s3 with start := { s3.start with recovery := true } } : State).endP3

/-! ### P4: the SRAM self-test. -/

/-- A failing row of the SRAM (R296): mapped already, or mapped now to a free spare row of its bank; false where none is
left. -/
def rowMapped (a : State × Bool) (r : Nat × Nat) : State × Bool :=
  if a.1.buf.kept.rows.any fun m => m.1 == r.1 && m.2.2 == r.2 then a
  else
    match a.1.freeSpare r.1 with
    | none => (a.1, false)
    | some sp =>
      ({ a.1 with buf := { a.1.buf with kept := { a.1.buf.kept with rows := a.1.buf.kept.rows ++ [(r.1, sp, r.2)] } } }, a.2)

/-- R296: failing rows go to good spare rows of their bank; failing spares are unusable; more than 16 failing rows in a bank, or
no spare left, halt the start. The map kept in the Nightstand is added to. -/
def execSramSelfTestDone (rows : List (BitVec 6 × BitVec 10)) (spares : List (BitVec 6 × BitVec 4)) (s : State) :
    Host.Outcome State Fault Refusal :=
  if !s.inPhase 4 then .next s
  else
    let bad := spares.map fun x => (x.1.toNat, x.2.toNat)
    let fail := (rows.map fun r => (r.1.toNat, r.2.toNat)).eraseDups
    let s1 : State := { s with buf := { s.buf with badSpares := bad } }
    let (s2, ok) := fail.foldl rowMapped (s1, true)
    let many := (List.range 64).any fun b => decide ((fail.filter fun r => r.1 == b).length > 16)
    if many ∨ !ok then .next (s1.halt 0x21 0)
    else .next ((if fail.isEmpty then s2 else s2.bootCode 1 0x20 0).toPhase 5)

/-! ### P5: firmware, keys and measurements. -/

/-- R84, R67: a copy of the firmware image has been read. A patch set whose content fails is rejected whole (R86). -/
def execFirmwareCopyCheck (copy : Copy) (rd : NorRead) (s : State) : Host.Outcome State Fault Refusal :=
  let turn := if s.start.fwTried = 0 then s.primary else otherCopy s.primary
  if !s.inPhase 5 ∨ s.start.recovery ∨ s.fw.isSome ∨ copy ≠ turn ∨ s.get Reg.BUR.STATUS.STAGE ≥ 5 then .next s
  else
    let r := s.norRead true copy rd
    let res := checkFw s.fuses r
    let s1 := s.put (match copy with | .a => Reg.OPL.STATUS.FW_A | .b => Reg.OPL.STATUS.FW_B) res
    if res = 1 then
      let img := fwImageOf copy r.bytes
      let s2 := (({ s1 with fw := some img } : State).put Reg.OPL.STATUS.FW_ACTIVE (match copy with | .a => 1 | .b => 2)).put
        Reg.OPL.FW_VERSION.VERSION img.version.toNat
      if img.rejected then .next ((s2.put Reg.OPL.STATUS.PATCH_REJECTED 1).bootCode 1 0x30 0)
      else if leAt r.bytes 0x1A 2 = 0 then .next s2
      else
        let p := fwPatches r.bytes
        let s3 := ((({ s2 with patches := p } : State).put Reg.FSQ.PATCH_VER.PATCH_SET img.patchSet).put
          Reg.FSQ.PATCH_VER.ENTRIES p.overlay.length)
        .next ((s3.putB Reg.FSQ.PATCH_VER.HORIZ (p.overlay.any fun e => e.store == 0)).putB Reg.FSQ.PATCH_VER.TWO_LEVEL
          (p.overlay.any fun e => e.store != 0))
    else if s.start.fwTried = 0 then .next { s1 with start := { s1.start with fwTried := 1 } }
    else
      let s2 := s1.hold 0x31 0
      .next (({ s2 with start := { s2.start with recovery := true } } : State).put Reg.OPL.STATUS.RECOVERY 1)

/-- R450, R451: the boot counter: the largest readable value plus one goes to both Chest copies and the mirror. -/
def State.countBoot (s : State) (a : ChestAccess) : State :=
  let at_ (i : Nat) : Option Nat := s.chest.bootCount.getD i none
  let seen := [if a.read0 then at_ 0 else none, if a.read1 then at_ 1 else none, s.bur.mirror].filterMap id
  let v := (seen.foldl max 0 + 1) % 2 ^ 64
  let lost : Bool := seen.isEmpty || !(a.write0 || a.write1)
  let s1 : State := { s with
    chest := { s.chest with
      bootCount := [if a.write0 then some v else at_ 0, if a.write1 then some v else at_ 1]
      readOk := [a.read0, a.read1]
      writeOk := [a.write0, a.write1] }
    bur := { s.bur with mirror := some v } }
  let s2 := ((s1.put Reg.BUR.COUNT_LO.COUNT v).put Reg.BUR.COUNT_HI.COUNT (v / 2 ^ 32)).putB Reg.BUR.STATUS.COUNTER_RESET lost
  if a.write0 || a.write1 then s2 else s2.warn 4 2

/-- The word of a register as four bytes. -/
def State.regBytes (s : State) (slot off : Nat) : Bytes := toLe 4 (s.regs.word (Reg.key slot off)).toNat

/-- MODE of measurement index 6 (R452). -/
def State.bootMode (s : State) : Nat := if s.start.recovery then 2 else if s.mfg then 1 else 0

/-- The copy's number in a measurement: 1 A, 2 B. -/
def copyNum : Copy → Nat
  | .a => 1
  | .b => 2

/-- R452: the measurement blocks 1 to 6 made at P5. -/
def State.measureP5 (s : State) : State :=
  let s1 := s.measure 1 0x00 (padTo 48 Config.romDigest)
  let s2 := match s.fw with | some f => s1.measure 2 0x01 f.digest | none => s1
  let rec_ := if s.start.recovery then 2 else 0
  let s3 := s2.measure 3 0x86 (match s.fw with
    | some f => toLe 4 f.version.toNat ++ toLe 2 f.patchSet ++ toLe 2 f.htSvn ++ s.regBytes 0x10 0x400 ++
        toLe 1 (copyNum f.copy) ++ toLe 1 ((if f.rejected then 1 else 0) + rec_) ++ toLe 2 0
    | none => zeros 8 ++ s.regBytes 0x10 0x400 ++ toLe 1 0 ++ toLe 1 rec_ ++ toLe 2 0)
  let s4 := match s.opt with
    | some o => (s3.measure 4 0x03 o.digest).measure 5 0x83
        (toLe 4 o.seq.toNat ++ toLe 2 o.svn ++ toLe 1 o.keySlot ++ toLe 1 (copyNum o.copy) ++ s.regBytes 2 0 ++ toLe 4 0)
    | none => s3
  s4.measure 6 0x82 (s.regBytes 0 4 ++ s.regBytes 0 0 ++ s.regBytes 2 0x10 ++ toLe 1 s.bootMode ++ toLe 3 0)

/-- CSTS.RDY follows an enabled controller once it may (R60). -/
def State.setRdy (s : State) : State :=
  let n := s.cqu.nvme
  if n.cc.getLsbD 0 ∧ !n.cfs ∧ s.rdyAllowed then { s with cqu := { s.cqu with nvme := { n with rdy := true } } } else s

/-- R86, R448, R450, R452: P5 ends: DK and the boot counter, the certificate chain, the measurements, the watchdog and the
format sequencers' release; a recovery download goes no further (R87). -/
def execFirmwareLoadDone (chest : ChestAccess) (s : State) : Host.Outcome State Fault Refusal :=
  if !s.inPhase 5 ∨ s.get Reg.BUR.STATUS.STAGE ≥ 5 ∨ (s.fw.isNone ∧ !s.start.recovery) then .next s
  else
    let s1 := s.countBoot chest
    let chain : Bool := !s1.chest.chain.isEmpty && (chest.read0 || chest.read1)
    let s2 : State := { s1 with bur := { s1.bur with
      dkPub := if s.fuses.dsOk then some (p384Pub dkScalar) else none
      chain := if chain then s1.chest.chain else [] } }
    let s3 := ((s2.putB Reg.BUR.STATUS.DK_READY s.fuses.dsOk).putB Reg.BUR.STATUS.CHAIN_PRESENT chain).measureP5
    let s4 := (s3.measure8 5).count (if s.flag Reg.RCU.LAST_CAUSE.WARM then 3 else 2) 0 1
    let s5 := ({ s4 with start := { s4.start with watchdog := true } } : State).releaseBlocks
    if s.start.recovery then .next { s5.setRdy with cqu := { s5.setRdy.cqu with notReady := some true } }
    else .next (s5.toPhase 6)

/-! ### P6: the DRAM. -/

/-- Usable capacity in MiB of a fitted capacity in GiB (R300). -/
def usableMiB (gib : Nat) : Nat :=
  if gib = 2 then 1792 else if gib = 4 then 3584 else if gib = 6 then 5440 else if gib = 8 then 7232 else 0

/-- R302, R45: P6 ends: trained, or restored where the devices kept their contents; a training failure or a capacity that does
not fit halts the start; P7 begins with the Zhosel link. -/
def execDramTrainingDone (trained : BitVec 4) (capGiB : BitVec 4) (density : BitVec 5) (s : State) :
    Host.Outcome State Fault Refusal :=
  match s.cfg with
  | none => .next s
  | some c =>
    if !s.inPhase 6 then .next s
    else
      let restored : Bool := s.flag Reg.RCU.LAST_CAUSE.WARM && s.flag Reg.NST.START.DRAM_SR_KEPT
      let tr := if restored then 0xF else trained.toNat
      let us := usableMiB capGiB.toNat
      let s1 := ((s.put Reg.BFM.DRAM_TRAIN.TRAINED tr).putB Reg.BFM.DRAM_TRAIN.RESTORED restored).put
        Reg.BFM.DRAM_CFG.CAPACITY capGiB.toNat
      let s2 := (s1.put Reg.BFM.DRAM_CFG.DENSITY density.toNat).put Reg.BFM.DRAM_CFG.USABLE us
      if tr ≠ 0xF then .next (s2.halt 0x40 0)
      else if capGiB.toNat ≠ c.dram.capacity ∨ c.dram.wcache + 256 + (c.stripe.width + 2) * c.stripe.sideboard + 512 + 64 > us then
        .next (s2.halt 0x41 0)
      else
        let (v, s3) := if restored then (s2.buf.kept.trained.getD 0, s2) else s2.free
        let s4 : State := { s3 with buf := { s3.buf with kept := { s3.buf.kept with trained := some v } } }
        .next ((s4.toPhase 7).trainStart .zhosel false)

/-! ### The host port's link (R47, R59). -/

/-- R47: the host port enters Detect: P3 has ended and PERST_N is high. -/
def execPcieLinkTrainStart (s : State) : Host.Outcome State Fault Refusal :=
  if s.start.trainOpen ∧ !s.pins.perstLow ∧ s.start.rst = .running ∧ s.get Reg.HPT.LINK.SPEED = 0 ∧
      s.start.blocks.getD 8 .inReset = .running then
    .next { s with hpt := { s.hpt with training := true } }
  else .next s

/-- R59, R392: training ends with the link up at a speed up to PCIE_MAX_RATE, at width 4, 2 or 1. -/
def execPcieLinkUp (speed width : BitVec 3) (s : State) : Host.Outcome State Fault Refusal :=
  let ok : Bool := decide (1 ≤ speed.toNat ∧ speed.toNat ≤ s.plat.maxRate) && [1, 2, 4].contains width.toNat
  if s.hpt.training ∧ ok ∧ s.start.blocks.getD 8 .inReset = .running then
    .next ((({ s with hpt := { s.hpt with training := false, follower := false } } : State).put Reg.HPT.LINK.SPEED speed.toNat).put
      Reg.HPT.LINK.WIDTH width.toNat)
  else .next s

end Sys2Proof.Machine
end

