-- ==== Sys2Proof/Machine/Discovery.lean ====
section
/-!
DEFINITION. Discovery, P7 (R55 to R58, R63), and the identity memories (R88, R89).
-/

namespace Sys2Proof.Machine

/-! ### Identity memories (R88, R89). -/

/-- A record of an identity memory: TYPE, body, whether it lies in its bounds with its CRC right. -/
structure IdRec where
  typ  : Nat
  body : Bytes
  ok   : Bool
  deriving DecidableEq, Repr

/-- Up to `n` records from an offset, within the first `lim` bytes. -/
def idRecs : Nat → Nat → Nat → Bytes → List IdRec
  | 0, _, _, _ => []
  | n + 1, off, lim, b =>
    if off ≥ lim then []
    else
      let len := leAt b (off + 2) 2
      let fits : Bool := decide (off + 8 + len ≤ lim)
      let ok : Bool := fits && leAt b (off + 4 + len) 4 == (crc32 (slice b off (4 + len))).toNat
      ⟨leAt b off 2, slice b (off + 4) len, ok⟩ :: (if fits then idRecs n (off + (len + 11) / 4 * 4) lim b else [])

/-- The header of an identity memory is sound (R88): KIND, TOTAL_LEN and START_LEN within their bounds, HDR_CRC. -/
def idHeaderOk (kind : Nat) (b : Bytes) : Bool :=
  let top := if kind = 1 then 4096 else 8192
  let start := if kind = 1 then 1024 else 2048
  slice b 0 4 == [0x48, 0x49, 0x44, 0x4D] && byteAt b 4 == 1 && byteAt b 5 == kind && decide (leAt b 6 2 ≤ top) &&
  inRange 1 255 (leAt b 8 2) && inRange 32 start (leAt b 0xA 2) && printable (slice b 0xC 16) &&
  leAt b 0x1C 4 == (crc32 (b.take 0x1C)).toNat

/-- The start-use records: those before the first other record (R88). -/
def startRecs (b : Bytes) : List IdRec :=
  (idRecs (leAt b 8 2) 0x20 (leAt b 0xA 2) b).takeWhile fun r => decide (r.typ ≥ 0x8000)

/-- The body length R89 gives a start-use TYPE; none for an unknown one. -/
def idLen (typ : Nat) : Option Nat :=
  if typ = 0x8001 then some 20 else if typ = 0x8002 then some 10 else if typ = 0x8101 then some 8
  else if typ = 0x8102 then some 16 else none

/-- What makes two records the same record: TYPE, and INDEX of a HEAD. -/
def idKey (r : IdRec) : Nat := r.typ * 256 + (if r.typ = 0x8102 then byteAt r.body 0 else 0)

/-- The start-use records pass (R88): every CRC, the lengths of R89, no repeat of a record that R89 defines. -/
def startOk (rs : List IdRec) : Bool :=
  (rs.all fun r => r.ok && (match idLen r.typ with | some n => r.body.length == n | none => true)) &&
  distinct ((rs.filter fun r => (idLen r.typ).isSome).map idKey)

/-- The body of the record of a TYPE. -/
def idBody (rs : List IdRec) (typ : Nat) : Option Bytes := (rs.find? fun r => r.typ == typ).map fun r => r.body

/-- The base/motor module identity, where it is present and sound. -/
def baseOf (b : Bytes) : Option BaseIdent :=
  let rs := startRecs b
  if !idHeaderOk 1 b || !startOk rs then none
  else match idBody rs 0x8001, idBody rs 0x8002 with
    | some sn, some m =>
      if [8, 10, 12].contains (byteAt m 0) then
        some ⟨slice b 0xC 16, sn, ⟨byteAt m 0, leAt m 2 2, leAt m 4 2, leAt m 6 2, leAt m 8 2⟩, b.take (leAt b 0xA 2)⟩
      else none
    | _, _ => none

/-- A HEAD record's body (R89). -/
def headOf (v : Bytes) : HeadRec :=
  ⟨byteAt v 0, byteAt v 1 == 1, leAt v 2 2, leAt v 4 2, leAt v 6 2, signed 32 (leAt v 8 4), leAt v 12 2⟩

/-- A head stack identity, where it is present and sound: HSA, and one HEAD record per head. -/
def hsaOf (b : Bytes) : Option HsaIdent :=
  let rs := startRecs b
  if !idHeaderOk 2 b || !startOk rs then none
  else match idBody rs 0x8101 with
    | none => none
    | some h =>
      let heads := (rs.filter fun r => r.typ == 0x8102).map fun r => headOf r.body
      let n := byteAt h 0
      if (heads.all fun x => decide (x.index < n)) ∧ heads.length = n then
        some ⟨slice b 0xC 16, n, byteAt h 1 == 1, leAt h 2 2, leAt h 4 2, heads, b.take (leAt b 0xA 2)⟩
      else none

/-! ### The end of P7. -/

/-- R453: index 7, over the identities that were read. -/
def State.measureP7 (s : State) : State :=
  let base := match s.ident.base with | some b => b.start | none => []
  let hsa (h : Option HsaIdent) : Bytes := match h with | some x => x.start | none => []
  s.measure 7 0x02 (sha384 (s.ident.motion ++ s.ident.feA ++ s.ident.feB ++ base ++ hsa s.ident.hsaA ++ hsa s.ident.hsaB))

/-- A discovery item has ended. -/
def Item.ended : Item → Bool
  | .waiting => false
  | _ => true

/-- P7 ends with its last item (R58): CSTS.RDY may set; held, the start goes no further; else the head map is built and P8
begins. -/
def State.p7Step (s : State) : State :=
  let t := s.start
  if !s.inPhase 7 ∨ s.get Reg.BUR.STATUS.STAGE ≥ 7 ∨ !([t.zhosel, t.motion, t.base, t.ezA, t.ezB, t.hsA, t.hsB].all Item.ended) then s
  else
    let s1 := (s.measureP7.measure8 7).setRdy
    if s1.held then s1.holdIo
    else (s1.toPhase 8).startSpin

/-! ### Links. -/

/-- R124, R56 step 2: the Zhosel link is up: the identity request goes to the motion power chip. -/
def execZhoselLinkUp (up dn : BitVec 2) (s : State) : Host.Outcome State Fault Refusal :=
  if s.linkState .zhosel ≠ 1 then .next s
  else
    match zhoselLanes up.toNat dn.toNat with
    | none => .next (s.trainStart .zhosel false)
    | some (au, ad) =>
      let s1 := s.linkReady .zhosel au ad up.toNat dn.toNat (au.isSome || ad.isSome)
      let s2 : State := { s1 with start := { s1.start with zhosel := if s1.inPhase 7 then .ok else s1.start.zhosel } }
      .next (s2.motCmd 0 0x01 [])

/-- R124: the Zhosel link has failed: code 0x50, the base module is not read, the Ezpol links are next. After the start it is
down (R106). -/
def execZhoselTrainTimeout (s : State) : Host.Outcome State Fault Refusal :=
  if s.start.rst ≠ .running ∨ s.linkState .zhosel ≠ 1 then .next s
  else if !s.inPhase 7 ∨ s.start.zhosel ≠ .waiting then .next (s.linkDown .zhosel)
  else
    let s1 := (s.hold 0x50 0).put (linkStateFld .zhosel) 6
    .next ({ s1 with start := { s1.start with zhosel := .failed, motion := .skipped, base := .skipped } } : State).ezpolTrain

/-- The Ezpol item of an actuator, and its head stack's. -/
def Start.setEz (t : Start) (x : Act) (v : Item) (hs : Item) : Start :=
  match x with
  | .a => { t with ezA := v, hsA := hs }
  | .b => { t with ezB := v, hsB := hs }

/-- The Ezpol item of an actuator. -/
def Start.ez (t : Start) : Act → Item
  | .a => t.ezA
  | .b => t.ezB

/-- R123, R125: an Ezpol link is up: cells start at SEQ 0 with 16 credits per unit, and IDENT is sent; narrow with one uplink lane
missing (R115). -/
def execEzpolLinkUp (act : Act) (up : BitVec 5) (dn : BitVec 2) (s : State) : Host.Outcome State Fault Refusal :=
  if s.linkState act.port ≠ 1 then .next s
  else
    match ezpolLanes up.toNat dn.toNat with
    | none => .next (s.trainStart act.port (s.link act.port).wake)
    | some aside =>
      let s1 := (s.linkReady act.port aside none up.toNat dn.toNat aside.isSome).narrowChannel act aside.isSome
      let s2 : State := if s1.inPhase 7 ∧ s1.start.ez act = .waiting then
          { s1 with start := s1.start.setEz act .ok .waiting }
        else s1
      .next (s2.feCmd act 0 0x01 [])

/-- R123: an Ezpol link has failed: code 0x60 or 0x61, and its head stack is not read. After the start it is down (R106). -/
def execEzpolTrainTimeout (act : Act) (s : State) : Host.Outcome State Fault Refusal :=
  if s.start.rst ≠ .running ∨ s.linkState act.port ≠ 1 then .next s
  else if !s.inPhase 7 ∨ s.start.ez act ≠ .waiting then .next (s.linkDown act.port)
  else
    let s1 := (s.hold (0x60 + act.num) act.num).put (linkStateFld act.port) 6
    .next ({ s1 with start := s1.start.setEz act .failed .skipped } : State).p7Step

/-! ### Identity reads (R57, R58). -/

/-- An item's number among the retries. -/
def idNum : IdMem → Nat
  | .base => 0
  | .hsa => 1
  | .hsb => 2

/-- A read of the memory is due (R55). -/
def State.idDue (s : State) : IdMem → Bool
  | .base => s.start.motion == .ok && s.start.base == .waiting
  | .hsa => s.start.ezA == .ok && s.start.ezB.ended && s.start.hsA == .waiting
  | .hsb => s.start.ezB == .ok && s.start.ezA.ended && s.start.hsA.ended && s.start.hsB == .waiting

/-- An item ends; the Ezpol links follow the base module, and P7 its last item. -/
def State.idEnd (s : State) (m : IdMem) (v : Item) : State :=
  match m with
  | .base => ({ s with start := { s.start with base := v } } : State).ezpolTrain
  | .hsa => ({ s with start := { s.start with hsA := v } } : State).p7Step
  | .hsb => ({ s with start := { s.start with hsB := v } } : State).p7Step

/-- A read failed: it is retried once; after that the identity counts as absent or failing (R57). -/
def State.idFailed (s : State) (m : IdMem) : State :=
  if s.start.retried.getD (idNum m) false then
    let s1 := match m with
      | .base => s.hold 0x52 0
      | .hsa => s.hold 0x62 0
      | .hsb => s.hold 0x62 1
    s1.idEnd m .failed
  else { s with start := { s.start with retried := setAt s.start.retried (idNum m) true } }

/-- A head retired at the factory is retired at the start, with code 0x81 (R89). -/
def State.factoryRetired (s : State) (a : Nat) (l : List HeadRec) : State :=
  (l.filter fun r => r.retired).foldl (fun t r => (t.bootCode 1 0x81 a).retireInStart (12 * a + r.index)) s

/-- A head stack that was read is checked: head count (0x63), then serial (0x64) against the Chest header's (R58, R273). -/
def State.hsaCheck (s : State) (a : Nat) (h : HsaIdent) : State × Item :=
  let per := match s.cfg with | some c => c.geom.headsPerAct | none => 0
  let kept := if a = 0 then s.chest.header.serialA else s.chest.header.serialB
  if h.headCount ≠ per then (s.hold 0x63 a, .failed)
  else if !(kept.all fun x => x == 0) ∧ kept ≠ h.serial then (s.hold 0x64 a, .failed)
  else (s.factoryRetired a h.heads, .ok)

/-- R57, R58: the read of an identity memory ends in P7 and is checked. -/
def execIdentityRead (mem : IdMem) (rd : Option Bytes) (s : State) : Host.Outcome State Fault Refusal :=
  if !s.inPhase 7 ∨ !s.idDue mem then .next s
  else
    match mem, rd with
    | .base, some b =>
      (match baseOf b with
        | some i => .next (({ s with ident := { s.ident with base := some i } } : State).idEnd .base .ok)
        | none => .next (s.idFailed .base))
    | .hsa, some b =>
      (match hsaOf b with
        | some i =>
          let (s1, v) := ({ s with ident := { s.ident with hsaA := some i } } : State).hsaCheck 0 i
          .next (s1.idEnd .hsa v)
        | none => .next (s.idFailed .hsa))
    | .hsb, some b =>
      (match hsaOf b with
        | some i =>
          let (s1, v) := ({ s with ident := { s.ident with hsaB := some i } } : State).hsaCheck 1 i
          .next (s1.idEnd .hsb v)
        | none => .next (s.idFailed .hsb))
    | m, none => .next (s.idFailed m)

/-- R57: after P11 the whole memory is read at the lowest priority; a failing read is retried twice, and the failures are kept. -/
def execBackgroundIdentityRead (mem : IdMem) (rd : Option Bytes) (s : State) : Host.Outcome State Fault Refusal :=
  if s.phase ≠ 0xF ∨ s.start.rst ≠ .running then .next s
  else
    let i := s.ident
    let tries := (i.fails.filter fun n => n == idNum mem).length
    let have_ := match mem with | .base => i.fullBase | .hsa => i.fullA | .hsb => i.fullB
    if have_.isSome ∨ tries ≥ 3 then .next s
    else
      match rd with
      | none => .next { s with ident := { i with fails := i.fails ++ [idNum mem] } }
      | some b =>
        if idHeaderOk (if mem = .base then 1 else 2) b then
          .next { s with ident := match mem with
            | .base => { i with fullBase := some b }
            | .hsa => { i with fullA := some b }
            | .hsb => { i with fullB := some b } }
        else .next { s with ident := { i with fails := i.fails ++ [idNum mem] } }

end Sys2Proof.Machine
end

