-- ==== Sys2Proof/Machine/Restore.lean ====
section
/-!
DEFINITION. P10 and P11 (R44, R271, R274 to R276, R333, R341, R374, R467, R468, R474): the Credenza, the journal, the core map
and the saved lines are restored, and the namespaces open.
-/

namespace Sys2Proof.Machine

/-! ### The Credenza (R474). -/

/-- The slot with the highest GEN. -/
def State.newestSlot (s : State) : Option (Nat × CredSlot) :=
  match s.chest.credSlots with
  | [some a, some b] => some (if a.gen ≥ b.gen then (0, a) else (1, b))
  | [some a, none] => some (0, a)
  | [none, some b] => some (1, b)
  | _ => none

/-- Add the values counted so far in this start to a slot's. -/
def mergeCounts {κ : Type} [DecidableEq κ] (top : Nat) (slot now : List (κ × CrdVal)) : List (κ × CrdVal) :=
  now.foldl (fun l e => assocPut l e.1 (crdAdd top (assocGet (0, false) l e.1) e.2.1).1) slot

/-- Remapped rows and retired pages of a slot that the Nightstand no longer has are used again where there is room (R307). -/
def State.remaps (s : State) (c : CredSlot) : State :=
  let k := s.buf.kept
  let rows := c.rows.filter fun r =>
    !(k.rows.any fun m => m.1 == r.1 && (m.2.1 == r.2.1 || m.2.2 == r.2.2)) && !(s.buf.badSpares.contains (r.1, r.2.1))
  let pages := c.pages.filter fun p => !(k.pages.any fun q => q.1 == p.1 || q.2 == p.2)
  { s with buf := { s.buf with kept := { k with rows := k.rows ++ rows, pages := k.pages ++ pages } } }

/-- R474: the newest slot is loaded; with none, LOST sets. -/
def State.credLoad (s : State) : State :=
  match (if s.chest.readOk.any id then s.newestSlot else none) with
  | none => s.put Reg.CRD.STATUS.LOST 1
  | some (n, c) =>
    let s1 : State := { s with crd := { s.crd with
      cnt := mergeCounts 0xFFFFFFFFFFFFFFFF c.cnt s.crd.cnt
      bins := mergeCounts 0xFFFFFFFF c.bins s.crd.bins
      icalMfg := c.icalMfg
      gen := c.gen
      retiredAt := s.crd.retiredAt ++ c.retiredAt.filter fun e => !(assocHas s.crd.retiredAt e.1)
      calAt := s.crd.calAt ++ c.calAt.filter fun e => !(assocHas s.crd.calAt e.1)
      late := c.late } }
    let s2 := s1.put Reg.CRD.STATUS.SLOT n
    if s.flag Reg.NST.START.OSC_KEPT then s2 else s2.remaps c

/-! ### What the save left (R274, R374, R383). -/

/-- Losses of power without a completed shutdown, and the outcome of the save that the header shows. -/
def State.countSaves (s : State) : State :=
  let h := s.chest.header
  let s1 := if s.buf.unsafeDirty = 0 then s
    else ({ s with buf := { s.buf with unsafeDirty := 0 } } : State).count 4 0 s.buf.unsafeDirty
  if h.state = 1 ∧ h.skipped = 0 then s1.count 5 0 1
  else if h.state = 1 ∨ h.state = 4 then s1.count 6 0 1
  else s1

/-- The save that this P10 found has failed (R274). -/
def State.saveFailed (s : State) : Bool :=
  s.chest.header.state == 4 || (s.chest.header.state == 1 && s.chest.header.skipped != 0)

/-! ### The journal (R271). -/

/-- Insert an entry in SEQ order. -/
def insEntry (e : Nat × JEntry) : List (Nat × JEntry) → List (Nat × JEntry)
  | [] => [e]
  | x :: t => if e.1 < x.1 then e :: x :: t else if e.1 = x.1 then x :: t else x :: insEntry e t

/-- The copy whose chain ends at the highest SEQ: its number (0 Chest, 1 band A, 2 band B) and that SEQ; ties go to the Chest,
then band A. A Chest with a device that cannot be read has no chain. -/
def State.replayCopy (s : State) (bandA bandB : Option Nat) : Nat × Nat :=
  let j := s.stripe.journal
  let chest := if s.chest.readOk.all id then j.chest.foldl (fun m e => max m e.1) j.ckptSeq else 0
  let a := if j.surfA.isSome then min (bandA.getD 0) j.bandA else 0
  let b := if j.surfB.isSome then min (bandB.getD 0) j.bandB else 0
  if chest ≥ a ∧ chest ≥ b then (0, max chest j.ckptSeq) else if a ≥ b then (1, max a j.ckptSeq) else (2, max b j.ckptSeq)

/-- The entries of the chosen copy, in SEQ order, and the journal that goes on behind them. -/
def State.replayJournal (s : State) (bandA bandB : Option Nat) : List (Nat × JEntry) × State :=
  let j := s.stripe.journal
  let (src, top) := s.replayCopy bandA bandB
  let all := ((j.chest ++ j.pending).filter fun e => decide (e.1 ≤ top)).foldl (fun l e => insEntry e l) []
  let chest := if src = 0 then j.chest else []
  let j1 : Journal := { j with
    seq := top + 1
    chest := chest
    pending := all.filter fun e => !(chest.any fun c => c.1 == e.1)
    bandA := min j.bandA top
    bandB := min j.bandB top }
  let s1 := (({ s with stripe := { s.stripe with journal := j1 } } : State).put Reg.STE.JOURNAL.REPLAY_SRC src)
  (all.filter fun e => decide (e.1 > j.ckptSeq), s1)

/-- Make a change without its journal entries, counts, events and register effects: it was made before. -/
def State.quietly (s : State) (f : State → State) : State :=
  let t := f s
  { t with stripe := { t.stripe with journal := s.stripe.journal }, cqu := s.cqu, crd := s.crd, regs := s.regs }

/-- A MOVE_START is applied again (R268). -/
def Placement.restarted (p : Placement) (kind : Nat) (inPlace : Bool) (chg : List (Nat × Nat × Nat)) : Placement :=
  { p with
    moving := true, kind := kind, inPlace := inPlace, boundary := 0, gen := p.gen + 1
    next := chg.foldl (fun l c => l.set c.1 (if c.2.1 = 0xFF then ⟨0xFF, 0, 0⟩ else ⟨c.2.1, 2, c.2.2⟩)) p.cur
    spares := p.spares.filter fun x => !(chg.any fun c => c.2.1 == x.1 && c.2.2 == x.2.1) }

/-- Apply an entry of the journal: it sets values and never adds (R268, R271). -/
def State.applyEntry (s : State) : JEntry → State
  | .begin_ _ _ _ _ _ | .ckpt _ _ _ | .metaCkpt _ | .clean _ _ => s
  | .commit z i _ _ _ =>
    (match s.zmu.zones.findIdx? fun d => d.home == z with
      | some lz => (match s.zone? lz with
        | some d => s.setZone lz { d with frontier := max d.frontier (i + 1) }
        | none => s)
      | none => s)
  | .moveStart z kind ip chg =>
    (match s.place? z with
      | some p => s.setPlace (p.restarted kind ip chg)
      | none => s)
  | .boundary z v =>
    (match s.place? z with
      | some p => s.setPlace { p with boundary := v }
      | none => s)
  | .moveEnd z =>
    (match s.place? z with
      | some p => if p.moving then s.quietly fun t => t.moveEnd p else s
      | none => s)
  | .retire h =>
    { s with stripe := { s.stripe with
      retired := insertNat h s.stripe.retired, places := s.stripe.places.map fun p => p.retire h } }
  | .lostRow z i r m => s.quietly fun t => t.rowLost z i r m
  | .jband x h =>
    { s with stripe := { s.stripe with journal :=
      (if x = 0 then { s.stripe.journal with surfA := some h } else { s.stripe.journal with surfB := some h }) } }

/-! ### The map (R341, R468). -/

/-- The map as the newest core map holds it, with the index base and the log's records applied. -/
def State.mapRead (s : State) : State :=
  let c := s.core
  let s1 : State := { s with
    zmu := { s.zmu with layout := c.layout, zones := c.zones, extents := s.zmu.logBase }
    stripe := { s.stripe with places := c.places, lost := c.lost, retired := c.retired } }
  s1.zmu.log.foldl State.applyRec s1

/-- Opened zones are Closed, or Empty at the zone start (R346); a frontier never passes the write pointer (R345). -/
def ZoneDesc.afterReset (w : Nat) (z : ZoneDesc) : ZoneDesc :=
  let st := if z.state = 1 ∨ z.state = 2 then (if z.wp = 0 then 0 else 3) else z.state
  { z with state := st, merging := false, frontier := if z.state = 5 then z.frontier else min z.frontier (ceilDiv z.wp w) }

/-- The pool's ring goes on behind the newest stripe that an extent names in its current zone. -/
def State.ringAgain (s : State) : State :=
  let (z, i) := s.zmu.ring
  let top := (s.zmu.extents.filter fun e => e.pzone == z && !e.zero).foldl (fun m e => max m (e.stripe + 1)) 0
  { s with zmu := { s.zmu with ring := (z, max i top) } }

/-- The map of an operation that a reset cut short, empty, from the progress record (R468). -/
def State.mapOfRecord (s : State) (p : Progress) (es : List (Nat × JEntry)) : State :=
  let old := (List.range 24).filter fun h => p.retired.testBit h
  let keep (e : JEntry) : Bool := match e with | .retire _ | .jband _ _ => true | _ => false
  let s1 := (es.filter fun e => keep e.2).foldl (fun (t : State) e => t.applyEntry e.2)
    { s with stripe := { s.stripe with retired := old, places := [] } }
  match s1.cfg with
  | none => s1
  | some c =>
    let places := (List.range p.layout.z).map fun z => freshPlace c.geom c.stripe s1.stripe.retired z
    let s2 := ({ s1 with stripe := { s1.stripe with places := places } } : State).quietly fun t => t.resetMap p
    { s2 with bur := { s2.bur with running := true, sstat := if p.op = 3 then s2.bur.sstat else 2 } }

/-- Zones with a lost member are queued for their rebuild; moves under new losses start again (R282, R285). -/
def State.requeueMoves (s : State) : State :=
  let hit := (s.stripe.places.filter fun p => !p.lostMembers.isEmpty).map fun p => p.zone
  let s1 : State := { s with stripe := { s.stripe with rebuild := hit.foldl (fun l z => insertNat z l) s.stripe.rebuild } }
  let zs := s1.stripe.places.map fun p => p.zone
  s1.stripe.retired.foldl (fun (t : State) h => zs.foldl (fun (t : State) z => t.restartMove z h) t) s1

/-- The surfaces of the journal bands (R269, R272): as the option image has them until a move, and none on a retired surface
once the band waits to move. -/
def State.bandSurfaces (s : State) : State :=
  match s.cfg with
  | none => s
  | some c =>
    let j := s.stripe.journal
    let first (h : Nat) : Option Nat := if s.stripe.retired.contains h then none else some h
    let a := j.surfA.orElse fun _ => first c.stripe.journalA
    let b := j.surfB.orElse fun _ => first c.stripe.journalB
    let gone (o : Option Nat) : Bool := match o with | some h => s.stripe.retired.contains h | none => false
    let moves := (if gone a then [0] else []) ++ (if gone b then [1] else [])
    let s1 : State := { s with stripe := { s.stripe with journal := { j with surfA := a, surfB := b }, jmoves := moves } }
    (((s1.put Reg.STE.JOURNAL.SURF_A (a.getD 0)).put Reg.STE.JOURNAL.SURF_B (b.getD 0)).putB Reg.STE.JOURNAL.BAND_A_OK
      a.isSome).putB Reg.STE.JOURNAL.BAND_B_OK b.isSome

/-! ### The saved lines (R275). -/

/-- Lines below this index are on media already: the CLEAN entry of the header's SAVE_ID. -/
def cleanTo (id : Nat) (es : List (Nat × JEntry)) : Nat :=
  es.foldl (fun n e => match e.2 with | .clean i k => if i = id then max n k else n | _ => n) 0

/-- Step 5: the lines of the save come into the protected cache, dirty; those of a device that cannot be read, and those saved
poisoned, are lost blocks (R293, R309). -/
def State.linesBack (s : State) (es : List (Nat × JEntry)) : State :=
  let h := s.chest.header
  if h.state ≠ 1 ∧ h.state ≠ 4 then s
  else
    let done := cleanTo h.saveId es
    let due := s.chest.saved.filter fun l => l.saveId == h.saveId && decide (l.index ≥ done)
    let readable (l : SavedLine) : Bool := s.chest.readOk.getD l.dev false
    let back := due.filter fun l => readable l && !l.bad
    let lost := due.filter fun l => !(readable l && !l.bad)
    let s1 := back.foldl (fun (t : State) l => State.commitBlock t.cqu.nextFsn true t (l.dlba, l.data)) s
    { s1 with cqu := { s1.cqu with uncorrect := s1.cqu.uncorrect ++ lost.map fun l => (l.dlba, 1) } }

/-- A stripe is brought to media and committed within P10 (R265, R275). -/
def State.slotNow (s : State) (n : Nat) : State :=
  match s.slot? n with
  | none => s
  | some x =>
    let s1 := (s.launch x).chestWrite
    match s1.slot? n with
    | none => s1
    | some y =>
      if y.state ≠ .begun then s1
      else
        let s2 := match execStripeOnMedia n (s1.setSlot { y with state := .writing }) with
          | .next t => t.chestWrite
          | _ => s1
        match execCommitDurable n s2 with
        | .next t => t
        | _ => s2

/-- A home zone whose loose lines fill a stripe slot (R338): the zone gathered, where its gathering takes slot `n`. -/
def State.homeOut (s : State) (n : Nat) (a : Option State) (lz : Nat) : Option State :=
  match a with
  | some t => some t
  | none => if ((s.gatherHome lz).slot? n).isSome ∧ (s.slot? n).isNone then some (s.gatherHome lz) else none

/-- Step 6: the restored lines that complete a home stripe, then the rest as media cache stripes; at most `f` stripes. -/
def State.linesOut : Nat → State → State
  | 0, s => s
  | f + 1, s =>
    match s.loose with
    | [] => s
    | b :: _ =>
      let n := s.freeSlot.getD 0
      let lzs := (s.loose.map fun x => x.dlba / zsze).eraseDups
      let home := lzs.foldl (s.homeOut n) none
      let s1 := match home with
        | some t => t
        | none => if b.dirty then s.gatherCache n else s
      State.linesOut f (s1.slotNow n)

/-- Steps 5 to 7 of R275. -/
def State.restoreLines (s : State) (es : List (Nat × JEntry)) : State :=
  let h := s.chest.header
  let s1 := s.linesBack es
  let s2 := State.linesOut (s1.loose.length + 1) s1
  if h.state ≠ 1 ∧ h.state ≠ 4 then s2
  else if s2.loose.isEmpty then
    let s3 := s2.journal (.clean h.saveId h.lines)
    { s3 with chest := { s3.chest with header := { s3.chest.header with state := 2 } } }
  else s2

/-! ### P10 and P11. -/

/-- How the Chest answered (R275, R293, R451). -/
def State.chestSeen (s : State) (a : ChestAccess) : State :=
  let s1 : State := { s with chest := { s.chest with readOk := [a.read0, a.read1], writeOk := [a.write0, a.write1] } }
  if a.read0 ∧ a.read1 then s1 else s1.warn 2 5

/-- An operation that a reset cut short (R468). -/
def State.cutShort (s : State) : Option Progress :=
  match s.chest.progress with
  | some p => if p.op ≠ 0 ∧ p.step < 7 then some p else none
  | none => none

/-- The end of P10: heads found bad in this start are retired, the warnings follow what was found, the keys are loaded, and P11
begins. -/
def State.endP10 (s : State) (found : List Nat) (failed : Bool) (keys : List (Nat × Bytes)) : State :=
  let s1 := (found.filter fun h => !(s.stripe.retired.contains h)).foldl (fun (t : State) h => t.retireHead h) s
  let s2 := (s1.bandSurfaces.requeueMoves).redundancy
  let s3 := if failed then s2.warn 4 0 else s2
  (s3.loadKeys keys).toPhase 0xB

/-- R275, R271, R341, R468, R474: P10, once the spindle is at speed: nothing readable holds the start with code 0x90. -/
def execMetadataReplay (chest : ChestAccess) (bandA bandB : Option Nat) (mapOk : Bool) (s : State) :
    Host.Outcome State Fault Refusal :=
  if !s.inPhase 10 ∨ s.held ∨ s.spinState ≠ 5 then .next s
  else
    let found := s.stripe.retired
    let failed := s.saveFailed
    let s1 := (s.chestSeen chest).credLoad.countSaves
    let (es, s2) := s1.replayJournal bandA bandB
    match s2.cutShort with
    | some p => .next ((s2.mapOfRecord p es).endP10 found failed (if p.keys.isEmpty then s2.core.keys else p.keys))
    | none =>
      if !mapOk ∨ s2.core.layout.isNone then
        .next ((({ s2 with stripe := { s2.stripe with retired := found } } : State).bandSurfaces).hold 0x90 0).holdIo
      else
        let s3 := es.foldl (fun (t : State) e => t.applyEntry e.2) s2.mapRead
        let w := 256 * s3.width
        let s4 : State := { s3 with zmu := { s3.zmu with zones := s3.zmu.zones.map fun z => z.afterReset w } }
        .next ((s4.ringAgain.restoreLines es).endP10 found failed s4.core.keys)

/-- R44, R73, R84, R276, R454: P11 ends: warm-valid is set, the namespaces open, SVN fuses are burned where the images ask for
it, and the background erase of the save area begins. -/
def execStartReady (s : State) : Host.Outcome State Fault Refusal :=
  if !s.inPhase 11 ∨ s.held then .next s
  else
    let s1 := ((s.toPhase 0xF).put Reg.NST.START.WARM_VALID 1).measure8 11
    let oem := match s1.opt with
      | some o => if o.svnCommit then max s1.fuses.oemSvn o.svn else s1.fuses.oemSvn
      | none => s1.fuses.oemSvn
    let ht := match s1.fw with
      | some f => if f.svnCommit ∧ !f.rejected then max s1.fuses.htSvn f.htSvn else s1.fuses.htSvn
      | none => s1.fuses.htSvn
    let h := s1.chest.header
    let s2 : State := { s1 with
      fuses := { s1.fuses with oemSvn := oem, htSvn := ht }
      cqu := { s1.cqu with notReady := none, startLog := s1.startPage }
      chest := if h.state = 2 ∨ h.state = 3 then { s1.chest with header := { h with state := 3 }, erased := [0, 0] } else s1.chest }
    .next ((s2.put Reg.OPL.FUSES.OEM_SVN oem).put Reg.OPL.FUSES.HT_SVN ht)

end Sys2Proof.Machine
end

