-- ==== Sys2Proof/Machine/Spdm.lean ====
section
/-!
DEFINITION. The DOE mailbox and the SPDM responder (R403, R404, R449, R455, R456). The layouts of data objects and messages are
those of PCI Express and of SPDM 1.2, to which the spec refers (assumption 4).
-/

namespace Sys2Proof.Machine

/-! ### The mailbox (R403). -/

/-- The bytes of dwords, least significant first. -/
def dwordBytes (l : List Word) : Bytes := l.flatMap fun w => toLe 4 w.toNat

/-- Bytes as dwords, padded with zeros to a whole one. -/
def bytesDwords (b : Bytes) : List Word :=
  (List.range ((b.length + 3) / 4)).map fun i => BitVec.ofNat 32 (leAt b (4 * i) 4)

/-- Put a response of a protocol into the mailbox: two header dwords, then the payload; Busy clears. -/
def State.doeAnswer (s : State) (typ : Nat) (payload : List Word) : State :=
  let obj : List Word := BitVec.ofNat 32 (1 + typ * 0x10000) :: BitVec.ofNat 32 (payload.length + 2) :: payload
  ({ s with hpt := { s.hpt with doeBusy := false, doeReq := [], doeResp := some obj } } : State).bump Reg.HPT.DOE.TX 1

/-- A request is discarded with DOE Error. -/
def State.doeDiscard (s : State) : State :=
  ({ s with hpt := { s.hpt with doeErr := true } } : State).bump Reg.HPT.DOE.ERRORS 1

/-- DOE Discovery of an index: vendor, protocol, next index; no protocol is there from index 2 on. -/
def doeDiscovery (index : Nat) : Word :=
  if index = 0 then 0x01000001 else if index = 1 then 0x00010001 else 0x0000FFFF

/-- The mailbox accepts objects from the end of P5 (R403). -/
def State.doeUp (s : State) : Bool := s.portUp && decide (s.get Reg.BUR.STATUS.STAGE ≥ 5)

/-! ### SPDM messages. -/

/-- An SPDM header. -/
def spdmHead (version code p1 p2 : Nat) : Bytes := toLe 1 version ++ toLe 1 code ++ toLe 1 p1 ++ toLe 1 p2

/-- The version byte of an ERROR: 1.2 once a version is settled. -/
def State.spdmVer (s : State) : Nat := if s.hpt.spdm.stage = 0 then 0x10 else 0x12

/-- Answer the SPDM request that waits. -/
def State.spdmAnswer (s : State) (m : Bytes) : State := s.doeAnswer 1 (bytesDwords m)

/-- An ERROR response: code and data. -/
def State.spdmError (s : State) (code data : Nat) : State := s.spdmAnswer (spdmHead s.spdmVer 0x7F code data)

/-- Change the SPDM state. -/
def State.setSpdm (s : State) (m : Spdm) : State := { s with hpt := { s.hpt with spdm := m } }

/-- The request that waits is this one. -/
def State.spdmReq (s : State) (code : Nat) : Option Bytes :=
  if s.hpt.doeBusy ∧ byteAt s.hpt.doeReq 1 = code then some s.hpt.doeReq else none

/-- Checks every request after GET_VERSION shares: version 1.2, the step reached, its length. A request that fails one is
answered with an ERROR; any request but GET_MEASUREMENTS starts the measurement transcript again. -/
def State.spdmServe (s : State) (m : Bytes) (stage len : Nat) (f : State → State) : State :=
  let s1 := if byteAt m 1 = 0xE0 then s else s.setSpdm { s.hpt.spdm with meas := [] }
  if m.length < len then s1.spdmError 0x01 0
  else if s.hpt.spdm.stage < stage ∨ (stage < 3 ∧ s.hpt.spdm.stage ≠ stage) then s1.spdmError 0x04 0
  else if byteAt m 0 ≠ 0x12 then s1.spdmError 0x41 0
  else f s1

/-- The SPDM request codes the responder knows (R404). -/
def spdmCodes : List Nat := [0x84, 0xE1, 0xE3, 0x81, 0x82, 0x83, 0xE0]

/-- R403: an object is written with Go. -/
def execDoeRequest (vendor : BitVec 16) (typ : Byte) (payload : List Word) (s : State) : Host.Outcome State Fault Refusal :=
  if !s.doeUp then .next s
  else
    let s1 := s.bump Reg.HPT.DOE.RX 1
    let m := dwordBytes payload
    .next (
      if payload.length + 2 > 1024 ∨ vendor ≠ 1 ∨ typ.toNat > 1 ∨ s.hpt.doeBusy ∨ s.hpt.doeResp.isSome ∨ s.hpt.doeErr then
        s1.doeDiscard
      else if typ = 0 then s1.doeAnswer 0 [doeDiscovery (byteAt m 0)]
      else if m.length < 4 then s1.spdmError 0x01 0
      else if !spdmCodes.contains (byteAt m 1) then s1.spdmError 0x07 (byteAt m 1)
      else { s1 with hpt := { s1.hpt with doeBusy := true, doeReq := m } })

/-- R403: Abort: the mailbox, Busy and Error clear. -/
def execDoeAbort (s : State) : Host.Outcome State Fault Refusal :=
  if !s.doeUp then .next s
  else .next (({ s with hpt := { s.hpt with doeBusy := false, doeReq := [], doeResp := none, doeErr := false } } : State).bump
    Reg.HPT.DOE.ABORTS 1)

/-! ### Negotiation (R404). -/

/-- R404: GET_VERSION: only 1.2; whatever was negotiated is void. -/
def execGetVersion (s : State) : Host.Outcome State Fault Refusal :=
  match s.spdmReq 0x84 with
  | none => .next s
  | some m =>
    if byteAt m 0 ≠ 0x10 then .next (s.spdmError 0x41 0)
    else
      let r := spdmHead 0x10 0x04 0 0 ++ toLe 1 0 ++ toLe 1 1 ++ toLe 2 0x1200
      .next ((s.setSpdm { Spdm.reset with stage := 1, vca := m.take 4 ++ r }).spdmAnswer r)

/-- R404: GET_CAPABILITIES: CERT_CAP, CHAL_CAP, MEAS_CAP 0b10, both sizes 4,096; the spec gives no CTExponent. -/
def execGetCapabilities (version : Byte) (s : State) : Host.Outcome State Fault Refusal :=
  match s.spdmReq 0xE1 with
  | none => .next s
  | some m =>
    if m.getD 0 0 ≠ version then .next s
    else .next (s.spdmServe m 1 20 fun s =>
      let v := s.free
      let r := spdmHead 0x12 0x61 0 0 ++ toLe 1 0 ++ toLe 1 v.1 ++ toLe 2 0 ++ toLe 4 0x16 ++ toLe 4 4096 ++ toLe 4 4096
      (v.2.setSpdm { s.hpt.spdm with stage := 2, vca := s.hpt.spdm.vca ++ m.take 20 ++ r }).spdmAnswer r)

/-- R404: NEGOTIATE_ALGORITHMS: P-384, SHA-384 and the DMTF measurement specification, where the requester offers them. -/
def execNegotiateAlgorithms (asym hash : Word) (measSpec : Byte) (s : State) : Host.Outcome State Fault Refusal :=
  match s.spdmReq 0xE3 with
  | none => .next s
  | some m =>
    if leAt m 8 4 ≠ asym.toNat ∨ leAt m 12 4 ≠ hash.toNat ∨ byteAt m 6 ≠ measSpec.toNat then .next s
    else .next (s.spdmServe m 2 32 fun s =>
      if !asym.getLsbD 7 ∨ !hash.getLsbD 1 ∨ !measSpec.getLsbD 0 then s.spdmError 0x01 0
      else
        let r := spdmHead 0x12 0x63 0 0 ++ toLe 2 36 ++ toLe 1 1 ++ toLe 1 0 ++ toLe 4 4 ++ toLe 4 0x80 ++ toLe 4 2 ++ zeros 16
        (s.setSpdm { s.hpt.spdm with stage := 3, vca := s.hpt.spdm.vca ++ m.take (leAt m 4 2) ++ r }).spdmAnswer r)

/-! ### Certificates (R449). -/

/-- Answer and keep both messages for a later CHALLENGE. -/
def State.certAnswer (s : State) (req resp : Bytes) : State :=
  (s.setSpdm { s.hpt.spdm with certs := s.hpt.spdm.certs ++ req ++ resp }).spdmAnswer resp

/-- R449: GET_DIGESTS: the digest of the slot 0 chain; without a chain, Unspecified. -/
def execGetDigests (s : State) : Host.Outcome State Fault Refusal :=
  match s.spdmReq 0x81 with
  | none => .next s
  | some m => .next (s.spdmServe m 3 4 fun s =>
      if !s.flag Reg.BUR.STATUS.CHAIN_PRESENT then s.spdmError 0x05 0
      else s.certAnswer (m.take 4) (spdmHead 0x12 0x01 0 1 ++ sha384 s.bur.chain))

/-- R449: GET_CERTIFICATE: a piece of the slot 0 chain; without a chain, Unspecified. -/
def execGetCertificate (slot : Byte) (offset length : BitVec 16) (s : State) : Host.Outcome State Fault Refusal :=
  match s.spdmReq 0x82 with
  | none => .next s
  | some m =>
    if m.getD 2 0 ≠ slot ∨ leAt m 4 2 ≠ offset.toNat ∨ leAt m 6 2 ≠ length.toNat then .next s
    else .next (s.spdmServe m 3 8 fun s =>
      if !s.flag Reg.BUR.STATUS.CHAIN_PRESENT then s.spdmError 0x05 0
      else if slot ≠ 0 ∨ offset.toNat ≥ s.bur.chain.length then s.spdmError 0x01 0
      else
        let n := min (min length.toNat (s.bur.chain.length - offset.toNat)) 4088
        s.certAnswer (m.take 8) (spdmHead 0x12 0x02 0 0 ++ toLe 2 n ++ toLe 2 (s.bur.chain.length - offset.toNat - n) ++
          slice s.bur.chain offset.toNat n))

/-! ### Signed answers (R455). -/

/-- The signature SPDM 1.2 defines: by DK over the signing prefix, its context, and the digest of the transcript. -/
def spdmSign (context : List Char) (transcript : Bytes) : Bytes :=
  let v := asciiBytes ['d', 'm', 't', 'f', '-', 's', 'p', 'd', 'm', '-', 'v', '1', '.', '2', '.', '*']
  dkSign (v ++ v ++ v ++ v ++ zeros (36 - context.length) ++ asciiBytes context ++ sha384 transcript)

/-- A nonce: an output of the DRBG. -/
def State.nonce (s : State) : Bytes × State := (padTo 32 (Config.drbg s.freeCount), { s with freeCount := s.freeCount + 1 })

/-- The measurement summary hash of a CHALLENGE: nothing, indices 1 to 6, or every block present (R455). -/
def State.measSummary (s : State) (hashType : Nat) : Bytes :=
  if hashType = 0 then []
  else if hashType = 1 then sha384 ((s.measBlocks.filter fun b => decide (b.1 ≤ 6)).flatMap Prod.snd)
  else sha384 s.record

/-- R455: CHALLENGE. -/
def execChallenge (slot : Byte) (hashType : Byte) (nonce : Bytes) (s : State) : Host.Outcome State Fault Refusal :=
  match s.spdmReq 0x83 with
  | none => .next s
  | some m =>
    if m.getD 2 0 ≠ slot ∨ m.getD 3 0 ≠ hashType ∨ slice m 4 32 ≠ nonce then .next s
    else .next (s.spdmServe m 3 36 fun s =>
      if !s.flag Reg.BUR.STATUS.CHAIN_PRESENT then s.spdmError 0x05 0
      else if slot ≠ 0 ∨ !([0, 1, 0xFF].contains hashType.toNat) then s.spdmError 0x01 0
      else
        let n := s.nonce
        let r := spdmHead 0x12 0x03 0 1 ++ sha384 s.bur.chain ++ n.1 ++ s.measSummary hashType.toNat ++ toLe 2 0
        let ctx := ['r', 'e', 's', 'p', 'o', 'n', 'd', 'e', 'r', '-', 'c', 'h', 'a', 'l', 'l', 'e', 'n', 'g', 'e', '_',
          'a', 'u', 't', 'h', ' ', 's', 'i', 'g', 'n', 'i', 'n', 'g']
        let sig := spdmSign ctx (s.hpt.spdm.vca ++ s.hpt.spdm.certs ++ m.take 36 ++ r)
        (n.2.setSpdm { s.hpt.spdm with certs := [] }).spdmAnswer (r ++ sig))

/-- The record GET_MEASUREMENTS asks for: number of blocks and record (R455); none for a Param2 of no meaning. -/
def State.measAsked (s : State) (p2 : Nat) : Option (Nat × Bytes) :=
  if p2 = 0 then some (s.measBlocks.length, [])
  else if p2 = 0xFF then some (s.measBlocks.length, s.record)
  else if p2 ≤ 8 then
    match s.measBlocks.find? fun b => b.1 == p2 with
    | some b => some (1, b.2)
    | none => some (0, [])
  else none

/-- R455: GET_MEASUREMENTS. -/
def execGetMeasurements (param1 param2 : Byte) (nonce : Bytes) (slot : Byte) (s : State) : Host.Outcome State Fault Refusal :=
  match s.spdmReq 0xE0 with
  | none => .next s
  | some m =>
    let signed := param1.getLsbD 0
    let len := if signed then 37 else 4
    if m.getD 2 0 ≠ param1 ∨ m.getD 3 0 ≠ param2 ∨ (signed ∧ (slice m 4 32 ≠ nonce ∨ m.getD 36 0 ≠ slot)) then .next s
    else .next (s.spdmServe m 3 len fun s =>
      if signed ∧ !s.flag Reg.BUR.STATUS.CHAIN_PRESENT then s.spdmError 0x05 0
      else if signed ∧ slot ≠ 0 then s.spdmError 0x01 0
      else
        match s.measAsked param2.toNat with
        | none => s.spdmError 0x01 0
        | some (k, rec_) =>
          let n := s.nonce
          let r := spdmHead 0x12 0x60 (if param2 = 0 then k else 0) 0 ++ toLe 1 k ++ toLe 3 rec_.length ++ rec_ ++ n.1 ++
            toLe 2 0
          let l := s.hpt.spdm.meas ++ m.take len ++ r
          let ctx := ['r', 'e', 's', 'p', 'o', 'n', 'd', 'e', 'r', '-', 'm', 'e', 'a', 's', 'u', 'r', 'e', 'm', 'e', 'n',
            't', 's', ' ', 's', 'i', 'g', 'n', 'i', 'n', 'g']
          if signed then
            (n.2.setSpdm { s.hpt.spdm with meas := [] }).spdmAnswer (r ++ spdmSign ctx (s.hpt.spdm.vca ++ l))
          else (n.2.setSpdm { s.hpt.spdm with meas := l }).spdmAnswer r)

end Sys2Proof.Machine
end

