-- ==== Sys2Proof/Machine/Dispatch.lean ====
section
/-!
DEFINITION. The meaning of every command: one arm per constructor of `Instr`, each a direct call of its own meaning.
-/

namespace Sys2Proof.Machine

/-- The effect of a command on everything but the queue of waiting commands. -/
def exec (i : Instr) (s : State) : Host.Outcome State Fault Refusal :=
  match i with
  | .powerOn rail => Sys2Proof.Machine.execPowerOn rail s
  | .vddCoreOff => Sys2Proof.Machine.execVddCoreOff s
  | .sysrstNLow => Sys2Proof.Machine.execSysrstNLow s
  | .sysrstNHigh => Sys2Proof.Machine.execSysrstNHigh s
  | .sysrstRecognised => Sys2Proof.Machine.execSysrstRecognised s
  | .holdupSaveDone skipped => Sys2Proof.Machine.execHoldupSaveDone skipped s
  | .resetStretchEnd => Sys2Proof.Machine.execResetStretchEnd s
  | .internalResetRelease bootSrc clkMode => Sys2Proof.Machine.execInternalResetRelease bootSrc clkMode s
  | .oscSettled => Sys2Proof.Machine.execOscSettled s
  | .clkGood dom => Sys2Proof.Machine.execClkGood dom s
  | .clkGoodTimeout dom => Sys2Proof.Machine.execClkGoodTimeout dom s
  | .optionCopyCheck copy rd => Sys2Proof.Machine.execOptionCopyCheck copy rd s
  | .pcieLinkTrainStart => Sys2Proof.Machine.execPcieLinkTrainStart s
  | .sramSelfTestDone rows spares => Sys2Proof.Machine.execSramSelfTestDone rows spares s
  | .firmwareCopyCheck copy rd => Sys2Proof.Machine.execFirmwareCopyCheck copy rd s
  | .firmwareLoadDone chest => Sys2Proof.Machine.execFirmwareLoadDone chest s
  | .dramTrainingDone trained capGiB density => Sys2Proof.Machine.execDramTrainingDone trained capGiB density s
  | .zhoselLinkUp up dn => Sys2Proof.Machine.execZhoselLinkUp up dn s
  | .zhoselTrainTimeout => Sys2Proof.Machine.execZhoselTrainTimeout s
  | .ezpolLinkUp act up dn => Sys2Proof.Machine.execEzpolLinkUp act up dn s
  | .ezpolTrainTimeout act => Sys2Proof.Machine.execEzpolTrainTimeout act s
  | .identityRead mem rd => Sys2Proof.Machine.execIdentityRead mem rd s
  | .backgroundIdentityRead mem rd => Sys2Proof.Machine.execBackgroundIdentityRead mem rd s
  | .servoCalibration ma mb => Sys2Proof.Machine.execServoCalibration ma mb s
  | .assistCheck best => Sys2Proof.Machine.execAssistCheck best s
  | .metadataReplay chest bandA bandB mapOk => Sys2Proof.Machine.execMetadataReplay chest bandA bandB mapOk s
  | .startReady => Sys2Proof.Machine.execStartReady s
  | .watchdogService => Sys2Proof.Machine.execWatchdogService s
  | .watchdogExpire => Sys2Proof.Machine.execWatchdogExpire s
  | .nssr value => Sys2Proof.Machine.execNssr value s
  | .mfgStartRetry => Sys2Proof.Machine.execMfgStartRetry s
  | .pllLockLoss pll => Sys2Proof.Machine.execPllLockLoss pll s
  | .lockLossTimeout dom => Sys2Proof.Machine.execLockLossTimeout dom s
  | .blockResetRequest slot => Sys2Proof.Machine.execBlockResetRequest slot s
  | .idleAck slot => Sys2Proof.Machine.execIdleAck slot s
  | .idleAckTimeout slot => Sys2Proof.Machine.execIdleAckTimeout slot s
  | .blockResetRelease slot => Sys2Proof.Machine.execBlockResetRelease slot s
  | .blkRst value => Sys2Proof.Machine.execBlkRst value s
  | .perstNAssert => Sys2Proof.Machine.execPerstNAssert s
  | .perstNRelease => Sys2Proof.Machine.execPerstNRelease s
  | .ts1 port atController lane sb => Sys2Proof.Machine.execTs1 port atController lane sb s
  | .ts2 port atController lane sb => Sys2Proof.Machine.execTs2 port atController lane sb s
  | .aln port down lt => Sys2Proof.Machine.execAln port down lt s
  | .alnInterval port down lt => Sys2Proof.Machine.execAlnInterval port down lt s
  | .nak port atController seq => Sys2Proof.Machine.execNak port atController seq s
  | .wih act mask comp reason => Sys2Proof.Machine.execWih act mask comp reason s
  | .alm port source unitMask comp now => Sys2Proof.Machine.execAlm port source unitMask comp now s
  | .pfail => Sys2Proof.Machine.execPfail s
  | .lbx port => Sys2Proof.Machine.execLbx port s
  | .slp act => Sys2Proof.Machine.execSlp act s
  | .blockLockLost port down lane => Sys2Proof.Machine.execBlockLockLost port down lane s
  | .cellCrcFail port atController => Sys2Proof.Machine.execCellCrcFail port atController s
  | .idle port hdr => Sys2Proof.Machine.execIdle port hdr s
  | .wdata act unit last widx bits => Sys2Proof.Machine.execWdata act unit last widx bits s
  | .smpl act hdr unit flags sidx samples bits => Sys2Proof.Machine.execSmpl act hdr unit flags sidx samples bits s
  | .resp port hdr unit status opcode tag body => Sys2Proof.Machine.execResp port hdr unit status opcode tag body s
  | .mon act hdr m => Sys2Proof.Machine.execMon act hdr m s
  | .event port hdr code head detail time now => Sys2Proof.Machine.execEvent port hdr code head detail time now s
  | .setpt act wedge applyLt vcm ma0 ma1 lt => Sys2Proof.Machine.execSetpt act wedge applyLt vcm ma0 ma1 lt s
  | .mstat hdr m => Sys2Proof.Machine.execMstat hdr m s
  | .zc hdr entries now => Sys2Proof.Machine.execZc hdr entries now s
  | .elec hdr sample lt iU iV vU vV vW now => Sys2Proof.Machine.execElec hdr sample lt iU iV vU vV vW now s
  | .replayTimeout port => Sys2Proof.Machine.execReplayTimeout port s
  | .lane0Silence port => Sys2Proof.Machine.execLane0Silence port s
  | .linkRetrain port ok up dn now => Sys2Proof.Machine.execLinkRetrain port ok up dn now s
  | .linkTmoExpire => Sys2Proof.Machine.execLinkTmoExpire s
  | .retractDelayExpire => Sys2Proof.Machine.execRetractDelayExpire s
  | .wakeFromDormant act => Sys2Proof.Machine.execWakeFromDormant act s
  | .writeDriverStart act unit => Sys2Proof.Machine.execWriteDriverStart act unit s
  | .assistFaultStop act unit => Sys2Proof.Machine.execAssistFaultStop act unit s
  | .downlinkLossStop act => Sys2Proof.Machine.execDownlinkLossStop act s
  | .ezpolIdent act tag => Sys2Proof.Machine.execEzpolIdent act tag s
  | .ezpolConfig act tag monPeriod win => Sys2Proof.Machine.execEzpolConfig act tag monPeriod win s
  | .rate act unit tag baud => Sys2Proof.Machine.execRate act unit tag baud s
  | .headSel act unit tag head => Sys2Proof.Machine.execHeadSel act unit tag head s
  | .pathCtrl act unit tag onOff => Sys2Proof.Machine.execPathCtrl act unit tag onOff s
  | .writeArm act unit tag start phase precompOn length sidx => Sys2Proof.Machine.execWriteArm act unit tag start phase precompOn length sidx s
  | .writeCancel act unit tag => Sys2Proof.Machine.execWriteCancel act unit tag s
  | .biasSet act tag head bias writeCur heater => Sys2Proof.Machine.execBiasSet act tag head bias writeCur heater s
  | .precomp act unit tag entries => Sys2Proof.Machine.execPrecomp act unit tag entries s
  | .assistSet act tag head mode writeCur standby lead tail => Sys2Proof.Machine.execAssistSet act tag head mode writeCur standby lead tail s
  | .headTest act tag head reader writer volt result => Sys2Proof.Machine.execHeadTest act tag head reader writer volt result s
  | .ezpolLoop act tag depth => Sys2Proof.Machine.execEzpolLoop act tag depth s
  | .zhoselIdent tag => Sys2Proof.Machine.execZhoselIdent tag s
  | .zhoselConfig tag period tmo shock retract => Sys2Proof.Machine.execZhoselConfig tag period tmo shock retract s
  | .aux tag onOff => Sys2Proof.Machine.execAux tag onOff s
  | .spinMode tag mode samples limit => Sys2Proof.Machine.execSpinMode tag mode samples limit s
  | .spinTable tag base entries => Sys2Proof.Machine.execSpinTable tag base entries s
  | .spinDrive tag applyLt angle rate ampl lt => Sys2Proof.Machine.execSpinDrive tag applyLt angle rate ampl lt s
  | .vcmEn tag mask limA limB => Sys2Proof.Machine.execVcmEn tag mask limA limB s
  | .maSelect act tag idx0 idx1 => Sys2Proof.Machine.execMaSelect act tag idx0 idx1 s
  | .retract tag mask => Sys2Proof.Machine.execRetract tag mask s
  | .zhoselLoop tag depth rpm => Sys2Proof.Machine.execZhoselLoop tag depth rpm s
  | .spinDriveRefresh lt => Sys2Proof.Machine.execSpinDriveRefresh lt s
  | .speedDemandChange demand => Sys2Proof.Machine.execSpeedDemandChange demand s
  | .targetLower => Sys2Proof.Machine.execTargetLower s
  | .observationEnd => Sys2Proof.Machine.execObservationEnd s
  | .brakeBelow30rpm => Sys2Proof.Machine.execBrakeBelow30rpm s
  | .brakeTimeout => Sys2Proof.Machine.execBrakeTimeout s
  | .alignmentDone => Sys2Proof.Machine.execAlignmentDone s
  | .openLoopRampDone => Sys2Proof.Machine.execOpenLoopRampDone s
  | .handoverTimeout moved => Sys2Proof.Machine.execHandoverTimeout moved s
  | .jCoastEnd riseUs decel => Sys2Proof.Machine.execJCoastEnd riseUs decel s
  | .rotorRecoveryEnd forward now => Sys2Proof.Machine.execRotorRecoveryEnd forward now s
  | .spinUpTimeout => Sys2Proof.Machine.execSpinUpTimeout s
  | .spindleFaultRetry => Sys2Proof.Machine.execSpindleFaultRetry s
  | .servoWedge act u0 u1 inTime => Sys2Proof.Machine.execServoWedge act u0 u1 inTime s
  | .acquisitionTimeout act => Sys2Proof.Machine.execAcquisitionTimeout act s
  | .seek act t0 t1 => Sys2Proof.Machine.execSeek act t0 t1 s
  | .microSeek act unit head target => Sys2Proof.Machine.execMicroSeek act unit head target s
  | .headSwitch act unit head target => Sys2Proof.Machine.execHeadSwitch act unit head target s
  | .servoRevolution act e0 e1 mean => Sys2Proof.Machine.execServoRevolution act e0 e1 mean s
  | .calSave minutes => Sys2Proof.Machine.execCalSave minutes s
  | .shockQuietExpire act => Sys2Proof.Machine.execShockQuietExpire act s
  | .headLoad act lt => Sys2Proof.Machine.execHeadLoad act lt s
  | .loadPulseEnd act lt => Sys2Proof.Machine.execLoadPulseEnd act lt s
  | .loadAcquisitionTimeout act lt now => Sys2Proof.Machine.execLoadAcquisitionTimeout act lt now s
  | .unload act => Sys2Proof.Machine.execUnload act s
  | .mapBackgroundPass act head map => Sys2Proof.Machine.execMapBackgroundPass act head map s
  | .fsqRun n permits sectors fetches => Sys2Proof.Machine.execFsqRun n permits sectors fetches s
  | .missedRevolution n => Sys2Proof.Machine.execMissedRevolution n s
  | .runEnd n => Sys2Proof.Machine.execRunEnd n s
  | .decoderGrant => Sys2Proof.Machine.execDecoderGrant s
  | .decodeEnd engine zero iters payload crc trouble now => Sys2Proof.Machine.execDecodeEnd engine zero iters payload crc trouble now s
  | .retryStoreExpire ch tag sector => Sys2Proof.Machine.execRetryStoreExpire ch tag sector s
  | .referenceDecode good => Sys2Proof.Machine.execReferenceDecode good s
  | .assistCalDue head => Sys2Proof.Machine.execAssistCalDue head s
  | .assistCalibration head scores threshold signs temp monitor => Sys2Proof.Machine.execAssistCalibration head scores threshold signs temp monitor s
  | .stripeLaunch slot => Sys2Proof.Machine.execStripeLaunch slot s
  | .beginDurable slot => Sys2Proof.Machine.execBeginDurable slot s
  | .stripeOnMedia slot => Sys2Proof.Machine.execStripeOnMedia slot s
  | .commitDurable slot => Sys2Proof.Machine.execCommitDurable slot s
  | .journalChestWrite => Sys2Proof.Machine.execJournalChestWrite s
  | .journalBandFlush => Sys2Proof.Machine.execJournalBandFlush s
  | .metadataCheckpoint => Sys2Proof.Machine.execMetadataCheckpoint s
  | .journalBandMove act => Sys2Proof.Machine.execJournalBandMove act s
  | .headRetire head => Sys2Proof.Machine.execHeadRetire head s
  | .degradedRead fsn zone stripe rows afterFurther => Sys2Proof.Machine.execDegradedRead fsn zone stripe rows afterFurther s
  | .rebuildChunk zone lost => Sys2Proof.Machine.execRebuildChunk zone lost s
  | .relocation zone member => Sys2Proof.Machine.execRelocation zone member s
  | .reshape zone => Sys2Proof.Machine.execReshape zone s
  | .reshapeInPlaceChunk zone => Sys2Proof.Machine.execReshapeInPlaceChunk zone s
  | .backgroundErase dev => Sys2Proof.Machine.execBackgroundErase dev s
  | .backgroundEraseDone => Sys2Proof.Machine.execBackgroundEraseDone s
  | .memoryCorrection mem addr clientWrote byScrub => Sys2Proof.Machine.execMemoryCorrection mem addr clientWrote byScrub s
  | .bucketLeak mem => Sys2Proof.Machine.execBucketLeak mem s
  | .trackerAgeOut mem addr => Sys2Proof.Machine.execTrackerAgeOut mem addr s
  | .uncorrectableError mem addr reader region => Sys2Proof.Machine.execUncorrectableError mem addr reader region s
  | .scrubPassStart mem => Sys2Proof.Machine.execScrubPassStart mem s
  | .scrubPassEnd mem => Sys2Proof.Machine.execScrubPassEnd mem s
  | .startSram => Sys2Proof.Machine.execStartSram s
  | .startDram => Sys2Proof.Machine.execStartDram s
  | .flipArm value => Sys2Proof.Machine.execFlipArm value s
  | .refreshRatePoll rates => Sys2Proof.Machine.execRefreshRatePoll rates s
  | .writeAdmission fsn => Sys2Proof.Machine.execWriteAdmission fsn s
  | .descriptorStart n d pcieData => Sys2Proof.Machine.execDescriptorStart n d pcieData s
  | .descriptorDone n pcieErr => Sys2Proof.Machine.execDescriptorDone n pcieErr s
  | .kick n => Sys2Proof.Machine.execKick n s
  | .abort n => Sys2Proof.Machine.execAbort n s
  | .shadowLoad m d => Sys2Proof.Machine.execShadowLoad m d s
  | .streamSetEnd m => Sys2Proof.Machine.execStreamSetEnd m s
  | .eventLinePulse ev => Sys2Proof.Machine.execEventLinePulse ev s
  | .mediaCacheSlotTimeout slot => Sys2Proof.Machine.execMediaCacheSlotTimeout slot s
  | .indexLogBase => Sys2Proof.Machine.execIndexLogBase s
  | .cleaning => Sys2Proof.Machine.execCleaning s
  | .mergeSwitch zone target => Sys2Proof.Machine.execMergeSwitch zone target s
  | .mapCacheMiss unit write => Sys2Proof.Machine.execMapCacheMiss unit write s
  | .mapFillDone k => Sys2Proof.Machine.execMapFillDone k s
  | .mapWritebackDone line => Sys2Proof.Machine.execMapWritebackDone line s
  | .preload value => Sys2Proof.Machine.execPreload value s
  | .unlock value => Sys2Proof.Machine.execUnlock value s
  | .enable onOff => Sys2Proof.Machine.execEnable onOff s
  | .clean => Sys2Proof.Machine.execClean s
  | .sqTailDoorbell qid value => Sys2Proof.Machine.execSqTailDoorbell qid value s
  | .cqHeadDoorbell qid value => Sys2Proof.Machine.execCqHeadDoorbell qid value s
  | .commandFetch sqid e => Sys2Proof.Machine.execCommandFetch sqid e s
  | .readerSnapshot fsn => Sys2Proof.Machine.execReaderSnapshot fsn s
  | .writerCommit fsn current => Sys2Proof.Machine.execWriterCommit fsn current s
  | .completionPost fsn => Sys2Proof.Machine.execCompletionPost fsn s
  | .mediaDispatch ch access now => Sys2Proof.Machine.execMediaDispatch ch access now s
  | .deleteIoSubmissionQueue fsn => Sys2Proof.Machine.execDeleteIoSubmissionQueue fsn s
  | .createIoSubmissionQueue fsn => Sys2Proof.Machine.execCreateIoSubmissionQueue fsn s
  | .getLogPage fsn => Sys2Proof.Machine.execGetLogPage fsn s
  | .deleteIoCompletionQueue fsn => Sys2Proof.Machine.execDeleteIoCompletionQueue fsn s
  | .createIoCompletionQueue fsn => Sys2Proof.Machine.execCreateIoCompletionQueue fsn s
  | .identify fsn => Sys2Proof.Machine.execIdentify fsn s
  | .abortCommand fsn => Sys2Proof.Machine.execAbortCommand fsn s
  | .setFeatures fsn data => Sys2Proof.Machine.execSetFeatures fsn data s
  | .getFeatures fsn => Sys2Proof.Machine.execGetFeatures fsn s
  | .asynchronousEventRequest fsn => Sys2Proof.Machine.execAsynchronousEventRequest fsn s
  | .firmwareImageDownload fsn data => Sys2Proof.Machine.execFirmwareImageDownload fsn data s
  | .firmwareCommit fsn backFallback backPrimary => Sys2Proof.Machine.execFirmwareCommit fsn backFallback backPrimary s
  | .shortSelfTest fsn => Sys2Proof.Machine.execShortSelfTest fsn s
  | .extendedSelfTest fsn => Sys2Proof.Machine.execExtendedSelfTest fsn s
  | .selfTestAbort fsn => Sys2Proof.Machine.execSelfTestAbort fsn s
  | .formatNvm fsn => Sys2Proof.Machine.execFormatNvm fsn s
  | .exitFailureMode fsn => Sys2Proof.Machine.execExitFailureMode fsn s
  | .overwrite fsn => Sys2Proof.Machine.execOverwrite fsn s
  | .overwriteZone => Sys2Proof.Machine.execOverwriteZone s
  | .cryptographicErase fsn => Sys2Proof.Machine.execCryptographicErase fsn s
  | .sanitizeResume => Sys2Proof.Machine.execSanitizeResume s
  | .flush fsn => Sys2Proof.Machine.execFlush fsn s
  | .write fsn data xfer => Sys2Proof.Machine.execWrite fsn data xfer s
  | .read fsn media xfer => Sys2Proof.Machine.execRead fsn media xfer s
  | .writeZeroes fsn => Sys2Proof.Machine.execWriteZeroes fsn s
  | .datasetManagement fsn ranges xfer => Sys2Proof.Machine.execDatasetManagement fsn ranges xfer s
  | .verify fsn media => Sys2Proof.Machine.execVerify fsn media s
  | .zoneOpen fsn => Sys2Proof.Machine.execZoneOpen fsn s
  | .zoneClose fsn => Sys2Proof.Machine.execZoneClose fsn s
  | .zoneFinish fsn => Sys2Proof.Machine.execZoneFinish fsn s
  | .zoneReset fsn => Sys2Proof.Machine.execZoneReset fsn s
  | .zoneManagementReceive fsn => Sys2Proof.Machine.execZoneManagementReceive fsn s
  | .zoneAppend fsn data xfer => Sys2Proof.Machine.execZoneAppend fsn data xfer s
  | .scan fsn => Sys2Proof.Machine.execScan fsn s
  | .peerOut fsn => Sys2Proof.Machine.execPeerOut fsn s
  | .peerIn fsn => Sys2Proof.Machine.execPeerIn fsn s
  | .vendorPiece fsn blocks xfer => Sys2Proof.Machine.execVendorPiece fsn blocks xfer s
  | .ccEnSet cc => Sys2Proof.Machine.execCcEnSet cc s
  | .controllerReset cc => Sys2Proof.Machine.execControllerReset cc s
  | .shutdown cc => Sys2Proof.Machine.execShutdown cc s
  | .intms value => Sys2Proof.Machine.execIntms value s
  | .intmc value => Sys2Proof.Machine.execIntmc value s
  | .hotReset => Sys2Proof.Machine.execHotReset s
  | .pcieLinkDown => Sys2Proof.Machine.execPcieLinkDown s
  | .functionLevelReset => Sys2Proof.Machine.execFunctionLevelReset s
  | .pmeTurnOff => Sys2Proof.Machine.execPmeTurnOff s
  | .d3hotEntry => Sys2Proof.Machine.execD3hotEntry s
  | .d3hotExit => Sys2Proof.Machine.execD3hotExit s
  | .aspmL1Entry => Sys2Proof.Machine.execAspmL1Entry s
  | .pcieError e => Sys2Proof.Machine.execPcieError e s
  | .memoryWindowWrite off data => Sys2Proof.Machine.execMemoryWindowWrite off data s
  | .memoryWindowRead off len => Sys2Proof.Machine.execMemoryWindowRead off len s
  | .doeRequest vendor typ payload => Sys2Proof.Machine.execDoeRequest vendor typ payload s
  | .doeAbort => Sys2Proof.Machine.execDoeAbort s
  | .getVersion => Sys2Proof.Machine.execGetVersion s
  | .getCapabilities version => Sys2Proof.Machine.execGetCapabilities version s
  | .negotiateAlgorithms asym hash measSpec => Sys2Proof.Machine.execNegotiateAlgorithms asym hash measSpec s
  | .getDigests => Sys2Proof.Machine.execGetDigests s
  | .getCertificate slot offset length => Sys2Proof.Machine.execGetCertificate slot offset length s
  | .challenge slot hashType nonce => Sys2Proof.Machine.execChallenge slot hashType nonce s
  | .getMeasurements param1 param2 nonce slot => Sys2Proof.Machine.execGetMeasurements param1 param2 nonce slot s
  | .idleTimerPs1 => Sys2Proof.Machine.execIdleTimerPs1 s
  | .idleTimerPs2 => Sys2Proof.Machine.execIdleTimerPs2 s
  | .apstTimer => Sys2Proof.Machine.execApstTimer s
  | .ps3Entry => Sys2Proof.Machine.execPs3Entry s
  | .ps4Entry => Sys2Proof.Machine.execPs4Entry s
  | .ps3Exit => Sys2Proof.Machine.execPs3Exit s
  | .ps4Exit => Sys2Proof.Machine.execPs4Exit s
  | .thermalSample r0 r1 r2 r3 => Sys2Proof.Machine.execThermalSample r0 r1 r2 r3 s
  | .chainCommit leafHasDk signaturesOk rootOk => Sys2Proof.Machine.execChainCommit leafHasDk signaturesOk rootOk s
  | .credenzaPersist => Sys2Proof.Machine.execCredenzaPersist s
  | .minuteTick => Sys2Proof.Machine.execMinuteTick s
  | .crdClear => Sys2Proof.Machine.execCrdClear s
  | .persist => Sys2Proof.Machine.execPersist s
  | .burnDs ok => Sys2Proof.Machine.execBurnDs ok s
  | .programKeySlot index ok => Sys2Proof.Machine.execProgramKeySlot index ok s
  | .revokeKeySlot index ok => Sys2Proof.Machine.execRevokeKeySlot index ok s
  | .revokeHoltaleKey index ok => Sys2Proof.Machine.execRevokeHoltaleKey index ok s
  | .hold => Sys2Proof.Machine.execHold s
  | .tstLoopback value => Sys2Proof.Machine.execTstLoopback value s
  | .elkLoopback port value => Sys2Proof.Machine.execElkLoopback port value s
  | .hptLoopback value => Sys2Proof.Machine.execHptLoopback value s
  | .loopbackDone unit errors => Sys2Proof.Machine.execLoopbackDone unit errors s
  | .nstread => Sys2Proof.Machine.execNstread s
  | .apertureAccess off size value => Sys2Proof.Machine.execApertureAccess off size value s
  | .registerWrite space off value => Sys2Proof.Machine.execRegisterWrite space off value s
  | .powerLoss => Sys2Proof.Machine.execPowerLoss s
  | .pcieLinkUp speed width => Sys2Proof.Machine.execPcieLinkUp speed width s
  | .aspmL1Exit => Sys2Proof.Machine.execAspmL1Exit s
  | .interruptCoalescingTime qid => Sys2Proof.Machine.execInterruptCoalescingTime qid s
  | .dramSelfRefreshIdle => Sys2Proof.Machine.execDramSelfRefreshIdle s
  | .loopbackFollower => Sys2Proof.Machine.execLoopbackFollower s
  | .extest drive sample => Sys2Proof.Machine.execExtest drive sample s

end Sys2Proof.Machine
end

