-- ==== Sys2Proof/Machine/Step.lean ====
section
/-!
DEFINITION. One step of the block: the command at the front of the queue is run with the queue's rest; an empty queue
idles (assumption 1).
-/

namespace Sys2Proof.Machine

/-- A state with the command that a word spells at the front of its queue. -/
def State.withFetchWord (s : State) (nbits w : Nat) : State :=
  match decodeTableWord nbits w with
  | some i => { s with pending := i :: s.pending }
  | none => s

/-- One step: the front command's meaning on the state with the queue's rest; nothing to do on an empty queue. -/
def step (s : State) : Host.Outcome State Fault Refusal :=
  match s.pending with
  | [] => .next s
  | i :: t => exec i { s with pending := t }

end Sys2Proof.Machine
end

