-- ==== Sys2Proof/Safety.lean ====
section
/-!
DEFINITION. What counts as a sound state and a safe run: the canonical form of the register file and of the two memories, the
fixed numbers of sequencers and channels, the order in which fuses burn, and the parts of the state that each command can touch.
-/

namespace Sys2Proof.Machine

/-- A register file in canonical form: addresses strictly rising, no entry that equals the register's reset word. -/
def RegFile.wf (r : RegFile) : Bool := Sparse.wf Reg.resetWord r

/-- The cells of a memory in canonical form: addresses strictly rising, no entry that equals what an unlisted cell reads. -/
def Memory.wf (c : List Host.Cell) : Bool := Sparse.wf cellDefault c

/-- A sound state: registers, SRAM and DRAM are in canonical form, and there are four format sequencers and four
read/write channels, one of each per head channel (07_fsq.md, 08_rwc.md). -/
structure State.Sound (s : State) : Prop where
  regs : s.regs.wf = true
  sram : Memory.wf s.buf.sram = true
  dram : Memory.wf s.buf.dram = true
  fsqs : s.fsqs.length = 4
  rwcs : s.rwcs.length = 4

/-- One key slot of the fuses has only burned further: what is programmed or revoked stays so (R484). -/
def KeySlot.le (k l : KeySlot) : Bool := (!k.prog || (l.prog && l.digest == k.digest)) && (!k.revoked || l.revoked)

/-- The fuses have only burned further: security versions do not fall, and no programmed, revoked or burned fuse is undone. -/
structure Fuses.Le (f g : Fuses) : Prop where
  oem  : f.oemSvn ≤ g.oemSvn
  ht   : f.htSvn ≤ g.htSvn
  keys : ∀ (i : Nat) (k : KeySlot), f.keys[i]? = some k → ∃ l, g.keys[i]? = some l ∧ k.le l = true
  hrev : ∀ i : Nat, f.htRevoked[i]? = some true → g.htRevoked[i]? = some true
  ds   : f.dsBurned = true → g.dsBurned = true

/-- An outcome that goes on, in a state of which `P` holds. -/
def Goes (o : Host.Outcome State Fault Refusal) (P : State → Prop) : Prop := ∃ t, o = .next t ∧ P t

/-- Whatever state an outcome goes on in, `P` holds of it. -/
def Keeps (o : Host.Outcome State Fault Refusal) (P : State → Prop) : Prop := ∀ t, o = .next t → P t

/-- Two fields that share no bit. -/
def Fld.apart (f g : Fld) : Bool :=
  decide (f.key ≠ g.key) || decide (f.lo + f.width ≤ g.lo) || decide (g.lo + g.width ≤ f.lo)

/-- Every register field that shares no bit with the named ones reads as before. -/
def OnlyFields (fs : List Fld) (s t : State) : Prop := ∀ g : Fld, (∀ f ∈ fs, f.apart g = true) → t.get g = s.get g

/-! ### What a command over a link leaves (R103, R108). -/

/-- The partner chip of a port has queued the answer to a command (R103): a RESP with UNIT, STATUS, OPCODE, TAG and body. -/
def Answered (t : State) (p : Port) (unit status opcode : Nat) (tag : Byte) (body : Bytes) : Prop :=
  ∃ c : Cell, c ∈ (t.link p).par.replay.map Prod.fst ++ (t.link p).par.waiting ∧ c.typ = 0x11 ∧ c.unit = unit ∧
    c.flags = status ∧ c.param = BitVec.ofNat 16 (opcode + 256 * tag.toNat) ∧ c.body = body

/-- What a command that one front end executes leaves: the other front end and the links of the other ports. -/
structure OnlyFrontEnd (x : Act) (s t : State) : Prop where
  other : ∀ y : Act, y ≠ x → t.fe y = s.fe y
  links : ∀ p : Port, p ≠ x.port → t.link p = s.link p

/-! ### What a command can touch. -/

/-- The parts of a state: the registers of one slot (R13), all registers, and every other field of `State` but the queue, which no
command touches. -/
inductive Part where
  | regs
  | slot (n : Nat)
  | pins | start | cfg | plat | opt | fw | patches | fuses | nor | ident | linkA | linkB | linkZ | feA | feB | motion | rep
  | spin | servoA | servoB | tables | fsqs | rwcs | media | defects | stripe | chest | core | buf | dma | zmu | cqu | hpt
  | power | bur | crd | tst | freeCount
  deriving DecidableEq, Repr

/-- A part is among those named; all registers include those of each slot. -/
def Part.of (ps : List Part) (p : Part) : Bool :=
  ps.contains p || (match p with | .slot _ => ps.contains .regs | _ => false)

/-- State `t` differs from `s` in the named parts only: every register of every other slot reads as before, every other field is
what it was, and so is the queue. -/
structure Only (ps : List Part) (s t : State) : Prop where
  regs : ∀ k, Part.of ps (.slot (k / 0x10000)) = false → t.regs.word k = s.regs.word k
  pins : Part.of ps .pins = false → t.pins = s.pins
  start : Part.of ps .start = false → t.start = s.start
  cfg : Part.of ps .cfg = false → t.cfg = s.cfg
  plat : Part.of ps .plat = false → t.plat = s.plat
  opt : Part.of ps .opt = false → t.opt = s.opt
  fw : Part.of ps .fw = false → t.fw = s.fw
  patches : Part.of ps .patches = false → t.patches = s.patches
  fuses : Part.of ps .fuses = false → t.fuses = s.fuses
  nor : Part.of ps .nor = false → t.nor = s.nor
  ident : Part.of ps .ident = false → t.ident = s.ident
  linkA : Part.of ps .linkA = false → t.linkA = s.linkA
  linkB : Part.of ps .linkB = false → t.linkB = s.linkB
  linkZ : Part.of ps .linkZ = false → t.linkZ = s.linkZ
  feA : Part.of ps .feA = false → t.feA = s.feA
  feB : Part.of ps .feB = false → t.feB = s.feB
  motion : Part.of ps .motion = false → t.motion = s.motion
  rep : Part.of ps .rep = false → t.rep = s.rep
  spin : Part.of ps .spin = false → t.spin = s.spin
  servoA : Part.of ps .servoA = false → t.servoA = s.servoA
  servoB : Part.of ps .servoB = false → t.servoB = s.servoB
  tables : Part.of ps .tables = false → t.tables = s.tables
  fsqs : Part.of ps .fsqs = false → t.fsqs = s.fsqs
  rwcs : Part.of ps .rwcs = false → t.rwcs = s.rwcs
  media : Part.of ps .media = false → t.media = s.media
  defects : Part.of ps .defects = false → t.defects = s.defects
  stripe : Part.of ps .stripe = false → t.stripe = s.stripe
  chest : Part.of ps .chest = false → t.chest = s.chest
  core : Part.of ps .core = false → t.core = s.core
  buf : Part.of ps .buf = false → t.buf = s.buf
  dma : Part.of ps .dma = false → t.dma = s.dma
  zmu : Part.of ps .zmu = false → t.zmu = s.zmu
  cqu : Part.of ps .cqu = false → t.cqu = s.cqu
  hpt : Part.of ps .hpt = false → t.hpt = s.hpt
  power : Part.of ps .power = false → t.power = s.power
  bur : Part.of ps .bur = false → t.bur = s.bur
  crd : Part.of ps .crd = false → t.crd = s.crd
  tst : Part.of ps .tst = false → t.tst = s.tst
  freeCount : Part.of ps .freeCount = false → t.freeCount = s.freeCount
  pending : t.pending = s.pending

end Sys2Proof.Machine

namespace Sys2Proof

open Machine in
/-- What a command can touch: the parts it may leave different in any state, whatever its operands. -/
def Instr.reach (c : Instr) : List Part :=
  match c with
  | .powerOn .. | .vddCoreOff | .nssr .. | .powerLoss =>
    [.regs, .pins, .start, .cfg, .plat, .opt, .fw, .patches, .nor, .ident, .linkA, .linkB, .linkZ, .feA, .feB, .motion, .rep,
      .spin, .servoA, .servoB, .tables, .fsqs, .rwcs, .media, .stripe, .chest, .buf, .dma, .zmu, .cqu, .hpt, .power, .bur,
      .crd, .tst, .freeCount]
  | .sysrstNLow =>
    [.pins, .linkA, .linkB, .linkZ, .feA, .feB]
  | .sysrstNHigh =>
    [.pins, .feA, .feB, .motion]
  | .sysrstRecognised | .watchdogExpire | .mfgStartRetry | .pllLockLoss .. | .lockLossTimeout .. =>
    [.regs, .pins, .start, .cfg, .plat, .opt, .fw, .patches, .nor, .ident, .linkA, .linkB, .linkZ, .feA, .feB, .motion, .rep,
      .spin, .servoA, .servoB, .tables, .fsqs, .rwcs, .media, .stripe, .chest, .buf, .dma, .zmu, .cqu, .hpt, .power, .bur,
      .crd, .tst]
  | .holdupSaveDone .. =>
    [.start, .chest, .zmu, .freeCount, .slot 0x1]
  | .resetStretchEnd =>
    [.pins, .start, .feA, .feB, .motion, .stripe, .buf, .dma, .crd]
  | .internalResetRelease .. =>
    [.regs, .start, .cqu]
  | .oscSettled =>
    [.start, .slot 0x0, .slot 0x1]
  | .clkGood .. | .blockResetRelease .. =>
    [.regs, .start, .linkA, .linkB, .linkZ, .spin, .buf, .hpt]
  | .clkGoodTimeout .. =>
    [.start, .cqu, .slot 0x0, .slot 0x1, .slot 0x2]
  | .optionCopyCheck .. =>
    [.start, .cfg, .plat, .opt, .cqu, .slot 0x0, .slot 0x1, .slot 0x2, .slot 0x6, .slot 0x8, .slot 0xB, .slot 0xC, .slot 0xE,
      .slot 0x10, .slot 0x12, .slot 0x14]
  | .pcieLinkTrainStart =>
    [.hpt]
  | .sramSelfTestDone .. =>
    [.start, .buf, .cqu, .slot 0x1]
  | .firmwareCopyCheck .. =>
    [.start, .fw, .patches, .slot 0x1, .slot 0x2, .slot 0x10]
  | .firmwareLoadDone .. =>
    [.start, .chest, .cqu, .bur, .crd, .slot 0x1, .slot 0x3, .slot 0x9]
  | .dramTrainingDone .. =>
    [.start, .linkA, .linkB, .linkZ, .buf, .cqu, .freeCount, .slot 0x1, .slot 0xB, .slot 0x16, .slot 0x17]
  | .zhoselLinkUp .. =>
    [.start, .linkA, .linkB, .linkZ, .slot 0x16, .slot 0x17]
  | .zhoselTrainTimeout =>
    [.start, .linkA, .linkB, .linkZ, .rep, .cqu, .slot 0x1, .slot 0x9, .slot 0x16, .slot 0x17]
  | .ezpolLinkUp .. =>
    [.start, .linkA, .linkB, .linkZ, .fsqs, .rwcs, .cqu, .crd, .slot 0x9, .slot 0x11, .slot 0x14, .slot 0x16, .slot 0x17]
  | .ezpolTrainTimeout .. =>
    [.start, .linkA, .linkB, .linkZ, .rep, .spin, .cqu, .bur, .slot 0x1, .slot 0x3, .slot 0x9, .slot 0x15, .slot 0x16,
      .slot 0x17]
  | .identityRead .. =>
    [.start, .ident, .linkA, .linkB, .linkZ, .spin, .media, .stripe, .cqu, .bur, .crd, .slot 0x1, .slot 0x3, .slot 0x9,
      .slot 0x15, .slot 0x16, .slot 0x17]
  | .backgroundIdentityRead .. =>
    [.ident]
  | .servoCalibration .. =>
    [.start, .linkA, .linkB, .linkZ, .tables, .rwcs, .media, .stripe, .cqu, .crd, .slot 0x1, .slot 0x9, .slot 0x11, .slot 0x14]
  | .assistCheck .. =>
    [.media, .slot 0x1]
  | .metadataReplay .. =>
    [.start, .media, .stripe, .chest, .core, .buf, .dma, .zmu, .cqu, .hpt, .bur, .crd, .slot 0x1, .slot 0x4, .slot 0x8,
      .slot 0x9, .slot 0xD, .slot 0xE]
  | .startReady =>
    [.fuses, .chest, .cqu, .bur, .slot 0x1, .slot 0x2, .slot 0x3]
  | .watchdogService =>
    []
  | .blockResetRequest .. | .hotReset =>
    [.start, .hpt, .slot 0x8]
  | .idleAck .. | .idleAckTimeout .. =>
    [.start, .rep, .spin, .servoA, .servoB, .fsqs, .rwcs, .media, .stripe, .buf, .dma, .zmu, .cqu, .hpt, .crd, .slot 0x0,
      .slot 0x8, .slot 0x9, .slot 0xD, .slot 0x10, .slot 0x18]
  | .blkRst .. =>
    [.start, .hpt, .slot 0x0, .slot 0x8]
  | .perstNAssert =>
    [.pins, .start, .hpt, .slot 0x8]
  | .perstNRelease | .nstread | .extest .. =>
    [.pins]
  | .ts1 .. | .ts2 .. =>
    [.linkA, .linkB, .linkZ, .slot 0x16, .slot 0x17]
  | .aln .. =>
    [.linkA, .linkB, .linkZ, .motion]
  | .alnInterval .. | .idle .. =>
    [.linkA, .linkB, .linkZ]
  | .nak .. | .replayTimeout .. =>
    [.linkA, .linkB, .linkZ, .rep, .cqu, .crd, .slot 0x9, .slot 0x16, .slot 0x17]
  | .wih .. | .wdata .. | .writeDriverStart .. | .assistFaultStop .. | .ezpolIdent .. | .ezpolConfig .. | .rate ..
  | .headSel .. | .pathCtrl .. | .writeArm .. | .writeCancel .. | .biasSet .. | .precomp .. | .assistSet ..
  | .headTest .. | .ezpolLoop .. =>
    [.linkA, .linkB, .linkZ, .feA, .feB]
  | .alm .. =>
    [.linkA, .linkB, .linkZ, .rep, .servoA, .servoB, .fsqs, .media, .cqu, .crd, .freeCount, .slot 0x9, .slot 0x13, .slot 0x14]
  | .pfail =>
    [.linkA, .linkB, .linkZ, .motion, .rep, .servoA, .servoB, .fsqs, .stripe, .chest, .buf, .dma, .cqu, .crd, .freeCount,
      .slot 0x4, .slot 0x9, .slot 0x14]
  | .lbx .. | .setpt .. | .zhoselIdent .. | .zhoselConfig .. | .aux .. | .spinMode .. | .spinTable .. | .spinDrive ..
  | .vcmEn .. | .maSelect .. | .retract .. | .zhoselLoop .. =>
    [.linkA, .linkB, .linkZ, .feA, .feB, .motion]
  | .slp .. | .wakeFromDormant .. =>
    [.linkA, .linkB, .linkZ, .feA, .feB, .slot 0x16, .slot 0x17]
  | .blockLockLost .. | .lane0Silence .. =>
    [.rep, .cqu, .crd, .slot 0x9, .slot 0x16, .slot 0x17]
  | .cellCrcFail .. =>
    [.linkA, .linkB, .linkZ, .cqu, .crd, .slot 0x9, .slot 0x16, .slot 0x17]
  | .smpl .. =>
    [.linkA, .linkB, .linkZ, .rwcs, .slot 0x11]
  | .resp .. =>
    [.start, .ident, .linkA, .linkB, .linkZ, .media, .stripe, .cqu, .crd, .freeCount, .slot 0x1, .slot 0x9, .slot 0x15,
      .slot 0x16, .slot 0x17]
  | .mon .. =>
    [.linkA, .linkB, .linkZ, .rep, .media, .slot 0x13]
  | .event .. =>
    [.start, .linkA, .linkB, .linkZ, .rep, .spin, .servoA, .servoB, .fsqs, .media, .stripe, .buf, .cqu, .crd, .freeCount,
      .slot 0x1, .slot 0x9, .slot 0x13, .slot 0x14, .slot 0x15]
  | .mstat .. =>
    [.linkA, .linkB, .linkZ, .rep, .servoA, .servoB, .fsqs, .cqu, .crd, .slot 0x9, .slot 0x14]
  | .zc .. | .rotorRecoveryEnd .. =>
    [.linkA, .linkB, .linkZ, .rep, .spin, .servoA, .servoB, .fsqs, .cqu, .crd, .freeCount, .slot 0x9, .slot 0x14, .slot 0x15]
  | .elec .. | .brakeTimeout | .handoverTimeout .. | .spinUpTimeout =>
    [.start, .linkA, .linkB, .linkZ, .rep, .spin, .servoA, .servoB, .fsqs, .buf, .cqu, .crd, .freeCount, .slot 0x1,
      .slot 0x9, .slot 0x14, .slot 0x15]
  | .linkRetrain .. =>
    [.linkA, .linkB, .linkZ, .rep, .spin, .servoA, .servoB, .fsqs, .rwcs, .cqu, .crd, .slot 0x9, .slot 0x11, .slot 0x14,
      .slot 0x16, .slot 0x17]
  | .linkTmoExpire | .retractDelayExpire =>
    [.motion]
  | .downlinkLossStop .. =>
    [.feA, .feB]
  | .spinDriveRefresh .. =>
    [.linkA, .linkB, .linkZ, .spin]
  | .speedDemandChange .. | .brakeBelow30rpm =>
    [.linkA, .linkB, .linkZ, .spin, .buf, .slot 0x15]
  | .targetLower | .observationEnd | .spindleFaultRetry =>
    [.linkA, .linkB, .linkZ, .spin, .slot 0x15]
  | .alignmentDone =>
    [.spin, .slot 0x15]
  | .openLoopRampDone =>
    [.spin]
  | .jCoastEnd .. =>
    [.spin, .buf, .slot 0x1, .slot 0x15]
  | .servoWedge .. =>
    [.linkA, .linkB, .linkZ, .rep, .servoA, .servoB, .fsqs, .rwcs, .media, .stripe, .cqu, .crd, .freeCount, .slot 0x9,
      .slot 0x11, .slot 0x14]
  | .acquisitionTimeout .. | .unload .. =>
    [.linkA, .linkB, .linkZ, .rep, .servoA, .servoB, .fsqs, .freeCount, .slot 0x14]
  | .seek .. | .microSeek .. | .headSwitch .. =>
    [.linkA, .linkB, .linkZ, .servoA, .servoB, .rwcs, .slot 0x14]
  | .servoRevolution .. =>
    [.servoA, .servoB, .tables, .slot 0x14]
  | .calSave .. =>
    [.tables, .media, .slot 0x14]
  | .shockQuietExpire .. =>
    [.servoA, .servoB]
  | .headLoad .. =>
    [.linkA, .linkB, .linkZ, .servoA, .servoB, .rwcs, .slot 0x11, .slot 0x14]
  | .loadPulseEnd .. =>
    [.linkA, .linkB, .linkZ, .servoA, .servoB]
  | .loadAcquisitionTimeout .. =>
    [.start, .linkA, .linkB, .linkZ, .rep, .servoA, .servoB, .fsqs, .rwcs, .cqu, .crd, .freeCount, .slot 0x1, .slot 0x9,
      .slot 0x11, .slot 0x14]
  | .mapBackgroundPass .. =>
    [.tables, .slot 0x14]
  | .fsqRun .. =>
    [.linkA, .linkB, .linkZ, .rep, .servoA, .servoB, .fsqs, .rwcs, .media, .stripe, .buf, .dma, .cqu, .crd, .freeCount,
      .slot 0x9, .slot 0xC, .slot 0xD, .slot 0x10, .slot 0x11, .slot 0x13, .slot 0x14]
  | .missedRevolution .. =>
    [.slot 0x10]
  | .runEnd .. =>
    [.rep, .servoA, .servoB, .fsqs, .media, .dma, .cqu, .crd, .slot 0x9, .slot 0xD, .slot 0x10, .slot 0x11]
  | .decoderGrant | .assistCalDue .. =>
    [.media]
  | .decodeEnd .. =>
    [.linkA, .linkB, .linkZ, .fsqs, .rwcs, .media, .stripe, .buf, .dma, .cqu, .hpt, .crd, .slot 0x8, .slot 0x9, .slot 0xC,
      .slot 0xD, .slot 0x10, .slot 0x11, .slot 0x12, .slot 0x14]
  | .retryStoreExpire .. =>
    [.media, .stripe, .cqu, .crd, .slot 0x9, .slot 0x10, .slot 0x12]
  | .referenceDecode .. =>
    [.media, .cqu, .crd, .slot 0x9, .slot 0x12]
  | .assistCalibration .. =>
    [.rwcs, .media, .stripe, .cqu, .crd, .slot 0x9, .slot 0x13]
  | .stripeLaunch .. =>
    [.stripe, .dma, .slot 0xD]
  | .beginDurable .. =>
    [.stripe, .cqu]
  | .stripeOnMedia .. =>
    [.stripe, .dma, .zmu, .cqu, .crd, .slot 0x9, .slot 0xD, .slot 0xE]
  | .commitDurable .. | .completionPost .. =>
    [.stripe, .chest, .core, .buf, .dma, .zmu, .cqu, .hpt, .bur, .crd, .slot 0x4, .slot 0x8, .slot 0x9, .slot 0xD]
  | .journalChestWrite | .journalBandFlush | .journalBandMove .. | .relocation .. =>
    [.stripe]
  | .metadataCheckpoint =>
    [.stripe, .core, .zmu]
  | .headRetire .. =>
    [.media, .stripe, .cqu, .crd, .slot 0x9]
  | .degradedRead .. =>
    [.media, .stripe, .dma, .cqu, .crd, .slot 0x9, .slot 0xD, .slot 0xE]
  | .rebuildChunk .. | .reshapeInPlaceChunk .. =>
    [.stripe, .dma, .cqu, .crd, .slot 0x9, .slot 0xD, .slot 0xE]
  | .reshape .. =>
    [.stripe, .cqu, .crd, .slot 0x9, .slot 0xE]
  | .backgroundErase .. | .backgroundEraseDone =>
    [.chest]
  | .memoryCorrection .. =>
    [.buf, .cqu, .crd, .slot 0x9, .slot 0xC]
  | .bucketLeak .. | .flipArm .. =>
    [.slot 0xC]
  | .trackerAgeOut .. | .scrubPassStart .. | .startSram | .startDram | .refreshRatePoll .. | .dramSelfRefreshIdle =>
    [.buf]
  | .uncorrectableError .. =>
    [.start, .media, .stripe, .chest, .buf, .dma, .cqu, .hpt, .crd, .slot 0x8, .slot 0x9, .slot 0xC, .slot 0xD, .slot 0x10]
  | .scrubPassEnd .. =>
    [.buf, .cqu, .slot 0xC]
  | .writeAdmission .. | .createIoSubmissionQueue .. | .deleteIoCompletionQueue .. | .createIoCompletionQueue ..
  | .asynchronousEventRequest .. =>
    [.cqu, .slot 0x9]
  | .descriptorStart .. | .eventLinePulse .. =>
    [.dma]
  | .descriptorDone .. | .abort .. =>
    [.buf, .dma, .cqu, .hpt, .crd, .freeCount, .slot 0x8, .slot 0x9, .slot 0xC, .slot 0xD]
  | .kick .. | .shadowLoad .. =>
    [.dma, .slot 0xD]
  | .streamSetEnd .. =>
    [.buf, .dma, .cqu, .hpt, .crd, .slot 0x8, .slot 0x9, .slot 0xC, .slot 0xD]
  | .mediaCacheSlotTimeout .. =>
    [.stripe, .buf, .dma, .zmu, .slot 0xD]
  | .indexLogBase =>
    [.zmu]
  | .cleaning | .mapCacheMiss .. | .mapFillDone .. | .mapWritebackDone .. | .preload .. | .unlock .. | .enable ..
  | .clean =>
    [.zmu, .slot 0xA]
  | .mergeSwitch .. =>
    [.stripe, .zmu, .slot 0xA]
  | .sqTailDoorbell .. | .cqHeadDoorbell .. | .ccEnSet .. | .intms .. | .intmc .. =>
    [.cqu, .hpt, .freeCount, .slot 0x8]
  | .commandFetch .. =>
    [.cqu, .hpt, .power, .slot 0x0, .slot 0x8, .slot 0x9, .slot 0x19]
  | .readerSnapshot .. =>
    [.stripe, .buf, .dma, .zmu, .cqu, .slot 0xD]
  | .writerCommit .. | .writeZeroes .. | .datasetManagement .. | .zoneOpen .. | .zoneClose .. | .zoneFinish ..
  | .zoneReset .. =>
    [.stripe, .buf, .dma, .zmu, .cqu, .hpt, .bur, .crd, .slot 0x8, .slot 0x9, .slot 0xD, .slot 0xE]
  | .mediaDispatch .. =>
    [.fsqs, .dma, .cqu, .slot 0xD, .slot 0xF]
  | .deleteIoSubmissionQueue .. | .abortCommand .. =>
    [.stripe, .cqu, .slot 0x9, .slot 0x18]
  | .getLogPage .. =>
    [.buf, .cqu, .hpt, .freeCount, .slot 0x8, .slot 0x9, .slot 0xC]
  | .identify .. | .getFeatures .. | .zoneManagementReceive .. =>
    [.buf, .cqu, .hpt, .slot 0x8, .slot 0x9, .slot 0xC]
  | .setFeatures .. =>
    [.stripe, .buf, .dma, .zmu, .cqu, .power, .slot 0x0, .slot 0x9, .slot 0xD]
  | .firmwareImageDownload .. | .firmwareCommit .. =>
    [.nor, .cqu, .slot 0x9]
  | .shortSelfTest .. =>
    [.buf, .cqu, .power, .slot 0x0, .slot 0x9]
  | .extendedSelfTest .. | .selfTestAbort .. =>
    [.cqu, .power, .slot 0x0, .slot 0x9]
  | .formatNvm .. | .overwrite .. | .cryptographicErase .. | .sanitizeResume =>
    [.stripe, .chest, .core, .buf, .zmu, .cqu, .hpt, .power, .bur, .crd, .freeCount, .slot 0x0, .slot 0x8, .slot 0x9,
      .slot 0xE]
  | .exitFailureMode .. =>
    [.chest, .cqu, .power, .bur, .slot 0x0, .slot 0x9]
  | .overwriteZone =>
    [.chest, .cqu, .bur, .slot 0x9]
  | .flush .. =>
    [.stripe, .buf, .dma, .zmu, .cqu, .slot 0x9, .slot 0xD]
  | .write .. | .zoneAppend .. =>
    [.cqu, .hpt, .crd, .slot 0x8, .slot 0x9]
  | .read .. =>
    [.buf, .cqu, .hpt, .crd, .slot 0x8, .slot 0x9, .slot 0xC]
  | .verify .. =>
    [.buf, .cqu, .crd, .slot 0x9]
  | .scan .. =>
    [.cqu, .slot 0x9, .slot 0x18]
  | .peerOut .. | .peerIn .. =>
    [.cqu, .slot 0x9, .slot 0xD]
  | .vendorPiece .. =>
    [.stripe, .buf, .dma, .zmu, .cqu, .hpt, .bur, .crd, .slot 0x8, .slot 0x9, .slot 0xC, .slot 0xD, .slot 0x18, .slot 0x19]
  | .controllerReset .. =>
    [.stripe, .buf, .cqu, .hpt, .freeCount, .slot 0x0, .slot 0x8, .slot 0x18]
  | .shutdown .. =>
    [.stripe, .chest, .core, .buf, .dma, .zmu, .cqu, .hpt, .crd, .freeCount, .slot 0x4, .slot 0x8, .slot 0xD]
  | .pcieLinkDown | .loopbackFollower =>
    [.start, .cqu, .hpt, .crd, .slot 0x8, .slot 0x9]
  | .functionLevelReset =>
    [.start, .slot 0x8]
  | .pmeTurnOff | .d3hotExit | .doeRequest .. | .doeAbort | .getVersion | .negotiateAlgorithms .. | .getDigests
  | .getCertificate .. | .hptLoopback .. | .pcieLinkUp .. =>
    [.hpt, .slot 0x8]
  | .d3hotEntry | .aspmL1Entry | .aspmL1Exit =>
    [.slot 0x8]
  | .pcieError .. =>
    [.cqu, .hpt, .freeCount, .slot 0x8, .slot 0x9]
  | .memoryWindowWrite .. =>
    [.buf, .hpt, .freeCount, .slot 0x8, .slot 0xC]
  | .memoryWindowRead .. =>
    [.buf, .cqu, .hpt, .crd, .freeCount, .slot 0x8, .slot 0x9, .slot 0xC]
  | .getCapabilities .. | .challenge .. | .getMeasurements .. =>
    [.hpt, .freeCount, .slot 0x8]
  | .idleTimerPs1 | .idleTimerPs2 =>
    [.slot 0x0]
  | .apstTimer =>
    [.power, .slot 0x0]
  | .ps3Entry | .ps4Entry =>
    [.regs, .start, .linkA, .linkB, .linkZ, .rep, .spin, .servoA, .servoB, .fsqs, .rwcs, .media, .stripe, .chest, .core,
      .buf, .dma, .zmu, .cqu, .hpt, .power, .crd, .freeCount]
  | .ps3Exit | .ps4Exit =>
    [.linkA, .linkB, .linkZ, .feA, .feB, .spin, .chest, .buf, .cqu, .power, .bur, .slot 0x0, .slot 0x9, .slot 0x15,
      .slot 0x16, .slot 0x17]
  | .thermalSample .. =>
    [.regs, .start, .linkA, .linkB, .linkZ, .rep, .spin, .servoA, .servoB, .fsqs, .rwcs, .media, .stripe, .buf, .dma, .zmu,
      .cqu, .hpt, .power, .crd, .freeCount]
  | .chainCommit .. =>
    [.chest, .slot 0x3]
  | .credenzaPersist | .crdClear =>
    [.chest, .crd, .slot 0x4]
  | .minuteTick =>
    [.cqu, .crd, .slot 0x9]
  | .persist =>
    [.crd, .slot 0x4]
  | .burnDs .. | .programKeySlot .. | .revokeKeySlot .. | .revokeHoltaleKey .. =>
    [.fuses, .slot 0x6]
  | .hold =>
    [.cqu, .slot 0x6]
  | .tstLoopback .. =>
    [.nor, .slot 0x6]
  | .elkLoopback .. =>
    [.feA, .feB, .motion, .slot 0x16, .slot 0x17]
  | .loopbackDone .. =>
    [.linkA, .linkB, .linkZ, .feA, .feB, .motion, .hpt, .slot 0x6, .slot 0x8, .slot 0x16, .slot 0x17]
  | .apertureAccess .. =>
    [.regs, .start, .nor, .feA, .feB, .motion, .chest, .buf, .dma, .zmu, .cqu, .hpt, .bur, .crd, .tst, .freeCount]
  | .registerWrite .. =>
    [.regs, .pins, .start, .cfg, .plat, .opt, .fw, .patches, .nor, .ident, .linkA, .linkB, .linkZ, .feA, .feB, .motion, .rep,
      .spin, .servoA, .servoB, .tables, .fsqs, .rwcs, .media, .stripe, .chest, .core, .buf, .dma, .zmu, .cqu, .hpt, .power,
      .bur, .crd, .tst, .freeCount]
  | .interruptCoalescingTime .. =>
    [.cqu, .hpt, .slot 0x8]

end Sys2Proof
end

