-- ==== Sys2Proof/Certificates/Slice0/Obligations.lean ====
section
/-!
DEFINITION. The statements about the model, for the provers: what each command does, what it leaves, and what every step keeps.
Each docstring names the rules of spec/ that the statement formalises.
-/

open Sys2Proof Sys2Proof.Machine

/-- O1 (tier 1). A step runs the command at the front of the queue with the queue's rest; an empty queue idles (assumption 1:
what the block does with nothing to do is the model's choice). -/
def Obligations.StepRunsFrontCommand : Prop :=
  (∀ (c : Instr) (rest : List Instr) (s : State),
    step { s with pending := c :: rest } = exec c { s with pending := rest }) ∧
  (∀ s : State, s.pending = [] → step s = .next s)

/-- O2 (tier 1). After reset (R15, R37, R64, R65): a power-on on VDD_NST is recorded as cause 0x1 of a cold start, warm-valid is
0, no phase is entered, nothing is loaded, every block is in reset, no command waits; registers with a cold number hold it. -/
def Obligations.ResetLeavesColdStart : Prop :=
  State.reset.get Reg.RCU.LAST_CAUSE.CAUSE = 1 ∧ State.reset.get Reg.RCU.LAST_CAUSE.WARM = 0 ∧
  State.reset.get Reg.NST.START.WARM_VALID = 0 ∧ State.reset.get Reg.NST.BOOT_STATUS.PHASE = 0 ∧
  State.reset.start.rst = .stretch ∧ State.reset.cfg = none ∧
  State.reset.fw = none ∧ State.reset.buf.sram = [] ∧ State.reset.buf.dram = [] ∧ State.reset.pending = [] ∧
  (∀ b ∈ State.reset.start.blocks, b = .inReset) ∧
  State.reset.get Reg.LDP.ENGINES.IN_SERVICE = 0x3F ∧ State.reset.get Reg.LDP.QUOTA.CH_MAX = 2 ∧
  State.reset.get Reg.FSQ.ROM_ID.ROM_ID = 0xB0225001 ∧ State.reset.get Reg.ZMU.CTRL.ENABLE = 1 ∧
  (∀ n : Fin 64, State.reset.get (Reg.DMA.RING_CFG.SIZE n) = 3)

/-- O3 (tier 1). The state after reset is sound: registers and memories in canonical form. -/
def Obligations.ResetIsSound : Prop := State.reset.Sound

/-- O4 (tier 3). Every step keeps a state sound: whatever the front command, a register file and memories in canonical form stay
so, and there stay four sequencers and four channels. -/
def Obligations.StepKeepsSound : Prop := ∀ s t : State, s.Sound → step s = .next t → t.Sound

/-- O5 (tier 3). The frame of every command: what `Instr.reach` does not name stays as it was, whatever the operands and the
state, and so does the queue. -/
def Obligations.CommandsReachOnlyTheirParts : Prop := ∀ (c : Instr) (s t : State), exec c s = .next t → Only c.reach s t

/-- O6 (tier 3). Fuses only burn (R484): whatever the command, no security version falls and no programmed, revoked or burned
fuse is undone. -/
def Obligations.FusesOnlyBurn : Prop := ∀ (c : Instr) (s t : State), exec c s = .next t → s.fuses.Le t.fuses

/-- What a device reset of the die leaves (R35): no configuration, image or patch is loaded, nothing stands in the SRAM, the
DRAM and the command store, and every write gate is closed. -/
structure DieCleared (t : State) : Prop where
  cfg   : t.cfg = none
  opt   : t.opt = none
  fw    : t.fw = none
  sram  : t.buf.sram = []
  dram  : t.buf.dram = []
  store : t.cqu.store = []
  gates : t.rep.gates = [false, false, false, false]

/-- O7 (tier 2). R37, R442, R274: the power edges POWER_ON, VDD_CORE_OFF and POWER_LOSS: the cause is latched, the start is
cold, the die is cleared, and the Nightstand with its oscillator, its part of the memories and its mirror is lost with VDD_NST
only. -/
def Obligations.PowerEdgesEndInColdDie : Prop := ∀ s : State,
  Goes (exec (.powerOn .nst) s) (fun t => t.get Reg.RCU.LAST_CAUSE.CAUSE = 1 ∧ t.get Reg.RCU.LAST_CAUSE.WARM = 0 ∧
    t.get Reg.NST.START.WARM_VALID = 0 ∧ t.get Reg.NST.START.DRAM_SR_KEPT = 0 ∧ t.start.rst = .stretch ∧ t.start.osc = false ∧
    t.buf.kept = .reset ∧ t.bur.mirror = none ∧ t.pins.nstOk = true ∧ t.pins.coreOk = true ∧ t.pins.sysrstDrive = true ∧
    DieCleared t) ∧
  (s.pins.nstOk = true → Goes (exec (.powerOn .core) s) (fun t => t.get Reg.RCU.LAST_CAUSE.CAUSE = 2 ∧
    t.get Reg.RCU.LAST_CAUSE.WARM = 0 ∧ t.get Reg.NST.START.DRAM_SR_KEPT = 0 ∧ t.start.rst = .stretch ∧
    t.start.osc = s.start.osc ∧ t.pins.coreOk = true ∧ t.pins.nstOk = true ∧ DieCleared t)) ∧
  (s.pins.coreOk = true → Goes (exec .vddCoreOff s) (fun t => t.start.rst = .unpowered ∧ t.pins.coreOk = false ∧
    t.pins.nstOk = s.pins.nstOk ∧ t.start.osc = s.start.osc ∧ DieCleared t)) ∧
  (s.pins.coreOk = true → Goes (exec .powerLoss s) (fun t => t.start.rst = .unpowered ∧ t.pins.coreOk = false ∧
    t.pins.nstOk = false ∧ t.start.osc = false ∧ t.buf.kept = .reset ∧ t.bur.mirror = none ∧ DieCleared t))

/-- What a reset that a running controller recognises leaves, before the stretch (R35 steps 1 to 4): its cause and the latched
warm-valid flag, SYSRST_N driven, the save path left in place while the flag was 1. -/
structure ResetDriven (s t : State) (cause : Nat) : Prop where
  cause  : t.get Reg.RCU.LAST_CAUSE.CAUSE = cause
  warm   : t.get Reg.RCU.LAST_CAUSE.WARM = s.get Reg.NST.START.WARM_VALID
  saved  : t.get Reg.RCU.LAST_CAUSE.SAVED = s.get Reg.NST.START.WARM_VALID
  status : t.regs.word (Reg.key 1 0) = 0
  phase  : t.start.rst = if s.flag Reg.NST.START.WARM_VALID then .saving else .stretch
  osc    : t.start.osc = s.start.osc
  drive  : t.pins.sysrstDrive = true
  die    : DieCleared t

/-- O8 (tier 2). R34, R35, R38: the recognised pin reset, the watchdog, the host's NSSR value and the retry of a halted start
each drive the reset of R35 with their own cause; another NSSR value changes nothing, and a serviced watchdog nothing at all. -/
def Obligations.ResetsLatchTheirCause : Prop := ∀ s : State, s.start.rst = .running →
  (s.pins.sysrstCount = true → Goes (exec .sysrstRecognised s) fun t => ResetDriven s t 3) ∧
  (s.start.watchdog = true → Goes (exec .watchdogExpire s) fun t => ResetDriven s t 4) ∧
  (s.hostUp = true → s.get Reg.HPT.LINK.DSTATE ≠ 3 → s.get Reg.HPT.LINK.PM_LINK = 0 →
    Goes (exec (.nssr 0x4E564D65) s) (fun t => ResetDriven s t 5) ∧
    (∀ v : Word, v ≠ 0x4E564D65 → exec (.nssr v) s = .next s)) ∧
  (s.mfg = true → s.flag Reg.NST.BOOT_STATUS.HALTED = true → Goes (exec .mfgStartRetry s) fun t => ResetDriven s t 7) ∧
  exec .watchdogService s = .next s

/-- A part of Obligations.SysrstAndRelease. R34, R36, R113: a low level through the filter stops every write driver of both
front ends and starts the recognition count on a running controller; a high level abandons the count, and once the controller
has released the line too the partner chips leave reset. -/
def Sys2Proof.Machine.SysrstEdges : Prop := ∀ s : State,
  Goes (exec .sysrstNLow s) (fun t => t.pins.sysrstLow = true ∧ t.pins.sysrstCount = (s.start.rst == .running) ∧
    (∀ x : Act, (t.fe x).u0.writing = false ∧ (t.fe x).u1.writing = false ∧ (t.fe x).u0.armed = none ∧
      (t.fe x).u1.armed = none)) ∧
  (s.start.rst ≠ .release →
    exec .sysrstNHigh s = .next { s with pins := { s.pins with sysrstLow := false, sysrstCount := false } }) ∧
  (s.start.rst = .release → s.pins.sysrstDrive = false → Goes (exec .sysrstNHigh s) fun t => t.pins.sysrstLow = false ∧
    t.feA = { s.feA with inReset := false } ∧ t.feB = { s.feB with inReset := false } ∧
    t.motion = { s.motion with inReset := false })

/-- A part of Obligations.SysrstAndRelease. R35 steps 5 to 7, R39 to R42: the end of the hold-up save records DRAM_SR_KEPT where
the DRAM clock is good; the end of the stretch stops the drive of SYSRST_N and loses the cache; the release samples the straps
and enters P1, where an invalid CLK_MODE halts and an oscillator that runs ends P1 at once; the oscillator's settling ends P1
otherwise and starts the PLLs. -/
def Sys2Proof.Machine.ReleaseSamplesStraps : Prop := ∀ s : State,
  (s.start.rst = .saving → ∀ k, Goes (exec (.holdupSaveDone k) s) fun t => t.start.rst = .stretch ∧
    t.get Reg.NST.START.DRAM_SR_KEPT = (if s.get (Reg.RCU.CLK_STATUS.DOM 4) = 2 then 1 else 0)) ∧
  (s.start.rst = .stretch → Goes (exec .resetStretchEnd s) fun t => t.start.rst = .release ∧ t.pins.sysrstDrive = false ∧
    t.buf.cache = [] ∧ t.dma = .reset ∧
    (s.pins.sysrstLow = false → t.feA.inReset = false ∧ t.feB.inReset = false ∧ t.motion.inReset = false)) ∧
  (s.start.rst = .release → s.pins.sysrstLow = false → ∀ b c : BitVec 2,
    Goes (exec (.internalResetRelease b c) s) fun t => t.start.rst = .running ∧
      t.get Reg.RCU.STRAPS.BOOT_SRC = b.toNat ∧ t.get Reg.RCU.STRAPS.CLK_MODE = c.toNat ∧
      (c = 3 → b ≠ 3 → t.get Reg.NST.BOOT_STATUS.HALTED = 1 ∧ t.get Reg.NST.BOOT_STATUS.PHASE = 1) ∧
      (c ≠ 3 → t.get Reg.NST.BOOT_STATUS.PHASE = if s.start.osc then 2 else 1)) ∧
  (s.inPhase 1 = true → s.start.osc = false → Goes (exec .oscSettled s) fun t => t.start.osc = true ∧
    t.get Reg.NST.BOOT_STATUS.PHASE = 2 ∧ (∀ n : Fin 10, t.get (Reg.RCU.CLK_STATUS.DOM n) = if n.val = 0 then 2 else 1))

/-- O9 (tier 2). R34, R35, R37: the edges of SYSRST_N, and the release that samples the straps. -/
def Obligations.SysrstAndRelease : Prop := SysrstEdges ∧ ReleaseSamplesStraps

/-- A part of Obligations.FrontEndCommands. R111: a front end that hears its link executes IDENT, CONFIG, BIAS_SET, ASSIST_SET,
HEAD_TEST and LOOP as their table gives, and answers each; a value out of range is answered with STATUS 2 and changes no
setting. -/
def Sys2Proof.Machine.FrontEndCommandsExecuteAndAnswer : Prop := ∀ (s : State) (x : Act) (tag : Byte), s.feHears x = true →
  Goes (exec (.ezpolIdent x tag) s) (fun t => Answered t x.port 0 0 0x01 tag (padTo 20 (Config.partnerIdent x.num)) ∧
    OnlyFrontEnd x s t) ∧
  (∀ (p : BitVec 16) (w : Byte), Goes (exec (.ezpolConfig x tag p w) s) fun t =>
    if 5 ≤ p.toNat ∧ p.toNat ≤ 1000 ∧ 2 ≤ w.toNat ∧ w.toNat ≤ 20 then
      (t.fe x).monPeriod = p ∧ (t.fe x).win = w.toNat ∧ Answered t x.port 0 0 0x02 tag [] ∧ OnlyFrontEnd x s t
    else (t.fe x).monPeriod = (s.fe x).monPeriod ∧ (t.fe x).win = (s.fe x).win ∧ Answered t x.port 0 2 0x02 tag [] ∧
      OnlyFrontEnd x s t) ∧
  (∀ (h : Byte) (b w p : BitVec 16), h.toNat ≤ 11 → Goes (exec (.biasSet x tag h b w p) s) fun t =>
    ((t.fe x).head h.toNat).bias = b ∧ ((t.fe x).head h.toNat).writeCur = w ∧ ((t.fe x).head h.toNat).heater = p ∧
    (∀ k, k ≠ h.toNat → (t.fe x).head k = (s.fe x).head k) ∧ Answered t x.port 0 0 0x08 tag [] ∧ OnlyFrontEnd x s t) ∧
  (∀ (h m : Byte) (w sb l tl : BitVec 16), h.toNat ≤ 11 → m.toNat ≤ 2 → w.toNat ≤ 6000 → sb.toNat ≤ 6000 → l.toNat ≤ 5000 →
    tl.toNat ≤ 5000 → Goes (exec (.assistSet x tag h m w sb l tl) s) fun t =>
      ((t.fe x).head h.toNat).mode = m.toNat ∧ ((t.fe x).head h.toNat).assistWr = w ∧ ((t.fe x).head h.toNat).standby = sb ∧
      ((t.fe x).head h.toNat).lead = l ∧ ((t.fe x).head h.toNat).tail = tl ∧
      ((t.fe x).head h.toNat).bias = ((s.fe x).head h.toNat).bias ∧ Answered t x.port 0 0 0x0A tag [] ∧ OnlyFrontEnd x s t) ∧
  (∀ (h r : Byte) (rd wr v : BitVec 16), h.toNat ≤ 11 → Goes (exec (.headTest x tag h rd wr v r) s) fun t =>
    Answered t x.port 0 0 0x0B tag (toLe 2 rd.toNat ++ toLe 2 wr.toNat ++ toLe 2 v.toNat ++ [r]) ∧ OnlyFrontEnd x s t) ∧
  (∀ d : Byte, d = 3 ∨ d = 4 → Goes (exec (.ezpolLoop x tag d) s) fun t => (t.fe x).loop = d.toNat ∧
    (d = 3 → (t.fe x).u0.writing = false ∧ (t.fe x).u1.writing = false) ∧ Answered t x.port 0 0 0x0C tag [] ∧
    OnlyFrontEnd x s t)

/-- A part of Obligations.FrontEndCommands. R110, R111: RATE, HEAD_SEL, PATH_CTRL, WRITE_ARM, WRITE_CANCEL and PRECOMP act on
the unit named and leave the other; HEAD_SEL is refused with STATUS 3 while the other unit holds the head or a write is armed,
WRITE_ARM with STATUS 4 less than 2 µs ahead. -/
def Sys2Proof.Machine.FrontEndUnitCommands : Prop := ∀ (s : State) (x : Act) (u : Fin 2) (tag : Byte), s.feHears x = true →
  (∀ b : Word, 1000000 ≤ b.toNat → b.toNat ≤ 5200000 → Goes (exec (.rate x u tag b) s) fun t =>
    ((t.fe x).unit u).baud = b ∧ ((t.fe x).unit u).sidx = 0 ∧ ((t.fe x).other u).baud = ((s.fe x).other u).baud ∧
    Answered t x.port u.val 0 0x03 tag [] ∧ OnlyFrontEnd x s t) ∧
  (∀ h : Byte, h.toNat ≤ 11 → Goes (exec (.headSel x u tag h) s) fun t =>
    if ((s.fe x).other u).head = some h.toNat ∨ ((s.fe x).unit u).busy = true then
      ((t.fe x).unit u).head = ((s.fe x).unit u).head ∧ Answered t x.port u.val 3 0x04 tag [] ∧ OnlyFrontEnd x s t
    else ((t.fe x).unit u).head = some h.toNat ∧ ((t.fe x).other u).head = ((s.fe x).other u).head ∧
      Answered t x.port u.val 0 0x04 tag [] ∧ OnlyFrontEnd x s t) ∧
  (∀ on : Byte, on.toNat ≤ 1 → Goes (exec (.pathCtrl x u tag on) s) fun t => ((t.fe x).unit u).pathOn = (on != 0) ∧
    ((t.fe x).other u).pathOn = ((s.fe x).other u).pathOn ∧ Answered t x.port u.val 0 0x05 tag [] ∧ OnlyFrontEnd x s t) ∧
  (∀ (st len sidx : Word) (ph pre : Byte), ph.toNat ≤ 63 → pre.toNat ≤ 1 → len ≠ 0 → ((s.fe x).unit u).busy = false →
    Goes (exec (.writeArm x u tag st ph pre len sidx) s) fun t =>
      if armAhead ((s.fe x).unit u).baud st sidx = true then
        ((t.fe x).unit u).armed = some ⟨st, ph.toNat, pre != 0, len.toNat⟩ ∧ ((t.fe x).unit u).written = 0 ∧
        ((t.fe x).other u).armed = ((s.fe x).other u).armed ∧ Answered t x.port u.val 0 0x06 tag [] ∧ OnlyFrontEnd x s t
      else ((t.fe x).unit u).armed = ((s.fe x).unit u).armed ∧ Answered t x.port u.val 4 0x06 tag [] ∧ OnlyFrontEnd x s t) ∧
  Goes (exec (.writeCancel x u tag) s) (fun t => ((t.fe x).unit u).armed = none ∧ ((t.fe x).unit u).writing = false ∧
    ((t.fe x).unit u).queued = [] ∧ Answered t x.port u.val 0 0x07 tag (toLe 4 ((s.fe x).unit u).written) ∧
    OnlyFrontEnd x s t) ∧
  (∀ es : List Int, es.length = 8 → (∀ e ∈ es, -16 ≤ e ∧ e ≤ 16) → Goes (exec (.precomp x u tag es) s) fun t =>
    ((t.fe x).unit u).precomp = es ∧ ((t.fe x).other u).precomp = ((s.fe x).other u).precomp ∧
    Answered t x.port u.val 0 0x09 tag [] ∧ OnlyFrontEnd x s t)

/-- O10 (tier 2). R108, R111: what a front end executes and answers. -/
def Obligations.FrontEndCommands : Prop := FrontEndCommandsExecuteAndAnswer ∧ FrontEndUnitCommands

/-- O11 (tier 2). R110, R113: write data reaches the queue of an armed unit, and is discarded with its credit returned on a unit
with no write armed; the driver starts with data there and stops with event 0x04 without; an assist fault, a lost downlink and
WIH stop the drivers they name, a damaged WIH both. -/
def Obligations.FrontEndWriteAndStop : Prop := ∀ (s : State) (x : Act) (u : Fin 2),
  (∀ (last : Bool) (w : Word) (b : Bytes), s.feHears x = true → ((s.fe x).unit u).writing = false →
    Goes (exec (.wdata x u last w b) s) fun t =>
      ((t.fe x).unit u).queued = (if ((s.fe x).unit u).armed.isSome then ((s.fe x).unit u).queued ++ [⟨last, w, b⟩]
        else ((s.fe x).unit u).queued) ∧ ((t.fe x).unit u).armed = ((s.fe x).unit u).armed ∧ OnlyFrontEnd x s t) ∧
  (∀ (a : Armed) (c : WCell) (rest : List WCell), ((s.fe x).unit u).armed = some a → ((s.fe x).unit u).writing = false →
    (s.fe x).inReset = false → (s.fe x).dormant = false → ((s.fe x).unit u).queued = c :: rest → c.widx = 0 →
    ((s.fe x).unit u).written = 0 → 1920 < a.length → rest = [] →
    Goes (exec (.writeDriverStart x u) s) fun t => ((t.fe x).unit u).writing = true ∧ ((t.fe x).unit u).written = 1920 ∧
      ((t.fe x).unit u).sidx = a.start ∧ OnlyFrontEnd x s t) ∧
  (∀ a : Armed, ((s.fe x).unit u).armed = some a → ((s.fe x).unit u).writing = false → (s.fe x).inReset = false →
    (s.fe x).dormant = false → ((s.fe x).unit u).queued = [] →
    Goes (exec (.writeDriverStart x u) s) fun t => ((t.fe x).unit u).writing = false ∧ ((t.fe x).unit u).armed = none ∧
      (∃ c ∈ (t.link x.port).par.replay.map Prod.fst ++ (t.link x.port).par.waiting, c.typ = 0x13 ∧ c.param = 0x04) ∧
      OnlyFrontEnd x s t) ∧
  (((s.fe x).unit u).writing = true → Goes (exec (.assistFaultStop x u) s) fun t => ((t.fe x).unit u).writing = false ∧
    OSet.alm 0x03 (BitVec.ofNat 8 (2 ^ u.val)) ∈ (t.link x.port).ctl.sets ∧ OnlyFrontEnd x s t) ∧
  Goes (exec (.downlinkLossStop x) s) (fun t => (t.fe x).u0.writing = false ∧ (t.fe x).u1.writing = false ∧
    t.link x.port = s.link x.port ∧ OnlyFrontEnd x s t) ∧
  (∀ (m c r : Byte), Goes (exec (.wih x m c r) s) fun t =>
    (c ≠ m ^^^ 0xFF ∨ m.getLsbD 0 = true → (t.fe x).u0.writing = false ∧ (t.fe x).u0.armed = none) ∧
    (c ≠ m ^^^ 0xFF ∨ m.getLsbD 1 = true → (t.fe x).u1.writing = false ∧ (t.fe x).u1.armed = none) ∧
    (c = m ^^^ 0xFF → m.getLsbD 0 = false → (t.fe x).u0.writing = (s.fe x).u0.writing) ∧ OnlyFrontEnd x s t)

/-- A part of Obligations.StartPhases. R42, R48, R49: CLK_GOOD of a domain shows as such and releases the blocks that wait for
their clocks only, and the last one ends P2: P3 begins with WARM_VALID 0 and the security versions of the fuses. A domain that
stays without it in P2 shows FAILED: an essential one halts the start with code 0x01 and its number, compute is a note. -/
def Sys2Proof.Machine.ClocksEndPhaseTwo : Prop := ∀ (s : State) (d : Fin 10),
  (s.start.rst = .running → 2 ≤ s.phase → s.get (Reg.RCU.CLK_STATUS.DOM d) = 1 → (∀ n, s.block n ≠ .waitClock) →
    Goes (exec (.clkGood d) s) fun t => t.get (Reg.RCU.CLK_STATUS.DOM d) = 2 ∧
      (∀ n, 8 ≤ n → n ≠ 0x10 → s.start.blocks[n]? = some .inReset → t.clockGood n = true → t.block n = .running) ∧
      (s.inPhase 2 = true → (∀ k : Fin 10, k ≠ d → s.get (Reg.RCU.CLK_STATUS.DOM k) = 2) →
        t.phase = 3 ∧ t.get Reg.NST.START.WARM_VALID = 0 ∧
        t.get Reg.OPL.FUSES.OEM_SVN = s.fuses.oemSvn % 2 ^ Reg.OPL.FUSES.OEM_SVN.width) ∧
      (s.inPhase 2 = false → t.phase = s.phase)) ∧
  (s.inPhase 2 = true → s.get (Reg.RCU.CLK_STATUS.DOM d) = 1 → Goes (exec (.clkGoodTimeout d) s) fun t =>
    t.get (Reg.RCU.CLK_STATUS.DOM d) = 3 ∧
    (d ≠ 9 → t.get Reg.NST.BOOT_STATUS.HALTED = 1 ∧ t.phase = 2 ∧ (s.start.sev < 3 → t.get Reg.NST.BOOT_STATUS.CODE = 1 ∧
      t.get Reg.NST.BOOT_STATUS.UNIT = d.val)) ∧
    (d = 9 → t.get Reg.NST.BOOT_STATUS.NOTED = 1 ∧ t.get Reg.NST.BOOT_STATUS.HALTED = 0 ∧
      ((∀ k : Fin 10, k ≠ d → s.get (Reg.RCU.CLK_STATUS.DOM k) = 2) → t.phase = 3)))

/-- A part of Obligations.ImagesAreChosen. R67, R74: reading the copy of the option image whose turn it is ends P3 where its
check accepts it: the image and its configuration are loaded, the link may train and P4, or P5 of a warm start, begins; a first
copy that fails leaves the turn to the other, and with neither valid the start goes on as a recovery download with a hold. The
copy's check result shows either way. -/
def Sys2Proof.Machine.OptionImageEndsP3 : Prop := ∀ (s : State) (copy : Copy) (rd : NorRead), s.inPhase 3 = true →
  copy = (if s.start.optTried = 0 then s.primary else otherCopy s.primary) →
  Goes (exec (.optionCopyCheck copy rd) s) fun t =>
    let k := checkOption s.fuses s.mfg copy (s.norRead false copy rd)
    t.get (match copy with | .a => Reg.OPL.STATUS.OPT_A | .b => Reg.OPL.STATUS.OPT_B) = k.result % 16 ∧
    match k.image with
    | some (img, c) => t.opt = some img ∧ t.plat = c.plat ∧ t.start.trainOpen = true ∧
        t.get Reg.OPL.STATUS.OPT_ACTIVE = copyNum copy ∧ t.phase = (if s.flag Reg.RCU.LAST_CAUSE.WARM then 5 else 4) ∧
        (s.start.recovery = false → t.cfg = some c ∧ t.get Reg.STE.LAYOUT.D = c.stripe.width % 32) ∧
        (s.start.recovery = true → t.cfg = s.cfg ∧ t.get Reg.STE.LAYOUT.D = s.get Reg.STE.LAYOUT.D)
    | none => if s.start.optTried = 0 then t.start.optTried = 1 ∧ t.phase = 3 ∧ t.opt = s.opt ∧ t.cfg = s.cfg
        else t.start.recovery = true ∧ t.get Reg.OPL.STATUS.RECOVERY = 1 ∧ t.get Reg.NST.BOOT_STATUS.HELD = 1 ∧
          t.start.trainOpen = true ∧ t.phase = (if s.flag Reg.RCU.LAST_CAUSE.WARM then 5 else 4) ∧ t.cfg = s.cfg

/-- A part of Obligations.StartPhases. R296: the SRAM self-test without a failing row ends P4 with nothing remapped; one failing
row goes to the first free spare row of its bank, with a note; more than 16 failing rows of a bank halt the start in P4. -/
def Sys2Proof.Machine.SramSelfTestMapsRows : Prop := ∀ (s : State) (spares : List (BitVec 6 × BitVec 4)), s.inPhase 4 = true →
  Goes (exec (.sramSelfTestDone [] spares) s) (fun t => t.phase = 5 ∧ t.buf.kept = s.buf.kept ∧
    t.buf.badSpares = spares.map fun x => (x.1.toNat, x.2.toNat)) ∧
  (∀ (b : BitVec 6) (r : BitVec 10) (k : Nat),
    (s.buf.kept.rows.any fun m => m.1 == b.toNat && m.2.2 == r.toNat) = false →
    ({ s with buf := { s.buf with badSpares := spares.map fun x => (x.1.toNat, x.2.toNat) } } : State).freeSpare b.toNat = some k →
    Goes (exec (.sramSelfTestDone [(b, r)] spares) s) fun t => t.phase = 5 ∧ t.get Reg.NST.BOOT_STATUS.NOTED = 1 ∧
      t.buf.kept.rows = s.buf.kept.rows ++ [(b.toNat, k, r.toNat)]) ∧
  (∀ (rows : List (BitVec 6 × BitVec 10)) (b : BitVec 6),
    16 < (((rows.map fun r => (r.1.toNat, r.2.toNat)).eraseDups).filter fun r => r.1 == b.toNat).length →
    Goes (exec (.sramSelfTestDone rows spares) s) fun t => t.get Reg.NST.BOOT_STATUS.HALTED = 1 ∧ t.phase = 4 ∧
      t.buf.kept = s.buf.kept ∧ (∀ n, 2 ≤ n → t.block n = .inReset))

/-- A part of Obligations.ImagesAreChosen. R84, R87: reading the copy of the firmware image whose turn it is records its check
result and loads it where that is 1; a first copy that fails leaves the turn to the other, and with neither valid the start
becomes a recovery download. -/
def Sys2Proof.Machine.FirmwareImageLoads : Prop := ∀ (s : State) (copy : Copy) (rd : NorRead), s.inPhase 5 = true →
  s.start.recovery = false → s.fw = none → s.get Reg.BUR.STATUS.STAGE < 5 →
  copy = (if s.start.fwTried = 0 then s.primary else otherCopy s.primary) →
  Goes (exec (.firmwareCopyCheck copy rd) s) fun t =>
    let r := s.norRead true copy rd
    let k := checkFw s.fuses r
    t.phase = 5 ∧ t.get (match copy with | .a => Reg.OPL.STATUS.FW_A | .b => Reg.OPL.STATUS.FW_B) = k % 16 ∧
    (k = 1 → t.fw = some (fwImageOf copy r.bytes) ∧ t.get Reg.OPL.STATUS.FW_ACTIVE = copyNum copy ∧
      t.get Reg.OPL.FW_VERSION.VERSION = (fwImageOf copy r.bytes).version.toNat) ∧
    (k ≠ 1 → t.fw = none ∧ if s.start.fwTried = 0 then t.start.fwTried = 1 ∧ t.start.recovery = false
      else t.start.recovery = true ∧ t.get Reg.OPL.STATUS.RECOVERY = 1 ∧ t.get Reg.NST.BOOT_STATUS.HELD = 1)

/-- O12 (tier 2). R71, R74, R84, R86: which copy of the option image ends P3 and which firmware image is loaded. -/
def Obligations.ImagesAreChosen : Prop := OptionImageEndsP3 ∧ FirmwareImageLoads

/-- A part of Obligations.StartPhases. R86, R450, R302: the end of P5 adds one to the boot counter of the mirror where no Chest
device can be read, starts the watchdog, shows whether DK is there and enters P6, but a recovery download stays in P5; the end
of the DRAM's training enters P7 and trains the Zhosel link where the capacity fits the option image, and an untrained channel
halts the start. -/
def Sys2Proof.Machine.FirmwareAndDramStart : Prop := ∀ (s : State),
  (s.inPhase 5 = true → s.get Reg.BUR.STATUS.STAGE < 5 → s.fw.isSome = true ∨ s.start.recovery = true →
    ∀ (w0 w1 : Bool) (m : Nat), s.bur.mirror = some m → Goes (exec (.firmwareLoadDone ⟨false, false, w0, w1⟩) s) fun t =>
      t.bur.mirror = some ((m + 1) % 2 ^ 64) ∧ t.get Reg.BUR.COUNT_LO.COUNT = (m + 1) % 2 ^ 32 ∧ t.start.watchdog = true ∧
      t.get Reg.BUR.STATUS.DK_READY = (if s.fuses.dsOk then 1 else 0) ∧ t.get Reg.BUR.STATUS.STAGE = 5 ∧
      t.phase = (if s.start.recovery then 5 else 6)) ∧
  (∀ (c : OptCfg) (cap : BitVec 4) (den : BitVec 5), s.inPhase 6 = true → s.cfg = some c → cap.toNat = c.dram.capacity →
    c.dram.wcache + 256 + (c.stripe.width + 2) * c.stripe.sideboard + 512 + 64 ≤ usableMiB cap.toNat →
    Goes (exec (.dramTrainingDone 15 cap den) s) fun t => t.phase = 7 ∧ t.get Reg.BFM.DRAM_TRAIN.TRAINED = 15 ∧
      t.get Reg.BFM.DRAM_CFG.CAPACITY = cap.toNat ∧ t.linkState .zhosel = 1) ∧
  (∀ (c : OptCfg) (tr cap : BitVec 4) (den : BitVec 5), s.inPhase 6 = true → s.cfg = some c → tr ≠ 15 →
    s.flag Reg.RCU.LAST_CAUSE.WARM = false → Goes (exec (.dramTrainingDone tr cap den) s) fun t => t.phase = 6 ∧
      t.get Reg.NST.BOOT_STATUS.HALTED = 1 ∧ t.linkZ = s.linkZ)

/-- O13 (tier 2). R48 to R50, R296, R86, R302: the clocks end P2, the SRAM self-test P4, the firmware load P5 and the DRAM
training P6. -/
def Obligations.StartPhases : Prop := ClocksEndPhaseTwo ∧ SramSelfTestMapsRows ∧ FirmwareAndDramStart

/-- O14 (tier 2). R47, R59, R44, R275: the host port trains once P3 has ended and PERST_N is high, and is up at the speed and
width trained; P10 enters P11 with the keys of the core map loaded, or holds with code 0x90 where the core map cannot be read;
the end of P11 sets warm-valid, and the security version fuses follow what the images ask for. -/
def Obligations.HostLinkAndReady : Prop := ∀ (s : State),
  (s.start.trainOpen = true → s.pins.perstLow = false → s.start.rst = .running → s.get Reg.HPT.LINK.SPEED = 0 →
    s.block 8 = .running → Goes (exec .pcieLinkTrainStart s) fun t => t.hpt.training = true ∧ t.hpt.out = s.hpt.out) ∧
  (∀ v w : BitVec 3, s.hpt.training = true → 1 ≤ v.toNat → v.toNat ≤ s.plat.maxRate → w = 1 ∨ w = 2 ∨ w = 4 →
    s.block 8 = .running → Goes (exec (.pcieLinkUp v w) s) fun t => t.hpt.training = false ∧
      t.get Reg.HPT.LINK.SPEED = v.toNat ∧ t.get Reg.HPT.LINK.WIDTH = w.toNat) ∧
  (s.inPhase 10 = true → s.held = false → s.spinState = 5 → s.chest.progress = none → ∀ (a : ChestAccess) (x y : Option Nat),
    (s.core.layout.isSome = true → Goes (exec (.metadataReplay a x y true) s) fun t => t.phase = 11 ∧
      t.hpt.keys.map (fun k => k.slot) = t.core.keys.filterMap fun k => (keyUnwrap kwk k.2).map fun _ => k.1) ∧
    Goes (exec (.metadataReplay a x y false) s) (fun t => t.phase = 10 ∧ t.get Reg.NST.BOOT_STATUS.HELD = 1 ∧
      t.cqu.notReady = some true ∧ (s.start.sev < 2 → t.get Reg.NST.BOOT_STATUS.CODE = 0x90))) ∧
  (s.inPhase 11 = true → s.held = false → Goes (exec .startReady s) fun t => t.phase = 15 ∧
    t.get Reg.NST.START.WARM_VALID = 1 ∧ t.cqu.notReady = none ∧ t.get Reg.BUR.STATUS.STAGE = 11 ∧
    t.fuses.oemSvn = (match s.opt with
      | some o => if o.svnCommit then max s.fuses.oemSvn o.svn else s.fuses.oemSvn
      | none => s.fuses.oemSvn) ∧
    (s.chest.header.state = 2 → t.chest.header.state = 3 ∧ t.chest.erased = [0, 0]))

/-- A part of Obligations.LinksTrain. R123, R124, R56, R57: a link that trains is up over the lanes locked, narrow with one
uplink lane (Ezpol) or with a lane of either direction (Zhosel) missing, and IDENT is the first command over it; with fewer
lanes it trains again. -/
def Sys2Proof.Machine.LinksComeUp : Prop := ∀ (s : State),
  (s.linkState .zhosel = 1 → ∀ up dn : BitVec 2, Goes (exec (.zhoselLinkUp up dn) s) fun t =>
    if up = 0 ∨ dn = 0 then t.linkState .zhosel = 1
    else t.linkState .zhosel = (if up = 3 ∧ dn = 3 then 2 else 3) ∧
      (t.linkZ.ctl.replay.map fun c => (c.1.typ, c.1.param, c.1.seq)) = [(0x10, 1, 0)] ∧
      (s.inPhase 7 = true → t.start.zhosel = .ok)) ∧
  (∀ x : Act, s.linkState x.port = 1 → ∀ (up : BitVec 5) (dn : BitVec 2), Goes (exec (.ezpolLinkUp x up dn) s) fun t =>
    let n := ((List.range 5).filter fun k => !up.toNat.testBit k).length
    if dn ≠ 3 ∨ 1 < n then t.linkState x.port = 1
    else t.linkState x.port = (if n = 0 then 2 else 3) ∧ (t.link x.port).cred0 = 16 ∧ (t.link x.port).cred1 = 16 ∧
      ((t.link x.port).ctl.replay.map fun c => (c.1.typ, c.1.param, c.1.seq)) = [(0x10, 1, 0)] ∧
      (s.inPhase 7 = true → s.start.ez x = .waiting → t.start.ez x = .ok))

/-- A part of Obligations.LinksTrain. R58, R63, R106: in P7 a link that fails to train holds the start (codes 0x50, 0x60, 0x61),
shows FAILED and ends its item and those behind it; once the start is past P7 the link is down and the actuator's write gates
close. -/
def Sys2Proof.Machine.LinkTrainingFails : Prop := ∀ (s : State),
  (s.inPhase 7 = true → s.linkState .zhosel = 1 → s.start.zhosel = .waiting → Goes (exec .zhoselTrainTimeout s) fun t =>
    t.get Reg.NST.BOOT_STATUS.HELD = 1 ∧ (s.start.sev < 2 → t.get Reg.NST.BOOT_STATUS.CODE = 0x50) ∧ t.linkState .zhosel = 6 ∧
    t.start.zhosel = .failed ∧ t.start.motion = .skipped ∧ t.start.base = .skipped) ∧
  (∀ x : Act, s.inPhase 7 = true → s.linkState x.port = 1 → s.start.ez x = .waiting →
    Goes (exec (.ezpolTrainTimeout x) s) fun t => t.get Reg.NST.BOOT_STATUS.HELD = 1 ∧
      (s.start.sev < 2 → t.get Reg.NST.BOOT_STATUS.CODE = 0x60 + x.num) ∧ t.linkState x.port = 6 ∧ t.start.ez x = .failed ∧
      t.phase = 7) ∧
  (s.start.rst = .running → s.phase = 15 → s.linkState .zhosel = 1 → Goes (exec .zhoselTrainTimeout s) fun t =>
    t.linkState .zhosel = 0 ∧ t.warns 2 = true) ∧
  (∀ x : Act, s.start.rst = .running → s.phase = 15 → s.linkState x.port = 1 → Goes (exec (.ezpolTrainTimeout x) s) fun t =>
    t.linkState x.port = 0 ∧ t.actDown x = true ∧ t.rep.gates.getD (2 * x.num) true = false ∧
    t.rep.gates.getD (2 * x.num + 1) true = false)

/-- O15 (tier 2). R55 to R58, R123, R124: the Zhosel and Ezpol links come up, or their training fails. -/
def Obligations.LinksTrain : Prop := LinksComeUp ∧ LinkTrainingFails

/-- O16 (tier 2). R57, R58, R88, R89: an identity read in P7 that fails is retried once and then ends its item as failed with a
hold; a sound identity is kept and its item ends. After the start the whole memory is read, its failures kept. -/
def Obligations.IdentitiesAreRead : Prop := ∀ (s : State),
  (∀ (m : IdMem) (b : Bytes), s.inPhase 7 = true → s.idDue m = true →
    (s.start.retried.getD (idNum m) false = false → exec (.identityRead m none) s =
      .next { s with start := { s.start with retried := setAt s.start.retried (idNum m) true } }) ∧
    (s.start.retried.getD (idNum m) false = true → Goes (exec (.identityRead m none) s) fun t =>
      t.get Reg.NST.BOOT_STATUS.HELD = 1 ∧ t.ident = s.ident ∧
      (match m with | .base => t.start.base | .hsa => t.start.hsA | .hsb => t.start.hsB) = .failed) ∧
    Goes (exec (.identityRead m (some b)) s) (fun t => match m with
      | .base => ∀ i, baseOf b = some i → t.ident.base = some i ∧ t.start.base = .ok
      | .hsa => ∀ i, hsaOf b = some i → t.ident.hsaA = some i ∧ t.start.hsA.ended = true
      | .hsb => ∀ i, hsaOf b = some i → t.ident.hsaB = some i ∧ t.start.hsB.ended = true)) ∧
  (∀ (m : IdMem) (b : Bytes), s.phase = 15 → s.start.rst = .running →
    (s.ident.fails.filter fun n => n == idNum m).length < 3 →
    (match m with | .base => s.ident.fullBase | .hsa => s.ident.fullA | .hsb => s.ident.fullB) = none →
    Goes (exec (.backgroundIdentityRead m none) s) (fun t => t.ident.fails = s.ident.fails ++ [idNum m]) ∧
    Goes (exec (.backgroundIdentityRead m (some b)) s) (fun t =>
      if idHeaderOk (if m = .base then 1 else 2) b = true then t.ident.fails = s.ident.fails ∧
        (match m with | .base => t.ident.fullBase | .hsa => t.ident.fullA | .hsb => t.ident.fullB) = some b
      else t.ident.fails = s.ident.fails ++ [idNum m]))

/-- A part of Obligations.BlockResets. R52: the sequence of a block reset: a running block that is not the reset logic's own is
asked for idle; its acknowledgement, or the end of its time limit with BLK_FORCED, asserts the reset, which drops what the block
held; it is released once its clock is good and its BLK_RST bit then reads 0. -/
def Sys2Proof.Machine.BlockResetSequence : Prop := ∀ (s : State) (n : Fin 26), s.start.rst = .running →
  (8 ≤ n.val → s.block n = .running → Goes (exec (.blockResetRequest n) s) fun t => t.block n = .idleReq ∧
    (∀ k, k ≠ n.val → t.block k = s.block k) ∧
    (n.val = 8 → t.get Reg.HPT.LINK.SPEED = 0 ∧ t.get Reg.HPT.LINK.WIDTH = 0 ∧ t.hpt.training = true) ∧
    (n.val ≠ 8 → t.regs = s.regs)) ∧
  (s.block n = .idleReq → Goes (exec (.idleAck n) s) (fun t => t.block n = .resetting ∧
      (n.val = 8 → t.get Reg.HPT.LINK.IN_RESET = 1 ∧ t.get Reg.HPT.LINK.KEYS_LOADED = 0 ∧ t.hpt.keys = []) ∧
      (n.val = 0xA → t.zmu.lines = List.replicate 48 .reset) ∧
      (n.val = 0xD → t.dma.rings = List.replicate 64 .reset ∧ t.dma.streams = List.replicate 8 .reset) ∧
      (n.val = 0x14 → t.servoA = .reset ∧ t.servoB = .reset) ∧ (n.val = 0x15 → t.spin.demand = s.spin.demand)) ∧
    Goes (exec (.idleAckTimeout n) s) (fun t => t.block n = .resetting ∧ t.get (blkBit 0x24 n) = 1)) ∧
  (s.block n = .resetting → s.clockGood n = true → Goes (exec (.blockResetRelease n) s) fun t => t.block n = .running ∧
    t.get (blkBit 0x20 n) = 0) ∧
  (s.block n = .resetting → s.clockGood n = false → Goes (exec (.blockResetRelease n) s) fun t => t.block n = .waitClock ∧
    t.regs = s.regs)

/-- A part of Obligations.BlockResets. R51, R65: in manufacturing mode each bit of BLK_RST from 8 on asks its running block for
idle and reads 1, outside it nothing changes; loss of lock of a PLL other than SYSPLL records itself, takes the domain's clock
away and asks its blocks for idle; SYSPLL, and a domain other than compute without its clock for too long, drive the reset of
cause 6. -/
def Sys2Proof.Machine.LockLossAndBlkRst : Prop := ∀ (s : State), s.start.rst = .running →
  (∀ v : Word, (s.mfg = false → exec (.blkRst v) s = .next s) ∧
    (s.mfg = true → Goes (exec (.blkRst v) s) fun t => ∀ n, 8 ≤ n → n < 26 →
      (v.getLsbD n = true → s.block n = .running → t.block n = .idleReq ∧ t.get (blkBit 0x20 n) = 1) ∧
      (v.getLsbD n = false → t.block n = s.block n))) ∧
  (3 ≤ s.phase → Goes (exec (.pllLockLoss .sys) s) fun t => ResetDriven s t 6) ∧
  (∀ (p : Pll) (d : Nat) (slots : List Nat), 3 ≤ s.phase → pllDomain p = some (d, slots) →
    s.get (Reg.RCU.CLK_STATUS.DOM d) = 2 → Goes (exec (.pllLockLoss p) s) fun t => t.get (pllBit p) = 1 ∧
      t.get (Reg.RCU.CLK_STATUS.DOM d) = 1 ∧ (∀ n ∈ slots, s.block n = .running → t.block n = .idleReq) ∧
      (p = .pcie → t.get Reg.HPT.LINK.SPEED = 0)) ∧
  (∀ d : Fin 10, 3 ≤ s.phase → s.get (Reg.RCU.CLK_STATUS.DOM d) = 1 → Goes (exec (.lockLossTimeout d) s) fun t =>
    if d = 9 then t.get (Reg.RCU.CLK_STATUS.DOM 9) = 3 ∧ t.start = s.start else ResetDriven s t 6)

/-- O17 (tier 2). R51, R52, R65: a block reset runs its steps; lock losses and RCU.BLK_RST ask for it. -/
def Obligations.BlockResets : Prop := BlockResetSequence ∧ LockLossAndBlkRst

/-- O18 (tier 2). R47, R402: PERST_N asserted, a Hot Reset, a link down from another cause and a Function Level Reset are each
counted in HPT.RESETS and ask the host port for idle; the link is down after all but the last, and trains again at once but
after PERST_N, whose release allows it. -/
def Obligations.HostPortResets : Prop := ∀ (s : State), s.start.rst = .running → s.block 8 = .running →
  (s.pins.perstLow = false → Goes (exec .perstNAssert s) fun t => t.pins.perstLow = true ∧ t.block 8 = .idleReq ∧
    t.get Reg.HPT.RESETS.PERST = min (s.get Reg.HPT.RESETS.PERST + 1) 255 ∧ t.get Reg.HPT.LINK.SPEED = 0 ∧
    t.hpt.training = false) ∧
  Goes (exec .perstNRelease s) (fun t => t.pins = { s.pins with perstLow := false } ∧ t.regs = s.regs) ∧
  (s.get Reg.HPT.LINK.SPEED ≠ 0 →
    Goes (exec .hotReset s) (fun t => t.block 8 = .idleReq ∧
      t.get Reg.HPT.RESETS.HOT = min (s.get Reg.HPT.RESETS.HOT + 1) 255 ∧ t.get Reg.HPT.LINK.SPEED = 0 ∧
      t.get Reg.HPT.LINK.WIDTH = 0 ∧ t.hpt.training = true) ∧
    Goes (exec .pcieLinkDown s) (fun t => t.block 8 = .idleReq ∧
      t.get Reg.HPT.RESETS.DOWN = min (s.get Reg.HPT.RESETS.DOWN + 1) 255 ∧ t.get Reg.HPT.LINK.SPEED = 0 ∧
      t.hpt.training = true ∧ (s.crd.cnt = [] → t.counter 0x1C 3 = 1)) ∧
    Goes (exec .functionLevelReset s) (fun t => t.block 8 = .idleReq ∧
      t.get Reg.HPT.RESETS.FLR = min (s.get Reg.HPT.RESETS.FLR + 1) 255 ∧
      t.get Reg.HPT.LINK.SPEED = s.get Reg.HPT.LINK.SPEED ∧ t.get Reg.HPT.LINK.WIDTH = s.get Reg.HPT.LINK.WIDTH ∧
      t.hpt = s.hpt))

/-- O19 (tier 2). R96, R98, R99, R116, R125, R126: TS1 and TS2 sets are counted per lane by the end that receives them, the
partner chip taking the trims named; ALN loads the scramblers and, on the Zhosel downlink, the chip's LT; SLP puts an idle front
end to sleep, activity on its lane 0 trains the link again, and LBX ends a partner chip's loopback. -/
def Obligations.OrderedSetsAct : Prop := ∀ (s : State) (p : Port) (lane : Nat) (b : TsBody),
  (s.trains p = true → tsFits p lane b = true →
    Goes (exec (.ts1 p true lane b) s) (fun t => (t.link p).ctl.ts1 = oneMore (s.link p).ctl.ts1 lane 8) ∧
    Goes (exec (.ts1 p false lane b) s) (fun t => (t.link p).par.ts1 = oneMore (s.link p).par.ts1 lane 8 ∧
      (t.link p).trims = assocPut (s.link p).trims lane b) ∧
    Goes (exec (.ts2 p true lane b) s) (fun t => (t.link p).ctl.ts2 = oneMore (s.link p).ctl.ts2 lane 16) ∧
    Goes (exec (.ts2 p false lane b) s) (fun t => (t.link p).par.ts2 = oneMore (s.link p).par.ts2 lane 16)) ∧
  (∀ lt : Word, s.linkUp p = true →
    Goes (exec (.aln p true lt) s) (fun t => (t.link p).par.scr = seeds ∧ (p = .zhosel → t.motion.lt = lt)) ∧
    Goes (exec (.aln p false lt) s) (fun t => (t.link p).ctl.scr = seeds ∧ t.motion = s.motion) ∧
    Goes (exec (.alnInterval p true lt) s) (fun t => (t.link p).par.sets = (s.link p).par.sets ++
      [.aln (if p = .zhosel then lt else 0)])) ∧
  (∀ x : Act, s.linkUp x.port = true → (s.link x.port).ctl.replay = [] → (s.link x.port).par.replay = [] →
    (s.fe x).u0.busy = false → (s.fe x).u1.busy = false → Goes (exec (.slp x) s) fun t => (t.fe x).dormant = true ∧
      (t.fe x).u0.pathOn = false ∧ (t.fe x).u1.pathOn = false ∧ t.linkState x.port = 5) ∧
  (∀ x : Act, s.linkState x.port = 5 → Goes (exec (.wakeFromDormant x) s) fun t => (t.fe x).dormant = false ∧
    t.linkState x.port = 1 ∧ (t.link x.port).trims = (s.link x.port).trims) ∧
  Goes (exec (.lbx p) s) (fun t => match portAct p with
    | some x => (t.fe x).loop = 0
    | none => t.motion.loop = false)

/-- A sequenced cell reaches the controller in order (R104): cells pass, and SEQ is the one expected. -/
def Sys2Proof.Machine.Expected (s : State) (p : Port) (h : CellHdr) : Prop := s.linkUp p = true ∧ h.seq = (s.link p).ctl.rcvSeq

/-- O20 (tier 2). R103 to R107: a NAK sends the cells from its SEQ on again, the replay timer all of them; a cell whose CRC
fails is counted and answered by one NAK of the SEQ expected; an ACK frees the cells before it, a sequenced IDLE returns its
credits, and a RESP ends its command. -/
def Obligations.CellsAreDelivered : Prop := ∀ (s : State) (p : Port), s.linkUp p = true →
  (∀ (q : BitVec 16) (i : Nat), ((s.link p).ctl.replay.findIdx? fun c => c.1.seq == BitVec.ofNat 12 q.toNat) = some i →
    Goes (exec (.nak p true q) s) fun t => (t.link p).ctl.replay = ((s.link p).ctl.resend i).replay ∧
      t.get (portFld Reg.ELK.ERRORS.REPLAYS p) = min (s.get (portFld Reg.ELK.ERRORS.REPLAYS p) + 1) 255 ∧
      (((s.link p).ctl.resend i).worn = true → t.linkState p = 4)) ∧
  (∀ q : BitVec 16, ((s.link p).ctl.replay.findIdx? fun c => c.1.seq == BitVec.ofNat 12 q.toNat) = none →
    Goes (exec (.nak p true q) s) fun t => (t.link p).ctl.replay = (s.link p).ctl.replay ∧ t.regs = s.regs) ∧
  ((s.link p).ctl.nakSent = false → Goes (exec (.cellCrcFail p true) s) fun t =>
    t.get (portFld Reg.ELK.ERRORS.CRC_ERR p) = min (s.get (portFld Reg.ELK.ERRORS.CRC_ERR p) + 1) 65535 ∧
    (t.link p).ctl.nakSent = true ∧ (t.link p).par.sets = (s.link p).par.sets ++ [.nak (s.link p).ctl.rcvSeq]) ∧
  ((s.link p).ctl.nakSent = true → Goes (exec (.cellCrcFail p true) s) fun t => t.link p = s.link p) ∧
  ((s.link p).ctl.replay ≠ [] → Goes (exec (.replayTimeout p) s) fun t =>
    (t.link p).ctl.replay = (s.link p).ctl.replay.map fun c => (c.1, c.2 + 1)) ∧
  (∀ h : CellHdr, (s.link p).ctl.waiting = [] → Goes (exec (.idle p h) s) fun t =>
    (t.link p).ctl.replay = ((s.link p).ctl.acked h.ack).replay ∧
    (Expected s p h → h.cred ≠ 0 → (t.link p).ctl.rcvSeq = (s.link p).ctl.rcvSeq + 1 ∧
      (p ≠ .zhosel → (t.link p).cred0 = (s.link p).cred0 + h.cred.toNat % 16 ∧
        (t.link p).cred1 = (s.link p).cred1 + h.cred.toNat / 16)) ∧
    (h.seq ≠ (s.link p).ctl.rcvSeq ∨ h.cred = 0 → (t.link p).ctl.rcvSeq = (s.link p).ctl.rcvSeq ∧
      (t.link p).cred0 = (s.link p).cred0)) ∧
  (∀ (h : CellHdr) (u st : BitVec 4) (op tag : Byte) (body : Bytes) (k : Byte × Byte × Nat), Expected s p h →
    (s.link p).ctl.waiting = [] → ((s.link p).tags.find? fun t => t.1 == tag && t.2.1 == op) = some k → op ≠ 0x01 →
    op ≠ 0x0B → Goes (exec (.resp p h u st op tag body) s) fun t => (t.link p).tags = (s.link p).tags.erase k ∧
      (t.link p).ctl.rcvSeq = (s.link p).ctl.rcvSeq + 1)

/-- A part of Obligations.LinkFailures. R94, R106, R122, R125: silence on lane 0, or block lock lost on an uplink lane in use
(counted), starts a retrain, which for Zhosel closes every write gate; a retrain that ends with lanes enough is up again and
sends the outstanding cells anew, and a third failure within a second takes the link down. -/
def Sys2Proof.Machine.RetrainsAndLinkDown : Prop := ∀ (s : State) (p : Port),
  (s.linkUp p = true → Goes (exec (.lane0Silence p) s) (fun t => t.linkState p = 4 ∧
      t.get (portFld Reg.ELK.STATUS.RETRAINS p) = min (s.get (portFld Reg.ELK.STATUS.RETRAINS p) + 1) 255 ∧
      (p = .zhosel → t.rep.linkHold = true ∧ t.rep.gates = [false, false, false, false])) ∧
    (∀ lane, lane ∈ (s.link p).lanes p false → Goes (exec (.blockLockLost p false lane) s) fun t => t.linkState p = 4 ∧
      t.get (portFld Reg.ELK.ERRORS.BLK_ERR p) = min (s.get (portFld Reg.ELK.ERRORS.BLK_ERR p) + 8) 255)) ∧
  (s.linkState p = 4 → ∀ now : Nat,
    Goes (exec (.linkRetrain p true 31 3 now) s) (fun t => t.linkState p = 2 ∧
      (∃ more, (t.link p).ctl.replay.map (fun c => c.1) = (s.link p).ctl.replay.map (fun c => c.1) ++ more) ∧
      (t.link p).ctl.nakSent = false ∧ (p = .zhosel → t.servoA.withheld = true ∧ t.servoB.withheld = true)) ∧
    Goes (exec (.linkRetrain p false 31 3 now) s) (fun t =>
      if ((s.link p).failedAt.filter fun k => decide (now - k ≤ 1000)).length < 2 then
        t.linkState p = 4 ∧ (t.link p).failedAt = ((s.link p).failedAt.filter fun k => decide (now - k ≤ 1000)) ++ [now]
      else t.linkState p = 0))

/-- A part of Obligations.LinkFailures. R111 to R113, R120, R121, R249, R252: a shock alarm closes the gates of its actuator and
withholds its permit; an assist fault shows; a short circuit retires its head in a start; a hot front end, a monitor report, a
status report and samples are taken in order; PFAIL closes every gate and starts the save where warm-valid is set. -/
def Sys2Proof.Machine.AlarmsAndReports : Prop := ∀ (s : State) (now : Nat),
  (∀ x : Act, Goes (exec (.alm .zhosel 0x20 (BitVec.ofNat 8 (2 ^ x.num)) 0xDF now) s) fun t => (t.servo x).shock = true ∧
    (t.servo x).withheld = true ∧ t.get (Reg.SLE.ACT_STATUS.PERMIT x.num) = 0 ∧
    t.rep.gates.getD (chanOf x 0) false = false ∧ t.rep.gates.getD (chanOf x 1) false = false) ∧
  (∀ (x : Act) (m : Byte), m.toNat % 4 ≠ 0 → Goes (exec (.alm x.port 0x03 m 0xFC now) s) fun t =>
    t.get Reg.EAC.STATUS.FAULT = 1) ∧
  (∀ (p : Port) (a m c : Byte), c ≠ a ^^^ 0xFF → Goes (exec (.alm p a m c now) s) fun t => t.regs = s.regs ∧ t.rep = s.rep) ∧
  (∀ (x : Act) (h : CellHdr) (d : BitVec 16) (w : Word), Expected s x.port h →
    (∀ k : Byte, k.toNat < 12 → s.phase < 11 → Goes (exec (.event x.port h 0x01 k d w now) s) fun t =>
      12 * x.num + k.toNat ∈ t.stripe.retired) ∧
    (∀ k : Byte, s.media.hot.length = 2 → Goes (exec (.event x.port h 0x07 k d w now) s) fun t =>
      (t.media.hot.getD x.num none).isSome = true ∧ t.rep.gates.getD (chanOf x 0) false = false)) ∧
  (∀ (x : Act) (h : CellHdr) (m : MonBody), Expected s x.port h → Goes (exec (.mon x h m) s) fun t =>
    (match x with | .a => t.rep.monA | .b => t.rep.monB) = some m) ∧
  (∀ (h : CellHdr) (m : MstatBody), Expected s .zhosel h → Goes (exec (.mstat h m) s) fun t => t.rep.mstat = some m ∧
    (m.retA = true → s.servoA.unloading = true → s.actState .a = 6 → t.actState .a = 0)) ∧
  (∀ (x : Act) (h : CellHdr) (u : Fin 2) (f : SmplFlags) (w : Word) (xs : List Int) (bs : List ChanBit) (c : Rwc),
    Expected s x.port h → s.rwcs[chanOf x u.val]? = some c → Goes (exec (.smpl x h u f w xs bs) s) fun t =>
      (t.rwcs[chanOf x u.val]?).map (fun c => c.next) = some (w + BitVec.ofNat 32 xs.length)) ∧
  (s.dma.paused = false → Goes (exec .pfail s) fun t => t.dma.paused = true ∧ t.motion.powerFail = true ∧
    t.rep.gates.getD 0 false = false ∧ t.rep.gates.getD 3 false = false ∧
    (s.flag Reg.NST.START.WARM_VALID = true → t.chest.saving = true))

/-- O21 (tier 2). R106, R111 to R113, R122, R125: retrains, links that go down, alarms and reports. -/
def Obligations.LinkFailures : Prop := RetrainsAndLinkDown ∧ AlarmsAndReports

/-- What a command that the motion power chip executes leaves: both front ends and their links. -/
structure OnlyMotion (s t : State) : Prop where
  feA   : t.feA = s.feA
  feB   : t.feB = s.feB
  linkA : t.linkA = s.linkA
  linkB : t.linkB = s.linkB

/-- A part of Obligations.MotionChip. R118, R130, R131: a motion power chip that hears its link executes IDENT, CONFIG, AUX,
SPIN_MODE, SPIN_TABLE and SPIN_DRIVE as their table gives and answers each; a value out of range is answered with STATUS 2 and
changes nothing of the chip, and a late SPIN_DRIVE applies with its angle advanced and says so. -/
def Sys2Proof.Machine.MotionChipExecutes : Prop := ∀ (s : State) (tag : Byte), s.motHears = true →
  Goes (exec (.zhoselIdent tag) s) (fun t => t.motion = s.motion ∧
    Answered t .zhosel 0 0 0x01 tag (padTo 20 (Config.partnerIdent 2)) ∧ OnlyMotion s t) ∧
  (∀ p l k r : BitVec 16, Goes (exec (.zhoselConfig tag p l k r) s) fun t => OnlyMotion s t ∧
    if 5 ≤ p.toNat ∧ p.toNat ≤ 1000 ∧ 500 ≤ l.toNat ∧ l.toNat ≤ 10000 ∧ 10 ≤ r.toNat ∧ r.toNat ≤ 200 then
      t.motion = { s.motion with mstat := p, linkTmo := l, shockWi := k, retractUs := r } ∧
      Answered t .zhosel 0 0 0x02 tag []
    else t.motion = s.motion ∧ Answered t .zhosel 0 2 0x02 tag []) ∧
  (∀ on : Byte, on.toNat ≤ 1 → Goes (exec (.aux tag on) s) fun t => t.motion = { s.motion with aux := on != 0 } ∧
    Answered t .zhosel 0 0 0x03 tag [] ∧ OnlyMotion s t) ∧
  (∀ (m n : Byte) (l : BitVec 16), m.toNat ≤ 3 → n = 16 ∨ n = 32 ∨ n = 64 → Goes (exec (.spinMode tag m n l) s) fun t =>
    t.motion.mode = m.toNat ∧ t.motion.samples = n.toNat ∧ t.motion.limit = l ∧ t.motion.table = s.motion.table ∧
    Answered t .zhosel 0 0 0x10 tag [] ∧ OnlyMotion s t) ∧
  (∀ (b : BitVec 16) (es : List (BitVec 16)), b.toNat % 8 = 0 → b.toNat < 1024 → es.length = 8 →
    Goes (exec (.spinTable tag b es) s) fun t => Answered t .zhosel 0 0 0x11 tag [] ∧ OnlyMotion s t ∧
      t.motion.table.length = s.motion.table.length ∧ ∀ i, i < s.motion.table.length → t.motion.table.getD i 0 =
        if b.toNat ≤ i ∧ i < b.toNat + 8 then (es.getD (i - b.toNat) 0).toInt else s.motion.table.getD i 0) ∧
  (∀ (a g r : Word) (amp : BitVec 16) (lt : Word), Goes (exec (.spinDrive tag a g r amp lt) s) fun t =>
    t.motion.rate = r.toInt ∧ t.motion.ampl = amp ∧ OnlyMotion s t ∧
    if ltPassed a lt = true then t.motion.applyLt = lt ∧ t.motion.angle = g + r * (lt - a) ∧ Answered t .zhosel 0 0 0x12 tag [1]
    else t.motion.applyLt = a ∧ t.motion.angle = g ∧ Answered t .zhosel 0 0 0x12 tag [0])

/-- A part of Obligations.MotionChip. R118, R119, R121, R122: the coils named are enabled with their limits, RETRACT and a
silent link or a power failure retract, the loopback is refused unless the spindle stands and both actuators are retracted, and
a set-point applies to an enabled coil, is ignored for a retracted one and is discarded and counted when more than 20 µs late.
-/
def Sys2Proof.Machine.CoilsAndSetPoints : Prop := ∀ (s : State),
  (s.motHears = true → ∀ tag : Byte,
    (∀ (m : Byte) (a b : BitVec 16), m.toNat ≤ 3 → Goes (exec (.vcmEn tag m a b) s) fun t =>
      (m.getLsbD 0 = true → t.motion.vcmA = true ∧ t.motion.limA = a ∧ t.motion.retractA = false) ∧
      (m.getLsbD 0 = false → t.motion.vcmA = s.motion.vcmA ∧ t.motion.limA = s.motion.limA) ∧
      (m.getLsbD 1 = true → t.motion.vcmB = true ∧ t.motion.limB = b ∧ t.motion.retractB = false) ∧
      Answered t .zhosel 0 0 0x20 tag []) ∧
    (∀ (x : Act) (i j : Byte), i.toNat ≤ 11 → j.toNat ≤ 11 → Goes (exec (.maSelect x tag i j) s) fun t =>
      t.motion.ma = (s.motion.ma.set (2 * x.num) i.toNat).set (2 * x.num + 1) j.toNat ∧
      Answered t .zhosel x.num 0 0x21 tag []) ∧
    (∀ m : Byte, m.toNat ≤ 3 → Goes (exec (.retract tag m) s) fun t =>
      (m.getLsbD 0 = true → t.motion.retractA = true ∧ t.motion.vcmA = false) ∧
      (m.getLsbD 0 = false → t.motion.retractA = s.motion.retractA ∧ t.motion.vcmA = s.motion.vcmA) ∧
      (m.getLsbD 1 = true → t.motion.retractB = true ∧ t.motion.vcmB = false) ∧ Answered t .zhosel 0 0 0x22 tag []) ∧
    (∀ rpm : Nat, Goes (exec (.zhoselLoop tag 3 rpm) s) fun t =>
      if s.motion.mode = 0 ∧ rpm < 30 ∧ s.motion.retractA = true ∧ s.motion.retractB = true then t.motion.loop = true ∧
        Answered t .zhosel 0 0 0x30 tag []
      else t.motion.loop = s.motion.loop ∧ Answered t .zhosel 0 3 0x30 tag []) ∧
    (∀ (w : BitVec 16) (a : Word) (v m0 m1 : BitVec 16) (lt : Word),
      (s.motion.vcmA = true → s.motion.retractA = false → ltPassed a lt = false →
        Goes (exec (.setpt .a w a v m0 m1 lt) s) fun t => t.motion.spA.applyLt = a ∧ t.motion.spA.vcm = v.toInt ∧
          t.motion.spB = s.motion.spB) ∧
      (s.motion.retractB = true → Goes (exec (.setpt .b w a v m0 m1 lt) s) fun t => t.motion.spB = s.motion.spB ∧
        t.motion.discarded = s.motion.discarded) ∧
      (s.motion.vcmB = true → s.motion.retractB = false → ltPassed a lt = true → 2500 < (lt - a).toNat →
        Goes (exec (.setpt .b w a v m0 m1 lt) s) fun t => t.motion.spB = s.motion.spB ∧
          t.motion.discarded = min 255 (s.motion.discarded + 1)))) ∧
  (s.linkUp .zhosel = false → s.motion.inReset = false → Goes (exec .linkTmoExpire s) fun t => t.motion.retractA = true ∧
    t.motion.retractB = true ∧ t.motion.vcmA = false ∧ t.motion.vcmB = false ∧ t.motion.hold = (s.motion.mode == 1)) ∧
  (s.motion.powerFail = true → Goes (exec .retractDelayExpire s) fun t => t.motion.retractA = true ∧
    t.motion.retractB = true ∧ t.motion.vcmA = false ∧ t.motion.vcmB = false)

/-- O22 (tier 2). R118, R119: what the motion power chip executes and answers; coils and set points. -/
def Obligations.MotionChip : Prop := MotionChipExecutes ∧ CoilsAndSetPoints

/-- O23 (tier 2). R136 to R138, R434: after the start a speed demand is taken; a stopped spindle with demand enough observes its
rotor with the target of the demand, and a lower target is taken only once the dirty data are within the limit, a target of 0 by
braking. -/
def Obligations.SpeedDemandAndTarget : Prop := ∀ (s : State),
  (∀ d : Byte, s.phase = 15 → Goes (exec (.speedDemandChange d) s) fun t => t.spin.demand = d.toNat ∧
    (s.spinState = 0 → s.spinCfg.turnOn ≤ d.toNat → t.spinState = 1 ∧
      t.target = s.targetOf d.toNat % 2 ^ Reg.SPC.SPEED.TARGET.width) ∧
    (s.spinState = 5 → s.spin.braking = false → s.spinCfg.turnOff < d.toNat → s.target < s.targetOf d.toNat →
      t.spin.pending = some (s.targetOf d.toNat) ∧ t.target = s.target)) ∧
  (∀ n : Nat, s.spin.pending = some n → n < s.target → s.spinState ≠ 6 → Goes (exec .targetLower s) fun t =>
    if s.dirty true ≤ s.buf.limit then t.spin.pending = none ∧ t.target = n ∧
      t.get Reg.SPC.STATUS.AT_SPEED = 0 ∧ t.get Reg.SPC.STATUS.WRITE_HOLD = 1 ∧
      (n = 0 → t.spinState = 2 ∧ t.spin.braking = true)
    else t = s) ∧
  (s.spinState = 2 → s.spin.braking = true → s.phase ≠ 15 → Goes (exec .brakeBelow30rpm s) fun t => t.spinState = 0 ∧
    t.get Reg.SPC.SPEED.RPM = 0 ∧ t.target = 0 ∧ t.spin.braking = false) ∧
  (s.spinState = 2 → s.spin.braking = false → Goes (exec .brakeBelow30rpm s) fun t => t.spinState = 3 ∧
    t.spin.tableSent = true)

/-- A part of Obligations.SpindleStartsAndFails. R139 to R142: observation with less than two crossings leads to alignment; the
alignment's end to the open-loop ramp, whose end starts the observer; a handover that fails is tried again, the third failure
being a fault; the alignment's drive rises over 0.1 s, and the coast's end measures the inertia. -/
def Sys2Proof.Machine.SpindleStarts : Prop := ∀ (s : State),
  (s.spinState = 1 → s.spin.seen.length < 2 → Goes (exec .observationEnd s) fun t => t.spinState = 3 ∧
    t.get Reg.SPC.STATUS.BACKWARD = 0 ∧ t.spin.seen = []) ∧
  (s.spinState = 3 → Goes (exec .alignmentDone s) fun t => t.spinState = 4 ∧ t.spin.ampl = 65535) ∧
  (s.spinState = 4 → s.spin.handover = false → Goes (exec .openLoopRampDone s) fun t => t.spin.handover = true ∧
    t.spin.obs.omega = s.omegaOf 300 ∧ t.spinState = 4) ∧
  (∀ m : Bool, s.spinState = 4 → s.spin.handover = true → Goes (exec (.handoverTimeout m) s) fun t =>
    t.spin.attempts = s.spin.attempts + 1 ∧
    if s.spin.attempts < 2 then t.spinState = 3 ∧ t.spin.handover = false
    else t.spinState = 7 ∧ t.get Reg.SPC.FAULT.DETAIL = (if s.spin.moved || m then 3 else 2)) ∧
  (∀ lt f : Word, s.spinState = 3 → s.spin.riseFrom = some f → Goes (exec (.spinDriveRefresh lt) s) fun t =>
    t.spin.ampl = 65535 * min (lt - f).toNat 12500000 / 12500000 ∧ t.spinState = 3) ∧
  (∀ r d : Nat, s.spinState = 5 → s.spin.coast = true → Goes (exec (.jCoastEnd r d) s) fun t => t.spin.coast = false ∧
    t.get Reg.SPC.STATUS.J_MEASURED = 1 ∧ t.spin.riseFrom = none ∧ t.spin.fromRest = false)

/-- A part of Obligations.SpindleStartsAndFails. R132, R141, R143 to R145, R151: crossings are collected while the bridge is
tristated and end the observation at 18; an ELEC cell in closed loop gives the observer its back-EMF; a rotor that recovery
finds slow starts again from observation with the heads unloaded; braking or spinning up for too long is a fault, recorded,
which holds a start, and one retry follows. -/
def Sys2Proof.Machine.SpindleSeesAndFails : Prop := ∀ (s : State),
  (∀ (h : CellHdr) (es : List ZcEntry) (now : Nat), Expected s .zhosel h → s.spinState = 1 →
    Goes (exec (.zc h es now) s) fun t =>
      if (s.spin.seen ++ (es.take 3).map fun e => (⟨e.lt, e.phase.toNat, e.rising⟩ : Crossing)).length < 18 then
        t.spin.seen = s.spin.seen ++ (es.take 3).map (fun e => (⟨e.lt, e.phase.toNat, e.rising⟩ : Crossing)) ∧ t.spinState = 1
      else t.spinState = 2 ∨ t.spinState = 3 ∨ t.spinState = 5) ∧
  (∀ (h : CellHdr) (k : BitVec 16) (lt : Word) (a b u v w : Int) (now : Nat), Expected s .zhosel h → k.toNat < 64 →
    s.spinState = 5 → s.spin.obs.prev = none → Goes (exec (.elec h k lt a b u v w now) s) fun t =>
      (t.spin.obs.prev.map fun p => (p.lt, p.iU, p.iV)) = some (lt, a, b) ∧ t.spinState = 5) ∧
  (∀ f now : Nat, s.spinState = 6 →
    (s.spin.seen = [] → Goes (exec (.rotorRecoveryEnd f now) s) fun t => t.spinState = 1 ∧ t.spin = s.spin) ∧
    (2 ≤ s.spin.seen.length → s.seenRpm s.spin.seen * 100 < s.target * 85 → Goes (exec (.rotorRecoveryEnd f now) s) fun t =>
      t.spinState = 1 ∧ t.spin.respinAt = some now ∧ t.spin.seen = [] ∧ t.spin.attempts = 0)) ∧
  (s.spinState = 2 → s.spin.braking = false → Goes (exec .brakeTimeout s) fun t => t.spinState = 7 ∧
    t.get Reg.SPC.FAULT.DETAIL = 1 ∧ t.get Reg.SPC.FAULT.VALID = 1 ∧ t.spin.faults = s.spin.faults + 1 ∧ t.buf.limit = 0) ∧
  (s.phase = 8 → s.start.rst = .running → s.held = false → s.get Reg.SPC.STATUS.AT_SPEED = 0 →
    Goes (exec .spinUpTimeout s) fun t => t.spinState = 7 ∧ t.get Reg.SPC.FAULT.DETAIL = 4 ∧
      t.get Reg.NST.BOOT_STATUS.HELD = 1 ∧ (s.start.sev < 2 → t.get Reg.NST.BOOT_STATUS.CODE = 0x70) ∧
      t.cqu.notReady = some true) ∧
  (s.spinState = 7 → s.spin.retryDue = true → Goes (exec .spindleFaultRetry s) fun t => t.spinState = 1 ∧
    t.spin.retryDue = false ∧ t.spin.attempts = 0)

/-- O24 (tier 2). R132 to R151: the spindle starts, is seen by its crossings, and fails. -/
def Obligations.SpindleStartsAndFails : Prop := SpindleStarts ∧ SpindleSeesAndFails

/-- O25 (tier 2). R168, R170, R172, R181, R184: an arm that follows a track with no transfer seeks the target in its reference
frame, and keeps the request while it moves; a micro-seek within reach moves the unit's offset, a head switch selects the head,
and a transferring unit waits; an unload seeks track 0, or retracts without a position. -/
def Obligations.ServoMoves : Prop := ∀ (s : State) (x : Act) (h : Nat) (p : Int), h / 12 = x.num →
  s.stripe.retired.contains h = false → (s.servo x).unloading = false →
  (s.actState x = 4 → (s.servo x).seek = none → s.armFree x = true → Goes (exec (.seek x (some (h, p)) none) s) fun t =>
    t.actState x = 2 ∧ (t.servo x).seek = some ⟨(s.servo x).arm, s.inFrame h p, 0, 0, 0⟩ ∧ (t.servo x).nextSeek = none ∧
    t.unitHead x 0 = h ∧ t.get (Reg.SLE.ACT_STATUS.PERMIT x.num) = 0) ∧
  (s.actState x = 2 ∨ s.actState x = 3 → exec (.seek x (some (h, p)) none) s =
    .next (s.setServo x { s.servo x with nextSeek := some (some (h, p), none) })) ∧
  (∀ u : Fin 2, s.actState x = 4 → (s.servo x).seek = none →
    (s.transferring x u.val = false → s.alone h = false →
      ((intAbs (s.inFrame h p - (s.servo x).arm) : Int) : Rat) * 4 ≤ 3 * s.gain h * 65536 →
      (s.unitHead x u.val = h → Goes (exec (.microSeek x u h p) s) fun t =>
        ((t.servo x).unit u.val).offset = s.inFrame h p - (s.servo x).arm ∧ t.unitHead x u.val = h ∧ t.actState x = 4) ∧
      (s.unitHead x u.val ≠ h → Goes (exec (.headSwitch x u h p) s) fun t =>
        ((t.servo x).unit u.val).offset = s.inFrame h p - (s.servo x).arm ∧ t.unitHead x u.val = h ∧
        ((t.servo x).unit u.val).window = 2 ∧ ((t.servo x).unit u.val).missRun = 0)) ∧
    (s.transferring x u.val = true → Goes (exec (.headSwitch x u h p) s) fun t =>
      ((t.servo x).unit u.val).pend = some (h, p) ∧ t.regs = s.regs)) ∧
  (s.actState x = 2 ∨ s.actState x = 3 ∨ s.actState x = 4 → Goes (exec (.unload x) s) fun t => t.actState x = 2 ∧
    (t.servo x).unloading = true ∧ (t.servo x).seek = some ⟨(s.servo x).arm, 0, 0, 0, 0⟩ ∧
    t.rep.gates.getD (chanOf x 0) false = false ∧ t.rep.gates.getD (chanOf x 1) false = false) ∧
  (s.actState x = 0 ∨ s.actState x = 6 ∨ s.actState x = 7 → exec (.unload x) s = .next s) ∧
  (s.actState x = 5 → Goes (exec (.acquisitionTimeout x) s) fun t => t.actState x = 6 ∧ (t.servo x).unloading = true ∧
    (t.servo x).seek = none)

/-- O26 (tier 2). R160, R171, R176, R177, R183: a wedge that a head on the track misses, or any wedge outside track-follow,
withholds the write permit; a revolution's end carries its shock over; the tables are saved at most once an hour; a quiet time
ends a shock; a background pass enters a head's map. -/
def Obligations.ServoWedgesAndLearning : Prop := ∀ (s : State) (x : Act),
  (∀ (o0 o1 : WedgeObs) (b : Bool), s.actState x = 2 ∨ s.actState x = 3 ∨ s.actState x = 5 ∨
    (s.actState x = 4 ∧ s.unitOn x 0 = true ∧ o0.found = false) → Goes (exec (.servoWedge x o0 o1 b) s) fun t =>
      t.get (Reg.SLE.ACT_STATUS.PERMIT x.num) = 0) ∧
  (∀ (e0 e1 : List Int) (m : Option Int), s.actState x = 2 ∨ s.actState x = 3 ∨ s.actState x = 4 ∨ s.actState x = 5 →
    Goes (exec (.servoRevolution x e0 e1 m) s) fun t => (t.servo x).shockPrev = (s.servo x).shockRev ∧
      (t.servo x).shockRev = (s.servo x).shock ∧ (t.servo x).missRev = false) ∧
  (∀ (n k : Nat), s.tables.savedAt = some k → s.flag Reg.SLE.RRO_STATUS.SAVE_PENDING = true → s.power.trans = none →
    (k + 60 ≤ n → Goes (exec (.calSave n) s) fun t => t.get Reg.SLE.RRO_STATUS.SAVE_PENDING = 0 ∧
      t.tables.savedAt = some n ∧ t.media.changed = false) ∧
    (n < k + 60 → exec (.calSave n) s = .next s)) ∧
  exec (.shockQuietExpire x) s = .next (s.setServo x { s.servo x with shock := false }) ∧
  (∀ (h : Nat) (l : List Int), s.phase = 15 → h / 12 = x.num → s.tables.bandsLeft.contains h = true → l.length = 16 →
    Goes (exec (.mapBackgroundPass x h l) s) fun t => t.tables.map = setAt s.tables.map h l ∧
      h ∉ t.tables.bandsLeft ∧ (s.tables.bandsLeft = [h] → t.get (Reg.SLE.CAL.MAP_PARTIAL x.num) = 0))

/-- O27 (tier 2). R182, R183, R63: a head load at speed starts the first pulse with unit 0 searching on the reference head; a
pulse ends, is repeated up to three times without an acquisition, and then the load has failed, which in P9 holds the start with
code 0x80; the servo calibration of P9 takes both actuators' measurements. -/
def Obligations.HeadLoadAndCalibration : Prop := ∀ (s : State) (x : Act) (lt : Word),
  (s.phase = 9 ∨ s.phase = 15 → s.held = false → s.actState x = 0 ∨ s.actState x = 6 → s.speedOver 90 = true →
    s.linkUp .zhosel = true → s.linkUp x.port = true → Goes (exec (.headLoad x lt) s) fun t => t.actState x = 1 ∧
      (t.servo x).load.pulses = 1 ∧ (t.servo x).load.pulsing = true ∧ t.unitOn x 0 = true ∧ t.unitHead x 0 = 12 * x.num) ∧
  (s.actState x = 1 → (s.servo x).load.pulsing = true → Goes (exec (.loadPulseEnd x lt) s) fun t => t.actState x = 1 ∧
    (t.servo x).load.pulsing = false ∧ (t.servo x).load.pulses = (s.servo x).load.pulses) ∧
  (∀ now : Nat, s.actState x = 1 → (s.servo x).load.pulsing = false → (s.servo x).load.acquired = [] →
    ((s.servo x).load.pulses < 4 → Goes (exec (.loadAcquisitionTimeout x lt now) s) fun t => t.actState x = 1 ∧
      (t.servo x).load.pulses = (s.servo x).load.pulses + 1 ∧ (t.servo x).load.pulsing = true) ∧
    (4 ≤ (s.servo x).load.pulses → s.phase = 9 → Goes (exec (.loadAcquisitionTimeout x lt now) s) fun t =>
      t.actState x = 6 ∧ t.get Reg.NST.BOOT_STATUS.HELD = 1 ∧ t.cqu.notReady = some true ∧
      (s.start.sev < 2 → t.get Reg.NST.BOOT_STATUS.CODE = 0x80 ∧ t.get Reg.NST.BOOT_STATUS.UNIT = x.num))) ∧
  (∀ a b : CalMeas, s.inPhase 9 = true → s.held = false → s.actState .a = 4 → s.actState .b = 4 →
    s.get Reg.NST.START.DRAM_SR_KEPT = 0 → Goes (exec (.servoCalibration a b) s) fun t =>
      t.get (Reg.SLE.CAL.BVC 0) = a.bvc.toNat ∧ t.get (Reg.SLE.CAL.BVC 1) = b.bvc.toNat ∧
      t.get (Reg.SLE.CAL.CAL_VALID 0) = 1 ∧ t.get (Reg.SLE.CAL.CAL_VALID 1) = 1 ∧ t.tables.intact = true)

/-- O28 (tier 2). R197, R199, R200, R216, R243: the run at the head of the FIFO starts where its condition is met, a write run
with its gate open, and waits for its slot otherwise; an unknown kind is reported and passed over; a halted sequencer does
nothing; a run that is done ends with its report and its gate closed, and a stopped write goes back to the media scheduler
whole. -/
def Obligations.RunsOnTheSequencers : Prop := ∀ (s : State) (n : Fin 4) (f : Fsq), s.fsqs[n.val]? = some f →
  (s.get (Reg.FSQ.STATUS.STATE n) = 5 → ∀ p o e, exec (.fsqRun n p o e) s = .next s) ∧
  (∀ (r : RunCmd) (rest : List RunCmd), s.get (Reg.FSQ.STATUS.STATE n) ≠ 5 → s.chanOut n = false → f.cur = none →
    f.fifo = r :: rest →
    (6 ≤ r.kind.toNat → Goes (exec (.fsqRun n [] [] []) s) fun t => (t.fsqs[n.val]?).map (fun g => (g.fifo, g.cur, g.report)) =
      some (rest, none, some ⟨r.tag, 0xF, r.firstSlot.toNat, 0, false⟩)) ∧
    (r.kind.toNat < 6 → Goes (exec (.fsqRun n [] [] []) s) fun t =>
      let u := s.setFsq n { f with fifo := rest, cur := some r, done := 0, slot := r.firstSlot.toNat }
      (t.fsqs[n.val]?).map (fun g => (g.cur, g.done)) = some (some r, 0) ∧
      if u.mayStart n r = true then
        t.get (Reg.FSQ.STATUS.STATE n) = (if r.kind = 5 then 6 else if r.kind = 1 ∨ r.kind = 4 then 3 else if r.kind = 2 then 4
          else 2) ∧ (runWrites r = true → s.rep.gates.length = 4 → t.rep.gates.getD n false = true)
      else t.get (Reg.FSQ.STATUS.STATE n) = 1 ∧ t.rep = s.rep)) ∧
  (s.get (Reg.FSQ.STATUS.STATE n) = 1 → Goes (exec (.missedRevolution n) s) fun t =>
    t.get (Reg.FSQ.COUNTS.MISSED_REV n) = min (s.get (Reg.FSQ.COUNTS.MISSED_REV n) + 1)
      (2 ^ (Reg.FSQ.COUNTS.MISSED_REV n).width - 1) ∧ t.fsqs = s.fsqs) ∧
  (∀ r : RunCmd, f.cur = some r → 2 ≤ s.get (Reg.FSQ.STATUS.STATE n) → s.get (Reg.FSQ.STATUS.STATE n) ≠ 5 →
    (f.stopped = false → r.count ≤ f.done → Goes (exec (.runEnd n) s) fun t => t.get (Reg.FSQ.STATUS.STATE n) = 0 ∧
      t.rep.gates.getD n false = false ∧ (t.fsqs[n.val]?).map (fun g => (g.cur, g.report)) =
        some (none, some ⟨r.tag, f.status, f.slot, f.done, false⟩)) ∧
    (f.stopped = true → r.kind = 1 → Goes (exec (.runEnd n) s) fun t => t.get (Reg.FSQ.STATUS.STATE n) = 0 ∧
      t.rep.gates.getD n false = false ∧ (∃ q ∈ t.cqu.runs, q.run = r)))

/-- O29 (tier 2). R233 to R237, R239: the pool grants its lowest free engine to a first decode before any retry work; a decode
whose CRC fails under a zero syndrome is a miscorrection, a first decode that fails is counted, a loopback's good sector leaves
the pool, and an engine in trouble is removed with its cause; an entry that expires is counted and freed; a reference decode
that differs removes its engine. -/
def Obligations.DecoderPool : Prop := ∀ (s : State),
  (∀ (e : Nat) (x : LdpSector), s.freeEngine = some e → s.nextGrant = some x → Goes (exec .decoderGrant s) fun t =>
    (∃ y ∈ t.media.sectors, y.engine = some e ∧ y.waiting = false ∧ y.ch = x.ch ∧ y.tag = x.tag ∧ y.idx = x.idx) ∧
    ((∃ y ∈ s.media.sectors, y.waiting = true ∧ y.first = true) → x.first = true)) ∧
  (∀ (e : Fin 6) (x : LdpSector), (s.media.sectors.find? fun y => y.engine == some e.val) = some x →
    (∀ (k : Nat) (p : Bytes) (c : Word) (now : Nat), x.step < 8 → sectorCrc (padTo 4096 p) x.dlba x.kind ≠ c →
      Goes (exec (.decodeEnd e true k p c 0 now) s) fun t =>
        t.get Reg.LDP.COUNTS.MISCORR = min (s.get Reg.LDP.COUNTS.MISCORR + 1) (2 ^ Reg.LDP.COUNTS.MISCORR.width - 1)) ∧
    (∀ (k : Nat) (p : Bytes) (c : Word) (now : Nat), x.step < 8 → x.first = true →
      Goes (exec (.decodeEnd e false k p c 0 now) s) fun t =>
        t.get Reg.LDP.COUNTS.OTF_FAIL = min (s.get Reg.LDP.COUNTS.OTF_FAIL + 1) (2 ^ Reg.LDP.COUNTS.OTF_FAIL.width - 1) ∧
        t.get Reg.LDP.COUNTS.MISCORR = s.get Reg.LDP.COUNTS.MISCORR) ∧
    (∀ (k : Nat) (p : Bytes) (now : Nat), x.step < 8 → x.loop = true →
      Goes (exec (.decodeEnd e true k p (sectorCrc (padTo 4096 p) x.dlba x.kind) 0 now) s) fun t =>
        ∀ y ∈ t.media.sectors, ¬ (y.ch = x.ch ∧ y.tag = x.tag ∧ y.idx = x.idx)) ∧
    (∀ (z : Bool) (k : Nat) (p : Bytes) (c : Word) (now : Nat), (s.get Reg.LDP.ENGINES.REMOVED).testBit e = false →
      Goes (exec (.decodeEnd e z k p c 1 now) s) fun t => (t.get Reg.LDP.ENGINES.REMOVED).testBit e = true ∧
        (t.get Reg.LDP.ENGINES.IN_SERVICE).testBit e = false ∧ t.get Reg.LDP.ENGINES.CAUSE = 1)) ∧
  (∀ (ch : Fin 4) (g : Word) (i : Nat) (x : LdpSector),
    (s.media.sectors.find? fun y => y.ch == ch.val && y.tag == g && y.idx == i && y.stored) = some x →
    Goes (exec (.retryStoreExpire ch g i) s) fun t =>
      t.get Reg.LDP.COUNTS.EXPIRED = min (s.get Reg.LDP.COUNTS.EXPIRED + 1) (2 ^ Reg.LDP.COUNTS.EXPIRED.width - 1) ∧
      (x.engine.isSome = true → ∀ y ∈ t.media.sectors, y.ch = x.ch → y.tag = x.tag → y.idx = x.idx → y.stored = false)) ∧
  (∀ g : BitVec 6, Goes (exec (.referenceDecode g) s) fun t => ∀ e : Nat, e < 6 →
    (g.getLsbD e = false → (s.get Reg.LDP.ENGINES.IN_SERVICE).testBit e = true →
      (t.get Reg.LDP.ENGINES.REMOVED).testBit e = true) ∧
    (g.getLsbD e = true → (s.get Reg.LDP.ENGINES.REMOVED).testBit e = false →
      (t.get Reg.LDP.ENGINES.REMOVED).testBit e = false))

/-- O30 (tier 2). R250, R251, R253: a head in use whose interval has passed is due; a calibration of seven scores takes the
temperature, the monitor and the head's number and is no longer due, one cut short stays due before the next write; the assist
part of P9 enters P10 with a head whose current moved due. -/
def Obligations.AssistCalibrations : Prop := ∀ (s : State) (h : Nat) (a : AssistHead), s.media.assist[h]? = some a →
  s.headInUse h = true →
  Goes (exec (.assistCalDue h) s) (fun t => t.media.assist[h]? = some { a with due := true } ∧
    (∀ k, k ≠ h → t.media.assist[k]? = s.media.assist[k]?)) ∧
  (∀ (sc : List (Nat × Nat)) (th : Nat) (sg : List Int) (temp : Int) (m : Nat), a.due = true → (∀ f ∈ s.fsqs, f.cur = none) →
    (7 ≤ sc.length → Goes (exec (.assistCalibration h sc th sg temp m) s) fun t =>
      (t.media.assist[h]?).map (fun b => (b.tcal, b.mcal, b.due, b.atOnce)) = some (temp, m, false, false)) ∧
    (sc.length < 7 → Goes (exec (.assistCalibration h sc th sg temp m) s) fun t =>
      (t.media.assist[h]?).map (fun b => (b.due, b.atOnce)) = some (true, true) ∧
      t.get (Reg.EAC.HEAD.RECAL_DUE h) = 1)) ∧
  (s.inPhase 9 = true → s.held = false → s.get (Reg.SLE.CAL.CAL_VALID 0) = 1 → s.get (Reg.SLE.CAL.CAL_VALID 1) = 1 →
    Goes (exec (.assistCheck [(h, 1)]) s) (fun t => t.phase = 10 ∧ t.media = s.media) ∧
    Goes (exec (.assistCheck [(h, 0)]) s) (fun t => t.phase = 10 ∧
      (t.media.assist[h]?).map (fun b => b.due) = some true))

/-- O31 (tier 2). R265, R269, R283, R304, R376: a complete stripe slot is launched with its BEGIN entry, but waits above the
boundary of a zone that moves; once BEGIN is durable its segments go out, once they are on media COMMIT is written, and once
COMMIT is durable the slot is released and its blocks are clean; a committed command's completion is posted and the command
leaves the store. -/
def Obligations.StripesReachMedia : Prop := ∀ (s : State) (n : Nat),
  (∀ x : SideSlot, s.slot? n = some x →
    (x.state = .complete → Goes (exec (.stripeLaunch n) s) fun t =>
      if ∃ p, s.place? x.zone = some p ∧ p.moving = true ∧ p.boundary < x.stripe then
        t.slot? n = some x ∧ t.stripe.journal = s.stripe.journal ∧ (t.place? x.zone).map (fun p => p.waiting) = some true
      else (t.slot? n).map (fun y => y.state) = some .begun ∧ (∃ b, t.stripe.journal.pending.map (fun e => e.2) =
        s.stripe.journal.pending.map (fun e => e.2) ++ [.begin_ x.zone x.stripe x.first x.blocks.length b])) ∧
    (x.state = .begun → s.entryDurable x = true → Goes (exec (.beginDurable n) s) fun t =>
      (t.slot? n).map (fun y => y.state) = some .writing ∧ t.stripe.journal = s.stripe.journal) ∧
    (x.state = .writing → x.underNext = false → Goes (exec (.stripeOnMedia n) s) fun t =>
      (t.slot? n).map (fun y => y.state) = some .committing ∧ t.stripe.journal.pending.map (fun e => e.2) =
        s.stripe.journal.pending.map (fun e => e.2) ++ [.commit x.zone x.stripe x.first x.blocks.length false]) ∧
    (x.state = .committing → s.entryDurable x = true → s.cqu.store = [] → s.cqu.nvme.shst ≠ 1 →
      Goes (exec (.commitDurable n) s) fun t => t.slot? n = none ∧ (∀ b ∈ t.buf.cache, b.slot ≠ some n))) ∧
  (∀ (c : Cmd) (st : Status) (q : Sq) (r : Cq), s.cqu.store = [c] → c.phase = .committed → c.status = some st →
    c.aborts = none → s.cqu.nvme.cfs = false → s.dma.paused = false → s.cqu.nvme.shst ≠ 1 → s.sq? c.sqid = some q →
    s.cq? q.cqid = some r → ringUsed r.size r.head r.tail + 1 < r.size → s.get Reg.HPT.LINK.DSTATE ≠ 3 →
    s.get Reg.HPT.LINK.PM_LINK ≠ 4 → Goes (exec (.completionPost c.fsn) s) fun t => t.cqu.store = [] ∧
      Out.cqe ⟨r.qid, r.tail, c.dw0, c.dw1, c.sqid, q.head, c.sqe.cid.toNat, r.phase, st⟩ ∈ t.hpt.out)

/-- O32 (tier 2). R269, R270, R272, R276: the journal's pending entries reach a Chest that takes writes and the bands that are
kept; a checkpoint writes the core map with the next generation, and the journal's chains start from it; a band moves to a live
surface that the other band does not use; the save area is erased block by block from STATE 3, and its end leaves STATE 0. -/
def Obligations.JournalAndCheckpoint : Prop := ∀ (s : State),
  Goes (exec .journalChestWrite s) (fun t =>
    if s.chest.writeOk.any id = true then t.stripe.journal.pending = [] ∧
      t.stripe.journal.chest = s.stripe.journal.chest ++ s.stripe.journal.pending
    else t = s) ∧
  Goes (exec .journalBandFlush s) (fun t =>
    t.stripe.journal.bandA = (if s.stripe.journal.surfA.isSome then s.stripe.journal.seq - 1 else s.stripe.journal.bandA) ∧
    t.stripe.journal.bandB = (if s.stripe.journal.surfB.isSome then s.stripe.journal.seq - 1 else s.stripe.journal.bandB) ∧
    t.stripe.journal.pending = s.stripe.journal.pending) ∧
  Goes (exec .metadataCheckpoint s) (fun t => t.core.gen = s.core.gen + 1 ∧ t.core.zones = s.zmu.zones ∧
    t.core.places = s.stripe.places ∧ t.core.keys = s.core.keys ∧ t.stripe.journal.ckptSeq = s.stripe.journal.seq ∧
    t.zmu.coreZone = 1 - s.zmu.coreZone ∧ (∀ l ∈ t.zmu.lines, l.dirty = false) ∧
    t.stripe.journal.pending = s.stripe.journal.pending ++ [(s.stripe.journal.seq, .metaCkpt (s.core.gen + 1))]) ∧
  (0 ∈ s.stripe.jmoves → Goes (exec (.journalBandMove .a) s) fun t => 0 ∉ t.stripe.jmoves ∧
    (∀ h, t.stripe.journal.surfA = some h → s.stripe.retired.contains h = false ∧ s.stripe.journal.surfB ≠ some h) ∧
    t.stripe.journal.surfB = s.stripe.journal.surfB) ∧
  (∀ d : Fin 2, s.phase = 15 → s.chest.saving = false →
    (s.chest.header.state = 3 → Goes (exec (.backgroundErase d) s) fun t => t.chest.header = s.chest.header ∧
      ∀ k, s.chest.erased[d.val]? = some k → t.chest.erased[d.val]? = some (min 1024 (k + 1))) ∧
    (s.chest.header.state = 2 → Goes (exec (.backgroundErase d) s) fun t => t.chest.header.state = 3)) ∧
  (s.chest.header.state = 3 → s.chest.saving = false → Goes (exec .backgroundEraseDone s) fun t => t.chest.header.state = 0 ∧
    t.chest.saved = [])

/-- O33 (tier 2). R277, R280 to R284, R288 to R291: a retired head is recorded in the journal, its members are lost in every
placement and no spare band on it is left; a degraded read that reconstructs its rows is counted and done; a moving zone's
boundary rises by up to eight stripes; a relocation waits while another move is due, and moves to a spare band else; a reshape
without a lost member is over, and an in-place chunk writes its checkpoint first. -/
def Obligations.HeadLossAndMoves : Prop := ∀ (s : State),
  (∀ (c : OptCfg) (h : Nat), s.cfg = some c → h ∈ c.geom.allSurfaces →
    (h ∉ s.stripe.retired → Goes (exec (.headRetire h) s) fun t => h ∈ t.stripe.retired ∧
      (∃ e ∈ t.stripe.journal.pending, e.2 = .retire h) ∧
      (∀ p ∈ t.stripe.places, (∀ m ∈ p.cur, m.surface = h → m.state = 1) ∧ (∀ x ∈ p.spares, x.1 ≠ h))) ∧
    (h ∈ s.stripe.retired → exec (.headRetire h) s = .next s)) ∧
  (∀ (c : Cmd) (f z i : Nat) (rows : List (Nat × List MemberRead)) (a : Bool), s.cmd? f = some c → c.phase = .snapped →
    (∀ g ∈ s.stripe.degraded, f ≤ g) → (∀ r ∈ rows, ∃ data, reconstruct s.width r.2 = some (data, true)) →
    Goes (exec (.degradedRead f z i rows a) s) fun t => f ∉ t.stripe.degraded ∧
      t.get Reg.STE.COUNTS.DEGRADED = min (s.get Reg.STE.COUNTS.DEGRADED + 1) (2 ^ Reg.STE.COUNTS.DEGRADED.width - 1)) ∧
  (∀ (z : Nat) (p : Placement), s.place? z = some p → p.moving = true →
    (s.nextRebuild = some z → p.boundary + 8 < s.highest z → p.boundary + 8 < 96 →
      Goes (exec (.rebuildChunk z []) s) fun t => (t.place? z).map (fun q => (q.boundary, q.moving)) =
        some (p.boundary + 8, true) ∧ (∃ e ∈ t.stripe.journal.pending, e.2 = .boundary z (p.boundary + 8))) ∧
    (p.inPlace = true → p.boundary + 8 < s.highest z → p.boundary + 8 < 96 →
      Goes (exec (.reshapeInPlaceChunk z) s) fun t => (t.place? z).map (fun q => q.boundary) = some (p.boundary + 8) ∧
        t.stripe.journal.pending.map (fun e => e.2) = s.stripe.journal.pending.map (fun e => e.2) ++
          [.ckpt z p.boundary (p.boundary + 8), .boundary z (p.boundary + 8)]) ∧
    (∀ m : Nat, Goes (exec (.relocation z m) s) fun t => (z, m) ∈ t.stripe.relocs ∧ t.stripe.places = s.stripe.places)) ∧
  (∀ (z m : Nat) (p : Placement) (x : Member) (b : Nat × Nat × Bool), s.place? z = some p → p.moving = false →
    s.stripe.rebuild = [] → m < p.d + 2 → p.cur[m]? = some x → x.state = 0 → x.surface ≠ 0xFF →
    chooseSpare p.d p.cur m p.spares = some b → Goes (exec (.relocation z m) s) fun t =>
      (t.place? z).map (fun q => (q.moving, q.kind, q.next)) = some (true, 2, p.cur.set m ⟨b.1, 2, b.2.1⟩)) ∧
  (∀ (z : Nat) (p : Placement), z ∈ s.stripe.reshape → s.place? z = some p → p.lostMembers = [] →
    Goes (exec (.reshape z) s) fun t => z ∉ t.stripe.reshape ∧ t.stripe.places = s.stripe.places)

/-- A part of Obligations.MemoryErrors. R305, R306: a correction of a unit enters an address new to the tracker as SEEN while it
has room, makes a SEEN one WRITTEN outside a hold-up save, and frees a WRITTEN one as a hard fault; the bucket's level rises by
one, and on reaching DEPTH falls to half of it with BUCKET_OVF set and a scrub pass of that memory running. The leak takes one
from the level, and an entry that ages out leaves the tracker. A unit outside the memory is a fault, by the model's choice
(assumption 22). -/
def Sys2Proof.Machine.CorrectionsTrackAndFill : Prop := ∀ (s : State) (m : Mem) (u : Nat),
  (∀ w b, s.unitExists m u = false → exec (.memoryCorrection m u w b) s = .fault (.noSuchAddress m u)) ∧
  (∀ w b, s.unitExists m u = true → Goes (exec (.memoryCorrection m u w b) s) fun t =>
    (match s.buf.track.find? fun e => e.mem == m && e.addr == u with
      | none => s.buf.track.length < 32 → t.buf.track = s.buf.track ++ [⟨m, u, false⟩]
      | some e =>
        if e.written = true then t.buf.track = untrack s.buf.track m u ∧ t.get Reg.MEC.TRACK.HARD =
          min (s.get Reg.MEC.TRACK.HARD + 1) (2 ^ Reg.MEC.TRACK.HARD.width - 1)
        else s.chest.saving = false → t.buf.track = untrack s.buf.track m u ++ [⟨m, u, true⟩] : Prop) ∧
    (∀ depth leak, s.bucketCfg m = some (depth, leak) → if depth ≤ s.get (bucketFlds m).1 + 1 then
        t.get (bucketFlds m).1 = depth / 2 % 2 ^ (bucketFlds m).1.width ∧ t.get Reg.MEC.STATUS.BUCKET_OVF = 1 ∧
        (t.scrub m).isSome = true
      else t.get (bucketFlds m).1 = (s.get (bucketFlds m).1 + 1) % 2 ^ (bucketFlds m).1.width)) ∧
  (∀ depth leak, s.bucketCfg m = some (depth, leak) → 0 < leak → Goes (exec (.bucketLeak m) s) fun t =>
    t.get (bucketFlds m).1 = s.get (bucketFlds m).1 - 1 ∧ OnlyFields [(bucketFlds m).1] s t) ∧
  Goes (exec (.trackerAgeOut m u) s) (fun t => t.buf.track = s.buf.track.filter (fun e => !(e.mem == m && e.addr == u)) ∧
    t.regs = s.regs)

/-- A part of Obligations.MemoryErrors. R309, R328, R408: an uncorrectable error sets UE with its memory and address and frees
its tracker entry; a poisoned dirty block stays in the cache marked, a clean one is dropped, a ring channel that read it ends
its descriptor with STATUS 0x01 and halts, the window's reader gets a poisoned completion. A unit outside the memory is a fault
(assumption 22). -/
def Sys2Proof.Machine.UncorrectableErrors : Prop := ∀ (s : State) (m : Mem) (u : Nat),
  (∀ r g, s.unitExists m u = false → exec (.uncorrectableError m u r g) s = .fault (.noSuchAddress m u)) ∧
  (∀ r g, s.unitExists m u = true → Goes (exec (.uncorrectableError m u r g) s) fun t =>
    t.get Reg.MEC.STATUS.UE = 1 ∧ t.get Reg.MEC.STATUS.UE_MEM = m.num ∧ t.get Reg.MEC.UE_ADDR.ADDR = u % 2 ^ 32 ∧
    t.buf.track = untrack s.buf.track m u) ∧
  (∀ d, s.unitExists m u = true → Goes (exec (.uncorrectableError m u .window (.dirtyCache d)) s) fun t =>
    (∀ b ∈ t.buf.cache, b.dlba = d → b.current = true → b.poisoned = true) ∧ t.buf.cache.length = s.buf.cache.length ∧
    (s.get Reg.HPT.LINK.DSTATE ≠ 3 → s.get Reg.HPT.LINK.PM_LINK ≠ 4 → t.hpt.out = s.hpt.out ++ [.poisoned])) ∧
  (∀ d, s.unitExists m u = true → Goes (exec (.uncorrectableError m u .mapFill (.cleanCache d)) s) fun t =>
    t.buf.cache = s.buf.cache.filter (fun b => !(b.dlba == d && !b.dirty)) ∧
    (∀ b ∈ t.buf.rcache, b.1 ≠ d)) ∧
  (∀ (n : Fin 64) (k : Nat) (d : Desc) (p : List Bytes) (r : Ring), s.unitExists m u = true → s.dma.rings[n.val]? = some r →
    r.cur = some (d, p) → Goes (exec (.uncorrectableError m u (.dma n k) .other) s) fun t => t.get (Reg.DMA.RING_STATUS.HALTED n) = 1 ∧
      t.get (Reg.DMA.RING_STATUS.LAST_STATUS n) = 1 ∧ t.get Reg.DMA.HALT_INFO.CHANNEL = n ∧
      t.get Reg.DMA.HALT_ADDR.ADDR = u % 2 ^ 32 ∧
      (t.dma.rings[n.val]?).map (fun q => (q.cur.isNone, q.idle)) = some (true, true))

/-- O34 (tier 2). R305 to R309: corrections of the memories, and uncorrectable errors. -/
def Obligations.MemoryErrors : Prop := CorrectionsTrackAndFill ∧ UncorrectableErrors

/-- O35 (tier 2). R310 to R312, R303: a scrub pass starts unless one of its memory runs, from the schedule untriggered and from
SCRUB_CTRL, in manufacturing mode only, triggered; its end replaces the summary of its memory with COMPLETE set; FLIP_CTRL arms
the mask in manufacturing mode only; the refresh rates that the devices report are taken outside self-refresh. -/
def Obligations.ScrubsAndFlips : Prop := ∀ (s : State) (m : Mem),
  Goes (exec (.scrubPassStart m) s) (fun t => t.regs = s.regs ∧
    t.scrub m = some ((s.scrub m).getD (0, 0, false))) ∧
  (∀ c e g, s.scrub m = some (c, e, g) → Goes (exec (.scrubPassEnd m) s) fun t => t.scrub m = none ∧
    t.get (scrubSum m).1 = min c 0xFFFF ∧ t.get (scrubSum m).2.1 = min e 0xFF ∧ t.get (scrubSum m).2.2.1 = 1 ∧
    t.get (scrubSum m).2.2.2 = (if g = true then 1 else 0)) ∧
  Goes (exec .startSram s) (fun t => if s.mfg = true ∧ s.buf.scrubS = none then t.buf.scrubS = some (0, 0, true) else t = s) ∧
  Goes (exec .startDram s) (fun t => if s.mfg = true ∧ s.buf.scrubD = none then t.buf.scrubD = some (0, 0, true) else t = s) ∧
  (∀ v : Word, Goes (exec (.flipArm v) s) fun t => if s.mfg = false then t = s else
    OnlyFields [Reg.MEC.FLIP_CTRL.ARM, Reg.MEC.FLIP_CTRL.MEM, Reg.MEC.FLIP_CTRL.MATCH, Reg.MEC.FLIP_CTRL.DONE,
      Reg.MEC.FLIP_CTRL.SRAM_MASK] s t ∧ (v.getLsbD 0 = true → t.get Reg.MEC.FLIP_CTRL.ARM = 1) ∧
    t.get Reg.MEC.FLIP_CTRL.MEM = v.toNat / 2 % 2 ∧ t.get Reg.MEC.FLIP_CTRL.MATCH = v.toNat / 4 % 2 ∧
    t.get Reg.MEC.FLIP_CTRL.SRAM_MASK = v.toNat / 256 % 2 ^ 13) ∧
  (∀ r : List Byte, Goes (exec (.refreshRatePoll r) s) fun t => if s.buf.selfRef = true then t = s else
    t = { s with buf := { s.buf with rates := r } })

/-- One row has been copied (R316, R319): every byte of the destination row holds the source's, and no other byte changed. -/
def Sys2Proof.Machine.RowCopied (d : Desc) (ms md : Mem) (s t : State) : Prop :=
  ∀ (m : Mem) (a : Nat), t.byte m a =
    if m = md ∧ d.dst.toNat ≤ a ∧ a < d.dst.toNat + d.len.toNat then s.byte ms (d.src.toNat + (a - d.dst.toNat)) else s.byte m a

/-- A descriptor of one row between two memories that nothing keeps from moving (R316, R328): no descriptor error, every byte in its
memory, no corrupted codeword and no flip mask armed. -/
def Sys2Proof.Machine.Movable (d : Desc) (ms md : Mem) (s : State) : Prop :=
  descBroken d = false ∧ s.hole d = none ∧ d.rows = 1 ∧ spaceMem d.srcSp.toNat = some ms ∧ spaceMem d.dstSp.toNat = some md ∧
    s.buf.flips = [] ∧ s.get Reg.MEC.FLIP_CTRL.ARM = 0

/-- A part of Obligations.RingChannels. R319, R328: a ring channel that may run takes the descriptor it finds owned, and idles
on one that is not; the descriptor's end moves its row, writes STATUS 0x00 and advances HEAD; a descriptor error moves nothing
and is STATUS 0x02. A row with bytes outside its memory is a fault, by the model's choice (assumption 22). -/
def Sys2Proof.Machine.RingDescriptors : Prop := ∀ (s : State) (n : Fin 64) (r : Ring), s.Sound → s.dma.rings[n.val]? = some r →
  (∀ d p, s.flag (Reg.DMA.RING_CFG.EN n) = true → s.flag (Reg.DMA.RING_STATUS.HALTED n) = false → s.dma.held n = false →
    r.cur = none → (r.idle = false ∨ r.kicked = true) → Goes (exec (.descriptorStart n d p) s) fun t =>
      t.dma.rings[n.val]? = some (if d.own = true then ⟨some (d, p), false, false⟩ else { r with kicked := false, idle := true }) ∧
      t.regs = s.regs ∧ t.buf = s.buf) ∧
  (∀ d p e, r.cur = some (d, p) → descBroken d = true → Goes (exec (.descriptorDone n e) s) fun t =>
    t.get (Reg.DMA.RING_STATUS.LAST_STATUS n) = 2 ∧ t.buf = s.buf ∧ t.hpt = s.hpt ∧
    t.dma.rings[n.val]? = some ⟨none, r.kicked, true⟩) ∧
  (∀ d p e m a, r.cur = some (d, p) → descBroken d = false → s.hole d = some (m, a) →
    exec (.descriptorDone n e) s = .fault (.noSuchAddress m a) ∧ exec (.abort n) s = .fault (.noSuchAddress m a)) ∧
  (∀ d p ms md, r.cur = some (d, p) → Movable d ms md s → Goes (exec (.descriptorDone n false) s) fun t =>
    t.get (Reg.DMA.RING_STATUS.LAST_STATUS n) = 0 ∧ RowCopied d ms md s t ∧
    t.get (Reg.DMA.RING_STATUS.HEAD n) = (s.get (Reg.DMA.RING_STATUS.HEAD n) + 1) % 2 ^ s.get (Reg.DMA.RING_CFG.SIZE n) %
      2 ^ (Reg.DMA.RING_STATUS.HEAD n).width ∧
    t.get (Reg.DMA.RING_STATUS.HALTED n) = s.get (Reg.DMA.RING_STATUS.HALTED n) ∧
    t.dma.rings[n.val]? = some ⟨none, r.kicked, r.idle || d.stop⟩)

/-- A part of Obligations.RingChannels. R319, R320: a KICK is remembered, and stands for the client that enables its channel and
clears HALTED (the model's reading, assumption 6); an ABORT of a channel without a descriptor idles it, that of one that moves a
row ends it with STATUS 0x04, with no byte outside the row's destination changed. -/
def Sys2Proof.Machine.KicksAndAborts : Prop := ∀ (s : State) (n : Fin 64) (r : Ring), s.Sound → s.dma.rings[n.val]? = some r →
  Goes (exec (.kick n) s) (fun t => t.dma.rings[n.val]? = some { r with kicked := true } ∧
    t.get (Reg.DMA.RING_CFG.EN n) = 1 ∧ t.get (Reg.DMA.RING_STATUS.HALTED n) = 0 ∧
    (s.flag (Reg.DMA.RING_CFG.EN n) = true → t.get (Reg.DMA.RING_CFG.RATE n) = s.get (Reg.DMA.RING_CFG.RATE n)) ∧
    OnlyFields [Reg.DMA.RING_CFG.EN n, Reg.DMA.RING_CFG.RATE n, Reg.DMA.RING_STATUS.HALTED n] s t) ∧
  (r.cur = none → Goes (exec (.abort n) s) fun t => t.dma.rings[n.val]? = some { r with idle := true } ∧ t.regs = s.regs ∧
    t.buf = s.buf) ∧
  (∀ d p ms md, r.cur = some (d, p) → Movable d ms md s → Goes (exec (.abort n) s) fun t =>
    t.get (Reg.DMA.RING_STATUS.LAST_STATUS n) = 4 ∧ t.dma.rings[n.val]? = some ⟨none, r.kicked, true⟩ ∧
    (∀ m a, ¬ (m = md ∧ d.dst.toNat ≤ a ∧ a < d.dst.toNat + d.len.toNat) → t.byte m a = s.byte m a))

/-- O36 (tier 2). R319, R320: descriptors of a ring channel run and end; KICK and ABORT. -/
def Obligations.RingChannels : Prop := RingDescriptors ∧ KicksAndAborts

/-- O37 (tier 2). R322, R323, R326, R327: a load with SHADOW_VALID is ignored with SHADOW_ERR, one beside an active set becomes
the shadow, one of an idle channel is active at once; the end of the active set makes the shadow active and pulses the channel's
line, the row of a channel from 4 on having moved; a line delivers one waiting pulse, and a ninth that waits sets its overflow
bit. -/
def Obligations.StreamsAndEvents : Prop := ∀ (s : State) (m : Fin 8) (c : Stream), s.Sound → s.dma.streams[m.val]? = some c →
  (∀ d : Desc, Goes (exec (.shadowLoad m d) s) fun t =>
    if c.shadow.isSome = true then t = s.put (Reg.DMA.STR_STATUS.SHADOW_ERR m) 1
    else if c.active.isSome = true then t.dma.streams[m.val]? = some { c with shadow := some d } ∧ t.regs = s.regs
    else t.dma.streams[m.val]? = some ⟨some d, none, []⟩ ∧ t.get (Reg.DMA.STR_STATUS.HALTED m) = 0) ∧
  (∀ d, c.active = some d → (m.val < 4 ∨ ∃ ms md, Movable d ms md s) → Goes (exec (.streamSetEnd m) s) fun t =>
    t.dma.streams[m.val]? = some ⟨c.shadow, none, []⟩ ∧
    (m.val < 4 → t.buf = s.buf) ∧ (4 ≤ m.val → ∀ ms md, Movable d ms md s → RowCopied d ms md s t) ∧
    (if 8 ≤ s.dma.waiting.getD m.val 0 then t.get (evOvf m.val) = 1
      else t.dma.waiting[m.val]? = (s.dma.waiting[m.val]?).map (· + 1))) ∧
  (∀ d x a, c.active = some d → 4 ≤ m.val → descBroken d = false → s.hole d = some (x, a) →
    exec (.streamSetEnd m) s = .fault (.noSuchAddress x a)) ∧
  (∀ ev : Fin 64, Goes (exec (.eventLinePulse ev) s) fun t => if s.dma.waiting.getD ev.val 0 = 0 then t = s
    else t.dma.pulsed = some ev.val ∧ t.dma.waiting.getD ev.val 0 = s.dma.waiting.getD ev.val 0 - 1 ∧
      (∀ k, k ≠ ev.val → t.dma.waiting.getD k 0 = s.dma.waiting.getD k 0))

/-- O38 (tier 2). R338, R340, R342: a media cache slot that its timer finds complete is launched as any stripe slot; the index
log is rewritten as a base into the other log zone once it is too large; cleaning ends where enough pool zones are free and no
merge runs, and else takes the zones with live blocks in the oldest pool zone; a merge's switch gives its zone the target as
home, with the merged height as frontier, and removes what its snapshot held from the index. -/
def Obligations.MediaCacheAndMerges : Prop := ∀ (s : State),
  (∀ (n : Nat) (x : SideSlot), s.slot? n = some x → x.cache = true → x.state = .complete → s.place? x.zone = none →
    Goes (exec (.mediaCacheSlotTimeout n) s) fun t => (t.slot? n).map (fun y => y.state) = some .begun ∧
      t.stripe.journal.pending = s.stripe.journal.pending ++
        [(s.stripe.journal.seq, .begin_ x.zone x.stripe x.first x.blocks.length false)]) ∧
  Goes (exec .indexLogBase s) (fun t =>
    if 0x8000000 < s.zmu.logBytes ∨ s.zmu.extents.length * 16 < s.zmu.logBytes then
      t.zmu.logZone = 5 - s.zmu.logZone ∧ t.zmu.logBase = s.zmu.extents ∧ t.zmu.logBytes = 0 ∧
      t.zmu.extents = s.zmu.extents ∧ t.zmu.zones = s.zmu.zones
    else t = s) ∧
  (s.needsCleaning = false → Goes (exec .cleaning s) fun t => t.zmu = s.zmu ∧
    (s.zmu.merges = [] → t.get Reg.ZMU.MCACHE.CLEANING = 0)) ∧
  (∀ p, s.needsCleaning = true → s.zmu.order = [p] → p ∈ s.poolZones →
    (∃ e ∈ s.zmu.extents, e.pzone = p ∧ e.zero = false) → Goes (exec .cleaning s) fun t =>
      t.get Reg.ZMU.MCACHE.CLEANING = 1 ∧ t.zmu.extents = s.zmu.extents ∧ s.zmu.merges <+: t.zmu.merges) ∧
  (∀ (z g : Nat) (m : Merge) (d : ZoneDesc), s.zmu.merges = [m] → m.zone = z → m.target = g → s.zone? z = some d →
    Goes (exec (.mergeSwitch z g) s) fun t => t.zone? z = some { d with home := g, merging := false, frontier := m.highest } ∧
      t.zmu.merges = [] ∧ (∀ k, k ≠ z → t.zone? k = s.zone? k) ∧
      (∀ e ∈ s.zmu.extents, 0 < e.count → (m.snap.any fun x => e.within x) = true → e ∉ t.zmu.extents))

/-- A part of Obligations.MapCache. R348 to R351: a lookup of a disabled cache changes nothing; a hit is counted and marks its
line dirty on a write; a miss merges into the register that holds its unit while that has room and else waits; a primary miss is
counted and takes a free register. A fill makes its line valid, dirty where a write waits; a write-back without a taker leaves
its line valid and clean. -/
def Sys2Proof.Machine.MapCacheLookups : Prop := ∀ (s : State) (u : Nat) (w : Bool),
  (s.flag Reg.ZMU.CTRL.ENABLE = false → exec (.mapCacheMiss u w) s = .next s) ∧
  (∀ (i : Nat) (l : MapLine), s.mapOn = true → s.zmu.lineOf u = some i → s.zmu.lines[i]? = some l → l.wback = false →
    Goes (exec (.mapCacheMiss u w) s) fun t => t.zmu.lines[i]? = some { l with dirty := l.dirty || w } ∧
      t.zmu.miss = s.zmu.miss ∧ t.get Reg.ZMU.HITS.HITS = min (s.get Reg.ZMU.HITS.HITS + 1) (2 ^ 32 - 1) ∧
      OnlyFields [Reg.ZMU.HITS.HITS] s t) ∧
  (∀ (k : Nat) (r : MissReg), s.mapOn = true → s.zmu.lineOf u = none → s.zmu.missOf u = some k → s.zmu.miss[k]? = some (some r) →
    Goes (exec (.mapCacheMiss u w) s) fun t =>
      if r.second.length < 8 then t.zmu.miss[k]? = some (some { r with second := r.second ++ [w] }) ∧
        t.get Reg.ZMU.MISSES.MERGED = min (s.get Reg.ZMU.MISSES.MERGED + 1) 255
      else t.zmu.waitMiss = s.zmu.waitMiss ++ [(u, w)] ∧ t.zmu.miss = s.zmu.miss ∧ t.regs = s.regs) ∧
  (∀ k : Nat, s.mapOn = true → s.zmu.lineOf u = none → s.zmu.missOf u = none → s.zmu.miss[k]? = some none →
    (∀ j < k, s.zmu.miss[j]? ≠ some none) → Goes (exec (.mapCacheMiss u w) s) fun t =>
      (∃ r, t.zmu.miss[k]? = some (some r) ∧ r.unit = u ∧ r.write = w ∧ r.second = []) ∧
      t.get Reg.ZMU.MISSES.PRIMARY = min (s.get Reg.ZMU.MISSES.PRIMARY + 1) 65535) ∧
  (∀ (k : Fin 8) (i : Nat) (r : MissReg), s.zmu.miss = setAt (List.replicate 8 none) k.val (some r) → r.line = some i →
    r.waitWb = false → s.zmu.waitMiss = [] → s.flag Reg.ZMU.CTRL.FLUSHING = false → s.flag Reg.ZMU.CTRL.CLEAN = false →
    i < s.zmu.lines.length → Goes (exec (.mapFillDone k) s) fun t => t.zmu.miss = List.replicate 8 none ∧
      (t.zmu.lines[i]?).map (fun l => (l.unit, l.dirty, l.filling, l.wback)) =
        some (some r.unit, (r.write || r.second.any id) && s.mapOn, false, false) ∧
      (r.preload = true → t.get Reg.ZMU.PRELOAD.GO = 0)) ∧
  (∀ (i : Fin 48) (l : MapLine), s.zmu.miss = List.replicate 8 none → s.zmu.waitMiss = [] →
    s.flag Reg.ZMU.CTRL.FLUSHING = false → s.flag Reg.ZMU.CTRL.CLEAN = false → s.zmu.lines[i.val]? = some l →
    Goes (exec (.mapWritebackDone i) s) fun t => t.zmu.lines[i.val]? = some { l with wback := false } ∧ t.regs = s.regs ∧
      (∀ j, j ≠ i.val → t.zmu.lines[j]? = s.zmu.lines[j]?))

/-- A part of Obligations.MapCache. R352 to R354: a preload of a cached unit with LOCK locks its line, or is REJECTED with 32
locked, and GO clears; UNLOCK unlocks one line or all; disabling the cache starts a flush, which writes every dirty line back
first and ends with an empty disabled cache; an ENABLE written in a flush has no effect; CLEAN writes back every dirty line and
keeps the cache. -/
def Sys2Proof.Machine.MapCacheControl : Prop := ∀ (s : State),
  (∀ (v : Word) (i : Nat) (l : MapLine), v.getLsbD 30 = true → v.getLsbD 29 = true → s.mapOn = true →
    s.zmu.lineOf (v.toNat % 2 ^ 21) = some i → s.zmu.lines[i]? = some l → l.wback = false →
    Goes (exec (.preload v) s) fun t => t.get Reg.ZMU.PRELOAD.GO = 0 ∧
      (if l.locked = false ∧ 32 ≤ (s.zmu.lines.filter fun x => x.locked).length then
        t.get Reg.ZMU.PRELOAD.REJECTED = 1 ∧ t.zmu = s.zmu
      else t.get Reg.ZMU.PRELOAD.REJECTED = 0 ∧ t.zmu.lines[i]? = some { l with locked := true })) ∧
  (∀ v : Word, v.getLsbD 7 = true → Goes (exec (.unlock v) s) fun t => t.get Reg.ZMU.UNLOCK.GO = 0 ∧
    (∀ (i : Nat) (l : MapLine), s.zmu.lines[i]? = some l → t.zmu.lines[i]? = some
      (if v.getLsbD 6 = true ∨ i = v.toNat % 2 ^ 6 then { l with locked := false } else l))) ∧
  (s.flag Reg.ZMU.CTRL.FLUSHING = true → ∀ b, exec (.enable b) s = .next s) ∧
  (s.flag Reg.ZMU.CTRL.FLUSHING = false → Goes (exec (.enable true) s) fun t => t.get Reg.ZMU.CTRL.ENABLE = 1 ∧
    OnlyFields [Reg.ZMU.CTRL.ENABLE] s t) ∧
  (s.flag Reg.ZMU.CTRL.FLUSHING = false → s.flag Reg.ZMU.CTRL.ENABLE = true →
    (∀ l ∈ s.zmu.lines, l.filling = false ∧ l.wback = false) → Goes (exec (.enable false) s) fun t =>
      if ∃ l ∈ s.zmu.lines, l.dirty = true then t.get Reg.ZMU.CTRL.FLUSHING = 1 ∧ t.get Reg.ZMU.CTRL.ENABLE = 1 ∧
        t.zmu.lines = s.zmu.lines.map fun l => { l with dirty := false, wback := l.dirty }
      else t.get Reg.ZMU.CTRL.FLUSHING = 0 ∧ t.get Reg.ZMU.CTRL.ENABLE = 0 ∧
        t.zmu.lines = List.replicate 48 ⟨none, false, false, false, false⟩) ∧
  (s.flag Reg.ZMU.CTRL.FLUSHING = false → (∀ l ∈ s.zmu.lines, l.wback = false) → Goes (exec .clean s) fun t =>
    t.zmu.lines = s.zmu.lines.map (fun l => { l with dirty := false, wback := l.dirty }) ∧
    t.get Reg.ZMU.CTRL.CLEAN = (if ∃ l ∈ s.zmu.lines, l.dirty = true then 1 else 0) ∧
    OnlyFields [Reg.ZMU.CTRL.CLEAN] s t)

/-- O39 (tier 2). R349 to R354: lookups of the map cache, its fills and write-backs, and its control registers. -/
def Obligations.MapCache : Prop := MapCacheLookups ∧ MapCacheControl

/-- The outcome of a command is committed with a status (R376). -/
def Sys2Proof.Machine.EndsWith (t : State) (fsn : Nat) (st : Status) : Prop :=
  ∃ c, t.cmd? fsn = some c ∧ c.phase = .committed ∧ c.status = some st

/-- A memory request of the host reaches the controller (R59, R399): the port is up and not in D3hot. -/
def Sys2Proof.Machine.Reachable (s : State) : Prop := s.hostUp = true ∧ s.get Reg.HPT.LINK.DSTATE ≠ 3

/-- O40 (tier 2). R357, R360, R395: a tail below the queue's size and a head that does not pass the tail are taken, any other
doorbell is ignored and logged; I/O queues are created with valid numbers and sizes and their completion queue in place; a
completion queue in use is not deleted, and a submission queue goes at once only where none of its commands is left in the
store. -/
def Obligations.QueuesAndDoorbells : Prop := ∀ (s : State),
  (Reachable s → ∀ (qid : Nat) (v : Word), Goes (exec (.sqTailDoorbell qid v) s) fun t =>
    (match s.sq? qid with
      | some q => if v.toNat < q.size then t.sq? qid = some { q with tail := v.toNat } ∧ t.cqu.errCount = s.cqu.errCount
          else t.cqu.sqs = s.cqu.sqs ∧ t.cqu.errCount = s.cqu.errCount + 1
      | none => t.cqu.sqs = s.cqu.sqs ∧ t.cqu.errCount = s.cqu.errCount + 1 : Prop)) ∧
  (Reachable s → ∀ (qid : Nat) (v : Word), Goes (exec (.cqHeadDoorbell qid v) s) fun t =>
    (match s.cq? qid with
      | some q =>
        if v.toNat < q.size ∧ ringUsed q.size q.head v.toNat ≤ ringUsed q.size q.head q.tail then
          t.cq? qid = some { q with head := v.toNat } ∧ t.cqu.errCount = s.cqu.errCount
        else t.cqu.cqs = s.cqu.cqs ∧ t.cqu.errCount = s.cqu.errCount + 1
      | none => t.cqu.cqs = s.cqu.cqs ∧ t.cqu.errCount = s.cqu.errCount + 1 : Prop)) ∧
  (∀ (fsn : Nat) (c : Cmd), s.adm fsn 0x05 = some c → c.sqe.cdw11.getLsbD 0 = true → s.badPrp c.sqe = false →
    Goes (exec (.createIoCompletionQueue fsn) s) fun t =>
      let qid := c.sqe.cdw10.toNat % 65536
      let size := c.sqe.cdw10.toNat / 65536
      let iv := c.sqe.cdw11.toNat / 65536
      if qid = 0 ∨ 64 < qid ∨ (s.cq? qid).isSome = true then EndsWith t fsn .badQid ∧ t.cqu.cqs = s.cqu.cqs
      else if size = 0 ∨ 4095 < size then EndsWith t fsn .badQsize ∧ t.cqu.cqs = s.cqu.cqs
      else if 64 < iv then EndsWith t fsn .badVector ∧ t.cqu.cqs = s.cqu.cqs
      else EndsWith t fsn .ok ∧ t.cq? qid = some ⟨qid, size + 1, 0, 0, true, c.sqe.cdw11.getLsbD 1, iv, 0⟩) ∧
  (∀ (fsn : Nat) (c : Cmd), s.adm fsn 0x01 = some c → c.sqe.cdw11.getLsbD 0 = true → s.badPrp c.sqe = false →
    0 < c.sqe.cdw11.toNat / 65536 → (s.cq? (c.sqe.cdw11.toNat / 65536)).isSome = true →
    Goes (exec (.createIoSubmissionQueue fsn) s) fun t =>
      let qid := c.sqe.cdw10.toNat % 65536
      let size := c.sqe.cdw10.toNat / 65536
      if qid = 0 ∨ 64 < qid ∨ (s.sq? qid).isSome = true then EndsWith t fsn .badQid ∧ t.cqu.sqs = s.cqu.sqs
      else if size = 0 ∨ 4095 < size then EndsWith t fsn .badQsize ∧ t.cqu.sqs = s.cqu.sqs
      else EndsWith t fsn .ok ∧ t.sq? qid = some ⟨qid, size + 1, 0, 0, c.sqe.cdw11.toNat / 65536, c.sqe.cdw11.toNat / 2 % 4⟩) ∧
  (∀ (fsn : Nat) (c : Cmd), s.adm fsn 0x04 = some c → Goes (exec (.deleteIoCompletionQueue fsn) s) fun t =>
      let qid := c.sqe.cdw10.toNat % 65536
      if qid = 0 ∨ s.cq? qid = none then EndsWith t fsn .badQid ∧ t.cqu.cqs = s.cqu.cqs
      else if ∃ q ∈ s.cqu.sqs, q.cqid = qid then EndsWith t fsn .badDelete ∧ t.cqu.cqs = s.cqu.cqs
      else EndsWith t fsn .ok ∧ t.cq? qid = none) ∧
  (∀ (fsn : Nat) (c : Cmd), s.adm fsn 0x00 = some c →
      let qid := c.sqe.cdw10.toNat % 65536
      (qid = 0 ∨ s.sq? qid = none → Goes (exec (.deleteIoSubmissionQueue fsn) s) fun t => EndsWith t fsn .badQid) ∧
      (qid ≠ 0 → (s.sq? qid).isSome = true → (∀ d ∈ s.cqu.store, d.sqid ≠ qid) →
        Goes (exec (.deleteIoSubmissionQueue fsn) s) fun t => EndsWith t fsn .ok ∧ t.sq? qid = none) ∧
      (∀ d : Cmd, qid ≠ 0 → (s.sq? qid).isSome = true → s.cqu.store = [d, c] → d.sqid = qid → d.fsn ≠ fsn → d.decided = false →
        Goes (exec (.deleteIoSubmissionQueue fsn) s) fun t => EndsWith t d.fsn .sqDeleted ∧ t.cqu.sqs = s.cqu.sqs))

/-- A part of Obligations.FetchAbortAndSelfTest. R358, R359, R363, R364, R375, R386, R388: a fetch advances the queue's head and
enters the command with the next FSN, its outcome committed at once where a check of R388 fails; with no room it stops. An Abort
of a command in flight ends it and completes with 0, of one that is not there with 1 in dword 0; a ninth event request fails,
another is held or takes the waiting event; the coalescing time signals the held completions. -/
def Sys2Proof.Machine.FetchAndAbort : Prop := ∀ (s : State),
  (∀ (sqid : Nat) (e : Sqe) (q : Sq), s.sq? sqid = some q → s.mayFetch q = true →
    (s.hasRoom q e = false → Goes (exec (.commandFetch sqid e) s) fun t => t.cqu.stopped = true ∧ t.cqu.store = s.cqu.store ∧
      t.cqu.sqs = s.cqu.sqs) ∧
    (s.hasRoom q e = true → (∀ d ∈ s.cqu.store, d.fsn ≠ s.cqu.nextFsn) → Goes (exec (.commandFetch sqid e) s) fun t =>
      t.sq? sqid = some { q with head := (q.head + 1) % q.size } ∧ t.cqu.nextFsn = (s.cqu.nextFsn + 1) % 2 ^ 64 ∧
      t.cqu.store.length = s.cqu.store.length + 1 ∧
      (t.cmd? s.cqu.nextFsn).map (fun c => (c.sqid, c.sqe, c.phase, c.status)) = some (sqid, e,
        match (if sqid = 0 then (if s.adminOk e = true then none else some Status.badOpcode) else s.ioCheck e) with
        | none => (.fetched, none)
        | some st => (.committed, some st)))) ∧
  (∀ (fsn : Nat) (c : Cmd), s.adm fsn 0x08 = some c →
    (s.cqu.store.filter fun d => d.sqid == 0 && d.sqe.opc == 0x08).length ≤ 4 →
    (∀ d : Cmd, (s.cqu.store.find? fun x => x.sqid == c.sqe.cdw10.toNat % 65536 && x.sqe.cid.toNat == c.sqe.cdw10.toNat / 65536) =
        some d → s.cmd? d.fsn = some d → d.fsn ≠ fsn → d.unabortable = false → d.decided = false →
      Goes (exec (.abortCommand fsn) s) fun t => EndsWith t d.fsn .aborted ∧ EndsWith t fsn .ok ∧
        (t.cmd? fsn).map (fun x => x.dw0) = some 0) ∧
    ((s.cqu.store.find? fun x => x.sqid == c.sqe.cdw10.toNat % 65536 && x.sqe.cid.toNat == c.sqe.cdw10.toNat / 65536) = none →
      Goes (exec (.abortCommand fsn) s) fun t => EndsWith t fsn .ok ∧ (t.cmd? fsn).map (fun x => x.dw0) = some 1)) ∧
  (∀ (fsn : Nat) (c : Cmd), s.adm fsn 0x0C = some c →
    (8 ≤ s.cqu.aers.length → Goes (exec (.asynchronousEventRequest fsn) s) fun t => EndsWith t fsn .aerLimit ∧
      t.cqu.aers = s.cqu.aers) ∧
    (s.cqu.aers.length < 8 → s.cqu.events = [] → Goes (exec (.asynchronousEventRequest fsn) s) fun t =>
      t.cqu.aers = s.cqu.aers ++ [fsn] ∧ (t.cmd? fsn).map (fun x => x.phase) = some .ready) ∧
    (∀ y i l, s.cqu.aers = [] → s.cqu.masked = [] → s.cqu.events = [(y, i, l)] →
      Goes (exec (.asynchronousEventRequest fsn) s) fun t => EndsWith t fsn .ok ∧ t.cqu.events = [] ∧
        (t.cmd? fsn).map (fun x => x.dw0) = some (y + i * 256 + l * 65536))) ∧
  (∀ (qid : Nat) (q : Cq), s.cq? qid = some q → Goes (exec (.interruptCoalescingTime qid) s) fun t =>
    t.cq? qid = some { q with held := 0 } ∧
    (q.held ≠ 0 → q.ien = true → s.hpt.msixEn = false → t.hpt.inta = true))

/-- A part of Obligations.FetchAbortAndSelfTest. R360, R463, R466: a short self-test starts a scrub pass of each memory, an
extended one queues a verify run of every written stripe, and code 0xF records the running test as aborted; a test that runs
refuses another, and so does a Sanitize or a Format. -/
def Sys2Proof.Machine.SelfTests : Prop := ∀ (s : State) (fsn : Nat) (c : Cmd), s.adm fsn 0x14 = some c →
  (c.sqe.cdw10.toNat % 16 = 1 → Goes (exec (.shortSelfTest fsn) s) fun t =>
    (match s.opBusy with
      | some st => EndsWith t fsn st ∧ t.cqu.test = s.cqu.test
      | none => if s.cqu.test ≠ 0 then EndsWith t fsn .selfTest ∧ t.cqu.test = s.cqu.test
        else EndsWith t fsn .ok ∧ t.cqu.test = 1 ∧ t.buf.scrubS.isSome = true ∧ t.buf.scrubD.isSome = true : Prop)) ∧
  (c.sqe.cdw10.toNat % 16 = 2 → Goes (exec (.extendedSelfTest fsn) s) fun t =>
    (match s.opBusy with
      | some st => EndsWith t fsn st ∧ t.cqu.test = s.cqu.test
      | none => if s.cqu.test ≠ 0 then EndsWith t fsn .selfTest ∧ t.cqu.test = s.cqu.test
        else EndsWith t fsn .ok ∧ (s.writtenStripes ≠ [] → t.cqu.test = 2 ∧
          t.cqu.runs.length = s.cqu.runs.length + s.writtenStripes.length) : Prop)) ∧
  (c.sqe.cdw10.toNat % 16 = 15 → s.opBusy = none → s.cqu.test ≠ 0 → Goes (exec (.selfTestAbort fsn) s) fun t =>
    EndsWith t fsn .ok ∧ t.cqu.test = 0 ∧ t.cqu.results.head? = some ⟨s.cqu.test, 1, s.hours⟩)

/-- O41 (tier 2). R358, R360, R375: fetching and aborting commands; the device self-test. -/
def Obligations.FetchAbortAndSelfTest : Prop := FetchAndAbort ∧ SelfTests

/-- O42 (tier 2). R381: the Firmware Slot log reports AFI = 0x02, slot 1 as eight upper-case hexadecimal digits of OPL.OPT_SEQ
and slot 2 as FR: Get Log Page of it, 512 bytes from offset 0, sends the host a page with these bytes and completes. -/
def Obligations.FirmwareSlotLog : Prop := ∀ (s : State) (fsn : Nat) (c : Cmd), s.adm fsn 0x02 = some c →
  c.sqe.cdw10.toNat % 256 = 3 → c.sqe.cdw10.toNat / 65536 = 127 → c.sqe.cdw11 = 0 → c.sqe.cdw12 = 0 → c.sqe.cdw13 = 0 →
  s.badPrp c.sqe = false → inBar s.hpt.bar2 0x10000000 c.sqe.prp1.toNat = false →
  s.get Reg.HPT.LINK.DSTATE ≠ 3 → s.get Reg.HPT.LINK.PM_LINK ≠ 4 → Goes (exec (.getLogPage fsn) s) fun t =>
    EndsWith t fsn .ok ∧ ∃ b : Bytes, t.hpt.out = s.hpt.out ++ [.data fsn b] ∧ b.length = 512 ∧ b.getD 0 0 = 2 ∧
      (∀ i < 8, (b.getD (8 + i) 0).toNat =
        (let d := s.get Reg.OPL.OPT_SEQ.SEQ / 16 ^ (7 - i) % 16; if d < 10 then 0x30 + d else 0x41 + (d - 10))) ∧
      (b.drop 16).take 8 = padTo 8 s.fr

/-- O43 (tier 2). R415: after every device reset the window reads as zeros, and so it does after a loss of power; the controller
reset, a Function Level Reset and the other host-port resets, with their block reset, and D3hot keep every byte of it. -/
def Obligations.WindowContents : Prop := ∀ (s : State),
  (∀ rail, Goes (exec (.powerOn rail) s) fun t => ∀ off, t.winGet off = 0) ∧
  (s.pins.coreOk = true → Goes (exec .vddCoreOff s) (fun t => ∀ off, t.winGet off = 0) ∧
    Goes (exec .powerLoss s) fun t => ∀ off, t.winGet off = 0) ∧
  (s.start.rst = .running → s.pins.sysrstCount = true → Goes (exec .sysrstRecognised s) fun t => ∀ off, t.winGet off = 0) ∧
  (s.start.rst = .running → s.start.watchdog = true → Goes (exec .watchdogExpire s) fun t => ∀ off, t.winGet off = 0) ∧
  (∀ c ∈ [Instr.hotReset, .pcieLinkDown, .functionLevelReset, .perstNAssert, .perstNRelease, .idleAck 8, .idleAckTimeout 8,
      .blockResetRelease 8, .d3hotEntry, .d3hotExit], Goes (exec c s) fun t => ∀ off, t.winGet off = s.winGet off) ∧
  (∀ cc : Word, Goes (exec (.controllerReset cc) s) fun t => ∀ off, t.winGet off = s.winGet off)

/-- O44 (tier 2). R360, R362, R363, R380, R386, R388, R463: Identify sends its 4,096 bytes or fails with the status of R388; a
feature that is set reads back through Get Features with every other feature kept; an image piece beyond 4 MiB or over another
is refused, a staged one is kept for the commit, which writes a checked image and asks for a reset, or refuses it and drops what
was staged. -/
def Obligations.AdminData : Prop := ∀ (s : State) (fsn : Nat) (c : Cmd),
  (s.adm fsn 0x06 = some c → s.badPrp c.sqe = false → Goes (exec (.identify fsn) s) fun t =>
    match s.identifyData c.sqe with
      | .inl b => EndsWith t fsn .ok ∧ (inBar s.hpt.bar2 0x10000000 c.sqe.prp1.toNat = false → s.get Reg.HPT.LINK.DSTATE ≠ 3 →
          s.get Reg.HPT.LINK.PM_LINK ≠ 4 → t.hpt.out = s.hpt.out ++ [.data fsn b])
      | .inr st => EndsWith t fsn st ∧ t.hpt = s.hpt) ∧
  (s.adm fsn 0x02 = some c → s.badPrp c.sqe = false → ([1, 2, 3, 0x81, 0xC0, 0xC1, 0xC2, 0xC3, 0xC4, 0xC5, 0xC6, 0xC7].contains
    (c.sqe.cdw10.toNat % 256)) = true → Goes (exec (.getLogPage fsn) s) fun t => EndsWith t fsn .ok) ∧
  (s.adm fsn 0x09 = some c → s.badPrp c.sqe = false → c.sqe.cdw10.getLsbD 31 = false → ∀ data, Goes (exec (.setFeatures fsn data) s)
    fun t => (c.sqe.cdw10.toNat % 256 = 1 → EndsWith t fsn .ok ∧ t.cqu.feats = { s.cqu.feats with arb := c.sqe.cdw11 }) ∧
      (c.sqe.cdw10.toNat % 256 = 8 → EndsWith t fsn .ok ∧
        t.cqu.feats = { s.cqu.feats with coal := BitVec.ofNat 32 (c.sqe.cdw11.toNat % 65536) }) ∧
      (c.sqe.cdw10.toNat % 256 = 11 → EndsWith t fsn .ok ∧ t.cqu.feats = { s.cqu.feats with aec := c.sqe.cdw11.toNat % 256 }) ∧
      (c.sqe.cdw10.toNat % 256 = 6 → c.sqe.cdw11.getLsbD 0 = true → s.vwc = true → EndsWith t fsn .ok ∧
        t.cqu.feats = { s.cqu.feats with wce := true }) ∧
      (c.sqe.cdw10.toNat % 256 = 2 → 4 < c.sqe.cdw11.toNat % 32 → EndsWith t fsn .badField ∧ t.power = s.power)) ∧
  (s.adm fsn 0x09 = some c → c.sqe.cdw10.toNat % 256 ∉ featureIds → ∀ data, Goes (exec (.setFeatures fsn data) s)
    fun t => EndsWith t fsn .badField ∧ t.cqu.feats = s.cqu.feats) ∧
  (s.adm fsn 0x0A = some c → s.badPrp c.sqe = false → c.sqe.cdw10.toNat / 256 % 8 = 0 → Goes (exec (.getFeatures fsn) s) fun t =>
    (∀ v : Nat, (c.sqe.cdw10.toNat % 256, v) ∈ [(1, s.cqu.feats.arb.toNat), (6, if s.cqu.feats.wce then 1 else 0),
        (7, 63 + 63 * 65536), (8, s.cqu.feats.coal.toNat), (11, s.cqu.feats.aec), (2, s.get Reg.RCU.PWR.HOST_PS)] →
      EndsWith t fsn .ok ∧ (t.cmd? fsn).map (fun x => x.dw0) = some v) ∧ t.cqu.feats = s.cqu.feats) ∧
  (s.adm fsn 0x11 = some c → s.badPrp c.sqe = false → ∀ data, Goes (exec (.firmwareImageDownload fsn data) s) fun t =>
    let n := (c.sqe.cdw10.toNat + 1) * 4
    let off := c.sqe.cdw11.toNat * 4
    if 0x400000 < off + n then EndsWith t fsn .badField ∧ t.nor = s.nor
    else if (s.nor.stage.any fun p => overlaps p.1 p.2.length off n) = true then EndsWith t fsn .overlap ∧ t.nor = s.nor
    else EndsWith t fsn .ok ∧ ∃ b : Bytes, b.length = n ∧ t.nor = { s.nor with stage := s.nor.stage ++ [(off, b)] }) ∧
  (s.adm fsn 0x10 = some c → s.opBusy = none → c.sqe.cdw10.toNat % 8 ≤ 2 → c.sqe.cdw10.toNat / 8 % 8 ≤ 3 →
    ∀ bf bp, Goes (exec (.firmwareCommit fsn bf bp) s) fun t =>
      if c.sqe.cdw10.toNat / 8 % 8 = 2 then EndsWith t fsn .needsReset ∧ t.nor = s.nor
      else match s.stagedImage with
        | none => EndsWith t fsn .fwImage ∧ t.nor = { s.nor with stage := [] }
        | some (b, fw) =>
          if c.sqe.cdw10.toNat % 8 ≠ 0 ∧ fw ≠ decide (c.sqe.cdw10.toNat % 8 = 2) then
            EndsWith t fsn .fwImage ∧ t.nor = { s.nor with stage := [] }
          else t.nor.stage = [] ∧ (bf = false → EndsWith t fsn .fwImage) ∧
            (bf = true → t.nor.copy? fw (otherCopy s.primary) = some b ∧
              EndsWith t fsn (if c.sqe.cdw10.toNat / 8 % 8 = 0 then .ok else .needsReset) ∧
              (bp = true → t.nor.copy? fw s.primary = some b)))

/-- O45 (tier 2). R373, R377, R396, R398, R409: CC.EN set with a CC that is refused sets CFS with RDY 0, and else makes the two
admin queues of AQA's sizes; CC.EN cleared drops every command and queue with RDY and CFS 0 and keeps the cache; a shutdown
stops fetching and is complete at once with nothing in flight and nothing dirty; INTMS and INTMC mask and unmask INTA by their
bit 0. -/
def Obligations.ControllerRegisters : Prop := ∀ (s : State), Reachable s →
  (∀ cc : Word, s.cqu.nvme.cc.getLsbD 0 = false → cc.getLsbD 0 = true → Goes (exec (.ccEnSet cc) s) fun t =>
    if ccBad cc s.cqu.nvme.aqa = true ∨ s.flag Reg.NST.BOOT_STATUS.HALTED = true then
      t.cqu.nvme.cfs = true ∧ t.cqu.nvme.rdy = s.cqu.nvme.rdy ∧ t.cqu.sqs = s.cqu.sqs ∧ t.cqu.cqs = s.cqu.cqs
    else t.cqu.nvme.rdy = (s.rdyAllowed && !s.cqu.nvme.cfs) ∧
      (t.sq? 0).map (fun q => (q.size, q.head, q.tail)) = some (s.cqu.nvme.aqa.toNat % 4096 + 1, 0, 0) ∧
      (t.cq? 0).map (fun q => (q.size, q.head, q.tail, q.phase)) = some (s.cqu.nvme.aqa.toNat / 65536 % 4096 + 1, 0, 0, true)) ∧
  (∀ cc : Word, s.cqu.nvme.cc.getLsbD 0 = true → cc.getLsbD 0 = false → Goes (exec (.controllerReset cc) s) fun t =>
    t.cqu.store = [] ∧ t.cqu.sqs = [] ∧ t.cqu.cqs = [] ∧ t.cqu.aers = [] ∧ t.cqu.nvme.rdy = false ∧ t.cqu.nvme.cfs = false ∧
    t.hpt.inta = false ∧ (∀ b ∈ s.buf.cache, b.current = true → ∃ d ∈ t.buf.cache, d.dlba = b.dlba ∧ d.fsn = b.fsn ∧
      d.data = b.data ∧ d.dirty = b.dirty)) ∧
  (∀ cc : Word, cc.toNat / 0x4000 % 4 ≠ 0 → s.cqu.nvme.shst = 0 → Goes (exec (.shutdown cc) s) fun t =>
    t.cqu.fetchOff = true ∧
    t.cqu.nvme.shst = (if s.cqu.store.all Cmd.isAer = true ∧ (∀ b ∈ s.buf.cache, b.dirty = false) then 2 else 1)) ∧
  (∀ v : Word, v.getLsbD 0 = true → Goes (exec (.intms v) s) (fun t => t.cqu.nvme.intm = true ∧
      (s.hpt.inta = true → s.hpt.msixEn = false → s.cqu.nvme.intm = false → s.get Reg.HPT.LINK.PM_LINK ≠ 4 →
        t.hpt.out = s.hpt.out ++ [.inta false])) ∧
    Goes (exec (.intmc v) s) fun t => t.cqu.nvme.intm = false ∧
      (s.hpt.inta = true → s.hpt.msixEn = false → s.cqu.nvme.intm = true → s.get Reg.HPT.LINK.PM_LINK ≠ 4 →
        t.hpt.out = s.hpt.out ++ [.inta true])) ∧
  (∀ v : Word, v.getLsbD 0 = false → exec (.intms v) s = .next s ∧ exec (.intmc v) s = .next s)

/-- O46 (tier 2). R399 to R402, R408, R411: PME_Turn_Off is answered and the link enters L2/L3 Ready; D3hot puts the function in
D3hot and the link in L1, and its end lets out what waited, in order; ASPM L1 is entered and left; a link taken into Loopback is
down for everything else and resets the port; a data link error is counted, poisoned write data and failed completions fail
their command, and a failed queue access sets CFS. -/
def Obligations.LinkPowerAndErrors : Prop := ∀ (s : State), s.portUp = true →
  (s.get Reg.HPT.LINK.PM_LINK ≠ 4 →
    Goes (exec .pmeTurnOff s) (fun t => t.hpt.out = s.hpt.out ++ [.pmeToAck] ∧ t.get Reg.HPT.LINK.PM_LINK = 4 ∧
      t.buf = s.buf ∧ t.stripe = s.stripe) ∧
    (s.get Reg.HPT.LINK.DSTATE = 0 → Goes (exec .d3hotEntry s) fun t => t.get Reg.HPT.LINK.DSTATE = 3 ∧
      t.get Reg.HPT.LINK.PM_LINK = 1 ∧ t.cqu = s.cqu ∧ t.hpt = s.hpt ∧ t.power = s.power) ∧
    (s.get Reg.HPT.LINK.DSTATE = 3 → Goes (exec .d3hotExit s) fun t => t.get Reg.HPT.LINK.DSTATE = 0 ∧
      t.get Reg.HPT.LINK.PM_LINK = 0 ∧ t.hpt.out = s.hpt.out ++ s.hpt.sendq ∧ t.hpt.sendq = [] ∧ t.cqu = s.cqu)) ∧
  (s.get Reg.HPT.LINK.DSTATE = 0 →
    (s.hpt.aspm = true → s.get Reg.HPT.LINK.PM_LINK = 0 → Goes (exec .aspmL1Entry s) fun t => t = s.put Reg.HPT.LINK.PM_LINK 1) ∧
    (s.get Reg.HPT.LINK.PM_LINK ∈ [1, 2, 3] → Goes (exec .aspmL1Exit s) fun t => t = s.put Reg.HPT.LINK.PM_LINK 0)) ∧
  Goes (exec .loopbackFollower s) (fun t => t.hpt.follower = true ∧ t.get Reg.HPT.LINK.SPEED = 0 ∧
    t.get Reg.HPT.LINK.WIDTH = 0 ∧ t.block 8 = .idleReq ∧
    t.get Reg.HPT.RESETS.DOWN = min (s.get Reg.HPT.RESETS.DOWN + 1) (2 ^ Reg.HPT.RESETS.DOWN.width - 1)) ∧
  (∀ e ∈ [PcieErr.receiver, .badTlp, .badDllp], Goes (exec (.pcieError e) s) fun t =>
    t.get Reg.HPT.ERRORS.RX_ERR = min (s.get Reg.HPT.ERRORS.RX_ERR + 1) (2 ^ Reg.HPT.ERRORS.RX_ERR.width - 1) ∧ t.cqu = s.cqu) ∧
  (∀ e ∈ [PcieErr.replayTimeout, .replayRollover], Goes (exec (.pcieError e) s) fun t =>
    t.get Reg.HPT.ERRORS.REPLAYS = min (s.get Reg.HPT.ERRORS.REPLAYS + 1) (2 ^ Reg.HPT.ERRORS.REPLAYS.width - 1) ∧
    t.cqu = s.cqu) ∧
  (∀ (fsn : Nat) (c : Cmd), s.cmd? fsn = some c → c.phase ≠ .committed →
    Goes (exec (.pcieError (.poisonedWriteData fsn)) s) (fun t => EndsWith t fsn .dataXfer) ∧
    ∀ k, Goes (exec (.pcieError (.completionData fsn k)) s) fun t => EndsWith t fsn .dataXfer) ∧
  (s.cqu.nvme.cc.getLsbD 0 = true → ∀ k, Goes (exec (.pcieError (.completionQueue k)) s) fun t => t.cqu.nvme.cfs = true)

/-- O47 (tier 2). R29, R414: a write through the memory window is what every byte it covers then reads as, with every other byte
of the window as before; a read returns the bytes in order. Beyond the window, or with the compute domain failed, an access is
an Unsupported Request and changes nothing of the window. -/
def Obligations.WindowAccess : Prop := ∀ (s : State), Reachable s → s.buf.flips = [] →
  s.buf.lines.length < 4096 → (∀ l ∈ s.buf.lines, l.data.length = 256) →
  (∀ (off : Nat) (b : Byte), s.inWindow off 1 = true → Goes (exec (.memoryWindowWrite off [b]) s) fun t =>
    ∀ a, t.winGet a = if a = off then b else s.winGet a) ∧
  (∀ (off : Nat) (d : Bytes), s.inWindow off d.length = false → Goes (exec (.memoryWindowWrite off d) s) fun t =>
    t.buf = s.buf ∧ t.get Reg.HPT.ERRORS.UR_CA =
      min (s.get Reg.HPT.ERRORS.UR_CA + 1) (2 ^ Reg.HPT.ERRORS.UR_CA.width - 1)) ∧
  (∀ off : Nat, s.inWindow off 1 = true → s.get Reg.HPT.LINK.PM_LINK ≠ 4 → Goes (exec (.memoryWindowRead off 1) s) fun t =>
    t.hpt.out = s.hpt.out ++ [.readData [s.winGet off]] ∧ ∀ a, t.winGet a = s.winGet a) ∧
  (∀ off n : Nat, s.inWindow off n = false → Goes (exec (.memoryWindowRead off n) s) fun t =>
    t.hpt.out = s.hpt.out ++ [.unsupported] ∧ t.buf = s.buf)

/-- O48 (tier 2). R361, R364, R367, R369, R370, R372: a Write's or a Zone Append's blocks wait for admission once they are
transferred, and a failed transfer ends the command; a part with room admits them; a Write whose turn has come puts its block
into the cache, dirty, and completes once nothing more must be protected; Write Zeroes and Dataset Management with AD make
blocks read as zeros, without AD nothing changes; a Flush waits exactly for what earlier writers left unprotected. -/
def Obligations.WritersCommit : Prop := ∀ (s : State) (fsn : Nat) (c : Cmd) (z : Bool) (l : Layout), fsn ∉ s.cqu.aers →
  s.ns c.sqe.nsid.toNat = some z → s.zmu.layout = some l →
  (∀ data, (s.ioCmd fsn 0x01 = some c → Goes (exec (.write fsn data .ok) s) fun t =>
      (t.cmd? fsn).map (fun x => (x.phase, x.waitAdm, x.buf.map Prod.fst)) = some (.ready, true, s.coveredBy c.sqe)) ∧
    (s.ioCmd fsn 0x01 = some c → Goes (exec (.write fsn data .pcieError) s) (fun t => EndsWith t fsn .dataXfer ∧ t.buf = s.buf) ∧
      Goes (exec (.write fsn data .uncorrectable) s) fun t => EndsWith t fsn .internal ∧ t.buf = s.buf) ∧
    (s.ioCmd fsn 0x7D = some c → Goes (exec (.zoneAppend fsn data .ok) s) fun t =>
      (t.cmd? fsn).map (fun x => (x.phase, x.waitAdm, x.buf.map Prod.fst)) = some (.ready, true, s.coveredBy c.sqe))) ∧
  (s.cmd? fsn = some c → c.phase = .ready → c.waitAdm = true → Goes (exec (.writeAdmission fsn) s) fun t =>
    match s.admitPart (s.mustProtect c.sqe) c.buf.length, s.mediaDown with
    | some p, _ => t.cmd? fsn = some { c with phase := .admitted, waitAdm := false, prot := some p }
    | none, some st => EndsWith t fsn st
    | none, none => t = s) ∧
  (∀ (d : Nat) (x : Bytes) cur, s.cmd? fsn = some c → c.phase = .admitted → c.passed = false → s.ordered c = true → z = false →
    c.sqe.opc = 0x01 → c.buf = [(d, x)] → x.length = 4096 → (s.mustProtect c.sqe = false ∨ c.prot = some true) →
    Goes (exec (.writerCommit fsn cur) s) fun t => EndsWith t fsn .ok ∧
      ∃ b ∈ t.buf.cache, b.dlba = d ∧ b.fsn = fsn ∧ b.data = x ∧ b.current = true ∧ b.dirty = true) ∧
  (∀ (d : Nat) (x : Bytes) (zd : ZoneDesc) cur, s.cmd? fsn = some c → c.phase = .admitted → c.passed = false →
    s.ordered c = true → z = true → c.sqe.opc = 0x01 → c.buf = [(d, x)] → x.length = 4096 → sqeNlb c.sqe = 1 →
    s.zone? (l.c + sqeSlba c.sqe / zsze) = some zd → Goes (exec (.writerCommit fsn cur) s) fun t =>
      if zd.state = 4 then EndsWith t fsn .zoneFull ∧ t.buf = s.buf
      else if sqeSlba c.sqe % zsze ≠ zd.wp then EndsWith t fsn .zoneWrite ∧ t.buf = s.buf
      else (s.activeZones < 1024 → s.openZones.length < 256 →
        (t.zone? (l.c + sqeSlba c.sqe / zsze)).map (fun y => (y.wp, y.state)) = some (zd.wp + 1,
          if zcap s.width ≤ zd.wp + 1 then 4 else if zd.state = 2 then 2 else 1))) ∧
  (∀ d, s.ioCmd fsn 0x08 = some c → s.ordered c = true → z = false → l.b512 = false → sqeNlb c.sqe = 1 → c.buf = [] →
    c.passed = false → c.ranges = [(d, 1, true)] → Goes (exec (.writeZeroes fsn) s) fun t => EndsWith t fsn .ok ∧
      t.locate d = .zero) ∧
  (∀ n a, s.ioCmd fsn 0x09 = some c → (n + a ≤ l.nsze z) → (c.sqe.cdw11.getLsbD 2 = false ∨ z = true) →
    Goes (exec (.datasetManagement fsn [(n, a)] .ok) s) fun t => EndsWith t fsn .ok ∧ t.buf = s.buf ∧ t.zmu = s.zmu) ∧
  (∀ a, s.ioCmd fsn 0x09 = some c → a < l.nsze z → c.sqe.cdw11.getLsbD 2 = true → z = false → l.b512 = false →
    s.ordered { c with ranges := [(l.dlba false a, 1, true)] } = true →
    Goes (exec (.datasetManagement fsn [(1, a)] .ok) s) fun t => EndsWith t fsn .ok ∧ t.locate (l.dlba false a) = .zero) ∧
  (s.ioCmd fsn 0x00 = some c → (∀ d ∈ s.cqu.store, d.fsn < fsn → d.passed = true ∨ d.phase = .committed) →
    Goes (exec (.flush fsn) s) fun t =>
      if s.flushWaits c = [] then EndsWith t fsn .ok
      else (t.cmd? fsn).map (fun x => (x.phase, x.status, x.waitFor)) = some (.admitted, some .ok, s.flushWaits c))

/-- O49 (tier 2). R343 to R346, R361: a Zone Management Send on a zone whose turn has come: Open leaves it explicitly open,
Close closed or, with nothing written, empty, Finish full and Reset empty with its write pointer at the start and none of its
blocks cached; a full zone is neither opened nor closed. Zone Management Receive returns a report of the length asked for. -/
def Obligations.ZoneCommands : Prop := ∀ (s : State) (fsn : Nat) (c : Cmd) (z : Bool) (l : Layout) (zd : ZoneDesc),
  s.ns c.sqe.nsid.toNat = some z → s.zmu.layout = some l →
  (let lz := l.c + sqeSlba c.sqe / zsze;
    s.ioCmd fsn 0x79 = some c → c.sqe.cdw13.getLsbD 8 = false → s.ordered c = true → s.zone? lz = some zd → zd.state < 5 →
    (sqeZsa c.sqe = 3 → s.activeZones < 1024 → s.openZones.length < 256 → Goes (exec (.zoneOpen fsn) s) fun t =>
      if zd.state = 4 then EndsWith t fsn .zoneTrans ∧ t.zmu = s.zmu
      else EndsWith t fsn .ok ∧ t.zone? lz = some { zd with state := 2 }) ∧
    (sqeZsa c.sqe = 1 → Goes (exec (.zoneClose fsn) s) fun t =>
      if zd.state = 0 ∨ zd.state = 4 then EndsWith t fsn .zoneTrans ∧ t.zmu = s.zmu
      else EndsWith t fsn .ok ∧ t.zone? lz = some { zd with state := if zd.state ≠ 3 ∧ zd.wp = 0 then 0 else 3 }) ∧
    (sqeZsa c.sqe = 2 → s.finishBlocks lz = [] → Goes (exec (.zoneFinish fsn) s) fun t =>
      EndsWith t fsn .ok ∧ t.zone? lz = some { zd with state := 4 }) ∧
    (sqeZsa c.sqe = 4 → zd.state ≠ 0 → Goes (exec (.zoneReset fsn) s) fun t =>
      EndsWith t fsn .ok ∧ t.zone? lz = some { zd with state := 0, wp := 0, frontier := 0, merging := false } ∧
      (∀ b ∈ t.buf.cache, b.current = true → b.dlba / zsze ≠ lz))) ∧
  (s.ioCmd fsn 0x7A = some c → inBar s.hpt.bar2 0x10000000 c.sqe.prp1.toNat = false → s.get Reg.HPT.LINK.DSTATE ≠ 3 →
    s.get Reg.HPT.LINK.PM_LINK ≠ 4 → Goes (exec (.zoneManagementReceive fsn) s) fun t => EndsWith t fsn .ok ∧
      ∃ b : Bytes, t.hpt.out = s.hpt.out ++ [.data fsn b] ∧ b.length = (c.sqe.cdw12.toNat + 1) * 4)

/-- O50 (tier 2). R361, R365, R378: a reader whose turn has come fixes the places of its blocks; its blocks reach the host in
order, or the command ends with Unrecovered Read Error where one cannot be delivered; a Verify reads them and sends nothing. A
channel that is open takes the run at hand and one that is not leaves the queue alone. -/
def Obligations.ReadersAndScheduler : Prop := ∀ (s : State) (fsn : Nat) (c : Cmd), s.cmd? fsn = some c → c.sqid ≠ 0 →
  fsn ∉ s.cqu.aers →
  (c.phase = .fetched → c.sqe.opc = 0x02 ∨ c.sqe.opc = 0x0C → s.ordered c = true → Goes (exec (.readerSnapshot fsn) s) fun t =>
    (t.cmd? fsn).map (fun x => (x.phase, x.passed, x.locs)) =
      some (.snapped, true, (s.coveredBy c.sqe).map fun d => (d, s.locate d))) ∧
  (∀ (z : Bool) (l : Layout) media, c.phase = .snapped → c.sqe.opc = 0x02 → c.status = none → s.readDown c = none →
    s.degradedLeft c = false → s.ns c.sqe.nsid.toNat = some z → s.zmu.layout = some l → c.waitFor = [] →
    inBar s.hpt.bar2 0x10000000 c.sqe.prp1.toNat = false → s.get Reg.HPT.LINK.DSTATE ≠ 3 → s.get Reg.HPT.LINK.PM_LINK ≠ 4 →
    Goes (exec (.read fsn media .ok) s) fun t =>
      if (s.readBlocks c media).any Option.isNone = true then EndsWith t fsn .unrecovered ∧ t.hpt.out = s.hpt.out
      else EndsWith t fsn .ok ∧ t.hpt.out = s.hpt.out ++ [.data fsn
        ((((s.readBlocks c media).flatMap fun b => b.getD []).drop (sqeSlba c.sqe % l.per z * l.lbaSize z)).take
          (sqeNlb c.sqe * l.lbaSize z))]) ∧
  (∀ media, c.phase = .snapped → c.sqe.opc = 0x0C → s.readDown c = none → s.degradedLeft c = false →
    Goes (exec (.verify fsn media) s) fun t => t.hpt = s.hpt ∧
      EndsWith t fsn (if (s.readBlocks c media).any Option.isNone = true then .unrecovered else .ok)) ∧
  (∀ (ch : Fin 4) (acc : List (Nat × Nat)) (now : Nat),
    (s.channelOpen ch = false → Goes (exec (.mediaDispatch ch acc now) s) fun t => t.fsqs = s.fsqs ∧
      t.cqu.runs.map (fun r => r.id) = s.cqu.runs.map (fun r => r.id)) ∧
    (∀ (r : MRun) (f : Fsq), s.channelOpen ch = true → s.fsqs[ch.val]? = some f → f.fifo.length < 4 → s.cqu.runs = [r] →
      r.kind = 2 → r.act = ch.val / 2 → s.power.trans = none → assocHas acc r.id = true → s.rereadHere ch r = true →
      s.rateFits r.act r.run = true → Goes (exec (.mediaDispatch ch acc now) s) fun t => t.cqu.runs = [] ∧
        t.fsqs[ch.val]? = some { f with fifo := f.fifo ++ [r.run] }))

/-- O51 (tier 2). R418 to R426, R428: SCAN starts with the descriptor it reads from the window, or ends with Invalid Field where
R419 is broken, and waits while two run; the peer commands start on a ring channel with their RATE and wait while four run; the
last piece of a SCAN completes it with the matches counted, that of PEER_OUT writes its blocks to peer memory, and a PCIe error
ends either kind. -/
def Obligations.VendorCommands : Prop := ∀ (s : State) (fsn : Nat) (c : Cmd),
  (s.ioCmd fsn 0x82 = some c → c.vendor = none → s.computeFailed = false → s.buf.flips = [] → Goes (exec (.scan fsn) s) fun t =>
    if 2 ≤ s.vendorCount true then t = s
    else if scanOk (s.winRead (sqeDesc c.sqe) 512) (c.sqe.cdw14.toNat % 0x800) = true then
      (t.cmd? fsn).map (fun x => x.vendor.map fun v => (v.next, v.pieces, v.active, v.desc, v.matched)) =
        some (some (0, ceilDiv (s.vendorBlocks c.sqe) 1024, true, s.winRead (sqeDesc c.sqe) 512, 0))
    else EndsWith t fsn .badField ∧ t.get Reg.NDC.ERRORS.DESC_REJ =
      min (s.get Reg.NDC.ERRORS.DESC_REJ + 1) (2 ^ Reg.NDC.ERRORS.DESC_REJ.width - 1)) ∧
  (∀ i ∈ [(Instr.peerOut fsn, (0x84 : Byte)), (.peerIn fsn, 0x88)], s.ioCmd fsn i.2 = some c → c.vendor = none →
    s.computeFailed = false → Goes (exec i.1 s) fun t =>
      if 4 ≤ s.vendorCount false then t = s
      else (t.cmd? fsn).map (fun x => x.vendor.map fun v => (v.next, v.pieces, v.chan, v.active)) =
          some (some (0, ceilDiv (s.vendorBlocks c.sqe) 1024, s.peerChan, true)) ∧
        t.get (Reg.DMA.RING_CFG.RATE s.peerChan) = s.peerRate c.sqe % 256) ∧
  (∀ (i : Instr) (op : Byte), (i, op) ∈ [(Instr.scan fsn, (0x82 : Byte)), (.peerOut fsn, 0x84), (.peerIn fsn, 0x88)] →
    s.ioCmd fsn op = some c → c.vendor = none → s.computeFailed = true → Goes (exec i s) fun t => EndsWith t fsn .badOpcode) ∧
  (∀ (v : VendorRun) (bl : List (Option Bytes)), s.cmd? fsn = some c → c.vendor = some v → c.phase ≠ .committed →
    c.status = none → v.next < v.pieces → s.get Reg.HPT.LINK.DSTATE ≠ 3 → s.ordered (s.piece c v.next) = true →
    let bs := s.pieceBlocks (s.piece c v.next) bl;
    (c.sqe.opc = 0x82 → s.get Reg.RCU.PWR.THERM_LEVEL < 2 → bs.any Option.isNone = false → v.pieces = v.next + 1 →
      Goes (exec (.vendorPiece fsn bl .ok) s) fun t => EndsWith t fsn .ok ∧ (t.cmd? fsn).map (fun x => x.dw0) = some
        (min ((bs.filterMap id).foldl (scanBlock (c.sqe.cdw14.toNat % 0x800 * 4096)) v).matched 0xFFFFFFFF)) ∧
    (c.sqe.opc = 0x84 → bs.any Option.isNone = false → s.get Reg.HPT.LINK.PM_LINK ≠ 4 →
      inBar s.hpt.bar2 0x10000000 (peerAddr c v.next) = false → Goes (exec (.vendorPiece fsn bl .ok) s) fun t =>
        t.hpt.out = s.hpt.out ++ [.memWrite (peerAddr c v.next) (bs.flatMap fun b => b.getD [])] ∧
        (if v.pieces = v.next + 1 then EndsWith t fsn .ok
          else (t.cmd? fsn).map (fun x => x.vendor.map fun y => y.next) = some (some (v.next + 1)))) ∧
    (c.sqe.opc = 0x84 ∨ c.sqe.opc = 0x88 → bs.any Option.isNone = false → Goes (exec (.vendorPiece fsn bl .pcieError) s) fun t =>
      EndsWith t fsn .dataXfer ∧ t.get Reg.PTX.ERRORS.PCIE_ERR =
        min (s.get Reg.PTX.ERRORS.PCIE_ERR + 1) (2 ^ Reg.PTX.ERRORS.PCIE_ERR.width - 1)))

/-- O52 (tier 2). R449, R458 to R468: Exit Failure Mode completes without effect; Overwrite and Cryptographic Erase complete
once their record is written and run then, Format once it is done; a running operation refuses another and goes on step by step,
each recorded, step 2 leaving nothing cached and the window zero; a zone of an overwrite's pass moves its record on; a chain
that passes its checks is kept in manufacturing mode, any other sets CHAIN_ERR. -/
def Obligations.ErasureAndChain : Prop := ∀ (s : State),
  (∀ (fsn : Nat) (c : Cmd), s.adm fsn 0x84 = some c → c.sqe.cdw10.getLsbD 9 = false →
    (c.sqe.cdw10.toNat % 8 = 1 → Goes (exec (.exitFailureMode fsn) s) fun t => EndsWith t fsn .ok ∧ t.bur = s.bur ∧
      t.chest = s.chest ∧ t.buf = s.buf) ∧
    (∀ st, s.opBusy = some st → (c.sqe.cdw10.toNat % 8 = 3 → Goes (exec (.overwrite fsn) s) fun t =>
        EndsWith t fsn st ∧ t.chest = s.chest) ∧
      (c.sqe.cdw10.toNat % 8 = 4 → Goes (exec (.cryptographicErase fsn) s) fun t => EndsWith t fsn st ∧ t.chest = s.chest)) ∧
    (∀ l : Layout, s.opBusy = none → s.bur.running = false → s.ioCount = 0 → s.power.trans = none →
      s.get Reg.RCU.PWR.EFFECTIVE < 3 → (∀ d ∈ s.cqu.store, d.phase ≠ .ready) → s.zmu.layout = some l →
      s.chest.writeOk.any id = true →
      (c.sqe.cdw10.toNat % 8 = 3 → Goes (exec (.overwrite fsn) s) fun t => EndsWith t fsn .ok ∧ t.bur.running = true ∧
        t.bur.sstat = 2 ∧ t.chest.progress.map (fun p => (p.op, p.step, p.cdw10, p.pattern, p.layout)) =
          some (1, 1, c.sqe.cdw10, c.sqe.cdw11, l)) ∧
      (c.sqe.cdw10.toNat % 8 = 4 → Goes (exec (.cryptographicErase fsn) s) fun t => EndsWith t fsn .ok ∧ t.bur.running = true ∧
        t.bur.sstat = 2 ∧ t.chest.progress.map (fun p => (p.op, p.step, p.layout)) = some (2, 1, l)))) ∧
  (∀ (fsn : Nat) (c : Cmd) (l : Layout), s.adm fsn 0x80 = some c → c.sqe.nsid = 0xFFFFFFFF → s.opBusy = none →
    fmtSes c.sqe.cdw10 ≤ 2 → c.sqe.cdw10.toNat % 512 ≤ 1 → c.sqe.cdw10.toNat / 0x1000 % 4 = 0 →
    s.newLayout c.sqe.cdw10 = some l → s.bur.running = false → s.ioCount = 0 → s.power.trans = none →
    s.get Reg.RCU.PWR.EFFECTIVE < 3 → (∀ d ∈ s.cqu.store, d.phase ≠ .ready) → s.chest.writeOk.any id = true →
    Goes (exec (.formatNvm fsn) s) fun t => (t.cmd? fsn).map (fun x => x.phase) = some .admitted ∧ t.bur.running = true ∧
      t.chest.progress.map (fun p => (p.op, p.step, p.layout)) = some (3, 1, l)) ∧
  (∀ (p : Progress) (n : Nat), s.chest.progress = some p → s.bur.running = true → s.nextStep p = some n →
    s.chest.writeOk.any id = true → Goes (exec .sanitizeResume s) fun t =>
      t.chest.progress.map (fun q => (q.op, q.step)) = some (p.op, n) ∧
      (n = 2 → t.buf.cache = [] ∧ t.stripe.slots = [] ∧ ∀ off < 0x10000000, t.winGet off = 0) ∧
      (n = 4 → t.zmu.layout = some p.layout ∧ t.zmu.zones = p.layout.freshZones ∧ t.zmu.extents = [] ∧ t.stripe.lost = []) ∧
      (n = 5 → t.chest.saved = [] ∧ t.chest.header.state = 0) ∧
      (n = 7 → t.bur.running = false)) ∧
  (∀ p : Progress, s.chest.progress = some p → s.bur.running = true → p.op = 1 → p.step = 4 →
    p.passes < State.nextStep.owPasses p.cdw10 → s.chest.writeOk.any id = true → Goes (exec .overwriteZone s) fun t =>
      if p.layout.z ≤ p.zone + 1 then t.chest.progress.map (fun q => (q.zone, q.passes)) = some (0, p.passes + 1) ∧
        t.bur.passes = p.passes + 1
      else t.chest.progress.map (fun q => (q.zone, q.passes)) = some (p.zone + 1, p.passes)) ∧
  (∀ a b r : Bool, s.mfg = true → s.chest.writeOk.any id = true → Goes (exec (.chainCommit a b r) s) fun t =>
    t.get Reg.BUR.CTRL.COMMIT = 0 ∧
    (if a = true ∧ b = true ∧ r = true then t.chest.chain =
        (List.range (s.get Reg.BUR.CTRL.CHAIN_LEN)).map (fun i => assocGet (0 : Byte) s.bur.chainBuf i)
      else t.chest.chain = s.chest.chain ∧ t.get Reg.BUR.STATUS.CHAIN_ERR = 1)) ∧
  (s.mfg = false → ∀ a b r, exec (.chainCommit a b r) s = .next s)

/-- The mailbox holds the SPDM answer with this body and waits for nothing (R403): two header dwords, then the message. -/
def Sys2Proof.Machine.Replied (t : State) (body : Bytes) : Prop :=
  t.hpt.doeBusy = false ∧ t.hpt.doeResp = some (BitVec.ofNat 32 0x10001 ::
    BitVec.ofNat 32 ((bytesDwords body).length + 2) :: bytesDwords body)

/-- A part of Obligations.SpdmResponder. R403, R404: the DOE mailbox answers Discovery, takes an SPDM request and discards a
wrong one with DOE Error; Abort empties it. GET_VERSION, GET_CAPABILITIES and NEGOTIATE_ALGORITHMS are answered in this order,
each with what R404 supports (their layouts are PCI Express's and SPDM 1.2's, assumption 4), and out of order with an ERROR. -/
def Sys2Proof.Machine.MailboxAndNegotiation : Prop := ∀ (s : State),
  (s.doeUp = true → ∀ (v : BitVec 16) (y : Byte) (l : List Word), Goes (exec (.doeRequest v y l) s) fun t =>
    t.get Reg.HPT.DOE.RX = min (s.get Reg.HPT.DOE.RX + 1) (2 ^ Reg.HPT.DOE.RX.width - 1) ∧
    (if 1022 < l.length ∨ v ≠ 1 ∨ 1 < y.toNat ∨ s.hpt.doeBusy = true ∨ s.hpt.doeResp.isSome = true ∨ s.hpt.doeErr = true then
      t.hpt = { s.hpt with doeErr := true } ∧
      t.get Reg.HPT.DOE.ERRORS = min (s.get Reg.HPT.DOE.ERRORS + 1) (2 ^ Reg.HPT.DOE.ERRORS.width - 1)
    else if y = 0 then t.hpt.doeResp = some [1, 3, doeDiscovery (byteAt (dwordBytes l) 0)] ∧ t.hpt.doeBusy = false
    else spdmCodes.contains (byteAt (dwordBytes l) 1) = true → l ≠ [] → t.hpt.doeBusy = true ∧ t.hpt.doeReq = dwordBytes l)) ∧
  (s.doeUp = true → Goes (exec .doeAbort s) fun t => t.hpt.doeBusy = false ∧ t.hpt.doeReq = [] ∧ t.hpt.doeResp = none ∧
    t.hpt.doeErr = false ∧ t.get Reg.HPT.DOE.ABORTS = min (s.get Reg.HPT.DOE.ABORTS + 1) (2 ^ Reg.HPT.DOE.ABORTS.width - 1)) ∧
  (∀ m, s.spdmReq 0x84 = some m → Goes (exec .getVersion s) fun t =>
    if byteAt m 0 = 0x10 then Replied t [0x10, 0x04, 0, 0, 0, 1, 0x00, 0x12] ∧ t.hpt.spdm.stage = 1 ∧ t.hpt.spdm.certs = []
    else Replied t [if s.hpt.spdm.stage = 0 then 0x10 else 0x12, 0x7F, 0x41, 0] ∧ t.hpt.spdm = s.hpt.spdm) ∧
  (∀ m, s.spdmReq 0xE1 = some m → 20 ≤ m.length → Goes (exec (.getCapabilities (m.getD 0 0)) s) fun t =>
    if s.hpt.spdm.stage ≠ 1 then Replied t [if s.hpt.spdm.stage = 0 then 0x10 else 0x12, 0x7F, 0x04, 0]
    else if byteAt m 0 ≠ 0x12 then Replied t [0x12, 0x7F, 0x41, 0]
    else t.hpt.spdm.stage = 2 ∧ ∃ e : Byte, Replied t ([0x12, 0x61, 0, 0, 0, e, 0, 0, 0x16, 0, 0, 0] ++
      toLe 4 4096 ++ toLe 4 4096)) ∧
  (∀ m, s.spdmReq 0xE3 = some m → 32 ≤ m.length → byteAt m 0 = 0x12 → s.hpt.spdm.stage = 2 →
    Goes (exec (.negotiateAlgorithms (BitVec.ofNat 32 (leAt m 8 4)) (BitVec.ofNat 32 (leAt m 12 4)) (BitVec.ofNat 8 (byteAt m 6))) s)
      fun t => if (leAt m 8 4).testBit 7 = true ∧ (leAt m 12 4).testBit 1 = true ∧ (byteAt m 6).testBit 0 = true then
          t.hpt.spdm.stage = 3 ∧ Replied t ([0x12, 0x63, 0, 0, 36, 0, 1, 0] ++ toLe 4 4 ++ toLe 4 0x80 ++ toLe 4 2 ++ zeros 16)
        else t.hpt.spdm.stage = 2 ∧ Replied t [0x12, 0x7F, 0x01, 0])

/-- A part of Obligations.SpdmResponder. R404, R449, R455: with a negotiated session GET_DIGESTS and GET_CERTIFICATE give the
digest and a piece of the slot 0 chain, CHALLENGE its digest, a nonce, the summary asked for and a signature, GET_MEASUREMENTS
the number of blocks, one block or all; what needs a chain is answered with Unspecified where there is none. -/
def Sys2Proof.Machine.SpdmAnswers : Prop := ∀ (s : State) (m : Bytes), s.hpt.spdm.stage = 3 → byteAt m 0 = 0x12 →
  (s.spdmReq 0x81 = some m → 4 ≤ m.length → Goes (exec .getDigests s) fun t =>
    if s.flag Reg.BUR.STATUS.CHAIN_PRESENT = true then Replied t ([0x12, 0x01, 0, 1] ++ sha384 s.bur.chain)
    else Replied t [0x12, 0x7F, 0x05, 0]) ∧
  (s.spdmReq 0x82 = some m → 8 ≤ m.length → ∀ (off len : BitVec 16), leAt m 4 2 = off.toNat → leAt m 6 2 = len.toNat →
    Goes (exec (.getCertificate (m.getD 2 0) off len) s) fun t =>
      if s.flag Reg.BUR.STATUS.CHAIN_PRESENT = false then Replied t [0x12, 0x7F, 0x05, 0]
      else if m.getD 2 0 ≠ 0 ∨ s.bur.chain.length ≤ off.toNat then Replied t [0x12, 0x7F, 0x01, 0]
      else let n := min (min len.toNat (s.bur.chain.length - off.toNat)) 4088
        Replied t ([0x12, 0x02, 0, 0] ++ toLe 2 n ++ toLe 2 (s.bur.chain.length - off.toNat - n) ++
          slice s.bur.chain off.toNat n)) ∧
  (s.spdmReq 0x83 = some m → 36 ≤ m.length → m.getD 2 0 = 0 → m.getD 3 0 ∈ [(0 : Byte), 1, 0xFF] →
    s.flag Reg.BUR.STATUS.CHAIN_PRESENT = true → Goes (exec (.challenge 0 (m.getD 3 0) (slice m 4 32)) s) fun t =>
      t.hpt.spdm.certs = [] ∧ ∃ nonce sig : Bytes, nonce.length = 32 ∧ Replied t ([0x12, 0x03, 0, 1] ++ sha384 s.bur.chain ++
        nonce ++ s.measSummary (byteAt m 3) ++ [0, 0] ++ sig)) ∧
  (s.spdmReq 0x83 = some m → 36 ≤ m.length → s.flag Reg.BUR.STATUS.CHAIN_PRESENT = false →
    Goes (exec (.challenge (m.getD 2 0) (m.getD 3 0) (slice m 4 32)) s) fun t => Replied t [0x12, 0x7F, 0x05, 0]) ∧
  (s.spdmReq 0xE0 = some m → 4 ≤ m.length → (m.getD 2 0).getLsbD 0 = false → ∀ (nonce : Bytes) (slot : Byte),
    Goes (exec (.getMeasurements (m.getD 2 0) (m.getD 3 0) nonce slot) s) fun t =>
      (m.getD 3 0 = 0xFF → ∃ n : Bytes, n.length = 32 ∧ Replied t ([0x12, 0x60, 0, 0] ++ toLe 1 s.measBlocks.length ++
        toLe 3 s.record.length ++ s.record ++ n ++ [0, 0])) ∧
      (m.getD 3 0 = 0 → ∃ n : Bytes, n.length = 32 ∧ Replied t ([0x12, 0x60] ++ toLe 1 s.measBlocks.length ++ [0] ++
        toLe 1 s.measBlocks.length ++ [0, 0, 0] ++ n ++ [0, 0])) ∧
      (9 ≤ byteAt m 3 → m.getD 3 0 ≠ 0xFF → Replied t [0x12, 0x7F, 0x01, 0]))

/-- O53 (tier 2). R403, R404, R455: the DOE mailbox and the SPDM responder. -/
def Obligations.SpdmResponder : Prop := MailboxAndNegotiation ∧ SpdmAnswers

/-- A part of Obligations.PowerAndThermalLevels. R433, R435 to R437, R439 to R441, R446: the idle timers put the limits of PS1
and PS2 in force, the APST timer starts the entry its table names; an entry waits for the runs and the tables before its first
step, writes a checkpoint on the way to PS4 with nothing dirty, and ends in its state once the links sleep; an exit waits for 90
% of the speed, and ends in the state it leads to with both actuators following; self-refresh begins in PS3 and PS4 only. -/
def Sys2Proof.Machine.PowerStates : Prop := ∀ (s : State),
  (s.idleNow = true → s.get Reg.RCU.PWR.HOST_PS = 0 → s.get Reg.RCU.PWR.EFFECTIVE = 0 →
    (s.timer (·.t1) ≠ 0 → Goes (exec .idleTimerPs1 s) fun t => t.get Reg.RCU.PWR.EFFECTIVE = 1 ∧
      OnlyFields [Reg.RCU.PWR.EFFECTIVE] s t) ∧
    (s.timer (·.t2) ≠ 0 → Goes (exec .idleTimerPs2 s) fun t => t.get Reg.RCU.PWR.EFFECTIVE = 2 ∧
      OnlyFields [Reg.RCU.PWR.EFFECTIVE] s t)) ∧
  (∀ e ps : Nat, s.cqu.feats.apst.getD (s.get Reg.RCU.PWR.HOST_PS) 0 = e → e / 8 % 32 = ps → (ps = 3 ∨ ps = 4) →
    e / 256 ≠ 0 → s.idleNow = true → s.flag Reg.RCU.PWR.APSTE = true → s.get Reg.RCU.PWR.EFFECTIVE < ps → s.apstDeferred = false →
    s.bur.running = false → Goes (exec .apstTimer s) fun t => t.power.trans = some ⟨ps, true, 0⟩ ∧
      t.get Reg.RCU.PWR.TRANSITION = 1 ∧ t.get Reg.RCU.PWR.HOST_PS = ps) ∧
  (∀ i ∈ [(Instr.ps3Entry, 3), (.ps4Entry, 4)],
    (s.power.trans = some ⟨i.2, true, 0⟩ → Goes (exec i.1 s) fun t =>
      if s.runsEnded = true ∧ s.flag Reg.SLE.RRO_STATUS.SAVE_PENDING = false ∧ s.media.changed = false then
        t.power.trans = some ⟨i.2, true, 1⟩ else t = s) ∧
    (s.power.trans = some ⟨i.2, true, 2⟩ → s.spin.pending = none → (∀ b ∈ s.buf.cache, b.dirty = false) →
      Goes (exec i.1 s) fun t => t.power.trans = some ⟨i.2, true, 3⟩ ∧
        t.core.gen = (if i.2 = 4 then s.core.gen + 1 else s.core.gen)) ∧
    (s.power.trans = some ⟨i.2, true, 5⟩ → s.linkUp .ezpolA = false → s.linkUp .ezpolB = false → s.power.want = none →
      Goes (exec i.1 s) fun t => t.power.trans = none ∧ t.get Reg.RCU.PWR.EFFECTIVE = i.2 ∧ t.get Reg.RCU.PWR.HOST_PS = i.2 ∧
        t.get Reg.RCU.PWR.TRANSITION = 0)) ∧
  (∀ (i : Instr) (n : Nat), (i, s.get Reg.RCU.PWR.EFFECTIVE) ∈ [(Instr.ps3Exit, 0), (.ps3Exit, 1), (.ps3Exit, 2), (.ps3Exit, 3),
      (.ps4Exit, 4)] → n < 3 →
    (s.power.trans = some ⟨n, false, 0⟩ → Goes (exec i s) fun t => t.power.trans = some ⟨n, false, 1⟩) ∧
    (s.power.trans = some ⟨n, false, 1⟩ → Goes (exec i s) fun t =>
      if s.speedOver 90 = true then t.power.trans = some ⟨n, false, 2⟩ ∧ t.buf.selfRef = false else t = s) ∧
    (s.power.trans = some ⟨n, false, 2⟩ → s.actReady .a = true → s.actReady .b = true → s.power.want = none →
      Goes (exec i s) fun t => t.power.trans = none ∧ t.get Reg.RCU.PWR.EFFECTIVE = n ∧ t.get Reg.RCU.PWR.HOST_PS = n)) ∧
  Goes (exec .dramSelfRefreshIdle s) (fun t => t.regs = s.regs ∧
    t.buf.selfRef = (s.buf.selfRef || decide (3 ≤ s.get Reg.RCU.PWR.EFFECTIVE)))

/-- A part of Obligations.PowerAndThermalLevels. R443, R444: a reading of the four sensors updates T_j, the mean of the last
four of the hottest, and its maximum; at CRIT the thermal level is 3, and level 1 is left below THROTTLE less HYST. -/
def Sys2Proof.Machine.ThermalLevels : Prop := ∀ (s : State) (r0 r1 r2 r3 : Int), s.start.rst = .running →
  Goes (exec (.thermalSample r0 r1 r2 r3) s) fun t =>
    let tj := meanTj [r0 :: (s.power.temps.getD 0 []).take 3, r1 :: (s.power.temps.getD 1 []).take 3,
      r2 :: (s.power.temps.getD 2 []).take 3, r3 :: (s.power.temps.getD 3 []).take 3]
    t.get Reg.RCU.THERMAL.TJ = min tj.toNat 255 ∧
    t.get Reg.RCU.THERMAL.TJ_MAX = max (s.get Reg.RCU.THERMAL.TJ_MAX) (min tj.toNat 255) ∧
    (∀ c, s.cfg = some c → ((c.power.crit : Int) ≤ tj → t.get Reg.RCU.PWR.THERM_LEVEL = 3) ∧
      (s.get Reg.RCU.PWR.THERM_LEVEL = 1 → c.power.throttle ≤ c.power.crit → tj < (c.power.throttle : Int) - c.power.hyst →
        t.get Reg.RCU.PWR.THERM_LEVEL = 0))

/-- O54 (tier 2). R433 to R446: power states are entered and left; thermal levels. -/
def Obligations.PowerAndThermalLevels : Prop := PowerStates ∧ ThermalLevels

/-- O55 (tier 2). R473, R474, R476, R484, R490, R491: a minute counts once for power-on time, the power state and the thermal
level, and the 60th asks for a slot write; the end of a write puts the values in the older slot with the next GEN. CLEAR and
PERSIST act in manufacturing mode, CLEAR after a write that runs. A fuse operation ends with DONE, its OP and INDEX; one
repeated sets ERR and burns nothing, and a key slot whose check fails is revoked. -/
def Obligations.CredenzaAndFuses : Prop := ∀ (s : State),
  (s.start.rst = .running →
    Goes (exec .minuteTick s) (fun t => t.crd.minutes = s.crd.minutes + 1 ∧
      t.crd.busy = (s.crd.busy || decide (60 ≤ s.crd.minutes + 1)) ∧
      (∀ k ∈ [(0x01, 0), (0x14, s.get Reg.RCU.PWR.EFFECTIVE)] ++
          (if s.get Reg.RCU.PWR.THERM_LEVEL = 0 then [] else [(0x15, s.get Reg.RCU.PWR.THERM_LEVEL)]),
        assocGet (0, false) t.crd.cnt k = (crdAdd 0xFFFFFFFFFFFFFFFF (assocGet (0, false) s.crd.cnt k) 1).1)) ∧
    (s.crd.busy = true → s.crd.clearWait = false → s.chest.writeOk.any id = true → s.chest.credSlots.length = 2 →
      Goes (exec .credenzaPersist s) fun t => t.crd.busy = false ∧ t.get Reg.CRD.CTRL.PERSIST = 0 ∧ t.crd.minutes = 0 ∧
        t.get Reg.CRD.STATUS.SLOT = s.olderSlot ∧
        (t.chest.credSlots.getD s.olderSlot none).map (fun c => (c.cnt, c.bins, c.rows, c.pages)) =
          some (s.crd.cnt, s.crd.bins, s.buf.kept.rows, s.buf.kept.pages) ∧
        credGen (t.chest.credSlots.getD s.olderSlot none) = 1 +
          max (credGen (s.chest.credSlots.getD 0 none)) (credGen (s.chest.credSlots.getD 1 none)))) ∧
  (s.mfg = true →
    Goes (exec .crdClear s) (fun t => if s.crd.busy = true then t.crd.clearWait = true ∧ t.get Reg.CRD.CTRL.CLEAR = 1 ∧
        t.crd.cnt = s.crd.cnt
      else t.crd.cnt = [] ∧ t.crd.bins = [] ∧ t.get Reg.CRD.STATUS.LOST = 0 ∧ t.get Reg.CRD.CTRL.CLEAR = 0 ∧
        t.crd.icalMfg = (List.range 24).map (fun h => s.get (Reg.EAC.HEAD.WRITE_CUR h)) ∧ t.buf.kept = s.buf.kept) ∧
    Goes (exec .persist s) (fun t => t.crd.busy = true ∧ t.get Reg.CRD.CTRL.PERSIST = 1) ∧
    ∀ ok : Bool,
      let Ended (t : State) (op index : Nat) (err : Bool) : Prop := t.get Reg.TST.FUSE.DONE = 1 ∧ t.get Reg.TST.FUSE.GO = 0 ∧
        t.get Reg.TST.FUSE.OP = op ∧ t.get Reg.TST.FUSE.INDEX = index ∧ t.flag Reg.TST.FUSE.ERR = err;
      Goes (exec (.burnDs ok) s) (fun t => Ended t 1 0 (s.fuses.dsBurned || !ok) ∧
        t.fuses = (if s.fuses.dsBurned = true then s.fuses else { s.fuses with dsBurned := true, dsOk := ok })) ∧
      (∀ (n : Fin 4) (k : KeySlot), s.fuses.keys[n.val]? = some k →
        Goes (exec (.programKeySlot n ok) s) (fun t => Ended t 2 n (k.prog || !ok) ∧ t.fuses.keys[n.val]? = some
          (if k.prog = true then k else ⟨s.fuseDigest, true, k.revoked || !ok⟩)) ∧
        Goes (exec (.revokeKeySlot n ok) s) (fun t => Ended t 3 n (k.revoked || !ok) ∧ t.fuses.keys[n.val]? = some
          { k with revoked := k.revoked || ok })) ∧
      (∀ (n : Fin 2) (r : Bool), s.fuses.htRevoked[n.val]? = some r → Goes (exec (.revokeHoltaleKey n ok) s) fun t =>
        Ended t 4 n (r || !ok) ∧ t.fuses.htRevoked[n.val]? = some (r || ok))) ∧
  (s.mfg = false → ∀ (ok : Bool), ∀ i ∈ [Instr.crdClear, .persist, .burnDs ok] ++
      (List.range 4).flatMap (fun n => [Instr.programKeySlot (Fin.ofNat 4 n) ok, .revokeKeySlot (Fin.ofNat 4 n) ok,
        .revokeHoltaleKey (Fin.ofNat 2 n) ok]), exec i s = .next s)

/-- O56 (tier 2). R126, R411, R485, R487, R488: a loopback runs in manufacturing mode where its depth exists and its
precondition holds, and else ends at once with FAIL (REFUSED for TST); a link leaves the up state. It ends with DONE, FAIL where
errors were counted, and a link then trains from its first step. NSTREAD shifts out BOOT_STATUS and PREV_STATUS; EXTEST drives
the boundary cells. -/
def Obligations.LoopbacksAndTestPort : Prop := ∀ (s : State),
  (s.mfg = true → ∀ v : Word,
    (s.flag Reg.TST.LB.RUN = false → v.getLsbD 7 = true → Goes (exec (.tstLoopback v) s) fun t =>
      t.get Reg.TST.LB.IF = v.toNat % 16 ∧ t.get Reg.TST.LB.DEPTH = v.toNat / 16 % 8 ∧
      let ok := s.tstReady (v.toNat % 16) (v.toNat / 16 % 8);
      t.flag Reg.TST.LB.RUN = ok ∧ t.flag Reg.TST.LB.DONE = !ok ∧ t.flag Reg.TST.LB.FAIL = !ok ∧
      t.flag Reg.TST.LB.REFUSED = !ok) ∧
    (∀ p : Port, s.flag (lbFlds p).2.1 = false → v.getLsbD 4 = true → Goes (exec (.elkLoopback p v) s) fun t =>
      t.get (lbFlds p).1 = v.toNat % 8 ∧
      if s.lbReady p (v.toNat % 8) = true then t.flag (lbFlds p).2.1 = true ∧ t.linkUp p = false ∧
        t.flag (lbFlds p).2.2.1 = false
      else t.flag (lbFlds p).2.1 = false ∧ t.linkUp p = s.linkUp p ∧ t.flag (lbFlds p).2.2.1 = true ∧
        t.flag (lbFlds p).2.2.2.1 = true) ∧
    (s.flag Reg.HPT.LB_CTRL.RUN = false → s.block 8 = .running → v.getLsbD 7 = true → Goes (exec (.hptLoopback v) s) fun t =>
      t.get Reg.HPT.LB_CTRL.DEPTH = v.toNat % 8 ∧
      if v.toNat % 8 ∈ [3, 4] ∨ (v.toNat % 8 ∈ [1, 2] ∧ s.cqu.nvme.cc.getLsbD 0 = false) then
        t.flag Reg.HPT.LB_CTRL.RUN = true ∧ (v.toNat % 8 ∈ [2, 3] → t.get Reg.HPT.LINK.SPEED = 0)
      else t.flag Reg.HPT.LB_CTRL.RUN = false ∧ t.flag Reg.HPT.LB_CTRL.DONE = true ∧
        t.flag Reg.HPT.LB_CTRL.FAIL = true ∧ t.hpt = s.hpt)) ∧
  (s.mfg = false → ∀ (v : Word) (p : Port), ∀ i ∈ [Instr.tstLoopback v, .elkLoopback p v, .hptLoopback v],
    exec i s = .next s) ∧
  (∀ n : Nat,
    (s.flag Reg.TST.LB.RUN = true → Goes (exec (.loopbackDone 0 n) s) fun t => t.flag Reg.TST.LB.RUN = false ∧
      t.flag Reg.TST.LB.DONE = true ∧ t.flag Reg.TST.LB.FAIL = decide (n ≠ 0) ∧
      t.get Reg.TST.LB_ERR.ERRORS = min n 0xFFFFFFFF) ∧
    (∀ i ∈ [((1 : Fin 5), Port.ezpolA), (2, .ezpolB), (3, .zhosel)], s.flag (lbFlds i.2).2.1 = true →
      Goes (exec (.loopbackDone i.1 n) s) fun t => t.flag (lbFlds i.2).2.1 = false ∧ t.flag (lbFlds i.2).2.2.1 = true ∧
        t.flag (lbFlds i.2).2.2.2.1 = decide (n ≠ 0) ∧ t.get (linkStateFld i.2) = 1) ∧
    (s.flag Reg.HPT.LB_CTRL.RUN = true → Goes (exec (.loopbackDone 4 n) s) fun t => t.flag Reg.HPT.LB_CTRL.RUN = false ∧
      t.flag Reg.HPT.LB_CTRL.DONE = true ∧ t.flag Reg.HPT.LB_CTRL.FAIL = decide (n ≠ 0) ∧
      (s.get Reg.HPT.LINK.SPEED = 0 → t.hpt.training = true))) ∧
  exec .nstread s = .next { s with pins := { s.pins with
    tapOut := toLe 4 (s.regs.word (Reg.key 1 0)).toNat ++ toLe 4 (s.regs.word (Reg.key 1 4)).toNat } } ∧
  (∀ d m : List Bool, Goes (exec (.extest d m) s) fun t => t.pins.tapCells = d ∧ t.regs = s.regs ∧
    t = { s with pins := t.pins })

/-- O57 (tier 2). R14, R484, R486, R492: the diagnostic aperture answers in manufacturing mode only, to aligned 4-byte accesses;
an unlisted slot reads zeros, a block in reset or without power reads all ones and drops writes, and a register is read and
written as its Access column says, by the aperture as by BAR0. -/
def Obligations.HostReachesRegisters : Prop := ∀ (s : State), Reachable s →
  (∀ (off size : Nat) (v : Word), s.mfg = false ∨ 0x4000000 ≤ off →
    exec (.apertureAccess off size none) s = .next (s.unsup true) ∧
    exec (.apertureAccess off size (some v)) s = .next (s.unsup false)) ∧
  (s.mfg = true →
    (∀ (off size : Nat) (w : Option Word), off < 0x4000000 → size ≠ 4 ∨ off % 4 ≠ 0 →
      Goes (exec (.apertureAccess off size w) s) fun t =>
        t.get Reg.TST.APERTURE.UR = min (s.get Reg.TST.APERTURE.UR + 1) (2 ^ Reg.TST.APERTURE.UR.width - 1)) ∧
    (∀ (slot off : Nat), slot < 0x400 → off < 0x10000 → off % 4 = 0 → ∀ (w : Word),
      let a := slot * 0x10000 + off;
      (0x1A ≤ slot → exec (.apertureAccess a 4 none) s = .next (s.send (.readData [0, 0, 0, 0])) ∧
        exec (.apertureAccess a 4 (some w)) s = .next s) ∧
      (slot < 0x1A → s.blockDown slot = true →
        Goes (exec (.apertureAccess a 4 none) s) (fun t =>
          t.get Reg.TST.APERTURE.DROPPED = min (s.get Reg.TST.APERTURE.DROPPED + 1) (2 ^ Reg.TST.APERTURE.DROPPED.width - 1) ∧
          (s.get Reg.HPT.LINK.PM_LINK ≠ 4 → t.hpt.out = s.hpt.out ++ [.readData [0xFF, 0xFF, 0xFF, 0xFF]])) ∧
        exec (.apertureAccess a 4 (some w)) s = .next (s.bump Reg.TST.APERTURE.DROPPED 1)) ∧
      (slot < 0x1A → slot ≠ 3 → slot ≠ 6 → s.blockDown slot = false → s.get Reg.HPT.LINK.PM_LINK ≠ 4 →
        Goes (exec (.apertureAccess a 4 none) s) fun t => ∃ r : Word, t.hpt.out = s.hpt.out ++ [.readData (toLe 4 r.toNat)] ∧
          (s.view slot = [] → (Reg.row? slot off).isSome = true → r = s.regs.word (Reg.key slot off)) ∧
          (Reg.row? slot off = none → r = 0)) ∧
      (slot ∈ [0x01, 0x02, 0x05, 0x07, 0x09, 0x0B, 0x0E, 0x0F, 0x10, 0x11, 0x12, 0x13, 0x14, 0x15, 0x18, 0x19] →
        s.blockDown slot = false →
        exec (.apertureAccess a 4 (some w)) s = .next (s.writeMasked slot off w) ∧
        exec (.registerWrite (.block (Fin.ofNat 26 slot)) off w) s = .next (s.writeMasked slot off w) ∧
        ∀ r, Reg.row? slot off = some r → (s.writeMasked slot off w).regs.word (Reg.key slot off) =
          r.write (s.regs.word (Reg.key slot off)) w)) ∧
    (s.blockDown 6 = false → ∀ (i : Nat) (w : Word), i < 12 →
      Goes (exec (.apertureAccess (0x60100 + 4 * i) 4 (some w)) s) fun t => t.fuses = s.fuses ∧ t.regs = s.regs ∧
        ∀ k < 48, t.fuseDigest.getD k 0 = if 4 * i ≤ k ∧ k < 4 * i + 4 then (toLe 4 w.toNat).getD (k - 4 * i) 0
          else s.fuseDigest.getD k 0)) ∧
  (∀ (off : Nat) (w : Word), off % 4 = 0 →
    (∀ i ∈ [(0x0C, Instr.intms w), (0x10, .intmc w), (0x20, .nssr w)], off = i.1 →
      exec (.registerWrite .bar0 off w) s = .next (s.via (exec i.2 s))) ∧
    (∀ n < 65, (off = 0x1000 + 8 * n → exec (.registerWrite .bar0 off w) s = .next (s.via (exec (.sqTailDoorbell n w) s))) ∧
      (off = 0x1004 + 8 * n → exec (.registerWrite .bar0 off w) s = .next (s.via (exec (.cqHeadDoorbell n w) s)))) ∧
    (off = 0x24 → Goes (exec (.registerWrite .bar0 off w) s) fun t => t.cqu.nvme.aqa = w &&& 0x0FFF0FFF) ∧
    (0x4000 ≤ off → exec (.registerWrite .bar0 off w) s = .next (s.unsup false)))

/-- O58 (tier 2). R130: a motion power chip applies a SPIN_DRIVE that arrives late at once, with its ANGLE advanced by RATE for
each tick that has passed since APPLY_LT, and sets LATE in its RESP; the controller counts each LATE in SPC.STATUS.LATE, and no
other action follows. -/
def Obligations.LateSpinDrive : Prop := ∀ (s : State) (tag : Byte),
  (∀ (a g r : Word) (amp : BitVec 16) (lt : Word), s.motHears = true → ltPassed a lt = true →
    Goes (exec (.spinDrive tag a g r amp lt) s) fun t => t.motion.applyLt = lt ∧ t.motion.angle = g + r * (lt - a) ∧
      t.motion.rate = r.toInt ∧ t.motion.ampl = amp ∧ Answered t .zhosel 0 0 0x12 tag [1]) ∧
  (∀ (h : CellHdr) (k : Byte × Byte × Nat), Expected s .zhosel h → s.linkZ.ctl.waiting = [] →
    (s.linkZ.tags.find? fun t => t.1 == tag && t.2.1 == 0x12) = some k →
    Goes (exec (.resp .zhosel h 0 0 0x12 tag [1]) s) fun t =>
      t.get Reg.SPC.STATUS.LATE = min (s.get Reg.SPC.STATUS.LATE + 1) (2 ^ Reg.SPC.STATUS.LATE.width - 1) ∧
      OnlyFields [Reg.SPC.STATUS.LATE] s t ∧ t.spin = s.spin ∧ t.motion = s.motion)

/-- O59 (tier 2). R347: a read of a block at or above the write pointer, or at an offset of ZCAP or more, returns zeros without
media access, and so it does at the unwritten positions of a finished zone: its snapshot names no place on media for such a
block, and its data are zeros whatever media would deliver. -/
def Obligations.ReadsBeyondWritePointer : Prop := ∀ (s : State) (fsn : Nat) (c : Cmd) (d : Nat), s.cmd? fsn = some c →
  (∀ z : ZoneDesc, c.sqid ≠ 0 → c.phase = .fetched → c.sqe.opc = 0x02 → s.ordered c = true → d ∈ s.coveredBy c.sqe →
    s.cached d = none → s.isLost d = false → (∀ e ∈ s.zmu.extents, ¬ (e.dlba ≤ d ∧ d < e.dlba + e.count)) →
    s.zone? (d / zsze) = some z → z.frontier ≤ 96 → 0 < s.width →
    (z.state ≠ 5 ∧ z.wp ≤ d % zsze) ∨ 96 * (256 * s.width) ≤ d % zsze ∨ z.frontier * (256 * s.width) ≤ d % zsze →
    Goes (exec (.readerSnapshot fsn) s) fun t => ∃ x, t.cmd? fsn = some x ∧ (d, Loc.zero) ∈ x.locs ∧
      ∀ l, (d, l) ∈ x.locs → l = .zero) ∧
  (∀ (i : Nat) (media : List (Option Bytes)), c.locs[i]? = some (d, .zero) →
    (s.readBlocks c media)[i]? = some (some (zeros 4096)))
end

