-- ==== Sys2Proof/Laws/Sparse.lean ====
section
/-!
SUPPORT. Sparse tables: a read after a write, and that every write keeps the canonical form.
-/

set_option linter.unusedTactic false
set_option linter.unreachableTactic false
set_option linter.style.nameCheck false

namespace Sys2Proof.Machine

variable {α : Type} {d : Nat → α}

theorem Sparse.sorted_mono {l : List (Nat × α)} {lo lo' : Nat} (h : lo' ≤ lo) (hs : Sparse.sorted lo l = true) :
    Sparse.sorted lo' l = true := by
  cases l with
  | nil => rfl
  | cons e t => simp only [Sparse.sorted, Bool.and_eq_true, decide_eq_true_eq] at hs ⊢; exact ⟨by omega, hs.2⟩

theorem Sparse.sorted_filter (p : Nat × α → Bool) {l : List (Nat × α)} {lo : Nat} (hs : Sparse.sorted lo l = true) :
    Sparse.sorted lo (l.filter p) = true := by
  induction l generalizing lo with
  | nil => rfl
  | cons e t ih =>
    simp only [Sparse.sorted, Bool.and_eq_true, decide_eq_true_eq] at hs
    by_cases hp : p e = true
    · rw [List.filter_cons_of_pos hp]
      simp only [Sparse.sorted, Bool.and_eq_true, decide_eq_true_eq]
      exact ⟨hs.1, ih hs.2⟩
    · rw [List.filter_cons_of_neg hp]
      exact Sparse.sorted_mono (by omega) (ih hs.2)

theorem Sparse.sorted_ins {k : Nat} (v : α) {l : List (Nat × α)} {lo : Nat} (hk : lo ≤ k)
    (hn : ∀ e ∈ l, e.1 ≠ k) (hs : Sparse.sorted lo l = true) : Sparse.sorted lo (Sparse.ins k v l) = true := by
  induction l generalizing lo with
  | nil => simpa [Sparse.ins, Sparse.sorted] using hk
  | cons e t ih =>
    obtain ⟨j, w⟩ := e
    simp only [Sparse.sorted, Bool.and_eq_true, decide_eq_true_eq] at hs
    have hj : j ≠ k := hn (j, w) (by simp)
    unfold Sparse.ins
    split
    · simp only [Sparse.sorted, Bool.and_eq_true, decide_eq_true_eq]
      exact ⟨hk, by omega, hs.2⟩
    · simp only [Sparse.sorted, Bool.and_eq_true, decide_eq_true_eq]
      exact ⟨hs.1, ih (by omega) (fun e he => hn e (by simp [he])) hs.2⟩

theorem Sparse.mem_ins {k : Nat} {v : α} {l : List (Nat × α)} {e : Nat × α} (h : e ∈ Sparse.ins k v l) :
    e = (k, v) ∨ e ∈ l := by
  induction l with
  | nil => simpa [Sparse.ins] using h
  | cons a t ih =>
    obtain ⟨j, w⟩ := a
    unfold Sparse.ins at h
    split at h
    · simpa using h
    · simp only [List.mem_cons] at h ⊢
      rcases h with h | h
      · exact Or.inr (Or.inl h)
      · rcases ih h with h | h
        · exact Or.inl h
        · exact Or.inr (Or.inr h)

/-- Any selection of entries of a canonical table is canonical. -/
theorem Sparse.wf_filter [DecidableEq α] (p : Nat × α → Bool) {l : List (Nat × α)} (h : Sparse.wf d l = true) :
    Sparse.wf d (l.filter p) = true := by
  simp only [Sparse.wf, Bool.and_eq_true, List.all_eq_true] at h ⊢
  exact ⟨Sparse.sorted_filter p h.1, fun e he => h.2 e (List.mem_filter.1 he).1⟩

/-- What a write does, on every table alike. -/
theorem Sparse.put_eq [DecidableEq α] (d : Nat → α) (l : List (Nat × α)) (k : Nat) (v : α) :
    Sparse.put d l k v =
      if v = d k then l.filter fun e => e.1 != k else Sparse.ins k v (l.filter fun e => e.1 != k) := by
  cases l <;> rfl

/-- A write keeps the canonical form. -/
theorem Sparse.wf_put [DecidableEq α] {l : List (Nat × α)} (k : Nat) (v : α) (h : Sparse.wf d l = true) :
    Sparse.wf d (Sparse.put d l k v) = true := by
  rw [Sparse.put_eq]
  have hf := Sparse.wf_filter (d := d) (fun e => e.1 != k) h
  split
  · exact hf
  · rename_i hv
    simp only [Sparse.wf, Bool.and_eq_true, List.all_eq_true] at hf ⊢
    refine ⟨Sparse.sorted_ins v (Nat.zero_le k) (fun e he => ?_) hf.1, fun e he => ?_⟩
    · simpa using (List.mem_filter.1 he).2
    · rcases Sparse.mem_ins he with rfl | he
      · simpa using hv
      · exact hf.2 e he

/-- A run of writes keeps the canonical form. -/
theorem Sparse.wf_putRun [DecidableEq α] {l : List (Nat × α)} (k : Nat) (vs : List α) (h : Sparse.wf d l = true) :
    Sparse.wf d (Sparse.putRun d l k vs) = true := by
  induction vs generalizing l k with
  | nil => exact h
  | cons v vs ih => exact ih (k + 1) (Sparse.wf_put k v h)

theorem Sparse.get_filter_ne (d : Nat → α) (l : List (Nat × α)) (k a : Nat) :
    Sparse.get d (l.filter fun e => e.1 != k) a = if a = k then d k else Sparse.get d l a := by
  induction l with
  | nil => simp only [List.filter_nil, Sparse.get]; split <;> simp_all
  | cons e t ih =>
    obtain ⟨j, w⟩ := e
    by_cases hj : j = k
    · subst hj
      rw [List.filter_cons_of_neg (by simp), ih]
      simp only [Sparse.get]
      split <;> rfl
    · rw [List.filter_cons_of_pos (by simpa using hj)]
      simp only [Sparse.get, ih]
      split
      · rename_i h; subst h; simp [hj]
      · rfl

theorem Sparse.get_ins (d : Nat → α) {l : List (Nat × α)} {k : Nat} (v : α) (a : Nat) (hn : ∀ e ∈ l, e.1 ≠ k) :
    Sparse.get d (Sparse.ins k v l) a = if a = k then v else Sparse.get d l a := by
  induction l with
  | nil => simp [Sparse.ins, Sparse.get]
  | cons e t ih =>
    obtain ⟨j, w⟩ := e
    have hj : j ≠ k := hn (j, w) (by simp)
    unfold Sparse.ins
    split
    · simp only [Sparse.get]
    · simp only [Sparse.get, ih (fun e he => hn e (by simp [he]))]
      split
      · rename_i h; subst h; simp [hj]
      · rfl

/-- A read after a write: the written value at its address, what was there before at every other. -/
theorem Sparse.get_put [DecidableEq α] (d : Nat → α) (l : List (Nat × α)) (k : Nat) (v : α) (a : Nat) :
    Sparse.get d (Sparse.put d l k v) a = if a = k then v else Sparse.get d l a := by
  rw [Sparse.put_eq]
  split
  · rename_i hv
    rw [Sparse.get_filter_ne, ← hv]
  · rw [Sparse.get_ins d v a (fun e he => by simpa using (List.mem_filter.1 he).2), Sparse.get_filter_ne]
    split <;> simp_all

/-- A read outside a run of writes finds what was there before. -/
theorem Sparse.get_putRun_of_lt [DecidableEq α] (d : Nat → α) (l : List (Nat × α)) (k : Nat) (vs : List α) (a : Nat)
    (h : a < k ∨ k + vs.length ≤ a) : Sparse.get d (Sparse.putRun d l k vs) a = Sparse.get d l a := by
  induction vs generalizing l k with
  | nil => rfl
  | cons v vs ih =>
    simp only [List.length_cons] at h
    rw [Sparse.putRun, ih _ _ (by omega), Sparse.get_put, if_neg (by omega)]

/-- A read inside a run of writes finds the value written there. -/
theorem Sparse.get_putRun [DecidableEq α] (d : Nat → α) (l : List (Nat × α)) (k : Nat) (vs : List α) (i : Nat) (h : i < vs.length) :
    Sparse.get d (Sparse.putRun d l k vs) (k + i) = vs[i] := by
  induction vs generalizing l k i with
  | nil => simp at h
  | cons v vs ih =>
    cases i with
    | zero =>
      rw [Sparse.putRun, Sparse.get_putRun_of_lt _ _ _ _ _ (by omega), Sparse.get_put]
      simp
    | succ i =>
      have h' : i < vs.length := by simpa using h
      have := ih (Sparse.put d l k v) (k + 1) i h'
      rw [Sparse.putRun, show k + (i + 1) = k + 1 + i by omega, this]
      simp

/-- A read from a table of which only the entries at some addresses are kept. -/
theorem Sparse.get_filter_key (d : Nat → α) (l : List (Nat × α)) (q : Nat → Bool) (a : Nat) :
    Sparse.get d (l.filter fun e => q e.1) a = if q a then Sparse.get d l a else d a := by
  induction l with
  | nil => simp [Sparse.get]
  | cons e t ih =>
    obtain ⟨j, w⟩ := e
    by_cases h : a = j
    · subst h
      by_cases hq : q a = true <;> simp [hq, Sparse.get, ih]
    · by_cases hq : q j = true <;> simp [hq, Sparse.get, ih, h]

end Sys2Proof.Machine
end

