-- ==== Sys2Proof/Laws/Regs.lean ====
section
/-!
SUPPORT. The register file: what a field reads as after a write, of the same field and of another, and that every write keeps
the canonical form.
-/

set_option linter.unusedTactic false
set_option linter.unreachableTactic false
set_option linter.style.nameCheck false

namespace Sys2Proof.Machine

theorem Fld.getLsbD_mask (f : Fld) (j : Nat) :
    f.mask.getLsbD j = (decide (j < 32) && decide (f.lo ≤ j) && decide (j < f.lo + f.width)) := by
  simp only [Fld.mask, BitVec.getLsbD_ofNat, Nat.testBit_shiftLeft, Nat.testBit_two_pow_sub_one]
  rcases Nat.lt_or_ge j 32 with h | h <;> rcases Nat.lt_or_ge j f.lo with h2 | h2 <;>
    simp [h, h2, Nat.not_le.2, Nat.not_lt.2] <;> (try omega)

theorem Fld.testBit_ofWord (f : Fld) (w : Word) (i : Nat) :
    (f.ofWord w).testBit i = (decide (i < f.width) && w.getLsbD (f.lo + i)) := by
  simp [Fld.ofWord, Nat.testBit_mod_two_pow, Nat.testBit_shiftRight, BitVec.getLsbD]

theorem Fld.getLsbD_inWord (f : Fld) (w : Word) (v j : Nat) :
    (f.inWord w v).getLsbD j = if f.lo ≤ j ∧ j < f.lo + f.width then decide (j < 32) && v.testBit (j - f.lo) else w.getLsbD j := by
  simp only [Fld.inWord, BitVec.getLsbD_or, BitVec.getLsbD_and, BitVec.getLsbD_not, Fld.getLsbD_mask, BitVec.getLsbD_ofNat,
    Nat.testBit_shiftLeft, Nat.testBit_mod_two_pow]
  rcases Nat.lt_or_ge j 32 with h | h
  · by_cases h1 : f.lo ≤ j <;> by_cases h2 : j < f.lo + f.width <;> simp [h, h1, h2]
    · intro h3; omega
    · intro h3; omega
  · have : w.getLsbD j = false := BitVec.getLsbD_of_ge _ _ h
    split <;> simp [this, Nat.not_lt.2 h]

/-- A field reads as what was written to it, less the bits it has no room for. -/
theorem Fld.ofWord_inWord (f : Fld) (w : Word) (v : Nat) (hf : f.lo + f.width ≤ 32) :
    f.ofWord (f.inWord w v) = v % 2 ^ f.width := by
  apply Nat.eq_of_testBit_eq
  intro i
  rw [Fld.testBit_ofWord, Fld.getLsbD_inWord, Nat.testBit_mod_two_pow]
  by_cases h : i < f.width
  · simp only [h, decide_true, Bool.true_and]
    rw [if_pos (by omega)]
    simp only [Nat.add_sub_cancel_left]
    rw [decide_eq_true (by omega), Bool.true_and]
  · simp [h]

/-- A write of a field leaves every field apart from it as it was. -/
theorem Fld.ofWord_inWord_apart (f g : Fld) (w : Word) (v : Nat) (h : f.lo + f.width ≤ g.lo ∨ g.lo + g.width ≤ f.lo) :
    g.ofWord (f.inWord w v) = g.ofWord w := by
  apply Nat.eq_of_testBit_eq
  intro i
  rw [Fld.testBit_ofWord, Fld.testBit_ofWord, Fld.getLsbD_inWord]
  by_cases hi : i < g.width
  · rw [if_neg (by omega)]
  · simp [hi]

/-- A register word after a write of a word. -/
theorem RegFile.word_setWord (r : RegFile) (k : Nat) (w : Word) (a : Nat) :
    (r.setWord k w).word a = if a = k then w else r.word a := Sparse.get_put _ _ _ _ _

theorem RegFile.get_set_self (r : RegFile) (f : Fld) (v : Nat) (hf : f.lo + f.width ≤ 32) :
    (r.set f v).get f = v % 2 ^ f.width := by
  simp [RegFile.get, RegFile.set, RegFile.word_setWord, Fld.ofWord_inWord f _ v hf]

theorem RegFile.get_set_apart (r : RegFile) (f g : Fld) (v : Nat) (h : f.apart g = true) :
    (r.set f v).get g = r.get g := by
  simp only [RegFile.get, RegFile.set, RegFile.word_setWord]
  split
  · rename_i hk
    have : f.lo + f.width ≤ g.lo ∨ g.lo + g.width ≤ f.lo := by
      simp only [Fld.apart, Bool.or_eq_true, decide_eq_true_eq] at h
      rcases h with (h | h) | h
      · exact absurd hk.symm h
      · exact Or.inl h
      · exact Or.inr h
    rw [Fld.ofWord_inWord_apart f g _ v this, hk]
  · rfl

/-- A field reads as what `put` wrote. -/
theorem State.get_put_self (s : State) (f : Fld) (v : Nat) (hf : f.lo + f.width ≤ 32) :
    (s.put f v).get f = v % 2 ^ f.width := RegFile.get_set_self _ _ _ hf

/-- `put` leaves every field apart from it as it was. -/
theorem State.get_put_apart (s : State) (f g : Fld) (v : Nat) (h : f.apart g = true) : (s.put f v).get g = s.get g :=
  RegFile.get_set_apart _ _ _ _ h

theorem State.get_putB_self (s : State) (f : Fld) (b : Bool) (hf : f.lo + f.width ≤ 32) (hw : 1 ≤ f.width) :
    (s.putB f b).get f = if b then 1 else 0 := by
  have h : (s.putB f b).get f = (if b then 1 else 0) % 2 ^ f.width := RegFile.get_set_self _ _ _ hf
  rw [h]
  have : 1 < 2 ^ f.width := Nat.one_lt_two_pow (by omega)
  split
  · exact Nat.mod_eq_of_lt this
  · exact Nat.zero_mod _

theorem State.get_putB_apart (s : State) (f g : Fld) (b : Bool) (h : f.apart g = true) : (s.putB f b).get g = s.get g :=
  RegFile.get_set_apart _ _ _ _ h

/-- A saturating field after an addition (R14). -/
theorem State.get_bump_self (s : State) (f : Fld) (n : Nat) (hf : f.lo + f.width ≤ 32) :
    (s.bump f n).get f = min (s.get f + n) (2 ^ f.width - 1) := by
  unfold State.bump
  rw [State.get_put_self _ _ _ hf, Nat.mod_eq_of_lt]
  have : 0 < 2 ^ f.width := Nat.two_pow_pos _
  omega

theorem State.get_bump_apart (s : State) (f g : Fld) (n : Nat) (h : f.apart g = true) : (s.bump f n).get g = s.get g :=
  State.get_put_apart _ _ _ _ h

/-- What a field reads as depends on the register file alone. -/
theorem State.get_congr {s t : State} (h : t.regs = s.regs) (f : Fld) : t.get f = s.get f := by
  simp only [State.get, h]

/-- A register word of a file of which only some registers are kept: the others read as after a power-on. -/
theorem RegFile.word_filter (r : RegFile) (q : Nat → Bool) (a : Nat) :
    RegFile.word (r.filter fun e => q e.1) a = if q a then r.word a else Reg.resetWord a := Sparse.get_filter_key _ _ _ _

/-! ### The canonical form. -/

theorem RegFile.wf_setWord {r : RegFile} (k : Nat) (w : Word) (h : r.wf = true) : (r.setWord k w).wf = true :=
  Sparse.wf_put _ _ h

theorem RegFile.wf_set {r : RegFile} (f : Fld) (v : Nat) (h : r.wf = true) : (r.set f v).wf = true :=
  RegFile.wf_setWord _ _ h

theorem RegFile.wf_setB {r : RegFile} (f : Fld) (b : Bool) (h : r.wf = true) : (r.setB f b).wf = true :=
  RegFile.wf_set _ _ h

theorem RegFile.wf_filter {r : RegFile} (p : Nat × Word → Bool) (h : r.wf = true) : RegFile.wf (r.filter p) = true :=
  Sparse.wf_filter p h

theorem Memory.wf_putRun {c : List Host.Cell} (a : Nat) (b : Bytes) (h : Memory.wf c = true) :
    Memory.wf (Sparse.putRun cellDefault c a b) = true := Sparse.wf_putRun _ _ h

theorem Memory.wf_filter {c : List Host.Cell} (p : Host.Cell → Bool) (h : Memory.wf c = true) :
    Memory.wf (c.filter p) = true := Sparse.wf_filter p h

theorem modifyAt_length {α : Type} (l : List α) (n : Nat) (f : α → α) : (modifyAt l n f).length = l.length := by
  induction l generalizing n with
  | nil => rfl
  | cons x t ih =>
    cases n with
    | zero => rfl
    | succ n => simp [modifyAt, ih]

theorem setAt_length {α : Type} (l : List α) (n : Nat) (v : α) : (setAt l n v).length = l.length := modifyAt_length _ _ _

end Sys2Proof.Machine
end

