-- ==== Sys2Proof/Laws/State.lean ====
section
/-!
SUPPORT. What each shared update leaves of the state: one lemma per field, so that no later proof unfolds a record update; and
what the register file holds after it.
-/

set_option linter.unusedTactic false
set_option linter.unreachableTactic false
set_option linter.style.nameCheck false

namespace Sys2Proof.Machine

/-! ### `State.put` -/

@[simp] theorem State.put_pins (s : State) (f : Fld) (v : Nat) : (State.put s f v).pins = s.pins := by unfold State.put; simp
@[simp] theorem State.put_start (s : State) (f : Fld) (v : Nat) : (State.put s f v).start = s.start := by unfold State.put; simp
@[simp] theorem State.put_cfg (s : State) (f : Fld) (v : Nat) : (State.put s f v).cfg = s.cfg := by unfold State.put; simp
@[simp] theorem State.put_plat (s : State) (f : Fld) (v : Nat) : (State.put s f v).plat = s.plat := by unfold State.put; simp
@[simp] theorem State.put_opt (s : State) (f : Fld) (v : Nat) : (State.put s f v).opt = s.opt := by unfold State.put; simp
@[simp] theorem State.put_fw (s : State) (f : Fld) (v : Nat) : (State.put s f v).fw = s.fw := by unfold State.put; simp
@[simp] theorem State.put_patches (s : State) (f : Fld) (v : Nat) :
    (State.put s f v).patches = s.patches := by unfold State.put; simp
@[simp] theorem State.put_fuses (s : State) (f : Fld) (v : Nat) : (State.put s f v).fuses = s.fuses := by unfold State.put; simp
@[simp] theorem State.put_nor (s : State) (f : Fld) (v : Nat) : (State.put s f v).nor = s.nor := by unfold State.put; simp
@[simp] theorem State.put_ident (s : State) (f : Fld) (v : Nat) : (State.put s f v).ident = s.ident := by unfold State.put; simp
@[simp] theorem State.put_linkA (s : State) (f : Fld) (v : Nat) : (State.put s f v).linkA = s.linkA := by unfold State.put; simp
@[simp] theorem State.put_linkB (s : State) (f : Fld) (v : Nat) : (State.put s f v).linkB = s.linkB := by unfold State.put; simp
@[simp] theorem State.put_linkZ (s : State) (f : Fld) (v : Nat) : (State.put s f v).linkZ = s.linkZ := by unfold State.put; simp
@[simp] theorem State.put_feA (s : State) (f : Fld) (v : Nat) : (State.put s f v).feA = s.feA := by unfold State.put; simp
@[simp] theorem State.put_feB (s : State) (f : Fld) (v : Nat) : (State.put s f v).feB = s.feB := by unfold State.put; simp
@[simp] theorem State.put_motion (s : State) (f : Fld) (v : Nat) : (State.put s f v).motion = s.motion := by unfold State.put; simp
@[simp] theorem State.put_rep (s : State) (f : Fld) (v : Nat) : (State.put s f v).rep = s.rep := by unfold State.put; simp
@[simp] theorem State.put_spin (s : State) (f : Fld) (v : Nat) : (State.put s f v).spin = s.spin := by unfold State.put; simp
@[simp] theorem State.put_servoA (s : State) (f : Fld) (v : Nat) : (State.put s f v).servoA = s.servoA := by unfold State.put; simp
@[simp] theorem State.put_servoB (s : State) (f : Fld) (v : Nat) : (State.put s f v).servoB = s.servoB := by unfold State.put; simp
@[simp] theorem State.put_tables (s : State) (f : Fld) (v : Nat) : (State.put s f v).tables = s.tables := by unfold State.put; simp
@[simp] theorem State.put_fsqs (s : State) (f : Fld) (v : Nat) : (State.put s f v).fsqs = s.fsqs := by unfold State.put; simp
@[simp] theorem State.put_rwcs (s : State) (f : Fld) (v : Nat) : (State.put s f v).rwcs = s.rwcs := by unfold State.put; simp
@[simp] theorem State.put_media (s : State) (f : Fld) (v : Nat) : (State.put s f v).media = s.media := by unfold State.put; simp
@[simp] theorem State.put_defects (s : State) (f : Fld) (v : Nat) :
    (State.put s f v).defects = s.defects := by unfold State.put; simp
@[simp] theorem State.put_stripe (s : State) (f : Fld) (v : Nat) : (State.put s f v).stripe = s.stripe := by unfold State.put; simp
@[simp] theorem State.put_chest (s : State) (f : Fld) (v : Nat) : (State.put s f v).chest = s.chest := by unfold State.put; simp
@[simp] theorem State.put_core (s : State) (f : Fld) (v : Nat) : (State.put s f v).core = s.core := by unfold State.put; simp
@[simp] theorem State.put_buf (s : State) (f : Fld) (v : Nat) : (State.put s f v).buf = s.buf := by unfold State.put; simp
@[simp] theorem State.put_dma (s : State) (f : Fld) (v : Nat) : (State.put s f v).dma = s.dma := by unfold State.put; simp
@[simp] theorem State.put_zmu (s : State) (f : Fld) (v : Nat) : (State.put s f v).zmu = s.zmu := by unfold State.put; simp
@[simp] theorem State.put_cqu (s : State) (f : Fld) (v : Nat) : (State.put s f v).cqu = s.cqu := by unfold State.put; simp
@[simp] theorem State.put_hpt (s : State) (f : Fld) (v : Nat) : (State.put s f v).hpt = s.hpt := by unfold State.put; simp
@[simp] theorem State.put_power (s : State) (f : Fld) (v : Nat) : (State.put s f v).power = s.power := by unfold State.put; simp
@[simp] theorem State.put_bur (s : State) (f : Fld) (v : Nat) : (State.put s f v).bur = s.bur := by unfold State.put; simp
@[simp] theorem State.put_crd (s : State) (f : Fld) (v : Nat) : (State.put s f v).crd = s.crd := by unfold State.put; simp
@[simp] theorem State.put_tst (s : State) (f : Fld) (v : Nat) : (State.put s f v).tst = s.tst := by unfold State.put; simp
@[simp] theorem State.put_freeCount (s : State) (f : Fld) (v : Nat) :
    (State.put s f v).freeCount = s.freeCount := by unfold State.put; simp
@[simp] theorem State.put_pending (s : State) (f : Fld) (v : Nat) :
    (State.put s f v).pending = s.pending := by unfold State.put; simp

/-! ### `State.putB` -/

@[simp] theorem State.putB_pins (s : State) (f : Fld) (b : Bool) : (State.putB s f b).pins = s.pins := by unfold State.putB; simp
@[simp] theorem State.putB_start (s : State) (f : Fld) (b : Bool) : (State.putB s f b).start = s.start := by unfold State.putB; simp
@[simp] theorem State.putB_cfg (s : State) (f : Fld) (b : Bool) : (State.putB s f b).cfg = s.cfg := by unfold State.putB; simp
@[simp] theorem State.putB_plat (s : State) (f : Fld) (b : Bool) : (State.putB s f b).plat = s.plat := by unfold State.putB; simp
@[simp] theorem State.putB_opt (s : State) (f : Fld) (b : Bool) : (State.putB s f b).opt = s.opt := by unfold State.putB; simp
@[simp] theorem State.putB_fw (s : State) (f : Fld) (b : Bool) : (State.putB s f b).fw = s.fw := by unfold State.putB; simp
@[simp] theorem State.putB_patches (s : State) (f : Fld) (b : Bool) :
    (State.putB s f b).patches = s.patches := by unfold State.putB; simp
@[simp] theorem State.putB_fuses (s : State) (f : Fld) (b : Bool) : (State.putB s f b).fuses = s.fuses := by unfold State.putB; simp
@[simp] theorem State.putB_nor (s : State) (f : Fld) (b : Bool) : (State.putB s f b).nor = s.nor := by unfold State.putB; simp
@[simp] theorem State.putB_ident (s : State) (f : Fld) (b : Bool) : (State.putB s f b).ident = s.ident := by unfold State.putB; simp
@[simp] theorem State.putB_linkA (s : State) (f : Fld) (b : Bool) : (State.putB s f b).linkA = s.linkA := by unfold State.putB; simp
@[simp] theorem State.putB_linkB (s : State) (f : Fld) (b : Bool) : (State.putB s f b).linkB = s.linkB := by unfold State.putB; simp
@[simp] theorem State.putB_linkZ (s : State) (f : Fld) (b : Bool) : (State.putB s f b).linkZ = s.linkZ := by unfold State.putB; simp
@[simp] theorem State.putB_feA (s : State) (f : Fld) (b : Bool) : (State.putB s f b).feA = s.feA := by unfold State.putB; simp
@[simp] theorem State.putB_feB (s : State) (f : Fld) (b : Bool) : (State.putB s f b).feB = s.feB := by unfold State.putB; simp
@[simp] theorem State.putB_motion (s : State) (f : Fld) (b : Bool) :
    (State.putB s f b).motion = s.motion := by unfold State.putB; simp
@[simp] theorem State.putB_rep (s : State) (f : Fld) (b : Bool) : (State.putB s f b).rep = s.rep := by unfold State.putB; simp
@[simp] theorem State.putB_spin (s : State) (f : Fld) (b : Bool) : (State.putB s f b).spin = s.spin := by unfold State.putB; simp
@[simp] theorem State.putB_servoA (s : State) (f : Fld) (b : Bool) :
    (State.putB s f b).servoA = s.servoA := by unfold State.putB; simp
@[simp] theorem State.putB_servoB (s : State) (f : Fld) (b : Bool) :
    (State.putB s f b).servoB = s.servoB := by unfold State.putB; simp
@[simp] theorem State.putB_tables (s : State) (f : Fld) (b : Bool) :
    (State.putB s f b).tables = s.tables := by unfold State.putB; simp
@[simp] theorem State.putB_fsqs (s : State) (f : Fld) (b : Bool) : (State.putB s f b).fsqs = s.fsqs := by unfold State.putB; simp
@[simp] theorem State.putB_rwcs (s : State) (f : Fld) (b : Bool) : (State.putB s f b).rwcs = s.rwcs := by unfold State.putB; simp
@[simp] theorem State.putB_media (s : State) (f : Fld) (b : Bool) : (State.putB s f b).media = s.media := by unfold State.putB; simp
@[simp] theorem State.putB_defects (s : State) (f : Fld) (b : Bool) :
    (State.putB s f b).defects = s.defects := by unfold State.putB; simp
@[simp] theorem State.putB_stripe (s : State) (f : Fld) (b : Bool) :
    (State.putB s f b).stripe = s.stripe := by unfold State.putB; simp
@[simp] theorem State.putB_chest (s : State) (f : Fld) (b : Bool) : (State.putB s f b).chest = s.chest := by unfold State.putB; simp
@[simp] theorem State.putB_core (s : State) (f : Fld) (b : Bool) : (State.putB s f b).core = s.core := by unfold State.putB; simp
@[simp] theorem State.putB_buf (s : State) (f : Fld) (b : Bool) : (State.putB s f b).buf = s.buf := by unfold State.putB; simp
@[simp] theorem State.putB_dma (s : State) (f : Fld) (b : Bool) : (State.putB s f b).dma = s.dma := by unfold State.putB; simp
@[simp] theorem State.putB_zmu (s : State) (f : Fld) (b : Bool) : (State.putB s f b).zmu = s.zmu := by unfold State.putB; simp
@[simp] theorem State.putB_cqu (s : State) (f : Fld) (b : Bool) : (State.putB s f b).cqu = s.cqu := by unfold State.putB; simp
@[simp] theorem State.putB_hpt (s : State) (f : Fld) (b : Bool) : (State.putB s f b).hpt = s.hpt := by unfold State.putB; simp
@[simp] theorem State.putB_power (s : State) (f : Fld) (b : Bool) : (State.putB s f b).power = s.power := by unfold State.putB; simp
@[simp] theorem State.putB_bur (s : State) (f : Fld) (b : Bool) : (State.putB s f b).bur = s.bur := by unfold State.putB; simp
@[simp] theorem State.putB_crd (s : State) (f : Fld) (b : Bool) : (State.putB s f b).crd = s.crd := by unfold State.putB; simp
@[simp] theorem State.putB_tst (s : State) (f : Fld) (b : Bool) : (State.putB s f b).tst = s.tst := by unfold State.putB; simp
@[simp] theorem State.putB_freeCount (s : State) (f : Fld) (b : Bool) :
    (State.putB s f b).freeCount = s.freeCount := by unfold State.putB; simp
@[simp] theorem State.putB_pending (s : State) (f : Fld) (b : Bool) :
    (State.putB s f b).pending = s.pending := by unfold State.putB; simp

/-! ### `State.bump` -/

@[simp] theorem State.bump_pins (s : State) (f : Fld) (n : Nat) : (State.bump s f n).pins = s.pins := by unfold State.bump; simp
@[simp] theorem State.bump_start (s : State) (f : Fld) (n : Nat) : (State.bump s f n).start = s.start := by unfold State.bump; simp
@[simp] theorem State.bump_cfg (s : State) (f : Fld) (n : Nat) : (State.bump s f n).cfg = s.cfg := by unfold State.bump; simp
@[simp] theorem State.bump_plat (s : State) (f : Fld) (n : Nat) : (State.bump s f n).plat = s.plat := by unfold State.bump; simp
@[simp] theorem State.bump_opt (s : State) (f : Fld) (n : Nat) : (State.bump s f n).opt = s.opt := by unfold State.bump; simp
@[simp] theorem State.bump_fw (s : State) (f : Fld) (n : Nat) : (State.bump s f n).fw = s.fw := by unfold State.bump; simp
@[simp] theorem State.bump_patches (s : State) (f : Fld) (n : Nat) :
    (State.bump s f n).patches = s.patches := by unfold State.bump; simp
@[simp] theorem State.bump_fuses (s : State) (f : Fld) (n : Nat) : (State.bump s f n).fuses = s.fuses := by unfold State.bump; simp
@[simp] theorem State.bump_nor (s : State) (f : Fld) (n : Nat) : (State.bump s f n).nor = s.nor := by unfold State.bump; simp
@[simp] theorem State.bump_ident (s : State) (f : Fld) (n : Nat) : (State.bump s f n).ident = s.ident := by unfold State.bump; simp
@[simp] theorem State.bump_linkA (s : State) (f : Fld) (n : Nat) : (State.bump s f n).linkA = s.linkA := by unfold State.bump; simp
@[simp] theorem State.bump_linkB (s : State) (f : Fld) (n : Nat) : (State.bump s f n).linkB = s.linkB := by unfold State.bump; simp
@[simp] theorem State.bump_linkZ (s : State) (f : Fld) (n : Nat) : (State.bump s f n).linkZ = s.linkZ := by unfold State.bump; simp
@[simp] theorem State.bump_feA (s : State) (f : Fld) (n : Nat) : (State.bump s f n).feA = s.feA := by unfold State.bump; simp
@[simp] theorem State.bump_feB (s : State) (f : Fld) (n : Nat) : (State.bump s f n).feB = s.feB := by unfold State.bump; simp
@[simp] theorem State.bump_motion (s : State) (f : Fld) (n : Nat) :
    (State.bump s f n).motion = s.motion := by unfold State.bump; simp
@[simp] theorem State.bump_rep (s : State) (f : Fld) (n : Nat) : (State.bump s f n).rep = s.rep := by unfold State.bump; simp
@[simp] theorem State.bump_spin (s : State) (f : Fld) (n : Nat) : (State.bump s f n).spin = s.spin := by unfold State.bump; simp
@[simp] theorem State.bump_servoA (s : State) (f : Fld) (n : Nat) :
    (State.bump s f n).servoA = s.servoA := by unfold State.bump; simp
@[simp] theorem State.bump_servoB (s : State) (f : Fld) (n : Nat) :
    (State.bump s f n).servoB = s.servoB := by unfold State.bump; simp
@[simp] theorem State.bump_tables (s : State) (f : Fld) (n : Nat) :
    (State.bump s f n).tables = s.tables := by unfold State.bump; simp
@[simp] theorem State.bump_fsqs (s : State) (f : Fld) (n : Nat) : (State.bump s f n).fsqs = s.fsqs := by unfold State.bump; simp
@[simp] theorem State.bump_rwcs (s : State) (f : Fld) (n : Nat) : (State.bump s f n).rwcs = s.rwcs := by unfold State.bump; simp
@[simp] theorem State.bump_media (s : State) (f : Fld) (n : Nat) : (State.bump s f n).media = s.media := by unfold State.bump; simp
@[simp] theorem State.bump_defects (s : State) (f : Fld) (n : Nat) :
    (State.bump s f n).defects = s.defects := by unfold State.bump; simp
@[simp] theorem State.bump_stripe (s : State) (f : Fld) (n : Nat) :
    (State.bump s f n).stripe = s.stripe := by unfold State.bump; simp
@[simp] theorem State.bump_chest (s : State) (f : Fld) (n : Nat) : (State.bump s f n).chest = s.chest := by unfold State.bump; simp
@[simp] theorem State.bump_core (s : State) (f : Fld) (n : Nat) : (State.bump s f n).core = s.core := by unfold State.bump; simp
@[simp] theorem State.bump_buf (s : State) (f : Fld) (n : Nat) : (State.bump s f n).buf = s.buf := by unfold State.bump; simp
@[simp] theorem State.bump_dma (s : State) (f : Fld) (n : Nat) : (State.bump s f n).dma = s.dma := by unfold State.bump; simp
@[simp] theorem State.bump_zmu (s : State) (f : Fld) (n : Nat) : (State.bump s f n).zmu = s.zmu := by unfold State.bump; simp
@[simp] theorem State.bump_cqu (s : State) (f : Fld) (n : Nat) : (State.bump s f n).cqu = s.cqu := by unfold State.bump; simp
@[simp] theorem State.bump_hpt (s : State) (f : Fld) (n : Nat) : (State.bump s f n).hpt = s.hpt := by unfold State.bump; simp
@[simp] theorem State.bump_power (s : State) (f : Fld) (n : Nat) : (State.bump s f n).power = s.power := by unfold State.bump; simp
@[simp] theorem State.bump_bur (s : State) (f : Fld) (n : Nat) : (State.bump s f n).bur = s.bur := by unfold State.bump; simp
@[simp] theorem State.bump_crd (s : State) (f : Fld) (n : Nat) : (State.bump s f n).crd = s.crd := by unfold State.bump; simp
@[simp] theorem State.bump_tst (s : State) (f : Fld) (n : Nat) : (State.bump s f n).tst = s.tst := by unfold State.bump; simp
@[simp] theorem State.bump_freeCount (s : State) (f : Fld) (n : Nat) :
    (State.bump s f n).freeCount = s.freeCount := by unfold State.bump; simp
@[simp] theorem State.bump_pending (s : State) (f : Fld) (n : Nat) :
    (State.bump s f n).pending = s.pending := by unfold State.bump; simp

/-! ### `State.writeMasked` -/

@[simp] theorem State.writeMasked_pins (s : State) (slot : Nat) (off : Nat) (w : Word) :
    (State.writeMasked s slot off w).pins = s.pins := by unfold State.writeMasked; split <;> simp
@[simp] theorem State.writeMasked_start (s : State) (slot : Nat) (off : Nat) (w : Word) :
    (State.writeMasked s slot off w).start = s.start := by unfold State.writeMasked; split <;> simp
@[simp] theorem State.writeMasked_cfg (s : State) (slot : Nat) (off : Nat) (w : Word) :
    (State.writeMasked s slot off w).cfg = s.cfg := by unfold State.writeMasked; split <;> simp
@[simp] theorem State.writeMasked_plat (s : State) (slot : Nat) (off : Nat) (w : Word) :
    (State.writeMasked s slot off w).plat = s.plat := by unfold State.writeMasked; split <;> simp
@[simp] theorem State.writeMasked_opt (s : State) (slot : Nat) (off : Nat) (w : Word) :
    (State.writeMasked s slot off w).opt = s.opt := by unfold State.writeMasked; split <;> simp
@[simp] theorem State.writeMasked_fw (s : State) (slot : Nat) (off : Nat) (w : Word) :
    (State.writeMasked s slot off w).fw = s.fw := by unfold State.writeMasked; split <;> simp
@[simp] theorem State.writeMasked_patches (s : State) (slot : Nat) (off : Nat) (w : Word) :
    (State.writeMasked s slot off w).patches = s.patches := by unfold State.writeMasked; split <;> simp
@[simp] theorem State.writeMasked_fuses (s : State) (slot : Nat) (off : Nat) (w : Word) :
    (State.writeMasked s slot off w).fuses = s.fuses := by unfold State.writeMasked; split <;> simp
@[simp] theorem State.writeMasked_nor (s : State) (slot : Nat) (off : Nat) (w : Word) :
    (State.writeMasked s slot off w).nor = s.nor := by unfold State.writeMasked; split <;> simp
@[simp] theorem State.writeMasked_ident (s : State) (slot : Nat) (off : Nat) (w : Word) :
    (State.writeMasked s slot off w).ident = s.ident := by unfold State.writeMasked; split <;> simp
@[simp] theorem State.writeMasked_linkA (s : State) (slot : Nat) (off : Nat) (w : Word) :
    (State.writeMasked s slot off w).linkA = s.linkA := by unfold State.writeMasked; split <;> simp
@[simp] theorem State.writeMasked_linkB (s : State) (slot : Nat) (off : Nat) (w : Word) :
    (State.writeMasked s slot off w).linkB = s.linkB := by unfold State.writeMasked; split <;> simp
@[simp] theorem State.writeMasked_linkZ (s : State) (slot : Nat) (off : Nat) (w : Word) :
    (State.writeMasked s slot off w).linkZ = s.linkZ := by unfold State.writeMasked; split <;> simp
@[simp] theorem State.writeMasked_feA (s : State) (slot : Nat) (off : Nat) (w : Word) :
    (State.writeMasked s slot off w).feA = s.feA := by unfold State.writeMasked; split <;> simp
@[simp] theorem State.writeMasked_feB (s : State) (slot : Nat) (off : Nat) (w : Word) :
    (State.writeMasked s slot off w).feB = s.feB := by unfold State.writeMasked; split <;> simp
@[simp] theorem State.writeMasked_motion (s : State) (slot : Nat) (off : Nat) (w : Word) :
    (State.writeMasked s slot off w).motion = s.motion := by unfold State.writeMasked; split <;> simp
@[simp] theorem State.writeMasked_rep (s : State) (slot : Nat) (off : Nat) (w : Word) :
    (State.writeMasked s slot off w).rep = s.rep := by unfold State.writeMasked; split <;> simp
@[simp] theorem State.writeMasked_spin (s : State) (slot : Nat) (off : Nat) (w : Word) :
    (State.writeMasked s slot off w).spin = s.spin := by unfold State.writeMasked; split <;> simp
@[simp] theorem State.writeMasked_servoA (s : State) (slot : Nat) (off : Nat) (w : Word) :
    (State.writeMasked s slot off w).servoA = s.servoA := by unfold State.writeMasked; split <;> simp
@[simp] theorem State.writeMasked_servoB (s : State) (slot : Nat) (off : Nat) (w : Word) :
    (State.writeMasked s slot off w).servoB = s.servoB := by unfold State.writeMasked; split <;> simp
@[simp] theorem State.writeMasked_tables (s : State) (slot : Nat) (off : Nat) (w : Word) :
    (State.writeMasked s slot off w).tables = s.tables := by unfold State.writeMasked; split <;> simp
@[simp] theorem State.writeMasked_fsqs (s : State) (slot : Nat) (off : Nat) (w : Word) :
    (State.writeMasked s slot off w).fsqs = s.fsqs := by unfold State.writeMasked; split <;> simp
@[simp] theorem State.writeMasked_rwcs (s : State) (slot : Nat) (off : Nat) (w : Word) :
    (State.writeMasked s slot off w).rwcs = s.rwcs := by unfold State.writeMasked; split <;> simp
@[simp] theorem State.writeMasked_media (s : State) (slot : Nat) (off : Nat) (w : Word) :
    (State.writeMasked s slot off w).media = s.media := by unfold State.writeMasked; split <;> simp
@[simp] theorem State.writeMasked_defects (s : State) (slot : Nat) (off : Nat) (w : Word) :
    (State.writeMasked s slot off w).defects = s.defects := by unfold State.writeMasked; split <;> simp
@[simp] theorem State.writeMasked_stripe (s : State) (slot : Nat) (off : Nat) (w : Word) :
    (State.writeMasked s slot off w).stripe = s.stripe := by unfold State.writeMasked; split <;> simp
@[simp] theorem State.writeMasked_chest (s : State) (slot : Nat) (off : Nat) (w : Word) :
    (State.writeMasked s slot off w).chest = s.chest := by unfold State.writeMasked; split <;> simp
@[simp] theorem State.writeMasked_core (s : State) (slot : Nat) (off : Nat) (w : Word) :
    (State.writeMasked s slot off w).core = s.core := by unfold State.writeMasked; split <;> simp
@[simp] theorem State.writeMasked_buf (s : State) (slot : Nat) (off : Nat) (w : Word) :
    (State.writeMasked s slot off w).buf = s.buf := by unfold State.writeMasked; split <;> simp
@[simp] theorem State.writeMasked_dma (s : State) (slot : Nat) (off : Nat) (w : Word) :
    (State.writeMasked s slot off w).dma = s.dma := by unfold State.writeMasked; split <;> simp
@[simp] theorem State.writeMasked_zmu (s : State) (slot : Nat) (off : Nat) (w : Word) :
    (State.writeMasked s slot off w).zmu = s.zmu := by unfold State.writeMasked; split <;> simp
@[simp] theorem State.writeMasked_cqu (s : State) (slot : Nat) (off : Nat) (w : Word) :
    (State.writeMasked s slot off w).cqu = s.cqu := by unfold State.writeMasked; split <;> simp
@[simp] theorem State.writeMasked_hpt (s : State) (slot : Nat) (off : Nat) (w : Word) :
    (State.writeMasked s slot off w).hpt = s.hpt := by unfold State.writeMasked; split <;> simp
@[simp] theorem State.writeMasked_power (s : State) (slot : Nat) (off : Nat) (w : Word) :
    (State.writeMasked s slot off w).power = s.power := by unfold State.writeMasked; split <;> simp
@[simp] theorem State.writeMasked_bur (s : State) (slot : Nat) (off : Nat) (w : Word) :
    (State.writeMasked s slot off w).bur = s.bur := by unfold State.writeMasked; split <;> simp
@[simp] theorem State.writeMasked_crd (s : State) (slot : Nat) (off : Nat) (w : Word) :
    (State.writeMasked s slot off w).crd = s.crd := by unfold State.writeMasked; split <;> simp
@[simp] theorem State.writeMasked_tst (s : State) (slot : Nat) (off : Nat) (w : Word) :
    (State.writeMasked s slot off w).tst = s.tst := by unfold State.writeMasked; split <;> simp
@[simp] theorem State.writeMasked_freeCount (s : State) (slot : Nat) (off : Nat) (w : Word) :
    (State.writeMasked s slot off w).freeCount = s.freeCount := by unfold State.writeMasked; split <;> simp
@[simp] theorem State.writeMasked_pending (s : State) (slot : Nat) (off : Nat) (w : Word) :
    (State.writeMasked s slot off w).pending = s.pending := by unfold State.writeMasked; split <;> simp

/-! ### `State.free` -/

@[simp] theorem State.free_regs (s : State) : (State.free s).2.regs = s.regs := by unfold State.free; simp
@[simp] theorem State.free_pins (s : State) : (State.free s).2.pins = s.pins := by unfold State.free; simp
@[simp] theorem State.free_start (s : State) : (State.free s).2.start = s.start := by unfold State.free; simp
@[simp] theorem State.free_cfg (s : State) : (State.free s).2.cfg = s.cfg := by unfold State.free; simp
@[simp] theorem State.free_plat (s : State) : (State.free s).2.plat = s.plat := by unfold State.free; simp
@[simp] theorem State.free_opt (s : State) : (State.free s).2.opt = s.opt := by unfold State.free; simp
@[simp] theorem State.free_fw (s : State) : (State.free s).2.fw = s.fw := by unfold State.free; simp
@[simp] theorem State.free_patches (s : State) : (State.free s).2.patches = s.patches := by unfold State.free; simp
@[simp] theorem State.free_fuses (s : State) : (State.free s).2.fuses = s.fuses := by unfold State.free; simp
@[simp] theorem State.free_nor (s : State) : (State.free s).2.nor = s.nor := by unfold State.free; simp
@[simp] theorem State.free_ident (s : State) : (State.free s).2.ident = s.ident := by unfold State.free; simp
@[simp] theorem State.free_linkA (s : State) : (State.free s).2.linkA = s.linkA := by unfold State.free; simp
@[simp] theorem State.free_linkB (s : State) : (State.free s).2.linkB = s.linkB := by unfold State.free; simp
@[simp] theorem State.free_linkZ (s : State) : (State.free s).2.linkZ = s.linkZ := by unfold State.free; simp
@[simp] theorem State.free_feA (s : State) : (State.free s).2.feA = s.feA := by unfold State.free; simp
@[simp] theorem State.free_feB (s : State) : (State.free s).2.feB = s.feB := by unfold State.free; simp
@[simp] theorem State.free_motion (s : State) : (State.free s).2.motion = s.motion := by unfold State.free; simp
@[simp] theorem State.free_rep (s : State) : (State.free s).2.rep = s.rep := by unfold State.free; simp
@[simp] theorem State.free_spin (s : State) : (State.free s).2.spin = s.spin := by unfold State.free; simp
@[simp] theorem State.free_servoA (s : State) : (State.free s).2.servoA = s.servoA := by unfold State.free; simp
@[simp] theorem State.free_servoB (s : State) : (State.free s).2.servoB = s.servoB := by unfold State.free; simp
@[simp] theorem State.free_tables (s : State) : (State.free s).2.tables = s.tables := by unfold State.free; simp
@[simp] theorem State.free_fsqs (s : State) : (State.free s).2.fsqs = s.fsqs := by unfold State.free; simp
@[simp] theorem State.free_rwcs (s : State) : (State.free s).2.rwcs = s.rwcs := by unfold State.free; simp
@[simp] theorem State.free_media (s : State) : (State.free s).2.media = s.media := by unfold State.free; simp
@[simp] theorem State.free_defects (s : State) : (State.free s).2.defects = s.defects := by unfold State.free; simp
@[simp] theorem State.free_stripe (s : State) : (State.free s).2.stripe = s.stripe := by unfold State.free; simp
@[simp] theorem State.free_chest (s : State) : (State.free s).2.chest = s.chest := by unfold State.free; simp
@[simp] theorem State.free_core (s : State) : (State.free s).2.core = s.core := by unfold State.free; simp
@[simp] theorem State.free_buf (s : State) : (State.free s).2.buf = s.buf := by unfold State.free; simp
@[simp] theorem State.free_dma (s : State) : (State.free s).2.dma = s.dma := by unfold State.free; simp
@[simp] theorem State.free_zmu (s : State) : (State.free s).2.zmu = s.zmu := by unfold State.free; simp
@[simp] theorem State.free_cqu (s : State) : (State.free s).2.cqu = s.cqu := by unfold State.free; simp
@[simp] theorem State.free_hpt (s : State) : (State.free s).2.hpt = s.hpt := by unfold State.free; simp
@[simp] theorem State.free_power (s : State) : (State.free s).2.power = s.power := by unfold State.free; simp
@[simp] theorem State.free_bur (s : State) : (State.free s).2.bur = s.bur := by unfold State.free; simp
@[simp] theorem State.free_crd (s : State) : (State.free s).2.crd = s.crd := by unfold State.free; simp
@[simp] theorem State.free_tst (s : State) : (State.free s).2.tst = s.tst := by unfold State.free; simp
@[simp] theorem State.free_pending (s : State) : (State.free s).2.pending = s.pending := by unfold State.free; simp

/-! ### `State.setLink` -/

@[simp] theorem State.setLink_regs (s : State) (p : Port) (l : Link) :
    (State.setLink s p l).regs = s.regs := by cases p <;> simp [State.setLink]
@[simp] theorem State.setLink_pins (s : State) (p : Port) (l : Link) :
    (State.setLink s p l).pins = s.pins := by cases p <;> simp [State.setLink]
@[simp] theorem State.setLink_start (s : State) (p : Port) (l : Link) :
    (State.setLink s p l).start = s.start := by cases p <;> simp [State.setLink]
@[simp] theorem State.setLink_cfg (s : State) (p : Port) (l : Link) :
    (State.setLink s p l).cfg = s.cfg := by cases p <;> simp [State.setLink]
@[simp] theorem State.setLink_plat (s : State) (p : Port) (l : Link) :
    (State.setLink s p l).plat = s.plat := by cases p <;> simp [State.setLink]
@[simp] theorem State.setLink_opt (s : State) (p : Port) (l : Link) :
    (State.setLink s p l).opt = s.opt := by cases p <;> simp [State.setLink]
@[simp] theorem State.setLink_fw (s : State) (p : Port) (l : Link) :
    (State.setLink s p l).fw = s.fw := by cases p <;> simp [State.setLink]
@[simp] theorem State.setLink_patches (s : State) (p : Port) (l : Link) :
    (State.setLink s p l).patches = s.patches := by cases p <;> simp [State.setLink]
@[simp] theorem State.setLink_fuses (s : State) (p : Port) (l : Link) :
    (State.setLink s p l).fuses = s.fuses := by cases p <;> simp [State.setLink]
@[simp] theorem State.setLink_nor (s : State) (p : Port) (l : Link) :
    (State.setLink s p l).nor = s.nor := by cases p <;> simp [State.setLink]
@[simp] theorem State.setLink_ident (s : State) (p : Port) (l : Link) :
    (State.setLink s p l).ident = s.ident := by cases p <;> simp [State.setLink]
@[simp] theorem State.setLink_feA (s : State) (p : Port) (l : Link) :
    (State.setLink s p l).feA = s.feA := by cases p <;> simp [State.setLink]
@[simp] theorem State.setLink_feB (s : State) (p : Port) (l : Link) :
    (State.setLink s p l).feB = s.feB := by cases p <;> simp [State.setLink]
@[simp] theorem State.setLink_motion (s : State) (p : Port) (l : Link) :
    (State.setLink s p l).motion = s.motion := by cases p <;> simp [State.setLink]
@[simp] theorem State.setLink_rep (s : State) (p : Port) (l : Link) :
    (State.setLink s p l).rep = s.rep := by cases p <;> simp [State.setLink]
@[simp] theorem State.setLink_spin (s : State) (p : Port) (l : Link) :
    (State.setLink s p l).spin = s.spin := by cases p <;> simp [State.setLink]
@[simp] theorem State.setLink_servoA (s : State) (p : Port) (l : Link) :
    (State.setLink s p l).servoA = s.servoA := by cases p <;> simp [State.setLink]
@[simp] theorem State.setLink_servoB (s : State) (p : Port) (l : Link) :
    (State.setLink s p l).servoB = s.servoB := by cases p <;> simp [State.setLink]
@[simp] theorem State.setLink_tables (s : State) (p : Port) (l : Link) :
    (State.setLink s p l).tables = s.tables := by cases p <;> simp [State.setLink]
@[simp] theorem State.setLink_fsqs (s : State) (p : Port) (l : Link) :
    (State.setLink s p l).fsqs = s.fsqs := by cases p <;> simp [State.setLink]
@[simp] theorem State.setLink_rwcs (s : State) (p : Port) (l : Link) :
    (State.setLink s p l).rwcs = s.rwcs := by cases p <;> simp [State.setLink]
@[simp] theorem State.setLink_media (s : State) (p : Port) (l : Link) :
    (State.setLink s p l).media = s.media := by cases p <;> simp [State.setLink]
@[simp] theorem State.setLink_defects (s : State) (p : Port) (l : Link) :
    (State.setLink s p l).defects = s.defects := by cases p <;> simp [State.setLink]
@[simp] theorem State.setLink_stripe (s : State) (p : Port) (l : Link) :
    (State.setLink s p l).stripe = s.stripe := by cases p <;> simp [State.setLink]
@[simp] theorem State.setLink_chest (s : State) (p : Port) (l : Link) :
    (State.setLink s p l).chest = s.chest := by cases p <;> simp [State.setLink]
@[simp] theorem State.setLink_core (s : State) (p : Port) (l : Link) :
    (State.setLink s p l).core = s.core := by cases p <;> simp [State.setLink]
@[simp] theorem State.setLink_buf (s : State) (p : Port) (l : Link) :
    (State.setLink s p l).buf = s.buf := by cases p <;> simp [State.setLink]
@[simp] theorem State.setLink_dma (s : State) (p : Port) (l : Link) :
    (State.setLink s p l).dma = s.dma := by cases p <;> simp [State.setLink]
@[simp] theorem State.setLink_zmu (s : State) (p : Port) (l : Link) :
    (State.setLink s p l).zmu = s.zmu := by cases p <;> simp [State.setLink]
@[simp] theorem State.setLink_cqu (s : State) (p : Port) (l : Link) :
    (State.setLink s p l).cqu = s.cqu := by cases p <;> simp [State.setLink]
@[simp] theorem State.setLink_hpt (s : State) (p : Port) (l : Link) :
    (State.setLink s p l).hpt = s.hpt := by cases p <;> simp [State.setLink]
@[simp] theorem State.setLink_power (s : State) (p : Port) (l : Link) :
    (State.setLink s p l).power = s.power := by cases p <;> simp [State.setLink]
@[simp] theorem State.setLink_bur (s : State) (p : Port) (l : Link) :
    (State.setLink s p l).bur = s.bur := by cases p <;> simp [State.setLink]
@[simp] theorem State.setLink_crd (s : State) (p : Port) (l : Link) :
    (State.setLink s p l).crd = s.crd := by cases p <;> simp [State.setLink]
@[simp] theorem State.setLink_tst (s : State) (p : Port) (l : Link) :
    (State.setLink s p l).tst = s.tst := by cases p <;> simp [State.setLink]
@[simp] theorem State.setLink_freeCount (s : State) (p : Port) (l : Link) :
    (State.setLink s p l).freeCount = s.freeCount := by cases p <;> simp [State.setLink]
@[simp] theorem State.setLink_pending (s : State) (p : Port) (l : Link) :
    (State.setLink s p l).pending = s.pending := by cases p <;> simp [State.setLink]

/-! ### `State.setFe` -/

@[simp] theorem State.setFe_regs (s : State) (x : Act) (f : FrontEnd) :
    (State.setFe s x f).regs = s.regs := by cases x <;> simp [State.setFe]
@[simp] theorem State.setFe_pins (s : State) (x : Act) (f : FrontEnd) :
    (State.setFe s x f).pins = s.pins := by cases x <;> simp [State.setFe]
@[simp] theorem State.setFe_start (s : State) (x : Act) (f : FrontEnd) :
    (State.setFe s x f).start = s.start := by cases x <;> simp [State.setFe]
@[simp] theorem State.setFe_cfg (s : State) (x : Act) (f : FrontEnd) :
    (State.setFe s x f).cfg = s.cfg := by cases x <;> simp [State.setFe]
@[simp] theorem State.setFe_plat (s : State) (x : Act) (f : FrontEnd) :
    (State.setFe s x f).plat = s.plat := by cases x <;> simp [State.setFe]
@[simp] theorem State.setFe_opt (s : State) (x : Act) (f : FrontEnd) :
    (State.setFe s x f).opt = s.opt := by cases x <;> simp [State.setFe]
@[simp] theorem State.setFe_fw (s : State) (x : Act) (f : FrontEnd) :
    (State.setFe s x f).fw = s.fw := by cases x <;> simp [State.setFe]
@[simp] theorem State.setFe_patches (s : State) (x : Act) (f : FrontEnd) :
    (State.setFe s x f).patches = s.patches := by cases x <;> simp [State.setFe]
@[simp] theorem State.setFe_fuses (s : State) (x : Act) (f : FrontEnd) :
    (State.setFe s x f).fuses = s.fuses := by cases x <;> simp [State.setFe]
@[simp] theorem State.setFe_nor (s : State) (x : Act) (f : FrontEnd) :
    (State.setFe s x f).nor = s.nor := by cases x <;> simp [State.setFe]
@[simp] theorem State.setFe_ident (s : State) (x : Act) (f : FrontEnd) :
    (State.setFe s x f).ident = s.ident := by cases x <;> simp [State.setFe]
@[simp] theorem State.setFe_linkA (s : State) (x : Act) (f : FrontEnd) :
    (State.setFe s x f).linkA = s.linkA := by cases x <;> simp [State.setFe]
@[simp] theorem State.setFe_linkB (s : State) (x : Act) (f : FrontEnd) :
    (State.setFe s x f).linkB = s.linkB := by cases x <;> simp [State.setFe]
@[simp] theorem State.setFe_linkZ (s : State) (x : Act) (f : FrontEnd) :
    (State.setFe s x f).linkZ = s.linkZ := by cases x <;> simp [State.setFe]
@[simp] theorem State.setFe_motion (s : State) (x : Act) (f : FrontEnd) :
    (State.setFe s x f).motion = s.motion := by cases x <;> simp [State.setFe]
@[simp] theorem State.setFe_rep (s : State) (x : Act) (f : FrontEnd) :
    (State.setFe s x f).rep = s.rep := by cases x <;> simp [State.setFe]
@[simp] theorem State.setFe_spin (s : State) (x : Act) (f : FrontEnd) :
    (State.setFe s x f).spin = s.spin := by cases x <;> simp [State.setFe]
@[simp] theorem State.setFe_servoA (s : State) (x : Act) (f : FrontEnd) :
    (State.setFe s x f).servoA = s.servoA := by cases x <;> simp [State.setFe]
@[simp] theorem State.setFe_servoB (s : State) (x : Act) (f : FrontEnd) :
    (State.setFe s x f).servoB = s.servoB := by cases x <;> simp [State.setFe]
@[simp] theorem State.setFe_tables (s : State) (x : Act) (f : FrontEnd) :
    (State.setFe s x f).tables = s.tables := by cases x <;> simp [State.setFe]
@[simp] theorem State.setFe_fsqs (s : State) (x : Act) (f : FrontEnd) :
    (State.setFe s x f).fsqs = s.fsqs := by cases x <;> simp [State.setFe]
@[simp] theorem State.setFe_rwcs (s : State) (x : Act) (f : FrontEnd) :
    (State.setFe s x f).rwcs = s.rwcs := by cases x <;> simp [State.setFe]
@[simp] theorem State.setFe_media (s : State) (x : Act) (f : FrontEnd) :
    (State.setFe s x f).media = s.media := by cases x <;> simp [State.setFe]
@[simp] theorem State.setFe_defects (s : State) (x : Act) (f : FrontEnd) :
    (State.setFe s x f).defects = s.defects := by cases x <;> simp [State.setFe]
@[simp] theorem State.setFe_stripe (s : State) (x : Act) (f : FrontEnd) :
    (State.setFe s x f).stripe = s.stripe := by cases x <;> simp [State.setFe]
@[simp] theorem State.setFe_chest (s : State) (x : Act) (f : FrontEnd) :
    (State.setFe s x f).chest = s.chest := by cases x <;> simp [State.setFe]
@[simp] theorem State.setFe_core (s : State) (x : Act) (f : FrontEnd) :
    (State.setFe s x f).core = s.core := by cases x <;> simp [State.setFe]
@[simp] theorem State.setFe_buf (s : State) (x : Act) (f : FrontEnd) :
    (State.setFe s x f).buf = s.buf := by cases x <;> simp [State.setFe]
@[simp] theorem State.setFe_dma (s : State) (x : Act) (f : FrontEnd) :
    (State.setFe s x f).dma = s.dma := by cases x <;> simp [State.setFe]
@[simp] theorem State.setFe_zmu (s : State) (x : Act) (f : FrontEnd) :
    (State.setFe s x f).zmu = s.zmu := by cases x <;> simp [State.setFe]
@[simp] theorem State.setFe_cqu (s : State) (x : Act) (f : FrontEnd) :
    (State.setFe s x f).cqu = s.cqu := by cases x <;> simp [State.setFe]
@[simp] theorem State.setFe_hpt (s : State) (x : Act) (f : FrontEnd) :
    (State.setFe s x f).hpt = s.hpt := by cases x <;> simp [State.setFe]
@[simp] theorem State.setFe_power (s : State) (x : Act) (f : FrontEnd) :
    (State.setFe s x f).power = s.power := by cases x <;> simp [State.setFe]
@[simp] theorem State.setFe_bur (s : State) (x : Act) (f : FrontEnd) :
    (State.setFe s x f).bur = s.bur := by cases x <;> simp [State.setFe]
@[simp] theorem State.setFe_crd (s : State) (x : Act) (f : FrontEnd) :
    (State.setFe s x f).crd = s.crd := by cases x <;> simp [State.setFe]
@[simp] theorem State.setFe_tst (s : State) (x : Act) (f : FrontEnd) :
    (State.setFe s x f).tst = s.tst := by cases x <;> simp [State.setFe]
@[simp] theorem State.setFe_freeCount (s : State) (x : Act) (f : FrontEnd) :
    (State.setFe s x f).freeCount = s.freeCount := by cases x <;> simp [State.setFe]
@[simp] theorem State.setFe_pending (s : State) (x : Act) (f : FrontEnd) :
    (State.setFe s x f).pending = s.pending := by cases x <;> simp [State.setFe]

/-! ### `State.setServo` -/

@[simp] theorem State.setServo_regs (s : State) (x : Act) (v : ServoAct) :
    (State.setServo s x v).regs = s.regs := by cases x <;> simp [State.setServo]
@[simp] theorem State.setServo_pins (s : State) (x : Act) (v : ServoAct) :
    (State.setServo s x v).pins = s.pins := by cases x <;> simp [State.setServo]
@[simp] theorem State.setServo_start (s : State) (x : Act) (v : ServoAct) :
    (State.setServo s x v).start = s.start := by cases x <;> simp [State.setServo]
@[simp] theorem State.setServo_cfg (s : State) (x : Act) (v : ServoAct) :
    (State.setServo s x v).cfg = s.cfg := by cases x <;> simp [State.setServo]
@[simp] theorem State.setServo_plat (s : State) (x : Act) (v : ServoAct) :
    (State.setServo s x v).plat = s.plat := by cases x <;> simp [State.setServo]
@[simp] theorem State.setServo_opt (s : State) (x : Act) (v : ServoAct) :
    (State.setServo s x v).opt = s.opt := by cases x <;> simp [State.setServo]
@[simp] theorem State.setServo_fw (s : State) (x : Act) (v : ServoAct) :
    (State.setServo s x v).fw = s.fw := by cases x <;> simp [State.setServo]
@[simp] theorem State.setServo_patches (s : State) (x : Act) (v : ServoAct) :
    (State.setServo s x v).patches = s.patches := by cases x <;> simp [State.setServo]
@[simp] theorem State.setServo_fuses (s : State) (x : Act) (v : ServoAct) :
    (State.setServo s x v).fuses = s.fuses := by cases x <;> simp [State.setServo]
@[simp] theorem State.setServo_nor (s : State) (x : Act) (v : ServoAct) :
    (State.setServo s x v).nor = s.nor := by cases x <;> simp [State.setServo]
@[simp] theorem State.setServo_ident (s : State) (x : Act) (v : ServoAct) :
    (State.setServo s x v).ident = s.ident := by cases x <;> simp [State.setServo]
@[simp] theorem State.setServo_linkA (s : State) (x : Act) (v : ServoAct) :
    (State.setServo s x v).linkA = s.linkA := by cases x <;> simp [State.setServo]
@[simp] theorem State.setServo_linkB (s : State) (x : Act) (v : ServoAct) :
    (State.setServo s x v).linkB = s.linkB := by cases x <;> simp [State.setServo]
@[simp] theorem State.setServo_linkZ (s : State) (x : Act) (v : ServoAct) :
    (State.setServo s x v).linkZ = s.linkZ := by cases x <;> simp [State.setServo]
@[simp] theorem State.setServo_feA (s : State) (x : Act) (v : ServoAct) :
    (State.setServo s x v).feA = s.feA := by cases x <;> simp [State.setServo]
@[simp] theorem State.setServo_feB (s : State) (x : Act) (v : ServoAct) :
    (State.setServo s x v).feB = s.feB := by cases x <;> simp [State.setServo]
@[simp] theorem State.setServo_motion (s : State) (x : Act) (v : ServoAct) :
    (State.setServo s x v).motion = s.motion := by cases x <;> simp [State.setServo]
@[simp] theorem State.setServo_rep (s : State) (x : Act) (v : ServoAct) :
    (State.setServo s x v).rep = s.rep := by cases x <;> simp [State.setServo]
@[simp] theorem State.setServo_spin (s : State) (x : Act) (v : ServoAct) :
    (State.setServo s x v).spin = s.spin := by cases x <;> simp [State.setServo]
@[simp] theorem State.setServo_tables (s : State) (x : Act) (v : ServoAct) :
    (State.setServo s x v).tables = s.tables := by cases x <;> simp [State.setServo]
@[simp] theorem State.setServo_fsqs (s : State) (x : Act) (v : ServoAct) :
    (State.setServo s x v).fsqs = s.fsqs := by cases x <;> simp [State.setServo]
@[simp] theorem State.setServo_rwcs (s : State) (x : Act) (v : ServoAct) :
    (State.setServo s x v).rwcs = s.rwcs := by cases x <;> simp [State.setServo]
@[simp] theorem State.setServo_media (s : State) (x : Act) (v : ServoAct) :
    (State.setServo s x v).media = s.media := by cases x <;> simp [State.setServo]
@[simp] theorem State.setServo_defects (s : State) (x : Act) (v : ServoAct) :
    (State.setServo s x v).defects = s.defects := by cases x <;> simp [State.setServo]
@[simp] theorem State.setServo_stripe (s : State) (x : Act) (v : ServoAct) :
    (State.setServo s x v).stripe = s.stripe := by cases x <;> simp [State.setServo]
@[simp] theorem State.setServo_chest (s : State) (x : Act) (v : ServoAct) :
    (State.setServo s x v).chest = s.chest := by cases x <;> simp [State.setServo]
@[simp] theorem State.setServo_core (s : State) (x : Act) (v : ServoAct) :
    (State.setServo s x v).core = s.core := by cases x <;> simp [State.setServo]
@[simp] theorem State.setServo_buf (s : State) (x : Act) (v : ServoAct) :
    (State.setServo s x v).buf = s.buf := by cases x <;> simp [State.setServo]
@[simp] theorem State.setServo_dma (s : State) (x : Act) (v : ServoAct) :
    (State.setServo s x v).dma = s.dma := by cases x <;> simp [State.setServo]
@[simp] theorem State.setServo_zmu (s : State) (x : Act) (v : ServoAct) :
    (State.setServo s x v).zmu = s.zmu := by cases x <;> simp [State.setServo]
@[simp] theorem State.setServo_cqu (s : State) (x : Act) (v : ServoAct) :
    (State.setServo s x v).cqu = s.cqu := by cases x <;> simp [State.setServo]
@[simp] theorem State.setServo_hpt (s : State) (x : Act) (v : ServoAct) :
    (State.setServo s x v).hpt = s.hpt := by cases x <;> simp [State.setServo]
@[simp] theorem State.setServo_power (s : State) (x : Act) (v : ServoAct) :
    (State.setServo s x v).power = s.power := by cases x <;> simp [State.setServo]
@[simp] theorem State.setServo_bur (s : State) (x : Act) (v : ServoAct) :
    (State.setServo s x v).bur = s.bur := by cases x <;> simp [State.setServo]
@[simp] theorem State.setServo_crd (s : State) (x : Act) (v : ServoAct) :
    (State.setServo s x v).crd = s.crd := by cases x <;> simp [State.setServo]
@[simp] theorem State.setServo_tst (s : State) (x : Act) (v : ServoAct) :
    (State.setServo s x v).tst = s.tst := by cases x <;> simp [State.setServo]
@[simp] theorem State.setServo_freeCount (s : State) (x : Act) (v : ServoAct) :
    (State.setServo s x v).freeCount = s.freeCount := by cases x <;> simp [State.setServo]
@[simp] theorem State.setServo_pending (s : State) (x : Act) (v : ServoAct) :
    (State.setServo s x v).pending = s.pending := by cases x <;> simp [State.setServo]

/-! ### `State.setCmd` -/

@[simp] theorem State.setCmd_regs (s : State) (c : Cmd) : (State.setCmd s c).regs = s.regs := by unfold State.setCmd; simp
@[simp] theorem State.setCmd_pins (s : State) (c : Cmd) : (State.setCmd s c).pins = s.pins := by unfold State.setCmd; simp
@[simp] theorem State.setCmd_start (s : State) (c : Cmd) : (State.setCmd s c).start = s.start := by unfold State.setCmd; simp
@[simp] theorem State.setCmd_cfg (s : State) (c : Cmd) : (State.setCmd s c).cfg = s.cfg := by unfold State.setCmd; simp
@[simp] theorem State.setCmd_plat (s : State) (c : Cmd) : (State.setCmd s c).plat = s.plat := by unfold State.setCmd; simp
@[simp] theorem State.setCmd_opt (s : State) (c : Cmd) : (State.setCmd s c).opt = s.opt := by unfold State.setCmd; simp
@[simp] theorem State.setCmd_fw (s : State) (c : Cmd) : (State.setCmd s c).fw = s.fw := by unfold State.setCmd; simp
@[simp] theorem State.setCmd_patches (s : State) (c : Cmd) : (State.setCmd s c).patches = s.patches := by unfold State.setCmd; simp
@[simp] theorem State.setCmd_fuses (s : State) (c : Cmd) : (State.setCmd s c).fuses = s.fuses := by unfold State.setCmd; simp
@[simp] theorem State.setCmd_nor (s : State) (c : Cmd) : (State.setCmd s c).nor = s.nor := by unfold State.setCmd; simp
@[simp] theorem State.setCmd_ident (s : State) (c : Cmd) : (State.setCmd s c).ident = s.ident := by unfold State.setCmd; simp
@[simp] theorem State.setCmd_linkA (s : State) (c : Cmd) : (State.setCmd s c).linkA = s.linkA := by unfold State.setCmd; simp
@[simp] theorem State.setCmd_linkB (s : State) (c : Cmd) : (State.setCmd s c).linkB = s.linkB := by unfold State.setCmd; simp
@[simp] theorem State.setCmd_linkZ (s : State) (c : Cmd) : (State.setCmd s c).linkZ = s.linkZ := by unfold State.setCmd; simp
@[simp] theorem State.setCmd_feA (s : State) (c : Cmd) : (State.setCmd s c).feA = s.feA := by unfold State.setCmd; simp
@[simp] theorem State.setCmd_feB (s : State) (c : Cmd) : (State.setCmd s c).feB = s.feB := by unfold State.setCmd; simp
@[simp] theorem State.setCmd_motion (s : State) (c : Cmd) : (State.setCmd s c).motion = s.motion := by unfold State.setCmd; simp
@[simp] theorem State.setCmd_rep (s : State) (c : Cmd) : (State.setCmd s c).rep = s.rep := by unfold State.setCmd; simp
@[simp] theorem State.setCmd_spin (s : State) (c : Cmd) : (State.setCmd s c).spin = s.spin := by unfold State.setCmd; simp
@[simp] theorem State.setCmd_servoA (s : State) (c : Cmd) : (State.setCmd s c).servoA = s.servoA := by unfold State.setCmd; simp
@[simp] theorem State.setCmd_servoB (s : State) (c : Cmd) : (State.setCmd s c).servoB = s.servoB := by unfold State.setCmd; simp
@[simp] theorem State.setCmd_tables (s : State) (c : Cmd) : (State.setCmd s c).tables = s.tables := by unfold State.setCmd; simp
@[simp] theorem State.setCmd_fsqs (s : State) (c : Cmd) : (State.setCmd s c).fsqs = s.fsqs := by unfold State.setCmd; simp
@[simp] theorem State.setCmd_rwcs (s : State) (c : Cmd) : (State.setCmd s c).rwcs = s.rwcs := by unfold State.setCmd; simp
@[simp] theorem State.setCmd_media (s : State) (c : Cmd) : (State.setCmd s c).media = s.media := by unfold State.setCmd; simp
@[simp] theorem State.setCmd_defects (s : State) (c : Cmd) : (State.setCmd s c).defects = s.defects := by unfold State.setCmd; simp
@[simp] theorem State.setCmd_stripe (s : State) (c : Cmd) : (State.setCmd s c).stripe = s.stripe := by unfold State.setCmd; simp
@[simp] theorem State.setCmd_chest (s : State) (c : Cmd) : (State.setCmd s c).chest = s.chest := by unfold State.setCmd; simp
@[simp] theorem State.setCmd_core (s : State) (c : Cmd) : (State.setCmd s c).core = s.core := by unfold State.setCmd; simp
@[simp] theorem State.setCmd_buf (s : State) (c : Cmd) : (State.setCmd s c).buf = s.buf := by unfold State.setCmd; simp
@[simp] theorem State.setCmd_dma (s : State) (c : Cmd) : (State.setCmd s c).dma = s.dma := by unfold State.setCmd; simp
@[simp] theorem State.setCmd_zmu (s : State) (c : Cmd) : (State.setCmd s c).zmu = s.zmu := by unfold State.setCmd; simp
@[simp] theorem State.setCmd_hpt (s : State) (c : Cmd) : (State.setCmd s c).hpt = s.hpt := by unfold State.setCmd; simp
@[simp] theorem State.setCmd_power (s : State) (c : Cmd) : (State.setCmd s c).power = s.power := by unfold State.setCmd; simp
@[simp] theorem State.setCmd_bur (s : State) (c : Cmd) : (State.setCmd s c).bur = s.bur := by unfold State.setCmd; simp
@[simp] theorem State.setCmd_crd (s : State) (c : Cmd) : (State.setCmd s c).crd = s.crd := by unfold State.setCmd; simp
@[simp] theorem State.setCmd_tst (s : State) (c : Cmd) : (State.setCmd s c).tst = s.tst := by unfold State.setCmd; simp
@[simp] theorem State.setCmd_freeCount (s : State) (c : Cmd) :
    (State.setCmd s c).freeCount = s.freeCount := by unfold State.setCmd; simp
@[simp] theorem State.setCmd_pending (s : State) (c : Cmd) : (State.setCmd s c).pending = s.pending := by unfold State.setCmd; simp

/-! ### `State.finish` -/

@[simp] theorem State.finish_pins (s : State) (fsn : Nat) (st : Status) (dw0 : Nat) (dw1 : Nat) :
    (State.finish s fsn st dw0 dw1).pins = s.pins := by unfold State.finish; (repeat' split) <;> simp
@[simp] theorem State.finish_start (s : State) (fsn : Nat) (st : Status) (dw0 : Nat) (dw1 : Nat) :
    (State.finish s fsn st dw0 dw1).start = s.start := by unfold State.finish; (repeat' split) <;> simp
@[simp] theorem State.finish_cfg (s : State) (fsn : Nat) (st : Status) (dw0 : Nat) (dw1 : Nat) :
    (State.finish s fsn st dw0 dw1).cfg = s.cfg := by unfold State.finish; (repeat' split) <;> simp
@[simp] theorem State.finish_plat (s : State) (fsn : Nat) (st : Status) (dw0 : Nat) (dw1 : Nat) :
    (State.finish s fsn st dw0 dw1).plat = s.plat := by unfold State.finish; (repeat' split) <;> simp
@[simp] theorem State.finish_opt (s : State) (fsn : Nat) (st : Status) (dw0 : Nat) (dw1 : Nat) :
    (State.finish s fsn st dw0 dw1).opt = s.opt := by unfold State.finish; (repeat' split) <;> simp
@[simp] theorem State.finish_fw (s : State) (fsn : Nat) (st : Status) (dw0 : Nat) (dw1 : Nat) :
    (State.finish s fsn st dw0 dw1).fw = s.fw := by unfold State.finish; (repeat' split) <;> simp
@[simp] theorem State.finish_patches (s : State) (fsn : Nat) (st : Status) (dw0 : Nat) (dw1 : Nat) :
    (State.finish s fsn st dw0 dw1).patches = s.patches := by unfold State.finish; (repeat' split) <;> simp
@[simp] theorem State.finish_fuses (s : State) (fsn : Nat) (st : Status) (dw0 : Nat) (dw1 : Nat) :
    (State.finish s fsn st dw0 dw1).fuses = s.fuses := by unfold State.finish; (repeat' split) <;> simp
@[simp] theorem State.finish_nor (s : State) (fsn : Nat) (st : Status) (dw0 : Nat) (dw1 : Nat) :
    (State.finish s fsn st dw0 dw1).nor = s.nor := by unfold State.finish; (repeat' split) <;> simp
@[simp] theorem State.finish_ident (s : State) (fsn : Nat) (st : Status) (dw0 : Nat) (dw1 : Nat) :
    (State.finish s fsn st dw0 dw1).ident = s.ident := by unfold State.finish; (repeat' split) <;> simp
@[simp] theorem State.finish_linkA (s : State) (fsn : Nat) (st : Status) (dw0 : Nat) (dw1 : Nat) :
    (State.finish s fsn st dw0 dw1).linkA = s.linkA := by unfold State.finish; (repeat' split) <;> simp
@[simp] theorem State.finish_linkB (s : State) (fsn : Nat) (st : Status) (dw0 : Nat) (dw1 : Nat) :
    (State.finish s fsn st dw0 dw1).linkB = s.linkB := by unfold State.finish; (repeat' split) <;> simp
@[simp] theorem State.finish_linkZ (s : State) (fsn : Nat) (st : Status) (dw0 : Nat) (dw1 : Nat) :
    (State.finish s fsn st dw0 dw1).linkZ = s.linkZ := by unfold State.finish; (repeat' split) <;> simp
@[simp] theorem State.finish_feA (s : State) (fsn : Nat) (st : Status) (dw0 : Nat) (dw1 : Nat) :
    (State.finish s fsn st dw0 dw1).feA = s.feA := by unfold State.finish; (repeat' split) <;> simp
@[simp] theorem State.finish_feB (s : State) (fsn : Nat) (st : Status) (dw0 : Nat) (dw1 : Nat) :
    (State.finish s fsn st dw0 dw1).feB = s.feB := by unfold State.finish; (repeat' split) <;> simp
@[simp] theorem State.finish_motion (s : State) (fsn : Nat) (st : Status) (dw0 : Nat) (dw1 : Nat) :
    (State.finish s fsn st dw0 dw1).motion = s.motion := by unfold State.finish; (repeat' split) <;> simp
@[simp] theorem State.finish_rep (s : State) (fsn : Nat) (st : Status) (dw0 : Nat) (dw1 : Nat) :
    (State.finish s fsn st dw0 dw1).rep = s.rep := by unfold State.finish; (repeat' split) <;> simp
@[simp] theorem State.finish_spin (s : State) (fsn : Nat) (st : Status) (dw0 : Nat) (dw1 : Nat) :
    (State.finish s fsn st dw0 dw1).spin = s.spin := by unfold State.finish; (repeat' split) <;> simp
@[simp] theorem State.finish_servoA (s : State) (fsn : Nat) (st : Status) (dw0 : Nat) (dw1 : Nat) :
    (State.finish s fsn st dw0 dw1).servoA = s.servoA := by unfold State.finish; (repeat' split) <;> simp
@[simp] theorem State.finish_servoB (s : State) (fsn : Nat) (st : Status) (dw0 : Nat) (dw1 : Nat) :
    (State.finish s fsn st dw0 dw1).servoB = s.servoB := by unfold State.finish; (repeat' split) <;> simp
@[simp] theorem State.finish_tables (s : State) (fsn : Nat) (st : Status) (dw0 : Nat) (dw1 : Nat) :
    (State.finish s fsn st dw0 dw1).tables = s.tables := by unfold State.finish; (repeat' split) <;> simp
@[simp] theorem State.finish_fsqs (s : State) (fsn : Nat) (st : Status) (dw0 : Nat) (dw1 : Nat) :
    (State.finish s fsn st dw0 dw1).fsqs = s.fsqs := by unfold State.finish; (repeat' split) <;> simp
@[simp] theorem State.finish_rwcs (s : State) (fsn : Nat) (st : Status) (dw0 : Nat) (dw1 : Nat) :
    (State.finish s fsn st dw0 dw1).rwcs = s.rwcs := by unfold State.finish; (repeat' split) <;> simp
@[simp] theorem State.finish_media (s : State) (fsn : Nat) (st : Status) (dw0 : Nat) (dw1 : Nat) :
    (State.finish s fsn st dw0 dw1).media = s.media := by unfold State.finish; (repeat' split) <;> simp
@[simp] theorem State.finish_defects (s : State) (fsn : Nat) (st : Status) (dw0 : Nat) (dw1 : Nat) :
    (State.finish s fsn st dw0 dw1).defects = s.defects := by unfold State.finish; (repeat' split) <;> simp
@[simp] theorem State.finish_stripe (s : State) (fsn : Nat) (st : Status) (dw0 : Nat) (dw1 : Nat) :
    (State.finish s fsn st dw0 dw1).stripe = s.stripe := by unfold State.finish; (repeat' split) <;> simp
@[simp] theorem State.finish_chest (s : State) (fsn : Nat) (st : Status) (dw0 : Nat) (dw1 : Nat) :
    (State.finish s fsn st dw0 dw1).chest = s.chest := by unfold State.finish; (repeat' split) <;> simp
@[simp] theorem State.finish_core (s : State) (fsn : Nat) (st : Status) (dw0 : Nat) (dw1 : Nat) :
    (State.finish s fsn st dw0 dw1).core = s.core := by unfold State.finish; (repeat' split) <;> simp
@[simp] theorem State.finish_buf (s : State) (fsn : Nat) (st : Status) (dw0 : Nat) (dw1 : Nat) :
    (State.finish s fsn st dw0 dw1).buf = s.buf := by unfold State.finish; (repeat' split) <;> simp
@[simp] theorem State.finish_dma (s : State) (fsn : Nat) (st : Status) (dw0 : Nat) (dw1 : Nat) :
    (State.finish s fsn st dw0 dw1).dma = s.dma := by unfold State.finish; (repeat' split) <;> simp
@[simp] theorem State.finish_zmu (s : State) (fsn : Nat) (st : Status) (dw0 : Nat) (dw1 : Nat) :
    (State.finish s fsn st dw0 dw1).zmu = s.zmu := by unfold State.finish; (repeat' split) <;> simp
@[simp] theorem State.finish_hpt (s : State) (fsn : Nat) (st : Status) (dw0 : Nat) (dw1 : Nat) :
    (State.finish s fsn st dw0 dw1).hpt = s.hpt := by unfold State.finish; (repeat' split) <;> simp
@[simp] theorem State.finish_power (s : State) (fsn : Nat) (st : Status) (dw0 : Nat) (dw1 : Nat) :
    (State.finish s fsn st dw0 dw1).power = s.power := by unfold State.finish; (repeat' split) <;> simp
@[simp] theorem State.finish_bur (s : State) (fsn : Nat) (st : Status) (dw0 : Nat) (dw1 : Nat) :
    (State.finish s fsn st dw0 dw1).bur = s.bur := by unfold State.finish; (repeat' split) <;> simp
@[simp] theorem State.finish_crd (s : State) (fsn : Nat) (st : Status) (dw0 : Nat) (dw1 : Nat) :
    (State.finish s fsn st dw0 dw1).crd = s.crd := by unfold State.finish; (repeat' split) <;> simp
@[simp] theorem State.finish_tst (s : State) (fsn : Nat) (st : Status) (dw0 : Nat) (dw1 : Nat) :
    (State.finish s fsn st dw0 dw1).tst = s.tst := by unfold State.finish; (repeat' split) <;> simp
@[simp] theorem State.finish_freeCount (s : State) (fsn : Nat) (st : Status) (dw0 : Nat) (dw1 : Nat) :
    (State.finish s fsn st dw0 dw1).freeCount = s.freeCount := by unfold State.finish; (repeat' split) <;> simp
@[simp] theorem State.finish_pending (s : State) (fsn : Nat) (st : Status) (dw0 : Nat) (dw1 : Nat) :
    (State.finish s fsn st dw0 dw1).pending = s.pending := by unfold State.finish; (repeat' split) <;> simp

/-! ### `State.pulse` -/

@[simp] theorem State.pulse_pins (s : State) (k : Nat) : (State.pulse s k).pins = s.pins := by unfold State.pulse; split <;> simp
@[simp] theorem State.pulse_start (s : State) (k : Nat) : (State.pulse s k).start = s.start := by unfold State.pulse; split <;> simp
@[simp] theorem State.pulse_cfg (s : State) (k : Nat) : (State.pulse s k).cfg = s.cfg := by unfold State.pulse; split <;> simp
@[simp] theorem State.pulse_plat (s : State) (k : Nat) : (State.pulse s k).plat = s.plat := by unfold State.pulse; split <;> simp
@[simp] theorem State.pulse_opt (s : State) (k : Nat) : (State.pulse s k).opt = s.opt := by unfold State.pulse; split <;> simp
@[simp] theorem State.pulse_fw (s : State) (k : Nat) : (State.pulse s k).fw = s.fw := by unfold State.pulse; split <;> simp
@[simp] theorem State.pulse_patches (s : State) (k : Nat) :
    (State.pulse s k).patches = s.patches := by unfold State.pulse; split <;> simp
@[simp] theorem State.pulse_fuses (s : State) (k : Nat) : (State.pulse s k).fuses = s.fuses := by unfold State.pulse; split <;> simp
@[simp] theorem State.pulse_nor (s : State) (k : Nat) : (State.pulse s k).nor = s.nor := by unfold State.pulse; split <;> simp
@[simp] theorem State.pulse_ident (s : State) (k : Nat) : (State.pulse s k).ident = s.ident := by unfold State.pulse; split <;> simp
@[simp] theorem State.pulse_linkA (s : State) (k : Nat) : (State.pulse s k).linkA = s.linkA := by unfold State.pulse; split <;> simp
@[simp] theorem State.pulse_linkB (s : State) (k : Nat) : (State.pulse s k).linkB = s.linkB := by unfold State.pulse; split <;> simp
@[simp] theorem State.pulse_linkZ (s : State) (k : Nat) : (State.pulse s k).linkZ = s.linkZ := by unfold State.pulse; split <;> simp
@[simp] theorem State.pulse_feA (s : State) (k : Nat) : (State.pulse s k).feA = s.feA := by unfold State.pulse; split <;> simp
@[simp] theorem State.pulse_feB (s : State) (k : Nat) : (State.pulse s k).feB = s.feB := by unfold State.pulse; split <;> simp
@[simp] theorem State.pulse_motion (s : State) (k : Nat) :
    (State.pulse s k).motion = s.motion := by unfold State.pulse; split <;> simp
@[simp] theorem State.pulse_rep (s : State) (k : Nat) : (State.pulse s k).rep = s.rep := by unfold State.pulse; split <;> simp
@[simp] theorem State.pulse_spin (s : State) (k : Nat) : (State.pulse s k).spin = s.spin := by unfold State.pulse; split <;> simp
@[simp] theorem State.pulse_servoA (s : State) (k : Nat) :
    (State.pulse s k).servoA = s.servoA := by unfold State.pulse; split <;> simp
@[simp] theorem State.pulse_servoB (s : State) (k : Nat) :
    (State.pulse s k).servoB = s.servoB := by unfold State.pulse; split <;> simp
@[simp] theorem State.pulse_tables (s : State) (k : Nat) :
    (State.pulse s k).tables = s.tables := by unfold State.pulse; split <;> simp
@[simp] theorem State.pulse_fsqs (s : State) (k : Nat) : (State.pulse s k).fsqs = s.fsqs := by unfold State.pulse; split <;> simp
@[simp] theorem State.pulse_rwcs (s : State) (k : Nat) : (State.pulse s k).rwcs = s.rwcs := by unfold State.pulse; split <;> simp
@[simp] theorem State.pulse_media (s : State) (k : Nat) : (State.pulse s k).media = s.media := by unfold State.pulse; split <;> simp
@[simp] theorem State.pulse_defects (s : State) (k : Nat) :
    (State.pulse s k).defects = s.defects := by unfold State.pulse; split <;> simp
@[simp] theorem State.pulse_stripe (s : State) (k : Nat) :
    (State.pulse s k).stripe = s.stripe := by unfold State.pulse; split <;> simp
@[simp] theorem State.pulse_chest (s : State) (k : Nat) : (State.pulse s k).chest = s.chest := by unfold State.pulse; split <;> simp
@[simp] theorem State.pulse_core (s : State) (k : Nat) : (State.pulse s k).core = s.core := by unfold State.pulse; split <;> simp
@[simp] theorem State.pulse_buf (s : State) (k : Nat) : (State.pulse s k).buf = s.buf := by unfold State.pulse; split <;> simp
@[simp] theorem State.pulse_zmu (s : State) (k : Nat) : (State.pulse s k).zmu = s.zmu := by unfold State.pulse; split <;> simp
@[simp] theorem State.pulse_cqu (s : State) (k : Nat) : (State.pulse s k).cqu = s.cqu := by unfold State.pulse; split <;> simp
@[simp] theorem State.pulse_hpt (s : State) (k : Nat) : (State.pulse s k).hpt = s.hpt := by unfold State.pulse; split <;> simp
@[simp] theorem State.pulse_power (s : State) (k : Nat) : (State.pulse s k).power = s.power := by unfold State.pulse; split <;> simp
@[simp] theorem State.pulse_bur (s : State) (k : Nat) : (State.pulse s k).bur = s.bur := by unfold State.pulse; split <;> simp
@[simp] theorem State.pulse_crd (s : State) (k : Nat) : (State.pulse s k).crd = s.crd := by unfold State.pulse; split <;> simp
@[simp] theorem State.pulse_tst (s : State) (k : Nat) : (State.pulse s k).tst = s.tst := by unfold State.pulse; split <;> simp
@[simp] theorem State.pulse_freeCount (s : State) (k : Nat) :
    (State.pulse s k).freeCount = s.freeCount := by unfold State.pulse; split <;> simp
@[simp] theorem State.pulse_pending (s : State) (k : Nat) :
    (State.pulse s k).pending = s.pending := by unfold State.pulse; split <;> simp

/-! ### `State.send` -/

@[simp] theorem State.send_pins (s : State) (o : Out) :
    (State.send s o).pins = s.pins := by unfold State.send; (repeat' split) <;> simp
@[simp] theorem State.send_start (s : State) (o : Out) :
    (State.send s o).start = s.start := by unfold State.send; (repeat' split) <;> simp
@[simp] theorem State.send_cfg (s : State) (o : Out) :
    (State.send s o).cfg = s.cfg := by unfold State.send; (repeat' split) <;> simp
@[simp] theorem State.send_plat (s : State) (o : Out) :
    (State.send s o).plat = s.plat := by unfold State.send; (repeat' split) <;> simp
@[simp] theorem State.send_opt (s : State) (o : Out) :
    (State.send s o).opt = s.opt := by unfold State.send; (repeat' split) <;> simp
@[simp] theorem State.send_fw (s : State) (o : Out) : (State.send s o).fw = s.fw := by unfold State.send; (repeat' split) <;> simp
@[simp] theorem State.send_patches (s : State) (o : Out) :
    (State.send s o).patches = s.patches := by unfold State.send; (repeat' split) <;> simp
@[simp] theorem State.send_fuses (s : State) (o : Out) :
    (State.send s o).fuses = s.fuses := by unfold State.send; (repeat' split) <;> simp
@[simp] theorem State.send_nor (s : State) (o : Out) :
    (State.send s o).nor = s.nor := by unfold State.send; (repeat' split) <;> simp
@[simp] theorem State.send_ident (s : State) (o : Out) :
    (State.send s o).ident = s.ident := by unfold State.send; (repeat' split) <;> simp
@[simp] theorem State.send_linkA (s : State) (o : Out) :
    (State.send s o).linkA = s.linkA := by unfold State.send; (repeat' split) <;> simp
@[simp] theorem State.send_linkB (s : State) (o : Out) :
    (State.send s o).linkB = s.linkB := by unfold State.send; (repeat' split) <;> simp
@[simp] theorem State.send_linkZ (s : State) (o : Out) :
    (State.send s o).linkZ = s.linkZ := by unfold State.send; (repeat' split) <;> simp
@[simp] theorem State.send_feA (s : State) (o : Out) :
    (State.send s o).feA = s.feA := by unfold State.send; (repeat' split) <;> simp
@[simp] theorem State.send_feB (s : State) (o : Out) :
    (State.send s o).feB = s.feB := by unfold State.send; (repeat' split) <;> simp
@[simp] theorem State.send_motion (s : State) (o : Out) :
    (State.send s o).motion = s.motion := by unfold State.send; (repeat' split) <;> simp
@[simp] theorem State.send_rep (s : State) (o : Out) :
    (State.send s o).rep = s.rep := by unfold State.send; (repeat' split) <;> simp
@[simp] theorem State.send_spin (s : State) (o : Out) :
    (State.send s o).spin = s.spin := by unfold State.send; (repeat' split) <;> simp
@[simp] theorem State.send_servoA (s : State) (o : Out) :
    (State.send s o).servoA = s.servoA := by unfold State.send; (repeat' split) <;> simp
@[simp] theorem State.send_servoB (s : State) (o : Out) :
    (State.send s o).servoB = s.servoB := by unfold State.send; (repeat' split) <;> simp
@[simp] theorem State.send_tables (s : State) (o : Out) :
    (State.send s o).tables = s.tables := by unfold State.send; (repeat' split) <;> simp
@[simp] theorem State.send_fsqs (s : State) (o : Out) :
    (State.send s o).fsqs = s.fsqs := by unfold State.send; (repeat' split) <;> simp
@[simp] theorem State.send_rwcs (s : State) (o : Out) :
    (State.send s o).rwcs = s.rwcs := by unfold State.send; (repeat' split) <;> simp
@[simp] theorem State.send_media (s : State) (o : Out) :
    (State.send s o).media = s.media := by unfold State.send; (repeat' split) <;> simp
@[simp] theorem State.send_defects (s : State) (o : Out) :
    (State.send s o).defects = s.defects := by unfold State.send; (repeat' split) <;> simp
@[simp] theorem State.send_stripe (s : State) (o : Out) :
    (State.send s o).stripe = s.stripe := by unfold State.send; (repeat' split) <;> simp
@[simp] theorem State.send_chest (s : State) (o : Out) :
    (State.send s o).chest = s.chest := by unfold State.send; (repeat' split) <;> simp
@[simp] theorem State.send_core (s : State) (o : Out) :
    (State.send s o).core = s.core := by unfold State.send; (repeat' split) <;> simp
@[simp] theorem State.send_buf (s : State) (o : Out) :
    (State.send s o).buf = s.buf := by unfold State.send; (repeat' split) <;> simp
@[simp] theorem State.send_dma (s : State) (o : Out) :
    (State.send s o).dma = s.dma := by unfold State.send; (repeat' split) <;> simp
@[simp] theorem State.send_zmu (s : State) (o : Out) :
    (State.send s o).zmu = s.zmu := by unfold State.send; (repeat' split) <;> simp
@[simp] theorem State.send_cqu (s : State) (o : Out) :
    (State.send s o).cqu = s.cqu := by unfold State.send; (repeat' split) <;> simp
@[simp] theorem State.send_power (s : State) (o : Out) :
    (State.send s o).power = s.power := by unfold State.send; (repeat' split) <;> simp
@[simp] theorem State.send_bur (s : State) (o : Out) :
    (State.send s o).bur = s.bur := by unfold State.send; (repeat' split) <;> simp
@[simp] theorem State.send_crd (s : State) (o : Out) :
    (State.send s o).crd = s.crd := by unfold State.send; (repeat' split) <;> simp
@[simp] theorem State.send_tst (s : State) (o : Out) :
    (State.send s o).tst = s.tst := by unfold State.send; (repeat' split) <;> simp
@[simp] theorem State.send_freeCount (s : State) (o : Out) :
    (State.send s o).freeCount = s.freeCount := by unfold State.send; (repeat' split) <;> simp
@[simp] theorem State.send_pending (s : State) (o : Out) :
    (State.send s o).pending = s.pending := by unfold State.send; (repeat' split) <;> simp

/-! ### `State.toPhase` -/

@[simp] theorem State.toPhase_pins (s : State) (n : Nat) : (State.toPhase s n).pins = s.pins := by unfold State.toPhase; simp
@[simp] theorem State.toPhase_start (s : State) (n : Nat) : (State.toPhase s n).start = s.start := by unfold State.toPhase; simp
@[simp] theorem State.toPhase_cfg (s : State) (n : Nat) : (State.toPhase s n).cfg = s.cfg := by unfold State.toPhase; simp
@[simp] theorem State.toPhase_plat (s : State) (n : Nat) : (State.toPhase s n).plat = s.plat := by unfold State.toPhase; simp
@[simp] theorem State.toPhase_opt (s : State) (n : Nat) : (State.toPhase s n).opt = s.opt := by unfold State.toPhase; simp
@[simp] theorem State.toPhase_fw (s : State) (n : Nat) : (State.toPhase s n).fw = s.fw := by unfold State.toPhase; simp
@[simp] theorem State.toPhase_patches (s : State) (n : Nat) :
    (State.toPhase s n).patches = s.patches := by unfold State.toPhase; simp
@[simp] theorem State.toPhase_fuses (s : State) (n : Nat) : (State.toPhase s n).fuses = s.fuses := by unfold State.toPhase; simp
@[simp] theorem State.toPhase_nor (s : State) (n : Nat) : (State.toPhase s n).nor = s.nor := by unfold State.toPhase; simp
@[simp] theorem State.toPhase_ident (s : State) (n : Nat) : (State.toPhase s n).ident = s.ident := by unfold State.toPhase; simp
@[simp] theorem State.toPhase_linkA (s : State) (n : Nat) : (State.toPhase s n).linkA = s.linkA := by unfold State.toPhase; simp
@[simp] theorem State.toPhase_linkB (s : State) (n : Nat) : (State.toPhase s n).linkB = s.linkB := by unfold State.toPhase; simp
@[simp] theorem State.toPhase_linkZ (s : State) (n : Nat) : (State.toPhase s n).linkZ = s.linkZ := by unfold State.toPhase; simp
@[simp] theorem State.toPhase_feA (s : State) (n : Nat) : (State.toPhase s n).feA = s.feA := by unfold State.toPhase; simp
@[simp] theorem State.toPhase_feB (s : State) (n : Nat) : (State.toPhase s n).feB = s.feB := by unfold State.toPhase; simp
@[simp] theorem State.toPhase_motion (s : State) (n : Nat) : (State.toPhase s n).motion = s.motion := by unfold State.toPhase; simp
@[simp] theorem State.toPhase_rep (s : State) (n : Nat) : (State.toPhase s n).rep = s.rep := by unfold State.toPhase; simp
@[simp] theorem State.toPhase_spin (s : State) (n : Nat) : (State.toPhase s n).spin = s.spin := by unfold State.toPhase; simp
@[simp] theorem State.toPhase_servoA (s : State) (n : Nat) : (State.toPhase s n).servoA = s.servoA := by unfold State.toPhase; simp
@[simp] theorem State.toPhase_servoB (s : State) (n : Nat) : (State.toPhase s n).servoB = s.servoB := by unfold State.toPhase; simp
@[simp] theorem State.toPhase_tables (s : State) (n : Nat) : (State.toPhase s n).tables = s.tables := by unfold State.toPhase; simp
@[simp] theorem State.toPhase_fsqs (s : State) (n : Nat) : (State.toPhase s n).fsqs = s.fsqs := by unfold State.toPhase; simp
@[simp] theorem State.toPhase_rwcs (s : State) (n : Nat) : (State.toPhase s n).rwcs = s.rwcs := by unfold State.toPhase; simp
@[simp] theorem State.toPhase_media (s : State) (n : Nat) : (State.toPhase s n).media = s.media := by unfold State.toPhase; simp
@[simp] theorem State.toPhase_defects (s : State) (n : Nat) :
    (State.toPhase s n).defects = s.defects := by unfold State.toPhase; simp
@[simp] theorem State.toPhase_stripe (s : State) (n : Nat) : (State.toPhase s n).stripe = s.stripe := by unfold State.toPhase; simp
@[simp] theorem State.toPhase_chest (s : State) (n : Nat) : (State.toPhase s n).chest = s.chest := by unfold State.toPhase; simp
@[simp] theorem State.toPhase_core (s : State) (n : Nat) : (State.toPhase s n).core = s.core := by unfold State.toPhase; simp
@[simp] theorem State.toPhase_buf (s : State) (n : Nat) : (State.toPhase s n).buf = s.buf := by unfold State.toPhase; simp
@[simp] theorem State.toPhase_dma (s : State) (n : Nat) : (State.toPhase s n).dma = s.dma := by unfold State.toPhase; simp
@[simp] theorem State.toPhase_zmu (s : State) (n : Nat) : (State.toPhase s n).zmu = s.zmu := by unfold State.toPhase; simp
@[simp] theorem State.toPhase_cqu (s : State) (n : Nat) : (State.toPhase s n).cqu = s.cqu := by unfold State.toPhase; simp
@[simp] theorem State.toPhase_hpt (s : State) (n : Nat) : (State.toPhase s n).hpt = s.hpt := by unfold State.toPhase; simp
@[simp] theorem State.toPhase_power (s : State) (n : Nat) : (State.toPhase s n).power = s.power := by unfold State.toPhase; simp
@[simp] theorem State.toPhase_bur (s : State) (n : Nat) : (State.toPhase s n).bur = s.bur := by unfold State.toPhase; simp
@[simp] theorem State.toPhase_crd (s : State) (n : Nat) : (State.toPhase s n).crd = s.crd := by unfold State.toPhase; simp
@[simp] theorem State.toPhase_tst (s : State) (n : Nat) : (State.toPhase s n).tst = s.tst := by unfold State.toPhase; simp
@[simp] theorem State.toPhase_freeCount (s : State) (n : Nat) :
    (State.toPhase s n).freeCount = s.freeCount := by unfold State.toPhase; simp
@[simp] theorem State.toPhase_pending (s : State) (n : Nat) :
    (State.toPhase s n).pending = s.pending := by unfold State.toPhase; simp

/-! ### `State.closeGates` -/

@[simp] theorem State.closeGates_regs (s : State) (x : Act) :
    (State.closeGates s x).regs = s.regs := by unfold State.closeGates; simp
@[simp] theorem State.closeGates_pins (s : State) (x : Act) :
    (State.closeGates s x).pins = s.pins := by unfold State.closeGates; simp
@[simp] theorem State.closeGates_start (s : State) (x : Act) :
    (State.closeGates s x).start = s.start := by unfold State.closeGates; simp
@[simp] theorem State.closeGates_cfg (s : State) (x : Act) : (State.closeGates s x).cfg = s.cfg := by unfold State.closeGates; simp
@[simp] theorem State.closeGates_plat (s : State) (x : Act) :
    (State.closeGates s x).plat = s.plat := by unfold State.closeGates; simp
@[simp] theorem State.closeGates_opt (s : State) (x : Act) : (State.closeGates s x).opt = s.opt := by unfold State.closeGates; simp
@[simp] theorem State.closeGates_fw (s : State) (x : Act) : (State.closeGates s x).fw = s.fw := by unfold State.closeGates; simp
@[simp] theorem State.closeGates_patches (s : State) (x : Act) :
    (State.closeGates s x).patches = s.patches := by unfold State.closeGates; simp
@[simp] theorem State.closeGates_fuses (s : State) (x : Act) :
    (State.closeGates s x).fuses = s.fuses := by unfold State.closeGates; simp
@[simp] theorem State.closeGates_nor (s : State) (x : Act) : (State.closeGates s x).nor = s.nor := by unfold State.closeGates; simp
@[simp] theorem State.closeGates_ident (s : State) (x : Act) :
    (State.closeGates s x).ident = s.ident := by unfold State.closeGates; simp
@[simp] theorem State.closeGates_linkA (s : State) (x : Act) :
    (State.closeGates s x).linkA = s.linkA := by unfold State.closeGates; simp
@[simp] theorem State.closeGates_linkB (s : State) (x : Act) :
    (State.closeGates s x).linkB = s.linkB := by unfold State.closeGates; simp
@[simp] theorem State.closeGates_linkZ (s : State) (x : Act) :
    (State.closeGates s x).linkZ = s.linkZ := by unfold State.closeGates; simp
@[simp] theorem State.closeGates_feA (s : State) (x : Act) : (State.closeGates s x).feA = s.feA := by unfold State.closeGates; simp
@[simp] theorem State.closeGates_feB (s : State) (x : Act) : (State.closeGates s x).feB = s.feB := by unfold State.closeGates; simp
@[simp] theorem State.closeGates_motion (s : State) (x : Act) :
    (State.closeGates s x).motion = s.motion := by unfold State.closeGates; simp
@[simp] theorem State.closeGates_spin (s : State) (x : Act) :
    (State.closeGates s x).spin = s.spin := by unfold State.closeGates; simp
@[simp] theorem State.closeGates_servoA (s : State) (x : Act) :
    (State.closeGates s x).servoA = s.servoA := by unfold State.closeGates; simp
@[simp] theorem State.closeGates_servoB (s : State) (x : Act) :
    (State.closeGates s x).servoB = s.servoB := by unfold State.closeGates; simp
@[simp] theorem State.closeGates_tables (s : State) (x : Act) :
    (State.closeGates s x).tables = s.tables := by unfold State.closeGates; simp
@[simp] theorem State.closeGates_fsqs (s : State) (x : Act) :
    (State.closeGates s x).fsqs = s.fsqs := by unfold State.closeGates; simp
@[simp] theorem State.closeGates_rwcs (s : State) (x : Act) :
    (State.closeGates s x).rwcs = s.rwcs := by unfold State.closeGates; simp
@[simp] theorem State.closeGates_media (s : State) (x : Act) :
    (State.closeGates s x).media = s.media := by unfold State.closeGates; simp
@[simp] theorem State.closeGates_defects (s : State) (x : Act) :
    (State.closeGates s x).defects = s.defects := by unfold State.closeGates; simp
@[simp] theorem State.closeGates_stripe (s : State) (x : Act) :
    (State.closeGates s x).stripe = s.stripe := by unfold State.closeGates; simp
@[simp] theorem State.closeGates_chest (s : State) (x : Act) :
    (State.closeGates s x).chest = s.chest := by unfold State.closeGates; simp
@[simp] theorem State.closeGates_core (s : State) (x : Act) :
    (State.closeGates s x).core = s.core := by unfold State.closeGates; simp
@[simp] theorem State.closeGates_buf (s : State) (x : Act) : (State.closeGates s x).buf = s.buf := by unfold State.closeGates; simp
@[simp] theorem State.closeGates_dma (s : State) (x : Act) : (State.closeGates s x).dma = s.dma := by unfold State.closeGates; simp
@[simp] theorem State.closeGates_zmu (s : State) (x : Act) : (State.closeGates s x).zmu = s.zmu := by unfold State.closeGates; simp
@[simp] theorem State.closeGates_cqu (s : State) (x : Act) : (State.closeGates s x).cqu = s.cqu := by unfold State.closeGates; simp
@[simp] theorem State.closeGates_hpt (s : State) (x : Act) : (State.closeGates s x).hpt = s.hpt := by unfold State.closeGates; simp
@[simp] theorem State.closeGates_power (s : State) (x : Act) :
    (State.closeGates s x).power = s.power := by unfold State.closeGates; simp
@[simp] theorem State.closeGates_bur (s : State) (x : Act) : (State.closeGates s x).bur = s.bur := by unfold State.closeGates; simp
@[simp] theorem State.closeGates_crd (s : State) (x : Act) : (State.closeGates s x).crd = s.crd := by unfold State.closeGates; simp
@[simp] theorem State.closeGates_tst (s : State) (x : Act) : (State.closeGates s x).tst = s.tst := by unfold State.closeGates; simp
@[simp] theorem State.closeGates_freeCount (s : State) (x : Act) :
    (State.closeGates s x).freeCount = s.freeCount := by unfold State.closeGates; simp
@[simp] theorem State.closeGates_pending (s : State) (x : Act) :
    (State.closeGates s x).pending = s.pending := by unfold State.closeGates; simp

/-! ### `State.asyncEvent` -/

@[simp] theorem State.asyncEvent_pins (s : State) (typ : Nat) (info : Nat) (lid : Nat) :
    (State.asyncEvent s typ info lid).pins = s.pins := by unfold State.asyncEvent; (try dsimp only); (repeat' split) <;> simp
@[simp] theorem State.asyncEvent_start (s : State) (typ : Nat) (info : Nat) (lid : Nat) :
    (State.asyncEvent s typ info lid).start = s.start := by unfold State.asyncEvent; (try dsimp only); (repeat' split) <;> simp
@[simp] theorem State.asyncEvent_cfg (s : State) (typ : Nat) (info : Nat) (lid : Nat) :
    (State.asyncEvent s typ info lid).cfg = s.cfg := by unfold State.asyncEvent; (try dsimp only); (repeat' split) <;> simp
@[simp] theorem State.asyncEvent_plat (s : State) (typ : Nat) (info : Nat) (lid : Nat) :
    (State.asyncEvent s typ info lid).plat = s.plat := by unfold State.asyncEvent; (try dsimp only); (repeat' split) <;> simp
@[simp] theorem State.asyncEvent_opt (s : State) (typ : Nat) (info : Nat) (lid : Nat) :
    (State.asyncEvent s typ info lid).opt = s.opt := by unfold State.asyncEvent; (try dsimp only); (repeat' split) <;> simp
@[simp] theorem State.asyncEvent_fw (s : State) (typ : Nat) (info : Nat) (lid : Nat) :
    (State.asyncEvent s typ info lid).fw = s.fw := by unfold State.asyncEvent; (try dsimp only); (repeat' split) <;> simp
@[simp] theorem State.asyncEvent_patches (s : State) (typ : Nat) (info : Nat) (lid : Nat) :
    (State.asyncEvent s typ info lid).patches = s.patches :=
  by unfold State.asyncEvent; (try dsimp only); (repeat' split) <;> simp
@[simp] theorem State.asyncEvent_fuses (s : State) (typ : Nat) (info : Nat) (lid : Nat) :
    (State.asyncEvent s typ info lid).fuses = s.fuses := by unfold State.asyncEvent; (try dsimp only); (repeat' split) <;> simp
@[simp] theorem State.asyncEvent_nor (s : State) (typ : Nat) (info : Nat) (lid : Nat) :
    (State.asyncEvent s typ info lid).nor = s.nor := by unfold State.asyncEvent; (try dsimp only); (repeat' split) <;> simp
@[simp] theorem State.asyncEvent_ident (s : State) (typ : Nat) (info : Nat) (lid : Nat) :
    (State.asyncEvent s typ info lid).ident = s.ident := by unfold State.asyncEvent; (try dsimp only); (repeat' split) <;> simp
@[simp] theorem State.asyncEvent_linkA (s : State) (typ : Nat) (info : Nat) (lid : Nat) :
    (State.asyncEvent s typ info lid).linkA = s.linkA := by unfold State.asyncEvent; (try dsimp only); (repeat' split) <;> simp
@[simp] theorem State.asyncEvent_linkB (s : State) (typ : Nat) (info : Nat) (lid : Nat) :
    (State.asyncEvent s typ info lid).linkB = s.linkB := by unfold State.asyncEvent; (try dsimp only); (repeat' split) <;> simp
@[simp] theorem State.asyncEvent_linkZ (s : State) (typ : Nat) (info : Nat) (lid : Nat) :
    (State.asyncEvent s typ info lid).linkZ = s.linkZ := by unfold State.asyncEvent; (try dsimp only); (repeat' split) <;> simp
@[simp] theorem State.asyncEvent_feA (s : State) (typ : Nat) (info : Nat) (lid : Nat) :
    (State.asyncEvent s typ info lid).feA = s.feA := by unfold State.asyncEvent; (try dsimp only); (repeat' split) <;> simp
@[simp] theorem State.asyncEvent_feB (s : State) (typ : Nat) (info : Nat) (lid : Nat) :
    (State.asyncEvent s typ info lid).feB = s.feB := by unfold State.asyncEvent; (try dsimp only); (repeat' split) <;> simp
@[simp] theorem State.asyncEvent_motion (s : State) (typ : Nat) (info : Nat) (lid : Nat) :
    (State.asyncEvent s typ info lid).motion = s.motion :=
  by unfold State.asyncEvent; (try dsimp only); (repeat' split) <;> simp
@[simp] theorem State.asyncEvent_rep (s : State) (typ : Nat) (info : Nat) (lid : Nat) :
    (State.asyncEvent s typ info lid).rep = s.rep := by unfold State.asyncEvent; (try dsimp only); (repeat' split) <;> simp
@[simp] theorem State.asyncEvent_spin (s : State) (typ : Nat) (info : Nat) (lid : Nat) :
    (State.asyncEvent s typ info lid).spin = s.spin := by unfold State.asyncEvent; (try dsimp only); (repeat' split) <;> simp
@[simp] theorem State.asyncEvent_servoA (s : State) (typ : Nat) (info : Nat) (lid : Nat) :
    (State.asyncEvent s typ info lid).servoA = s.servoA :=
  by unfold State.asyncEvent; (try dsimp only); (repeat' split) <;> simp
@[simp] theorem State.asyncEvent_servoB (s : State) (typ : Nat) (info : Nat) (lid : Nat) :
    (State.asyncEvent s typ info lid).servoB = s.servoB :=
  by unfold State.asyncEvent; (try dsimp only); (repeat' split) <;> simp
@[simp] theorem State.asyncEvent_tables (s : State) (typ : Nat) (info : Nat) (lid : Nat) :
    (State.asyncEvent s typ info lid).tables = s.tables :=
  by unfold State.asyncEvent; (try dsimp only); (repeat' split) <;> simp
@[simp] theorem State.asyncEvent_fsqs (s : State) (typ : Nat) (info : Nat) (lid : Nat) :
    (State.asyncEvent s typ info lid).fsqs = s.fsqs := by unfold State.asyncEvent; (try dsimp only); (repeat' split) <;> simp
@[simp] theorem State.asyncEvent_rwcs (s : State) (typ : Nat) (info : Nat) (lid : Nat) :
    (State.asyncEvent s typ info lid).rwcs = s.rwcs := by unfold State.asyncEvent; (try dsimp only); (repeat' split) <;> simp
@[simp] theorem State.asyncEvent_media (s : State) (typ : Nat) (info : Nat) (lid : Nat) :
    (State.asyncEvent s typ info lid).media = s.media := by unfold State.asyncEvent; (try dsimp only); (repeat' split) <;> simp
@[simp] theorem State.asyncEvent_defects (s : State) (typ : Nat) (info : Nat) (lid : Nat) :
    (State.asyncEvent s typ info lid).defects = s.defects :=
  by unfold State.asyncEvent; (try dsimp only); (repeat' split) <;> simp
@[simp] theorem State.asyncEvent_stripe (s : State) (typ : Nat) (info : Nat) (lid : Nat) :
    (State.asyncEvent s typ info lid).stripe = s.stripe :=
  by unfold State.asyncEvent; (try dsimp only); (repeat' split) <;> simp
@[simp] theorem State.asyncEvent_chest (s : State) (typ : Nat) (info : Nat) (lid : Nat) :
    (State.asyncEvent s typ info lid).chest = s.chest := by unfold State.asyncEvent; (try dsimp only); (repeat' split) <;> simp
@[simp] theorem State.asyncEvent_core (s : State) (typ : Nat) (info : Nat) (lid : Nat) :
    (State.asyncEvent s typ info lid).core = s.core := by unfold State.asyncEvent; (try dsimp only); (repeat' split) <;> simp
@[simp] theorem State.asyncEvent_buf (s : State) (typ : Nat) (info : Nat) (lid : Nat) :
    (State.asyncEvent s typ info lid).buf = s.buf := by unfold State.asyncEvent; (try dsimp only); (repeat' split) <;> simp
@[simp] theorem State.asyncEvent_dma (s : State) (typ : Nat) (info : Nat) (lid : Nat) :
    (State.asyncEvent s typ info lid).dma = s.dma := by unfold State.asyncEvent; (try dsimp only); (repeat' split) <;> simp
@[simp] theorem State.asyncEvent_zmu (s : State) (typ : Nat) (info : Nat) (lid : Nat) :
    (State.asyncEvent s typ info lid).zmu = s.zmu := by unfold State.asyncEvent; (try dsimp only); (repeat' split) <;> simp
@[simp] theorem State.asyncEvent_hpt (s : State) (typ : Nat) (info : Nat) (lid : Nat) :
    (State.asyncEvent s typ info lid).hpt = s.hpt := by unfold State.asyncEvent; (try dsimp only); (repeat' split) <;> simp
@[simp] theorem State.asyncEvent_power (s : State) (typ : Nat) (info : Nat) (lid : Nat) :
    (State.asyncEvent s typ info lid).power = s.power := by unfold State.asyncEvent; (try dsimp only); (repeat' split) <;> simp
@[simp] theorem State.asyncEvent_bur (s : State) (typ : Nat) (info : Nat) (lid : Nat) :
    (State.asyncEvent s typ info lid).bur = s.bur := by unfold State.asyncEvent; (try dsimp only); (repeat' split) <;> simp
@[simp] theorem State.asyncEvent_crd (s : State) (typ : Nat) (info : Nat) (lid : Nat) :
    (State.asyncEvent s typ info lid).crd = s.crd := by unfold State.asyncEvent; (try dsimp only); (repeat' split) <;> simp
@[simp] theorem State.asyncEvent_tst (s : State) (typ : Nat) (info : Nat) (lid : Nat) :
    (State.asyncEvent s typ info lid).tst = s.tst := by unfold State.asyncEvent; (try dsimp only); (repeat' split) <;> simp
@[simp] theorem State.asyncEvent_freeCount (s : State) (typ : Nat) (info : Nat) (lid : Nat) :
    (State.asyncEvent s typ info lid).freeCount = s.freeCount :=
  by unfold State.asyncEvent; (try dsimp only); (repeat' split) <;> simp
@[simp] theorem State.asyncEvent_pending (s : State) (typ : Nat) (info : Nat) (lid : Nat) :
    (State.asyncEvent s typ info lid).pending = s.pending :=
  by unfold State.asyncEvent; (try dsimp only); (repeat' split) <;> simp

/-! ### `State.warn` -/

@[simp] theorem State.warn_pins (s : State) (b : Nat) (cause : Nat) :
    (State.warn s b cause).pins = s.pins := by unfold State.warn; (try dsimp only); (repeat' split) <;> simp
@[simp] theorem State.warn_start (s : State) (b : Nat) (cause : Nat) :
    (State.warn s b cause).start = s.start := by unfold State.warn; (try dsimp only); (repeat' split) <;> simp
@[simp] theorem State.warn_cfg (s : State) (b : Nat) (cause : Nat) :
    (State.warn s b cause).cfg = s.cfg := by unfold State.warn; (try dsimp only); (repeat' split) <;> simp
@[simp] theorem State.warn_plat (s : State) (b : Nat) (cause : Nat) :
    (State.warn s b cause).plat = s.plat := by unfold State.warn; (try dsimp only); (repeat' split) <;> simp
@[simp] theorem State.warn_opt (s : State) (b : Nat) (cause : Nat) :
    (State.warn s b cause).opt = s.opt := by unfold State.warn; (try dsimp only); (repeat' split) <;> simp
@[simp] theorem State.warn_fw (s : State) (b : Nat) (cause : Nat) :
    (State.warn s b cause).fw = s.fw := by unfold State.warn; (try dsimp only); (repeat' split) <;> simp
@[simp] theorem State.warn_patches (s : State) (b : Nat) (cause : Nat) :
    (State.warn s b cause).patches = s.patches := by unfold State.warn; (try dsimp only); (repeat' split) <;> simp
@[simp] theorem State.warn_fuses (s : State) (b : Nat) (cause : Nat) :
    (State.warn s b cause).fuses = s.fuses := by unfold State.warn; (try dsimp only); (repeat' split) <;> simp
@[simp] theorem State.warn_nor (s : State) (b : Nat) (cause : Nat) :
    (State.warn s b cause).nor = s.nor := by unfold State.warn; (try dsimp only); (repeat' split) <;> simp
@[simp] theorem State.warn_ident (s : State) (b : Nat) (cause : Nat) :
    (State.warn s b cause).ident = s.ident := by unfold State.warn; (try dsimp only); (repeat' split) <;> simp
@[simp] theorem State.warn_linkA (s : State) (b : Nat) (cause : Nat) :
    (State.warn s b cause).linkA = s.linkA := by unfold State.warn; (try dsimp only); (repeat' split) <;> simp
@[simp] theorem State.warn_linkB (s : State) (b : Nat) (cause : Nat) :
    (State.warn s b cause).linkB = s.linkB := by unfold State.warn; (try dsimp only); (repeat' split) <;> simp
@[simp] theorem State.warn_linkZ (s : State) (b : Nat) (cause : Nat) :
    (State.warn s b cause).linkZ = s.linkZ := by unfold State.warn; (try dsimp only); (repeat' split) <;> simp
@[simp] theorem State.warn_feA (s : State) (b : Nat) (cause : Nat) :
    (State.warn s b cause).feA = s.feA := by unfold State.warn; (try dsimp only); (repeat' split) <;> simp
@[simp] theorem State.warn_feB (s : State) (b : Nat) (cause : Nat) :
    (State.warn s b cause).feB = s.feB := by unfold State.warn; (try dsimp only); (repeat' split) <;> simp
@[simp] theorem State.warn_motion (s : State) (b : Nat) (cause : Nat) :
    (State.warn s b cause).motion = s.motion := by unfold State.warn; (try dsimp only); (repeat' split) <;> simp
@[simp] theorem State.warn_rep (s : State) (b : Nat) (cause : Nat) :
    (State.warn s b cause).rep = s.rep := by unfold State.warn; (try dsimp only); (repeat' split) <;> simp
@[simp] theorem State.warn_spin (s : State) (b : Nat) (cause : Nat) :
    (State.warn s b cause).spin = s.spin := by unfold State.warn; (try dsimp only); (repeat' split) <;> simp
@[simp] theorem State.warn_servoA (s : State) (b : Nat) (cause : Nat) :
    (State.warn s b cause).servoA = s.servoA := by unfold State.warn; (try dsimp only); (repeat' split) <;> simp
@[simp] theorem State.warn_servoB (s : State) (b : Nat) (cause : Nat) :
    (State.warn s b cause).servoB = s.servoB := by unfold State.warn; (try dsimp only); (repeat' split) <;> simp
@[simp] theorem State.warn_tables (s : State) (b : Nat) (cause : Nat) :
    (State.warn s b cause).tables = s.tables := by unfold State.warn; (try dsimp only); (repeat' split) <;> simp
@[simp] theorem State.warn_fsqs (s : State) (b : Nat) (cause : Nat) :
    (State.warn s b cause).fsqs = s.fsqs := by unfold State.warn; (try dsimp only); (repeat' split) <;> simp
@[simp] theorem State.warn_rwcs (s : State) (b : Nat) (cause : Nat) :
    (State.warn s b cause).rwcs = s.rwcs := by unfold State.warn; (try dsimp only); (repeat' split) <;> simp
@[simp] theorem State.warn_media (s : State) (b : Nat) (cause : Nat) :
    (State.warn s b cause).media = s.media := by unfold State.warn; (try dsimp only); (repeat' split) <;> simp
@[simp] theorem State.warn_defects (s : State) (b : Nat) (cause : Nat) :
    (State.warn s b cause).defects = s.defects := by unfold State.warn; (try dsimp only); (repeat' split) <;> simp
@[simp] theorem State.warn_stripe (s : State) (b : Nat) (cause : Nat) :
    (State.warn s b cause).stripe = s.stripe := by unfold State.warn; (try dsimp only); (repeat' split) <;> simp
@[simp] theorem State.warn_chest (s : State) (b : Nat) (cause : Nat) :
    (State.warn s b cause).chest = s.chest := by unfold State.warn; (try dsimp only); (repeat' split) <;> simp
@[simp] theorem State.warn_core (s : State) (b : Nat) (cause : Nat) :
    (State.warn s b cause).core = s.core := by unfold State.warn; (try dsimp only); (repeat' split) <;> simp
@[simp] theorem State.warn_buf (s : State) (b : Nat) (cause : Nat) :
    (State.warn s b cause).buf = s.buf := by unfold State.warn; (try dsimp only); (repeat' split) <;> simp
@[simp] theorem State.warn_dma (s : State) (b : Nat) (cause : Nat) :
    (State.warn s b cause).dma = s.dma := by unfold State.warn; (try dsimp only); (repeat' split) <;> simp
@[simp] theorem State.warn_zmu (s : State) (b : Nat) (cause : Nat) :
    (State.warn s b cause).zmu = s.zmu := by unfold State.warn; (try dsimp only); (repeat' split) <;> simp
@[simp] theorem State.warn_hpt (s : State) (b : Nat) (cause : Nat) :
    (State.warn s b cause).hpt = s.hpt := by unfold State.warn; (try dsimp only); (repeat' split) <;> simp
@[simp] theorem State.warn_power (s : State) (b : Nat) (cause : Nat) :
    (State.warn s b cause).power = s.power := by unfold State.warn; (try dsimp only); (repeat' split) <;> simp
@[simp] theorem State.warn_bur (s : State) (b : Nat) (cause : Nat) :
    (State.warn s b cause).bur = s.bur := by unfold State.warn; (try dsimp only); (repeat' split) <;> simp
@[simp] theorem State.warn_crd (s : State) (b : Nat) (cause : Nat) :
    (State.warn s b cause).crd = s.crd := by unfold State.warn; (try dsimp only); (repeat' split) <;> simp
@[simp] theorem State.warn_tst (s : State) (b : Nat) (cause : Nat) :
    (State.warn s b cause).tst = s.tst := by unfold State.warn; (try dsimp only); (repeat' split) <;> simp
@[simp] theorem State.warn_freeCount (s : State) (b : Nat) (cause : Nat) :
    (State.warn s b cause).freeCount = s.freeCount := by unfold State.warn; (try dsimp only); (repeat' split) <;> simp
@[simp] theorem State.warn_pending (s : State) (b : Nat) (cause : Nat) :
    (State.warn s b cause).pending = s.pending := by unfold State.warn; (try dsimp only); (repeat' split) <;> simp

/-! ### `State.unwarn` -/

@[simp] theorem State.unwarn_pins (s : State) (b : Nat) (cause : Nat) :
    (State.unwarn s b cause).pins = s.pins := by unfold State.unwarn; (try dsimp only); (repeat' split) <;> simp
@[simp] theorem State.unwarn_start (s : State) (b : Nat) (cause : Nat) :
    (State.unwarn s b cause).start = s.start := by unfold State.unwarn; (try dsimp only); (repeat' split) <;> simp
@[simp] theorem State.unwarn_cfg (s : State) (b : Nat) (cause : Nat) :
    (State.unwarn s b cause).cfg = s.cfg := by unfold State.unwarn; (try dsimp only); (repeat' split) <;> simp
@[simp] theorem State.unwarn_plat (s : State) (b : Nat) (cause : Nat) :
    (State.unwarn s b cause).plat = s.plat := by unfold State.unwarn; (try dsimp only); (repeat' split) <;> simp
@[simp] theorem State.unwarn_opt (s : State) (b : Nat) (cause : Nat) :
    (State.unwarn s b cause).opt = s.opt := by unfold State.unwarn; (try dsimp only); (repeat' split) <;> simp
@[simp] theorem State.unwarn_fw (s : State) (b : Nat) (cause : Nat) :
    (State.unwarn s b cause).fw = s.fw := by unfold State.unwarn; (try dsimp only); (repeat' split) <;> simp
@[simp] theorem State.unwarn_patches (s : State) (b : Nat) (cause : Nat) :
    (State.unwarn s b cause).patches = s.patches := by unfold State.unwarn; (try dsimp only); (repeat' split) <;> simp
@[simp] theorem State.unwarn_fuses (s : State) (b : Nat) (cause : Nat) :
    (State.unwarn s b cause).fuses = s.fuses := by unfold State.unwarn; (try dsimp only); (repeat' split) <;> simp
@[simp] theorem State.unwarn_nor (s : State) (b : Nat) (cause : Nat) :
    (State.unwarn s b cause).nor = s.nor := by unfold State.unwarn; (try dsimp only); (repeat' split) <;> simp
@[simp] theorem State.unwarn_ident (s : State) (b : Nat) (cause : Nat) :
    (State.unwarn s b cause).ident = s.ident := by unfold State.unwarn; (try dsimp only); (repeat' split) <;> simp
@[simp] theorem State.unwarn_linkA (s : State) (b : Nat) (cause : Nat) :
    (State.unwarn s b cause).linkA = s.linkA := by unfold State.unwarn; (try dsimp only); (repeat' split) <;> simp
@[simp] theorem State.unwarn_linkB (s : State) (b : Nat) (cause : Nat) :
    (State.unwarn s b cause).linkB = s.linkB := by unfold State.unwarn; (try dsimp only); (repeat' split) <;> simp
@[simp] theorem State.unwarn_linkZ (s : State) (b : Nat) (cause : Nat) :
    (State.unwarn s b cause).linkZ = s.linkZ := by unfold State.unwarn; (try dsimp only); (repeat' split) <;> simp
@[simp] theorem State.unwarn_feA (s : State) (b : Nat) (cause : Nat) :
    (State.unwarn s b cause).feA = s.feA := by unfold State.unwarn; (try dsimp only); (repeat' split) <;> simp
@[simp] theorem State.unwarn_feB (s : State) (b : Nat) (cause : Nat) :
    (State.unwarn s b cause).feB = s.feB := by unfold State.unwarn; (try dsimp only); (repeat' split) <;> simp
@[simp] theorem State.unwarn_motion (s : State) (b : Nat) (cause : Nat) :
    (State.unwarn s b cause).motion = s.motion := by unfold State.unwarn; (try dsimp only); (repeat' split) <;> simp
@[simp] theorem State.unwarn_rep (s : State) (b : Nat) (cause : Nat) :
    (State.unwarn s b cause).rep = s.rep := by unfold State.unwarn; (try dsimp only); (repeat' split) <;> simp
@[simp] theorem State.unwarn_spin (s : State) (b : Nat) (cause : Nat) :
    (State.unwarn s b cause).spin = s.spin := by unfold State.unwarn; (try dsimp only); (repeat' split) <;> simp
@[simp] theorem State.unwarn_servoA (s : State) (b : Nat) (cause : Nat) :
    (State.unwarn s b cause).servoA = s.servoA := by unfold State.unwarn; (try dsimp only); (repeat' split) <;> simp
@[simp] theorem State.unwarn_servoB (s : State) (b : Nat) (cause : Nat) :
    (State.unwarn s b cause).servoB = s.servoB := by unfold State.unwarn; (try dsimp only); (repeat' split) <;> simp
@[simp] theorem State.unwarn_tables (s : State) (b : Nat) (cause : Nat) :
    (State.unwarn s b cause).tables = s.tables := by unfold State.unwarn; (try dsimp only); (repeat' split) <;> simp
@[simp] theorem State.unwarn_fsqs (s : State) (b : Nat) (cause : Nat) :
    (State.unwarn s b cause).fsqs = s.fsqs := by unfold State.unwarn; (try dsimp only); (repeat' split) <;> simp
@[simp] theorem State.unwarn_rwcs (s : State) (b : Nat) (cause : Nat) :
    (State.unwarn s b cause).rwcs = s.rwcs := by unfold State.unwarn; (try dsimp only); (repeat' split) <;> simp
@[simp] theorem State.unwarn_media (s : State) (b : Nat) (cause : Nat) :
    (State.unwarn s b cause).media = s.media := by unfold State.unwarn; (try dsimp only); (repeat' split) <;> simp
@[simp] theorem State.unwarn_defects (s : State) (b : Nat) (cause : Nat) :
    (State.unwarn s b cause).defects = s.defects := by unfold State.unwarn; (try dsimp only); (repeat' split) <;> simp
@[simp] theorem State.unwarn_stripe (s : State) (b : Nat) (cause : Nat) :
    (State.unwarn s b cause).stripe = s.stripe := by unfold State.unwarn; (try dsimp only); (repeat' split) <;> simp
@[simp] theorem State.unwarn_chest (s : State) (b : Nat) (cause : Nat) :
    (State.unwarn s b cause).chest = s.chest := by unfold State.unwarn; (try dsimp only); (repeat' split) <;> simp
@[simp] theorem State.unwarn_core (s : State) (b : Nat) (cause : Nat) :
    (State.unwarn s b cause).core = s.core := by unfold State.unwarn; (try dsimp only); (repeat' split) <;> simp
@[simp] theorem State.unwarn_buf (s : State) (b : Nat) (cause : Nat) :
    (State.unwarn s b cause).buf = s.buf := by unfold State.unwarn; (try dsimp only); (repeat' split) <;> simp
@[simp] theorem State.unwarn_dma (s : State) (b : Nat) (cause : Nat) :
    (State.unwarn s b cause).dma = s.dma := by unfold State.unwarn; (try dsimp only); (repeat' split) <;> simp
@[simp] theorem State.unwarn_zmu (s : State) (b : Nat) (cause : Nat) :
    (State.unwarn s b cause).zmu = s.zmu := by unfold State.unwarn; (try dsimp only); (repeat' split) <;> simp
@[simp] theorem State.unwarn_hpt (s : State) (b : Nat) (cause : Nat) :
    (State.unwarn s b cause).hpt = s.hpt := by unfold State.unwarn; (try dsimp only); (repeat' split) <;> simp
@[simp] theorem State.unwarn_power (s : State) (b : Nat) (cause : Nat) :
    (State.unwarn s b cause).power = s.power := by unfold State.unwarn; (try dsimp only); (repeat' split) <;> simp
@[simp] theorem State.unwarn_bur (s : State) (b : Nat) (cause : Nat) :
    (State.unwarn s b cause).bur = s.bur := by unfold State.unwarn; (try dsimp only); (repeat' split) <;> simp
@[simp] theorem State.unwarn_crd (s : State) (b : Nat) (cause : Nat) :
    (State.unwarn s b cause).crd = s.crd := by unfold State.unwarn; (try dsimp only); (repeat' split) <;> simp
@[simp] theorem State.unwarn_tst (s : State) (b : Nat) (cause : Nat) :
    (State.unwarn s b cause).tst = s.tst := by unfold State.unwarn; (try dsimp only); (repeat' split) <;> simp
@[simp] theorem State.unwarn_freeCount (s : State) (b : Nat) (cause : Nat) :
    (State.unwarn s b cause).freeCount = s.freeCount := by unfold State.unwarn; (try dsimp only); (repeat' split) <;> simp
@[simp] theorem State.unwarn_pending (s : State) (b : Nat) (cause : Nat) :
    (State.unwarn s b cause).pending = s.pending := by unfold State.unwarn; (try dsimp only); (repeat' split) <;> simp

/-! ### `State.saturated` -/

@[simp] theorem State.saturated_pins (s : State) (first : Bool) :
    (State.saturated s first).pins = s.pins := by unfold State.saturated; (try dsimp only); (repeat' split) <;> simp
@[simp] theorem State.saturated_start (s : State) (first : Bool) :
    (State.saturated s first).start = s.start := by unfold State.saturated; (try dsimp only); (repeat' split) <;> simp
@[simp] theorem State.saturated_cfg (s : State) (first : Bool) :
    (State.saturated s first).cfg = s.cfg := by unfold State.saturated; (try dsimp only); (repeat' split) <;> simp
@[simp] theorem State.saturated_plat (s : State) (first : Bool) :
    (State.saturated s first).plat = s.plat := by unfold State.saturated; (try dsimp only); (repeat' split) <;> simp
@[simp] theorem State.saturated_opt (s : State) (first : Bool) :
    (State.saturated s first).opt = s.opt := by unfold State.saturated; (try dsimp only); (repeat' split) <;> simp
@[simp] theorem State.saturated_fw (s : State) (first : Bool) :
    (State.saturated s first).fw = s.fw := by unfold State.saturated; (try dsimp only); (repeat' split) <;> simp
@[simp] theorem State.saturated_patches (s : State) (first : Bool) :
    (State.saturated s first).patches = s.patches := by unfold State.saturated; (try dsimp only); (repeat' split) <;> simp
@[simp] theorem State.saturated_fuses (s : State) (first : Bool) :
    (State.saturated s first).fuses = s.fuses := by unfold State.saturated; (try dsimp only); (repeat' split) <;> simp
@[simp] theorem State.saturated_nor (s : State) (first : Bool) :
    (State.saturated s first).nor = s.nor := by unfold State.saturated; (try dsimp only); (repeat' split) <;> simp
@[simp] theorem State.saturated_ident (s : State) (first : Bool) :
    (State.saturated s first).ident = s.ident := by unfold State.saturated; (try dsimp only); (repeat' split) <;> simp
@[simp] theorem State.saturated_linkA (s : State) (first : Bool) :
    (State.saturated s first).linkA = s.linkA := by unfold State.saturated; (try dsimp only); (repeat' split) <;> simp
@[simp] theorem State.saturated_linkB (s : State) (first : Bool) :
    (State.saturated s first).linkB = s.linkB := by unfold State.saturated; (try dsimp only); (repeat' split) <;> simp
@[simp] theorem State.saturated_linkZ (s : State) (first : Bool) :
    (State.saturated s first).linkZ = s.linkZ := by unfold State.saturated; (try dsimp only); (repeat' split) <;> simp
@[simp] theorem State.saturated_feA (s : State) (first : Bool) :
    (State.saturated s first).feA = s.feA := by unfold State.saturated; (try dsimp only); (repeat' split) <;> simp
@[simp] theorem State.saturated_feB (s : State) (first : Bool) :
    (State.saturated s first).feB = s.feB := by unfold State.saturated; (try dsimp only); (repeat' split) <;> simp
@[simp] theorem State.saturated_motion (s : State) (first : Bool) :
    (State.saturated s first).motion = s.motion := by unfold State.saturated; (try dsimp only); (repeat' split) <;> simp
@[simp] theorem State.saturated_rep (s : State) (first : Bool) :
    (State.saturated s first).rep = s.rep := by unfold State.saturated; (try dsimp only); (repeat' split) <;> simp
@[simp] theorem State.saturated_spin (s : State) (first : Bool) :
    (State.saturated s first).spin = s.spin := by unfold State.saturated; (try dsimp only); (repeat' split) <;> simp
@[simp] theorem State.saturated_servoA (s : State) (first : Bool) :
    (State.saturated s first).servoA = s.servoA := by unfold State.saturated; (try dsimp only); (repeat' split) <;> simp
@[simp] theorem State.saturated_servoB (s : State) (first : Bool) :
    (State.saturated s first).servoB = s.servoB := by unfold State.saturated; (try dsimp only); (repeat' split) <;> simp
@[simp] theorem State.saturated_tables (s : State) (first : Bool) :
    (State.saturated s first).tables = s.tables := by unfold State.saturated; (try dsimp only); (repeat' split) <;> simp
@[simp] theorem State.saturated_fsqs (s : State) (first : Bool) :
    (State.saturated s first).fsqs = s.fsqs := by unfold State.saturated; (try dsimp only); (repeat' split) <;> simp
@[simp] theorem State.saturated_rwcs (s : State) (first : Bool) :
    (State.saturated s first).rwcs = s.rwcs := by unfold State.saturated; (try dsimp only); (repeat' split) <;> simp
@[simp] theorem State.saturated_media (s : State) (first : Bool) :
    (State.saturated s first).media = s.media := by unfold State.saturated; (try dsimp only); (repeat' split) <;> simp
@[simp] theorem State.saturated_defects (s : State) (first : Bool) :
    (State.saturated s first).defects = s.defects := by unfold State.saturated; (try dsimp only); (repeat' split) <;> simp
@[simp] theorem State.saturated_stripe (s : State) (first : Bool) :
    (State.saturated s first).stripe = s.stripe := by unfold State.saturated; (try dsimp only); (repeat' split) <;> simp
@[simp] theorem State.saturated_chest (s : State) (first : Bool) :
    (State.saturated s first).chest = s.chest := by unfold State.saturated; (try dsimp only); (repeat' split) <;> simp
@[simp] theorem State.saturated_core (s : State) (first : Bool) :
    (State.saturated s first).core = s.core := by unfold State.saturated; (try dsimp only); (repeat' split) <;> simp
@[simp] theorem State.saturated_buf (s : State) (first : Bool) :
    (State.saturated s first).buf = s.buf := by unfold State.saturated; (try dsimp only); (repeat' split) <;> simp
@[simp] theorem State.saturated_dma (s : State) (first : Bool) :
    (State.saturated s first).dma = s.dma := by unfold State.saturated; (try dsimp only); (repeat' split) <;> simp
@[simp] theorem State.saturated_zmu (s : State) (first : Bool) :
    (State.saturated s first).zmu = s.zmu := by unfold State.saturated; (try dsimp only); (repeat' split) <;> simp
@[simp] theorem State.saturated_hpt (s : State) (first : Bool) :
    (State.saturated s first).hpt = s.hpt := by unfold State.saturated; (try dsimp only); (repeat' split) <;> simp
@[simp] theorem State.saturated_power (s : State) (first : Bool) :
    (State.saturated s first).power = s.power := by unfold State.saturated; (try dsimp only); (repeat' split) <;> simp
@[simp] theorem State.saturated_bur (s : State) (first : Bool) :
    (State.saturated s first).bur = s.bur := by unfold State.saturated; (try dsimp only); (repeat' split) <;> simp
@[simp] theorem State.saturated_crd (s : State) (first : Bool) :
    (State.saturated s first).crd = s.crd := by unfold State.saturated; (try dsimp only); (repeat' split) <;> simp
@[simp] theorem State.saturated_tst (s : State) (first : Bool) :
    (State.saturated s first).tst = s.tst := by unfold State.saturated; (try dsimp only); (repeat' split) <;> simp
@[simp] theorem State.saturated_freeCount (s : State) (first : Bool) :
    (State.saturated s first).freeCount = s.freeCount := by unfold State.saturated; (try dsimp only); (repeat' split) <;> simp
@[simp] theorem State.saturated_pending (s : State) (first : Bool) :
    (State.saturated s first).pending = s.pending := by unfold State.saturated; (try dsimp only); (repeat' split) <;> simp

/-! ### `State.count` -/

@[simp] theorem State.count_pins (s : State) (id : Nat) (inst : Nat) (n : Nat) :
    (State.count s id inst n).pins = s.pins := by unfold State.count; simp
@[simp] theorem State.count_start (s : State) (id : Nat) (inst : Nat) (n : Nat) :
    (State.count s id inst n).start = s.start := by unfold State.count; simp
@[simp] theorem State.count_cfg (s : State) (id : Nat) (inst : Nat) (n : Nat) :
    (State.count s id inst n).cfg = s.cfg := by unfold State.count; simp
@[simp] theorem State.count_plat (s : State) (id : Nat) (inst : Nat) (n : Nat) :
    (State.count s id inst n).plat = s.plat := by unfold State.count; simp
@[simp] theorem State.count_opt (s : State) (id : Nat) (inst : Nat) (n : Nat) :
    (State.count s id inst n).opt = s.opt := by unfold State.count; simp
@[simp] theorem State.count_fw (s : State) (id : Nat) (inst : Nat) (n : Nat) :
    (State.count s id inst n).fw = s.fw := by unfold State.count; simp
@[simp] theorem State.count_patches (s : State) (id : Nat) (inst : Nat) (n : Nat) :
    (State.count s id inst n).patches = s.patches := by unfold State.count; simp
@[simp] theorem State.count_fuses (s : State) (id : Nat) (inst : Nat) (n : Nat) :
    (State.count s id inst n).fuses = s.fuses := by unfold State.count; simp
@[simp] theorem State.count_nor (s : State) (id : Nat) (inst : Nat) (n : Nat) :
    (State.count s id inst n).nor = s.nor := by unfold State.count; simp
@[simp] theorem State.count_ident (s : State) (id : Nat) (inst : Nat) (n : Nat) :
    (State.count s id inst n).ident = s.ident := by unfold State.count; simp
@[simp] theorem State.count_linkA (s : State) (id : Nat) (inst : Nat) (n : Nat) :
    (State.count s id inst n).linkA = s.linkA := by unfold State.count; simp
@[simp] theorem State.count_linkB (s : State) (id : Nat) (inst : Nat) (n : Nat) :
    (State.count s id inst n).linkB = s.linkB := by unfold State.count; simp
@[simp] theorem State.count_linkZ (s : State) (id : Nat) (inst : Nat) (n : Nat) :
    (State.count s id inst n).linkZ = s.linkZ := by unfold State.count; simp
@[simp] theorem State.count_feA (s : State) (id : Nat) (inst : Nat) (n : Nat) :
    (State.count s id inst n).feA = s.feA := by unfold State.count; simp
@[simp] theorem State.count_feB (s : State) (id : Nat) (inst : Nat) (n : Nat) :
    (State.count s id inst n).feB = s.feB := by unfold State.count; simp
@[simp] theorem State.count_motion (s : State) (id : Nat) (inst : Nat) (n : Nat) :
    (State.count s id inst n).motion = s.motion := by unfold State.count; simp
@[simp] theorem State.count_rep (s : State) (id : Nat) (inst : Nat) (n : Nat) :
    (State.count s id inst n).rep = s.rep := by unfold State.count; simp
@[simp] theorem State.count_spin (s : State) (id : Nat) (inst : Nat) (n : Nat) :
    (State.count s id inst n).spin = s.spin := by unfold State.count; simp
@[simp] theorem State.count_servoA (s : State) (id : Nat) (inst : Nat) (n : Nat) :
    (State.count s id inst n).servoA = s.servoA := by unfold State.count; simp
@[simp] theorem State.count_servoB (s : State) (id : Nat) (inst : Nat) (n : Nat) :
    (State.count s id inst n).servoB = s.servoB := by unfold State.count; simp
@[simp] theorem State.count_tables (s : State) (id : Nat) (inst : Nat) (n : Nat) :
    (State.count s id inst n).tables = s.tables := by unfold State.count; simp
@[simp] theorem State.count_fsqs (s : State) (id : Nat) (inst : Nat) (n : Nat) :
    (State.count s id inst n).fsqs = s.fsqs := by unfold State.count; simp
@[simp] theorem State.count_rwcs (s : State) (id : Nat) (inst : Nat) (n : Nat) :
    (State.count s id inst n).rwcs = s.rwcs := by unfold State.count; simp
@[simp] theorem State.count_media (s : State) (id : Nat) (inst : Nat) (n : Nat) :
    (State.count s id inst n).media = s.media := by unfold State.count; simp
@[simp] theorem State.count_defects (s : State) (id : Nat) (inst : Nat) (n : Nat) :
    (State.count s id inst n).defects = s.defects := by unfold State.count; simp
@[simp] theorem State.count_stripe (s : State) (id : Nat) (inst : Nat) (n : Nat) :
    (State.count s id inst n).stripe = s.stripe := by unfold State.count; simp
@[simp] theorem State.count_chest (s : State) (id : Nat) (inst : Nat) (n : Nat) :
    (State.count s id inst n).chest = s.chest := by unfold State.count; simp
@[simp] theorem State.count_core (s : State) (id : Nat) (inst : Nat) (n : Nat) :
    (State.count s id inst n).core = s.core := by unfold State.count; simp
@[simp] theorem State.count_buf (s : State) (id : Nat) (inst : Nat) (n : Nat) :
    (State.count s id inst n).buf = s.buf := by unfold State.count; simp
@[simp] theorem State.count_dma (s : State) (id : Nat) (inst : Nat) (n : Nat) :
    (State.count s id inst n).dma = s.dma := by unfold State.count; simp
@[simp] theorem State.count_zmu (s : State) (id : Nat) (inst : Nat) (n : Nat) :
    (State.count s id inst n).zmu = s.zmu := by unfold State.count; simp
@[simp] theorem State.count_hpt (s : State) (id : Nat) (inst : Nat) (n : Nat) :
    (State.count s id inst n).hpt = s.hpt := by unfold State.count; simp
@[simp] theorem State.count_power (s : State) (id : Nat) (inst : Nat) (n : Nat) :
    (State.count s id inst n).power = s.power := by unfold State.count; simp
@[simp] theorem State.count_bur (s : State) (id : Nat) (inst : Nat) (n : Nat) :
    (State.count s id inst n).bur = s.bur := by unfold State.count; simp
@[simp] theorem State.count_tst (s : State) (id : Nat) (inst : Nat) (n : Nat) :
    (State.count s id inst n).tst = s.tst := by unfold State.count; simp
@[simp] theorem State.count_freeCount (s : State) (id : Nat) (inst : Nat) (n : Nat) :
    (State.count s id inst n).freeCount = s.freeCount := by unfold State.count; simp
@[simp] theorem State.count_pending (s : State) (id : Nat) (inst : Nat) (n : Nat) :
    (State.count s id inst n).pending = s.pending := by unfold State.count; simp

/-! ### `State.bin` -/

@[simp] theorem State.bin_pins (s : State) (hid : Nat) (inst : Nat) (b : Nat) :
    (State.bin s hid inst b).pins = s.pins := by unfold State.bin; simp
@[simp] theorem State.bin_start (s : State) (hid : Nat) (inst : Nat) (b : Nat) :
    (State.bin s hid inst b).start = s.start := by unfold State.bin; simp
@[simp] theorem State.bin_cfg (s : State) (hid : Nat) (inst : Nat) (b : Nat) :
    (State.bin s hid inst b).cfg = s.cfg := by unfold State.bin; simp
@[simp] theorem State.bin_plat (s : State) (hid : Nat) (inst : Nat) (b : Nat) :
    (State.bin s hid inst b).plat = s.plat := by unfold State.bin; simp
@[simp] theorem State.bin_opt (s : State) (hid : Nat) (inst : Nat) (b : Nat) :
    (State.bin s hid inst b).opt = s.opt := by unfold State.bin; simp
@[simp] theorem State.bin_fw (s : State) (hid : Nat) (inst : Nat) (b : Nat) :
    (State.bin s hid inst b).fw = s.fw := by unfold State.bin; simp
@[simp] theorem State.bin_patches (s : State) (hid : Nat) (inst : Nat) (b : Nat) :
    (State.bin s hid inst b).patches = s.patches := by unfold State.bin; simp
@[simp] theorem State.bin_fuses (s : State) (hid : Nat) (inst : Nat) (b : Nat) :
    (State.bin s hid inst b).fuses = s.fuses := by unfold State.bin; simp
@[simp] theorem State.bin_nor (s : State) (hid : Nat) (inst : Nat) (b : Nat) :
    (State.bin s hid inst b).nor = s.nor := by unfold State.bin; simp
@[simp] theorem State.bin_ident (s : State) (hid : Nat) (inst : Nat) (b : Nat) :
    (State.bin s hid inst b).ident = s.ident := by unfold State.bin; simp
@[simp] theorem State.bin_linkA (s : State) (hid : Nat) (inst : Nat) (b : Nat) :
    (State.bin s hid inst b).linkA = s.linkA := by unfold State.bin; simp
@[simp] theorem State.bin_linkB (s : State) (hid : Nat) (inst : Nat) (b : Nat) :
    (State.bin s hid inst b).linkB = s.linkB := by unfold State.bin; simp
@[simp] theorem State.bin_linkZ (s : State) (hid : Nat) (inst : Nat) (b : Nat) :
    (State.bin s hid inst b).linkZ = s.linkZ := by unfold State.bin; simp
@[simp] theorem State.bin_feA (s : State) (hid : Nat) (inst : Nat) (b : Nat) :
    (State.bin s hid inst b).feA = s.feA := by unfold State.bin; simp
@[simp] theorem State.bin_feB (s : State) (hid : Nat) (inst : Nat) (b : Nat) :
    (State.bin s hid inst b).feB = s.feB := by unfold State.bin; simp
@[simp] theorem State.bin_motion (s : State) (hid : Nat) (inst : Nat) (b : Nat) :
    (State.bin s hid inst b).motion = s.motion := by unfold State.bin; simp
@[simp] theorem State.bin_rep (s : State) (hid : Nat) (inst : Nat) (b : Nat) :
    (State.bin s hid inst b).rep = s.rep := by unfold State.bin; simp
@[simp] theorem State.bin_spin (s : State) (hid : Nat) (inst : Nat) (b : Nat) :
    (State.bin s hid inst b).spin = s.spin := by unfold State.bin; simp
@[simp] theorem State.bin_servoA (s : State) (hid : Nat) (inst : Nat) (b : Nat) :
    (State.bin s hid inst b).servoA = s.servoA := by unfold State.bin; simp
@[simp] theorem State.bin_servoB (s : State) (hid : Nat) (inst : Nat) (b : Nat) :
    (State.bin s hid inst b).servoB = s.servoB := by unfold State.bin; simp
@[simp] theorem State.bin_tables (s : State) (hid : Nat) (inst : Nat) (b : Nat) :
    (State.bin s hid inst b).tables = s.tables := by unfold State.bin; simp
@[simp] theorem State.bin_fsqs (s : State) (hid : Nat) (inst : Nat) (b : Nat) :
    (State.bin s hid inst b).fsqs = s.fsqs := by unfold State.bin; simp
@[simp] theorem State.bin_rwcs (s : State) (hid : Nat) (inst : Nat) (b : Nat) :
    (State.bin s hid inst b).rwcs = s.rwcs := by unfold State.bin; simp
@[simp] theorem State.bin_media (s : State) (hid : Nat) (inst : Nat) (b : Nat) :
    (State.bin s hid inst b).media = s.media := by unfold State.bin; simp
@[simp] theorem State.bin_defects (s : State) (hid : Nat) (inst : Nat) (b : Nat) :
    (State.bin s hid inst b).defects = s.defects := by unfold State.bin; simp
@[simp] theorem State.bin_stripe (s : State) (hid : Nat) (inst : Nat) (b : Nat) :
    (State.bin s hid inst b).stripe = s.stripe := by unfold State.bin; simp
@[simp] theorem State.bin_chest (s : State) (hid : Nat) (inst : Nat) (b : Nat) :
    (State.bin s hid inst b).chest = s.chest := by unfold State.bin; simp
@[simp] theorem State.bin_core (s : State) (hid : Nat) (inst : Nat) (b : Nat) :
    (State.bin s hid inst b).core = s.core := by unfold State.bin; simp
@[simp] theorem State.bin_buf (s : State) (hid : Nat) (inst : Nat) (b : Nat) :
    (State.bin s hid inst b).buf = s.buf := by unfold State.bin; simp
@[simp] theorem State.bin_dma (s : State) (hid : Nat) (inst : Nat) (b : Nat) :
    (State.bin s hid inst b).dma = s.dma := by unfold State.bin; simp
@[simp] theorem State.bin_zmu (s : State) (hid : Nat) (inst : Nat) (b : Nat) :
    (State.bin s hid inst b).zmu = s.zmu := by unfold State.bin; simp
@[simp] theorem State.bin_hpt (s : State) (hid : Nat) (inst : Nat) (b : Nat) :
    (State.bin s hid inst b).hpt = s.hpt := by unfold State.bin; simp
@[simp] theorem State.bin_power (s : State) (hid : Nat) (inst : Nat) (b : Nat) :
    (State.bin s hid inst b).power = s.power := by unfold State.bin; simp
@[simp] theorem State.bin_bur (s : State) (hid : Nat) (inst : Nat) (b : Nat) :
    (State.bin s hid inst b).bur = s.bur := by unfold State.bin; simp
@[simp] theorem State.bin_tst (s : State) (hid : Nat) (inst : Nat) (b : Nat) :
    (State.bin s hid inst b).tst = s.tst := by unfold State.bin; simp
@[simp] theorem State.bin_freeCount (s : State) (hid : Nat) (inst : Nat) (b : Nat) :
    (State.bin s hid inst b).freeCount = s.freeCount := by unfold State.bin; simp
@[simp] theorem State.bin_pending (s : State) (hid : Nat) (inst : Nat) (b : Nat) :
    (State.bin s hid inst b).pending = s.pending := by unfold State.bin; simp

/-! ### `State.bootCode` -/

@[simp] theorem State.bootCode_pins (s : State) (sev : Nat) (code : Nat) (unit : Nat) :
    (State.bootCode s sev code unit).pins = s.pins := by unfold State.bootCode; (try dsimp only); (repeat' split) <;> simp
@[simp] theorem State.bootCode_cfg (s : State) (sev : Nat) (code : Nat) (unit : Nat) :
    (State.bootCode s sev code unit).cfg = s.cfg := by unfold State.bootCode; (try dsimp only); (repeat' split) <;> simp
@[simp] theorem State.bootCode_plat (s : State) (sev : Nat) (code : Nat) (unit : Nat) :
    (State.bootCode s sev code unit).plat = s.plat := by unfold State.bootCode; (try dsimp only); (repeat' split) <;> simp
@[simp] theorem State.bootCode_opt (s : State) (sev : Nat) (code : Nat) (unit : Nat) :
    (State.bootCode s sev code unit).opt = s.opt := by unfold State.bootCode; (try dsimp only); (repeat' split) <;> simp
@[simp] theorem State.bootCode_fw (s : State) (sev : Nat) (code : Nat) (unit : Nat) :
    (State.bootCode s sev code unit).fw = s.fw := by unfold State.bootCode; (try dsimp only); (repeat' split) <;> simp
@[simp] theorem State.bootCode_patches (s : State) (sev : Nat) (code : Nat) (unit : Nat) :
    (State.bootCode s sev code unit).patches = s.patches := by unfold State.bootCode; (try dsimp only); (repeat' split) <;> simp
@[simp] theorem State.bootCode_fuses (s : State) (sev : Nat) (code : Nat) (unit : Nat) :
    (State.bootCode s sev code unit).fuses = s.fuses := by unfold State.bootCode; (try dsimp only); (repeat' split) <;> simp
@[simp] theorem State.bootCode_nor (s : State) (sev : Nat) (code : Nat) (unit : Nat) :
    (State.bootCode s sev code unit).nor = s.nor := by unfold State.bootCode; (try dsimp only); (repeat' split) <;> simp
@[simp] theorem State.bootCode_ident (s : State) (sev : Nat) (code : Nat) (unit : Nat) :
    (State.bootCode s sev code unit).ident = s.ident := by unfold State.bootCode; (try dsimp only); (repeat' split) <;> simp
@[simp] theorem State.bootCode_linkA (s : State) (sev : Nat) (code : Nat) (unit : Nat) :
    (State.bootCode s sev code unit).linkA = s.linkA := by unfold State.bootCode; (try dsimp only); (repeat' split) <;> simp
@[simp] theorem State.bootCode_linkB (s : State) (sev : Nat) (code : Nat) (unit : Nat) :
    (State.bootCode s sev code unit).linkB = s.linkB := by unfold State.bootCode; (try dsimp only); (repeat' split) <;> simp
@[simp] theorem State.bootCode_linkZ (s : State) (sev : Nat) (code : Nat) (unit : Nat) :
    (State.bootCode s sev code unit).linkZ = s.linkZ := by unfold State.bootCode; (try dsimp only); (repeat' split) <;> simp
@[simp] theorem State.bootCode_feA (s : State) (sev : Nat) (code : Nat) (unit : Nat) :
    (State.bootCode s sev code unit).feA = s.feA := by unfold State.bootCode; (try dsimp only); (repeat' split) <;> simp
@[simp] theorem State.bootCode_feB (s : State) (sev : Nat) (code : Nat) (unit : Nat) :
    (State.bootCode s sev code unit).feB = s.feB := by unfold State.bootCode; (try dsimp only); (repeat' split) <;> simp
@[simp] theorem State.bootCode_motion (s : State) (sev : Nat) (code : Nat) (unit : Nat) :
    (State.bootCode s sev code unit).motion = s.motion := by unfold State.bootCode; (try dsimp only); (repeat' split) <;> simp
@[simp] theorem State.bootCode_rep (s : State) (sev : Nat) (code : Nat) (unit : Nat) :
    (State.bootCode s sev code unit).rep = s.rep := by unfold State.bootCode; (try dsimp only); (repeat' split) <;> simp
@[simp] theorem State.bootCode_spin (s : State) (sev : Nat) (code : Nat) (unit : Nat) :
    (State.bootCode s sev code unit).spin = s.spin := by unfold State.bootCode; (try dsimp only); (repeat' split) <;> simp
@[simp] theorem State.bootCode_servoA (s : State) (sev : Nat) (code : Nat) (unit : Nat) :
    (State.bootCode s sev code unit).servoA = s.servoA := by unfold State.bootCode; (try dsimp only); (repeat' split) <;> simp
@[simp] theorem State.bootCode_servoB (s : State) (sev : Nat) (code : Nat) (unit : Nat) :
    (State.bootCode s sev code unit).servoB = s.servoB := by unfold State.bootCode; (try dsimp only); (repeat' split) <;> simp
@[simp] theorem State.bootCode_tables (s : State) (sev : Nat) (code : Nat) (unit : Nat) :
    (State.bootCode s sev code unit).tables = s.tables := by unfold State.bootCode; (try dsimp only); (repeat' split) <;> simp
@[simp] theorem State.bootCode_fsqs (s : State) (sev : Nat) (code : Nat) (unit : Nat) :
    (State.bootCode s sev code unit).fsqs = s.fsqs := by unfold State.bootCode; (try dsimp only); (repeat' split) <;> simp
@[simp] theorem State.bootCode_rwcs (s : State) (sev : Nat) (code : Nat) (unit : Nat) :
    (State.bootCode s sev code unit).rwcs = s.rwcs := by unfold State.bootCode; (try dsimp only); (repeat' split) <;> simp
@[simp] theorem State.bootCode_media (s : State) (sev : Nat) (code : Nat) (unit : Nat) :
    (State.bootCode s sev code unit).media = s.media := by unfold State.bootCode; (try dsimp only); (repeat' split) <;> simp
@[simp] theorem State.bootCode_defects (s : State) (sev : Nat) (code : Nat) (unit : Nat) :
    (State.bootCode s sev code unit).defects = s.defects := by unfold State.bootCode; (try dsimp only); (repeat' split) <;> simp
@[simp] theorem State.bootCode_stripe (s : State) (sev : Nat) (code : Nat) (unit : Nat) :
    (State.bootCode s sev code unit).stripe = s.stripe := by unfold State.bootCode; (try dsimp only); (repeat' split) <;> simp
@[simp] theorem State.bootCode_chest (s : State) (sev : Nat) (code : Nat) (unit : Nat) :
    (State.bootCode s sev code unit).chest = s.chest := by unfold State.bootCode; (try dsimp only); (repeat' split) <;> simp
@[simp] theorem State.bootCode_core (s : State) (sev : Nat) (code : Nat) (unit : Nat) :
    (State.bootCode s sev code unit).core = s.core := by unfold State.bootCode; (try dsimp only); (repeat' split) <;> simp
@[simp] theorem State.bootCode_buf (s : State) (sev : Nat) (code : Nat) (unit : Nat) :
    (State.bootCode s sev code unit).buf = s.buf := by unfold State.bootCode; (try dsimp only); (repeat' split) <;> simp
@[simp] theorem State.bootCode_dma (s : State) (sev : Nat) (code : Nat) (unit : Nat) :
    (State.bootCode s sev code unit).dma = s.dma := by unfold State.bootCode; (try dsimp only); (repeat' split) <;> simp
@[simp] theorem State.bootCode_zmu (s : State) (sev : Nat) (code : Nat) (unit : Nat) :
    (State.bootCode s sev code unit).zmu = s.zmu := by unfold State.bootCode; (try dsimp only); (repeat' split) <;> simp
@[simp] theorem State.bootCode_cqu (s : State) (sev : Nat) (code : Nat) (unit : Nat) :
    (State.bootCode s sev code unit).cqu = s.cqu := by unfold State.bootCode; (try dsimp only); (repeat' split) <;> simp
@[simp] theorem State.bootCode_hpt (s : State) (sev : Nat) (code : Nat) (unit : Nat) :
    (State.bootCode s sev code unit).hpt = s.hpt := by unfold State.bootCode; (try dsimp only); (repeat' split) <;> simp
@[simp] theorem State.bootCode_power (s : State) (sev : Nat) (code : Nat) (unit : Nat) :
    (State.bootCode s sev code unit).power = s.power := by unfold State.bootCode; (try dsimp only); (repeat' split) <;> simp
@[simp] theorem State.bootCode_bur (s : State) (sev : Nat) (code : Nat) (unit : Nat) :
    (State.bootCode s sev code unit).bur = s.bur := by unfold State.bootCode; (try dsimp only); (repeat' split) <;> simp
@[simp] theorem State.bootCode_crd (s : State) (sev : Nat) (code : Nat) (unit : Nat) :
    (State.bootCode s sev code unit).crd = s.crd := by unfold State.bootCode; (try dsimp only); (repeat' split) <;> simp
@[simp] theorem State.bootCode_tst (s : State) (sev : Nat) (code : Nat) (unit : Nat) :
    (State.bootCode s sev code unit).tst = s.tst := by unfold State.bootCode; (try dsimp only); (repeat' split) <;> simp
@[simp] theorem State.bootCode_freeCount (s : State) (sev : Nat) (code : Nat) (unit : Nat) :
    (State.bootCode s sev code unit).freeCount = s.freeCount :=
  by unfold State.bootCode; (try dsimp only); (repeat' split) <;> simp
@[simp] theorem State.bootCode_pending (s : State) (sev : Nat) (code : Nat) (unit : Nat) :
    (State.bootCode s sev code unit).pending = s.pending := by unfold State.bootCode; (try dsimp only); (repeat' split) <;> simp

/-! ### `State.halt` -/

@[simp] theorem State.halt_pins (s : State) (code : Nat) (unit : Nat) :
    (State.halt s code unit).pins = s.pins := by unfold State.halt; simp
@[simp] theorem State.halt_cfg (s : State) (code : Nat) (unit : Nat) :
    (State.halt s code unit).cfg = s.cfg := by unfold State.halt; simp
@[simp] theorem State.halt_plat (s : State) (code : Nat) (unit : Nat) :
    (State.halt s code unit).plat = s.plat := by unfold State.halt; simp
@[simp] theorem State.halt_opt (s : State) (code : Nat) (unit : Nat) :
    (State.halt s code unit).opt = s.opt := by unfold State.halt; simp
@[simp] theorem State.halt_fw (s : State) (code : Nat) (unit : Nat) :
    (State.halt s code unit).fw = s.fw := by unfold State.halt; simp
@[simp] theorem State.halt_patches (s : State) (code : Nat) (unit : Nat) :
    (State.halt s code unit).patches = s.patches := by unfold State.halt; simp
@[simp] theorem State.halt_fuses (s : State) (code : Nat) (unit : Nat) :
    (State.halt s code unit).fuses = s.fuses := by unfold State.halt; simp
@[simp] theorem State.halt_nor (s : State) (code : Nat) (unit : Nat) :
    (State.halt s code unit).nor = s.nor := by unfold State.halt; simp
@[simp] theorem State.halt_ident (s : State) (code : Nat) (unit : Nat) :
    (State.halt s code unit).ident = s.ident := by unfold State.halt; simp
@[simp] theorem State.halt_linkA (s : State) (code : Nat) (unit : Nat) :
    (State.halt s code unit).linkA = s.linkA := by unfold State.halt; simp
@[simp] theorem State.halt_linkB (s : State) (code : Nat) (unit : Nat) :
    (State.halt s code unit).linkB = s.linkB := by unfold State.halt; simp
@[simp] theorem State.halt_linkZ (s : State) (code : Nat) (unit : Nat) :
    (State.halt s code unit).linkZ = s.linkZ := by unfold State.halt; simp
@[simp] theorem State.halt_feA (s : State) (code : Nat) (unit : Nat) :
    (State.halt s code unit).feA = s.feA := by unfold State.halt; simp
@[simp] theorem State.halt_feB (s : State) (code : Nat) (unit : Nat) :
    (State.halt s code unit).feB = s.feB := by unfold State.halt; simp
@[simp] theorem State.halt_motion (s : State) (code : Nat) (unit : Nat) :
    (State.halt s code unit).motion = s.motion := by unfold State.halt; simp
@[simp] theorem State.halt_rep (s : State) (code : Nat) (unit : Nat) :
    (State.halt s code unit).rep = s.rep := by unfold State.halt; simp
@[simp] theorem State.halt_spin (s : State) (code : Nat) (unit : Nat) :
    (State.halt s code unit).spin = s.spin := by unfold State.halt; simp
@[simp] theorem State.halt_servoA (s : State) (code : Nat) (unit : Nat) :
    (State.halt s code unit).servoA = s.servoA := by unfold State.halt; simp
@[simp] theorem State.halt_servoB (s : State) (code : Nat) (unit : Nat) :
    (State.halt s code unit).servoB = s.servoB := by unfold State.halt; simp
@[simp] theorem State.halt_tables (s : State) (code : Nat) (unit : Nat) :
    (State.halt s code unit).tables = s.tables := by unfold State.halt; simp
@[simp] theorem State.halt_fsqs (s : State) (code : Nat) (unit : Nat) :
    (State.halt s code unit).fsqs = s.fsqs := by unfold State.halt; simp
@[simp] theorem State.halt_rwcs (s : State) (code : Nat) (unit : Nat) :
    (State.halt s code unit).rwcs = s.rwcs := by unfold State.halt; simp
@[simp] theorem State.halt_media (s : State) (code : Nat) (unit : Nat) :
    (State.halt s code unit).media = s.media := by unfold State.halt; simp
@[simp] theorem State.halt_defects (s : State) (code : Nat) (unit : Nat) :
    (State.halt s code unit).defects = s.defects := by unfold State.halt; simp
@[simp] theorem State.halt_stripe (s : State) (code : Nat) (unit : Nat) :
    (State.halt s code unit).stripe = s.stripe := by unfold State.halt; simp
@[simp] theorem State.halt_chest (s : State) (code : Nat) (unit : Nat) :
    (State.halt s code unit).chest = s.chest := by unfold State.halt; simp
@[simp] theorem State.halt_core (s : State) (code : Nat) (unit : Nat) :
    (State.halt s code unit).core = s.core := by unfold State.halt; simp
@[simp] theorem State.halt_buf (s : State) (code : Nat) (unit : Nat) :
    (State.halt s code unit).buf = s.buf := by unfold State.halt; simp
@[simp] theorem State.halt_dma (s : State) (code : Nat) (unit : Nat) :
    (State.halt s code unit).dma = s.dma := by unfold State.halt; simp
@[simp] theorem State.halt_zmu (s : State) (code : Nat) (unit : Nat) :
    (State.halt s code unit).zmu = s.zmu := by unfold State.halt; simp
@[simp] theorem State.halt_hpt (s : State) (code : Nat) (unit : Nat) :
    (State.halt s code unit).hpt = s.hpt := by unfold State.halt; simp
@[simp] theorem State.halt_power (s : State) (code : Nat) (unit : Nat) :
    (State.halt s code unit).power = s.power := by unfold State.halt; simp
@[simp] theorem State.halt_bur (s : State) (code : Nat) (unit : Nat) :
    (State.halt s code unit).bur = s.bur := by unfold State.halt; simp
@[simp] theorem State.halt_crd (s : State) (code : Nat) (unit : Nat) :
    (State.halt s code unit).crd = s.crd := by unfold State.halt; simp
@[simp] theorem State.halt_tst (s : State) (code : Nat) (unit : Nat) :
    (State.halt s code unit).tst = s.tst := by unfold State.halt; simp
@[simp] theorem State.halt_freeCount (s : State) (code : Nat) (unit : Nat) :
    (State.halt s code unit).freeCount = s.freeCount := by unfold State.halt; simp
@[simp] theorem State.halt_pending (s : State) (code : Nat) (unit : Nat) :
    (State.halt s code unit).pending = s.pending := by unfold State.halt; simp

/-! ### `State.hold` -/

@[simp] theorem State.hold_pins (s : State) (code : Nat) (unit : Nat) :
    (State.hold s code unit).pins = s.pins := by unfold State.hold; simp
@[simp] theorem State.hold_cfg (s : State) (code : Nat) (unit : Nat) :
    (State.hold s code unit).cfg = s.cfg := by unfold State.hold; simp
@[simp] theorem State.hold_plat (s : State) (code : Nat) (unit : Nat) :
    (State.hold s code unit).plat = s.plat := by unfold State.hold; simp
@[simp] theorem State.hold_opt (s : State) (code : Nat) (unit : Nat) :
    (State.hold s code unit).opt = s.opt := by unfold State.hold; simp
@[simp] theorem State.hold_fw (s : State) (code : Nat) (unit : Nat) :
    (State.hold s code unit).fw = s.fw := by unfold State.hold; simp
@[simp] theorem State.hold_patches (s : State) (code : Nat) (unit : Nat) :
    (State.hold s code unit).patches = s.patches := by unfold State.hold; simp
@[simp] theorem State.hold_fuses (s : State) (code : Nat) (unit : Nat) :
    (State.hold s code unit).fuses = s.fuses := by unfold State.hold; simp
@[simp] theorem State.hold_nor (s : State) (code : Nat) (unit : Nat) :
    (State.hold s code unit).nor = s.nor := by unfold State.hold; simp
@[simp] theorem State.hold_ident (s : State) (code : Nat) (unit : Nat) :
    (State.hold s code unit).ident = s.ident := by unfold State.hold; simp
@[simp] theorem State.hold_linkA (s : State) (code : Nat) (unit : Nat) :
    (State.hold s code unit).linkA = s.linkA := by unfold State.hold; simp
@[simp] theorem State.hold_linkB (s : State) (code : Nat) (unit : Nat) :
    (State.hold s code unit).linkB = s.linkB := by unfold State.hold; simp
@[simp] theorem State.hold_linkZ (s : State) (code : Nat) (unit : Nat) :
    (State.hold s code unit).linkZ = s.linkZ := by unfold State.hold; simp
@[simp] theorem State.hold_feA (s : State) (code : Nat) (unit : Nat) :
    (State.hold s code unit).feA = s.feA := by unfold State.hold; simp
@[simp] theorem State.hold_feB (s : State) (code : Nat) (unit : Nat) :
    (State.hold s code unit).feB = s.feB := by unfold State.hold; simp
@[simp] theorem State.hold_motion (s : State) (code : Nat) (unit : Nat) :
    (State.hold s code unit).motion = s.motion := by unfold State.hold; simp
@[simp] theorem State.hold_rep (s : State) (code : Nat) (unit : Nat) :
    (State.hold s code unit).rep = s.rep := by unfold State.hold; simp
@[simp] theorem State.hold_spin (s : State) (code : Nat) (unit : Nat) :
    (State.hold s code unit).spin = s.spin := by unfold State.hold; simp
@[simp] theorem State.hold_servoA (s : State) (code : Nat) (unit : Nat) :
    (State.hold s code unit).servoA = s.servoA := by unfold State.hold; simp
@[simp] theorem State.hold_servoB (s : State) (code : Nat) (unit : Nat) :
    (State.hold s code unit).servoB = s.servoB := by unfold State.hold; simp
@[simp] theorem State.hold_tables (s : State) (code : Nat) (unit : Nat) :
    (State.hold s code unit).tables = s.tables := by unfold State.hold; simp
@[simp] theorem State.hold_fsqs (s : State) (code : Nat) (unit : Nat) :
    (State.hold s code unit).fsqs = s.fsqs := by unfold State.hold; simp
@[simp] theorem State.hold_rwcs (s : State) (code : Nat) (unit : Nat) :
    (State.hold s code unit).rwcs = s.rwcs := by unfold State.hold; simp
@[simp] theorem State.hold_media (s : State) (code : Nat) (unit : Nat) :
    (State.hold s code unit).media = s.media := by unfold State.hold; simp
@[simp] theorem State.hold_defects (s : State) (code : Nat) (unit : Nat) :
    (State.hold s code unit).defects = s.defects := by unfold State.hold; simp
@[simp] theorem State.hold_stripe (s : State) (code : Nat) (unit : Nat) :
    (State.hold s code unit).stripe = s.stripe := by unfold State.hold; simp
@[simp] theorem State.hold_chest (s : State) (code : Nat) (unit : Nat) :
    (State.hold s code unit).chest = s.chest := by unfold State.hold; simp
@[simp] theorem State.hold_core (s : State) (code : Nat) (unit : Nat) :
    (State.hold s code unit).core = s.core := by unfold State.hold; simp
@[simp] theorem State.hold_buf (s : State) (code : Nat) (unit : Nat) :
    (State.hold s code unit).buf = s.buf := by unfold State.hold; simp
@[simp] theorem State.hold_dma (s : State) (code : Nat) (unit : Nat) :
    (State.hold s code unit).dma = s.dma := by unfold State.hold; simp
@[simp] theorem State.hold_zmu (s : State) (code : Nat) (unit : Nat) :
    (State.hold s code unit).zmu = s.zmu := by unfold State.hold; simp
@[simp] theorem State.hold_cqu (s : State) (code : Nat) (unit : Nat) :
    (State.hold s code unit).cqu = s.cqu := by unfold State.hold; simp
@[simp] theorem State.hold_hpt (s : State) (code : Nat) (unit : Nat) :
    (State.hold s code unit).hpt = s.hpt := by unfold State.hold; simp
@[simp] theorem State.hold_power (s : State) (code : Nat) (unit : Nat) :
    (State.hold s code unit).power = s.power := by unfold State.hold; simp
@[simp] theorem State.hold_bur (s : State) (code : Nat) (unit : Nat) :
    (State.hold s code unit).bur = s.bur := by unfold State.hold; simp
@[simp] theorem State.hold_crd (s : State) (code : Nat) (unit : Nat) :
    (State.hold s code unit).crd = s.crd := by unfold State.hold; simp
@[simp] theorem State.hold_tst (s : State) (code : Nat) (unit : Nat) :
    (State.hold s code unit).tst = s.tst := by unfold State.hold; simp
@[simp] theorem State.hold_freeCount (s : State) (code : Nat) (unit : Nat) :
    (State.hold s code unit).freeCount = s.freeCount := by unfold State.hold; simp
@[simp] theorem State.hold_pending (s : State) (code : Nat) (unit : Nat) :
    (State.hold s code unit).pending = s.pending := by unfold State.hold; simp

/-! ### `State.holdIo` -/

@[simp] theorem State.holdIo_pins (s : State) : (State.holdIo s).pins = s.pins := by unfold State.holdIo; simp
@[simp] theorem State.holdIo_start (s : State) : (State.holdIo s).start = s.start := by unfold State.holdIo; simp
@[simp] theorem State.holdIo_cfg (s : State) : (State.holdIo s).cfg = s.cfg := by unfold State.holdIo; simp
@[simp] theorem State.holdIo_plat (s : State) : (State.holdIo s).plat = s.plat := by unfold State.holdIo; simp
@[simp] theorem State.holdIo_opt (s : State) : (State.holdIo s).opt = s.opt := by unfold State.holdIo; simp
@[simp] theorem State.holdIo_fw (s : State) : (State.holdIo s).fw = s.fw := by unfold State.holdIo; simp
@[simp] theorem State.holdIo_patches (s : State) : (State.holdIo s).patches = s.patches := by unfold State.holdIo; simp
@[simp] theorem State.holdIo_fuses (s : State) : (State.holdIo s).fuses = s.fuses := by unfold State.holdIo; simp
@[simp] theorem State.holdIo_nor (s : State) : (State.holdIo s).nor = s.nor := by unfold State.holdIo; simp
@[simp] theorem State.holdIo_ident (s : State) : (State.holdIo s).ident = s.ident := by unfold State.holdIo; simp
@[simp] theorem State.holdIo_linkA (s : State) : (State.holdIo s).linkA = s.linkA := by unfold State.holdIo; simp
@[simp] theorem State.holdIo_linkB (s : State) : (State.holdIo s).linkB = s.linkB := by unfold State.holdIo; simp
@[simp] theorem State.holdIo_linkZ (s : State) : (State.holdIo s).linkZ = s.linkZ := by unfold State.holdIo; simp
@[simp] theorem State.holdIo_feA (s : State) : (State.holdIo s).feA = s.feA := by unfold State.holdIo; simp
@[simp] theorem State.holdIo_feB (s : State) : (State.holdIo s).feB = s.feB := by unfold State.holdIo; simp
@[simp] theorem State.holdIo_motion (s : State) : (State.holdIo s).motion = s.motion := by unfold State.holdIo; simp
@[simp] theorem State.holdIo_rep (s : State) : (State.holdIo s).rep = s.rep := by unfold State.holdIo; simp
@[simp] theorem State.holdIo_spin (s : State) : (State.holdIo s).spin = s.spin := by unfold State.holdIo; simp
@[simp] theorem State.holdIo_servoA (s : State) : (State.holdIo s).servoA = s.servoA := by unfold State.holdIo; simp
@[simp] theorem State.holdIo_servoB (s : State) : (State.holdIo s).servoB = s.servoB := by unfold State.holdIo; simp
@[simp] theorem State.holdIo_tables (s : State) : (State.holdIo s).tables = s.tables := by unfold State.holdIo; simp
@[simp] theorem State.holdIo_fsqs (s : State) : (State.holdIo s).fsqs = s.fsqs := by unfold State.holdIo; simp
@[simp] theorem State.holdIo_rwcs (s : State) : (State.holdIo s).rwcs = s.rwcs := by unfold State.holdIo; simp
@[simp] theorem State.holdIo_media (s : State) : (State.holdIo s).media = s.media := by unfold State.holdIo; simp
@[simp] theorem State.holdIo_defects (s : State) : (State.holdIo s).defects = s.defects := by unfold State.holdIo; simp
@[simp] theorem State.holdIo_stripe (s : State) : (State.holdIo s).stripe = s.stripe := by unfold State.holdIo; simp
@[simp] theorem State.holdIo_chest (s : State) : (State.holdIo s).chest = s.chest := by unfold State.holdIo; simp
@[simp] theorem State.holdIo_core (s : State) : (State.holdIo s).core = s.core := by unfold State.holdIo; simp
@[simp] theorem State.holdIo_buf (s : State) : (State.holdIo s).buf = s.buf := by unfold State.holdIo; simp
@[simp] theorem State.holdIo_dma (s : State) : (State.holdIo s).dma = s.dma := by unfold State.holdIo; simp
@[simp] theorem State.holdIo_zmu (s : State) : (State.holdIo s).zmu = s.zmu := by unfold State.holdIo; simp
@[simp] theorem State.holdIo_hpt (s : State) : (State.holdIo s).hpt = s.hpt := by unfold State.holdIo; simp
@[simp] theorem State.holdIo_power (s : State) : (State.holdIo s).power = s.power := by unfold State.holdIo; simp
@[simp] theorem State.holdIo_bur (s : State) : (State.holdIo s).bur = s.bur := by unfold State.holdIo; simp
@[simp] theorem State.holdIo_crd (s : State) : (State.holdIo s).crd = s.crd := by unfold State.holdIo; simp
@[simp] theorem State.holdIo_tst (s : State) : (State.holdIo s).tst = s.tst := by unfold State.holdIo; simp
@[simp] theorem State.holdIo_freeCount (s : State) : (State.holdIo s).freeCount = s.freeCount := by unfold State.holdIo; simp
@[simp] theorem State.holdIo_pending (s : State) : (State.holdIo s).pending = s.pending := by unfold State.holdIo; simp

/-! ### `State.loseAct` -/

@[simp] theorem State.loseAct_pins (s : State) (x : Act) : (State.loseAct s x).pins = s.pins := by unfold State.loseAct; simp
@[simp] theorem State.loseAct_start (s : State) (x : Act) : (State.loseAct s x).start = s.start := by unfold State.loseAct; simp
@[simp] theorem State.loseAct_cfg (s : State) (x : Act) : (State.loseAct s x).cfg = s.cfg := by unfold State.loseAct; simp
@[simp] theorem State.loseAct_plat (s : State) (x : Act) : (State.loseAct s x).plat = s.plat := by unfold State.loseAct; simp
@[simp] theorem State.loseAct_opt (s : State) (x : Act) : (State.loseAct s x).opt = s.opt := by unfold State.loseAct; simp
@[simp] theorem State.loseAct_fw (s : State) (x : Act) : (State.loseAct s x).fw = s.fw := by unfold State.loseAct; simp
@[simp] theorem State.loseAct_patches (s : State) (x : Act) :
    (State.loseAct s x).patches = s.patches := by unfold State.loseAct; simp
@[simp] theorem State.loseAct_fuses (s : State) (x : Act) : (State.loseAct s x).fuses = s.fuses := by unfold State.loseAct; simp
@[simp] theorem State.loseAct_nor (s : State) (x : Act) : (State.loseAct s x).nor = s.nor := by unfold State.loseAct; simp
@[simp] theorem State.loseAct_ident (s : State) (x : Act) : (State.loseAct s x).ident = s.ident := by unfold State.loseAct; simp
@[simp] theorem State.loseAct_linkA (s : State) (x : Act) : (State.loseAct s x).linkA = s.linkA := by unfold State.loseAct; simp
@[simp] theorem State.loseAct_linkB (s : State) (x : Act) : (State.loseAct s x).linkB = s.linkB := by unfold State.loseAct; simp
@[simp] theorem State.loseAct_linkZ (s : State) (x : Act) : (State.loseAct s x).linkZ = s.linkZ := by unfold State.loseAct; simp
@[simp] theorem State.loseAct_feA (s : State) (x : Act) : (State.loseAct s x).feA = s.feA := by unfold State.loseAct; simp
@[simp] theorem State.loseAct_feB (s : State) (x : Act) : (State.loseAct s x).feB = s.feB := by unfold State.loseAct; simp
@[simp] theorem State.loseAct_motion (s : State) (x : Act) : (State.loseAct s x).motion = s.motion := by unfold State.loseAct; simp
@[simp] theorem State.loseAct_rep (s : State) (x : Act) : (State.loseAct s x).rep = s.rep := by unfold State.loseAct; simp
@[simp] theorem State.loseAct_spin (s : State) (x : Act) : (State.loseAct s x).spin = s.spin := by unfold State.loseAct; simp
@[simp] theorem State.loseAct_servoA (s : State) (x : Act) : (State.loseAct s x).servoA = s.servoA := by unfold State.loseAct; simp
@[simp] theorem State.loseAct_servoB (s : State) (x : Act) : (State.loseAct s x).servoB = s.servoB := by unfold State.loseAct; simp
@[simp] theorem State.loseAct_tables (s : State) (x : Act) : (State.loseAct s x).tables = s.tables := by unfold State.loseAct; simp
@[simp] theorem State.loseAct_fsqs (s : State) (x : Act) : (State.loseAct s x).fsqs = s.fsqs := by unfold State.loseAct; simp
@[simp] theorem State.loseAct_rwcs (s : State) (x : Act) : (State.loseAct s x).rwcs = s.rwcs := by unfold State.loseAct; simp
@[simp] theorem State.loseAct_media (s : State) (x : Act) : (State.loseAct s x).media = s.media := by unfold State.loseAct; simp
@[simp] theorem State.loseAct_defects (s : State) (x : Act) :
    (State.loseAct s x).defects = s.defects := by unfold State.loseAct; simp
@[simp] theorem State.loseAct_stripe (s : State) (x : Act) : (State.loseAct s x).stripe = s.stripe := by unfold State.loseAct; simp
@[simp] theorem State.loseAct_chest (s : State) (x : Act) : (State.loseAct s x).chest = s.chest := by unfold State.loseAct; simp
@[simp] theorem State.loseAct_core (s : State) (x : Act) : (State.loseAct s x).core = s.core := by unfold State.loseAct; simp
@[simp] theorem State.loseAct_buf (s : State) (x : Act) : (State.loseAct s x).buf = s.buf := by unfold State.loseAct; simp
@[simp] theorem State.loseAct_dma (s : State) (x : Act) : (State.loseAct s x).dma = s.dma := by unfold State.loseAct; simp
@[simp] theorem State.loseAct_zmu (s : State) (x : Act) : (State.loseAct s x).zmu = s.zmu := by unfold State.loseAct; simp
@[simp] theorem State.loseAct_hpt (s : State) (x : Act) : (State.loseAct s x).hpt = s.hpt := by unfold State.loseAct; simp
@[simp] theorem State.loseAct_power (s : State) (x : Act) : (State.loseAct s x).power = s.power := by unfold State.loseAct; simp
@[simp] theorem State.loseAct_bur (s : State) (x : Act) : (State.loseAct s x).bur = s.bur := by unfold State.loseAct; simp
@[simp] theorem State.loseAct_crd (s : State) (x : Act) : (State.loseAct s x).crd = s.crd := by unfold State.loseAct; simp
@[simp] theorem State.loseAct_tst (s : State) (x : Act) : (State.loseAct s x).tst = s.tst := by unfold State.loseAct; simp
@[simp] theorem State.loseAct_freeCount (s : State) (x : Act) :
    (State.loseAct s x).freeCount = s.freeCount := by unfold State.loseAct; simp
@[simp] theorem State.loseAct_pending (s : State) (x : Act) :
    (State.loseAct s x).pending = s.pending := by unfold State.loseAct; simp

/-! ### The register file after an update. -/

@[simp] theorem State.put_regs (s : State) (f : Fld) (v : Nat) : (s.put f v).regs = s.regs.set f v := rfl
@[simp] theorem State.putB_regs (s : State) (f : Fld) (b : Bool) : (s.putB f b).regs = s.regs.setB f b := rfl
@[simp] theorem State.toPhase_regs (s : State) (n : Nat) :
    (s.toPhase n).regs = s.regs.set Reg.NST.BOOT_STATUS.PHASE n := rfl

end Sys2Proof.Machine
end

