-- ==== Sys2Proof/Laws/FrontEnd.lean ====
section
/-!
SUPPORT. What a cell of a front end, and a command that a front end executes (R103, R107, R111), can do to the state: one lemma
per shared operation.
-/

set_option linter.unusedTactic false
set_option linter.unreachableTactic false
set_option linter.style.nameCheck false

namespace Sys2Proof.Machine

def noCredits (f : FrontEnd) : FrontEnd := { f with u0 := { f.u0 with freed := 0 }, u1 := { f.u1 with freed := 0 } }
@[simp] theorem State.fe_setFe (s : State) (x : Act) (f : FrontEnd) : (s.setFe x f).fe x = f := by cases x <;> rfl
theorem State.fe_setFe_ne (s : State) (x y : Act) (f : FrontEnd) (h : y ≠ x) : (s.setFe x f).fe y = s.fe y := by cases x <;> cases y <;> first | rfl | exact absurd rfl h
@[simp] theorem State.fe_setLink (s : State) (p) (l) (y : Act) : (s.setLink p l).fe y = s.fe y := by cases p <;> cases y <;> rfl
@[simp] theorem State.link_setFe (s : State) (p) (f) (y : Act) : (s.setFe y f).link p = s.link p := by cases p <;> cases y <;> rfl
@[simp] theorem State.link_setLink (s : State) (p) (l) : (s.setLink p l).link p = l := by cases p <;> rfl
theorem State.link_setLink_ne (s : State) (p q) (l) (h : q ≠ p) : (s.setLink p l).link q = s.link q := by cases p <;> cases q <;> first | rfl | exact absurd rfl h
@[simp] theorem State.fe_parAccept (s : State) (p) (y : Act) : (s.parAccept p).fe y = s.fe y := by simp [State.parAccept]
theorem portAct_port (x : Act) : portAct x.port = some x := by cases x <;> rfl

structure Sent (s t : State) (x : Act) (c : Cell) : Prop where
  fe0 : noCredits (t.fe x) = noCredits (s.fe x)
  ne : ∀ y, y ≠ x → t.fe y = s.fe y
  link : ∀ p, p ≠ x.port → t.link p = s.link p
  ctl : (t.link x.port).ctl = (s.link x.port).ctl
  mem : ∃ d ∈ (t.link x.port).par.replay.map Prod.fst ++ (t.link x.port).par.waiting, d.typ = c.typ ∧ d.unit = c.unit ∧ d.flags = c.flags ∧ d.param = c.param ∧ d.body = c.body
  old : ∀ d ∈ (s.link x.port).par.replay.map Prod.fst ++ (s.link x.port).par.waiting, d ∈ (t.link x.port).par.replay.map Prod.fst ++ (t.link x.port).par.waiting
theorem State.parSend_sent (s : State) (x : Act) (c : Cell) : Sent s (s.parSend x.port c) x c := by
  unfold State.parSend State.takeCred
  simp only [portAct_port]
  constructor
  · split <;> simp [noCredits]
  · intro y hy; split <;> simp [State.fe_setFe_ne _ _ _ _ hy]
  · intro p hp; split <;> simp [State.link_setLink_ne _ _ _ _ hp]
  · split <;> simp
  · split
    · exact ⟨⟨c.typ, c.unit, c.flags, (s.link x.port).par.sndSeq, c.param, c.body, BitVec.ofNat 8 (min (s.fe x).u0.freed 15 + 16 * min (s.fe x).u1.freed 15)⟩, by simp, rfl, rfl, rfl, rfl, rfl⟩
    · exact ⟨⟨c.typ, c.unit, c.flags, c.seq, c.param, c.body, BitVec.ofNat 8 (min (s.fe x).u0.freed 15 + 16 * min (s.fe x).u1.freed 15)⟩, by simp, rfl, rfl, rfl, rfl, rfl⟩
  · intro d hd
    simp at hd
    split <;> simp <;> grind
structure Ret (s t : State) (x : Act) : Prop where
  fe0 : noCredits (t.fe x) = noCredits (s.fe x)
  ne : ∀ y, y ≠ x → t.fe y = s.fe y
  link : ∀ p, p ≠ x.port → t.link p = s.link p
  ctl : (t.link x.port).ctl = (s.link x.port).ctl
  old : ∀ d ∈ (s.link x.port).par.replay.map Prod.fst ++ (s.link x.port).par.waiting, d ∈ (t.link x.port).par.replay.map Prod.fst ++ (t.link x.port).par.waiting
theorem Ret.refl (s : State) (x : Act) : Ret s s x := ⟨rfl, fun _ _ => rfl, fun _ _ => rfl, rfl, fun _ h => h⟩
theorem Sent.ret {s t x c} (h : Sent s t x c) : Ret s t x := ⟨h.fe0, h.ne, h.link, h.ctl, h.old⟩
theorem Ret.trans {s t u : State} {x} (h : Ret s t x) (k : Ret t u x) : Ret s u x := ⟨k.fe0.trans h.fe0, fun y hy => (k.ne y hy).trans (h.ne y hy), fun y hy => (k.link y hy).trans (h.link y hy), k.ctl.trans h.ctl, fun d m => k.old d (h.old d m)⟩
theorem State.returnCredits_ret (s : State) (x : Act) : Ret s (s.returnCredits x) x := by
  unfold State.returnCredits
  extract_lets one
  have h : ∀ t, Ret t (one t) x := by
    intro t
    simp only [one]
    split
    · exact Ret.refl _ _
    · exact (State.parSend_sent _ _ _).ret
  exact (h s).trans (h _)
theorem State.feExec_effect (s : State) (x : Act) (u op tag f) (h : s.feHears x = true) :
    noCredits ((s.feExec x u op tag f).fe x) = noCredits (f (s.fe x)).1 ∧ OnlyFrontEnd x s (s.feExec x u op tag f) ∧
    Answered (s.feExec x u op tag f) x.port u (f (s.fe x)).2.1 op tag (f (s.fe x)).2.2 := by
  unfold State.feExec
  rw [if_neg (by simp [h])]
  extract_lets r
  have hr : f (s.fe x) = r := rfl
  rw [hr]
  have h1 := State.parSend_sent ((s.parAccept x.port).setFe x r.1) x ⟨0x11, u, r.2.1, 0, BitVec.ofNat 16 (op + 256 * tag.toNat), r.2.2, 0⟩
  have h2 := State.returnCredits_ret (((s.parAccept x.port).setFe x r.1).answer x.port u r.2.1 op tag r.2.2) x
  refine ⟨?_, ⟨fun y hy => ?_, fun p hp => ?_⟩, ?_⟩
  · rw [h2.fe0]; unfold State.answer; rw [h1.fe0]; simp
  · rw [h2.ne y hy]; unfold State.answer; rw [h1.ne y hy, State.fe_setFe_ne _ _ _ _ hy]; simp
  · rw [h2.link p hp]; unfold State.answer; rw [h1.link p hp]; simp [State.parAccept, State.link_setLink_ne _ _ _ _ hp]
  · obtain ⟨d, m, e⟩ := h1.mem
    exact ⟨d, h2.old d m, e⟩
theorem FrontEnd.head_setHead (f : FrontEnd) (v : FeHead) (k : Nat) : (f.setHead v).head k = if v.head = k then v else f.head k := by
  simp only [FrontEnd.head, FrontEnd.setHead, List.find?_cons]
  by_cases h : v.head = k
  · simp [h]
  · simp only [h, if_false]
    have : (v.head == k) = false := by simpa using h
    rw [this]
    congr 1
    induction f.heads with
    | nil => rfl
    | cons a l ih =>
      simp only [List.filter_cons]
      by_cases h2 : a.head = v.head
      · have h3 : (a.head == k) = false := by simp [h2]; exact h
        simp [h2, ih, this]
      · simp [h2, List.find?_cons, ih]
theorem FrontEnd.head_head (f : FrontEnd) (k : Nat) : (f.head k).head = k := by
  unfold FrontEnd.head
  cases h : f.heads.find? fun x => x.head == k with
  | none => rfl
  | some v => simpa using List.find?_some h

end Sys2Proof.Machine
end

