-- ==== Sys2Proof/Laws/Outcome.lean ====
section
/-!
SUPPORT. Outcomes: what "goes on in a state where" and "keeps" say of each of the three outcomes and of a choice between two.
-/

set_option linter.unusedTactic false
set_option linter.unreachableTactic false
set_option linter.style.nameCheck false

namespace Sys2Proof.Machine

theorem Goes_next (t : State) (P : State → Prop) : Goes (.next t) P ↔ P t :=
  ⟨fun ⟨_, h, hp⟩ => by cases h; exact hp, fun h => ⟨t, rfl, h⟩⟩

theorem Goes_ite {c : Prop} [Decidable c] (a b : Host.Outcome State Fault Refusal) (P : State → Prop) :
    Goes (if c then a else b) P ↔ (c → Goes a P) ∧ (¬c → Goes b P) := by split <;> simp [*]

@[simp ↓] theorem Keeps_next (t : State) (P : State → Prop) : Keeps (.next t) P ↔ P t :=
  ⟨fun h => h t rfl, fun h u hu => by cases hu; exact h⟩

@[simp ↓] theorem Keeps_fault (r : Fault) (P : State → Prop) : Keeps (.fault r) P ↔ True :=
  ⟨fun _ => trivial, fun _ _ h => nomatch h⟩

@[simp ↓] theorem Keeps_refused (r : Refusal) (P : State → Prop) : Keeps (.refused r) P ↔ True :=
  ⟨fun _ => trivial, fun _ _ h => nomatch h⟩

@[simp ↓] theorem Keeps_ite {c : Prop} [Decidable c] (P : State → Prop) (a b : Host.Outcome State Fault Refusal) :
    Keeps (if c then a else b) P ↔ (c → Keeps a P) ∧ (¬c → Keeps b P) := by split <;> simp [*]

end Sys2Proof.Machine
end

