-- ==== Sys2Proof/Laws/Reach.lean ====
section
/-!
SUPPORT. Reach: the slot of every register field, and what the elementary updates of a state touch: a field of a register, one
field of the state, a choice, a fold.
-/

set_option linter.unusedTactic false
set_option linter.unreachableTactic false
set_option linter.style.nameCheck false

namespace Sys2Proof.Machine

@[simp] theorem Reg.NST.BOOT_STATUS.PHASE_slot : (Reg.NST.BOOT_STATUS.PHASE).slot = 1 := rfl
@[simp] theorem Reg.NST.BOOT_STATUS.UNIT_slot : (Reg.NST.BOOT_STATUS.UNIT).slot = 1 := rfl
@[simp] theorem Reg.NST.BOOT_STATUS.CODE_slot : (Reg.NST.BOOT_STATUS.CODE).slot = 1 := rfl
@[simp] theorem Reg.NST.BOOT_STATUS.HALTED_slot : (Reg.NST.BOOT_STATUS.HALTED).slot = 1 := rfl
@[simp] theorem Reg.NST.BOOT_STATUS.HELD_slot : (Reg.NST.BOOT_STATUS.HELD).slot = 1 := rfl
@[simp] theorem Reg.NST.BOOT_STATUS.NOTED_slot : (Reg.NST.BOOT_STATUS.NOTED).slot = 1 := rfl
@[simp] theorem Reg.NST.PREV_STATUS.PREV_slot : (Reg.NST.PREV_STATUS.PREV).slot = 1 := rfl
@[simp] theorem Reg.NST.START.WARM_VALID_slot : (Reg.NST.START.WARM_VALID).slot = 1 := rfl
@[simp] theorem Reg.NST.START.DRAM_SR_KEPT_slot : (Reg.NST.START.DRAM_SR_KEPT).slot = 1 := rfl
@[simp] theorem Reg.NST.START.OSC_KEPT_slot : (Reg.NST.START.OSC_KEPT).slot = 1 := rfl
@[simp] theorem Reg.RCU.LAST_CAUSE.CAUSE_slot : (Reg.RCU.LAST_CAUSE.CAUSE).slot = 0 := rfl
@[simp] theorem Reg.RCU.LAST_CAUSE.WARM_slot : (Reg.RCU.LAST_CAUSE.WARM).slot = 0 := rfl
@[simp] theorem Reg.RCU.LAST_CAUSE.SAVED_slot : (Reg.RCU.LAST_CAUSE.SAVED).slot = 0 := rfl
@[simp] theorem Reg.RCU.STRAPS.BOOT_SRC_slot : (Reg.RCU.STRAPS.BOOT_SRC).slot = 0 := rfl
@[simp] theorem Reg.RCU.STRAPS.CLK_MODE_slot : (Reg.RCU.STRAPS.CLK_MODE).slot = 0 := rfl
@[simp] theorem Reg.RCU.CLK_STATUS.DOM_slot (n : Nat) : (Reg.RCU.CLK_STATUS.DOM n).slot = 0 := rfl
@[simp] theorem Reg.RCU.LOCK_LOSS.SYSPLL_slot : (Reg.RCU.LOCK_LOSS.SYSPLL).slot = 0 := rfl
@[simp] theorem Reg.RCU.LOCK_LOSS.PCIEPLL_slot : (Reg.RCU.LOCK_LOSS.PCIEPLL).slot = 0 := rfl
@[simp] theorem Reg.RCU.LOCK_LOSS.DDRPLL_slot : (Reg.RCU.LOCK_LOSS.DDRPLL).slot = 0 := rfl
@[simp] theorem Reg.RCU.LOCK_LOSS.SERPLLA_slot : (Reg.RCU.LOCK_LOSS.SERPLLA).slot = 0 := rfl
@[simp] theorem Reg.RCU.LOCK_LOSS.SERPLLB_slot : (Reg.RCU.LOCK_LOSS.SERPLLB).slot = 0 := rfl
@[simp] theorem Reg.RCU.BLK_RST.RST_slot : (Reg.RCU.BLK_RST.RST).slot = 0 := rfl
@[simp] theorem Reg.RCU.BLK_FORCED.FORCED_slot : (Reg.RCU.BLK_FORCED.FORCED).slot = 0 := rfl
@[simp] theorem Reg.RCU.IDLE_TMO.TMO_US_slot : (Reg.RCU.IDLE_TMO.TMO_US).slot = 0 := rfl
@[simp] theorem Reg.OPL.STATUS.OPT_A_slot : (Reg.OPL.STATUS.OPT_A).slot = 2 := rfl
@[simp] theorem Reg.OPL.STATUS.OPT_B_slot : (Reg.OPL.STATUS.OPT_B).slot = 2 := rfl
@[simp] theorem Reg.OPL.STATUS.OPT_ACTIVE_slot : (Reg.OPL.STATUS.OPT_ACTIVE).slot = 2 := rfl
@[simp] theorem Reg.OPL.STATUS.RECOVERY_slot : (Reg.OPL.STATUS.RECOVERY).slot = 2 := rfl
@[simp] theorem Reg.OPL.STATUS.FW_A_slot : (Reg.OPL.STATUS.FW_A).slot = 2 := rfl
@[simp] theorem Reg.OPL.STATUS.FW_B_slot : (Reg.OPL.STATUS.FW_B).slot = 2 := rfl
@[simp] theorem Reg.OPL.STATUS.FW_ACTIVE_slot : (Reg.OPL.STATUS.FW_ACTIVE).slot = 2 := rfl
@[simp] theorem Reg.OPL.STATUS.PATCH_REJECTED_slot : (Reg.OPL.STATUS.PATCH_REJECTED).slot = 2 := rfl
@[simp] theorem Reg.OPL.OPT_SEQ.SEQ_slot : (Reg.OPL.OPT_SEQ.SEQ).slot = 2 := rfl
@[simp] theorem Reg.OPL.FW_VERSION.VERSION_slot : (Reg.OPL.FW_VERSION.VERSION).slot = 2 := rfl
@[simp] theorem Reg.OPL.FAIL_OFFSET.OFFSET_slot : (Reg.OPL.FAIL_OFFSET.OFFSET).slot = 2 := rfl
@[simp] theorem Reg.OPL.FUSES.OEM_SVN_slot : (Reg.OPL.FUSES.OEM_SVN).slot = 2 := rfl
@[simp] theorem Reg.OPL.FUSES.HT_SVN_slot : (Reg.OPL.FUSES.HT_SVN).slot = 2 := rfl
@[simp] theorem Reg.OPL.FUSES.KEY_PROG_slot : (Reg.OPL.FUSES.KEY_PROG).slot = 2 := rfl
@[simp] theorem Reg.OPL.FUSES.KEY_REVOKED_slot : (Reg.OPL.FUSES.KEY_REVOKED).slot = 2 := rfl
@[simp] theorem Reg.OPL.FUSES.HT_REVOKED_slot : (Reg.OPL.FUSES.HT_REVOKED).slot = 2 := rfl
@[simp] theorem Reg.ELK.STATUS.STATE_slot (i : Nat) : (Reg.ELK.STATUS.STATE i).slot = 22 := rfl
@[simp] theorem Reg.ELK.STATUS.UP_LANES_slot (i : Nat) : (Reg.ELK.STATUS.UP_LANES i).slot = 22 := rfl
@[simp] theorem Reg.ELK.STATUS.DN_LANES_slot (i : Nat) : (Reg.ELK.STATUS.DN_LANES i).slot = 22 := rfl
@[simp] theorem Reg.ELK.STATUS.RETRAINS_slot (i : Nat) : (Reg.ELK.STATUS.RETRAINS i).slot = 22 := rfl
@[simp] theorem Reg.ZLK.STATUS.STATE_slot : (Reg.ZLK.STATUS.STATE).slot = 23 := rfl
@[simp] theorem Reg.ZLK.STATUS.UP_LANES_slot : (Reg.ZLK.STATUS.UP_LANES).slot = 23 := rfl
@[simp] theorem Reg.ZLK.STATUS.DN_LANES_slot : (Reg.ZLK.STATUS.DN_LANES).slot = 23 := rfl
@[simp] theorem Reg.ZLK.STATUS.RETRAINS_slot : (Reg.ZLK.STATUS.RETRAINS).slot = 23 := rfl
@[simp] theorem Reg.ELK.LB_CTRL.DEPTH_slot (i : Nat) : (Reg.ELK.LB_CTRL.DEPTH i).slot = 22 := rfl
@[simp] theorem Reg.ELK.LB_CTRL.PRBS_slot (i : Nat) : (Reg.ELK.LB_CTRL.PRBS i).slot = 22 := rfl
@[simp] theorem Reg.ELK.LB_CTRL.RUN_slot (i : Nat) : (Reg.ELK.LB_CTRL.RUN i).slot = 22 := rfl
@[simp] theorem Reg.ELK.LB_CTRL.DONE_slot (i : Nat) : (Reg.ELK.LB_CTRL.DONE i).slot = 22 := rfl
@[simp] theorem Reg.ELK.LB_CTRL.FAIL_slot (i : Nat) : (Reg.ELK.LB_CTRL.FAIL i).slot = 22 := rfl
@[simp] theorem Reg.ZLK.LB_CTRL.DEPTH_slot : (Reg.ZLK.LB_CTRL.DEPTH).slot = 23 := rfl
@[simp] theorem Reg.ZLK.LB_CTRL.PRBS_slot : (Reg.ZLK.LB_CTRL.PRBS).slot = 23 := rfl
@[simp] theorem Reg.ZLK.LB_CTRL.RUN_slot : (Reg.ZLK.LB_CTRL.RUN).slot = 23 := rfl
@[simp] theorem Reg.ZLK.LB_CTRL.DONE_slot : (Reg.ZLK.LB_CTRL.DONE).slot = 23 := rfl
@[simp] theorem Reg.ZLK.LB_CTRL.FAIL_slot : (Reg.ZLK.LB_CTRL.FAIL).slot = 23 := rfl
@[simp] theorem Reg.ELK.ERRORS.CRC_ERR_slot (i : Nat) : (Reg.ELK.ERRORS.CRC_ERR i).slot = 22 := rfl
@[simp] theorem Reg.ELK.ERRORS.REPLAYS_slot (i : Nat) : (Reg.ELK.ERRORS.REPLAYS i).slot = 22 := rfl
@[simp] theorem Reg.ELK.ERRORS.BLK_ERR_slot (i : Nat) : (Reg.ELK.ERRORS.BLK_ERR i).slot = 22 := rfl
@[simp] theorem Reg.ZLK.ERRORS.CRC_ERR_slot : (Reg.ZLK.ERRORS.CRC_ERR).slot = 23 := rfl
@[simp] theorem Reg.ZLK.ERRORS.REPLAYS_slot : (Reg.ZLK.ERRORS.REPLAYS).slot = 23 := rfl
@[simp] theorem Reg.ZLK.ERRORS.BLK_ERR_slot : (Reg.ZLK.ERRORS.BLK_ERR).slot = 23 := rfl
@[simp] theorem Reg.SPC.STATUS.STATE_slot : (Reg.SPC.STATUS.STATE).slot = 21 := rfl
@[simp] theorem Reg.SPC.STATUS.AT_SPEED_slot : (Reg.SPC.STATUS.AT_SPEED).slot = 21 := rfl
@[simp] theorem Reg.SPC.STATUS.BACKWARD_slot : (Reg.SPC.STATUS.BACKWARD).slot = 21 := rfl
@[simp] theorem Reg.SPC.STATUS.WRITE_HOLD_slot : (Reg.SPC.STATUS.WRITE_HOLD).slot = 21 := rfl
@[simp] theorem Reg.SPC.STATUS.J_MEASURED_slot : (Reg.SPC.STATUS.J_MEASURED).slot = 21 := rfl
@[simp] theorem Reg.SPC.STATUS.LOSSES_slot : (Reg.SPC.STATUS.LOSSES).slot = 21 := rfl
@[simp] theorem Reg.SPC.STATUS.LATE_slot : (Reg.SPC.STATUS.LATE).slot = 21 := rfl
@[simp] theorem Reg.SPC.SPEED.RPM_slot : (Reg.SPC.SPEED.RPM).slot = 21 := rfl
@[simp] theorem Reg.SPC.SPEED.TARGET_slot : (Reg.SPC.SPEED.TARGET).slot = 21 := rfl
@[simp] theorem Reg.SPC.FAULT.DETAIL_slot : (Reg.SPC.FAULT.DETAIL).slot = 21 := rfl
@[simp] theorem Reg.SPC.FAULT.VALID_slot : (Reg.SPC.FAULT.VALID).slot = 21 := rfl
@[simp] theorem Reg.NST.SPIN_KEEP.TARGET_RPM_slot : (Reg.NST.SPIN_KEEP.TARGET_RPM).slot = 1 := rfl
@[simp] theorem Reg.NST.SPIN_KEEP.J_GCM2_slot : (Reg.NST.SPIN_KEEP.J_GCM2).slot = 1 := rfl
@[simp] theorem Reg.SLE.ACT_STATUS.STATE_slot (i : Nat) : (Reg.SLE.ACT_STATUS.STATE i).slot = 20 := rfl
@[simp] theorem Reg.SLE.ACT_STATUS.BANK_slot (i : Nat) : (Reg.SLE.ACT_STATUS.BANK i).slot = 20 := rfl
@[simp] theorem Reg.SLE.ACT_STATUS.PERMIT_slot (i : Nat) : (Reg.SLE.ACT_STATUS.PERMIT i).slot = 20 := rfl
@[simp] theorem Reg.SLE.ACT_STATUS.PAIRED_slot (i : Nat) : (Reg.SLE.ACT_STATUS.PAIRED i).slot = 20 := rfl
@[simp] theorem Reg.SLE.ACT_STATUS.U0_ON_slot (i : Nat) : (Reg.SLE.ACT_STATUS.U0_ON i).slot = 20 := rfl
@[simp] theorem Reg.SLE.ACT_STATUS.U1_ON_slot (i : Nat) : (Reg.SLE.ACT_STATUS.U1_ON i).slot = 20 := rfl
@[simp] theorem Reg.SLE.ACT_STATUS.U0_HEAD_slot (i : Nat) : (Reg.SLE.ACT_STATUS.U0_HEAD i).slot = 20 := rfl
@[simp] theorem Reg.SLE.ACT_STATUS.U1_HEAD_slot (i : Nat) : (Reg.SLE.ACT_STATUS.U1_HEAD i).slot = 20 := rfl
@[simp] theorem Reg.SLE.ACT_STATUS.U0_MODE_slot (i : Nat) : (Reg.SLE.ACT_STATUS.U0_MODE i).slot = 20 := rfl
@[simp] theorem Reg.SLE.ACT_STATUS.U1_MODE_slot (i : Nat) : (Reg.SLE.ACT_STATUS.U1_MODE i).slot = 20 := rfl
@[simp] theorem Reg.SLE.PES.U0_PES_slot (i : Nat) : (Reg.SLE.PES.U0_PES i).slot = 20 := rfl
@[simp] theorem Reg.SLE.PES.U1_PES_slot (i : Nat) : (Reg.SLE.PES.U1_PES i).slot = 20 := rfl
@[simp] theorem Reg.SLE.COUNTS.MISSED_slot (i : Nat) : (Reg.SLE.COUNTS.MISSED i).slot = 20 := rfl
@[simp] theorem Reg.SLE.COUNTS.INHIBITS_slot (i : Nat) : (Reg.SLE.COUNTS.INHIBITS i).slot = 20 := rfl
@[simp] theorem Reg.SLE.COUNTS.SEEK_ERR_slot (i : Nat) : (Reg.SLE.COUNTS.SEEK_ERR i).slot = 20 := rfl
@[simp] theorem Reg.SLE.CAL.BVC_slot (i : Nat) : (Reg.SLE.CAL.BVC i).slot = 20 := rfl
@[simp] theorem Reg.SLE.CAL.CAL_VALID_slot (i : Nat) : (Reg.SLE.CAL.CAL_VALID i).slot = 20 := rfl
@[simp] theorem Reg.SLE.CAL.MAP_PARTIAL_slot (i : Nat) : (Reg.SLE.CAL.MAP_PARTIAL i).slot = 20 := rfl
@[simp] theorem Reg.SLE.RRO_STATUS.BANDS_slot : (Reg.SLE.RRO_STATUS.BANDS).slot = 20 := rfl
@[simp] theorem Reg.SLE.RRO_STATUS.SAVE_PENDING_slot : (Reg.SLE.RRO_STATUS.SAVE_PENDING).slot = 20 := rfl
@[simp] theorem Reg.SLE.RRO_STATUS.CLAMPED_slot : (Reg.SLE.RRO_STATUS.CLAMPED).slot = 20 := rfl
@[simp] theorem Reg.FSQ.STATUS.STATE_slot (i : Nat) : (Reg.FSQ.STATUS.STATE i).slot = 16 := rfl
@[simp] theorem Reg.FSQ.STATUS.MODE_slot (i : Nat) : (Reg.FSQ.STATUS.MODE i).slot = 16 := rfl
@[simp] theorem Reg.FSQ.STATUS.FAULT_slot (i : Nat) : (Reg.FSQ.STATUS.FAULT i).slot = 16 := rfl
@[simp] theorem Reg.FSQ.STATUS.FAULT_CODE_slot (i : Nat) : (Reg.FSQ.STATUS.FAULT_CODE i).slot = 16 := rfl
@[simp] theorem Reg.FSQ.STATUS.PC_slot (i : Nat) : (Reg.FSQ.STATUS.PC i).slot = 16 := rfl
@[simp] theorem Reg.FSQ.SYNC_LAST.RESULT_slot (i : Nat) : (Reg.FSQ.SYNC_LAST.RESULT i).slot = 16 := rfl
@[simp] theorem Reg.FSQ.SYNC_LAST.OFFSET_slot (i : Nat) : (Reg.FSQ.SYNC_LAST.OFFSET i).slot = 16 := rfl
@[simp] theorem Reg.FSQ.SYNC_LAST.SCORE_slot (i : Nat) : (Reg.FSQ.SYNC_LAST.SCORE i).slot = 16 := rfl
@[simp] theorem Reg.FSQ.COUNTS.SM2_USED_slot (i : Nat) : (Reg.FSQ.COUNTS.SM2_USED i).slot = 16 := rfl
@[simp] theorem Reg.FSQ.COUNTS.MISSED_slot (i : Nat) : (Reg.FSQ.COUNTS.MISSED i).slot = 16 := rfl
@[simp] theorem Reg.FSQ.COUNTS.TRIAL_OK_slot (i : Nat) : (Reg.FSQ.COUNTS.TRIAL_OK i).slot = 16 := rfl
@[simp] theorem Reg.FSQ.COUNTS.MISSED_REV_slot (i : Nat) : (Reg.FSQ.COUNTS.MISSED_REV i).slot = 16 := rfl
@[simp] theorem Reg.FSQ.PATCH_VER.PATCH_SET_slot : (Reg.FSQ.PATCH_VER.PATCH_SET).slot = 16 := rfl
@[simp] theorem Reg.FSQ.PATCH_VER.ENTRIES_slot : (Reg.FSQ.PATCH_VER.ENTRIES).slot = 16 := rfl
@[simp] theorem Reg.FSQ.PATCH_VER.HORIZ_slot : (Reg.FSQ.PATCH_VER.HORIZ).slot = 16 := rfl
@[simp] theorem Reg.FSQ.PATCH_VER.TWO_LEVEL_slot : (Reg.FSQ.PATCH_VER.TWO_LEVEL).slot = 16 := rfl
@[simp] theorem Reg.FSQ.ROM_ID.ROM_ID_slot : (Reg.FSQ.ROM_ID.ROM_ID).slot = 16 := rfl
@[simp] theorem Reg.RWC.STATUS.STATE_slot (i : Nat) : (Reg.RWC.STATUS.STATE i).slot = 17 := rfl
@[simp] theorem Reg.RWC.STATUS.OUT_slot (i : Nat) : (Reg.RWC.STATUS.OUT i).slot = 17 := rfl
@[simp] theorem Reg.RWC.STATUS.FROZEN_slot (i : Nat) : (Reg.RWC.STATUS.FROZEN i).slot = 17 := rfl
@[simp] theorem Reg.RWC.STATUS.T_LOCK_slot (i : Nat) : (Reg.RWC.STATUS.T_LOCK i).slot = 17 := rfl
@[simp] theorem Reg.RWC.STATUS.MSE_slot (i : Nat) : (Reg.RWC.STATUS.MSE i).slot = 17 := rfl
@[simp] theorem Reg.RWC.LOOPS.GAIN_slot (i : Nat) : (Reg.RWC.LOOPS.GAIN i).slot = 17 := rfl
@[simp] theorem Reg.RWC.LOOPS.OFFSET_slot (i : Nat) : (Reg.RWC.LOOPS.OFFSET i).slot = 17 := rfl
@[simp] theorem Reg.RWC.LOOPS.ASYM_slot (i : Nat) : (Reg.RWC.LOOPS.ASYM i).slot = 17 := rfl
@[simp] theorem Reg.RWC.LOOPS.FREQ_slot (i : Nat) : (Reg.RWC.LOOPS.FREQ i).slot = 17 := rfl
@[simp] theorem Reg.RWC.COUNTS.SECTORS_slot (i : Nat) : (Reg.RWC.COUNTS.SECTORS i).slot = 17 := rfl
@[simp] theorem Reg.RWC.COUNTS.LOS_slot (i : Nat) : (Reg.RWC.COUNTS.LOS i).slot = 17 := rfl
@[simp] theorem Reg.RWC.COUNTS.STOPPED_slot (i : Nat) : (Reg.RWC.COUNTS.STOPPED i).slot = 17 := rfl
@[simp] theorem Reg.LDP.ENGINES.IN_SERVICE_slot : (Reg.LDP.ENGINES.IN_SERVICE).slot = 18 := rfl
@[simp] theorem Reg.LDP.ENGINES.BUSY_slot : (Reg.LDP.ENGINES.BUSY).slot = 18 := rfl
@[simp] theorem Reg.LDP.ENGINES.REMOVED_slot : (Reg.LDP.ENGINES.REMOVED).slot = 18 := rfl
@[simp] theorem Reg.LDP.ENGINES.CAUSE_slot : (Reg.LDP.ENGINES.CAUSE).slot = 18 := rfl
@[simp] theorem Reg.LDP.QUOTA.CH_MAX_slot : (Reg.LDP.QUOTA.CH_MAX).slot = 18 := rfl
@[simp] theorem Reg.LDP.QUOTA.RETRY_MAX_slot : (Reg.LDP.QUOTA.RETRY_MAX).slot = 18 := rfl
@[simp] theorem Reg.LDP.QUOTA.OTF_LIMIT_slot : (Reg.LDP.QUOTA.OTF_LIMIT).slot = 18 := rfl
@[simp] theorem Reg.LDP.QUOTA.RETRY_ITER_slot : (Reg.LDP.QUOTA.RETRY_ITER).slot = 18 := rfl
@[simp] theorem Reg.LDP.STORE.CH0_HELD_slot : (Reg.LDP.STORE.CH0_HELD).slot = 18 := rfl
@[simp] theorem Reg.LDP.STORE.CH1_HELD_slot : (Reg.LDP.STORE.CH1_HELD).slot = 18 := rfl
@[simp] theorem Reg.LDP.STORE.CH2_HELD_slot : (Reg.LDP.STORE.CH2_HELD).slot = 18 := rfl
@[simp] theorem Reg.LDP.STORE.CH3_HELD_slot : (Reg.LDP.STORE.CH3_HELD).slot = 18 := rfl
@[simp] theorem Reg.LDP.STORE.CAPPED_slot : (Reg.LDP.STORE.CAPPED).slot = 18 := rfl
@[simp] theorem Reg.LDP.COUNTS.OTF_FAIL_slot : (Reg.LDP.COUNTS.OTF_FAIL).slot = 18 := rfl
@[simp] theorem Reg.LDP.COUNTS.MISCORR_slot : (Reg.LDP.COUNTS.MISCORR).slot = 18 := rfl
@[simp] theorem Reg.LDP.COUNTS.EXPIRED_slot : (Reg.LDP.COUNTS.EXPIRED).slot = 18 := rfl
@[simp] theorem Reg.EAC.STATUS.TYPE_A_slot : (Reg.EAC.STATUS.TYPE_A).slot = 19 := rfl
@[simp] theorem Reg.EAC.STATUS.TYPE_B_slot : (Reg.EAC.STATUS.TYPE_B).slot = 19 := rfl
@[simp] theorem Reg.EAC.STATUS.CAL_BUSY_slot : (Reg.EAC.STATUS.CAL_BUSY).slot = 19 := rfl
@[simp] theorem Reg.EAC.STATUS.FAULT_slot : (Reg.EAC.STATUS.FAULT).slot = 19 := rfl
@[simp] theorem Reg.EAC.STATUS.FAULT_HEAD_slot : (Reg.EAC.STATUS.FAULT_HEAD).slot = 19 := rfl
@[simp] theorem Reg.EAC.STATUS.CAL_HEAD_slot : (Reg.EAC.STATUS.CAL_HEAD).slot = 19 := rfl
@[simp] theorem Reg.EAC.HEAD.WRITE_CUR_slot (i : Nat) : (Reg.EAC.HEAD.WRITE_CUR i).slot = 19 := rfl
@[simp] theorem Reg.EAC.HEAD.STANDBY_CUR_slot (i : Nat) : (Reg.EAC.HEAD.STANDBY_CUR i).slot = 19 := rfl
@[simp] theorem Reg.EAC.HEAD.AT_LIMIT_slot (i : Nat) : (Reg.EAC.HEAD.AT_LIMIT i).slot = 19 := rfl
@[simp] theorem Reg.EAC.HEAD.RECAL_DUE_slot (i : Nat) : (Reg.EAC.HEAD.RECAL_DUE i).slot = 19 := rfl
@[simp] theorem Reg.STE.STATUS.REBUILDING_slot : (Reg.STE.STATUS.REBUILDING).slot = 14 := rfl
@[simp] theorem Reg.STE.STATUS.RAISED_slot : (Reg.STE.STATUS.RAISED).slot = 14 := rfl
@[simp] theorem Reg.STE.STATUS.RESHAPING_slot : (Reg.STE.STATUS.RESHAPING).slot = 14 := rfl
@[simp] theorem Reg.STE.STATUS.RELOCATING_slot : (Reg.STE.STATUS.RELOCATING).slot = 14 := rfl
@[simp] theorem Reg.STE.STATUS.DEGRADED_slot : (Reg.STE.STATUS.DEGRADED).slot = 14 := rfl
@[simp] theorem Reg.STE.STATUS.LOST_ROWS_slot : (Reg.STE.STATUS.LOST_ROWS).slot = 14 := rfl
@[simp] theorem Reg.STE.STATUS.LIST_FULL_slot : (Reg.STE.STATUS.LIST_FULL).slot = 14 := rfl
@[simp] theorem Reg.STE.STATUS.JBAND_MOVING_slot : (Reg.STE.STATUS.JBAND_MOVING).slot = 14 := rfl
@[simp] theorem Reg.STE.STATUS.SPARE_MIN_slot : (Reg.STE.STATUS.SPARE_MIN).slot = 14 := rfl
@[simp] theorem Reg.STE.STATUS.RETIRED_slot : (Reg.STE.STATUS.RETIRED).slot = 14 := rfl
@[simp] theorem Reg.STE.RETIRED_MAP.SURF_slot : (Reg.STE.RETIRED_MAP.SURF).slot = 14 := rfl
@[simp] theorem Reg.STE.MOVE.ZONES_LEFT_slot : (Reg.STE.MOVE.ZONES_LEFT).slot = 14 := rfl
@[simp] theorem Reg.STE.MOVE.SHARE_slot : (Reg.STE.MOVE.SHARE).slot = 14 := rfl
@[simp] theorem Reg.STE.MOVE.IN_PLACE_slot : (Reg.STE.MOVE.IN_PLACE).slot = 14 := rfl
@[simp] theorem Reg.STE.JOURNAL.LIVE_slot : (Reg.STE.JOURNAL.LIVE).slot = 14 := rfl
@[simp] theorem Reg.STE.JOURNAL.BAND_A_OK_slot : (Reg.STE.JOURNAL.BAND_A_OK).slot = 14 := rfl
@[simp] theorem Reg.STE.JOURNAL.BAND_B_OK_slot : (Reg.STE.JOURNAL.BAND_B_OK).slot = 14 := rfl
@[simp] theorem Reg.STE.JOURNAL.SURF_A_slot : (Reg.STE.JOURNAL.SURF_A).slot = 14 := rfl
@[simp] theorem Reg.STE.JOURNAL.SURF_B_slot : (Reg.STE.JOURNAL.SURF_B).slot = 14 := rfl
@[simp] theorem Reg.STE.JOURNAL.REPLAY_SRC_slot : (Reg.STE.JOURNAL.REPLAY_SRC).slot = 14 := rfl
@[simp] theorem Reg.STE.JOURNAL.CHEST_STATE_slot : (Reg.STE.JOURNAL.CHEST_STATE).slot = 14 := rfl
@[simp] theorem Reg.STE.SIDEBOARD.FILLING_slot : (Reg.STE.SIDEBOARD.FILLING).slot = 14 := rfl
@[simp] theorem Reg.STE.SIDEBOARD.IN_FLIGHT_slot : (Reg.STE.SIDEBOARD.IN_FLIGHT).slot = 14 := rfl
@[simp] theorem Reg.STE.SIDEBOARD.STALLED_slot : (Reg.STE.SIDEBOARD.STALLED).slot = 14 := rfl
@[simp] theorem Reg.STE.COUNTS.DEGRADED_slot : (Reg.STE.COUNTS.DEGRADED).slot = 14 := rfl
@[simp] theorem Reg.STE.COUNTS.RELOCS_slot : (Reg.STE.COUNTS.RELOCS).slot = 14 := rfl
@[simp] theorem Reg.STE.COUNTS.CHECK_FAIL_slot : (Reg.STE.COUNTS.CHECK_FAIL).slot = 14 := rfl
@[simp] theorem Reg.STE.COUNTS.ROWS_LOST_slot : (Reg.STE.COUNTS.ROWS_LOST).slot = 14 := rfl
@[simp] theorem Reg.STE.LAYOUT.D_slot : (Reg.STE.LAYOUT.D).slot = 14 := rfl
@[simp] theorem Reg.STE.LAYOUT.SPARE_slot : (Reg.STE.LAYOUT.SPARE).slot = 14 := rfl
@[simp] theorem Reg.STE.LAYOUT.BUILTIN_slot : (Reg.STE.LAYOUT.BUILTIN).slot = 14 := rfl
@[simp] theorem Reg.STE.LAYOUT.ROWS_slot : (Reg.STE.LAYOUT.ROWS).slot = 14 := rfl
@[simp] theorem Reg.STE.LAYOUT.U_slot : (Reg.STE.LAYOUT.U).slot = 14 := rfl
@[simp] theorem Reg.MEC.STATUS.UE_slot : (Reg.MEC.STATUS.UE).slot = 12 := rfl
@[simp] theorem Reg.MEC.STATUS.UE_MEM_slot : (Reg.MEC.STATUS.UE_MEM).slot = 12 := rfl
@[simp] theorem Reg.MEC.STATUS.SCRUB_SRAM_slot : (Reg.MEC.STATUS.SCRUB_SRAM).slot = 12 := rfl
@[simp] theorem Reg.MEC.STATUS.SCRUB_DRAM_slot : (Reg.MEC.STATUS.SCRUB_DRAM).slot = 12 := rfl
@[simp] theorem Reg.MEC.STATUS.BUCKET_OVF_slot : (Reg.MEC.STATUS.BUCKET_OVF).slot = 12 := rfl
@[simp] theorem Reg.MEC.STATUS.SPARE_LOW_slot : (Reg.MEC.STATUS.SPARE_LOW).slot = 12 := rfl
@[simp] theorem Reg.MEC.STATUS.POOL_EMPTY_slot : (Reg.MEC.STATUS.POOL_EMPTY).slot = 12 := rfl
@[simp] theorem Reg.MEC.UE_ADDR.ADDR_slot : (Reg.MEC.UE_ADDR.ADDR).slot = 12 := rfl
@[simp] theorem Reg.MEC.FLIP_CTRL.ARM_slot : (Reg.MEC.FLIP_CTRL.ARM).slot = 12 := rfl
@[simp] theorem Reg.MEC.FLIP_CTRL.MEM_slot : (Reg.MEC.FLIP_CTRL.MEM).slot = 12 := rfl
@[simp] theorem Reg.MEC.FLIP_CTRL.MATCH_slot : (Reg.MEC.FLIP_CTRL.MATCH).slot = 12 := rfl
@[simp] theorem Reg.MEC.FLIP_CTRL.DONE_slot : (Reg.MEC.FLIP_CTRL.DONE).slot = 12 := rfl
@[simp] theorem Reg.MEC.FLIP_CTRL.SRAM_MASK_slot : (Reg.MEC.FLIP_CTRL.SRAM_MASK).slot = 12 := rfl
@[simp] theorem Reg.MEC.FLIP_SYM.SYM0_slot : (Reg.MEC.FLIP_SYM.SYM0).slot = 12 := rfl
@[simp] theorem Reg.MEC.FLIP_SYM.PAT0_slot : (Reg.MEC.FLIP_SYM.PAT0).slot = 12 := rfl
@[simp] theorem Reg.MEC.FLIP_SYM.SYM1_slot : (Reg.MEC.FLIP_SYM.SYM1).slot = 12 := rfl
@[simp] theorem Reg.MEC.FLIP_SYM.PAT1_slot : (Reg.MEC.FLIP_SYM.PAT1).slot = 12 := rfl
@[simp] theorem Reg.MEC.FLIP_ADDR.ADDR_slot : (Reg.MEC.FLIP_ADDR.ADDR).slot = 12 := rfl
@[simp] theorem Reg.MEC.SCRUB_CTRL.START_SRAM_slot : (Reg.MEC.SCRUB_CTRL.START_SRAM).slot = 12 := rfl
@[simp] theorem Reg.MEC.SCRUB_CTRL.START_DRAM_slot : (Reg.MEC.SCRUB_CTRL.START_DRAM).slot = 12 := rfl
@[simp] theorem Reg.MEC.SCRUB_CTRL.INTERVAL_H_slot : (Reg.MEC.SCRUB_CTRL.INTERVAL_H).slot = 12 := rfl
@[simp] theorem Reg.MEC.SCRUB_SUM_SRAM.CORR_slot : (Reg.MEC.SCRUB_SUM_SRAM.CORR).slot = 12 := rfl
@[simp] theorem Reg.MEC.SCRUB_SUM_SRAM.UE_slot : (Reg.MEC.SCRUB_SUM_SRAM.UE).slot = 12 := rfl
@[simp] theorem Reg.MEC.SCRUB_SUM_SRAM.COMPLETE_slot : (Reg.MEC.SCRUB_SUM_SRAM.COMPLETE).slot = 12 := rfl
@[simp] theorem Reg.MEC.SCRUB_SUM_SRAM.TRIGGERED_slot : (Reg.MEC.SCRUB_SUM_SRAM.TRIGGERED).slot = 12 := rfl
@[simp] theorem Reg.MEC.SCRUB_SUM_DRAM.CORR_slot : (Reg.MEC.SCRUB_SUM_DRAM.CORR).slot = 12 := rfl
@[simp] theorem Reg.MEC.SCRUB_SUM_DRAM.UE_slot : (Reg.MEC.SCRUB_SUM_DRAM.UE).slot = 12 := rfl
@[simp] theorem Reg.MEC.SCRUB_SUM_DRAM.COMPLETE_slot : (Reg.MEC.SCRUB_SUM_DRAM.COMPLETE).slot = 12 := rfl
@[simp] theorem Reg.MEC.SCRUB_SUM_DRAM.TRIGGERED_slot : (Reg.MEC.SCRUB_SUM_DRAM.TRIGGERED).slot = 12 := rfl
@[simp] theorem Reg.MEC.BUCKET_SRAM.LEVEL_slot : (Reg.MEC.BUCKET_SRAM.LEVEL).slot = 12 := rfl
@[simp] theorem Reg.MEC.BUCKET_SRAM.OVERFLOWS_slot : (Reg.MEC.BUCKET_SRAM.OVERFLOWS).slot = 12 := rfl
@[simp] theorem Reg.MEC.BUCKET_DRAM.LEVEL_slot : (Reg.MEC.BUCKET_DRAM.LEVEL).slot = 12 := rfl
@[simp] theorem Reg.MEC.BUCKET_DRAM.OVERFLOWS_slot : (Reg.MEC.BUCKET_DRAM.OVERFLOWS).slot = 12 := rfl
@[simp] theorem Reg.MEC.TRACK.USED_slot : (Reg.MEC.TRACK.USED).slot = 12 := rfl
@[simp] theorem Reg.MEC.TRACK.WRITEBACKS_slot : (Reg.MEC.TRACK.WRITEBACKS).slot = 12 := rfl
@[simp] theorem Reg.MEC.TRACK.HARD_slot : (Reg.MEC.TRACK.HARD).slot = 12 := rfl
@[simp] theorem Reg.MEC.TRACK.REPLACED_slot : (Reg.MEC.TRACK.REPLACED).slot = 12 := rfl
@[simp] theorem Reg.MEC.SPARE.SRAM_MIN_slot : (Reg.MEC.SPARE.SRAM_MIN).slot = 12 := rfl
@[simp] theorem Reg.MEC.SPARE.POOL_LEFT_slot : (Reg.MEC.SPARE.POOL_LEFT).slot = 12 := rfl
@[simp] theorem Reg.MEC.RETIRED.DRAM_PAGES_slot : (Reg.MEC.RETIRED.DRAM_PAGES).slot = 12 := rfl
@[simp] theorem Reg.MEC.RETIRED.SRAM_ROWS_slot : (Reg.MEC.RETIRED.SRAM_ROWS).slot = 12 := rfl
@[simp] theorem Reg.BFM.DRAM_CFG.CAPACITY_slot : (Reg.BFM.DRAM_CFG.CAPACITY).slot = 11 := rfl
@[simp] theorem Reg.BFM.DRAM_CFG.RATE_slot : (Reg.BFM.DRAM_CFG.RATE).slot = 11 := rfl
@[simp] theorem Reg.BFM.DRAM_CFG.DENSITY_slot : (Reg.BFM.DRAM_CFG.DENSITY).slot = 11 := rfl
@[simp] theorem Reg.BFM.DRAM_CFG.USABLE_slot : (Reg.BFM.DRAM_CFG.USABLE).slot = 11 := rfl
@[simp] theorem Reg.BFM.DRAM_TRAIN.TRAINED_slot : (Reg.BFM.DRAM_TRAIN.TRAINED).slot = 11 := rfl
@[simp] theorem Reg.BFM.DRAM_TRAIN.RESTORED_slot : (Reg.BFM.DRAM_TRAIN.RESTORED).slot = 11 := rfl
@[simp] theorem Reg.BFM.CACHE.PROT_DIRTY_slot : (Reg.BFM.CACHE.PROT_DIRTY).slot = 11 := rfl
@[simp] theorem Reg.BFM.CACHE.UNPROT_DIRTY_slot : (Reg.BFM.CACHE.UNPROT_DIRTY).slot = 11 := rfl
@[simp] theorem Reg.BFM.CACHE.PROT_WAIT_slot : (Reg.BFM.CACHE.PROT_WAIT).slot = 11 := rfl
@[simp] theorem Reg.BFM.CACHE.UNPROT_WAIT_slot : (Reg.BFM.CACHE.UNPROT_WAIT).slot = 11 := rfl
@[simp] theorem Reg.BFM.PROT_LIMIT.LIMIT_slot : (Reg.BFM.PROT_LIMIT.LIMIT).slot = 11 := rfl
@[simp] theorem Reg.BFM.WINDOW.DIRTY_slot : (Reg.BFM.WINDOW.DIRTY).slot = 11 := rfl
@[simp] theorem Reg.BFM.WINDOW.VALID_slot : (Reg.BFM.WINDOW.VALID).slot = 11 := rfl
@[simp] theorem Reg.BFM.CHEST.DEV0_slot : (Reg.BFM.CHEST.DEV0).slot = 11 := rfl
@[simp] theorem Reg.BFM.CHEST.DEV1_slot : (Reg.BFM.CHEST.DEV1).slot = 11 := rfl
@[simp] theorem Reg.BFM.CHEST.STATE_slot : (Reg.BFM.CHEST.STATE).slot = 11 := rfl
@[simp] theorem Reg.BFM.CHEST.SAVING_slot : (Reg.BFM.CHEST.SAVING).slot = 11 := rfl
@[simp] theorem Reg.BFM.CHEST.RESTORING_slot : (Reg.BFM.CHEST.RESTORING).slot = 11 := rfl
@[simp] theorem Reg.BFM.CHEST.BAD0_slot : (Reg.BFM.CHEST.BAD0).slot = 11 := rfl
@[simp] theorem Reg.BFM.CHEST.BAD1_slot : (Reg.BFM.CHEST.BAD1).slot = 11 := rfl
@[simp] theorem Reg.DMA.RING_CFG.BASE_slot (i : Nat) : (Reg.DMA.RING_CFG.BASE i).slot = 13 := rfl
@[simp] theorem Reg.DMA.RING_CFG.SIZE_slot (i : Nat) : (Reg.DMA.RING_CFG.SIZE i).slot = 13 := rfl
@[simp] theorem Reg.DMA.RING_CFG.EN_slot (i : Nat) : (Reg.DMA.RING_CFG.EN i).slot = 13 := rfl
@[simp] theorem Reg.DMA.RING_CFG.KICK_slot (i : Nat) : (Reg.DMA.RING_CFG.KICK i).slot = 13 := rfl
@[simp] theorem Reg.DMA.RING_CFG.ABORT_slot (i : Nat) : (Reg.DMA.RING_CFG.ABORT i).slot = 13 := rfl
@[simp] theorem Reg.DMA.RING_CFG.RATE_slot (i : Nat) : (Reg.DMA.RING_CFG.RATE i).slot = 13 := rfl
@[simp] theorem Reg.DMA.RING_STATUS.HEAD_slot (i : Nat) : (Reg.DMA.RING_STATUS.HEAD i).slot = 13 := rfl
@[simp] theorem Reg.DMA.RING_STATUS.BUSY_slot (i : Nat) : (Reg.DMA.RING_STATUS.BUSY i).slot = 13 := rfl
@[simp] theorem Reg.DMA.RING_STATUS.HALTED_slot (i : Nat) : (Reg.DMA.RING_STATUS.HALTED i).slot = 13 := rfl
@[simp] theorem Reg.DMA.RING_STATUS.LAST_STATUS_slot (i : Nat) : (Reg.DMA.RING_STATUS.LAST_STATUS i).slot = 13 := rfl
@[simp] theorem Reg.DMA.STR_STATUS.ACTIVE_slot (i : Nat) : (Reg.DMA.STR_STATUS.ACTIVE i).slot = 13 := rfl
@[simp] theorem Reg.DMA.STR_STATUS.SHADOW_VALID_slot (i : Nat) : (Reg.DMA.STR_STATUS.SHADOW_VALID i).slot = 13 := rfl
@[simp] theorem Reg.DMA.STR_STATUS.HALTED_slot (i : Nat) : (Reg.DMA.STR_STATUS.HALTED i).slot = 13 := rfl
@[simp] theorem Reg.DMA.STR_STATUS.SHADOW_ERR_slot (i : Nat) : (Reg.DMA.STR_STATUS.SHADOW_ERR i).slot = 13 := rfl
@[simp] theorem Reg.DMA.STR_STATUS.ROWS_DONE_slot (i : Nat) : (Reg.DMA.STR_STATUS.ROWS_DONE i).slot = 13 := rfl
@[simp] theorem Reg.DMA.HALT_INFO.CHANNEL_slot : (Reg.DMA.HALT_INFO.CHANNEL).slot = 13 := rfl
@[simp] theorem Reg.DMA.HALT_INFO.SRC_SP_slot : (Reg.DMA.HALT_INFO.SRC_SP).slot = 13 := rfl
@[simp] theorem Reg.DMA.HALT_INFO.BYTES_slot : (Reg.DMA.HALT_INFO.BYTES).slot = 13 := rfl
@[simp] theorem Reg.DMA.HALT_ADDR.ADDR_slot : (Reg.DMA.HALT_ADDR.ADDR).slot = 13 := rfl
@[simp] theorem Reg.DMA.EV_OVF_LO.OVF_slot : (Reg.DMA.EV_OVF_LO.OVF).slot = 13 := rfl
@[simp] theorem Reg.DMA.EV_OVF_HI.OVF_slot : (Reg.DMA.EV_OVF_HI.OVF).slot = 13 := rfl
@[simp] theorem Reg.ZMU.CTRL.ENABLE_slot : (Reg.ZMU.CTRL.ENABLE).slot = 10 := rfl
@[simp] theorem Reg.ZMU.CTRL.FLUSHING_slot : (Reg.ZMU.CTRL.FLUSHING).slot = 10 := rfl
@[simp] theorem Reg.ZMU.CTRL.CLEAN_slot : (Reg.ZMU.CTRL.CLEAN).slot = 10 := rfl
@[simp] theorem Reg.ZMU.CACHE_STATUS.VALID_slot : (Reg.ZMU.CACHE_STATUS.VALID).slot = 10 := rfl
@[simp] theorem Reg.ZMU.CACHE_STATUS.DIRTY_slot : (Reg.ZMU.CACHE_STATUS.DIRTY).slot = 10 := rfl
@[simp] theorem Reg.ZMU.CACHE_STATUS.LOCKED_slot : (Reg.ZMU.CACHE_STATUS.LOCKED).slot = 10 := rfl
@[simp] theorem Reg.ZMU.CACHE_STATUS.MISS_BUSY_slot : (Reg.ZMU.CACHE_STATUS.MISS_BUSY).slot = 10 := rfl
@[simp] theorem Reg.ZMU.PRELOAD.LINE_slot : (Reg.ZMU.PRELOAD.LINE).slot = 10 := rfl
@[simp] theorem Reg.ZMU.PRELOAD.LOCK_slot : (Reg.ZMU.PRELOAD.LOCK).slot = 10 := rfl
@[simp] theorem Reg.ZMU.PRELOAD.GO_slot : (Reg.ZMU.PRELOAD.GO).slot = 10 := rfl
@[simp] theorem Reg.ZMU.PRELOAD.REJECTED_slot : (Reg.ZMU.PRELOAD.REJECTED).slot = 10 := rfl
@[simp] theorem Reg.ZMU.UNLOCK.INDEX_slot : (Reg.ZMU.UNLOCK.INDEX).slot = 10 := rfl
@[simp] theorem Reg.ZMU.UNLOCK.ALL_slot : (Reg.ZMU.UNLOCK.ALL).slot = 10 := rfl
@[simp] theorem Reg.ZMU.UNLOCK.GO_slot : (Reg.ZMU.UNLOCK.GO).slot = 10 := rfl
@[simp] theorem Reg.ZMU.HITS.HITS_slot : (Reg.ZMU.HITS.HITS).slot = 10 := rfl
@[simp] theorem Reg.ZMU.MISSES.PRIMARY_slot : (Reg.ZMU.MISSES.PRIMARY).slot = 10 := rfl
@[simp] theorem Reg.ZMU.MISSES.MERGED_slot : (Reg.ZMU.MISSES.MERGED).slot = 10 := rfl
@[simp] theorem Reg.ZMU.MISSES.EVICT_WAIT_slot : (Reg.ZMU.MISSES.EVICT_WAIT).slot = 10 := rfl
@[simp] theorem Reg.ZMU.MCACHE.EXTENTS_slot : (Reg.ZMU.MCACHE.EXTENTS).slot = 10 := rfl
@[simp] theorem Reg.ZMU.MCACHE.FILL_slot : (Reg.ZMU.MCACHE.FILL).slot = 10 := rfl
@[simp] theorem Reg.ZMU.MCACHE.CLEANING_slot : (Reg.ZMU.MCACHE.CLEANING).slot = 10 := rfl
@[simp] theorem Reg.ZMU.MCACHE.FREE_slot : (Reg.ZMU.MCACHE.FREE).slot = 10 := rfl
@[simp] theorem Reg.ZMU.LAYOUT.ZONES_slot : (Reg.ZMU.LAYOUT.ZONES).slot = 10 := rfl
@[simp] theorem Reg.ZMU.LAYOUT.POOL_slot : (Reg.ZMU.LAYOUT.POOL).slot = 10 := rfl
@[simp] theorem Reg.ZMU.NAMESPACES.CONV_slot : (Reg.ZMU.NAMESPACES.CONV).slot = 10 := rfl
@[simp] theorem Reg.ZMU.NAMESPACES.ZONED_slot : (Reg.ZMU.NAMESPACES.ZONED).slot = 10 := rfl
@[simp] theorem Reg.CQU.FETCH.FSN_slot : (Reg.CQU.FETCH.FSN).slot = 9 := rfl
@[simp] theorem Reg.CQU.INFLIGHT.ADMIN_slot : (Reg.CQU.INFLIGHT.ADMIN).slot = 9 := rfl
@[simp] theorem Reg.CQU.INFLIGHT.IO_slot : (Reg.CQU.INFLIGHT.IO).slot = 9 := rfl
@[simp] theorem Reg.CQU.INFLIGHT.FETCH_STOPPED_slot : (Reg.CQU.INFLIGHT.FETCH_STOPPED).slot = 9 := rfl
@[simp] theorem Reg.CQU.HATRACK.ENTRIES_slot : (Reg.CQU.HATRACK.ENTRIES).slot = 9 := rfl
@[simp] theorem Reg.CQU.HATRACK.READERS_WAITING_slot : (Reg.CQU.HATRACK.READERS_WAITING).slot = 9 := rfl
@[simp] theorem Reg.CQU.HATRACK.WRITERS_WAITING_slot : (Reg.CQU.HATRACK.WRITERS_WAITING).slot = 9 := rfl
@[simp] theorem Reg.CQU.ARBITER.COMMITTED_slot : (Reg.CQU.ARBITER.COMMITTED).slot = 9 := rfl
@[simp] theorem Reg.CQU.ARBITER.ABORTED_slot : (Reg.CQU.ARBITER.ABORTED).slot = 9 := rfl
@[simp] theorem Reg.CQU.ARBITER.NOT_ABORTED_slot : (Reg.CQU.ARBITER.NOT_ABORTED).slot = 9 := rfl
@[simp] theorem Reg.CQU.CACHE_WAIT.PROT_slot : (Reg.CQU.CACHE_WAIT.PROT).slot = 9 := rfl
@[simp] theorem Reg.CQU.CACHE_WAIT.UNPROT_slot : (Reg.CQU.CACHE_WAIT.UNPROT).slot = 9 := rfl
@[simp] theorem Reg.MSC.QUEUE_A.CLASS1_slot : (Reg.MSC.QUEUE_A.CLASS1).slot = 15 := rfl
@[simp] theorem Reg.MSC.QUEUE_A.CLASS2_slot : (Reg.MSC.QUEUE_A.CLASS2).slot = 15 := rfl
@[simp] theorem Reg.MSC.QUEUE_A.CLASS3_slot : (Reg.MSC.QUEUE_A.CLASS3).slot = 15 := rfl
@[simp] theorem Reg.MSC.QUEUE_A.CLASS4_slot : (Reg.MSC.QUEUE_A.CLASS4).slot = 15 := rfl
@[simp] theorem Reg.MSC.QUEUE_A.CLASS5_slot : (Reg.MSC.QUEUE_A.CLASS5).slot = 15 := rfl
@[simp] theorem Reg.MSC.QUEUE_A.CLASS6_slot : (Reg.MSC.QUEUE_A.CLASS6).slot = 15 := rfl
@[simp] theorem Reg.MSC.QUEUE_B.CLASS1_slot : (Reg.MSC.QUEUE_B.CLASS1).slot = 15 := rfl
@[simp] theorem Reg.MSC.QUEUE_B.CLASS2_slot : (Reg.MSC.QUEUE_B.CLASS2).slot = 15 := rfl
@[simp] theorem Reg.MSC.QUEUE_B.CLASS3_slot : (Reg.MSC.QUEUE_B.CLASS3).slot = 15 := rfl
@[simp] theorem Reg.MSC.QUEUE_B.CLASS4_slot : (Reg.MSC.QUEUE_B.CLASS4).slot = 15 := rfl
@[simp] theorem Reg.MSC.QUEUE_B.CLASS5_slot : (Reg.MSC.QUEUE_B.CLASS5).slot = 15 := rfl
@[simp] theorem Reg.MSC.QUEUE_B.CLASS6_slot : (Reg.MSC.QUEUE_B.CLASS6).slot = 15 := rfl
@[simp] theorem Reg.MSC.AGED.READS_slot : (Reg.MSC.AGED.READS).slot = 15 := rfl
@[simp] theorem Reg.MSC.AGED.WRITES_slot : (Reg.MSC.AGED.WRITES).slot = 15 := rfl
@[simp] theorem Reg.MSC.LIMIT.LIMIT_slot : (Reg.MSC.LIMIT.LIMIT).slot = 15 := rfl
@[simp] theorem Reg.MSC.LIMIT.ENGINES_slot : (Reg.MSC.LIMIT.ENGINES).slot = 15 := rfl
@[simp] theorem Reg.HPT.LINK.SPEED_slot : (Reg.HPT.LINK.SPEED).slot = 8 := rfl
@[simp] theorem Reg.HPT.LINK.WIDTH_slot : (Reg.HPT.LINK.WIDTH).slot = 8 := rfl
@[simp] theorem Reg.HPT.LINK.DSTATE_slot : (Reg.HPT.LINK.DSTATE).slot = 8 := rfl
@[simp] theorem Reg.HPT.LINK.PM_LINK_slot : (Reg.HPT.LINK.PM_LINK).slot = 8 := rfl
@[simp] theorem Reg.HPT.LINK.SEP_REF_slot : (Reg.HPT.LINK.SEP_REF).slot = 8 := rfl
@[simp] theorem Reg.HPT.LINK.SRIS_slot : (Reg.HPT.LINK.SRIS).slot = 8 := rfl
@[simp] theorem Reg.HPT.LINK.IN_RESET_slot : (Reg.HPT.LINK.IN_RESET).slot = 8 := rfl
@[simp] theorem Reg.HPT.LINK.KEYS_LOADED_slot : (Reg.HPT.LINK.KEYS_LOADED).slot = 8 := rfl
@[simp] theorem Reg.HPT.LB_CTRL.DEPTH_slot : (Reg.HPT.LB_CTRL.DEPTH).slot = 8 := rfl
@[simp] theorem Reg.HPT.LB_CTRL.PRBS_slot : (Reg.HPT.LB_CTRL.PRBS).slot = 8 := rfl
@[simp] theorem Reg.HPT.LB_CTRL.RATE_slot : (Reg.HPT.LB_CTRL.RATE).slot = 8 := rfl
@[simp] theorem Reg.HPT.LB_CTRL.RUN_slot : (Reg.HPT.LB_CTRL.RUN).slot = 8 := rfl
@[simp] theorem Reg.HPT.LB_CTRL.DONE_slot : (Reg.HPT.LB_CTRL.DONE).slot = 8 := rfl
@[simp] theorem Reg.HPT.LB_CTRL.FAIL_slot : (Reg.HPT.LB_CTRL.FAIL).slot = 8 := rfl
@[simp] theorem Reg.HPT.ERRORS.RX_ERR_slot : (Reg.HPT.ERRORS.RX_ERR).slot = 8 := rfl
@[simp] theorem Reg.HPT.ERRORS.REPLAYS_slot : (Reg.HPT.ERRORS.REPLAYS).slot = 8 := rfl
@[simp] theorem Reg.HPT.ERRORS.UR_CA_slot : (Reg.HPT.ERRORS.UR_CA).slot = 8 := rfl
@[simp] theorem Reg.HPT.RESETS.PERST_slot : (Reg.HPT.RESETS.PERST).slot = 8 := rfl
@[simp] theorem Reg.HPT.RESETS.HOT_slot : (Reg.HPT.RESETS.HOT).slot = 8 := rfl
@[simp] theorem Reg.HPT.RESETS.DOWN_slot : (Reg.HPT.RESETS.DOWN).slot = 8 := rfl
@[simp] theorem Reg.HPT.RESETS.FLR_slot : (Reg.HPT.RESETS.FLR).slot = 8 := rfl
@[simp] theorem Reg.HPT.XTS.CONV_KEYS_slot : (Reg.HPT.XTS.CONV_KEYS).slot = 8 := rfl
@[simp] theorem Reg.HPT.XTS.ZONED_KEYS_slot : (Reg.HPT.XTS.ZONED_KEYS).slot = 8 := rfl
@[simp] theorem Reg.HPT.XTS.META_KEYS_slot : (Reg.HPT.XTS.META_KEYS).slot = 8 := rfl
@[simp] theorem Reg.HPT.XTS.ENC_slot : (Reg.HPT.XTS.ENC).slot = 8 := rfl
@[simp] theorem Reg.HPT.XTS.DEC_slot : (Reg.HPT.XTS.DEC).slot = 8 := rfl
@[simp] theorem Reg.HPT.DOE.RX_slot : (Reg.HPT.DOE.RX).slot = 8 := rfl
@[simp] theorem Reg.HPT.DOE.TX_slot : (Reg.HPT.DOE.TX).slot = 8 := rfl
@[simp] theorem Reg.HPT.DOE.ABORTS_slot : (Reg.HPT.DOE.ABORTS).slot = 8 := rfl
@[simp] theorem Reg.HPT.DOE.ERRORS_slot : (Reg.HPT.DOE.ERRORS).slot = 8 := rfl
@[simp] theorem Reg.NDC.STATUS.ACTIVE_slot : (Reg.NDC.STATUS.ACTIVE).slot = 24 := rfl
@[simp] theorem Reg.NDC.STATUS.BUSY_slot : (Reg.NDC.STATUS.BUSY).slot = 24 := rfl
@[simp] theorem Reg.NDC.STATUS.WAITING_slot : (Reg.NDC.STATUS.WAITING).slot = 24 := rfl
@[simp] theorem Reg.NDC.BLOCKS.BLOCKS_slot : (Reg.NDC.BLOCKS.BLOCKS).slot = 24 := rfl
@[simp] theorem Reg.NDC.ERRORS.DESC_REJ_slot : (Reg.NDC.ERRORS.DESC_REJ).slot = 24 := rfl
@[simp] theorem Reg.NDC.ERRORS.INVALID_slot : (Reg.NDC.ERRORS.INVALID).slot = 24 := rfl
@[simp] theorem Reg.NDC.ERRORS.LOST_slot : (Reg.NDC.ERRORS.LOST).slot = 24 := rfl
@[simp] theorem Reg.PTX.STATUS.OUT_slot : (Reg.PTX.STATUS.OUT).slot = 25 := rfl
@[simp] theorem Reg.PTX.STATUS.IN_slot : (Reg.PTX.STATUS.IN).slot = 25 := rfl
@[simp] theorem Reg.PTX.STATUS.PIECES_slot : (Reg.PTX.STATUS.PIECES).slot = 25 := rfl
@[simp] theorem Reg.PTX.STATUS.TAGS_slot : (Reg.PTX.STATUS.TAGS).slot = 25 := rfl
@[simp] theorem Reg.PTX.BYTES.SENT_slot : (Reg.PTX.BYTES.SENT).slot = 25 := rfl
@[simp] theorem Reg.PTX.BYTES.RECEIVED_slot : (Reg.PTX.BYTES.RECEIVED).slot = 25 := rfl
@[simp] theorem Reg.PTX.ERRORS.PCIE_ERR_slot : (Reg.PTX.ERRORS.PCIE_ERR).slot = 25 := rfl
@[simp] theorem Reg.PTX.ERRORS.REFUSED_slot : (Reg.PTX.ERRORS.REFUSED).slot = 25 := rfl
@[simp] theorem Reg.RCU.PWR.HOST_PS_slot : (Reg.RCU.PWR.HOST_PS).slot = 0 := rfl
@[simp] theorem Reg.RCU.PWR.EFFECTIVE_slot : (Reg.RCU.PWR.EFFECTIVE).slot = 0 := rfl
@[simp] theorem Reg.RCU.PWR.TRANSITION_slot : (Reg.RCU.PWR.TRANSITION).slot = 0 := rfl
@[simp] theorem Reg.RCU.PWR.APSTE_slot : (Reg.RCU.PWR.APSTE).slot = 0 := rfl
@[simp] theorem Reg.RCU.PWR.THERM_LEVEL_slot : (Reg.RCU.PWR.THERM_LEVEL).slot = 0 := rfl
@[simp] theorem Reg.RCU.PWR.DEMAND_slot : (Reg.RCU.PWR.DEMAND).slot = 0 := rfl
@[simp] theorem Reg.RCU.THERMAL.TJ_slot : (Reg.RCU.THERMAL.TJ).slot = 0 := rfl
@[simp] theorem Reg.RCU.THERMAL.TJ_MAX_slot : (Reg.RCU.THERMAL.TJ_MAX).slot = 0 := rfl
@[simp] theorem Reg.RCU.THERMAL.ENTRIES_slot : (Reg.RCU.THERMAL.ENTRIES).slot = 0 := rfl
@[simp] theorem Reg.RCU.THERMAL.CRIT_SEEN_slot : (Reg.RCU.THERMAL.CRIT_SEEN).slot = 0 := rfl
@[simp] theorem Reg.RCU.DOM_POWER.DOM_slot (n : Nat) : (Reg.RCU.DOM_POWER.DOM n).slot = 0 := rfl
@[simp] theorem Reg.BUR.STATUS.STAGE_slot : (Reg.BUR.STATUS.STAGE).slot = 3 := rfl
@[simp] theorem Reg.BUR.STATUS.BLOCKS_slot : (Reg.BUR.STATUS.BLOCKS).slot = 3 := rfl
@[simp] theorem Reg.BUR.STATUS.CHAIN_PRESENT_slot : (Reg.BUR.STATUS.CHAIN_PRESENT).slot = 3 := rfl
@[simp] theorem Reg.BUR.STATUS.COUNTER_RESET_slot : (Reg.BUR.STATUS.COUNTER_RESET).slot = 3 := rfl
@[simp] theorem Reg.BUR.STATUS.DK_READY_slot : (Reg.BUR.STATUS.DK_READY).slot = 3 := rfl
@[simp] theorem Reg.BUR.STATUS.SIGN_BUSY_slot : (Reg.BUR.STATUS.SIGN_BUSY).slot = 3 := rfl
@[simp] theorem Reg.BUR.STATUS.CHAIN_ERR_slot : (Reg.BUR.STATUS.CHAIN_ERR).slot = 3 := rfl
@[simp] theorem Reg.BUR.COUNT_LO.COUNT_slot : (Reg.BUR.COUNT_LO.COUNT).slot = 3 := rfl
@[simp] theorem Reg.BUR.COUNT_HI.COUNT_slot : (Reg.BUR.COUNT_HI.COUNT).slot = 3 := rfl
@[simp] theorem Reg.BUR.CTRL.CHAIN_LEN_slot : (Reg.BUR.CTRL.CHAIN_LEN).slot = 3 := rfl
@[simp] theorem Reg.BUR.CTRL.COMMIT_slot : (Reg.BUR.CTRL.COMMIT).slot = 3 := rfl
@[simp] theorem Reg.CRD.STATUS.LOST_slot : (Reg.CRD.STATUS.LOST).slot = 4 := rfl
@[simp] theorem Reg.CRD.STATUS.SAT_ANY_slot : (Reg.CRD.STATUS.SAT_ANY).slot = 4 := rfl
@[simp] theorem Reg.CRD.STATUS.PERSIST_BUSY_slot : (Reg.CRD.STATUS.PERSIST_BUSY).slot = 4 := rfl
@[simp] theorem Reg.CRD.STATUS.SLOT_slot : (Reg.CRD.STATUS.SLOT).slot = 4 := rfl
@[simp] theorem Reg.CRD.STATUS.SEL_VALID_slot : (Reg.CRD.STATUS.SEL_VALID).slot = 4 := rfl
@[simp] theorem Reg.CRD.STATUS.SEL_SAT_slot : (Reg.CRD.STATUS.SEL_SAT).slot = 4 := rfl
@[simp] theorem Reg.CRD.STATUS.SATURATED_slot : (Reg.CRD.STATUS.SATURATED).slot = 4 := rfl
@[simp] theorem Reg.CRD.CTRL.CLEAR_slot : (Reg.CRD.CTRL.CLEAR).slot = 4 := rfl
@[simp] theorem Reg.CRD.CTRL.PERSIST_slot : (Reg.CRD.CTRL.PERSIST).slot = 4 := rfl
@[simp] theorem Reg.CRD.SEL.ID_slot : (Reg.CRD.SEL.ID).slot = 4 := rfl
@[simp] theorem Reg.CRD.SEL.INSTANCE_slot : (Reg.CRD.SEL.INSTANCE).slot = 4 := rfl
@[simp] theorem Reg.CRD.SEL.HIST_slot : (Reg.CRD.SEL.HIST).slot = 4 := rfl
@[simp] theorem Reg.CRD.SEL.BIN_slot : (Reg.CRD.SEL.BIN).slot = 4 := rfl
@[simp] theorem Reg.CRD.VAL_LO.VALUE_slot : (Reg.CRD.VAL_LO.VALUE).slot = 4 := rfl
@[simp] theorem Reg.CRD.VAL_HI.VALUE_slot : (Reg.CRD.VAL_HI.VALUE).slot = 4 := rfl
@[simp] theorem Reg.TST.MODE.MFG_slot : (Reg.TST.MODE.MFG).slot = 6 := rfl
@[simp] theorem Reg.TST.MODE.HOLD_slot : (Reg.TST.MODE.HOLD).slot = 6 := rfl
@[simp] theorem Reg.TST.MODE.UNSIGNED_slot : (Reg.TST.MODE.UNSIGNED).slot = 6 := rfl
@[simp] theorem Reg.TST.LB.IF_slot : (Reg.TST.LB.IF).slot = 6 := rfl
@[simp] theorem Reg.TST.LB.DEPTH_slot : (Reg.TST.LB.DEPTH).slot = 6 := rfl
@[simp] theorem Reg.TST.LB.RUN_slot : (Reg.TST.LB.RUN).slot = 6 := rfl
@[simp] theorem Reg.TST.LB.DONE_slot : (Reg.TST.LB.DONE).slot = 6 := rfl
@[simp] theorem Reg.TST.LB.FAIL_slot : (Reg.TST.LB.FAIL).slot = 6 := rfl
@[simp] theorem Reg.TST.LB.REFUSED_slot : (Reg.TST.LB.REFUSED).slot = 6 := rfl
@[simp] theorem Reg.TST.LB_ERR.ERRORS_slot : (Reg.TST.LB_ERR.ERRORS).slot = 6 := rfl
@[simp] theorem Reg.TST.FUSE.OP_slot : (Reg.TST.FUSE.OP).slot = 6 := rfl
@[simp] theorem Reg.TST.FUSE.INDEX_slot : (Reg.TST.FUSE.INDEX).slot = 6 := rfl
@[simp] theorem Reg.TST.FUSE.GO_slot : (Reg.TST.FUSE.GO).slot = 6 := rfl
@[simp] theorem Reg.TST.FUSE.DONE_slot : (Reg.TST.FUSE.DONE).slot = 6 := rfl
@[simp] theorem Reg.TST.FUSE.ERR_slot : (Reg.TST.FUSE.ERR).slot = 6 := rfl
@[simp] theorem Reg.TST.APERTURE.DROPPED_slot : (Reg.TST.APERTURE.DROPPED).slot = 6 := rfl
@[simp] theorem Reg.TST.APERTURE.UR_slot : (Reg.TST.APERTURE.UR).slot = 6 := rfl
@[simp] theorem blkBit_slot (off slot : Nat) : (blkBit off slot).slot = 0 := rfl
@[simp] theorem evOvf_slot (k : Nat) : (evOvf k).slot = 0xD := by unfold evOvf; split <;> rfl
@[simp] theorem onFld_slot (x : Act) (u : Nat) : (onFld x u).slot = 20 := by unfold onFld; split <;> rfl
@[simp] theorem headFld_slot (x : Act) (u : Nat) : (headFld x u).slot = 20 := by unfold headFld; split <;> rfl
@[simp] theorem modeFld_slot (x : Act) (u : Nat) : (modeFld x u).slot = 20 := by unfold modeFld; split <;> rfl
@[simp] theorem pesFld_slot (x : Act) (u : Nat) : (pesFld x u).slot = 20 := by unfold pesFld; split <;> rfl
@[simp] theorem bucketFlds_slot1 (m : Mem) : (bucketFlds m).1.slot = 12 := by cases m <;> rfl
@[simp] theorem bucketFlds_slot2 (m : Mem) : (bucketFlds m).2.slot = 12 := by cases m <;> rfl
@[simp] theorem scrubSum_slot1 (m : Mem) : (scrubSum m).1.slot = 12 := by cases m <;> rfl
@[simp] theorem scrubSum_slot2 (m : Mem) : (scrubSum m).2.1.slot = 12 := by cases m <;> rfl
@[simp] theorem scrubSum_slot3 (m : Mem) : (scrubSum m).2.2.1.slot = 12 := by cases m <;> rfl
@[simp] theorem scrubSum_slot4 (m : Mem) : (scrubSum m).2.2.2.slot = 12 := by cases m <;> rfl
@[simp] theorem of_linkStateFld {ps : List Part} (p : Port) (h : Part.of ps (.slot 22) = true) (h' : Part.of ps (.slot 23) = true) :
    Part.of ps (.slot (linkStateFld p).slot) = true := by cases p <;> assumption
theorem of_portFld {ps : List Part} (f : Nat → Fld) (p : Port) (hf : (f 0).slot = 22) (hf' : (f 1).slot = 22) (h : Part.of ps (.slot 22) = true)
    (h' : Part.of ps (.slot 23) = true) : Part.of ps (.slot (portFld f p).slot) = true := by
  cases p <;> simp only [portFld, hf, hf'] <;> assumption
@[simp] theorem of_portFld_BLK_ERR {ps : List Part} (p : Port) (h : Part.of ps (.slot 22) = true)
    (h' : Part.of ps (.slot 23) = true) : Part.of ps (.slot (portFld Reg.ELK.ERRORS.BLK_ERR p).slot) = true := of_portFld _ p rfl rfl h h'
@[simp] theorem of_portFld_CRC_ERR {ps : List Part} (p : Port) (h : Part.of ps (.slot 22) = true)
    (h' : Part.of ps (.slot 23) = true) : Part.of ps (.slot (portFld Reg.ELK.ERRORS.CRC_ERR p).slot) = true := of_portFld _ p rfl rfl h h'
@[simp] theorem of_portFld_REPLAYS {ps : List Part} (p : Port) (h : Part.of ps (.slot 22) = true)
    (h' : Part.of ps (.slot 23) = true) : Part.of ps (.slot (portFld Reg.ELK.ERRORS.REPLAYS p).slot) = true := of_portFld _ p rfl rfl h h'
@[simp] theorem of_portFld_DN_LANES {ps : List Part} (p : Port) (h : Part.of ps (.slot 22) = true)
    (h' : Part.of ps (.slot 23) = true) : Part.of ps (.slot (portFld Reg.ELK.STATUS.DN_LANES p).slot) = true := of_portFld _ p rfl rfl h h'
@[simp] theorem of_portFld_RETRAINS {ps : List Part} (p : Port) (h : Part.of ps (.slot 22) = true)
    (h' : Part.of ps (.slot 23) = true) : Part.of ps (.slot (portFld Reg.ELK.STATUS.RETRAINS p).slot) = true := of_portFld _ p rfl rfl h h'
@[simp] theorem of_portFld_UP_LANES {ps : List Part} (p : Port) (h : Part.of ps (.slot 22) = true)
    (h' : Part.of ps (.slot 23) = true) : Part.of ps (.slot (portFld Reg.ELK.STATUS.UP_LANES p).slot) = true := of_portFld _ p rfl rfl h h'
@[simp] theorem of_lbFlds1 {ps : List Part} (p : Port) (h : Part.of ps (.slot 22) = true)
    (h' : Part.of ps (.slot 23) = true) : Part.of ps (.slot (lbFlds p).1.slot) = true := by cases p <;> assumption
@[simp] theorem of_lbFlds2 {ps : List Part} (p : Port) (h : Part.of ps (.slot 22) = true)
    (h' : Part.of ps (.slot 23) = true) : Part.of ps (.slot (lbFlds p).2.1.slot) = true := by cases p <;> assumption
@[simp] theorem of_lbFlds3 {ps : List Part} (p : Port) (h : Part.of ps (.slot 22) = true)
    (h' : Part.of ps (.slot 23) = true) : Part.of ps (.slot (lbFlds p).2.2.1.slot) = true := by cases p <;> assumption
@[simp] theorem of_lbFlds4 {ps : List Part} (p : Port) (h : Part.of ps (.slot 22) = true)
    (h' : Part.of ps (.slot 23) = true) : Part.of ps (.slot (lbFlds p).2.2.2.1.slot) = true := by cases p <;> assumption
@[simp] theorem of_lbFlds5 {ps : List Part} (p : Port) (h : Part.of ps (.slot 22) = true)
    (h' : Part.of ps (.slot 23) = true) : Part.of ps (.slot (lbFlds p).2.2.2.2.1) = true := by cases p <;> assumption
@[simp] theorem of_ite {ps : List Part} {c : Prop} [Decidable c] (f g : Fld) : Part.of ps (.slot (if c then f else g).slot) = if c then Part.of ps (.slot f.slot) else Part.of ps (.slot g.slot) := by split <;> rfl

theorem Only.refl (ps : List Part) (s : State) : Only ps s s := by constructor <;> intros <;> rfl

@[simp] theorem of_slot {ps : List Part} {n : Nat} (h : Part.of ps .regs = true) : Part.of ps (.slot n) = true := by
  have h' : ps.contains Part.regs = true := by unfold Part.of at h; revert h; cases ps.contains Part.regs <;> simp
  unfold Part.of; rw [h']; simp

theorem only_upd_ {ps : List Part} {o : State} (t : State) pins start cfg plat opt fw patches fuses nor ident linkA linkB
    linkZ feA feB motion rep spin servoA servoB tables fsqs rwcs media defects stripe chest core buf dma zmu cqu hpt power bur
    crd tst freeCount (h : Only ps o t) (regs : RegFile) (g0 : Part.of ps .regs = true ∨ regs = t.regs)
    (g_pins : Part.of ps .pins = true ∨ pins = t.pins)
    (g_start : Part.of ps .start = true ∨ start = t.start)
    (g_cfg : Part.of ps .cfg = true ∨ cfg = t.cfg)
    (g_plat : Part.of ps .plat = true ∨ plat = t.plat)
    (g_opt : Part.of ps .opt = true ∨ opt = t.opt)
    (g_fw : Part.of ps .fw = true ∨ fw = t.fw)
    (g_patches : Part.of ps .patches = true ∨ patches = t.patches)
    (g_fuses : Part.of ps .fuses = true ∨ fuses = t.fuses)
    (g_nor : Part.of ps .nor = true ∨ nor = t.nor)
    (g_ident : Part.of ps .ident = true ∨ ident = t.ident)
    (g_linkA : Part.of ps .linkA = true ∨ linkA = t.linkA)
    (g_linkB : Part.of ps .linkB = true ∨ linkB = t.linkB)
    (g_linkZ : Part.of ps .linkZ = true ∨ linkZ = t.linkZ)
    (g_feA : Part.of ps .feA = true ∨ feA = t.feA)
    (g_feB : Part.of ps .feB = true ∨ feB = t.feB)
    (g_motion : Part.of ps .motion = true ∨ motion = t.motion)
    (g_rep : Part.of ps .rep = true ∨ rep = t.rep)
    (g_spin : Part.of ps .spin = true ∨ spin = t.spin)
    (g_servoA : Part.of ps .servoA = true ∨ servoA = t.servoA)
    (g_servoB : Part.of ps .servoB = true ∨ servoB = t.servoB)
    (g_tables : Part.of ps .tables = true ∨ tables = t.tables)
    (g_fsqs : Part.of ps .fsqs = true ∨ fsqs = t.fsqs)
    (g_rwcs : Part.of ps .rwcs = true ∨ rwcs = t.rwcs)
    (g_media : Part.of ps .media = true ∨ media = t.media)
    (g_defects : Part.of ps .defects = true ∨ defects = t.defects)
    (g_stripe : Part.of ps .stripe = true ∨ stripe = t.stripe)
    (g_chest : Part.of ps .chest = true ∨ chest = t.chest)
    (g_core : Part.of ps .core = true ∨ core = t.core)
    (g_buf : Part.of ps .buf = true ∨ buf = t.buf)
    (g_dma : Part.of ps .dma = true ∨ dma = t.dma)
    (g_zmu : Part.of ps .zmu = true ∨ zmu = t.zmu)
    (g_cqu : Part.of ps .cqu = true ∨ cqu = t.cqu)
    (g_hpt : Part.of ps .hpt = true ∨ hpt = t.hpt)
    (g_power : Part.of ps .power = true ∨ power = t.power)
    (g_bur : Part.of ps .bur = true ∨ bur = t.bur)
    (g_crd : Part.of ps .crd = true ∨ crd = t.crd)
    (g_tst : Part.of ps .tst = true ∨ tst = t.tst)
    (g_freeCount : Part.of ps .freeCount = true ∨ freeCount = t.freeCount) : Only ps o ⟨regs, pins, start, cfg, plat, opt, fw, patches, fuses, nor, ident, linkA, linkB, linkZ, feA, feB, motion, rep, spin, servoA, servoB, tables, fsqs, rwcs, media, defects, stripe, chest, core, buf, dma, zmu, cqu, hpt, power, bur, crd, tst, freeCount, t.pending⟩ := by
  constructor
  · intro k hk
    rcases g0 with g0 | g0
    · exact absurd (of_slot g0) (by rw [hk]; exact Bool.false_ne_true)
    · rw [g0]; exact h.regs k hk
  · intro hk
    rcases g_pins with g | g
    · rw [hk] at g; exact absurd g Bool.false_ne_true
    · rw [g]; exact h.pins hk
  · intro hk
    rcases g_start with g | g
    · rw [hk] at g; exact absurd g Bool.false_ne_true
    · rw [g]; exact h.start hk
  · intro hk
    rcases g_cfg with g | g
    · rw [hk] at g; exact absurd g Bool.false_ne_true
    · rw [g]; exact h.cfg hk
  · intro hk
    rcases g_plat with g | g
    · rw [hk] at g; exact absurd g Bool.false_ne_true
    · rw [g]; exact h.plat hk
  · intro hk
    rcases g_opt with g | g
    · rw [hk] at g; exact absurd g Bool.false_ne_true
    · rw [g]; exact h.opt hk
  · intro hk
    rcases g_fw with g | g
    · rw [hk] at g; exact absurd g Bool.false_ne_true
    · rw [g]; exact h.fw hk
  · intro hk
    rcases g_patches with g | g
    · rw [hk] at g; exact absurd g Bool.false_ne_true
    · rw [g]; exact h.patches hk
  · intro hk
    rcases g_fuses with g | g
    · rw [hk] at g; exact absurd g Bool.false_ne_true
    · rw [g]; exact h.fuses hk
  · intro hk
    rcases g_nor with g | g
    · rw [hk] at g; exact absurd g Bool.false_ne_true
    · rw [g]; exact h.nor hk
  · intro hk
    rcases g_ident with g | g
    · rw [hk] at g; exact absurd g Bool.false_ne_true
    · rw [g]; exact h.ident hk
  · intro hk
    rcases g_linkA with g | g
    · rw [hk] at g; exact absurd g Bool.false_ne_true
    · rw [g]; exact h.linkA hk
  · intro hk
    rcases g_linkB with g | g
    · rw [hk] at g; exact absurd g Bool.false_ne_true
    · rw [g]; exact h.linkB hk
  · intro hk
    rcases g_linkZ with g | g
    · rw [hk] at g; exact absurd g Bool.false_ne_true
    · rw [g]; exact h.linkZ hk
  · intro hk
    rcases g_feA with g | g
    · rw [hk] at g; exact absurd g Bool.false_ne_true
    · rw [g]; exact h.feA hk
  · intro hk
    rcases g_feB with g | g
    · rw [hk] at g; exact absurd g Bool.false_ne_true
    · rw [g]; exact h.feB hk
  · intro hk
    rcases g_motion with g | g
    · rw [hk] at g; exact absurd g Bool.false_ne_true
    · rw [g]; exact h.motion hk
  · intro hk
    rcases g_rep with g | g
    · rw [hk] at g; exact absurd g Bool.false_ne_true
    · rw [g]; exact h.rep hk
  · intro hk
    rcases g_spin with g | g
    · rw [hk] at g; exact absurd g Bool.false_ne_true
    · rw [g]; exact h.spin hk
  · intro hk
    rcases g_servoA with g | g
    · rw [hk] at g; exact absurd g Bool.false_ne_true
    · rw [g]; exact h.servoA hk
  · intro hk
    rcases g_servoB with g | g
    · rw [hk] at g; exact absurd g Bool.false_ne_true
    · rw [g]; exact h.servoB hk
  · intro hk
    rcases g_tables with g | g
    · rw [hk] at g; exact absurd g Bool.false_ne_true
    · rw [g]; exact h.tables hk
  · intro hk
    rcases g_fsqs with g | g
    · rw [hk] at g; exact absurd g Bool.false_ne_true
    · rw [g]; exact h.fsqs hk
  · intro hk
    rcases g_rwcs with g | g
    · rw [hk] at g; exact absurd g Bool.false_ne_true
    · rw [g]; exact h.rwcs hk
  · intro hk
    rcases g_media with g | g
    · rw [hk] at g; exact absurd g Bool.false_ne_true
    · rw [g]; exact h.media hk
  · intro hk
    rcases g_defects with g | g
    · rw [hk] at g; exact absurd g Bool.false_ne_true
    · rw [g]; exact h.defects hk
  · intro hk
    rcases g_stripe with g | g
    · rw [hk] at g; exact absurd g Bool.false_ne_true
    · rw [g]; exact h.stripe hk
  · intro hk
    rcases g_chest with g | g
    · rw [hk] at g; exact absurd g Bool.false_ne_true
    · rw [g]; exact h.chest hk
  · intro hk
    rcases g_core with g | g
    · rw [hk] at g; exact absurd g Bool.false_ne_true
    · rw [g]; exact h.core hk
  · intro hk
    rcases g_buf with g | g
    · rw [hk] at g; exact absurd g Bool.false_ne_true
    · rw [g]; exact h.buf hk
  · intro hk
    rcases g_dma with g | g
    · rw [hk] at g; exact absurd g Bool.false_ne_true
    · rw [g]; exact h.dma hk
  · intro hk
    rcases g_zmu with g | g
    · rw [hk] at g; exact absurd g Bool.false_ne_true
    · rw [g]; exact h.zmu hk
  · intro hk
    rcases g_cqu with g | g
    · rw [hk] at g; exact absurd g Bool.false_ne_true
    · rw [g]; exact h.cqu hk
  · intro hk
    rcases g_hpt with g | g
    · rw [hk] at g; exact absurd g Bool.false_ne_true
    · rw [g]; exact h.hpt hk
  · intro hk
    rcases g_power with g | g
    · rw [hk] at g; exact absurd g Bool.false_ne_true
    · rw [g]; exact h.power hk
  · intro hk
    rcases g_bur with g | g
    · rw [hk] at g; exact absurd g Bool.false_ne_true
    · rw [g]; exact h.bur hk
  · intro hk
    rcases g_crd with g | g
    · rw [hk] at g; exact absurd g Bool.false_ne_true
    · rw [g]; exact h.crd hk
  · intro hk
    rcases g_tst with g | g
    · rw [hk] at g; exact absurd g Bool.false_ne_true
    · rw [g]; exact h.tst hk
  · intro hk
    rcases g_freeCount with g | g
    · rw [hk] at g; exact absurd g Bool.false_ne_true
    · rw [g]; exact h.freeCount hk
  · exact h.pending

@[simp ↓] theorem only_upd {ps : List Part} {o : State} (t : State) (regs : RegFile) pins start cfg plat opt fw patches fuses
    nor ident linkA linkB linkZ feA feB motion rep spin servoA servoB tables fsqs rwcs media defects stripe chest core buf dma
    zmu cqu hpt power bur crd tst freeCount (h : Only ps o t) (g0 : Part.of ps .regs = true ∨ regs = t.regs)
    (g_pins : Part.of ps .pins = true ∨ pins = t.pins)
    (g_start : Part.of ps .start = true ∨ start = t.start)
    (g_cfg : Part.of ps .cfg = true ∨ cfg = t.cfg)
    (g_plat : Part.of ps .plat = true ∨ plat = t.plat)
    (g_opt : Part.of ps .opt = true ∨ opt = t.opt)
    (g_fw : Part.of ps .fw = true ∨ fw = t.fw)
    (g_patches : Part.of ps .patches = true ∨ patches = t.patches)
    (g_fuses : Part.of ps .fuses = true ∨ fuses = t.fuses)
    (g_nor : Part.of ps .nor = true ∨ nor = t.nor)
    (g_ident : Part.of ps .ident = true ∨ ident = t.ident)
    (g_linkA : Part.of ps .linkA = true ∨ linkA = t.linkA)
    (g_linkB : Part.of ps .linkB = true ∨ linkB = t.linkB)
    (g_linkZ : Part.of ps .linkZ = true ∨ linkZ = t.linkZ)
    (g_feA : Part.of ps .feA = true ∨ feA = t.feA)
    (g_feB : Part.of ps .feB = true ∨ feB = t.feB)
    (g_motion : Part.of ps .motion = true ∨ motion = t.motion)
    (g_rep : Part.of ps .rep = true ∨ rep = t.rep)
    (g_spin : Part.of ps .spin = true ∨ spin = t.spin)
    (g_servoA : Part.of ps .servoA = true ∨ servoA = t.servoA)
    (g_servoB : Part.of ps .servoB = true ∨ servoB = t.servoB)
    (g_tables : Part.of ps .tables = true ∨ tables = t.tables)
    (g_fsqs : Part.of ps .fsqs = true ∨ fsqs = t.fsqs)
    (g_rwcs : Part.of ps .rwcs = true ∨ rwcs = t.rwcs)
    (g_media : Part.of ps .media = true ∨ media = t.media)
    (g_defects : Part.of ps .defects = true ∨ defects = t.defects)
    (g_stripe : Part.of ps .stripe = true ∨ stripe = t.stripe)
    (g_chest : Part.of ps .chest = true ∨ chest = t.chest)
    (g_core : Part.of ps .core = true ∨ core = t.core)
    (g_buf : Part.of ps .buf = true ∨ buf = t.buf)
    (g_dma : Part.of ps .dma = true ∨ dma = t.dma)
    (g_zmu : Part.of ps .zmu = true ∨ zmu = t.zmu)
    (g_cqu : Part.of ps .cqu = true ∨ cqu = t.cqu)
    (g_hpt : Part.of ps .hpt = true ∨ hpt = t.hpt)
    (g_power : Part.of ps .power = true ∨ power = t.power)
    (g_bur : Part.of ps .bur = true ∨ bur = t.bur)
    (g_crd : Part.of ps .crd = true ∨ crd = t.crd)
    (g_tst : Part.of ps .tst = true ∨ tst = t.tst)
    (g_freeCount : Part.of ps .freeCount = true ∨ freeCount = t.freeCount) : Only ps o ⟨regs, pins, start, cfg, plat, opt, fw, patches, fuses, nor, ident, linkA, linkB, linkZ, feA, feB, motion, rep, spin, servoA, servoB, tables, fsqs, rwcs, media, defects, stripe, chest, core, buf, dma, zmu, cqu, hpt, power, bur, crd, tst, freeCount, t.pending⟩ := only_upd_ t pins start cfg plat opt fw patches fuses nor ident linkA linkB linkZ feA feB motion rep spin servoA servoB tables fsqs rwcs media defects stripe chest core buf dma zmu cqu hpt power bur crd tst freeCount h regs g0 g_pins g_start g_cfg g_plat g_opt g_fw g_patches g_fuses g_nor g_ident g_linkA g_linkB g_linkZ g_feA g_feB g_motion g_rep g_spin g_servoA g_servoB g_tables g_fsqs g_rwcs g_media g_defects g_stripe g_chest g_core g_buf g_dma g_zmu g_cqu g_hpt g_power g_bur g_crd g_tst g_freeCount

theorem regs_word_ne (r : RegFile) (k a : Nat) (w : Word) (h : a ≠ k) : (r.setWord k w).word a = r.word a := by
  rw [RegFile.word_setWord, if_neg h]

@[simp ↓] theorem State.put_only {ps : List Part} {o : State} (s : State) (f : Fld) (v : Nat) (hS : Only ps o s)
    (hf : Part.of ps (.slot f.slot) = true) : Only ps o (s.put f v) := by
  constructor
  · intro k hk
    rw [← hS.regs k hk]
    refine regs_word_ne _ _ _ _ ?_
    rintro rfl
    have : f.key / 0x10000 = f.slot := by unfold Fld.key Reg.key; omega
    rw [this, hf] at hk; exact absurd hk (by simp)
  · exact hS.pins
  · exact hS.start
  · exact hS.cfg
  · exact hS.plat
  · exact hS.opt
  · exact hS.fw
  · exact hS.patches
  · exact hS.fuses
  · exact hS.nor
  · exact hS.ident
  · exact hS.linkA
  · exact hS.linkB
  · exact hS.linkZ
  · exact hS.feA
  · exact hS.feB
  · exact hS.motion
  · exact hS.rep
  · exact hS.spin
  · exact hS.servoA
  · exact hS.servoB
  · exact hS.tables
  · exact hS.fsqs
  · exact hS.rwcs
  · exact hS.media
  · exact hS.defects
  · exact hS.stripe
  · exact hS.chest
  · exact hS.core
  · exact hS.buf
  · exact hS.dma
  · exact hS.zmu
  · exact hS.cqu
  · exact hS.hpt
  · exact hS.power
  · exact hS.bur
  · exact hS.crd
  · exact hS.tst
  · exact hS.freeCount
  · exact hS.pending

@[simp ↓] theorem State.writeMasked_only {ps : List Part} {o : State} (s : State) (slot off : Nat) (w : Word)
    (hS : Only ps o s) (hf : Part.of ps (.slot slot) = true) : Only ps o (s.writeMasked slot off w) := by
  unfold State.writeMasked
  split
  · exact hS
  · constructor
    · intro k hk
      rw [← hS.regs k hk]
      refine regs_word_ne _ _ _ _ ?_
      rintro rfl
      have : Reg.key slot off / 0x10000 = slot := by unfold Reg.key; omega
      rw [this, hf] at hk; exact absurd hk (by simp)
    · exact hS.pins
    · exact hS.start
    · exact hS.cfg
    · exact hS.plat
    · exact hS.opt
    · exact hS.fw
    · exact hS.patches
    · exact hS.fuses
    · exact hS.nor
    · exact hS.ident
    · exact hS.linkA
    · exact hS.linkB
    · exact hS.linkZ
    · exact hS.feA
    · exact hS.feB
    · exact hS.motion
    · exact hS.rep
    · exact hS.spin
    · exact hS.servoA
    · exact hS.servoB
    · exact hS.tables
    · exact hS.fsqs
    · exact hS.rwcs
    · exact hS.media
    · exact hS.defects
    · exact hS.stripe
    · exact hS.chest
    · exact hS.core
    · exact hS.buf
    · exact hS.dma
    · exact hS.zmu
    · exact hS.cqu
    · exact hS.hpt
    · exact hS.power
    · exact hS.bur
    · exact hS.crd
    · exact hS.tst
    · exact hS.freeCount
    · exact hS.pending

@[simp ↓] theorem State.putB_only {ps : List Part} {o : State} (s : State) (f : Fld) (b : Bool) (hS : Only ps o s)
    (hf : Part.of ps (.slot f.slot) = true) : Only ps o (s.putB f b) :=
  State.put_only s f _ hS hf

@[simp ↓] theorem State.bump_only {ps : List Part} {o : State} (s : State) (f : Fld) (n : Nat) (hS : Only ps o s)
    (hf : Part.of ps (.slot f.slot) = true) : Only ps o (s.bump f n) :=
  State.put_only s f _ hS hf

@[simp ↓] theorem only_ite {ps : List Part} {o : State} {c : Prop} [Decidable c] (a b : State) : Only ps o
    (if c then a else b : State) ↔ (c → Only ps o a) ∧ (¬c → Only ps o b) := by split <;> simp [*]

@[simp ↓] theorem only_ite_fst {ps : List Part} {o : State} {γ : Type} {c : Prop} [Decidable c] (a b : State × γ) : Only ps o
    (if c then a else b : State × γ).1 ↔ (c → Only ps o a.1) ∧ (¬c → Only ps o b.1) := by split <;> simp [*]

@[simp ↓] theorem foldl_only {ps : List Part} {o : State} {β : Type} (g : State → β → State) (l : List β) {s : State}
    (hg : ∀ t b, Only ps o t → Only ps o (g t b)) (h : Only ps o s) : Only ps o (l.foldl g s) := by
  induction l generalizing s with
  | nil => exact h
  | cons a t ih => exact ih (hg _ _ h)

@[simp ↓] theorem foldl_fst_only {ps : List Part} {o : State} {β γ : Type} (g : State × γ → β → State × γ) (l : List β)
    {s : State × γ} (hg : ∀ t b, Only ps o t.1 → Only ps o (g t b).1) (h : Only ps o s.1) : Only ps o (l.foldl g s).1 := by
  induction l generalizing s with
  | nil => exact h
  | cons a t ih => exact ih (hg _ _ h)

end Sys2Proof.Machine
end

