-- ==== Sys2Proof/Laws/ReachHost.lean ====
section
/-!
SUPPORT. What each operation of the memories, the stripes, the zone map, the command queue and the start can touch, operation by operation.
-/

set_option linter.unusedTactic false
set_option linter.unreachableTactic false
set_option linter.style.nameCheck false

namespace Sys2Proof.Machine

/-! ### Ops -/

@[simp ↓] theorem State.inMfg_only {qz} {oz : State} (s : State) (f : State → State) (hS : Only qz oz s)
    (hf : ∀ t, Only qz oz t → Only qz oz (f t)) :
    Only qz oz (@State.inMfg s f) := by unfold State.inMfg; split <;> simp (maxDischargeDepth := 99) [*]

@[simp ↓] theorem State.free_only {qz} {oz : State} (s : State) (hS : Only qz oz s)
    (pm0 : Part.of qz .freeCount = true := by assumption) :
    Only qz oz (@State.free s).2 := by unfold State.free; simp (maxDischargeDepth := 99) [*]

@[simp ↓] theorem State.setLink_only {qz} {oz : State} (s : State) (p : Port) (l : Link) (hS : Only qz oz s)
    (pm0 : Part.of qz .linkA = true := by assumption) (pm1 : Part.of qz .linkB = true := by assumption)
    (pm2 : Part.of qz .linkZ = true := by assumption) :
    Only qz oz (@State.setLink s p l) := by unfold State.setLink; (try dsimp only); (repeat' split) <;> simp (maxDischargeDepth := 99) +contextual [*]

@[simp ↓] theorem State.setFe_only {qz} {oz : State} (s : State) (x : Act) (f : FrontEnd) (hS : Only qz oz s)
    (pm0 : Part.of qz .feA = true := by assumption) (pm1 : Part.of qz .feB = true := by assumption) :
    Only qz oz (@State.setFe s x f) := by unfold State.setFe; (try dsimp only); (repeat' split) <;> simp (maxDischargeDepth := 99) +contextual [*]

@[simp ↓] theorem State.setServo_only {qz} {oz : State} (s : State) (x : Act) (v : ServoAct) (hS : Only qz oz s)
    (pm0 : Part.of qz .servoA = true := by assumption) (pm1 : Part.of qz .servoB = true := by assumption) :
    Only qz oz (@State.setServo s x v) := by unfold State.setServo; (try dsimp only); (repeat' split) <;> simp (maxDischargeDepth := 99) +contextual [*]

@[simp ↓] theorem State.setCmd_only {qz} {oz : State} (s : State) (c : Cmd) (hS : Only qz oz s)
    (pm0 : Part.of qz .cqu = true := by assumption) :
    Only qz oz (@State.setCmd s c) := by unfold State.setCmd; simp (maxDischargeDepth := 99) [*]

@[simp ↓] theorem State.finish_only {qz} {oz : State} (s : State) (fsn : Nat) (st : Status) (dw0 : Nat) (dw1 : Nat)
    (hS : Only qz oz s) (pm0 : Part.of qz .cqu = true := by assumption)
    (pm1 : Part.of qz (.slot 9) = true := by first | assumption | exact of_slot (by assumption)) :
    Only qz oz (@State.finish s fsn st dw0 dw1) := by unfold State.finish; (try dsimp only); (repeat' split) <;> simp (maxDischargeDepth := 99) +contextual [*]

@[simp ↓] theorem State.asyncEvent_only {qz} {oz : State} (s : State) (typ : Nat) (info : Nat) (lid : Nat) (hS : Only qz oz s)
    (pm0 : Part.of qz .cqu = true := by assumption)
    (pm1 : Part.of qz (.slot 9) = true := by first | assumption | exact of_slot (by assumption)) :
    Only qz oz (@State.asyncEvent s typ info lid) := by unfold State.asyncEvent; (try dsimp only); (repeat' split) <;> simp (maxDischargeDepth := 99) +contextual [*]

@[simp ↓] theorem State.warn_only {qz} {oz : State} (s : State) (b : Nat) (cause : Nat) (hS : Only qz oz s)
    (pm0 : Part.of qz .cqu = true := by assumption)
    (pm1 : Part.of qz (.slot 9) = true := by first | assumption | exact of_slot (by assumption)) :
    Only qz oz (@State.warn s b cause) := by unfold State.warn; simp (maxDischargeDepth := 99) [*]

@[simp ↓] theorem State.unwarn_only {qz} {oz : State} (s : State) (b : Nat) (cause : Nat) (hS : Only qz oz s)
    (pm0 : Part.of qz .cqu = true := by assumption) :
    Only qz oz (@State.unwarn s b cause) := by unfold State.unwarn; simp (maxDischargeDepth := 99) [*]

@[simp ↓] theorem State.saturated_only {qz} {oz : State} (s : State) (first : Bool) (hS : Only qz oz s)
    (pm0 : Part.of qz .cqu = true := by assumption)
    (pm1 : Part.of qz (.slot 9) = true := by first | assumption | exact of_slot (by assumption)) :
    Only qz oz (@State.saturated s first) := by unfold State.saturated; simp (maxDischargeDepth := 99) [*]

@[simp ↓] theorem State.count_only {qz} {oz : State} (s : State) (id : Nat) (inst : Nat) (n : Nat) (hS : Only qz oz s)
    (pm0 : Part.of qz .cqu = true := by assumption) (pm1 : Part.of qz .crd = true := by assumption)
    (pm2 : Part.of qz (.slot 9) = true := by first | assumption | exact of_slot (by assumption)) :
    Only qz oz (@State.count s id inst n) := by unfold State.count; simp (maxDischargeDepth := 99) [*]

@[simp ↓] theorem State.bin_only {qz} {oz : State} (s : State) (hid : Nat) (inst : Nat) (b : Nat) (hS : Only qz oz s)
    (pm0 : Part.of qz .cqu = true := by assumption) (pm1 : Part.of qz .crd = true := by assumption)
    (pm2 : Part.of qz (.slot 9) = true := by first | assumption | exact of_slot (by assumption)) :
    Only qz oz (@State.bin s hid inst b) := by unfold State.bin; simp (maxDischargeDepth := 99) [*]

@[simp ↓] theorem State.pulse_only {qz} {oz : State} (s : State) (k : Nat) (hS : Only qz oz s)
    (pm0 : Part.of qz .dma = true := by assumption)
    (pm1 : Part.of qz (.slot 13) = true := by first | assumption | exact of_slot (by assumption)) :
    Only qz oz (@State.pulse s k) := by unfold State.pulse; simp (maxDischargeDepth := 99) [*]

@[simp ↓] theorem State.send_only {qz} {oz : State} (s : State) (o : Out) (hS : Only qz oz s)
    (pm0 : Part.of qz .hpt = true := by assumption)
    (pm1 : Part.of qz (.slot 8) = true := by first | assumption | exact of_slot (by assumption)) :
    Only qz oz (@State.send s o) := by unfold State.send; simp (maxDischargeDepth := 99) [*]

/-! ### Memory -/

@[simp ↓] theorem State.setCells_only {qz} {oz : State} (s : State) (m : Mem) (c : List Host.Cell) (hS : Only qz oz s)
    (pm0 : Part.of qz .buf = true := by assumption) :
    Only qz oz (@State.setCells s m c) := by unfold State.setCells; (try dsimp only); (repeat' split) <;> simp (maxDischargeDepth := 99) +contextual [*]

@[simp ↓] theorem State.takeFlip_only {qz} {oz : State} (s : State) (m : Mem) (a : Nat) (n : Nat) (hS : Only qz oz s)
    (pm0 : Part.of qz .buf = true := by assumption)
    (pm1 : Part.of qz (.slot 12) = true := by first | assumption | exact of_slot (by assumption)) :
    Only qz oz (@State.takeFlip s m a n) := by unfold State.takeFlip; simp (maxDischargeDepth := 99) [*]

@[simp ↓] theorem State.memWrite_only {qz} {oz : State} (s : State) (m : Mem) (a : Nat) (b : Bytes) (hS : Only qz oz s)
    (pm0 : Part.of qz .buf = true := by assumption)
    (pm1 : Part.of qz (.slot 12) = true := by first | assumption | exact of_slot (by assumption)) :
    Only qz oz (@State.memWrite s m a b) := by unfold State.memWrite; simp (maxDischargeDepth := 99) [*]

@[simp ↓] theorem State.setScrub_only {qz} {oz : State} (s : State) (m : Mem) (v : Option (Nat × Nat × Bool))
    (hS : Only qz oz s) (pm0 : Part.of qz .buf = true := by assumption) :
    Only qz oz (@State.setScrub s m v) := by unfold State.setScrub; (try dsimp only); (repeat' split) <;> simp (maxDischargeDepth := 99) +contextual [*]

@[simp ↓] theorem State.startScrub_only {qz} {oz : State} (s : State) (m : Mem) (triggered : Bool) (hS : Only qz oz s)
    (pm0 : Part.of qz .buf = true := by assumption) :
    Only qz oz (@State.startScrub s m triggered) := by unfold State.startScrub; (try dsimp only); (repeat' split) <;> simp (maxDischargeDepth := 99) +contextual [*]

@[simp ↓] theorem State.endScrub_only {qz} {oz : State} (s : State) (m : Mem) (complete : Bool) (hS : Only qz oz s)
    (pm0 : Part.of qz .buf = true := by assumption)
    (pm1 : Part.of qz (.slot 12) = true := by first | assumption | exact of_slot (by assumption)) :
    Only qz oz (@State.endScrub s m complete) := by unfold State.endScrub; (try dsimp only); (repeat' split) <;> simp (maxDischargeDepth := 99) +contextual [*]

@[simp ↓] theorem State.bucketOverflow_only {qz} {oz : State} (s : State) (m : Mem) (depth : Nat) (hS : Only qz oz s)
    (pm0 : Part.of qz .buf = true := by assumption) (pm1 : Part.of qz .cqu = true := by assumption)
    (pm2 : Part.of qz .crd = true := by assumption)
    (pm3 : Part.of qz (.slot 9) = true := by first | assumption | exact of_slot (by assumption))
    (pm4 : Part.of qz (.slot 12) = true := by first | assumption | exact of_slot (by assumption)) :
    Only qz oz (@State.bucketOverflow s m depth) := by unfold State.bucketOverflow; simp (maxDischargeDepth := 99) [*]

@[simp ↓] theorem State.bucketAdd_only {qz} {oz : State} (s : State) (m : Mem) (hS : Only qz oz s)
    (pm0 : Part.of qz .buf = true := by assumption) (pm1 : Part.of qz .cqu = true := by assumption)
    (pm2 : Part.of qz .crd = true := by assumption)
    (pm3 : Part.of qz (.slot 9) = true := by first | assumption | exact of_slot (by assumption))
    (pm4 : Part.of qz (.slot 12) = true := by first | assumption | exact of_slot (by assumption)) :
    Only qz oz (@State.bucketAdd s m) := by unfold State.bucketAdd; (try dsimp only); (repeat' split) <;> simp (maxDischargeDepth := 99) +contextual [*]

@[simp ↓] theorem State.sparesOut_only {qz} {oz : State} (s : State) (m : Mem) (hS : Only qz oz s)
    (pm0 : Part.of qz .buf = true := by assumption) (pm1 : Part.of qz .cqu = true := by assumption)
    (pm2 : Part.of qz (.slot 9) = true := by first | assumption | exact of_slot (by assumption)) :
    Only qz oz (@State.sparesOut s m) := by unfold State.sparesOut; simp (maxDischargeDepth := 99) [*]

@[simp ↓] theorem State.rewrite_only {qz} {oz : State} (s : State) (m : Mem) (a : Nat) (n : Nat) (hS : Only qz oz s)
    (pm0 : Part.of qz .buf = true := by assumption) :
    Only qz oz (@State.rewrite s m a n) := by unfold State.rewrite; simp (maxDischargeDepth := 99) [*]

@[simp ↓] theorem State.hardFault_only {qz} {oz : State} (s : State) (m : Mem) (u : Nat) (hS : Only qz oz s)
    (pm0 : Part.of qz .buf = true := by assumption) (pm1 : Part.of qz .cqu = true := by assumption)
    (pm2 : Part.of qz .crd = true := by assumption)
    (pm3 : Part.of qz (.slot 9) = true := by first | assumption | exact of_slot (by assumption))
    (pm4 : Part.of qz (.slot 12) = true := by first | assumption | exact of_slot (by assumption)) :
    Only qz oz (@State.hardFault s m u) := by unfold State.hardFault; (try dsimp only); (repeat' split) <;> simp (maxDischargeDepth := 99) +contextual [*]

@[simp ↓] theorem State.trackNew_only {qz} {oz : State} (s : State) (m : Mem) (u : Nat) (hS : Only qz oz s)
    (pm0 : Part.of qz .buf = true := by assumption)
    (pm1 : Part.of qz (.slot 12) = true := by first | assumption | exact of_slot (by assumption)) :
    Only qz oz (@State.trackNew s m u) := by unfold State.trackNew; (try dsimp only); (repeat' split) <;> simp (maxDischargeDepth := 99) +contextual [*]

@[simp ↓] theorem State.trackWriteback_only {qz} {oz : State} (s : State) (m : Mem) (u : Nat) (cancelled : Bool)
    (hS : Only qz oz s) (pm0 : Part.of qz .buf = true := by assumption)
    (pm1 : Part.of qz (.slot 12) = true := by first | assumption | exact of_slot (by assumption)) :
    Only qz oz (@State.trackWriteback s m u cancelled) := by unfold State.trackWriteback; simp (maxDischargeDepth := 99) [*]

@[simp ↓] theorem State.trackCorrection_only {qz} {oz : State} (s : State) (m : Mem) (u : Nat) (clientWrote : Bool)
    (hS : Only qz oz s) (pm0 : Part.of qz .buf = true := by assumption) (pm1 : Part.of qz .cqu = true := by assumption)
    (pm2 : Part.of qz .crd = true := by assumption)
    (pm3 : Part.of qz (.slot 9) = true := by first | assumption | exact of_slot (by assumption))
    (pm4 : Part.of qz (.slot 12) = true := by first | assumption | exact of_slot (by assumption)) :
    Only qz oz (@State.trackCorrection s m u clientWrote) := by unfold State.trackCorrection; (try dsimp only); (repeat' split) <;> simp (maxDischargeDepth := 99) +contextual [*]

@[simp ↓] theorem State.correction_only {qz} {oz : State} (s : State) (m : Mem) (u : Nat) (clientWrote : Bool)
    (byScrub : Bool) (hS : Only qz oz s) (pm0 : Part.of qz .buf = true := by assumption)
    (pm1 : Part.of qz .cqu = true := by assumption) (pm2 : Part.of qz .crd = true := by assumption)
    (pm3 : Part.of qz (.slot 9) = true := by first | assumption | exact of_slot (by assumption))
    (pm4 : Part.of qz (.slot 12) = true := by first | assumption | exact of_slot (by assumption)) :
    Only qz oz (@State.correction s m u clientWrote byScrub) := by unfold State.correction; (try dsimp only); (repeat' split) <;> simp (maxDischargeDepth := 99) +contextual [*]

@[simp ↓] theorem State.ueRecord_only {qz} {oz : State} (s : State) (m : Mem) (u : Nat) (hS : Only qz oz s)
    (pm0 : Part.of qz .buf = true := by assumption) (pm1 : Part.of qz .cqu = true := by assumption)
    (pm2 : Part.of qz .crd = true := by assumption)
    (pm3 : Part.of qz (.slot 9) = true := by first | assumption | exact of_slot (by assumption))
    (pm4 : Part.of qz (.slot 12) = true := by first | assumption | exact of_slot (by assumption)) :
    Only qz oz (@State.ueRecord s m u) := by unfold State.ueRecord; simp (maxDischargeDepth := 99) [*]

@[simp ↓] theorem State.lostEvent_only {qz} {oz : State} (s : State) (n : Nat) (hS : Only qz oz s)
    (pm0 : Part.of qz .cqu = true := by assumption) (pm1 : Part.of qz .crd = true := by assumption)
    (pm2 : Part.of qz (.slot 9) = true := by first | assumption | exact of_slot (by assumption)) :
    Only qz oz (@State.lostEvent s n) := by unfold State.lostEvent; simp (maxDischargeDepth := 99) [*]

@[simp ↓] theorem State.poison_only {qz} {oz : State} (s : State) (dlba : Nat) (hS : Only qz oz s)
    (pm0 : Part.of qz .buf = true := by assumption) (pm1 : Part.of qz .cqu = true := by assumption)
    (pm2 : Part.of qz .crd = true := by assumption)
    (pm3 : Part.of qz (.slot 9) = true := by first | assumption | exact of_slot (by assumption)) :
    Only qz oz (@State.poison s dlba) := by unfold State.poison; simp (maxDischargeDepth := 99) [*]

@[simp ↓] theorem State.readCorrections_only {qz} {oz : State} (s : State) (m : Mem) (a : Nat) (n : Nat) (hS : Only qz oz s)
    (pm0 : Part.of qz .buf = true := by assumption) (pm1 : Part.of qz .cqu = true := by assumption)
    (pm2 : Part.of qz .crd = true := by assumption)
    (pm3 : Part.of qz (.slot 9) = true := by first | assumption | exact of_slot (by assumption))
    (pm4 : Part.of qz (.slot 12) = true := by first | assumption | exact of_slot (by assumption)) :
    Only qz oz (@State.readCorrections s m a n) := by unfold State.readCorrections; simp (maxDischargeDepth := 99) +contextual [*]

@[simp ↓] theorem State.testResult_only {qz} {oz : State} (s : State) (result : Nat) (hS : Only qz oz s)
    (pm0 : Part.of qz .cqu = true := by assumption) :
    Only qz oz (@State.testResult s result) := by unfold State.testResult; simp (maxDischargeDepth := 99) [*]

@[simp ↓] theorem State.shortTestStep_only {qz} {oz : State} (s : State) (hS : Only qz oz s)
    (pm0 : Part.of qz .cqu = true := by assumption) :
    Only qz oz (@State.shortTestStep s) := by unfold State.shortTestStep; simp (maxDischargeDepth := 99) [*]

/-! ### Map -/

@[simp ↓] theorem State.setZone_only {qz} {oz : State} (s : State) (lz : Nat) (z : ZoneDesc) (hS : Only qz oz s)
    (pm0 : Part.of qz .zmu = true := by assumption) :
    Only qz oz (@State.setZone s lz z) := by unfold State.setZone; simp (maxDischargeDepth := 99) [*]

@[simp ↓] theorem State.unlose_only {qz} {oz : State} (s : State) (d : Nat) (hS : Only qz oz s)
    (pm0 : Part.of qz .stripe = true := by assumption) (pm1 : Part.of qz .cqu = true := by assumption) :
    Only qz oz (@State.unlose s d) := by unfold State.unlose; simp (maxDischargeDepth := 99) [*]

@[simp ↓] theorem State.expose_only {qz} {oz : State} (s : State) (hS : Only qz oz s)
    (pm0 : Part.of qz .cqu = true := by assumption)
    (pm1 : Part.of qz (.slot 9) = true := by first | assumption | exact of_slot (by assumption)) :
    Only qz oz (@State.expose s) := by unfold State.expose; simp (maxDischargeDepth := 99) [*]

@[simp ↓] theorem State.logRec_only {qz} {oz : State} (s : State) (r : LogRec) (hS : Only qz oz s)
    (pm0 : Part.of qz .zmu = true := by assumption) :
    Only qz oz (@State.logRec s r) := by unfold State.logRec; simp (maxDischargeDepth := 99) [*]

@[simp ↓] theorem State.applyRec_only {qz} {oz : State} (s : State) (a1 : LogRec) (hS : Only qz oz s)
    (pm0 : Part.of qz .zmu = true := by assumption) :
    Only qz oz (@State.applyRec s a1) := by unfold State.applyRec; (try dsimp only); (repeat' split) <;> simp (maxDischargeDepth := 99) +contextual [*]

@[simp ↓] theorem State.mapChange_only {qz} {oz : State} (s : State) (r : LogRec) (hS : Only qz oz s)
    (pm0 : Part.of qz .zmu = true := by assumption) :
    Only qz oz (@State.mapChange s r) := by unfold State.mapChange; simp (maxDischargeDepth := 99) [*]

@[simp ↓] theorem State.evictClean_only {qz} {oz : State} (s : State) (prot : Bool) (hS : Only qz oz s)
    (pm0 : Part.of qz .buf = true := by assumption) :
    Only qz oz (@State.evictClean s prot) := by unfold State.evictClean; (try dsimp only); (repeat' split) <;> simp (maxDischargeDepth := 99) +contextual [*]

@[simp ↓] theorem State.commitBlock_only {qz} {oz : State} (fsn : Nat) (prot : Bool) (s : State) (x : Nat × Bytes)
    (hS : Only qz oz s) (pm0 : Part.of qz .stripe = true := by assumption) (pm1 : Part.of qz .buf = true := by assumption)
    (pm2 : Part.of qz .cqu = true := by assumption) :
    Only qz oz (@State.commitBlock fsn prot s x) := by unfold State.commitBlock; simp (maxDischargeDepth := 99) [*]

@[simp ↓] theorem State.commitBlocks_only {qz} {oz : State} (s : State) (fsn : Nat) (prot : Bool) (l : List (Nat × Bytes))
    (hS : Only qz oz s) (pm0 : Part.of qz .stripe = true := by assumption) (pm1 : Part.of qz .buf = true := by assumption)
    (pm2 : Part.of qz .cqu = true := by assumption) (pm3 : Part.of qz .bur = true := by assumption) :
    Only qz oz (@State.commitBlocks s fsn prot l) := by unfold State.commitBlocks; simp (maxDischargeDepth := 99) +contextual [*]

@[simp ↓] theorem State.pin_only {qz} {oz : State} (s : State) (fsn : Nat) (locs : List (Nat × Loc)) (hS : Only qz oz s)
    (pm0 : Part.of qz .buf = true := by assumption) :
    Only qz oz (@State.pin s fsn locs) := by unfold State.pin; simp (maxDischargeDepth := 99) [*]

@[simp ↓] theorem State.unpin_only {qz} {oz : State} (s : State) (fsn : Nat) (hS : Only qz oz s)
    (pm0 : Part.of qz .buf = true := by assumption) :
    Only qz oz (@State.unpin s fsn) := by unfold State.unpin; simp (maxDischargeDepth := 99) [*]

@[simp ↓] theorem State.dropBlocks_only {qz} {oz : State} (s : State) (p : Nat → Bool) (hS : Only qz oz s)
    (pm0 : Part.of qz .buf = true := by assumption) :
    Only qz oz (@State.dropBlocks s p) := by unfold State.dropBlocks; simp (maxDischargeDepth := 99) [*]

@[simp ↓] theorem State.journal_only {qz} {oz : State} (s : State) (e : JEntry) (hS : Only qz oz s)
    (pm0 : Part.of qz .stripe = true := by assumption) :
    Only qz oz (@State.journal s e) := by unfold State.journal; simp (maxDischargeDepth := 99) [*]

@[simp ↓] theorem State.setSlot_only {qz} {oz : State} (s : State) (x : SideSlot) (hS : Only qz oz s)
    (pm0 : Part.of qz .stripe = true := by assumption) :
    Only qz oz (@State.setSlot s x) := by unfold State.setSlot; simp (maxDischargeDepth := 99) [*]

@[simp ↓] theorem State.setPlace_only {qz} {oz : State} (s : State) (p : Placement) (hS : Only qz oz s)
    (pm0 : Part.of qz .stripe = true := by assumption) :
    Only qz oz (@State.setPlace s p) := by unfold State.setPlace; simp (maxDischargeDepth := 99) [*]

@[simp ↓] theorem State.assignSlot_only {qz} {oz : State} (s : State) (n : Nat) (pz : Nat) (i : Nat) (first : Nat)
    (blocks : List (Nat × Nat)) (cache : Bool) (hS : Only qz oz s) (pm0 : Part.of qz .stripe = true := by assumption)
    (pm1 : Part.of qz .buf = true := by assumption) :
    Only qz oz (@State.assignSlot s n pz i first blocks cache) := by unfold State.assignSlot; simp (maxDischargeDepth := 99) [*]

@[simp ↓] theorem State.gatherHome_only {qz} {oz : State} (s : State) (lz : Nat) (hS : Only qz oz s)
    (pm0 : Part.of qz .stripe = true := by assumption) (pm1 : Part.of qz .buf = true := by assumption) :
    Only qz oz (@State.gatherHome s lz) := by unfold State.gatherHome; (try dsimp only); (repeat' split) <;> simp (maxDischargeDepth := 99) +contextual [*]

@[simp ↓] theorem State.ringTake_only {qz} {oz : State} (s : State) (z : Nat) (i : Nat) (hS : Only qz oz s)
    (pm0 : Part.of qz .zmu = true := by assumption) :
    Only qz oz (@State.ringTake s z i) := by unfold State.ringTake; simp (maxDischargeDepth := 99) [*]

@[simp ↓] theorem State.gatherCache_only {qz} {oz : State} (s : State) (n : Nat) (hS : Only qz oz s)
    (pm0 : Part.of qz .stripe = true := by assumption) (pm1 : Part.of qz .buf = true := by assumption)
    (pm2 : Part.of qz .zmu = true := by assumption) :
    Only qz oz (@State.gatherCache s n) := by unfold State.gatherCache; (try dsimp only); (repeat' split) <;> simp (maxDischargeDepth := 99) +contextual [*]

/-! ### Ladder -/

@[simp ↓] theorem State.queueRuns_only {qz} {oz : State} (s : State) (l : List MRun) (hS : Only qz oz s)
    (pm0 : Part.of qz .cqu = true := by assumption) :
    Only qz oz (@State.queueRuns s l) := by unfold State.queueRuns; simp (maxDischargeDepth := 99) [*]

@[simp ↓] theorem State.requeue_only {qz} {oz : State} (s : State) (n : Nat) (r : RunCmd) (hS : Only qz oz s)
    (pm0 : Part.of qz .cqu = true := by assumption) :
    Only qz oz (@State.requeue s n r) := by unfold State.requeue; simp (maxDischargeDepth := 99) [*]

@[simp ↓] theorem State.setSector_only {qz} {oz : State} (s : State) (x : LdpSector) (hS : Only qz oz s)
    (pm0 : Part.of qz .media = true := by assumption) :
    Only qz oz (@State.setSector s x) := by unfold State.setSector; simp (maxDischargeDepth := 99) [*]

@[simp ↓] theorem State.dropSector_only {qz} {oz : State} (s : State) (x : LdpSector) (hS : Only qz oz s)
    (pm0 : Part.of qz .media = true := by assumption) (pm1 : Part.of qz .cqu = true := by assumption) :
    Only qz oz (@State.dropSector s x) := by unfold State.dropSector; simp (maxDischargeDepth := 99) [*]

@[simp ↓] theorem State.queueReread_only {qz} {oz : State} (s : State) (x : LdpSector) (hS : Only qz oz s)
    (pm0 : Part.of qz .media = true := by assumption) (pm1 : Part.of qz .cqu = true := by assumption) :
    Only qz oz (@State.queueReread s x) := by unfold State.queueReread; simp (maxDischargeDepth := 99) [*]

@[simp ↓] theorem State.askReread_only {qz} {oz : State} (s : State) (x : LdpSector) (hS : Only qz oz s)
    (pm0 : Part.of qz .media = true := by assumption) (pm1 : Part.of qz .cqu = true := by assumption) :
    Only qz oz (@State.askReread s x) := by unfold State.askReread; simp (maxDischargeDepth := 99) [*]

@[simp ↓] theorem State.fillPlaces_only {qz} {oz : State} (s : State) (hS : Only qz oz s)
    (pm0 : Part.of qz .media = true := by assumption) (pm1 : Part.of qz .cqu = true := by assumption) :
    Only qz oz (@State.fillPlaces s) := by unfold State.fillPlaces; simp (maxDischargeDepth := 99) +contextual [*]

@[simp ↓] theorem State.relocDue_only {qz} {oz : State} (s : State) (x : LdpSector) (hS : Only qz oz s)
    (pm0 : Part.of qz .stripe = true := by assumption) :
    Only qz oz (@State.relocDue s x) := by unfold State.relocDue; (try dsimp only); (repeat' split) <;> simp (maxDischargeDepth := 99) +contextual [*]

@[simp ↓] theorem State.toStep8_only {qz} {oz : State} (s : State) (x : LdpSector) (hS : Only qz oz s)
    (pm0 : Part.of qz .media = true := by assumption) (pm1 : Part.of qz .stripe = true := by assumption)
    (pm2 : Part.of qz .cqu = true := by assumption) (pm3 : Part.of qz .crd = true := by assumption)
    (pm4 : Part.of qz (.slot 9) = true := by first | assumption | exact of_slot (by assumption)) :
    Only qz oz (@State.toStep8 s x) := by unfold State.toStep8; simp (maxDischargeDepth := 99) [*]

@[simp ↓] theorem State.headToStep8_only {qz} {oz : State} (s : State) (h : Nat) (hS : Only qz oz s)
    (pm0 : Part.of qz .media = true := by assumption) (pm1 : Part.of qz .stripe = true := by assumption)
    (pm2 : Part.of qz .cqu = true := by assumption) (pm3 : Part.of qz .crd = true := by assumption)
    (pm4 : Part.of qz (.slot 9) = true := by first | assumption | exact of_slot (by assumption)) :
    Only qz oz (@State.headToStep8 s h) := by unfold State.headToStep8; simp (maxDischargeDepth := 99) +contextual [*]

@[simp ↓] theorem State.step8Served_only {qz} {oz : State} (s : State) (blocks : List Nat) (hS : Only qz oz s)
    (pm0 : Part.of qz .media = true := by assumption) (pm1 : Part.of qz .stripe = true := by assumption)
    (pm2 : Part.of qz .cqu = true := by assumption) (pm3 : Part.of qz .crd = true := by assumption)
    (pm4 : Part.of qz (.slot 9) = true := by first | assumption | exact of_slot (by assumption)) :
    Only qz oz (@State.step8Served s blocks) := by unfold State.step8Served; simp (maxDischargeDepth := 99) +contextual [*]

@[simp ↓] theorem State.ladderNext_only {qz} {oz : State} (s : State) (x : LdpSector) (hS : Only qz oz s)
    (pm0 : Part.of qz .media = true := by assumption) (pm1 : Part.of qz .stripe = true := by assumption)
    (pm2 : Part.of qz .cqu = true := by assumption) (pm3 : Part.of qz .crd = true := by assumption)
    (pm4 : Part.of qz (.slot 9) = true := by first | assumption | exact of_slot (by assumption)) :
    Only qz oz (@State.ladderNext s x) := by unfold State.ladderNext; (try dsimp only); (repeat' split) <;> simp (maxDischargeDepth := 99) +contextual [*]

@[simp ↓] theorem State.syncLast_only {qz} {oz : State} (s : State) (ch : Nat) (result : Nat) (a : Int) (score : Nat)
    (hS : Only qz oz s) (pm0 : Part.of qz (.slot 16) = true := by first | assumption | exact of_slot (by assumption)) :
    Only qz oz (@State.syncLast s ch result a score) := by unfold State.syncLast; simp (maxDischargeDepth := 99) [*]

@[simp ↓] theorem State.syncFailed_only {qz} {oz : State} (s : State) (x : LdpSector) (hS : Only qz oz s)
    (pm0 : Part.of qz .cqu = true := by assumption) (pm1 : Part.of qz .crd = true := by assumption)
    (pm2 : Part.of qz (.slot 9) = true := by first | assumption | exact of_slot (by assumption))
    (pm3 : Part.of qz (.slot 16) = true := by first | assumption | exact of_slot (by assumption)) :
    Only qz oz (@State.syncFailed s x) := by unfold State.syncFailed; simp (maxDischargeDepth := 99) [*]

@[simp ↓] theorem State.decodeFailed_only {qz} {oz : State} (s : State) (x : LdpSector) (hS : Only qz oz s)
    (pm0 : Part.of qz .media = true := by assumption) (pm1 : Part.of qz .stripe = true := by assumption)
    (pm2 : Part.of qz .cqu = true := by assumption) (pm3 : Part.of qz .crd = true := by assumption)
    (pm4 : Part.of qz (.slot 9) = true := by first | assumption | exact of_slot (by assumption))
    (pm5 : Part.of qz (.slot 16) = true := by first | assumption | exact of_slot (by assumption)) :
    Only qz oz (@State.decodeFailed s x) := by unfold State.decodeFailed; (try dsimp only); (repeat' split) <;> simp (maxDischargeDepth := 99) +contextual [*]

@[simp ↓] theorem State.expireEntry_only {qz} {oz : State} (s : State) (x : LdpSector) (hS : Only qz oz s)
    (pm0 : Part.of qz .media = true := by assumption) (pm1 : Part.of qz .stripe = true := by assumption)
    (pm2 : Part.of qz .cqu = true := by assumption) (pm3 : Part.of qz .crd = true := by assumption)
    (pm4 : Part.of qz (.slot 9) = true := by first | assumption | exact of_slot (by assumption))
    (pm5 : Part.of qz (.slot 16) = true := by first | assumption | exact of_slot (by assumption)) :
    Only qz oz (@State.expireEntry s x) := by unfold State.expireEntry; simp (maxDischargeDepth := 99) [*]

/-! ### Stripe -/

@[simp ↓] theorem State.redundancy_only {qz} {oz : State} (s : State) (hS : Only qz oz s)
    (pm0 : Part.of qz .cqu = true := by assumption)
    (pm1 : Part.of qz (.slot 9) = true := by first | assumption | exact of_slot (by assumption)) :
    Only qz oz (@State.redundancy s) := by unfold State.redundancy; simp (maxDischargeDepth := 99) [*]

@[simp ↓] theorem State.moveStart_only {qz} {oz : State} (s : State) (p : Placement) (kind : Nat) (inPlace : Bool)
    (next : List Member) (spares : List (Nat × Nat × Bool)) (chg : List (Nat × Nat × Nat)) (hS : Only qz oz s)
    (pm0 : Part.of qz .stripe = true := by assumption) :
    Only qz oz (@State.moveStart s p kind inPlace next spares chg) := by unfold State.moveStart; simp (maxDischargeDepth := 99) [*]

@[simp ↓] theorem State.movesDone_only {qz} {oz : State} (s : State) (hS : Only qz oz s)
    (pm0 : Part.of qz .cqu = true := by assumption)
    (pm1 : Part.of qz (.slot 9) = true := by first | assumption | exact of_slot (by assumption)) :
    Only qz oz (@State.movesDone s) := by unfold State.movesDone; simp (maxDischargeDepth := 99) [*]

@[simp ↓] theorem State.donate_only {qz} {oz : State} (s : State) (zone : Nat) (surface : Nat) (taken : Nat) (given : Nat)
    (hS : Only qz oz s) (pm0 : Part.of qz .stripe = true := by assumption) :
    Only qz oz (@State.donate s zone surface taken given) := by unfold State.donate; simp (maxDischargeDepth := 99) [*]

@[simp ↓] theorem State.moveEnd_only {qz} {oz : State} (s : State) (p : Placement) (hS : Only qz oz s)
    (pm0 : Part.of qz .stripe = true := by assumption) (pm1 : Part.of qz .cqu = true := by assumption)
    (pm2 : Part.of qz .crd = true := by assumption)
    (pm3 : Part.of qz (.slot 9) = true := by first | assumption | exact of_slot (by assumption))
    (pm4 : Part.of qz (.slot 14) = true := by first | assumption | exact of_slot (by assumption)) :
    Only qz oz (@State.moveEnd s p) := by unfold State.moveEnd; (try dsimp only); (repeat' split) <;> simp (maxDischargeDepth := 99) +contextual [*]

@[simp ↓] theorem State.raiseBoundary_only {qz} {oz : State} (s : State) (p : Placement) (b : Nat) (hS : Only qz oz s)
    (pm0 : Part.of qz .stripe = true := by assumption) (pm1 : Part.of qz .dma = true := by assumption)
    (pm2 : Part.of qz .cqu = true := by assumption) (pm3 : Part.of qz .crd = true := by assumption)
    (pm4 : Part.of qz (.slot 9) = true := by first | assumption | exact of_slot (by assumption))
    (pm5 : Part.of qz (.slot 13) = true := by first | assumption | exact of_slot (by assumption))
    (pm6 : Part.of qz (.slot 14) = true := by first | assumption | exact of_slot (by assumption)) :
    Only qz oz (@State.raiseBoundary s p b) := by unfold State.raiseBoundary; simp (maxDischargeDepth := 99) [*]

@[simp ↓] theorem State.launch_only {qz} {oz : State} (s : State) (x : SideSlot) (hS : Only qz oz s)
    (pm0 : Part.of qz .stripe = true := by assumption) (pm1 : Part.of qz .dma = true := by assumption)
    (pm2 : Part.of qz (.slot 13) = true := by first | assumption | exact of_slot (by assumption)) :
    Only qz oz (@State.launch s x) := by unfold State.launch; (try dsimp only); (repeat' split) <;> simp (maxDischargeDepth := 99) +contextual [*]

@[simp ↓] theorem execStripeOnMedia_only {qz} {oz : State} (slot : Nat) (s : State) (hS : Only qz oz s)
    (pm0 : Part.of qz .stripe = true := by assumption) (pm1 : Part.of qz .dma = true := by assumption)
    (pm2 : Part.of qz .zmu = true := by assumption) (pm3 : Part.of qz .cqu = true := by assumption)
    (pm4 : Part.of qz .crd = true := by assumption)
    (pm5 : Part.of qz (.slot 9) = true := by first | assumption | exact of_slot (by assumption))
    (pm6 : Part.of qz (.slot 13) = true := by first | assumption | exact of_slot (by assumption))
    (pm7 : Part.of qz (.slot 14) = true := by first | assumption | exact of_slot (by assumption)) :
    Keeps (@execStripeOnMedia slot s) (Only qz oz) := by unfold execStripeOnMedia; (try dsimp only); (repeat' split) <;> simp (maxDischargeDepth := 99) +contextual [*]

@[simp ↓] theorem State.wake_only {qz} {oz : State} (s : State) (hS : Only qz oz s)
    (pm0 : Part.of qz .cqu = true := by assumption)
    (pm1 : Part.of qz (.slot 9) = true := by first | assumption | exact of_slot (by assumption)) :
    Only qz oz (@State.wake s) := by
  unfold State.wake
  try dsimp only
  repeat' (first | (simp (maxDischargeDepth := 99) +contextual [*]; done) | refine foldl_only _ _ (fun t b ht => ?_) ?_ | split)
  all_goals simp_all (maxDischargeDepth := 99) +contextual

@[simp ↓] theorem State.chestWrite_only {qz} {oz : State} (s : State) (hS : Only qz oz s)
    (pm0 : Part.of qz .stripe = true := by assumption) :
    Only qz oz (@State.chestWrite s) := by unfold State.chestWrite; simp (maxDischargeDepth := 99) [*]

@[simp ↓] theorem State.bandFlush_only {qz} {oz : State} (s : State) (hS : Only qz oz s)
    (pm0 : Part.of qz .stripe = true := by assumption) :
    Only qz oz (@State.bandFlush s) := by unfold State.bandFlush; simp (maxDischargeDepth := 99) [*]

@[simp ↓] theorem State.checkpoint_only {qz} {oz : State} (s : State) (hS : Only qz oz s)
    (pm0 : Part.of qz .stripe = true := by assumption) (pm1 : Part.of qz .core = true := by assumption)
    (pm2 : Part.of qz .zmu = true := by assumption) :
    Only qz oz (@State.checkpoint s) := by unfold State.checkpoint; simp (maxDischargeDepth := 99) [*]

@[simp ↓] theorem State.restartMove_only {qz} {oz : State} (s : State) (z : Nat) (h : Nat) (hS : Only qz oz s)
    (pm0 : Part.of qz .stripe = true := by assumption) :
    Only qz oz (@State.restartMove s z h) := by unfold State.restartMove; (try dsimp only); (repeat' split) <;> simp (maxDischargeDepth := 99) +contextual [*]

@[simp ↓] theorem State.retireHead_only {qz} {oz : State} (s : State) (h : Nat) (hS : Only qz oz s)
    (pm0 : Part.of qz .media = true := by assumption) (pm1 : Part.of qz .stripe = true := by assumption)
    (pm2 : Part.of qz .cqu = true := by assumption) (pm3 : Part.of qz .crd = true := by assumption)
    (pm4 : Part.of qz (.slot 9) = true := by first | assumption | exact of_slot (by assumption)) :
    Only qz oz (@State.retireHead s h) := by unfold State.retireHead; (try dsimp only); (repeat' split) <;> simp (maxDischargeDepth := 99) +contextual [*]

@[simp ↓] theorem State.retireInStart_only {qz} {oz : State} (s : State) (h : Nat) (hS : Only qz oz s)
    (pm0 : Part.of qz .media = true := by assumption) (pm1 : Part.of qz .stripe = true := by assumption)
    (pm2 : Part.of qz .cqu = true := by assumption) (pm3 : Part.of qz .crd = true := by assumption)
    (pm4 : Part.of qz (.slot 9) = true := by first | assumption | exact of_slot (by assumption)) :
    Only qz oz (@State.retireInStart s h) := by unfold State.retireInStart; simp (maxDischargeDepth := 99) [*]

@[simp ↓] theorem State.rowLost_only {qz} {oz : State} (s : State) (pz : Nat) (i : Nat) (j : Nat) (mask : Word)
    (hS : Only qz oz s) (pm0 : Part.of qz .stripe = true := by assumption) (pm1 : Part.of qz .cqu = true := by assumption)
    (pm2 : Part.of qz .crd = true := by assumption)
    (pm3 : Part.of qz (.slot 9) = true := by first | assumption | exact of_slot (by assumption))
    (pm4 : Part.of qz (.slot 14) = true := by first | assumption | exact of_slot (by assumption)) :
    Only qz oz (@State.rowLost s pz i j mask) := by unfold State.rowLost; simp (maxDischargeDepth := 99) [*]

@[simp ↓] theorem State.degradedRow_only {qz} {oz : State} (fsn : Nat) (pz : Nat) (i : Nat) (after : Bool) (s : State)
    (r : Nat × List MemberRead) (hS : Only qz oz s) (pm0 : Part.of qz .media = true := by assumption)
    (pm1 : Part.of qz .stripe = true := by assumption) (pm2 : Part.of qz .cqu = true := by assumption)
    (pm3 : Part.of qz .crd = true := by assumption)
    (pm4 : Part.of qz (.slot 9) = true := by first | assumption | exact of_slot (by assumption))
    (pm5 : Part.of qz (.slot 14) = true := by first | assumption | exact of_slot (by assumption)) :
    Only qz oz (@State.degradedRow fsn pz i after s r) := by unfold State.degradedRow; (try dsimp only); (repeat' split) <;> simp (maxDischargeDepth := 99) +contextual [*]

@[simp ↓] theorem State.startRebuild_only {qz} {oz : State} (s : State) (p : Placement) (hS : Only qz oz s)
    (pm0 : Part.of qz .stripe = true := by assumption) :
    Only qz oz (@State.startRebuild s p) := by unfold State.startRebuild; (try dsimp only); (repeat' split) <;> simp (maxDischargeDepth := 99) +contextual [*]

/-! ### Cqu -/

@[simp ↓] theorem State.countEnc_only {qz} {oz : State} (s : State) (n : Nat) (hS : Only qz oz s)
    (pm0 : Part.of qz .hpt = true := by assumption)
    (pm1 : Part.of qz (.slot 8) = true := by first | assumption | exact of_slot (by assumption)) :
    Only qz oz (@State.countEnc s n) := by unfold State.countEnc; simp (maxDischargeDepth := 99) [*]

@[simp ↓] theorem State.countDec_only {qz} {oz : State} (s : State) (n : Nat) (hS : Only qz oz s)
    (pm0 : Part.of qz .hpt = true := by assumption)
    (pm1 : Part.of qz (.slot 8) = true := by first | assumption | exact of_slot (by assumption)) :
    Only qz oz (@State.countDec s n) := by unfold State.countDec; simp (maxDischargeDepth := 99) [*]

@[simp ↓] theorem State.keepRead_only {qz} {oz : State} (s : State) (d : Nat) (b : Bytes) (hS : Only qz oz s)
    (pm0 : Part.of qz .buf = true := by assumption) :
    Only qz oz (@State.keepRead s d b) := by unfold State.keepRead; simp (maxDischargeDepth := 99) [*]

@[simp ↓] theorem State.hostData_only {qz} {oz : State} (s : State) (write : Bool) (n : Nat) (hS : Only qz oz s)
    (pm0 : Part.of qz .cqu = true := by assumption) (pm1 : Part.of qz .crd = true := by assumption)
    (pm2 : Part.of qz (.slot 9) = true := by first | assumption | exact of_slot (by assumption)) :
    Only qz oz (@State.hostData s write n) := by unfold State.hostData; simp (maxDischargeDepth := 99) [*]

@[simp ↓] theorem State.failRead_only {qz} {oz : State} (s : State) (fsn : Nat) (hS : Only qz oz s)
    (pm0 : Part.of qz .cqu = true := by assumption) (pm1 : Part.of qz .crd = true := by assumption)
    (pm2 : Part.of qz (.slot 9) = true := by first | assumption | exact of_slot (by assumption)) :
    Only qz oz (@State.failRead s fsn) := by unfold State.failRead; simp (maxDischargeDepth := 99) [*]

@[simp ↓] theorem State.winLine_only {qz} {oz : State} (s : State) (n : Nat) (hS : Only qz oz s)
    (pm0 : Part.of qz .buf = true := by assumption)
    (pm1 : Part.of qz (.slot 12) = true := by first | assumption | exact of_slot (by assumption)) :
    Only qz oz (@State.winLine s n) := by unfold State.winLine; (try dsimp only); (repeat' split) <;> simp (maxDischargeDepth := 99) +contextual [*]

@[simp ↓] theorem State.winByte_only {qz} {oz : State} (s : State) (off : Nat) (b : Byte) (hS : Only qz oz s)
    (pm0 : Part.of qz .buf = true := by assumption)
    (pm1 : Part.of qz (.slot 12) = true := by first | assumption | exact of_slot (by assumption)) :
    Only qz oz (@State.winByte s off b) := by unfold State.winByte; simp (maxDischargeDepth := 99) [*]

@[simp ↓] theorem State.winWrite_only {qz} {oz : State} (s : State) (off : Nat) (b : Bytes) (hS : Only qz oz s)
    (pm0 : Part.of qz .buf = true := by assumption)
    (pm1 : Part.of qz (.slot 12) = true := by first | assumption | exact of_slot (by assumption)) :
    Only qz oz (@State.winWrite s off b) := by unfold State.winWrite; simp (maxDischargeDepth := 99) +contextual [*]

@[simp ↓] theorem State.toHost_only {qz} {oz : State} (s : State) (c : Cmd) (b : Bytes) (hS : Only qz oz s)
    (pm0 : Part.of qz .buf = true := by assumption) (pm1 : Part.of qz .hpt = true := by assumption)
    (pm2 : Part.of qz (.slot 8) = true := by first | assumption | exact of_slot (by assumption))
    (pm3 : Part.of qz (.slot 12) = true := by first | assumption | exact of_slot (by assumption)) :
    Only qz oz (@State.toHost s c b) := by unfold State.toHost; simp (maxDischargeDepth := 99) [*]

@[simp ↓] theorem State.zoneSet_only {qz} {oz : State} (s : State) (lz : Nat) (st : Nat) (wp : Nat) (hS : Only qz oz s)
    (pm0 : Part.of qz .zmu = true := by assumption) :
    Only qz oz (@State.zoneSet s lz st wp) := by unfold State.zoneSet; simp (maxDischargeDepth := 99) [*]

@[simp ↓] theorem State.openRoom_only {qz} {oz : State} (s : State) (hS : Only qz oz s)
    (pm0 : Part.of qz .zmu = true := by assumption) :
    Only qz oz (@State.openRoom s).1 := by unfold State.openRoom; (try dsimp only); (repeat' split) <;> simp (maxDischargeDepth := 99) +contextual [*]

@[simp ↓] theorem State.openZone_only {qz} {oz : State} (s : State) (lz : Nat) (explicit : Bool) (hS : Only qz oz s)
    (pm0 : Part.of qz .zmu = true := by assumption) :
    Only qz oz (@State.openZone s lz explicit).1 := by unfold State.openZone; (try dsimp only); (repeat' split) <;> simp (maxDischargeDepth := 99) +contextual [*]

@[simp ↓] theorem State.zoneCheck_only {qz} {oz : State} (s : State) (c : Cmd) (lz : Nat) (blocks : Nat) (hS : Only qz oz s)
    (pm0 : Part.of qz .zmu = true := by assumption) :
    Only qz oz (@State.zoneCheck s c lz blocks).1 := by
  unfold State.zoneCheck
  have h := State.openZone_only s lz false hS
  (repeat' split) <;> first | exact hS | (rename_i heq; rw [heq] at h; exact h)

@[simp ↓] theorem State.zoneAdvance_only {qz} {oz : State} (s : State) (lz : Nat) (n : Nat) (fsn : Nat) (hS : Only qz oz s)
    (pm0 : Part.of qz .zmu = true := by assumption) :
    Only qz oz (@State.zoneAdvance s lz n fsn) := by unfold State.zoneAdvance; (try dsimp only); (repeat' split) <;> simp (maxDischargeDepth := 99) +contextual [*]

@[simp ↓] theorem State.signal_only {qz} {oz : State} (s : State) (q : Cq) (hS : Only qz oz s)
    (pm0 : Part.of qz .hpt = true := by assumption)
    (pm1 : Part.of qz (.slot 8) = true := by first | assumption | exact of_slot (by assumption)) :
    Only qz oz (@State.signal s q) := by unfold State.signal; (try dsimp only); (repeat' split) <;> simp (maxDischargeDepth := 99) +contextual [*]

@[simp ↓] theorem State.setCq_only {qz} {oz : State} (s : State) (q : Cq) (hS : Only qz oz s)
    (pm0 : Part.of qz .cqu = true := by assumption) :
    Only qz oz (@State.setCq s q) := by unfold State.setCq; simp (maxDischargeDepth := 99) [*]

@[simp ↓] theorem State.setSq_only {qz} {oz : State} (s : State) (q : Sq) (hS : Only qz oz s)
    (pm0 : Part.of qz .cqu = true := by assumption) :
    Only qz oz (@State.setSq s q) := by unfold State.setSq; simp (maxDischargeDepth := 99) [*]

@[simp ↓] theorem State.coalesce_only {qz} {oz : State} (s : State) (q : Cq) (hS : Only qz oz s)
    (pm0 : Part.of qz .cqu = true := by assumption) (pm1 : Part.of qz .hpt = true := by assumption)
    (pm2 : Part.of qz (.slot 8) = true := by first | assumption | exact of_slot (by assumption)) :
    Only qz oz (@State.coalesce s q) := by unfold State.coalesce; simp (maxDischargeDepth := 99) [*]

@[simp ↓] theorem State.errorLog_only {qz} {oz : State} (s : State) (sqid : Nat) (cid : Nat) (status : Nat) (lba : Nat)
    (nsid : Nat) (hS : Only qz oz s) (pm0 : Part.of qz .cqu = true := by assumption) :
    Only qz oz (@State.errorLog s sqid cid status lba nsid) := by unfold State.errorLog; simp (maxDischargeDepth := 99) [*]

@[simp ↓] theorem State.post_only {qz} {oz : State} (s : State) (c : Cmd) (st : Status) (hS : Only qz oz s)
    (pm0 : Part.of qz .buf = true := by assumption) (pm1 : Part.of qz .cqu = true := by assumption)
    (pm2 : Part.of qz .hpt = true := by assumption)
    (pm3 : Part.of qz (.slot 8) = true := by first | assumption | exact of_slot (by assumption)) :
    Only qz oz (@State.post s c st) := by unfold State.post; (try dsimp only); (repeat' split) <;> simp (maxDischargeDepth := 99) +contextual [*]

/-! ### Persist -/

@[simp ↓] theorem State.credWrite_only {qz} {oz : State} (s : State) (hS : Only qz oz s)
    (pm0 : Part.of qz .chest = true := by assumption) (pm1 : Part.of qz .crd = true := by assumption)
    (pm2 : Part.of qz (.slot 4) = true := by first | assumption | exact of_slot (by assumption)) :
    Only qz oz (@State.credWrite s) := by unfold State.credWrite; simp (maxDischargeDepth := 99) [*]

@[simp ↓] theorem State.credClear_only {qz} {oz : State} (s : State) (hS : Only qz oz s)
    (pm0 : Part.of qz .chest = true := by assumption) (pm1 : Part.of qz .crd = true := by assumption)
    (pm2 : Part.of qz (.slot 4) = true := by first | assumption | exact of_slot (by assumption)) :
    Only qz oz (@State.credClear s) := by unfold State.credClear; simp (maxDischargeDepth := 99) [*]

@[simp ↓] theorem State.credPersist_only {qz} {oz : State} (s : State) (hS : Only qz oz s)
    (pm0 : Part.of qz .chest = true := by assumption) (pm1 : Part.of qz .crd = true := by assumption)
    (pm2 : Part.of qz (.slot 4) = true := by first | assumption | exact of_slot (by assumption)) :
    Only qz oz (@State.credPersist s) := by unfold State.credPersist; simp (maxDischargeDepth := 99) [*]

@[simp ↓] theorem State.keepTail_only {qz} {oz : State} (s : State) (k : Nat) (hS : Only qz oz s)
    (pm0 : Part.of qz .zmu = true := by assumption) :
    Only qz oz (@State.keepTail s k) := by unfold State.keepTail; simp (maxDischargeDepth := 99) [*]

@[simp ↓] theorem State.saveStart_only {qz} {oz : State} (s : State) (hS : Only qz oz s)
    (pm0 : Part.of qz .stripe = true := by assumption) (pm1 : Part.of qz .chest = true := by assumption)
    (pm2 : Part.of qz .crd = true := by assumption)
    (pm3 : Part.of qz (.slot 4) = true := by first | assumption | exact of_slot (by assumption)) :
    Only qz oz (@State.saveStart s) := by unfold State.saveStart; simp (maxDischargeDepth := 99) [*]

@[simp ↓] theorem State.saveEnd_only {qz} {oz : State} (s : State) (skipped : Nat) (hS : Only qz oz s)
    (pm0 : Part.of qz .chest = true := by assumption) (pm1 : Part.of qz .zmu = true := by assumption)
    (pm2 : Part.of qz .freeCount = true := by assumption) :
    Only qz oz (@State.saveEnd s skipped) := by unfold State.saveEnd; (try dsimp only); (repeat' split) <;> simp (maxDischargeDepth := 99) +contextual [*]

@[simp ↓] theorem State.saveCut_only {qz} {oz : State} (s : State) (hS : Only qz oz s)
    (pm0 : Part.of qz .chest = true := by assumption) (pm1 : Part.of qz .zmu = true := by assumption)
    (pm2 : Part.of qz .freeCount = true := by assumption) :
    Only qz oz (@State.saveCut s) := by unfold State.saveCut; simp (maxDischargeDepth := 99) [*]

@[simp ↓] theorem State.drain_only {qz} {oz : State} (s : State) (hS : Only qz oz s)
    (pm0 : Part.of qz .stripe = true := by assumption) (pm1 : Part.of qz .buf = true := by assumption)
    (pm2 : Part.of qz .dma = true := by assumption) (pm3 : Part.of qz .zmu = true := by assumption)
    (pm4 : Part.of qz (.slot 13) = true := by first | assumption | exact of_slot (by assumption)) :
    Only qz oz (@State.drain s) := by
  unfold State.drain
  try dsimp only
  repeat' (first | (simp (maxDischargeDepth := 99) +contextual [*]; done) | refine foldl_only _ _ (fun t b ht => ?_) ?_ | split)
  all_goals simp_all (maxDischargeDepth := 99) +contextual

@[simp ↓] theorem State.shutdownStep_only {qz} {oz : State} (s : State) (hS : Only qz oz s)
    (pm0 : Part.of qz .stripe = true := by assumption) (pm1 : Part.of qz .chest = true := by assumption)
    (pm2 : Part.of qz .core = true := by assumption) (pm3 : Part.of qz .buf = true := by assumption)
    (pm4 : Part.of qz .dma = true := by assumption) (pm5 : Part.of qz .zmu = true := by assumption)
    (pm6 : Part.of qz .cqu = true := by assumption) (pm7 : Part.of qz .crd = true := by assumption)
    (pm8 : Part.of qz (.slot 4) = true := by first | assumption | exact of_slot (by assumption))
    (pm9 : Part.of qz (.slot 13) = true := by first | assumption | exact of_slot (by assumption)) :
    Only qz oz (@State.shutdownStep s) := by unfold State.shutdownStep; simp (maxDischargeDepth := 99) [*]

@[simp ↓] theorem State.exitPs_only {qz} {oz : State} (s : State) (hS : Only qz oz s)
    (pm0 : Part.of qz .power = true := by assumption)
    (pm1 : Part.of qz (.slot 0) = true := by first | assumption | exact of_slot (by assumption)) :
    Only qz oz (@State.exitPs s) := by unfold State.exitPs; simp (maxDischargeDepth := 99) [*]

@[simp ↓] theorem State.wakeForIo_only {qz} {oz : State} (s : State) (hS : Only qz oz s)
    (pm0 : Part.of qz .power = true := by assumption)
    (pm1 : Part.of qz (.slot 0) = true := by first | assumption | exact of_slot (by assumption)) :
    Only qz oz (@State.wakeForIo s) := by unfold State.wakeForIo; simp (maxDischargeDepth := 99) [*]

/-! ### BureauOps -/

@[simp ↓] theorem State.measure_only {qz} {oz : State} (s : State) (i : Nat) (typ : Nat) (v : Bytes) (hS : Only qz oz s)
    (pm0 : Part.of qz .bur = true := by assumption)
    (pm1 : Part.of qz (.slot 3) = true := by first | assumption | exact of_slot (by assumption)) :
    Only qz oz (@State.measure s i typ v) := by unfold State.measure; simp (maxDischargeDepth := 99) [*]

@[simp ↓] theorem State.measure8_only {qz} {oz : State} (s : State) (phase : Nat) (hS : Only qz oz s)
    (pm0 : Part.of qz .bur = true := by assumption)
    (pm1 : Part.of qz (.slot 3) = true := by first | assumption | exact of_slot (by assumption)) :
    Only qz oz (@State.measure8 s phase) := by unfold State.measure8; simp (maxDischargeDepth := 99) [*]

/-! ### Commands -/

@[simp ↓] theorem State.aerUncor_only {qz} {oz : State} (s : State) (bit : Nat) (hS : Only qz oz s)
    (pm0 : Part.of qz .hpt = true := by assumption) (pm1 : Part.of qz .freeCount = true := by assumption) :
    Only qz oz (@State.aerUncor s bit) := by unfold State.aerUncor; (try dsimp only); (repeat' split) <;> simp (maxDischargeDepth := 99) +contextual [*]

@[simp ↓] theorem State.unsup_only {qz} {oz : State} (s : State) (read : Bool) (hS : Only qz oz s)
    (pm0 : Part.of qz .hpt = true := by assumption) (pm1 : Part.of qz .freeCount = true := by assumption)
    (pm2 : Part.of qz (.slot 8) = true := by first | assumption | exact of_slot (by assumption)) :
    Only qz oz (@State.unsup s read) := by unfold State.unsup; simp (maxDischargeDepth := 99) [*]

@[simp ↓] theorem State.memReq_only {qz} {oz : State} (s : State) (read : Bool) (f : State → State) (hS : Only qz oz s)
    (hf : ∀ t, Only qz oz t → Only qz oz (f t)) (pm0 : Part.of qz .hpt = true := by assumption)
    (pm1 : Part.of qz .freeCount = true := by assumption)
    (pm2 : Part.of qz (.slot 8) = true := by first | assumption | exact of_slot (by assumption)) :
    Only qz oz (@State.memReq s read f) := by unfold State.memReq; (repeat' split) <;> simp (maxDischargeDepth := 99) [*]

@[simp ↓] theorem State.mmio_only {qz} {oz : State} (s : State) (f : State → State) (hS : Only qz oz s)
    (hf : ∀ t, Only qz oz t → Only qz oz (f t)) (pm0 : Part.of qz .hpt = true := by assumption)
    (pm1 : Part.of qz .freeCount = true := by assumption)
    (pm2 : Part.of qz (.slot 8) = true := by first | assumption | exact of_slot (by assumption)) :
    Only qz oz (@State.mmio s f) := by unfold State.mmio; exact State.memReq_only _ _ _ hS hf

@[simp ↓] theorem State.doorbellError_only {qz} {oz : State} (s : State) (qid : Nat) (hS : Only qz oz s)
    (pm0 : Part.of qz .cqu = true := by assumption) :
    Only qz oz (@State.doorbellError s qid) := by unfold State.doorbellError; simp (maxDischargeDepth := 99) [*]

@[simp ↓] theorem execSqTailDoorbell_only {qz} {oz : State} (qid : Nat) (value : Word) (s : State) (hS : Only qz oz s)
    (pm0 : Part.of qz .cqu = true := by assumption) (pm1 : Part.of qz .hpt = true := by assumption)
    (pm2 : Part.of qz .freeCount = true := by assumption)
    (pm3 : Part.of qz (.slot 8) = true := by first | assumption | exact of_slot (by assumption)) :
    Keeps (@execSqTailDoorbell qid value s) (Only qz oz) := by
  unfold execSqTailDoorbell
  simp only [Keeps_next]
  refine State.mmio_only _ _ hS (fun t ht => ?_)
  (repeat' split) <;> simp (maxDischargeDepth := 99) [*]

@[simp ↓] theorem State.intaLevel_only {qz} {oz : State} (s : State) (hS : Only qz oz s)
    (pm0 : Part.of qz .hpt = true := by assumption)
    (pm1 : Part.of qz (.slot 8) = true := by first | assumption | exact of_slot (by assumption)) :
    Only qz oz (@State.intaLevel s) := by unfold State.intaLevel; simp (maxDischargeDepth := 99) [*]

@[simp ↓] theorem execCqHeadDoorbell_only {qz} {oz : State} (qid : Nat) (value : Word) (s : State) (hS : Only qz oz s)
    (pm0 : Part.of qz .cqu = true := by assumption) (pm1 : Part.of qz .hpt = true := by assumption)
    (pm2 : Part.of qz .freeCount = true := by assumption)
    (pm3 : Part.of qz (.slot 8) = true := by first | assumption | exact of_slot (by assumption)) :
    Keeps (@execCqHeadDoorbell qid value s) (Only qz oz) := by
  unfold execCqHeadDoorbell
  simp only [Keeps_next]
  refine State.mmio_only _ _ hS (fun t ht => ?_)
  (repeat' split) <;> simp (maxDischargeDepth := 99) [*]

@[simp ↓] theorem State.enter_only {qz} {oz : State} (s : State) (sqid : Nat) (e : Sqe) (ranges : List (Nat × Nat × Bool))
    (hS : Only qz oz s) (pm0 : Part.of qz .cqu = true := by assumption) :
    Only qz oz (@State.enter s sqid e ranges) := by unfold State.enter; simp (maxDischargeDepth := 99) [*]

@[simp ↓] theorem State.ltr_only {qz} {oz : State} (s : State) (hS : Only qz oz s)
    (pm0 : Part.of qz .hpt = true := by assumption)
    (pm1 : Part.of qz (.slot 8) = true := by first | assumption | exact of_slot (by assumption)) :
    Only qz oz (@State.ltr s) := by unfold State.ltr; simp (maxDischargeDepth := 99) [*]

@[simp ↓] theorem State.deleteStep_only {qz} {oz : State} (s : State) (hS : Only qz oz s)
    (pm0 : Part.of qz .cqu = true := by assumption)
    (pm1 : Part.of qz (.slot 9) = true := by first | assumption | exact of_slot (by assumption)) :
    Only qz oz (@State.deleteStep s) := by unfold State.deleteStep; simp (maxDischargeDepth := 99) +contextual [*]

@[simp ↓] theorem State.scanEnd_only {qz} {oz : State} (s : State) (c : Cmd) (st : Nat) (hS : Only qz oz s)
    (pm0 : Part.of qz .cqu = true := by assumption)
    (pm1 : Part.of qz (.slot 24) = true := by first | assumption | exact of_slot (by assumption)) :
    Only qz oz (@State.scanEnd s c st) := by unfold State.scanEnd; simp (maxDischargeDepth := 99) [*]

@[simp ↓] theorem State.cancel_only {qz} {oz : State} (s : State) (c : Cmd) (st : Status) (hS : Only qz oz s)
    (pm0 : Part.of qz .stripe = true := by assumption) (pm1 : Part.of qz .cqu = true := by assumption)
    (pm2 : Part.of qz (.slot 9) = true := by first | assumption | exact of_slot (by assumption))
    (pm3 : Part.of qz (.slot 24) = true := by first | assumption | exact of_slot (by assumption)) :
    Only qz oz (@State.cancel s c st) := by unfold State.cancel; simp (maxDischargeDepth := 99) [*]

@[simp ↓] theorem State.deliver_only {qz} {oz : State} (s : State) (hS : Only qz oz s)
    (pm0 : Part.of qz .cqu = true := by assumption)
    (pm1 : Part.of qz (.slot 9) = true := by first | assumption | exact of_slot (by assumption)) :
    Only qz oz (@State.deliver s) := by unfold State.deliver; (try dsimp only); (repeat' split) <;> simp (maxDischargeDepth := 99) +contextual [*]

@[simp ↓] theorem State.selfTest_only {qz} {oz : State} (s : State) (fsn : Nat) (code : Nat) (go : State → State)
    (hS : Only qz oz s) (hf : ∀ t, Only qz oz t → Only qz oz (go t)) (pm0 : Part.of qz .cqu = true := by assumption)
    (pm1 : Part.of qz .power = true := by assumption)
    (pm2 : Part.of qz (.slot 0) = true := by first | assumption | exact of_slot (by assumption))
    (pm3 : Part.of qz (.slot 9) = true := by first | assumption | exact of_slot (by assumption)) :
    Only qz oz (@State.selfTest s fsn code go) := by
  unfold State.selfTest
  (repeat' split) <;> simp (maxDischargeDepth := 99) [*]

@[simp ↓] theorem execCcEnSet_only {qz} {oz : State} (cc : Word) (s : State) (hS : Only qz oz s)
    (pm0 : Part.of qz .cqu = true := by assumption) (pm1 : Part.of qz .hpt = true := by assumption)
    (pm2 : Part.of qz .freeCount = true := by assumption)
    (pm3 : Part.of qz (.slot 8) = true := by first | assumption | exact of_slot (by assumption)) :
    Keeps (@execCcEnSet cc s) (Only qz oz) := by
  unfold execCcEnSet
  simp only [Keeps_next]
  refine State.mmio_only _ _ hS (fun t ht => ?_)
  (repeat' split) <;> simp (maxDischargeDepth := 99) [*]

@[simp ↓] theorem State.ctrlReset_only {qz} {oz : State} (s : State) (cc : Word) (hS : Only qz oz s)
    (pm0 : Part.of qz .stripe = true := by assumption) (pm1 : Part.of qz .buf = true := by assumption)
    (pm2 : Part.of qz .cqu = true := by assumption) (pm3 : Part.of qz .hpt = true := by assumption)
    (pm4 : Part.of qz (.slot 0) = true := by first | assumption | exact of_slot (by assumption))
    (pm5 : Part.of qz (.slot 8) = true := by first | assumption | exact of_slot (by assumption))
    (pm6 : Part.of qz (.slot 24) = true := by first | assumption | exact of_slot (by assumption)) :
    Only qz oz (@State.ctrlReset s cc) := by unfold State.ctrlReset; simp (maxDischargeDepth := 99) +contextual [*]

@[simp ↓] theorem execControllerReset_only {qz} {oz : State} (cc : Word) (s : State) (hS : Only qz oz s)
    (pm0 : Part.of qz .stripe = true := by assumption) (pm1 : Part.of qz .buf = true := by assumption)
    (pm2 : Part.of qz .cqu = true := by assumption) (pm3 : Part.of qz .hpt = true := by assumption)
    (pm4 : Part.of qz .freeCount = true := by assumption)
    (pm5 : Part.of qz (.slot 0) = true := by first | assumption | exact of_slot (by assumption))
    (pm6 : Part.of qz (.slot 8) = true := by first | assumption | exact of_slot (by assumption))
    (pm7 : Part.of qz (.slot 24) = true := by first | assumption | exact of_slot (by assumption)) :
    Keeps (@execControllerReset cc s) (Only qz oz) := by
  unfold execControllerReset
  simp only [Keeps_next]
  refine State.mmio_only _ _ hS (fun t ht => ?_)
  (repeat' split) <;> simp (maxDischargeDepth := 99) [*]

@[simp ↓] theorem execShutdown_only {qz} {oz : State} (cc : Word) (s : State) (hS : Only qz oz s)
    (pm0 : Part.of qz .stripe = true := by assumption) (pm1 : Part.of qz .chest = true := by assumption)
    (pm2 : Part.of qz .core = true := by assumption) (pm3 : Part.of qz .buf = true := by assumption)
    (pm4 : Part.of qz .dma = true := by assumption) (pm5 : Part.of qz .zmu = true := by assumption)
    (pm6 : Part.of qz .cqu = true := by assumption) (pm7 : Part.of qz .hpt = true := by assumption)
    (pm8 : Part.of qz .crd = true := by assumption) (pm9 : Part.of qz .freeCount = true := by assumption)
    (pm10 : Part.of qz (.slot 4) = true := by first | assumption | exact of_slot (by assumption))
    (pm11 : Part.of qz (.slot 8) = true := by first | assumption | exact of_slot (by assumption))
    (pm12 : Part.of qz (.slot 13) = true := by first | assumption | exact of_slot (by assumption)) :
    Keeps (@execShutdown cc s) (Only qz oz) := by unfold execShutdown; simp (maxDischargeDepth := 99) +contextual [*]

@[simp ↓] theorem execIntms_only {qz} {oz : State} (value : Word) (s : State) (hS : Only qz oz s)
    (pm0 : Part.of qz .cqu = true := by assumption) (pm1 : Part.of qz .hpt = true := by assumption)
    (pm2 : Part.of qz .freeCount = true := by assumption)
    (pm3 : Part.of qz (.slot 8) = true := by first | assumption | exact of_slot (by assumption)) :
    Keeps (@execIntms value s) (Only qz oz) := by unfold execIntms; (try dsimp only); (repeat' split) <;> simp (maxDischargeDepth := 99) +contextual [*]

@[simp ↓] theorem execIntmc_only {qz} {oz : State} (value : Word) (s : State) (hS : Only qz oz s)
    (pm0 : Part.of qz .cqu = true := by assumption) (pm1 : Part.of qz .hpt = true := by assumption)
    (pm2 : Part.of qz .freeCount = true := by assumption)
    (pm3 : Part.of qz (.slot 8) = true := by first | assumption | exact of_slot (by assumption)) :
    Keeps (@execIntmc value s) (Only qz oz) := by unfold execIntmc; (try dsimp only); (repeat' split) <;> simp (maxDischargeDepth := 99) +contextual [*]

/-! ### Features -/

@[simp ↓] theorem State.tempWarn_only {qz} {oz : State} (s : State) (hS : Only qz oz s)
    (pm0 : Part.of qz .cqu = true := by assumption)
    (pm1 : Part.of qz (.slot 9) = true := by first | assumption | exact of_slot (by assumption)) :
    Only qz oz (@State.tempWarn s) := by unfold State.tempWarn; simp (maxDischargeDepth := 99) [*]

@[simp ↓] theorem State.applyPs_only {qz} {oz : State} (s : State) (n : Nat) (hS : Only qz oz s)
    (pm0 : Part.of qz .power = true := by assumption)
    (pm1 : Part.of qz (.slot 0) = true := by first | assumption | exact of_slot (by assumption)) :
    Only qz oz (@State.applyPs s n) := by unfold State.applyPs; simp (maxDischargeDepth := 99) [*]

@[simp ↓] theorem State.selectPs_only {qz} {oz : State} (s : State) (n : Nat) (hS : Only qz oz s)
    (pm0 : Part.of qz .power = true := by assumption)
    (pm1 : Part.of qz (.slot 0) = true := by first | assumption | exact of_slot (by assumption)) :
    Only qz oz (@State.selectPs s n) := by unfold State.selectPs; simp (maxDischargeDepth := 99) [*]

@[simp ↓] theorem State.setFeats_only {qz} {oz : State} (s : State) (f : Feats) (hS : Only qz oz s)
    (pm0 : Part.of qz .cqu = true := by assumption) :
    Only qz oz (@State.setFeats s f) := by unfold State.setFeats; simp (maxDischargeDepth := 99) [*]

@[simp ↓] theorem State.setThreshold_only {qz} {oz : State} (s : State) (fsn : Nat) (d : Word) (hS : Only qz oz s)
    (pm0 : Part.of qz .cqu = true := by assumption)
    (pm1 : Part.of qz (.slot 9) = true := by first | assumption | exact of_slot (by assumption)) :
    Only qz oz (@State.setThreshold s fsn d) := by unfold State.setThreshold; simp (maxDischargeDepth := 99) [*]

@[simp ↓] theorem State.setWriteCache_only {qz} {oz : State} (s : State) (c : Cmd) (on : Bool) (hS : Only qz oz s)
    (pm0 : Part.of qz .stripe = true := by assumption) (pm1 : Part.of qz .buf = true := by assumption)
    (pm2 : Part.of qz .dma = true := by assumption) (pm3 : Part.of qz .zmu = true := by assumption)
    (pm4 : Part.of qz .cqu = true := by assumption)
    (pm5 : Part.of qz (.slot 9) = true := by first | assumption | exact of_slot (by assumption))
    (pm6 : Part.of qz (.slot 13) = true := by first | assumption | exact of_slot (by assumption)) :
    Only qz oz (@State.setWriteCache s c on) := by unfold State.setWriteCache; simp (maxDischargeDepth := 99) [*]

@[simp ↓] theorem State.setFeature_only {qz} {oz : State} (s : State) (c : Cmd) (fid : Nat) (d : Word) (data : Bytes)
    (hS : Only qz oz s) (pm0 : Part.of qz .stripe = true := by assumption) (pm1 : Part.of qz .buf = true := by assumption)
    (pm2 : Part.of qz .dma = true := by assumption) (pm3 : Part.of qz .zmu = true := by assumption)
    (pm4 : Part.of qz .cqu = true := by assumption) (pm5 : Part.of qz .power = true := by assumption)
    (pm6 : Part.of qz (.slot 0) = true := by first | assumption | exact of_slot (by assumption))
    (pm7 : Part.of qz (.slot 9) = true := by first | assumption | exact of_slot (by assumption))
    (pm8 : Part.of qz (.slot 13) = true := by first | assumption | exact of_slot (by assumption)) :
    Only qz oz (@State.setFeature s c fid d data) := by unfold State.setFeature; simp (maxDischargeDepth := 99) [*]

/-! ### Logs -/

@[simp ↓] theorem State.clearEvents_only {qz} {oz : State} (s : State) (lid : Nat) (hS : Only qz oz s)
    (pm0 : Part.of qz .cqu = true := by assumption)
    (pm1 : Part.of qz (.slot 9) = true := by first | assumption | exact of_slot (by assumption)) :
    Only qz oz (@State.clearEvents s lid) := by unfold State.clearEvents; simp (maxDischargeDepth := 99) [*]

/-! ### Io -/

@[simp ↓] theorem State.handIn_only {qz} {oz : State} (s : State) (c : Cmd) (buf : List (Nat × Bytes)) (hS : Only qz oz s)
    (pm0 : Part.of qz .cqu = true := by assumption) (pm1 : Part.of qz .hpt = true := by assumption)
    (pm2 : Part.of qz (.slot 8) = true := by first | assumption | exact of_slot (by assumption)) :
    Only qz oz (@State.handIn s c buf) := by unfold State.handIn; simp (maxDischargeDepth := 99) [*]

@[simp ↓] theorem State.writeData_only {qz} {oz : State} (s : State) (c : Cmd) (data : List Bytes) (xfer : Xfer)
    (sealed : Bool) (hS : Only qz oz s) (pm0 : Part.of qz .cqu = true := by assumption)
    (pm1 : Part.of qz .hpt = true := by assumption) (pm2 : Part.of qz .crd = true := by assumption)
    (pm3 : Part.of qz (.slot 8) = true := by first | assumption | exact of_slot (by assumption))
    (pm4 : Part.of qz (.slot 9) = true := by first | assumption | exact of_slot (by assumption)) :
    Only qz oz (@State.writeData s c data xfer sealed) := by unfold State.writeData; (try dsimp only); (repeat' split) <;> simp (maxDischargeDepth := 99) +contextual [*]

@[simp ↓] theorem State.zeroRange_only {qz} {oz : State} (s : State) (r : Nat × Nat) (hS : Only qz oz s)
    (pm0 : Part.of qz .stripe = true := by assumption) (pm1 : Part.of qz .buf = true := by assumption)
    (pm2 : Part.of qz .zmu = true := by assumption) (pm3 : Part.of qz .cqu = true := by assumption) :
    Only qz oz (@State.zeroRange s r) := by unfold State.zeroRange; simp (maxDischargeDepth := 99) +contextual [*]

@[simp ↓] theorem State.gatherHomes_only {qz} {oz : State} (s : State) (l : List (Nat × Bytes)) (hS : Only qz oz s)
    (pm0 : Part.of qz .stripe = true := by assumption) (pm1 : Part.of qz .buf = true := by assumption) :
    Only qz oz (@State.gatherHomes s l) := by unfold State.gatherHomes; simp (maxDischargeDepth := 99) +contextual [*]

@[simp ↓] theorem State.writerDone_only {qz} {oz : State} (s : State) (c : Cmd) (must : Bool) (blocks : List Nat) (dw0 : Nat)
    (dw1 : Nat) (hS : Only qz oz s) (pm0 : Part.of qz .stripe = true := by assumption)
    (pm1 : Part.of qz .buf = true := by assumption) (pm2 : Part.of qz .dma = true := by assumption)
    (pm3 : Part.of qz .zmu = true := by assumption) (pm4 : Part.of qz .cqu = true := by assumption)
    (pm5 : Part.of qz (.slot 9) = true := by first | assumption | exact of_slot (by assumption))
    (pm6 : Part.of qz (.slot 13) = true := by first | assumption | exact of_slot (by assumption)) :
    Only qz oz (@State.writerDone s c must blocks dw0 dw1) := by unfold State.writerDone; simp (maxDischargeDepth := 99) [*]

@[simp ↓] theorem State.commitWriter_only {qz} {oz : State} (s : State) (c : Cmd) (z : Bool) (l : Layout)
    (current : List (Nat × Option Bytes)) (hS : Only qz oz s) (pm0 : Part.of qz .stripe = true := by assumption)
    (pm1 : Part.of qz .buf = true := by assumption) (pm2 : Part.of qz .dma = true := by assumption)
    (pm3 : Part.of qz .zmu = true := by assumption) (pm4 : Part.of qz .cqu = true := by assumption)
    (pm5 : Part.of qz .bur = true := by assumption) (pm6 : Part.of qz .crd = true := by assumption)
    (pm7 : Part.of qz (.slot 9) = true := by first | assumption | exact of_slot (by assumption))
    (pm8 : Part.of qz (.slot 13) = true := by first | assumption | exact of_slot (by assumption)) :
    Only qz oz (@State.commitWriter s c z l current) := by unfold State.commitWriter; (try dsimp only); (repeat' split) <;> simp (maxDischargeDepth := 99) +contextual [*]

@[simp ↓] theorem State.resetZone_only {qz} {oz : State} (s : State) (lz : Nat) (hS : Only qz oz s)
    (pm0 : Part.of qz .stripe = true := by assumption) (pm1 : Part.of qz .buf = true := by assumption)
    (pm2 : Part.of qz .zmu = true := by assumption) (pm3 : Part.of qz .cqu = true := by assumption)
    (pm4 : Part.of qz .crd = true := by assumption)
    (pm5 : Part.of qz (.slot 9) = true := by first | assumption | exact of_slot (by assumption))
    (pm6 : Part.of qz (.slot 14) = true := by first | assumption | exact of_slot (by assumption)) :
    Only qz oz (@State.resetZone s lz) := by unfold State.resetZone; (try dsimp only); (repeat' split) <;> simp (maxDischargeDepth := 99) +contextual [*]

theorem State.finishZone_only {qz} {oz : State} (s : State) (fsn : Nat) (lz : Nat) (hS : Only qz oz s)
    (pm0 : Part.of qz .stripe = true := by assumption) (pm1 : Part.of qz .buf = true := by assumption)
    (pm2 : Part.of qz .zmu = true := by assumption) (pm3 : Part.of qz .cqu = true := by assumption)
    (pm4 : Part.of qz .hpt = true := by assumption) (pm5 : Part.of qz .bur = true := by assumption)
    (pm6 : Part.of qz (.slot 8) = true := by first | assumption | exact of_slot (by assumption)) :
    ∀ t, @State.finishZone s fsn lz = some t → Only qz oz (t) := by unfold State.finishZone; (try dsimp only); (repeat' split) <;> simp (maxDischargeDepth := 99) +contextual [*]

theorem State.zoneAct_only {qz} {oz : State} (s : State) (fsn : Nat) (zsa : Nat) (lz : Nat) (hS : Only qz oz s)
    (pm0 : Part.of qz .stripe = true := by assumption) (pm1 : Part.of qz .buf = true := by assumption)
    (pm2 : Part.of qz .zmu = true := by assumption) (pm3 : Part.of qz .cqu = true := by assumption)
    (pm4 : Part.of qz .hpt = true := by assumption) (pm5 : Part.of qz .bur = true := by assumption)
    (pm6 : Part.of qz .crd = true := by assumption)
    (pm7 : Part.of qz (.slot 8) = true := by first | assumption | exact of_slot (by assumption))
    (pm8 : Part.of qz (.slot 9) = true := by first | assumption | exact of_slot (by assumption))
    (pm9 : Part.of qz (.slot 14) = true := by first | assumption | exact of_slot (by assumption)) :
    ∀ t, @State.zoneAct s fsn zsa lz = some t → Only qz oz (t.1) := by
  intro t
  unfold State.zoneAct
  (repeat' split) <;> simp only [Option.some.injEq, Option.map_eq_some_iff] <;> intro h <;>
    first | (subst h; simp (maxDischargeDepth := 99) [*]) | (obtain ⟨u, hu, rfl⟩ := h; have hz := State.finishZone_only s fsn lz hS; exact hz _ hu)

theorem State.zoneActs_only {qz} {oz : State} (fsn : Nat) (zsa : Nat) (a2 : List Nat) (a3 : State) (hS : Only qz oz a3)
    (pm0 : Part.of qz .stripe = true := by assumption) (pm1 : Part.of qz .buf = true := by assumption)
    (pm2 : Part.of qz .zmu = true := by assumption) (pm3 : Part.of qz .cqu = true := by assumption)
    (pm4 : Part.of qz .hpt = true := by assumption) (pm5 : Part.of qz .bur = true := by assumption)
    (pm6 : Part.of qz .crd = true := by assumption)
    (pm7 : Part.of qz (.slot 8) = true := by first | assumption | exact of_slot (by assumption))
    (pm8 : Part.of qz (.slot 9) = true := by first | assumption | exact of_slot (by assumption))
    (pm9 : Part.of qz (.slot 14) = true := by first | assumption | exact of_slot (by assumption)) :
    ∀ t, @State.zoneActs fsn zsa a2 a3 = some t → Only qz oz (t.1) := by
  induction a2 generalizing a3 with
  | nil => simp [State.zoneActs, hS]
  | cons a l ih =>
    intro t
    unfold State.zoneActs
    split
    · simp
    · rename_i u st hu
      simp only [Option.some.injEq]
      rintro rfl
      have hz := State.zoneAct_only a3 fsn zsa a hS
      exact hz _ hu
    · rename_i u hu
      intro h
      have hz := State.zoneAct_only a3 fsn zsa a hS
      exact ih _ (hz _ hu) _ h

@[simp ↓] theorem State.commitZones_only {qz} {oz : State} (s : State) (c : Cmd) (l : Layout) (hS : Only qz oz s)
    (pm0 : Part.of qz .stripe = true := by assumption) (pm1 : Part.of qz .buf = true := by assumption)
    (pm2 : Part.of qz .zmu = true := by assumption) (pm3 : Part.of qz .cqu = true := by assumption)
    (pm4 : Part.of qz .hpt = true := by assumption) (pm5 : Part.of qz .bur = true := by assumption)
    (pm6 : Part.of qz .crd = true := by assumption)
    (pm7 : Part.of qz (.slot 8) = true := by first | assumption | exact of_slot (by assumption))
    (pm8 : Part.of qz (.slot 9) = true := by first | assumption | exact of_slot (by assumption))
    (pm9 : Part.of qz (.slot 14) = true := by first | assumption | exact of_slot (by assumption)) :
    Only qz oz (@State.commitZones s c l) := by
  unfold State.commitZones
  dsimp only
  split
  · exact hS
  · rename_i hu
    have hz := fun l => State.zoneActs_only c.fsn (sqeZsa c.sqe) l s hS
    exact State.finish_only _ _ _ _ _ (hz _ _ hu)
  · rename_i hu
    have hz := fun l => State.zoneActs_only c.fsn (sqeZsa c.sqe) l s hS
    exact State.finish_only _ _ _ _ _ (hz _ _ hu)

@[simp ↓] theorem State.tryCommit_only {qz} {oz : State} (s : State) (fsn : Nat) (current : List (Nat × Option Bytes))
    (hS : Only qz oz s) (pm0 : Part.of qz .stripe = true := by assumption) (pm1 : Part.of qz .buf = true := by assumption)
    (pm2 : Part.of qz .dma = true := by assumption) (pm3 : Part.of qz .zmu = true := by assumption)
    (pm4 : Part.of qz .cqu = true := by assumption) (pm5 : Part.of qz .hpt = true := by assumption)
    (pm6 : Part.of qz .bur = true := by assumption) (pm7 : Part.of qz .crd = true := by assumption)
    (pm8 : Part.of qz (.slot 8) = true := by first | assumption | exact of_slot (by assumption))
    (pm9 : Part.of qz (.slot 9) = true := by first | assumption | exact of_slot (by assumption))
    (pm10 : Part.of qz (.slot 13) = true := by first | assumption | exact of_slot (by assumption))
    (pm11 : Part.of qz (.slot 14) = true := by first | assumption | exact of_slot (by assumption)) :
    Only qz oz (@State.tryCommit s fsn current) := by unfold State.tryCommit; (try dsimp only); (repeat' split) <;> simp (maxDischargeDepth := 99) +contextual [*]

@[simp ↓] theorem State.zoneSend_only {qz} {oz : State} (s : State) (fsn : Nat) (zsa : Nat) (hS : Only qz oz s)
    (pm0 : Part.of qz .stripe = true := by assumption) (pm1 : Part.of qz .buf = true := by assumption)
    (pm2 : Part.of qz .dma = true := by assumption) (pm3 : Part.of qz .zmu = true := by assumption)
    (pm4 : Part.of qz .cqu = true := by assumption) (pm5 : Part.of qz .hpt = true := by assumption)
    (pm6 : Part.of qz .bur = true := by assumption) (pm7 : Part.of qz .crd = true := by assumption)
    (pm8 : Part.of qz (.slot 8) = true := by first | assumption | exact of_slot (by assumption))
    (pm9 : Part.of qz (.slot 9) = true := by first | assumption | exact of_slot (by assumption))
    (pm10 : Part.of qz (.slot 13) = true := by first | assumption | exact of_slot (by assumption))
    (pm11 : Part.of qz (.slot 14) = true := by first | assumption | exact of_slot (by assumption)) :
    Only qz oz (@State.zoneSend s fsn zsa) := by unfold State.zoneSend; (try dsimp only); (repeat' split) <;> simp (maxDischargeDepth := 99) +contextual [*]

@[simp ↓] theorem State.snapshot_only {qz} {oz : State} (s : State) (c : Cmd) (hS : Only qz oz s)
    (pm0 : Part.of qz .stripe = true := by assumption) (pm1 : Part.of qz .buf = true := by assumption)
    (pm2 : Part.of qz .dma = true := by assumption) (pm3 : Part.of qz .zmu = true := by assumption)
    (pm4 : Part.of qz .cqu = true := by assumption)
    (pm5 : Part.of qz (.slot 13) = true := by first | assumption | exact of_slot (by assumption)) :
    Only qz oz (@State.snapshot s c) := by unfold State.snapshot; (try dsimp only); (repeat' split) <;> simp (maxDischargeDepth := 99) +contextual [*]

@[simp ↓] theorem State.keepReads_only {qz} {oz : State} (s : State) (c : Cmd) (media : List (Option Bytes))
    (hS : Only qz oz s) (pm0 : Part.of qz .buf = true := by assumption) :
    Only qz oz (@State.keepReads s c media) := by
  unfold State.keepReads
  try dsimp only
  repeat' (first | (simp (maxDischargeDepth := 99) +contextual [*]; done) | refine foldl_only _ _ (fun t b ht => ?_) ?_ | split)
  all_goals simp_all (maxDischargeDepth := 99) +contextual

@[simp ↓] theorem State.readerDone_only {qz} {oz : State} (s : State) (c : Cmd) (hS : Only qz oz s)
    (pm0 : Part.of qz .cqu = true := by assumption)
    (pm1 : Part.of qz (.slot 9) = true := by first | assumption | exact of_slot (by assumption)) :
    Only qz oz (@State.readerDone s c) := by unfold State.readerDone; simp (maxDischargeDepth := 99) [*]

@[simp ↓] theorem State.flushStep_only {qz} {oz : State} (s : State) (f : Cmd) (hS : Only qz oz s)
    (pm0 : Part.of qz .stripe = true := by assumption) (pm1 : Part.of qz .buf = true := by assumption)
    (pm2 : Part.of qz .dma = true := by assumption) (pm3 : Part.of qz .zmu = true := by assumption)
    (pm4 : Part.of qz .cqu = true := by assumption)
    (pm5 : Part.of qz (.slot 9) = true := by first | assumption | exact of_slot (by assumption))
    (pm6 : Part.of qz (.slot 13) = true := by first | assumption | exact of_slot (by assumption)) :
    Only qz oz (@State.flushStep s f) := by unfold State.flushStep; simp (maxDischargeDepth := 99) [*]

@[simp ↓] theorem State.flushes_only {qz} {oz : State} (s : State) (hS : Only qz oz s)
    (pm0 : Part.of qz .stripe = true := by assumption) (pm1 : Part.of qz .buf = true := by assumption)
    (pm2 : Part.of qz .dma = true := by assumption) (pm3 : Part.of qz .zmu = true := by assumption)
    (pm4 : Part.of qz .cqu = true := by assumption)
    (pm5 : Part.of qz (.slot 9) = true := by first | assumption | exact of_slot (by assumption))
    (pm6 : Part.of qz (.slot 13) = true := by first | assumption | exact of_slot (by assumption)) :
    Only qz oz (@State.flushes s) := by unfold State.flushes; simp (maxDischargeDepth := 99) +contextual [*]

/-! ### Bureau -/

@[simp ↓] theorem State.progressTo_only {qz} {oz : State} (s : State) (p : Progress) (hS : Only qz oz s)
    (pm0 : Part.of qz .chest = true := by assumption) (pm1 : Part.of qz .cqu = true := by assumption)
    (pm2 : Part.of qz (.slot 9) = true := by first | assumption | exact of_slot (by assumption)) :
    Only qz oz (@State.progressTo s p) := by unfold State.progressTo; simp (maxDischargeDepth := 99) [*]

@[simp ↓] theorem State.discardAll_only {qz} {oz : State} (s : State) (hS : Only qz oz s)
    (pm0 : Part.of qz .stripe = true := by assumption) (pm1 : Part.of qz .buf = true := by assumption)
    (pm2 : Part.of qz .cqu = true := by assumption) :
    Only qz oz (@State.discardAll s) := by unfold State.discardAll; simp (maxDischargeDepth := 99) [*]

@[simp ↓] theorem State.drawKey_only {qz} {oz : State} (s : State) (hS : Only qz oz s)
    (pm0 : Part.of qz .freeCount = true := by assumption) :
    Only qz oz (@State.drawKey s).2 := by unfold State.drawKey; simp (maxDischargeDepth := 99) [*]

@[simp ↓] theorem State.drawPair_only {qz} {oz : State} (a0 : Nat) (a1 : State) (hS : Only qz oz a1)
    (pm0 : Part.of qz .freeCount = true := by assumption) :
    Only qz oz (@State.drawPair a0 a1).2 := by
  induction a0 generalizing a1 with
  | zero => unfold State.drawPair; simp (maxDischargeDepth := 99) [*]
  | succ n ih =>
    unfold State.drawPair
    dsimp only
    split <;> first | exact ih _ (by simp (maxDischargeDepth := 99) [*]) | simp (maxDischargeDepth := 99) [*]

@[simp ↓] theorem State.drawKeys_only {qz} {oz : State} (s : State) (p : Progress) (hS : Only qz oz s)
    (pm0 : Part.of qz .freeCount = true := by assumption) :
    Only qz oz (@State.drawKeys s p).1 := by unfold State.drawKeys; simp (maxDischargeDepth := 99) +contextual [*]

@[simp ↓] theorem State.resetMap_only {qz} {oz : State} (s : State) (p : Progress) (hS : Only qz oz s)
    (pm0 : Part.of qz .stripe = true := by assumption) (pm1 : Part.of qz .zmu = true := by assumption)
    (pm2 : Part.of qz .cqu = true := by assumption) (pm3 : Part.of qz .crd = true := by assumption)
    (pm4 : Part.of qz (.slot 9) = true := by first | assumption | exact of_slot (by assumption))
    (pm5 : Part.of qz (.slot 14) = true := by first | assumption | exact of_slot (by assumption)) :
    Only qz oz (@State.resetMap s p) := by unfold State.resetMap; simp (maxDischargeDepth := 99) +contextual [*]

@[simp ↓] theorem State.eraseChest_only {qz} {oz : State} (s : State) (p : Progress) (hS : Only qz oz s)
    (pm0 : Part.of qz .stripe = true := by assumption) (pm1 : Part.of qz .chest = true := by assumption) :
    Only qz oz (@State.eraseChest s p) := by unfold State.eraseChest; simp (maxDischargeDepth := 99) [*]

@[simp ↓] theorem State.loadKeys_only {qz} {oz : State} (s : State) (keys : List (Nat × Bytes)) (hS : Only qz oz s)
    (pm0 : Part.of qz .hpt = true := by assumption)
    (pm1 : Part.of qz (.slot 8) = true := by first | assumption | exact of_slot (by assumption)) :
    Only qz oz (@State.loadKeys s keys) := by unfold State.loadKeys; simp (maxDischargeDepth := 99) [*]

@[simp ↓] theorem State.checkpointKeys_only {qz} {oz : State} (s : State) (p : Progress) (hS : Only qz oz s)
    (pm0 : Part.of qz .stripe = true := by assumption) (pm1 : Part.of qz .core = true := by assumption)
    (pm2 : Part.of qz .zmu = true := by assumption) (pm3 : Part.of qz .hpt = true := by assumption)
    (pm4 : Part.of qz (.slot 8) = true := by first | assumption | exact of_slot (by assumption)) :
    Only qz oz (@State.checkpointKeys s p) := by unfold State.checkpointKeys; simp (maxDischargeDepth := 99) [*]

@[simp ↓] theorem State.opEnd_only {qz} {oz : State} (s : State) (p : Progress) (hS : Only qz oz s)
    (pm0 : Part.of qz .cqu = true := by assumption) (pm1 : Part.of qz .power = true := by assumption)
    (pm2 : Part.of qz .bur = true := by assumption)
    (pm3 : Part.of qz (.slot 0) = true := by first | assumption | exact of_slot (by assumption))
    (pm4 : Part.of qz (.slot 9) = true := by first | assumption | exact of_slot (by assumption)) :
    Only qz oz (@State.opEnd s p) := by unfold State.opEnd; (try dsimp only); (repeat' split) <;> simp (maxDischargeDepth := 99) +contextual [*]

@[simp ↓] theorem State.opStep_only {qz} {oz : State} (s : State) (hS : Only qz oz s)
    (pm0 : Part.of qz .stripe = true := by assumption) (pm1 : Part.of qz .chest = true := by assumption)
    (pm2 : Part.of qz .core = true := by assumption) (pm3 : Part.of qz .buf = true := by assumption)
    (pm4 : Part.of qz .zmu = true := by assumption) (pm5 : Part.of qz .cqu = true := by assumption)
    (pm6 : Part.of qz .hpt = true := by assumption) (pm7 : Part.of qz .power = true := by assumption)
    (pm8 : Part.of qz .bur = true := by assumption) (pm9 : Part.of qz .crd = true := by assumption)
    (pm10 : Part.of qz .freeCount = true := by assumption)
    (pm11 : Part.of qz (.slot 0) = true := by first | assumption | exact of_slot (by assumption))
    (pm12 : Part.of qz (.slot 8) = true := by first | assumption | exact of_slot (by assumption))
    (pm13 : Part.of qz (.slot 9) = true := by first | assumption | exact of_slot (by assumption))
    (pm14 : Part.of qz (.slot 14) = true := by first | assumption | exact of_slot (by assumption)) :
    Only qz oz (@State.opStep s) := by unfold State.opStep; (try dsimp only); (repeat' split) <;> simp (maxDischargeDepth := 99) +contextual [*]

@[simp ↓] theorem State.opBegin_only {qz} {oz : State} (s : State) (op : Nat) (cdw10 : Word) (pattern : Word) (l : Layout)
    (hS : Only qz oz s) (pm0 : Part.of qz .chest = true := by assumption) (pm1 : Part.of qz .cqu = true := by assumption)
    (pm2 : Part.of qz .bur = true := by assumption)
    (pm3 : Part.of qz (.slot 9) = true := by first | assumption | exact of_slot (by assumption)) :
    Only qz oz (@State.opBegin s op cdw10 pattern l) := by unfold State.opBegin; simp (maxDischargeDepth := 99) [*]

@[simp ↓] theorem State.opStart_only {qz} {oz : State} (s : State) (hS : Only qz oz s)
    (pm0 : Part.of qz .chest = true := by assumption) (pm1 : Part.of qz .cqu = true := by assumption)
    (pm2 : Part.of qz .bur = true := by assumption)
    (pm3 : Part.of qz (.slot 9) = true := by first | assumption | exact of_slot (by assumption)) :
    Only qz oz (@State.opStart s) := by unfold State.opStart; (try dsimp only); (repeat' split) <;> simp (maxDischargeDepth := 99) +contextual [*]

@[simp ↓] theorem State.sanitize_only {qz} {oz : State} (s : State) (fsn : Nat) (act : Nat) (hS : Only qz oz s)
    (pm0 : Part.of qz .chest = true := by assumption) (pm1 : Part.of qz .cqu = true := by assumption)
    (pm2 : Part.of qz .power = true := by assumption) (pm3 : Part.of qz .bur = true := by assumption)
    (pm4 : Part.of qz (.slot 0) = true := by first | assumption | exact of_slot (by assumption))
    (pm5 : Part.of qz (.slot 9) = true := by first | assumption | exact of_slot (by assumption)) :
    Only qz oz (@State.sanitize s fsn act) := by unfold State.sanitize; (try dsimp only); (repeat' split) <;> simp (maxDischargeDepth := 99) +contextual [*]

/-! ### Completion -/

@[simp ↓] theorem State.settle_only {qz} {oz : State} (s : State) (hS : Only qz oz s)
    (pm0 : Part.of qz .stripe = true := by assumption) (pm1 : Part.of qz .chest = true := by assumption)
    (pm2 : Part.of qz .core = true := by assumption) (pm3 : Part.of qz .buf = true := by assumption)
    (pm4 : Part.of qz .dma = true := by assumption) (pm5 : Part.of qz .zmu = true := by assumption)
    (pm6 : Part.of qz .cqu = true := by assumption) (pm7 : Part.of qz .hpt = true := by assumption)
    (pm8 : Part.of qz .bur = true := by assumption) (pm9 : Part.of qz .crd = true := by assumption)
    (pm10 : Part.of qz (.slot 4) = true := by first | assumption | exact of_slot (by assumption))
    (pm11 : Part.of qz (.slot 8) = true := by first | assumption | exact of_slot (by assumption))
    (pm12 : Part.of qz (.slot 9) = true := by first | assumption | exact of_slot (by assumption))
    (pm13 : Part.of qz (.slot 13) = true := by first | assumption | exact of_slot (by assumption)) :
    Only qz oz (@State.settle s) := by unfold State.settle; simp (maxDischargeDepth := 99) [*]

@[simp ↓] theorem execCommitDurable_only {qz} {oz : State} (slot : Nat) (s : State) (hS : Only qz oz s)
    (pm0 : Part.of qz .stripe = true := by assumption) (pm1 : Part.of qz .chest = true := by assumption)
    (pm2 : Part.of qz .core = true := by assumption) (pm3 : Part.of qz .buf = true := by assumption)
    (pm4 : Part.of qz .dma = true := by assumption) (pm5 : Part.of qz .zmu = true := by assumption)
    (pm6 : Part.of qz .cqu = true := by assumption) (pm7 : Part.of qz .hpt = true := by assumption)
    (pm8 : Part.of qz .bur = true := by assumption) (pm9 : Part.of qz .crd = true := by assumption)
    (pm10 : Part.of qz (.slot 4) = true := by first | assumption | exact of_slot (by assumption))
    (pm11 : Part.of qz (.slot 8) = true := by first | assumption | exact of_slot (by assumption))
    (pm12 : Part.of qz (.slot 9) = true := by first | assumption | exact of_slot (by assumption))
    (pm13 : Part.of qz (.slot 13) = true := by first | assumption | exact of_slot (by assumption)) :
    Keeps (@execCommitDurable slot s) (Only qz oz) := by unfold execCommitDurable; (try dsimp only); (repeat' split) <;> simp (maxDischargeDepth := 99) +contextual [*]

/-! ### Boot -/

@[simp ↓] theorem State.toPhase_only {qz} {oz : State} (s : State) (n : Nat) (hS : Only qz oz s)
    (pm0 : Part.of qz (.slot 1) = true := by first | assumption | exact of_slot (by assumption)) :
    Only qz oz (@State.toPhase s n) := by unfold State.toPhase; simp (maxDischargeDepth := 99) [*]

@[simp ↓] theorem State.bootCode_only {qz} {oz : State} (s : State) (sev : Nat) (code : Nat) (unit : Nat) (hS : Only qz oz s)
    (pm0 : Part.of qz .start = true := by assumption)
    (pm1 : Part.of qz (.slot 1) = true := by first | assumption | exact of_slot (by assumption)) :
    Only qz oz (@State.bootCode s sev code unit) := by unfold State.bootCode; simp (maxDischargeDepth := 99) [*]

@[simp ↓] theorem State.halt_only {qz} {oz : State} (s : State) (code : Nat) (unit : Nat) (hS : Only qz oz s)
    (pm0 : Part.of qz .start = true := by assumption) (pm1 : Part.of qz .cqu = true := by assumption)
    (pm2 : Part.of qz (.slot 1) = true := by first | assumption | exact of_slot (by assumption)) :
    Only qz oz (@State.halt s code unit) := by unfold State.halt; simp (maxDischargeDepth := 99) [*]

@[simp ↓] theorem State.hold_only {qz} {oz : State} (s : State) (code : Nat) (unit : Nat) (hS : Only qz oz s)
    (pm0 : Part.of qz .start = true := by assumption)
    (pm1 : Part.of qz (.slot 1) = true := by first | assumption | exact of_slot (by assumption)) :
    Only qz oz (@State.hold s code unit) := by unfold State.hold; simp (maxDischargeDepth := 99) [*]

@[simp ↓] theorem State.holdIo_only {qz} {oz : State} (s : State) (hS : Only qz oz s)
    (pm0 : Part.of qz .cqu = true := by assumption)
    (pm1 : Part.of qz (.slot 9) = true := by first | assumption | exact of_slot (by assumption)) :
    Only qz oz (@State.holdIo s) := by unfold State.holdIo; simp (maxDischargeDepth := 99) [*]

@[simp ↓] theorem State.loseAct_only {qz} {oz : State} (s : State) (x : Act) (hS : Only qz oz s)
    (pm0 : Part.of qz .cqu = true := by assumption)
    (pm1 : Part.of qz (.slot 9) = true := by first | assumption | exact of_slot (by assumption)) :
    Only qz oz (@State.loseAct s x) := by unfold State.loseAct; simp (maxDischargeDepth := 99) [*]

@[simp ↓] theorem State.closeGates_only {qz} {oz : State} (s : State) (x : Act) (hS : Only qz oz s)
    (pm0 : Part.of qz .rep = true := by assumption) :
    Only qz oz (@State.closeGates s x) := by unfold State.closeGates; simp (maxDischargeDepth := 99) [*]

end Sys2Proof.Machine
end

