-- ==== Sys2Proof/Laws/ReachDrive.lean ====
section
/-!
SUPPORT. What each operation of the links, the motion, the channels, the fabric, the resets, the host port and the aperture can touch,
operation by operation.
-/

set_option linter.unusedTactic false
set_option linter.unreachableTactic false
set_option linter.style.nameCheck false

namespace Sys2Proof.Machine

/-! ### Link -/

@[simp ↓] theorem State.sendSet_only {qz} {oz : State} (s : State) (p : Port) (down : Bool) (o : OSet) (hS : Only qz oz s)
    (pm0 : Part.of qz .linkA = true := by assumption) (pm1 : Part.of qz .linkB = true := by assumption)
    (pm2 : Part.of qz .linkZ = true := by assumption) :
    Only qz oz (@State.sendSet s p down o) := by unfold State.sendSet; simp (maxDischargeDepth := 99) [*]

@[simp ↓] theorem State.setArrives_only {qz} {oz : State} (s : State) (p : Port) (down : Bool) (o : OSet) (hS : Only qz oz s)
    (pm0 : Part.of qz .linkA = true := by assumption) (pm1 : Part.of qz .linkB = true := by assumption)
    (pm2 : Part.of qz .linkZ = true := by assumption) :
    Only qz oz (@State.setArrives s p down o) := by unfold State.setArrives; simp (maxDischargeDepth := 99) [*]

@[simp ↓] theorem State.sendCell_only {qz} {oz : State} (s : State) (p : Port) (c : Cell) (hS : Only qz oz s)
    (pm0 : Part.of qz .linkA = true := by assumption) (pm1 : Part.of qz .linkB = true := by assumption)
    (pm2 : Part.of qz .linkZ = true := by assumption) :
    Only qz oz (@State.sendCell s p c) := by unfold State.sendCell; simp (maxDischargeDepth := 99) [*]

@[simp ↓] theorem State.sendCmd_only {qz} {oz : State} (s : State) (p : Port) (unit : Nat) (opcode : Nat) (body : Bytes)
    (hS : Only qz oz s) (pm0 : Part.of qz .linkA = true := by assumption) (pm1 : Part.of qz .linkB = true := by assumption)
    (pm2 : Part.of qz .linkZ = true := by assumption) :
    Only qz oz (@State.sendCmd s p unit opcode body) := by unfold State.sendCmd; simp (maxDischargeDepth := 99) [*]

@[simp ↓] theorem State.feCmd_only {qz} {oz : State} (s : State) (x : Act) (unit : Nat) (opcode : Nat) (body : Bytes)
    (hS : Only qz oz s) (pm0 : Part.of qz .linkA = true := by assumption) (pm1 : Part.of qz .linkB = true := by assumption)
    (pm2 : Part.of qz .linkZ = true := by assumption) :
    Only qz oz (@State.feCmd s x unit opcode body) := by unfold State.feCmd; simp (maxDischargeDepth := 99) [*]

@[simp ↓] theorem State.motCmd_only {qz} {oz : State} (s : State) (unit : Nat) (opcode : Nat) (body : Bytes)
    (hS : Only qz oz s) (pm0 : Part.of qz .linkA = true := by assumption) (pm1 : Part.of qz .linkB = true := by assumption)
    (pm2 : Part.of qz .linkZ = true := by assumption) :
    Only qz oz (@State.motCmd s unit opcode body) := by unfold State.motCmd; simp (maxDischargeDepth := 99) [*]

@[simp ↓] theorem State.retrainStart_only {qz} {oz : State} (s : State) (p : Port) (hS : Only qz oz s)
    (pm0 : Part.of qz .rep = true := by assumption) (pm1 : Part.of qz .cqu = true := by assumption)
    (pm2 : Part.of qz .crd = true := by assumption)
    (pm3 : Part.of qz (.slot 9) = true := by first | assumption | exact of_slot (by assumption))
    (pm4 : Part.of qz (.slot 22) = true := by first | assumption | exact of_slot (by assumption))
    (pm5 : Part.of qz (.slot 23) = true := by first | assumption | exact of_slot (by assumption)) :
    Only qz oz (@State.retrainStart s p) := by unfold State.retrainStart; simp (maxDischargeDepth := 99) [*]

@[simp ↓] theorem State.resendFrom_only {qz} {oz : State} (s : State) (p : Port) (atController : Bool) (i : Nat)
    (hS : Only qz oz s) (pm0 : Part.of qz .linkA = true := by assumption) (pm1 : Part.of qz .linkB = true := by assumption)
    (pm2 : Part.of qz .linkZ = true := by assumption) (pm3 : Part.of qz .rep = true := by assumption)
    (pm4 : Part.of qz .cqu = true := by assumption) (pm5 : Part.of qz .crd = true := by assumption)
    (pm6 : Part.of qz (.slot 9) = true := by first | assumption | exact of_slot (by assumption))
    (pm7 : Part.of qz (.slot 22) = true := by first | assumption | exact of_slot (by assumption))
    (pm8 : Part.of qz (.slot 23) = true := by first | assumption | exact of_slot (by assumption)) :
    Only qz oz (@State.resendFrom s p atController i) := by unfold State.resendFrom; simp (maxDischargeDepth := 99) [*]

@[simp ↓] theorem State.accept_only {qz} {oz : State} (s : State) (p : Port) (h : CellHdr) (sequenced : Bool)
    (hS : Only qz oz s) (pm0 : Part.of qz .linkA = true := by assumption) (pm1 : Part.of qz .linkB = true := by assumption)
    (pm2 : Part.of qz .linkZ = true := by assumption) :
    Only qz oz (@State.accept s p h sequenced).1 := by unfold State.accept; simp (maxDischargeDepth := 99) [*]

@[simp ↓] theorem State.parAccept_only {qz} {oz : State} (s : State) (p : Port) (hS : Only qz oz s)
    (pm0 : Part.of qz .linkA = true := by assumption) (pm1 : Part.of qz .linkB = true := by assumption)
    (pm2 : Part.of qz .linkZ = true := by assumption) :
    Only qz oz (@State.parAccept s p) := by unfold State.parAccept; simp (maxDischargeDepth := 99) [*]

@[simp ↓] theorem State.takeCred_only {qz} {oz : State} (s : State) (p : Port) (hS : Only qz oz s)
    (pm0 : Part.of qz .feA = true := by assumption) (pm1 : Part.of qz .feB = true := by assumption) :
    Only qz oz (@State.takeCred s p).1 := by unfold State.takeCred; (try dsimp only); (repeat' split) <;> simp (maxDischargeDepth := 99) +contextual [*]

@[simp ↓] theorem State.parSend_only {qz} {oz : State} (s : State) (p : Port) (c0 : Cell) (hS : Only qz oz s)
    (pm0 : Part.of qz .linkA = true := by assumption) (pm1 : Part.of qz .linkB = true := by assumption)
    (pm2 : Part.of qz .linkZ = true := by assumption) (pm3 : Part.of qz .feA = true := by assumption)
    (pm4 : Part.of qz .feB = true := by assumption) :
    Only qz oz (@State.parSend s p c0) := by unfold State.parSend; simp (maxDischargeDepth := 99) [*]

@[simp ↓] theorem State.answer_only {qz} {oz : State} (s : State) (p : Port) (unit : Nat) (status : Nat) (opcode : Nat)
    (tag : Byte) (body : Bytes) (hS : Only qz oz s) (pm0 : Part.of qz .linkA = true := by assumption)
    (pm1 : Part.of qz .linkB = true := by assumption) (pm2 : Part.of qz .linkZ = true := by assumption)
    (pm3 : Part.of qz .feA = true := by assumption) (pm4 : Part.of qz .feB = true := by assumption) :
    Only qz oz (@State.answer s p unit status opcode tag body) := by unfold State.answer; simp (maxDischargeDepth := 99) [*]

@[simp ↓] theorem State.trainStart_only {qz} {oz : State} (s : State) (p : Port) (wake : Bool) (hS : Only qz oz s)
    (pm0 : Part.of qz .linkA = true := by assumption) (pm1 : Part.of qz .linkB = true := by assumption)
    (pm2 : Part.of qz .linkZ = true := by assumption)
    (pm3 : Part.of qz (.slot 22) = true := by first | assumption | exact of_slot (by assumption))
    (pm4 : Part.of qz (.slot 23) = true := by first | assumption | exact of_slot (by assumption)) :
    Only qz oz (@State.trainStart s p wake) := by unfold State.trainStart; simp (maxDischargeDepth := 99) [*]

@[simp ↓] theorem State.linkReady_only {qz} {oz : State} (s : State) (p : Port) (asideUp : Option Nat) (asideDn : Option Nat)
    (up : Nat) (dn : Nat) (narrow : Bool) (hS : Only qz oz s) (pm0 : Part.of qz .linkA = true := by assumption)
    (pm1 : Part.of qz .linkB = true := by assumption) (pm2 : Part.of qz .linkZ = true := by assumption)
    (pm3 : Part.of qz (.slot 22) = true := by first | assumption | exact of_slot (by assumption))
    (pm4 : Part.of qz (.slot 23) = true := by first | assumption | exact of_slot (by assumption)) :
    Only qz oz (@State.linkReady s p asideUp asideDn up dn narrow) := by unfold State.linkReady; simp (maxDischargeDepth := 99) [*]

@[simp ↓] theorem State.linkDown_only {qz} {oz : State} (s : State) (p : Port) (hS : Only qz oz s)
    (pm0 : Part.of qz .linkA = true := by assumption) (pm1 : Part.of qz .linkB = true := by assumption)
    (pm2 : Part.of qz .linkZ = true := by assumption) (pm3 : Part.of qz .rep = true := by assumption)
    (pm4 : Part.of qz .cqu = true := by assumption)
    (pm5 : Part.of qz (.slot 9) = true := by first | assumption | exact of_slot (by assumption))
    (pm6 : Part.of qz (.slot 22) = true := by first | assumption | exact of_slot (by assumption))
    (pm7 : Part.of qz (.slot 23) = true := by first | assumption | exact of_slot (by assumption)) :
    Only qz oz (@State.linkDown s p) := by unfold State.linkDown; (try dsimp only); (repeat' split) <;> simp (maxDischargeDepth := 99) +contextual [*]

/-! ### FrontEnd -/

@[simp ↓] theorem State.returnCredits_only {qz} {oz : State} (s : State) (x : Act) (hS : Only qz oz s)
    (pm0 : Part.of qz .linkA = true := by assumption) (pm1 : Part.of qz .linkB = true := by assumption)
    (pm2 : Part.of qz .linkZ = true := by assumption) (pm3 : Part.of qz .feA = true := by assumption)
    (pm4 : Part.of qz .feB = true := by assumption) :
    Only qz oz (@State.returnCredits s x) := by unfold State.returnCredits; simp (maxDischargeDepth := 99) [*]

@[simp ↓] theorem State.feExec_only {qz} {oz : State} (s : State) (x : Act) (unit : Nat) (opcode : Nat) (tag : Byte)
    (f : FrontEnd → FrontEnd × Nat × Bytes) (hS : Only qz oz s) (pm0 : Part.of qz .linkA = true := by assumption)
    (pm1 : Part.of qz .linkB = true := by assumption) (pm2 : Part.of qz .linkZ = true := by assumption)
    (pm3 : Part.of qz .feA = true := by assumption) (pm4 : Part.of qz .feB = true := by assumption) :
    Only qz oz (@State.feExec s x unit opcode tag f) := by unfold State.feExec; simp (maxDischargeDepth := 99) [*]

@[simp ↓] theorem State.feEvent_only {qz} {oz : State} (s : State) (x : Act) (unit : Nat) (code : Nat) (head : Nat)
    (sidx : Word) (hS : Only qz oz s) (pm0 : Part.of qz .linkA = true := by assumption)
    (pm1 : Part.of qz .linkB = true := by assumption) (pm2 : Part.of qz .linkZ = true := by assumption)
    (pm3 : Part.of qz .feA = true := by assumption) (pm4 : Part.of qz .feB = true := by assumption) :
    Only qz oz (@State.feEvent s x unit code head sidx) := by unfold State.feEvent; simp (maxDischargeDepth := 99) [*]

/-! ### Motion -/

@[simp ↓] theorem State.motExec_only {qz} {oz : State} (s : State) (unit : Nat) (opcode : Nat) (tag : Byte)
    (f : MotionChip → MotionChip × Nat × Bytes) (hS : Only qz oz s) (pm0 : Part.of qz .linkA = true := by assumption)
    (pm1 : Part.of qz .linkB = true := by assumption) (pm2 : Part.of qz .linkZ = true := by assumption)
    (pm3 : Part.of qz .feA = true := by assumption) (pm4 : Part.of qz .feB = true := by assumption)
    (pm5 : Part.of qz .motion = true := by assumption) :
    Only qz oz (@State.motExec s unit opcode tag f) := by unfold State.motExec; simp (maxDischargeDepth := 99) [*]

/-! ### ServoOps -/

@[simp ↓] theorem State.toAct_only {qz} {oz : State} (s : State) (x : Act) (n : Nat) (hS : Only qz oz s)
    (pm0 : Part.of qz (.slot 20) = true := by first | assumption | exact of_slot (by assumption)) :
    Only qz oz (@State.toAct s x n) := by unfold State.toAct; simp (maxDischargeDepth := 99) [*]

@[simp ↓] theorem State.setFsq_only {qz} {oz : State} (s : State) (n : Nat) (f : Fsq) (hS : Only qz oz s)
    (pm0 : Part.of qz .fsqs = true := by assumption) :
    Only qz oz (@State.setFsq s n f) := by unfold State.setFsq; simp (maxDischargeDepth := 99) [*]

@[simp ↓] theorem State.assistOff_only {qz} {oz : State} (s : State) (ch : Nat) (hS : Only qz oz s)
    (pm0 : Part.of qz .linkA = true := by assumption) (pm1 : Part.of qz .linkB = true := by assumption)
    (pm2 : Part.of qz .linkZ = true := by assumption) (pm3 : Part.of qz .rwcs = true := by assumption) :
    Only qz oz (@State.assistOff s ch) := by unfold State.assistOff; (try dsimp only); (repeat' split) <;> simp (maxDischargeDepth := 99) +contextual [*]

@[simp ↓] theorem State.sendWih_only {qz} {oz : State} (s : State) (x : Act) (mask : Nat) (hS : Only qz oz s)
    (pm0 : Part.of qz .linkA = true := by assumption) (pm1 : Part.of qz .linkB = true := by assumption)
    (pm2 : Part.of qz .linkZ = true := by assumption) (pm3 : Part.of qz .freeCount = true := by assumption) :
    Only qz oz (@State.sendWih s x mask) := by unfold State.sendWih; simp (maxDischargeDepth := 99) [*]

@[simp ↓] theorem State.stopUnits_only {qz} {oz : State} (s : State) (x : Act) (mask : Nat) (hS : Only qz oz s)
    (pm0 : Part.of qz .rep = true := by assumption) (pm1 : Part.of qz .fsqs = true := by assumption) :
    Only qz oz (@State.stopUnits s x mask) := by
  unfold State.stopUnits
  try dsimp only
  repeat' (first | (simp (maxDischargeDepth := 99) +contextual [*]; done) | refine foldl_only _ _ (fun t b ht => ?_) ?_ | split)
  all_goals simp_all (maxDischargeDepth := 99) +contextual

@[simp ↓] theorem State.stopWrites_only {qz} {oz : State} (s : State) (x : Act) (mask : Nat) (hS : Only qz oz s)
    (pm0 : Part.of qz .linkA = true := by assumption) (pm1 : Part.of qz .linkB = true := by assumption)
    (pm2 : Part.of qz .linkZ = true := by assumption) (pm3 : Part.of qz .rep = true := by assumption)
    (pm4 : Part.of qz .fsqs = true := by assumption) (pm5 : Part.of qz .freeCount = true := by assumption) :
    Only qz oz (@State.stopWrites s x mask) := by unfold State.stopWrites; simp (maxDischargeDepth := 99) [*]

@[simp ↓] theorem State.microOff_only {qz} {oz : State} (s : State) (x : Act) (hS : Only qz oz s)
    (pm0 : Part.of qz .servoA = true := by assumption) (pm1 : Part.of qz .servoB = true := by assumption)
    (pm2 : Part.of qz (.slot 20) = true := by first | assumption | exact of_slot (by assumption)) :
    Only qz oz (@State.microOff s x) := by unfold State.microOff; simp (maxDischargeDepth := 99) [*]

@[simp ↓] theorem State.retractAct_only {qz} {oz : State} (s : State) (x : Act) (hS : Only qz oz s)
    (pm0 : Part.of qz .linkA = true := by assumption) (pm1 : Part.of qz .linkB = true := by assumption)
    (pm2 : Part.of qz .linkZ = true := by assumption) (pm3 : Part.of qz .rep = true := by assumption)
    (pm4 : Part.of qz .servoA = true := by assumption) (pm5 : Part.of qz .servoB = true := by assumption)
    (pm6 : Part.of qz .fsqs = true := by assumption) (pm7 : Part.of qz .freeCount = true := by assumption)
    (pm8 : Part.of qz (.slot 20) = true := by first | assumption | exact of_slot (by assumption)) :
    Only qz oz (@State.retractAct s x) := by unfold State.retractAct; simp (maxDischargeDepth := 99) [*]

@[simp ↓] theorem State.unloadAct_only {qz} {oz : State} (s : State) (x : Act) (hS : Only qz oz s)
    (pm0 : Part.of qz .linkA = true := by assumption) (pm1 : Part.of qz .linkB = true := by assumption)
    (pm2 : Part.of qz .linkZ = true := by assumption) (pm3 : Part.of qz .rep = true := by assumption)
    (pm4 : Part.of qz .servoA = true := by assumption) (pm5 : Part.of qz .servoB = true := by assumption)
    (pm6 : Part.of qz .fsqs = true := by assumption) (pm7 : Part.of qz .freeCount = true := by assumption)
    (pm8 : Part.of qz (.slot 20) = true := by first | assumption | exact of_slot (by assumption)) :
    Only qz oz (@State.unloadAct s x) := by unfold State.unloadAct; simp (maxDischargeDepth := 99) [*]

@[simp ↓] theorem State.unloadBoth_only {qz} {oz : State} (s : State) (hS : Only qz oz s)
    (pm0 : Part.of qz .linkA = true := by assumption) (pm1 : Part.of qz .linkB = true := by assumption)
    (pm2 : Part.of qz .linkZ = true := by assumption) (pm3 : Part.of qz .rep = true := by assumption)
    (pm4 : Part.of qz .servoA = true := by assumption) (pm5 : Part.of qz .servoB = true := by assumption)
    (pm6 : Part.of qz .fsqs = true := by assumption) (pm7 : Part.of qz .freeCount = true := by assumption)
    (pm8 : Part.of qz (.slot 20) = true := by first | assumption | exact of_slot (by assumption)) :
    Only qz oz (@State.unloadBoth s) := by unfold State.unloadBoth; simp (maxDischargeDepth := 99) [*]

/-! ### Spindle -/

@[simp ↓] theorem State.toSpin_only {qz} {oz : State} (s : State) (n : Nat) (hS : Only qz oz s)
    (pm0 : Part.of qz (.slot 21) = true := by first | assumption | exact of_slot (by assumption)) :
    Only qz oz (@State.toSpin s n) := by unfold State.toSpin; simp (maxDischargeDepth := 99) [*]

@[simp ↓] theorem State.setSpin_only {qz} {oz : State} (s : State) (v : Spindle) (hS : Only qz oz s)
    (pm0 : Part.of qz .spin = true := by assumption) :
    Only qz oz (@State.setSpin s v) := by unfold State.setSpin; simp (maxDischargeDepth := 99) [*]

@[simp ↓] theorem State.limitAt_only {qz} {oz : State} (s : State) (rpm : Nat) (hS : Only qz oz s)
    (pm0 : Part.of qz .buf = true := by assumption) :
    Only qz oz (@State.limitAt s rpm) := by unfold State.limitAt; simp (maxDischargeDepth := 99) [*]

@[simp ↓] theorem State.sendMode_only {qz} {oz : State} (s : State) (mode : Nat) (limit : Nat) (hS : Only qz oz s)
    (pm0 : Part.of qz .linkA = true := by assumption) (pm1 : Part.of qz .linkB = true := by assumption)
    (pm2 : Part.of qz .linkZ = true := by assumption) (pm3 : Part.of qz .spin = true := by assumption) :
    Only qz oz (@State.sendMode s mode limit) := by unfold State.sendMode; simp (maxDischargeDepth := 99) [*]

@[simp ↓] theorem State.driveAt_only {qz} {oz : State} (s : State) (lt : Word) (angle : Int) (rate : Int) (ampl : Nat)
    (hS : Only qz oz s) (pm0 : Part.of qz .linkA = true := by assumption) (pm1 : Part.of qz .linkB = true := by assumption)
    (pm2 : Part.of qz .linkZ = true := by assumption) :
    Only qz oz (@State.driveAt s lt angle rate ampl) := by unfold State.driveAt; simp (maxDischargeDepth := 99) [*]

@[simp ↓] theorem State.sendDrive_only {qz} {oz : State} (s : State) (lt : Word) (hS : Only qz oz s)
    (pm0 : Part.of qz .linkA = true := by assumption) (pm1 : Part.of qz .linkB = true := by assumption)
    (pm2 : Part.of qz .linkZ = true := by assumption) :
    Only qz oz (@State.sendDrive s lt) := by unfold State.sendDrive; simp (maxDischargeDepth := 99) [*]

@[simp ↓] theorem State.sendTable_only {qz} {oz : State} (s : State) (hS : Only qz oz s)
    (pm0 : Part.of qz .linkA = true := by assumption) (pm1 : Part.of qz .linkB = true := by assumption)
    (pm2 : Part.of qz .linkZ = true := by assumption) (pm3 : Part.of qz .spin = true := by assumption) :
    Only qz oz (@State.sendTable s) := by unfold State.sendTable; simp (maxDischargeDepth := 99) +contextual [*]

@[simp ↓] theorem State.offSpeed_only {qz} {oz : State} (s : State) (hS : Only qz oz s)
    (pm0 : Part.of qz .spin = true := by assumption)
    (pm1 : Part.of qz (.slot 21) = true := by first | assumption | exact of_slot (by assumption)) :
    Only qz oz (@State.offSpeed s) := by unfold State.offSpeed; simp (maxDischargeDepth := 99) [*]

@[simp ↓] theorem State.takeTarget_only {qz} {oz : State} (s : State) (n : Nat) (hS : Only qz oz s)
    (pm0 : Part.of qz .linkA = true := by assumption) (pm1 : Part.of qz .linkB = true := by assumption)
    (pm2 : Part.of qz .linkZ = true := by assumption) (pm3 : Part.of qz .spin = true := by assumption)
    (pm4 : Part.of qz (.slot 21) = true := by first | assumption | exact of_slot (by assumption)) :
    Only qz oz (@State.takeTarget s n) := by unfold State.takeTarget; simp (maxDischargeDepth := 99) [*]

@[simp ↓] theorem State.observe_only {qz} {oz : State} (s : State) (hS : Only qz oz s)
    (pm0 : Part.of qz .linkA = true := by assumption) (pm1 : Part.of qz .linkB = true := by assumption)
    (pm2 : Part.of qz .linkZ = true := by assumption) (pm3 : Part.of qz .spin = true := by assumption)
    (pm4 : Part.of qz (.slot 21) = true := by first | assumption | exact of_slot (by assumption)) :
    Only qz oz (@State.observe s) := by unfold State.observe; simp (maxDischargeDepth := 99) [*]

@[simp ↓] theorem State.startSpin_only {qz} {oz : State} (s : State) (hS : Only qz oz s)
    (pm0 : Part.of qz .linkA = true := by assumption) (pm1 : Part.of qz .linkB = true := by assumption)
    (pm2 : Part.of qz .linkZ = true := by assumption) (pm3 : Part.of qz .spin = true := by assumption)
    (pm4 : Part.of qz (.slot 21) = true := by first | assumption | exact of_slot (by assumption)) :
    Only qz oz (@State.startSpin s) := by unfold State.startSpin; simp (maxDischargeDepth := 99) [*]

@[simp ↓] theorem State.stopSpin_only {qz} {oz : State} (s : State) (hS : Only qz oz s)
    (pm0 : Part.of qz .linkA = true := by assumption) (pm1 : Part.of qz .linkB = true := by assumption)
    (pm2 : Part.of qz .linkZ = true := by assumption) (pm3 : Part.of qz .spin = true := by assumption)
    (pm4 : Part.of qz (.slot 21) = true := by first | assumption | exact of_slot (by assumption)) :
    Only qz oz (@State.stopSpin s) := by unfold State.stopSpin; simp (maxDischargeDepth := 99) [*]

@[simp ↓] theorem State.lowerTarget_only {qz} {oz : State} (s : State) (hS : Only qz oz s)
    (pm0 : Part.of qz .linkA = true := by assumption) (pm1 : Part.of qz .linkB = true := by assumption)
    (pm2 : Part.of qz .linkZ = true := by assumption) (pm3 : Part.of qz .spin = true := by assumption)
    (pm4 : Part.of qz (.slot 21) = true := by first | assumption | exact of_slot (by assumption)) :
    Only qz oz (@State.lowerTarget s) := by unfold State.lowerTarget; (try dsimp only); (repeat' split) <;> simp (maxDischargeDepth := 99) +contextual [*]

@[simp ↓] theorem State.setDemand_only {qz} {oz : State} (s : State) (d : Nat) (hS : Only qz oz s)
    (pm0 : Part.of qz .linkA = true := by assumption) (pm1 : Part.of qz .linkB = true := by assumption)
    (pm2 : Part.of qz .linkZ = true := by assumption) (pm3 : Part.of qz .spin = true := by assumption)
    (pm4 : Part.of qz .buf = true := by assumption)
    (pm5 : Part.of qz (.slot 21) = true := by first | assumption | exact of_slot (by assumption)) :
    Only qz oz (@State.setDemand s d) := by unfold State.setDemand; simp (maxDischargeDepth := 99) [*]

@[simp ↓] theorem State.spinFault_only {qz} {oz : State} (s : State) (detail : Nat) (hS : Only qz oz s)
    (pm0 : Part.of qz .start = true := by assumption) (pm1 : Part.of qz .linkA = true := by assumption)
    (pm2 : Part.of qz .linkB = true := by assumption) (pm3 : Part.of qz .linkZ = true := by assumption)
    (pm4 : Part.of qz .rep = true := by assumption) (pm5 : Part.of qz .spin = true := by assumption)
    (pm6 : Part.of qz .servoA = true := by assumption) (pm7 : Part.of qz .servoB = true := by assumption)
    (pm8 : Part.of qz .fsqs = true := by assumption) (pm9 : Part.of qz .buf = true := by assumption)
    (pm10 : Part.of qz .cqu = true := by assumption) (pm11 : Part.of qz .crd = true := by assumption)
    (pm12 : Part.of qz .freeCount = true := by assumption)
    (pm13 : Part.of qz (.slot 1) = true := by first | assumption | exact of_slot (by assumption))
    (pm14 : Part.of qz (.slot 9) = true := by first | assumption | exact of_slot (by assumption))
    (pm15 : Part.of qz (.slot 20) = true := by first | assumption | exact of_slot (by assumption))
    (pm16 : Part.of qz (.slot 21) = true := by first | assumption | exact of_slot (by assumption)) :
    Only qz oz (@State.spinFault s detail) := by unfold State.spinFault; simp (maxDischargeDepth := 99) [*]

@[simp ↓] theorem State.catch__only {qz} {oz : State} (s : State) (l : List Crossing) (hS : Only qz oz s)
    (pm0 : Part.of qz .linkA = true := by assumption) (pm1 : Part.of qz .linkB = true := by assumption)
    (pm2 : Part.of qz .linkZ = true := by assumption) (pm3 : Part.of qz .spin = true := by assumption)
    (pm4 : Part.of qz (.slot 21) = true := by first | assumption | exact of_slot (by assumption)) :
    Only qz oz (@State.catch_ s l) := by unfold State.catch_; (try dsimp only); (repeat' split) <;> simp (maxDischargeDepth := 99) +contextual [*]

@[simp ↓] theorem State.align_only {qz} {oz : State} (s : State) (hS : Only qz oz s)
    (pm0 : Part.of qz .linkA = true := by assumption) (pm1 : Part.of qz .linkB = true := by assumption)
    (pm2 : Part.of qz .linkZ = true := by assumption) (pm3 : Part.of qz .spin = true := by assumption)
    (pm4 : Part.of qz (.slot 21) = true := by first | assumption | exact of_slot (by assumption)) :
    Only qz oz (@State.align s) := by unfold State.align; simp (maxDischargeDepth := 99) [*]

@[simp ↓] theorem State.brake_only {qz} {oz : State} (s : State) (hS : Only qz oz s)
    (pm0 : Part.of qz .linkA = true := by assumption) (pm1 : Part.of qz .linkB = true := by assumption)
    (pm2 : Part.of qz .linkZ = true := by assumption) (pm3 : Part.of qz .spin = true := by assumption)
    (pm4 : Part.of qz (.slot 21) = true := by first | assumption | exact of_slot (by assumption)) :
    Only qz oz (@State.brake s) := by unfold State.brake; simp (maxDischargeDepth := 99) [*]

@[simp ↓] theorem State.observed_only {qz} {oz : State} (s : State) (hS : Only qz oz s)
    (pm0 : Part.of qz .linkA = true := by assumption) (pm1 : Part.of qz .linkB = true := by assumption)
    (pm2 : Part.of qz .linkZ = true := by assumption) (pm3 : Part.of qz .spin = true := by assumption)
    (pm4 : Part.of qz (.slot 21) = true := by first | assumption | exact of_slot (by assumption)) :
    Only qz oz (@State.observed s) := by unfold State.observed; simp (maxDischargeDepth := 99) [*]

@[simp ↓] theorem State.stopped_only {qz} {oz : State} (s : State) (hS : Only qz oz s)
    (pm0 : Part.of qz .linkA = true := by assumption) (pm1 : Part.of qz .linkB = true := by assumption)
    (pm2 : Part.of qz .linkZ = true := by assumption) (pm3 : Part.of qz .spin = true := by assumption)
    (pm4 : Part.of qz .buf = true := by assumption)
    (pm5 : Part.of qz (.slot 21) = true := by first | assumption | exact of_slot (by assumption)) :
    Only qz oz (@State.stopped s) := by unfold State.stopped; simp (maxDischargeDepth := 99) [*]

@[simp ↓] theorem State.atSpeed_only {qz} {oz : State} (s : State) (hS : Only qz oz s)
    (pm0 : Part.of qz .linkA = true := by assumption) (pm1 : Part.of qz .linkB = true := by assumption)
    (pm2 : Part.of qz .linkZ = true := by assumption) (pm3 : Part.of qz .spin = true := by assumption)
    (pm4 : Part.of qz .buf = true := by assumption)
    (pm5 : Part.of qz (.slot 1) = true := by first | assumption | exact of_slot (by assumption))
    (pm6 : Part.of qz (.slot 21) = true := by first | assumption | exact of_slot (by assumption)) :
    Only qz oz (@State.atSpeed s) := by unfold State.atSpeed; simp (maxDischargeDepth := 99) [*]

@[simp ↓] theorem State.loopStep_only {qz} {oz : State} (s : State) (e : Rat) (te : Rat) (hS : Only qz oz s)
    (pm0 : Part.of qz .spin = true := by assumption) :
    Only qz oz (@State.loopStep s e te).1 := by unfold State.loopStep; simp (maxDischargeDepth := 99) [*]

@[simp ↓] theorem State.raiseTarget_only {qz} {oz : State} (s : State) (hS : Only qz oz s)
    (pm0 : Part.of qz .linkA = true := by assumption) (pm1 : Part.of qz .linkB = true := by assumption)
    (pm2 : Part.of qz .linkZ = true := by assumption) (pm3 : Part.of qz .spin = true := by assumption)
    (pm4 : Part.of qz (.slot 21) = true := by first | assumption | exact of_slot (by assumption)) :
    Only qz oz (@State.raiseTarget s) := by unfold State.raiseTarget; (try dsimp only); (repeat' split) <;> simp (maxDischargeDepth := 99) +contextual [*]

@[simp ↓] theorem State.inertiaRun_only {qz} {oz : State} (s : State) (rpm : Nat) (t : Word) (hS : Only qz oz s)
    (pm0 : Part.of qz .spin = true := by assumption) :
    Only qz oz (@State.inertiaRun s rpm t) := by unfold State.inertiaRun; simp (maxDischargeDepth := 99) [*]

@[simp ↓] theorem State.speedLoop_only {qz} {oz : State} (s : State) (t : Word) (hS : Only qz oz s)
    (pm0 : Part.of qz .linkA = true := by assumption) (pm1 : Part.of qz .linkB = true := by assumption)
    (pm2 : Part.of qz .linkZ = true := by assumption) (pm3 : Part.of qz .spin = true := by assumption)
    (pm4 : Part.of qz .buf = true := by assumption)
    (pm5 : Part.of qz (.slot 1) = true := by first | assumption | exact of_slot (by assumption))
    (pm6 : Part.of qz (.slot 21) = true := by first | assumption | exact of_slot (by assumption)) :
    Only qz oz (@State.speedLoop s t) := by unfold State.speedLoop; simp (maxDischargeDepth := 99) [*]

@[simp ↓] theorem State.respin_only {qz} {oz : State} (s : State) (now : Nat) (hS : Only qz oz s)
    (pm0 : Part.of qz .linkA = true := by assumption) (pm1 : Part.of qz .linkB = true := by assumption)
    (pm2 : Part.of qz .linkZ = true := by assumption) (pm3 : Part.of qz .rep = true := by assumption)
    (pm4 : Part.of qz .spin = true := by assumption) (pm5 : Part.of qz .servoA = true := by assumption)
    (pm6 : Part.of qz .servoB = true := by assumption) (pm7 : Part.of qz .fsqs = true := by assumption)
    (pm8 : Part.of qz .cqu = true := by assumption) (pm9 : Part.of qz .crd = true := by assumption)
    (pm10 : Part.of qz .freeCount = true := by assumption)
    (pm11 : Part.of qz (.slot 9) = true := by first | assumption | exact of_slot (by assumption))
    (pm12 : Part.of qz (.slot 20) = true := by first | assumption | exact of_slot (by assumption))
    (pm13 : Part.of qz (.slot 21) = true := by first | assumption | exact of_slot (by assumption)) :
    Only qz oz (@State.respin s now) := by unfold State.respin; simp (maxDischargeDepth := 99) [*]

@[simp ↓] theorem State.rotorLost_only {qz} {oz : State} (s : State) (now : Nat) (hS : Only qz oz s)
    (pm0 : Part.of qz .start = true := by assumption) (pm1 : Part.of qz .linkA = true := by assumption)
    (pm2 : Part.of qz .linkB = true := by assumption) (pm3 : Part.of qz .linkZ = true := by assumption)
    (pm4 : Part.of qz .rep = true := by assumption) (pm5 : Part.of qz .spin = true := by assumption)
    (pm6 : Part.of qz .servoA = true := by assumption) (pm7 : Part.of qz .servoB = true := by assumption)
    (pm8 : Part.of qz .fsqs = true := by assumption) (pm9 : Part.of qz .buf = true := by assumption)
    (pm10 : Part.of qz .cqu = true := by assumption) (pm11 : Part.of qz .crd = true := by assumption)
    (pm12 : Part.of qz .freeCount = true := by assumption)
    (pm13 : Part.of qz (.slot 1) = true := by first | assumption | exact of_slot (by assumption))
    (pm14 : Part.of qz (.slot 9) = true := by first | assumption | exact of_slot (by assumption))
    (pm15 : Part.of qz (.slot 20) = true := by first | assumption | exact of_slot (by assumption))
    (pm16 : Part.of qz (.slot 21) = true := by first | assumption | exact of_slot (by assumption)) :
    Only qz oz (@State.rotorLost s now) := by unfold State.rotorLost; (try dsimp only); (repeat' split) <;> simp (maxDischargeDepth := 99) +contextual [*]

@[simp ↓] theorem State.handoverOk_only {qz} {oz : State} (s : State) (hS : Only qz oz s)
    (pm0 : Part.of qz .start = true := by assumption) (pm1 : Part.of qz .linkA = true := by assumption)
    (pm2 : Part.of qz .linkB = true := by assumption) (pm3 : Part.of qz .linkZ = true := by assumption)
    (pm4 : Part.of qz .rep = true := by assumption) (pm5 : Part.of qz .spin = true := by assumption)
    (pm6 : Part.of qz .servoA = true := by assumption) (pm7 : Part.of qz .servoB = true := by assumption)
    (pm8 : Part.of qz .fsqs = true := by assumption) (pm9 : Part.of qz .buf = true := by assumption)
    (pm10 : Part.of qz .cqu = true := by assumption) (pm11 : Part.of qz .crd = true := by assumption)
    (pm12 : Part.of qz .freeCount = true := by assumption)
    (pm13 : Part.of qz (.slot 1) = true := by first | assumption | exact of_slot (by assumption))
    (pm14 : Part.of qz (.slot 9) = true := by first | assumption | exact of_slot (by assumption))
    (pm15 : Part.of qz (.slot 20) = true := by first | assumption | exact of_slot (by assumption))
    (pm16 : Part.of qz (.slot 21) = true := by first | assumption | exact of_slot (by assumption)) :
    Only qz oz (@State.handoverOk s) := by unfold State.handoverOk; simp (maxDischargeDepth := 99) [*]

@[simp ↓] theorem State.crossing_only {qz} {oz : State} (s : State) (c : Crossing) (now : Nat) (hS : Only qz oz s)
    (pm0 : Part.of qz .start = true := by assumption) (pm1 : Part.of qz .linkA = true := by assumption)
    (pm2 : Part.of qz .linkB = true := by assumption) (pm3 : Part.of qz .linkZ = true := by assumption)
    (pm4 : Part.of qz .rep = true := by assumption) (pm5 : Part.of qz .spin = true := by assumption)
    (pm6 : Part.of qz .servoA = true := by assumption) (pm7 : Part.of qz .servoB = true := by assumption)
    (pm8 : Part.of qz .fsqs = true := by assumption) (pm9 : Part.of qz .buf = true := by assumption)
    (pm10 : Part.of qz .cqu = true := by assumption) (pm11 : Part.of qz .crd = true := by assumption)
    (pm12 : Part.of qz .freeCount = true := by assumption)
    (pm13 : Part.of qz (.slot 1) = true := by first | assumption | exact of_slot (by assumption))
    (pm14 : Part.of qz (.slot 9) = true := by first | assumption | exact of_slot (by assumption))
    (pm15 : Part.of qz (.slot 20) = true := by first | assumption | exact of_slot (by assumption))
    (pm16 : Part.of qz (.slot 21) = true := by first | assumption | exact of_slot (by assumption)) :
    Only qz oz (@State.crossing s c now) := by unfold State.crossing; simp (maxDischargeDepth := 99) [*]

@[simp ↓] theorem State.elecCell_only {qz} {oz : State} (s : State) (lt : Word) (iU : Int) (iV : Int) (vU : Int) (vV : Int)
    (vW : Int) (now : Nat) (hS : Only qz oz s) (pm0 : Part.of qz .start = true := by assumption)
    (pm1 : Part.of qz .linkA = true := by assumption) (pm2 : Part.of qz .linkB = true := by assumption)
    (pm3 : Part.of qz .linkZ = true := by assumption) (pm4 : Part.of qz .rep = true := by assumption)
    (pm5 : Part.of qz .spin = true := by assumption) (pm6 : Part.of qz .servoA = true := by assumption)
    (pm7 : Part.of qz .servoB = true := by assumption) (pm8 : Part.of qz .fsqs = true := by assumption)
    (pm9 : Part.of qz .buf = true := by assumption) (pm10 : Part.of qz .cqu = true := by assumption)
    (pm11 : Part.of qz .crd = true := by assumption) (pm12 : Part.of qz .freeCount = true := by assumption)
    (pm13 : Part.of qz (.slot 1) = true := by first | assumption | exact of_slot (by assumption))
    (pm14 : Part.of qz (.slot 9) = true := by first | assumption | exact of_slot (by assumption))
    (pm15 : Part.of qz (.slot 20) = true := by first | assumption | exact of_slot (by assumption))
    (pm16 : Part.of qz (.slot 21) = true := by first | assumption | exact of_slot (by assumption)) :
    Only qz oz (@State.elecCell s lt iU iV vU vV vW now) := by unfold State.elecCell; simp (maxDischargeDepth := 99) +contextual [*]

@[simp ↓] theorem State.overcurrent_only {qz} {oz : State} (s : State) (now : Nat) (hS : Only qz oz s)
    (pm0 : Part.of qz .start = true := by assumption) (pm1 : Part.of qz .linkA = true := by assumption)
    (pm2 : Part.of qz .linkB = true := by assumption) (pm3 : Part.of qz .linkZ = true := by assumption)
    (pm4 : Part.of qz .rep = true := by assumption) (pm5 : Part.of qz .spin = true := by assumption)
    (pm6 : Part.of qz .servoA = true := by assumption) (pm7 : Part.of qz .servoB = true := by assumption)
    (pm8 : Part.of qz .fsqs = true := by assumption) (pm9 : Part.of qz .buf = true := by assumption)
    (pm10 : Part.of qz .cqu = true := by assumption) (pm11 : Part.of qz .crd = true := by assumption)
    (pm12 : Part.of qz .freeCount = true := by assumption)
    (pm13 : Part.of qz (.slot 1) = true := by first | assumption | exact of_slot (by assumption))
    (pm14 : Part.of qz (.slot 9) = true := by first | assumption | exact of_slot (by assumption))
    (pm15 : Part.of qz (.slot 20) = true := by first | assumption | exact of_slot (by assumption))
    (pm16 : Part.of qz (.slot 21) = true := by first | assumption | exact of_slot (by assumption)) :
    Only qz oz (@State.overcurrent s now) := by unfold State.overcurrent; simp (maxDischargeDepth := 99) [*]

/-! ### Servo -/

@[simp ↓] theorem State.mapUnit_only {qz} {oz : State} (s : State) (x : Act) (u : Nat) (f : ServoUnit → ServoUnit)
    (hS : Only qz oz s) (pm0 : Part.of qz .servoA = true := by assumption) (pm1 : Part.of qz .servoB = true := by assumption)
    :
    Only qz oz (@State.mapUnit s x u f) := by unfold State.mapUnit; simp (maxDischargeDepth := 99) [*]

@[simp ↓] theorem State.putTables_only {qz} {oz : State} (s : State) (t : ServoTables) (hS : Only qz oz s)
    (pm0 : Part.of qz .tables = true := by assumption) :
    Only qz oz (@State.putTables s t) := by unfold State.putTables; simp (maxDischargeDepth := 99) [*]

@[simp ↓] theorem State.vcmMode_only {qz} {oz : State} (s : State) (x : Act) (m : Nat) (hS : Only qz oz s)
    (pm0 : Part.of qz .servoA = true := by assumption) (pm1 : Part.of qz .servoB = true := by assumption) :
    Only qz oz (@State.vcmMode s x m) := by unfold State.vcmMode; simp (maxDischargeDepth := 99) [*]

@[simp ↓] theorem State.microMode_only {qz} {oz : State} (s : State) (x : Act) (u : Nat) (m : Nat) (hS : Only qz oz s)
    (pm0 : Part.of qz .servoA = true := by assumption) (pm1 : Part.of qz .servoB = true := by assumption)
    (pm2 : Part.of qz (.slot 20) = true := by first | assumption | exact of_slot (by assumption)) :
    Only qz oz (@State.microMode s x u m) := by unfold State.microMode; simp (maxDischargeDepth := 99) [*]

@[simp ↓] theorem State.swapBank_only {qz} {oz : State} (s : State) (x : Act) (hS : Only qz oz s)
    (pm0 : Part.of qz (.slot 20) = true := by first | assumption | exact of_slot (by assumption)) :
    Only qz oz (@State.swapBank s x) := by unfold State.swapBank; simp (maxDischargeDepth := 99) [*]

@[simp ↓] theorem State.maSelect_only {qz} {oz : State} (s : State) (x : Act) (hS : Only qz oz s)
    (pm0 : Part.of qz .linkA = true := by assumption) (pm1 : Part.of qz .linkB = true := by assumption)
    (pm2 : Part.of qz .linkZ = true := by assumption) :
    Only qz oz (@State.maSelect s x) := by unfold State.maSelect; simp (maxDischargeDepth := 99) [*]

@[simp ↓] theorem State.selectHead_only {qz} {oz : State} (s : State) (x : Act) (u : Nat) (h : Nat) (hS : Only qz oz s)
    (pm0 : Part.of qz .linkA = true := by assumption) (pm1 : Part.of qz .linkB = true := by assumption)
    (pm2 : Part.of qz .linkZ = true := by assumption) (pm3 : Part.of qz .servoA = true := by assumption)
    (pm4 : Part.of qz .servoB = true := by assumption) (pm5 : Part.of qz .rwcs = true := by assumption)
    (pm6 : Part.of qz (.slot 20) = true := by first | assumption | exact of_slot (by assumption)) :
    Only qz oz (@State.selectHead s x u h) := by unfold State.selectHead; simp (maxDischargeDepth := 99) [*]

@[simp ↓] theorem State.pathCtrl_only {qz} {oz : State} (s : State) (x : Act) (u : Nat) (on : Bool) (hS : Only qz oz s)
    (pm0 : Part.of qz .linkA = true := by assumption) (pm1 : Part.of qz .linkB = true := by assumption)
    (pm2 : Part.of qz .linkZ = true := by assumption) (pm3 : Part.of qz .rwcs = true := by assumption)
    (pm4 : Part.of qz (.slot 17) = true := by first | assumption | exact of_slot (by assumption))
    (pm5 : Part.of qz (.slot 20) = true := by first | assumption | exact of_slot (by assumption)) :
    Only qz oz (@State.pathCtrl s x u on) := by unfold State.pathCtrl; simp (maxDischargeDepth := 99) [*]

@[simp ↓] theorem State.startMove_only {qz} {oz : State} (s : State) (x : Act) (m : ArmMove) (hS : Only qz oz s)
    (pm0 : Part.of qz .linkA = true := by assumption) (pm1 : Part.of qz .linkB = true := by assumption)
    (pm2 : Part.of qz .linkZ = true := by assumption) (pm3 : Part.of qz .servoA = true := by assumption)
    (pm4 : Part.of qz .servoB = true := by assumption) (pm5 : Part.of qz .rwcs = true := by assumption)
    (pm6 : Part.of qz (.slot 20) = true := by first | assumption | exact of_slot (by assumption)) :
    Only qz oz (@State.startMove s x m) := by unfold State.startMove; (try dsimp only); (repeat' split) <;> simp (maxDischargeDepth := 99) +contextual [*]

@[simp ↓] theorem State.moveUnit_only {qz} {oz : State} (s : State) (x : Act) (u : Nat) (h : Nat) (target : Int)
    (hS : Only qz oz s) (pm0 : Part.of qz .linkA = true := by assumption) (pm1 : Part.of qz .linkB = true := by assumption)
    (pm2 : Part.of qz .linkZ = true := by assumption) (pm3 : Part.of qz .servoA = true := by assumption)
    (pm4 : Part.of qz .servoB = true := by assumption) (pm5 : Part.of qz .rwcs = true := by assumption)
    (pm6 : Part.of qz (.slot 20) = true := by first | assumption | exact of_slot (by assumption)) :
    Only qz oz (@State.moveUnit s x u h target) := by unfold State.moveUnit; simp (maxDischargeDepth := 99) [*]

@[simp ↓] theorem State.sendSetpt_only {qz} {oz : State} (s : State) (x : Act) (wedge : Nat) (apply : Nat) (vcm : Int)
    (m0 : Int) (m1 : Int) (hS : Only qz oz s) (pm0 : Part.of qz .linkA = true := by assumption)
    (pm1 : Part.of qz .linkB = true := by assumption) (pm2 : Part.of qz .linkZ = true := by assumption) :
    Only qz oz (@State.sendSetpt s x wedge apply vcm m0 m1) := by unfold State.sendSetpt; simp (maxDischargeDepth := 99) [*]

@[simp ↓] theorem State.countMiss_only {qz} {oz : State} (s : State) (x : Act) (u : Nat) (missed : Bool) (hS : Only qz oz s)
    (pm0 : Part.of qz .linkA = true := by assumption) (pm1 : Part.of qz .linkB = true := by assumption)
    (pm2 : Part.of qz .linkZ = true := by assumption) (pm3 : Part.of qz .servoA = true := by assumption)
    (pm4 : Part.of qz .servoB = true := by assumption) (pm5 : Part.of qz .rwcs = true := by assumption)
    (pm6 : Part.of qz .media = true := by assumption) (pm7 : Part.of qz .stripe = true := by assumption)
    (pm8 : Part.of qz .cqu = true := by assumption) (pm9 : Part.of qz .crd = true := by assumption)
    (pm10 : Part.of qz (.slot 9) = true := by first | assumption | exact of_slot (by assumption))
    (pm11 : Part.of qz (.slot 20) = true := by first | assumption | exact of_slot (by assumption)) :
    Only qz oz (@State.countMiss s x u missed) := by unfold State.countMiss; simp (maxDischargeDepth := 99) [*]

@[simp ↓] theorem State.lockLost_only {qz} {oz : State} (s : State) (x : Act) (hS : Only qz oz s)
    (pm0 : Part.of qz .linkA = true := by assumption) (pm1 : Part.of qz .linkB = true := by assumption)
    (pm2 : Part.of qz .linkZ = true := by assumption) (pm3 : Part.of qz .rep = true := by assumption)
    (pm4 : Part.of qz .servoA = true := by assumption) (pm5 : Part.of qz .servoB = true := by assumption)
    (pm6 : Part.of qz .fsqs = true := by assumption) (pm7 : Part.of qz .cqu = true := by assumption)
    (pm8 : Part.of qz .crd = true := by assumption) (pm9 : Part.of qz .freeCount = true := by assumption)
    (pm10 : Part.of qz (.slot 9) = true := by first | assumption | exact of_slot (by assumption))
    (pm11 : Part.of qz (.slot 20) = true := by first | assumption | exact of_slot (by assumption)) :
    Only qz oz (@State.lockLost s x) := by unfold State.lockLost; simp (maxDischargeDepth := 99) [*]

@[simp ↓] theorem State.seekFailed_only {qz} {oz : State} (s : State) (x : Act) (arm : Int) (k : SeekRef) (hS : Only qz oz s)
    (pm0 : Part.of qz .linkA = true := by assumption) (pm1 : Part.of qz .linkB = true := by assumption)
    (pm2 : Part.of qz .linkZ = true := by assumption) (pm3 : Part.of qz .rep = true := by assumption)
    (pm4 : Part.of qz .servoA = true := by assumption) (pm5 : Part.of qz .servoB = true := by assumption)
    (pm6 : Part.of qz .fsqs = true := by assumption) (pm7 : Part.of qz .cqu = true := by assumption)
    (pm8 : Part.of qz .crd = true := by assumption) (pm9 : Part.of qz .freeCount = true := by assumption)
    (pm10 : Part.of qz (.slot 9) = true := by first | assumption | exact of_slot (by assumption))
    (pm11 : Part.of qz (.slot 20) = true := by first | assumption | exact of_slot (by assumption)) :
    Only qz oz (@State.seekFailed s x arm k) := by unfold State.seekFailed; simp (maxDischargeDepth := 99) [*]

@[simp ↓] theorem State.enterSettle_only {qz} {oz : State} (s : State) (x : Act) (hS : Only qz oz s)
    (pm0 : Part.of qz .servoA = true := by assumption) (pm1 : Part.of qz .servoB = true := by assumption)
    (pm2 : Part.of qz (.slot 20) = true := by first | assumption | exact of_slot (by assumption)) :
    Only qz oz (@State.enterSettle s x) := by unfold State.enterSettle; simp (maxDischargeDepth := 99) +contextual [*]

@[simp ↓] theorem State.seekTime_only {qz} {oz : State} (s : State) (x : Act) (hS : Only qz oz s)
    (pm0 : Part.of qz .servoA = true := by assumption) (pm1 : Part.of qz .servoB = true := by assumption)
    (pm2 : Part.of qz .cqu = true := by assumption) (pm3 : Part.of qz .crd = true := by assumption)
    (pm4 : Part.of qz (.slot 9) = true := by first | assumption | exact of_slot (by assumption)) :
    Only qz oz (@State.seekTime s x) := by unfold State.seekTime; (try dsimp only); (repeat' split) <;> simp (maxDischargeDepth := 99) +contextual [*]

@[simp ↓] theorem State.enterFollow_only {qz} {oz : State} (s : State) (x : Act) (hS : Only qz oz s)
    (pm0 : Part.of qz .linkA = true := by assumption) (pm1 : Part.of qz .linkB = true := by assumption)
    (pm2 : Part.of qz .linkZ = true := by assumption) (pm3 : Part.of qz .servoA = true := by assumption)
    (pm4 : Part.of qz .servoB = true := by assumption) (pm5 : Part.of qz .rwcs = true := by assumption)
    (pm6 : Part.of qz .cqu = true := by assumption) (pm7 : Part.of qz .crd = true := by assumption)
    (pm8 : Part.of qz (.slot 9) = true := by first | assumption | exact of_slot (by assumption))
    (pm9 : Part.of qz (.slot 17) = true := by first | assumption | exact of_slot (by assumption))
    (pm10 : Part.of qz (.slot 20) = true := by first | assumption | exact of_slot (by assumption)) :
    Only qz oz (@State.enterFollow s x) := by unfold State.enterFollow; simp (maxDischargeDepth := 99) +contextual [*]

@[simp ↓] theorem State.reacquired_only {qz} {oz : State} (s : State) (x : Act) (arm : Int) (hS : Only qz oz s)
    (pm0 : Part.of qz .servoA = true := by assumption) (pm1 : Part.of qz .servoB = true := by assumption)
    (pm2 : Part.of qz (.slot 20) = true := by first | assumption | exact of_slot (by assumption)) :
    Only qz oz (@State.reacquired s x arm) := by unfold State.reacquired; simp (maxDischargeDepth := 99) [*]

@[simp ↓] theorem State.permit_only {qz} {oz : State} (s : State) (x : Act) (errs : List (Option Int)) (inTime : Bool)
    (hS : Only qz oz s) (pm0 : Part.of qz .linkA = true := by assumption) (pm1 : Part.of qz .linkB = true := by assumption)
    (pm2 : Part.of qz .linkZ = true := by assumption) (pm3 : Part.of qz .rep = true := by assumption)
    (pm4 : Part.of qz .servoA = true := by assumption) (pm5 : Part.of qz .servoB = true := by assumption)
    (pm6 : Part.of qz .fsqs = true := by assumption) (pm7 : Part.of qz .freeCount = true := by assumption)
    (pm8 : Part.of qz (.slot 20) = true := by first | assumption | exact of_slot (by assumption)) :
    Only qz oz (@State.permit s x errs inTime) := by unfold State.permit; simp (maxDischargeDepth := 99) [*]

@[simp ↓] theorem State.microNext_only {qz} {oz : State} (s : State) (x : Act) (u : Nat) (uc : Int) (ud : Int)
    (m : Option UnitMeas) (arm : Int) (hS : Only qz oz s) (pm0 : Part.of qz .servoA = true := by assumption)
    (pm1 : Part.of qz .servoB = true := by assumption)
    (pm2 : Part.of qz (.slot 20) = true := by first | assumption | exact of_slot (by assumption)) :
    Only qz oz (@State.microNext s x u uc ud m arm) := by unfold State.microNext; simp (maxDischargeDepth := 99) [*]

@[simp ↓] theorem State.takeMeas_only {qz} {oz : State} (s : State) (x : Act) (u : Nat) (o : WedgeObs) (m : Option UnitMeas)
    (index : Nat) (arm : Int) (hS : Only qz oz s) (pm0 : Part.of qz .linkA = true := by assumption)
    (pm1 : Part.of qz .linkB = true := by assumption) (pm2 : Part.of qz .linkZ = true := by assumption)
    (pm3 : Part.of qz .servoA = true := by assumption) (pm4 : Part.of qz .servoB = true := by assumption)
    (pm5 : Part.of qz .rwcs = true := by assumption) (pm6 : Part.of qz .media = true := by assumption)
    (pm7 : Part.of qz .stripe = true := by assumption) (pm8 : Part.of qz .cqu = true := by assumption)
    (pm9 : Part.of qz .crd = true := by assumption)
    (pm10 : Part.of qz (.slot 9) = true := by first | assumption | exact of_slot (by assumption))
    (pm11 : Part.of qz (.slot 20) = true := by first | assumption | exact of_slot (by assumption)) :
    Only qz oz (@State.takeMeas s x u o m index arm) := by unfold State.takeMeas; (try dsimp only); (repeat' split) <;> simp (maxDischargeDepth := 99) +contextual [*]

@[simp ↓] theorem State.servoTrans_only {qz} {oz : State} (s : State) (x : Act) (y : Option Rat) (armMeas : Int) (left : Nat)
    (errs : List (Option Int)) (hS : Only qz oz s) (pm0 : Part.of qz .linkA = true := by assumption)
    (pm1 : Part.of qz .linkB = true := by assumption) (pm2 : Part.of qz .linkZ = true := by assumption)
    (pm3 : Part.of qz .rep = true := by assumption) (pm4 : Part.of qz .servoA = true := by assumption)
    (pm5 : Part.of qz .servoB = true := by assumption) (pm6 : Part.of qz .fsqs = true := by assumption)
    (pm7 : Part.of qz .rwcs = true := by assumption) (pm8 : Part.of qz .cqu = true := by assumption)
    (pm9 : Part.of qz .crd = true := by assumption) (pm10 : Part.of qz .freeCount = true := by assumption)
    (pm11 : Part.of qz (.slot 9) = true := by first | assumption | exact of_slot (by assumption))
    (pm12 : Part.of qz (.slot 17) = true := by first | assumption | exact of_slot (by assumption))
    (pm13 : Part.of qz (.slot 20) = true := by first | assumption | exact of_slot (by assumption)) :
    Only qz oz (@State.servoTrans s x y armMeas left errs) := by unfold State.servoTrans; (try dsimp only); (repeat' split) <;> simp (maxDischargeDepth := 99) +contextual [*]

@[simp ↓] theorem State.takeMoves_only {qz} {oz : State} (s : State) (x : Act) (hS : Only qz oz s)
    (pm0 : Part.of qz .linkA = true := by assumption) (pm1 : Part.of qz .linkB = true := by assumption)
    (pm2 : Part.of qz .linkZ = true := by assumption) (pm3 : Part.of qz .servoA = true := by assumption)
    (pm4 : Part.of qz .servoB = true := by assumption) (pm5 : Part.of qz .rwcs = true := by assumption)
    (pm6 : Part.of qz (.slot 20) = true := by first | assumption | exact of_slot (by assumption)) :
    Only qz oz (@State.takeMoves s x) := by
  unfold State.takeMoves
  try dsimp only
  repeat' (first | (simp (maxDischargeDepth := 99) +contextual [*]; done) | refine foldl_only _ _ (fun t b ht => ?_) ?_ | split)
  all_goals simp_all (maxDischargeDepth := 99) +contextual

@[simp ↓] theorem State.takeSeek_only {qz} {oz : State} (s : State) (x : Act) (hS : Only qz oz s)
    (pm0 : Part.of qz .linkA = true := by assumption) (pm1 : Part.of qz .linkB = true := by assumption)
    (pm2 : Part.of qz .linkZ = true := by assumption) (pm3 : Part.of qz .servoA = true := by assumption)
    (pm4 : Part.of qz .servoB = true := by assumption) (pm5 : Part.of qz .rwcs = true := by assumption)
    (pm6 : Part.of qz (.slot 20) = true := by first | assumption | exact of_slot (by assumption)) :
    Only qz oz (@State.takeSeek s x) := by unfold State.takeSeek; (try dsimp only); (repeat' split) <;> simp (maxDischargeDepth := 99) +contextual [*]

@[simp ↓] theorem State.takePending_only {qz} {oz : State} (s : State) (x : Act) (hS : Only qz oz s)
    (pm0 : Part.of qz .linkA = true := by assumption) (pm1 : Part.of qz .linkB = true := by assumption)
    (pm2 : Part.of qz .linkZ = true := by assumption) (pm3 : Part.of qz .servoA = true := by assumption)
    (pm4 : Part.of qz .servoB = true := by assumption) (pm5 : Part.of qz .rwcs = true := by assumption)
    (pm6 : Part.of qz (.slot 20) = true := by first | assumption | exact of_slot (by assumption)) :
    Only qz oz (@State.takePending s x) := by
  unfold State.takePending
  dsimp only
  split
  · exact hS
  · split
    · simp (maxDischargeDepth := 99) [*]
    · have h2 : (Only qz oz) ((s.takeMoves x).takeSeek x) := by simp (maxDischargeDepth := 99) [*]
      split
      · simp (maxDischargeDepth := 99) [*]
      · exact h2

@[simp ↓] theorem State.lawDone_only {qz} {oz : State} (s : State) (x : Act) (xhat : List Int) (drive : Int) (tk : Nat)
    (w : Nat) (intervals : List Nat) (miss : Bool) (sat : Nat) (hS : Only qz oz s)
    (pm0 : Part.of qz .servoA = true := by assumption) (pm1 : Part.of qz .servoB = true := by assumption)
    (pm2 : Part.of qz (.slot 20) = true := by first | assumption | exact of_slot (by assumption)) :
    Only qz oz (@State.lawDone s x xhat drive tk w intervals miss sat) := by unfold State.lawDone; simp (maxDischargeDepth := 99) [*]

@[simp ↓] theorem State.wedgeEnd_only {qz} {oz : State} (s : State) (x : Act) (errs : List (Option Int)) (y : Option Rat)
    (arm : Int) (left : Nat) (inTime : Bool) (hS : Only qz oz s) (pm0 : Part.of qz .linkA = true := by assumption)
    (pm1 : Part.of qz .linkB = true := by assumption) (pm2 : Part.of qz .linkZ = true := by assumption)
    (pm3 : Part.of qz .rep = true := by assumption) (pm4 : Part.of qz .servoA = true := by assumption)
    (pm5 : Part.of qz .servoB = true := by assumption) (pm6 : Part.of qz .fsqs = true := by assumption)
    (pm7 : Part.of qz .rwcs = true := by assumption) (pm8 : Part.of qz .cqu = true := by assumption)
    (pm9 : Part.of qz .crd = true := by assumption) (pm10 : Part.of qz .freeCount = true := by assumption)
    (pm11 : Part.of qz (.slot 9) = true := by first | assumption | exact of_slot (by assumption))
    (pm12 : Part.of qz (.slot 17) = true := by first | assumption | exact of_slot (by assumption))
    (pm13 : Part.of qz (.slot 20) = true := by first | assumption | exact of_slot (by assumption)) :
    Only qz oz (@State.wedgeEnd s x errs y arm left inTime) := by unfold State.wedgeEnd; simp (maxDischargeDepth := 99) [*]

@[simp ↓] theorem State.loopWedge_only {qz} {oz : State} (s : State) (x : Act) (o0 : WedgeObs) (o1 : WedgeObs) (inTime : Bool)
    (hS : Only qz oz s) (pm0 : Part.of qz .linkA = true := by assumption) (pm1 : Part.of qz .linkB = true := by assumption)
    (pm2 : Part.of qz .linkZ = true := by assumption) (pm3 : Part.of qz .rep = true := by assumption)
    (pm4 : Part.of qz .servoA = true := by assumption) (pm5 : Part.of qz .servoB = true := by assumption)
    (pm6 : Part.of qz .fsqs = true := by assumption) (pm7 : Part.of qz .rwcs = true := by assumption)
    (pm8 : Part.of qz .media = true := by assumption) (pm9 : Part.of qz .stripe = true := by assumption)
    (pm10 : Part.of qz .cqu = true := by assumption) (pm11 : Part.of qz .crd = true := by assumption)
    (pm12 : Part.of qz .freeCount = true := by assumption)
    (pm13 : Part.of qz (.slot 9) = true := by first | assumption | exact of_slot (by assumption))
    (pm14 : Part.of qz (.slot 17) = true := by first | assumption | exact of_slot (by assumption))
    (pm15 : Part.of qz (.slot 20) = true := by first | assumption | exact of_slot (by assumption)) :
    Only qz oz (@State.loopWedge s x o0 o1 inTime) := by
  unfold State.loopWedge
  extract_lets
  split
  try extract_lets
  split
  try extract_lets
  split
  try extract_lets
  split
  try extract_lets
  split
  try extract_lets
  refine State.wedgeEnd_only _ _ _ _ _ _ _ (foldl_only _ _ (fun t b ht => State.takeMeas_only _ _ _ _ _ _ _ ht) ?_)
  refine State.microNext_only _ _ _ _ _ _ _ (State.microNext_only _ _ _ _ _ _ _ (State.lawDone_only _ _ _ _ _ _ _ _ _ ?_))
  exact State.sendSetpt_only _ _ _ _ _ _ _ hS

@[simp ↓] theorem State.closeLoop_only {qz} {oz : State} (s : State) (x : Act) (u : Nat) (hS : Only qz oz s)
    (pm0 : Part.of qz .linkA = true := by assumption) (pm1 : Part.of qz .linkB = true := by assumption)
    (pm2 : Part.of qz .linkZ = true := by assumption) (pm3 : Part.of qz .servoA = true := by assumption)
    (pm4 : Part.of qz .servoB = true := by assumption) (pm5 : Part.of qz .rwcs = true := by assumption)
    (pm6 : Part.of qz .cqu = true := by assumption) (pm7 : Part.of qz .crd = true := by assumption)
    (pm8 : Part.of qz (.slot 9) = true := by first | assumption | exact of_slot (by assumption))
    (pm9 : Part.of qz (.slot 17) = true := by first | assumption | exact of_slot (by assumption))
    (pm10 : Part.of qz (.slot 20) = true := by first | assumption | exact of_slot (by assumption)) :
    Only qz oz (@State.closeLoop s x u) := by unfold State.closeLoop; simp (maxDischargeDepth := 99) [*]

@[simp ↓] theorem State.loadWedge_only {qz} {oz : State} (s : State) (x : Act) (o0 : WedgeObs) (o1 : WedgeObs)
    (hS : Only qz oz s) (pm0 : Part.of qz .linkA = true := by assumption) (pm1 : Part.of qz .linkB = true := by assumption)
    (pm2 : Part.of qz .linkZ = true := by assumption) (pm3 : Part.of qz .servoA = true := by assumption)
    (pm4 : Part.of qz .servoB = true := by assumption) (pm5 : Part.of qz .rwcs = true := by assumption)
    (pm6 : Part.of qz .cqu = true := by assumption) (pm7 : Part.of qz .crd = true := by assumption)
    (pm8 : Part.of qz (.slot 9) = true := by first | assumption | exact of_slot (by assumption))
    (pm9 : Part.of qz (.slot 17) = true := by first | assumption | exact of_slot (by assumption))
    (pm10 : Part.of qz (.slot 20) = true := by first | assumption | exact of_slot (by assumption)) :
    Only qz oz (@State.loadWedge s x o0 o1) := by unfold State.loadWedge; simp (maxDischargeDepth := 99) [*]

@[simp ↓] theorem State.loadPulse_only {qz} {oz : State} (s : State) (x : Act) (lt : Word) (hS : Only qz oz s)
    (pm0 : Part.of qz .linkA = true := by assumption) (pm1 : Part.of qz .linkB = true := by assumption)
    (pm2 : Part.of qz .linkZ = true := by assumption) (pm3 : Part.of qz .servoA = true := by assumption)
    (pm4 : Part.of qz .servoB = true := by assumption) (pm5 : Part.of qz .rwcs = true := by assumption)
    (pm6 : Part.of qz (.slot 17) = true := by first | assumption | exact of_slot (by assumption))
    (pm7 : Part.of qz (.slot 20) = true := by first | assumption | exact of_slot (by assumption)) :
    Only qz oz (@State.loadPulse s x lt) := by unfold State.loadPulse; (try dsimp only); (repeat' split) <;> simp (maxDischargeDepth := 99) +contextual [*]

@[simp ↓] theorem State.loadFailed_only {qz} {oz : State} (s : State) (x : Act) (now : Nat) (hS : Only qz oz s)
    (pm0 : Part.of qz .start = true := by assumption) (pm1 : Part.of qz .linkA = true := by assumption)
    (pm2 : Part.of qz .linkB = true := by assumption) (pm3 : Part.of qz .linkZ = true := by assumption)
    (pm4 : Part.of qz .rep = true := by assumption) (pm5 : Part.of qz .servoA = true := by assumption)
    (pm6 : Part.of qz .servoB = true := by assumption) (pm7 : Part.of qz .fsqs = true := by assumption)
    (pm8 : Part.of qz .cqu = true := by assumption) (pm9 : Part.of qz .freeCount = true := by assumption)
    (pm10 : Part.of qz (.slot 1) = true := by first | assumption | exact of_slot (by assumption))
    (pm11 : Part.of qz (.slot 9) = true := by first | assumption | exact of_slot (by assumption))
    (pm12 : Part.of qz (.slot 20) = true := by first | assumption | exact of_slot (by assumption)) :
    Only qz oz (@State.loadFailed s x now) := by unfold State.loadFailed; simp (maxDischargeDepth := 99) [*]

@[simp ↓] theorem State.learnRunout_only {qz} {oz : State} (s : State) (x : Act) (u : Nat) (e : List Int) (hS : Only qz oz s)
    (pm0 : Part.of qz .tables = true := by assumption)
    (pm1 : Part.of qz (.slot 20) = true := by first | assumption | exact of_slot (by assumption)) :
    Only qz oz (@State.learnRunout s x u e) := by unfold State.learnRunout; simp (maxDischargeDepth := 99) +contextual [*]

@[simp ↓] theorem State.shiftMap_only {qz} {oz : State} (s : State) (h : Nat) (p : Int) (d : Int) (hS : Only qz oz s)
    (pm0 : Part.of qz .tables = true := by assumption) :
    Only qz oz (@State.shiftMap s h p d) := by unfold State.shiftMap; simp (maxDischargeDepth := 99) [*]

@[simp ↓] theorem State.learnMap_only {qz} {oz : State} (s : State) (x : Act) (m : Int) (hS : Only qz oz s)
    (pm0 : Part.of qz .servoA = true := by assumption) (pm1 : Part.of qz .servoB = true := by assumption)
    (pm2 : Part.of qz .tables = true := by assumption)
    (pm3 : Part.of qz (.slot 20) = true := by first | assumption | exact of_slot (by assumption)) :
    Only qz oz (@State.learnMap s x m) := by unfold State.learnMap; (try dsimp only); (repeat' split) <;> simp (maxDischargeDepth := 99) +contextual [*]

@[simp ↓] theorem State.calibrate_only {qz} {oz : State} (s : State) (x : Act) (m : CalMeas) (hS : Only qz oz s)
    (pm0 : Part.of qz .tables = true := by assumption) (pm1 : Part.of qz .media = true := by assumption)
    (pm2 : Part.of qz (.slot 20) = true := by first | assumption | exact of_slot (by assumption)) :
    Only qz oz (@State.calibrate s x m) := by
  unfold State.calibrate
  extract_lets heads s1 one s2 src s3 mine
  have h1 : Only qz oz s1 := by simp (maxDischargeDepth := 99) [s1, *]
  have ho : ∀ t h, Only qz oz t → Only qz oz (one t h) := by
    intro t h ht
    simp (maxDischargeDepth := 99) only [one]
    exact State.putTables_only _ _ ht
  have h2 : Only qz oz s2 := foldl_only _ _ ho h1
  have h3 : Only qz oz s3 := State.putTables_only _ _ h2
  clear_value s3
  simp (maxDischargeDepth := 99) [*]

@[simp ↓] theorem State.recalled_only {qz} {oz : State} (s : State) (x : Act) (hS : Only qz oz s)
    (pm0 : Part.of qz .linkA = true := by assumption) (pm1 : Part.of qz .linkB = true := by assumption)
    (pm2 : Part.of qz .linkZ = true := by assumption)
    (pm3 : Part.of qz (.slot 20) = true := by first | assumption | exact of_slot (by assumption)) :
    Only qz oz (@State.recalled s x) := by unfold State.recalled; simp (maxDischargeDepth := 99) [*]

@[simp ↓] theorem State.dropRetired_only {qz} {oz : State} (s : State) (x : Act) (hS : Only qz oz s)
    (pm0 : Part.of qz .linkA = true := by assumption) (pm1 : Part.of qz .linkB = true := by assumption)
    (pm2 : Part.of qz .linkZ = true := by assumption) (pm3 : Part.of qz .rwcs = true := by assumption)
    (pm4 : Part.of qz (.slot 17) = true := by first | assumption | exact of_slot (by assumption))
    (pm5 : Part.of qz (.slot 20) = true := by first | assumption | exact of_slot (by assumption)) :
    Only qz oz (@State.dropRetired s x) := by unfold State.dropRetired; simp (maxDischargeDepth := 99) +contextual [*]

@[simp ↓] theorem State.retireSearched_only {qz} {oz : State} (s : State) (x : Act) (hS : Only qz oz s)
    (pm0 : Part.of qz .start = true := by assumption) (pm1 : Part.of qz .linkA = true := by assumption)
    (pm2 : Part.of qz .linkB = true := by assumption) (pm3 : Part.of qz .linkZ = true := by assumption)
    (pm4 : Part.of qz .rwcs = true := by assumption) (pm5 : Part.of qz .media = true := by assumption)
    (pm6 : Part.of qz .stripe = true := by assumption) (pm7 : Part.of qz .cqu = true := by assumption)
    (pm8 : Part.of qz .crd = true := by assumption)
    (pm9 : Part.of qz (.slot 1) = true := by first | assumption | exact of_slot (by assumption))
    (pm10 : Part.of qz (.slot 9) = true := by first | assumption | exact of_slot (by assumption))
    (pm11 : Part.of qz (.slot 17) = true := by first | assumption | exact of_slot (by assumption))
    (pm12 : Part.of qz (.slot 20) = true := by first | assumption | exact of_slot (by assumption)) :
    Only qz oz (@State.retireSearched s x) := by unfold State.retireSearched; simp (maxDischargeDepth := 99) +contextual [*]

/-! ### LinkRows -/

@[simp ↓] theorem State.channelOut_only {qz} {oz : State} (s : State) (x : Act) (u : Nat) (out : Bool) (hS : Only qz oz s)
    (pm0 : Part.of qz .linkA = true := by assumption) (pm1 : Part.of qz .linkB = true := by assumption)
    (pm2 : Part.of qz .linkZ = true := by assumption) (pm3 : Part.of qz .fsqs = true := by assumption)
    (pm4 : Part.of qz .rwcs = true := by assumption) (pm5 : Part.of qz .cqu = true := by assumption)
    (pm6 : Part.of qz .crd = true := by assumption)
    (pm7 : Part.of qz (.slot 9) = true := by first | assumption | exact of_slot (by assumption))
    (pm8 : Part.of qz (.slot 17) = true := by first | assumption | exact of_slot (by assumption))
    (pm9 : Part.of qz (.slot 20) = true := by first | assumption | exact of_slot (by assumption)) :
    Only qz oz (@State.channelOut s x u out) := by unfold State.channelOut; (try dsimp only); (repeat' split) <;> simp (maxDischargeDepth := 99) +contextual [*]

@[simp ↓] theorem State.narrowChannel_only {qz} {oz : State} (s : State) (x : Act) (narrow : Bool) (hS : Only qz oz s)
    (pm0 : Part.of qz .linkA = true := by assumption) (pm1 : Part.of qz .linkB = true := by assumption)
    (pm2 : Part.of qz .linkZ = true := by assumption) (pm3 : Part.of qz .fsqs = true := by assumption)
    (pm4 : Part.of qz .rwcs = true := by assumption) (pm5 : Part.of qz .cqu = true := by assumption)
    (pm6 : Part.of qz .crd = true := by assumption)
    (pm7 : Part.of qz (.slot 9) = true := by first | assumption | exact of_slot (by assumption))
    (pm8 : Part.of qz (.slot 17) = true := by first | assumption | exact of_slot (by assumption))
    (pm9 : Part.of qz (.slot 20) = true := by first | assumption | exact of_slot (by assumption)) :
    Only qz oz (@State.narrowChannel s x narrow) := by unfold State.narrowChannel; simp (maxDischargeDepth := 99) [*]

@[simp ↓] theorem State.mapAssist_only {qz} {oz : State} (s : State) (h : Nat) (f : AssistHead → AssistHead)
    (hS : Only qz oz s) (pm0 : Part.of qz .media = true := by assumption) :
    Only qz oz (@State.mapAssist s h f) := by unfold State.mapAssist; simp (maxDischargeDepth := 99) [*]

@[simp ↓] theorem State.recalDue_only {qz} {oz : State} (s : State) (h : Nat) (atOnce : Bool) (hS : Only qz oz s)
    (pm0 : Part.of qz .media = true := by assumption)
    (pm1 : Part.of qz (.slot 19) = true := by first | assumption | exact of_slot (by assumption)) :
    Only qz oz (@State.recalDue s h atOnce) := by unfold State.recalDue; simp (maxDischargeDepth := 99) [*]

@[simp ↓] theorem State.assistEvent_only {qz} {oz : State} (s : State) (h : Nat) (now : Nat) (hS : Only qz oz s)
    (pm0 : Part.of qz .media = true := by assumption) (pm1 : Part.of qz .cqu = true := by assumption)
    (pm2 : Part.of qz .crd = true := by assumption)
    (pm3 : Part.of qz (.slot 9) = true := by first | assumption | exact of_slot (by assumption))
    (pm4 : Part.of qz (.slot 19) = true := by first | assumption | exact of_slot (by assumption)) :
    Only qz oz (@State.assistEvent s h now) := by unfold State.assistEvent; (try dsimp only); (repeat' split) <;> simp (maxDischargeDepth := 99) +contextual [*]

@[simp ↓] theorem State.shockAlarm_only {qz} {oz : State} (s : State) (x : Act) (hS : Only qz oz s)
    (pm0 : Part.of qz .linkA = true := by assumption) (pm1 : Part.of qz .linkB = true := by assumption)
    (pm2 : Part.of qz .linkZ = true := by assumption) (pm3 : Part.of qz .rep = true := by assumption)
    (pm4 : Part.of qz .servoA = true := by assumption) (pm5 : Part.of qz .servoB = true := by assumption)
    (pm6 : Part.of qz .fsqs = true := by assumption) (pm7 : Part.of qz .cqu = true := by assumption)
    (pm8 : Part.of qz .crd = true := by assumption) (pm9 : Part.of qz .freeCount = true := by assumption)
    (pm10 : Part.of qz (.slot 9) = true := by first | assumption | exact of_slot (by assumption))
    (pm11 : Part.of qz (.slot 20) = true := by first | assumption | exact of_slot (by assumption)) :
    Only qz oz (@State.shockAlarm s x) := by unfold State.shockAlarm; simp (maxDischargeDepth := 99) [*]

@[simp ↓] theorem State.badHead_only {qz} {oz : State} (s : State) (h : Nat) (hS : Only qz oz s)
    (pm0 : Part.of qz .start = true := by assumption) (pm1 : Part.of qz .media = true := by assumption)
    (pm2 : Part.of qz .stripe = true := by assumption) (pm3 : Part.of qz .cqu = true := by assumption)
    (pm4 : Part.of qz .crd = true := by assumption)
    (pm5 : Part.of qz (.slot 1) = true := by first | assumption | exact of_slot (by assumption))
    (pm6 : Part.of qz (.slot 9) = true := by first | assumption | exact of_slot (by assumption)) :
    Only qz oz (@State.badHead s h) := by unfold State.badHead; simp (maxDischargeDepth := 99) [*]

@[simp ↓] theorem State.retracted_only {qz} {oz : State} (s : State) (x : Act) (hS : Only qz oz s)
    (pm0 : Part.of qz .rep = true := by assumption) (pm1 : Part.of qz .servoA = true := by assumption)
    (pm2 : Part.of qz .servoB = true := by assumption) (pm3 : Part.of qz .fsqs = true := by assumption)
    (pm4 : Part.of qz .cqu = true := by assumption) (pm5 : Part.of qz .crd = true := by assumption)
    (pm6 : Part.of qz (.slot 9) = true := by first | assumption | exact of_slot (by assumption))
    (pm7 : Part.of qz (.slot 20) = true := by first | assumption | exact of_slot (by assumption)) :
    Only qz oz (@State.retracted s x) := by unfold State.retracted; simp (maxDischargeDepth := 99) [*]

@[simp ↓] theorem State.feEventCode_only {qz} {oz : State} (s : State) (x : Act) (code : Nat) (head : Nat) (now : Nat)
    (hS : Only qz oz s) (pm0 : Part.of qz .start = true := by assumption) (pm1 : Part.of qz .linkA = true := by assumption)
    (pm2 : Part.of qz .linkB = true := by assumption) (pm3 : Part.of qz .linkZ = true := by assumption)
    (pm4 : Part.of qz .rep = true := by assumption) (pm5 : Part.of qz .fsqs = true := by assumption)
    (pm6 : Part.of qz .media = true := by assumption) (pm7 : Part.of qz .stripe = true := by assumption)
    (pm8 : Part.of qz .cqu = true := by assumption) (pm9 : Part.of qz .crd = true := by assumption)
    (pm10 : Part.of qz .freeCount = true := by assumption)
    (pm11 : Part.of qz (.slot 1) = true := by first | assumption | exact of_slot (by assumption))
    (pm12 : Part.of qz (.slot 9) = true := by first | assumption | exact of_slot (by assumption))
    (pm13 : Part.of qz (.slot 19) = true := by first | assumption | exact of_slot (by assumption)) :
    Only qz oz (@State.feEventCode s x code head now) := by unfold State.feEventCode; simp (maxDischargeDepth := 99) [*]

@[simp ↓] theorem State.monDrift_only {qz} {oz : State} (s : State) (x : Act) (u : Nat) (m : MonUnit) (hS : Only qz oz s)
    (pm0 : Part.of qz .media = true := by assumption)
    (pm1 : Part.of qz (.slot 19) = true := by first | assumption | exact of_slot (by assumption)) :
    Only qz oz (@State.monDrift s x u m) := by unfold State.monDrift; (try dsimp only); (repeat' split) <;> simp (maxDischargeDepth := 99) +contextual [*]

@[simp ↓] theorem State.ezpolTrain_only {qz} {oz : State} (s : State) (hS : Only qz oz s)
    (pm0 : Part.of qz .linkA = true := by assumption) (pm1 : Part.of qz .linkB = true := by assumption)
    (pm2 : Part.of qz .linkZ = true := by assumption)
    (pm3 : Part.of qz (.slot 22) = true := by first | assumption | exact of_slot (by assumption))
    (pm4 : Part.of qz (.slot 23) = true := by first | assumption | exact of_slot (by assumption)) :
    Only qz oz (@State.ezpolTrain s) := by unfold State.ezpolTrain; simp (maxDischargeDepth := 99) [*]

@[simp ↓] theorem State.motionIdent_only {qz} {oz : State} (s : State) (status : Nat) (body : Bytes) (hS : Only qz oz s)
    (pm0 : Part.of qz .start = true := by assumption) (pm1 : Part.of qz .ident = true := by assumption)
    (pm2 : Part.of qz .linkA = true := by assumption) (pm3 : Part.of qz .linkB = true := by assumption)
    (pm4 : Part.of qz .linkZ = true := by assumption)
    (pm5 : Part.of qz (.slot 1) = true := by first | assumption | exact of_slot (by assumption))
    (pm6 : Part.of qz (.slot 22) = true := by first | assumption | exact of_slot (by assumption))
    (pm7 : Part.of qz (.slot 23) = true := by first | assumption | exact of_slot (by assumption)) :
    Only qz oz (@State.motionIdent s status body) := by unfold State.motionIdent; simp (maxDischargeDepth := 99) [*]

@[simp ↓] theorem State.feIdent_only {qz} {oz : State} (s : State) (x : Act) (body : Bytes) (hS : Only qz oz s)
    (pm0 : Part.of qz .ident = true := by assumption) (pm1 : Part.of qz .linkA = true := by assumption)
    (pm2 : Part.of qz .linkB = true := by assumption) (pm3 : Part.of qz .linkZ = true := by assumption)
    (pm4 : Part.of qz .freeCount = true := by assumption) :
    Only qz oz (@State.feIdent s x body) := by unfold State.feIdent; simp (maxDischargeDepth := 99) +contextual [*]

@[simp ↓] theorem State.saveIfWarm_only {qz} {oz : State} (s : State) (hS : Only qz oz s)
    (pm0 : Part.of qz .stripe = true := by assumption) (pm1 : Part.of qz .chest = true := by assumption)
    (pm2 : Part.of qz .crd = true := by assumption)
    (pm3 : Part.of qz (.slot 4) = true := by first | assumption | exact of_slot (by assumption)) :
    Only qz oz (@State.saveIfWarm s) := by unfold State.saveIfWarm; simp (maxDischargeDepth := 99) [*]

/-! ### Mec -/

@[simp ↓] theorem State.retryLost_only {qz} {oz : State} (s : State) (ch : Nat) (tag : Word) (hS : Only qz oz s)
    (pm0 : Part.of qz .media = true := by assumption) (pm1 : Part.of qz .stripe = true := by assumption)
    (pm2 : Part.of qz .cqu = true := by assumption) (pm3 : Part.of qz .crd = true := by assumption)
    (pm4 : Part.of qz (.slot 9) = true := by first | assumption | exact of_slot (by assumption))
    (pm5 : Part.of qz (.slot 16) = true := by first | assumption | exact of_slot (by assumption)) :
    Only qz oz (@State.retryLost s ch tag) := by unfold State.retryLost; simp (maxDischargeDepth := 99) +contextual [*]

@[simp ↓] theorem State.ueRegion_only {qz} {oz : State} (s : State) (a1 : UeRegion) (hS : Only qz oz s)
    (pm0 : Part.of qz .media = true := by assumption) (pm1 : Part.of qz .stripe = true := by assumption)
    (pm2 : Part.of qz .chest = true := by assumption) (pm3 : Part.of qz .buf = true := by assumption)
    (pm4 : Part.of qz .cqu = true := by assumption) (pm5 : Part.of qz .crd = true := by assumption)
    (pm6 : Part.of qz (.slot 9) = true := by first | assumption | exact of_slot (by assumption))
    (pm7 : Part.of qz (.slot 16) = true := by first | assumption | exact of_slot (by assumption)) :
    Only qz oz (@State.ueRegion s a1) := by unfold State.ueRegion; (try dsimp only); (repeat' split) <;> simp (maxDischargeDepth := 99) +contextual [*]

@[simp ↓] theorem State.haltInfo_only {qz} {oz : State} (s : State) (chan : Nat) (m : Mem) (u : Nat) (moved : Nat)
    (hS : Only qz oz s) (pm0 : Part.of qz (.slot 13) = true := by first | assumption | exact of_slot (by assumption)) :
    Only qz oz (@State.haltInfo s chan m u moved) := by unfold State.haltInfo; simp (maxDischargeDepth := 99) [*]

@[simp ↓] theorem State.ringEnd_only {qz} {oz : State} (s : State) (n : Nat) (d : Desc) (st : Nat) (hS : Only qz oz s)
    (pm0 : Part.of qz .dma = true := by assumption)
    (pm1 : Part.of qz (.slot 13) = true := by first | assumption | exact of_slot (by assumption)) :
    Only qz oz (@State.ringEnd s n d st) := by unfold State.ringEnd; simp (maxDischargeDepth := 99) [*]

@[simp ↓] theorem State.streamHalt_only {qz} {oz : State} (s : State) (m : Nat) (hS : Only qz oz s)
    (pm0 : Part.of qz .dma = true := by assumption)
    (pm1 : Part.of qz (.slot 13) = true := by first | assumption | exact of_slot (by assumption)) :
    Only qz oz (@State.streamHalt s m) := by unfold State.streamHalt; simp (maxDischargeDepth := 99) [*]

@[simp ↓] theorem State.dmaHalt_only {qz} {oz : State} (s : State) (chan : Nat) (m : Mem) (u : Nat) (moved : Nat)
    (hS : Only qz oz s) (pm0 : Part.of qz .dma = true := by assumption)
    (pm1 : Part.of qz (.slot 13) = true := by first | assumption | exact of_slot (by assumption)) :
    Only qz oz (@State.dmaHalt s chan m u moved) := by unfold State.dmaHalt; (try dsimp only); (repeat' split) <;> simp (maxDischargeDepth := 99) +contextual [*]

@[simp ↓] theorem State.ueReader_only {qz} {oz : State} (s : State) (m : Mem) (u : Nat) (a3 : UeReader) (hS : Only qz oz s)
    (pm0 : Part.of qz .start = true := by assumption) (pm1 : Part.of qz .buf = true := by assumption)
    (pm2 : Part.of qz .dma = true := by assumption) (pm3 : Part.of qz .hpt = true := by assumption)
    (pm4 : Part.of qz (.slot 8) = true := by first | assumption | exact of_slot (by assumption))
    (pm5 : Part.of qz (.slot 13) = true := by first | assumption | exact of_slot (by assumption)) :
    Only qz oz (@State.ueReader s m u a3) := by unfold State.ueReader; (try dsimp only); (repeat' split) <;> simp (maxDischargeDepth := 99) +contextual [*]

@[simp ↓] theorem execStartSram_only {qz} {oz : State} (s : State) (hS : Only qz oz s)
    (pm0 : Part.of qz .buf = true := by assumption) :
    Keeps (@execStartSram s) (Only qz oz) := by unfold execStartSram; simp (maxDischargeDepth := 99) +contextual [*]

@[simp ↓] theorem execStartDram_only {qz} {oz : State} (s : State) (hS : Only qz oz s)
    (pm0 : Part.of qz .buf = true := by assumption) :
    Keeps (@execStartDram s) (Only qz oz) := by unfold execStartDram; simp (maxDischargeDepth := 99) +contextual [*]

@[simp ↓] theorem execFlipArm_only {qz} {oz : State} (value : Word) (s : State) (hS : Only qz oz s)
    (pm0 : Part.of qz (.slot 12) = true := by first | assumption | exact of_slot (by assumption)) :
    Keeps (@execFlipArm value s) (Only qz oz) := by unfold execFlipArm; simp (maxDischargeDepth := 99) +contextual [*]

/-! ### Dma -/

@[simp ↓] theorem State.dmaPut_only {qz} {oz : State} (s : State) (sp : Nat) (a : Nat) (b : Bytes) (hS : Only qz oz s)
    (pm0 : Part.of qz .buf = true := by assumption) (pm1 : Part.of qz .hpt = true := by assumption)
    (pm2 : Part.of qz (.slot 8) = true := by first | assumption | exact of_slot (by assumption))
    (pm3 : Part.of qz (.slot 12) = true := by first | assumption | exact of_slot (by assumption)) :
    Only qz oz (@State.dmaPut s sp a b) := by unfold State.dmaPut; (try dsimp only); (repeat' split) <;> simp (maxDischargeDepth := 99) +contextual [*]

@[simp ↓] theorem State.dmaRow_only {qz} {oz : State} (s : State) (d : Desc) (pcie : List Bytes) (r : Nat) (lim : Nat)
    (hS : Only qz oz s) (pm0 : Part.of qz .buf = true := by assumption) (pm1 : Part.of qz .cqu = true := by assumption)
    (pm2 : Part.of qz .hpt = true := by assumption) (pm3 : Part.of qz .crd = true := by assumption)
    (pm4 : Part.of qz (.slot 8) = true := by first | assumption | exact of_slot (by assumption))
    (pm5 : Part.of qz (.slot 9) = true := by first | assumption | exact of_slot (by assumption))
    (pm6 : Part.of qz (.slot 12) = true := by first | assumption | exact of_slot (by assumption)) :
    Only qz oz (@State.dmaRow s d pcie r lim).1 := by unfold State.dmaRow; (try dsimp only); (repeat' split) <;> simp (maxDischargeDepth := 99) +contextual [*]

@[simp ↓] theorem State.dmaRows_only {qz} {oz : State} (d : Desc) (pcie : List Bytes) (a2 : List Nat) (a3 : Nat) (a4 : Nat)
    (a5 : State) (hS : Only qz oz a5) (pm0 : Part.of qz .buf = true := by assumption)
    (pm1 : Part.of qz .cqu = true := by assumption) (pm2 : Part.of qz .hpt = true := by assumption)
    (pm3 : Part.of qz .crd = true := by assumption)
    (pm4 : Part.of qz (.slot 8) = true := by first | assumption | exact of_slot (by assumption))
    (pm5 : Part.of qz (.slot 9) = true := by first | assumption | exact of_slot (by assumption))
    (pm6 : Part.of qz (.slot 12) = true := by first | assumption | exact of_slot (by assumption)) :
    Only qz oz (@State.dmaRows d pcie a2 a3 a4 a5).1 := by
  induction a2 generalizing a3 a4 a5 with
  | nil => exact hS
  | cons a l ih =>
    unfold State.dmaRows
    split
    · exact hS
    · have h := State.dmaRow_only a5 d pcie a a3 hS
      split
      · rename_i heq; rw [heq] at h; exact h
      · rename_i heq; rw [heq] at h; exact ih _ _ _ h

@[simp ↓] theorem State.runDesc_only {qz} {oz : State} (s : State) (n : Nat) (d : Desc) (pcie : List Bytes) (lim : Nat)
    (st : Nat) (hS : Only qz oz s) (pm0 : Part.of qz .buf = true := by assumption)
    (pm1 : Part.of qz .dma = true := by assumption) (pm2 : Part.of qz .cqu = true := by assumption)
    (pm3 : Part.of qz .hpt = true := by assumption) (pm4 : Part.of qz .crd = true := by assumption)
    (pm5 : Part.of qz (.slot 8) = true := by first | assumption | exact of_slot (by assumption))
    (pm6 : Part.of qz (.slot 9) = true := by first | assumption | exact of_slot (by assumption))
    (pm7 : Part.of qz (.slot 12) = true := by first | assumption | exact of_slot (by assumption))
    (pm8 : Part.of qz (.slot 13) = true := by first | assumption | exact of_slot (by assumption)) :
    Only qz oz (@State.runDesc s n d pcie lim st) := by
  unfold State.runDesc
  have h := State.dmaRows_only d pcie (List.range d.rows.toNat) lim 0 s hS
  split <;> rename_i heq <;> rw [heq] at h <;> simp_all (maxDischargeDepth := 99)

@[simp ↓] theorem execKick_only {qz} {oz : State} (n : Fin 64) (s : State) (hS : Only qz oz s)
    (pm0 : Part.of qz .dma = true := by assumption)
    (pm1 : Part.of qz (.slot 13) = true := by first | assumption | exact of_slot (by assumption)) :
    Keeps (@execKick n s) (Only qz oz) := by unfold execKick; simp (maxDischargeDepth := 99) [*]

@[simp ↓] theorem execAbort_only {qz} {oz : State} (n : Fin 64) (s : State) (hS : Only qz oz s)
    (pm0 : Part.of qz .buf = true := by assumption) (pm1 : Part.of qz .dma = true := by assumption)
    (pm2 : Part.of qz .cqu = true := by assumption) (pm3 : Part.of qz .hpt = true := by assumption)
    (pm4 : Part.of qz .crd = true := by assumption) (pm5 : Part.of qz .freeCount = true := by assumption)
    (pm6 : Part.of qz (.slot 8) = true := by first | assumption | exact of_slot (by assumption))
    (pm7 : Part.of qz (.slot 9) = true := by first | assumption | exact of_slot (by assumption))
    (pm8 : Part.of qz (.slot 12) = true := by first | assumption | exact of_slot (by assumption))
    (pm9 : Part.of qz (.slot 13) = true := by first | assumption | exact of_slot (by assumption)) :
    Keeps (@execAbort n s) (Only qz oz) := by unfold execAbort; (try dsimp only); (repeat' split) <;> simp (maxDischargeDepth := 99) +contextual [*]

@[simp ↓] theorem State.streamEnd_only {qz} {oz : State} (s : State) (m : Nat) (hS : Only qz oz s)
    (pm0 : Part.of qz .dma = true := by assumption)
    (pm1 : Part.of qz (.slot 13) = true := by first | assumption | exact of_slot (by assumption)) :
    Only qz oz (@State.streamEnd s m) := by unfold State.streamEnd; simp (maxDischargeDepth := 99) [*]

/-! ### Sequencer -/

@[simp ↓] theorem State.fsqFault_only {qz} {oz : State} (s : State) (n : Nat) (code : Nat) (hS : Only qz oz s)
    (pm0 : Part.of qz .linkA = true := by assumption) (pm1 : Part.of qz .linkB = true := by assumption)
    (pm2 : Part.of qz .linkZ = true := by assumption) (pm3 : Part.of qz .rep = true := by assumption)
    (pm4 : Part.of qz .fsqs = true := by assumption) (pm5 : Part.of qz .rwcs = true := by assumption)
    (pm6 : Part.of qz .media = true := by assumption) (pm7 : Part.of qz .cqu = true := by assumption)
    (pm8 : Part.of qz .crd = true := by assumption) (pm9 : Part.of qz .freeCount = true := by assumption)
    (pm10 : Part.of qz (.slot 9) = true := by first | assumption | exact of_slot (by assumption))
    (pm11 : Part.of qz (.slot 16) = true := by first | assumption | exact of_slot (by assumption))
    (pm12 : Part.of qz (.slot 17) = true := by first | assumption | exact of_slot (by assumption))
    (pm13 : Part.of qz (.slot 20) = true := by first | assumption | exact of_slot (by assumption)) :
    Only qz oz (@State.fsqFault s n code) := by unfold State.fsqFault; (try dsimp only); (repeat' split) <;> simp (maxDischargeDepth := 99) +contextual [*]

@[simp ↓] theorem State.fsqFetch_only {qz} {oz : State} (n : Nat) (s : State) (o : FetchObs) (hS : Only qz oz s)
    (pm0 : Part.of qz .linkA = true := by assumption) (pm1 : Part.of qz .linkB = true := by assumption)
    (pm2 : Part.of qz .linkZ = true := by assumption) (pm3 : Part.of qz .rep = true := by assumption)
    (pm4 : Part.of qz .fsqs = true := by assumption) (pm5 : Part.of qz .rwcs = true := by assumption)
    (pm6 : Part.of qz .media = true := by assumption) (pm7 : Part.of qz .dma = true := by assumption)
    (pm8 : Part.of qz .cqu = true := by assumption) (pm9 : Part.of qz .crd = true := by assumption)
    (pm10 : Part.of qz .freeCount = true := by assumption)
    (pm11 : Part.of qz (.slot 9) = true := by first | assumption | exact of_slot (by assumption))
    (pm12 : Part.of qz (.slot 13) = true := by first | assumption | exact of_slot (by assumption))
    (pm13 : Part.of qz (.slot 16) = true := by first | assumption | exact of_slot (by assumption))
    (pm14 : Part.of qz (.slot 17) = true := by first | assumption | exact of_slot (by assumption))
    (pm15 : Part.of qz (.slot 20) = true := by first | assumption | exact of_slot (by assumption)) :
    Only qz oz (@State.fsqFetch n s o) := by unfold State.fsqFetch; (try dsimp only); (repeat' split) <;> simp (maxDischargeDepth := 99) +contextual [*]

@[simp ↓] theorem State.assistStart_only {qz} {oz : State} (s : State) (n : Nat) (h : Nat) (z : Nat) (write : Bool)
    (hS : Only qz oz s) (pm0 : Part.of qz .linkA = true := by assumption) (pm1 : Part.of qz .linkB = true := by assumption)
    (pm2 : Part.of qz .linkZ = true := by assumption) (pm3 : Part.of qz .rwcs = true := by assumption)
    (pm4 : Part.of qz (.slot 19) = true := by first | assumption | exact of_slot (by assumption)) :
    Only qz oz (@State.assistStart s n h z write) := by unfold State.assistStart; (try dsimp only); (repeat' split) <;> simp (maxDischargeDepth := 99) +contextual [*]

@[simp ↓] theorem State.biasStart_only {qz} {oz : State} (s : State) (n : Nat) (h : Nat) (z : Nat) (turn : Option Nat)
    (hS : Only qz oz s) (pm0 : Part.of qz .linkA = true := by assumption) (pm1 : Part.of qz .linkB = true := by assumption)
    (pm2 : Part.of qz .linkZ = true := by assumption) (pm3 : Part.of qz .rwcs = true := by assumption) :
    Only qz oz (@State.biasStart s n h z turn) := by unfold State.biasStart; (try dsimp only); (repeat' split) <;> simp (maxDischargeDepth := 99) +contextual [*]

@[simp ↓] theorem State.precompStart_only {qz} {oz : State} (s : State) (n : Nat) (h : Nat) (z : Nat) (hS : Only qz oz s)
    (pm0 : Part.of qz .linkA = true := by assumption) (pm1 : Part.of qz .linkB = true := by assumption)
    (pm2 : Part.of qz .linkZ = true := by assumption) (pm3 : Part.of qz .rwcs = true := by assumption) :
    Only qz oz (@State.precompStart s n h z) := by unfold State.precompStart; (try dsimp only); (repeat' split) <;> simp (maxDischargeDepth := 99) +contextual [*]

@[simp ↓] theorem State.writeArmCmd_only {qz} {oz : State} (s : State) (n : Nat) (r : RunCmd) (hS : Only qz oz s)
    (pm0 : Part.of qz .linkA = true := by assumption) (pm1 : Part.of qz .linkB = true := by assumption)
    (pm2 : Part.of qz .linkZ = true := by assumption) (pm3 : Part.of qz .freeCount = true := by assumption) :
    Only qz oz (@State.writeArmCmd s n r) := by unfold State.writeArmCmd; simp (maxDischargeDepth := 99) [*]

@[simp ↓] theorem State.runLoad_only {qz} {oz : State} (s : State) (n : Nat) (r : RunCmd) (hS : Only qz oz s)
    (pm0 : Part.of qz .linkA = true := by assumption) (pm1 : Part.of qz .linkB = true := by assumption)
    (pm2 : Part.of qz .linkZ = true := by assumption) (pm3 : Part.of qz .rwcs = true := by assumption) :
    Only qz oz (@State.runLoad s n r) := by unfold State.runLoad; simp (maxDischargeDepth := 99) [*]

@[simp ↓] theorem State.runHead_only {qz} {oz : State} (s : State) (n : Nat) (r : RunCmd) (turn : Option Nat)
    (hS : Only qz oz s) (pm0 : Part.of qz .linkA = true := by assumption) (pm1 : Part.of qz .linkB = true := by assumption)
    (pm2 : Part.of qz .linkZ = true := by assumption) (pm3 : Part.of qz .rwcs = true := by assumption)
    (pm4 : Part.of qz (.slot 19) = true := by first | assumption | exact of_slot (by assumption)) :
    Only qz oz (@State.runHead s n r turn) := by unfold State.runHead; simp (maxDischargeDepth := 99) [*]

@[simp ↓] theorem State.rereadTrim_only {qz} {oz : State} (s : State) (n : Nat) (a2 : Option LdpSector) (hS : Only qz oz s)
    (pm0 : Part.of qz .servoA = true := by assumption) (pm1 : Part.of qz .servoB = true := by assumption) :
    Only qz oz (@State.rereadTrim s n a2) := by unfold State.rereadTrim; (try dsimp only); (repeat' split) <;> simp (maxDischargeDepth := 99) +contextual [*]

@[simp ↓] theorem State.runOpen_only {qz} {oz : State} (s : State) (n : Nat) (r : RunCmd) (hS : Only qz oz s)
    (pm0 : Part.of qz .rep = true := by assumption) (pm1 : Part.of qz .fsqs = true := by assumption)
    (pm2 : Part.of qz (.slot 16) = true := by first | assumption | exact of_slot (by assumption))
    (pm3 : Part.of qz (.slot 17) = true := by first | assumption | exact of_slot (by assumption)) :
    Only qz oz (@State.runOpen s n r) := by unfold State.runOpen; simp (maxDischargeDepth := 99) [*]

@[simp ↓] theorem State.startRun_only {qz} {oz : State} (s : State) (n : Nat) (r : RunCmd) (hS : Only qz oz s)
    (pm0 : Part.of qz .linkA = true := by assumption) (pm1 : Part.of qz .linkB = true := by assumption)
    (pm2 : Part.of qz .linkZ = true := by assumption) (pm3 : Part.of qz .rep = true := by assumption)
    (pm4 : Part.of qz .servoA = true := by assumption) (pm5 : Part.of qz .servoB = true := by assumption)
    (pm6 : Part.of qz .fsqs = true := by assumption) (pm7 : Part.of qz .rwcs = true := by assumption)
    (pm8 : Part.of qz .freeCount = true := by assumption)
    (pm9 : Part.of qz (.slot 16) = true := by first | assumption | exact of_slot (by assumption))
    (pm10 : Part.of qz (.slot 17) = true := by first | assumption | exact of_slot (by assumption))
    (pm11 : Part.of qz (.slot 19) = true := by first | assumption | exact of_slot (by assumption)) :
    Only qz oz (@State.startRun s n r) := by
  unfold State.startRun
  extract_lets again turn s1
  have h1 : (Only qz oz s1) := State.rereadTrim_only _ _ _ (State.runHead_only _ _ _ _ (State.runLoad_only _ _ _ hS))
  clear_value s1
  simp (maxDischargeDepth := 99) [*]

@[simp ↓] theorem State.takeRun_only {qz} {oz : State} (s : State) (n : Nat) (hS : Only qz oz s)
    (pm0 : Part.of qz .linkA = true := by assumption) (pm1 : Part.of qz .linkB = true := by assumption)
    (pm2 : Part.of qz .linkZ = true := by assumption) (pm3 : Part.of qz .rep = true := by assumption)
    (pm4 : Part.of qz .servoA = true := by assumption) (pm5 : Part.of qz .servoB = true := by assumption)
    (pm6 : Part.of qz .fsqs = true := by assumption) (pm7 : Part.of qz .rwcs = true := by assumption)
    (pm8 : Part.of qz .dma = true := by assumption) (pm9 : Part.of qz .freeCount = true := by assumption)
    (pm10 : Part.of qz (.slot 13) = true := by first | assumption | exact of_slot (by assumption))
    (pm11 : Part.of qz (.slot 16) = true := by first | assumption | exact of_slot (by assumption))
    (pm12 : Part.of qz (.slot 17) = true := by first | assumption | exact of_slot (by assumption))
    (pm13 : Part.of qz (.slot 19) = true := by first | assumption | exact of_slot (by assumption)) :
    Only qz oz (@State.takeRun s n) := by unfold State.takeRun; (try dsimp only); (repeat' split) <;> simp (maxDischargeDepth := 99) +contextual [*]

@[simp ↓] theorem State.slotEnd_only {qz} {oz : State} (s : State) (n : Nat) (h : Nat) (hS : Only qz oz s)
    (pm0 : Part.of qz .rwcs = true := by assumption) (pm1 : Part.of qz .dma = true := by assumption)
    (pm2 : Part.of qz .cqu = true := by assumption) (pm3 : Part.of qz .crd = true := by assumption)
    (pm4 : Part.of qz (.slot 9) = true := by first | assumption | exact of_slot (by assumption))
    (pm5 : Part.of qz (.slot 13) = true := by first | assumption | exact of_slot (by assumption))
    (pm6 : Part.of qz (.slot 17) = true := by first | assumption | exact of_slot (by assumption)) :
    Only qz oz (@State.slotEnd s n h) := by unfold State.slotEnd; (try dsimp only); (repeat' split) <;> simp (maxDischargeDepth := 99) +contextual [*]

@[simp ↓] theorem State.missSector_only {qz} {oz : State} (s : State) (n : Nat) (r : RunCmd) (slot : Nat) (i : Nat)
    (hS : Only qz oz s) (pm0 : Part.of qz .cqu = true := by assumption)
    (pm1 : Part.of qz (.slot 16) = true := by first | assumption | exact of_slot (by assumption)) :
    Only qz oz (@State.missSector s n r slot i) := by unfold State.missSector; simp (maxDischargeDepth := 99) [*]

@[simp ↓] theorem State.readSector_only {qz} {oz : State} (s : State) (n : Nat) (r : RunCmd) (o : SectorObs) (slot : Nat)
    (i : Nat) (half : Nat) (hS : Only qz oz s) (pm0 : Part.of qz .rwcs = true := by assumption)
    (pm1 : Part.of qz .media = true := by assumption) (pm2 : Part.of qz .stripe = true := by assumption)
    (pm3 : Part.of qz .dma = true := by assumption) (pm4 : Part.of qz .cqu = true := by assumption)
    (pm5 : Part.of qz .crd = true := by assumption)
    (pm6 : Part.of qz (.slot 9) = true := by first | assumption | exact of_slot (by assumption))
    (pm7 : Part.of qz (.slot 13) = true := by first | assumption | exact of_slot (by assumption))
    (pm8 : Part.of qz (.slot 16) = true := by first | assumption | exact of_slot (by assumption))
    (pm9 : Part.of qz (.slot 17) = true := by first | assumption | exact of_slot (by assumption)) :
    Only qz oz (@State.readSector s n r o slot i half) := by unfold State.readSector; (try dsimp only); (repeat' split) <;> simp (maxDischargeDepth := 99) +contextual [*]

@[simp ↓] theorem State.wdataCells_only {qz} {oz : State} (n : Nat) (last : Bool) (a2 : Nat) (a3 : State) (hS : Only qz oz a3)
    (pm0 : Part.of qz .linkA = true := by assumption) (pm1 : Part.of qz .linkB = true := by assumption)
    (pm2 : Part.of qz .linkZ = true := by assumption) (pm3 : Part.of qz .fsqs = true := by assumption) :
    Only qz oz (@State.wdataCells n last a2 a3) := by
  induction a2 generalizing a3 with
  | zero => exact hS
  | succ k ih =>
    unfold State.wdataCells
    (repeat' split) <;> first | exact hS | (dsimp only; split <;> first | exact ih _ (by simp (maxDischargeDepth := 99) [*]) | simp (maxDischargeDepth := 99) [*])

@[simp ↓] theorem State.takePayload_only {qz} {oz : State} (s : State) (n : Nat) (hS : Only qz oz s)
    (pm0 : Part.of qz .buf = true := by assumption) (pm1 : Part.of qz .dma = true := by assumption)
    (pm2 : Part.of qz .cqu = true := by assumption) (pm3 : Part.of qz .crd = true := by assumption)
    (pm4 : Part.of qz (.slot 9) = true := by first | assumption | exact of_slot (by assumption))
    (pm5 : Part.of qz (.slot 12) = true := by first | assumption | exact of_slot (by assumption))
    (pm6 : Part.of qz (.slot 13) = true := by first | assumption | exact of_slot (by assumption)) :
    Only qz oz (@State.takePayload s n).1 := by unfold State.takePayload; (try dsimp only); (repeat' split) <;> simp (maxDischargeDepth := 99) +contextual [*]

@[simp ↓] theorem State.writeSector_only {qz} {oz : State} (s : State) (n : Nat) (r : RunCmd) (o : SectorObs) (slot : Nat)
    (i : Nat) (permits : List Bool) (marks : List Nat) (hS : Only qz oz s) (pm0 : Part.of qz .linkA = true := by assumption)
    (pm1 : Part.of qz .linkB = true := by assumption) (pm2 : Part.of qz .linkZ = true := by assumption)
    (pm3 : Part.of qz .rep = true := by assumption) (pm4 : Part.of qz .fsqs = true := by assumption)
    (pm5 : Part.of qz .buf = true := by assumption) (pm6 : Part.of qz .dma = true := by assumption)
    (pm7 : Part.of qz .cqu = true := by assumption) (pm8 : Part.of qz .crd = true := by assumption)
    (pm9 : Part.of qz .freeCount = true := by assumption)
    (pm10 : Part.of qz (.slot 9) = true := by first | assumption | exact of_slot (by assumption))
    (pm11 : Part.of qz (.slot 12) = true := by first | assumption | exact of_slot (by assumption))
    (pm12 : Part.of qz (.slot 13) = true := by first | assumption | exact of_slot (by assumption)) :
    Only qz oz (@State.writeSector s n r o slot i permits marks).1 := by
  unfold State.writeSector
  dsimp only
  have h := State.takePayload_only s n hS
  (repeat' split) <;> first | (simp (maxDischargeDepth := 99) [*]; done) | (rename_i heq; rw [heq] at h; simp_all (maxDischargeDepth := 99))

@[simp ↓] theorem State.nextSector_only {qz} {oz : State} (s : State) (n : Nat) (r : RunCmd) (slot : Nat) (hS : Only qz oz s)
    (pm0 : Part.of qz .fsqs = true := by assumption) :
    Only qz oz (@State.nextSector s n r slot) := by unfold State.nextSector; simp (maxDischargeDepth := 99) [*]

@[simp ↓] theorem State.atSlot_only {qz} {oz : State} (s : State) (n : Nat) (slot : Nat) (hS : Only qz oz s)
    (pm0 : Part.of qz .fsqs = true := by assumption) :
    Only qz oz (@State.atSlot s n slot) := by unfold State.atSlot; simp (maxDischargeDepth := 99) [*]

@[simp ↓] theorem State.runSector_only {qz} {oz : State} (n : Nat) (acc : State × List Bool) (o : SectorObs)
    (hS : Only qz oz acc.1) (pm0 : Part.of qz .linkA = true := by assumption)
    (pm1 : Part.of qz .linkB = true := by assumption) (pm2 : Part.of qz .linkZ = true := by assumption)
    (pm3 : Part.of qz .rep = true := by assumption) (pm4 : Part.of qz .fsqs = true := by assumption)
    (pm5 : Part.of qz .rwcs = true := by assumption) (pm6 : Part.of qz .media = true := by assumption)
    (pm7 : Part.of qz .stripe = true := by assumption) (pm8 : Part.of qz .buf = true := by assumption)
    (pm9 : Part.of qz .dma = true := by assumption) (pm10 : Part.of qz .cqu = true := by assumption)
    (pm11 : Part.of qz .crd = true := by assumption) (pm12 : Part.of qz .freeCount = true := by assumption)
    (pm13 : Part.of qz (.slot 9) = true := by first | assumption | exact of_slot (by assumption))
    (pm14 : Part.of qz (.slot 12) = true := by first | assumption | exact of_slot (by assumption))
    (pm15 : Part.of qz (.slot 13) = true := by first | assumption | exact of_slot (by assumption))
    (pm16 : Part.of qz (.slot 16) = true := by first | assumption | exact of_slot (by assumption))
    (pm17 : Part.of qz (.slot 17) = true := by first | assumption | exact of_slot (by assumption)) :
    Only qz oz (@State.runSector n acc o).1 := by unfold State.runSector; (try dsimp only); (repeat' split) <;> simp (maxDischargeDepth := 99) +contextual [*]

@[simp ↓] theorem State.learnEntry_only {qz} {oz : State} (s : State) (n : Nat) (hS : Only qz oz s)
    (pm0 : Part.of qz .media = true := by assumption) :
    Only qz oz (@State.learnEntry s n) := by unfold State.learnEntry; (try dsimp only); (repeat' split) <;> simp (maxDischargeDepth := 99) +contextual [*]

/-! ### Decoder -/

@[simp ↓] theorem State.headCheck_only {qz} {oz : State} (s : State) (h : Nat) (hS : Only qz oz s)
    (pm0 : Part.of qz .media = true := by assumption) (pm1 : Part.of qz .stripe = true := by assumption)
    (pm2 : Part.of qz .cqu = true := by assumption) (pm3 : Part.of qz .crd = true := by assumption)
    (pm4 : Part.of qz (.slot 9) = true := by first | assumption | exact of_slot (by assumption)) :
    Only qz oz (@State.headCheck s h) := by unfold State.headCheck; (try dsimp only); (repeat' split) <;> simp (maxDischargeDepth := 99) +contextual [*]

@[simp ↓] theorem State.removeEngine_only {qz} {oz : State} (s : State) (e : Nat) (cause : Nat) (hS : Only qz oz s)
    (pm0 : Part.of qz .cqu = true := by assumption) (pm1 : Part.of qz .crd = true := by assumption)
    (pm2 : Part.of qz (.slot 9) = true := by first | assumption | exact of_slot (by assumption))
    (pm3 : Part.of qz (.slot 18) = true := by first | assumption | exact of_slot (by assumption)) :
    Only qz oz (@State.removeEngine s e cause) := by unfold State.removeEngine; simp (maxDischargeDepth := 99) [*]

@[simp ↓] theorem State.decodeAgain_only {qz} {oz : State} (s : State) (x : LdpSector) (hS : Only qz oz s)
    (pm0 : Part.of qz .media = true := by assumption) (pm1 : Part.of qz .cqu = true := by assumption) :
    Only qz oz (@State.decodeAgain s x) := by unfold State.decodeAgain; simp (maxDischargeDepth := 99) [*]

@[simp ↓] theorem State.postRow_only {qz} {oz : State} (s : State) (x : LdpSector) (payload : Bytes) (hS : Only qz oz s)
    (pm0 : Part.of qz .buf = true := by assumption) (pm1 : Part.of qz .dma = true := by assumption)
    (pm2 : Part.of qz .hpt = true := by assumption)
    (pm3 : Part.of qz (.slot 8) = true := by first | assumption | exact of_slot (by assumption))
    (pm4 : Part.of qz (.slot 12) = true := by first | assumption | exact of_slot (by assumption))
    (pm5 : Part.of qz (.slot 13) = true := by first | assumption | exact of_slot (by assumption)) :
    Only qz oz (@State.postRow s x payload) := by unfold State.postRow; (try dsimp only); (repeat' split) <;> simp (maxDischargeDepth := 99) +contextual [*]

@[simp ↓] theorem State.countSector_only {qz} {oz : State} (s : State) (x : LdpSector) (hS : Only qz oz s)
    (pm0 : Part.of qz .cqu = true := by assumption) (pm1 : Part.of qz .crd = true := by assumption)
    (pm2 : Part.of qz (.slot 9) = true := by first | assumption | exact of_slot (by assumption))
    (pm3 : Part.of qz (.slot 16) = true := by first | assumption | exact of_slot (by assumption)) :
    Only qz oz (@State.countSector s x) := by unfold State.countSector; simp (maxDischargeDepth := 99) [*]

@[simp ↓] theorem State.readAgain_only {qz} {oz : State} (s : State) (x : LdpSector) (hS : Only qz oz s)
    (pm0 : Part.of qz .media = true := by assumption) (pm1 : Part.of qz .cqu = true := by assumption) :
    Only qz oz (@State.readAgain s x) := by unfold State.readAgain; simp (maxDischargeDepth := 99) [*]

@[simp ↓] theorem State.step7Rule_only {qz} {oz : State} (s : State) (ch : Nat) (now : Nat) (hS : Only qz oz s)
    (pm0 : Part.of qz .linkA = true := by assumption) (pm1 : Part.of qz .linkB = true := by assumption)
    (pm2 : Part.of qz .linkZ = true := by assumption) (pm3 : Part.of qz .fsqs = true := by assumption)
    (pm4 : Part.of qz .rwcs = true := by assumption) (pm5 : Part.of qz .media = true := by assumption)
    (pm6 : Part.of qz .cqu = true := by assumption) (pm7 : Part.of qz .crd = true := by assumption)
    (pm8 : Part.of qz (.slot 9) = true := by first | assumption | exact of_slot (by assumption))
    (pm9 : Part.of qz (.slot 17) = true := by first | assumption | exact of_slot (by assumption))
    (pm10 : Part.of qz (.slot 20) = true := by first | assumption | exact of_slot (by assumption)) :
    Only qz oz (@State.step7Rule s ch now) := by unfold State.step7Rule; (try dsimp only); (repeat' split) <;> simp (maxDischargeDepth := 99) +contextual [*]

@[simp ↓] theorem State.afterDelivery_only {qz} {oz : State} (s : State) (x : LdpSector) (now : Nat) (hS : Only qz oz s)
    (pm0 : Part.of qz .linkA = true := by assumption) (pm1 : Part.of qz .linkB = true := by assumption)
    (pm2 : Part.of qz .linkZ = true := by assumption) (pm3 : Part.of qz .fsqs = true := by assumption)
    (pm4 : Part.of qz .rwcs = true := by assumption) (pm5 : Part.of qz .media = true := by assumption)
    (pm6 : Part.of qz .stripe = true := by assumption) (pm7 : Part.of qz .cqu = true := by assumption)
    (pm8 : Part.of qz .crd = true := by assumption)
    (pm9 : Part.of qz (.slot 9) = true := by first | assumption | exact of_slot (by assumption))
    (pm10 : Part.of qz (.slot 17) = true := by first | assumption | exact of_slot (by assumption))
    (pm11 : Part.of qz (.slot 20) = true := by first | assumption | exact of_slot (by assumption)) :
    Only qz oz (@State.afterDelivery s x now) := by unfold State.afterDelivery; simp (maxDischargeDepth := 99) [*]

@[simp ↓] theorem State.deliverSector_only {qz} {oz : State} (s : State) (x : LdpSector) (payload : Bytes) (now : Nat)
    (hS : Only qz oz s) (pm0 : Part.of qz .linkA = true := by assumption) (pm1 : Part.of qz .linkB = true := by assumption)
    (pm2 : Part.of qz .linkZ = true := by assumption) (pm3 : Part.of qz .fsqs = true := by assumption)
    (pm4 : Part.of qz .rwcs = true := by assumption) (pm5 : Part.of qz .media = true := by assumption)
    (pm6 : Part.of qz .stripe = true := by assumption) (pm7 : Part.of qz .buf = true := by assumption)
    (pm8 : Part.of qz .dma = true := by assumption) (pm9 : Part.of qz .cqu = true := by assumption)
    (pm10 : Part.of qz .hpt = true := by assumption) (pm11 : Part.of qz .crd = true := by assumption)
    (pm12 : Part.of qz (.slot 8) = true := by first | assumption | exact of_slot (by assumption))
    (pm13 : Part.of qz (.slot 9) = true := by first | assumption | exact of_slot (by assumption))
    (pm14 : Part.of qz (.slot 12) = true := by first | assumption | exact of_slot (by assumption))
    (pm15 : Part.of qz (.slot 13) = true := by first | assumption | exact of_slot (by assumption))
    (pm16 : Part.of qz (.slot 16) = true := by first | assumption | exact of_slot (by assumption))
    (pm17 : Part.of qz (.slot 17) = true := by first | assumption | exact of_slot (by assumption))
    (pm18 : Part.of qz (.slot 20) = true := by first | assumption | exact of_slot (by assumption)) :
    Only qz oz (@State.deliverSector s x payload now) := by unfold State.deliverSector; simp (maxDischargeDepth := 99) [*]

@[simp ↓] theorem State.scaleIcal_only {qz} {oz : State} (s : State) (h : Nat) (n : Nat) (d : Nat) (hS : Only qz oz s)
    (pm0 : Part.of qz .media = true := by assumption) :
    Only qz oz (@State.scaleIcal s h n d) := by unfold State.scaleIcal; simp (maxDischargeDepth := 99) [*]

/-! ### Reset -/

@[simp ↓] theorem State.partnersReset_only {qz} {oz : State} (s : State) (hS : Only qz oz s)
    (pm0 : Part.of qz .ident = true := by assumption) (pm1 : Part.of qz .feA = true := by assumption)
    (pm2 : Part.of qz .feB = true := by assumption) (pm3 : Part.of qz .motion = true := by assumption) :
    Only qz oz (@State.partnersReset s) := by unfold State.partnersReset; simp (maxDischargeDepth := 99) [*]

@[simp ↓] theorem State.partnersOut_only {qz} {oz : State} (s : State) (hS : Only qz oz s)
    (pm0 : Part.of qz .feA = true := by assumption) (pm1 : Part.of qz .feB = true := by assumption)
    (pm2 : Part.of qz .motion = true := by assumption) :
    Only qz oz (@State.partnersOut s) := by unfold State.partnersOut; simp (maxDischargeDepth := 99) [*]

@[simp ↓] theorem State.dieReset_only {qz} {oz : State} (s : State) (tables : Bool) (hS : Only qz oz s)
    (pm0 : Part.of qz .regs = true := by assumption) (pm1 : Part.of qz .cfg = true := by assumption)
    (pm2 : Part.of qz .plat = true := by assumption) (pm3 : Part.of qz .opt = true := by assumption)
    (pm4 : Part.of qz .fw = true := by assumption) (pm5 : Part.of qz .patches = true := by assumption)
    (pm6 : Part.of qz .nor = true := by assumption) (pm7 : Part.of qz .ident = true := by assumption)
    (pm8 : Part.of qz .linkA = true := by assumption) (pm9 : Part.of qz .linkB = true := by assumption)
    (pm10 : Part.of qz .linkZ = true := by assumption) (pm11 : Part.of qz .rep = true := by assumption)
    (pm12 : Part.of qz .spin = true := by assumption) (pm13 : Part.of qz .servoA = true := by assumption)
    (pm14 : Part.of qz .servoB = true := by assumption) (pm15 : Part.of qz .tables = true := by assumption)
    (pm16 : Part.of qz .fsqs = true := by assumption) (pm17 : Part.of qz .rwcs = true := by assumption)
    (pm18 : Part.of qz .media = true := by assumption) (pm19 : Part.of qz .stripe = true := by assumption)
    (pm20 : Part.of qz .buf = true := by assumption) (pm21 : Part.of qz .dma = true := by assumption)
    (pm22 : Part.of qz .zmu = true := by assumption) (pm23 : Part.of qz .cqu = true := by assumption)
    (pm24 : Part.of qz .hpt = true := by assumption) (pm25 : Part.of qz .power = true := by assumption)
    (pm26 : Part.of qz .bur = true := by assumption) (pm27 : Part.of qz .tst = true := by assumption) :
    Only qz oz (@State.dieReset s tables) := by
  unfold State.dieReset
  constructor
  · intro k hk
    exact absurd (of_slot (by assumption)) (by rw [hk]; exact Bool.false_ne_true)
  all_goals first
    | exact hS.pending
    | (intro h; first
        | exact hS.pins h | exact hS.start h | exact hS.fuses h | exact hS.defects h | exact hS.chest h | exact hS.core h
        | exact hS.feA h | exact hS.feB h | exact hS.motion h | exact hS.crd h | exact hS.freeCount h
        | (exfalso; simp_all; done))

@[simp ↓] theorem State.savePathReset_only {qz} {oz : State} (s : State) (hS : Only qz oz s)
    (pm0 : Part.of qz .stripe = true := by assumption) (pm1 : Part.of qz .buf = true := by assumption)
    (pm2 : Part.of qz .dma = true := by assumption) (pm3 : Part.of qz .crd = true := by assumption) :
    Only qz oz (@State.savePathReset s) := by unfold State.savePathReset; simp (maxDischargeDepth := 99) [*]

@[simp ↓] theorem State.startOver_only {qz} {oz : State} (s : State) (r : RstPhase) (cause : Nat) (hS : Only qz oz s)
    (pm0 : Part.of qz .regs = true := by assumption) (pm1 : Part.of qz .start = true := by assumption) :
    Only qz oz (@State.startOver s r cause) := by unfold State.startOver; simp (maxDischargeDepth := 99) [*]

@[simp ↓] theorem State.keepStatus_only {qz} {oz : State} (s : State) (hS : Only qz oz s)
    (pm0 : Part.of qz .regs = true := by assumption) :
    Only qz oz (@State.keepStatus s) := by unfold State.keepStatus; simp (maxDischargeDepth := 99) [*]

@[simp ↓] theorem State.lossNoted_only {qz} {oz : State} (s : State) (hS : Only qz oz s)
    (pm0 : Part.of qz .buf = true := by assumption) :
    Only qz oz (@State.lossNoted s) := by unfold State.lossNoted; simp (maxDischargeDepth := 99) [*]

@[simp ↓] theorem State.tailLost_only {qz} {oz : State} (s : State) (hS : Only qz oz s)
    (pm0 : Part.of qz .zmu = true := by assumption) :
    Only qz oz (@State.tailLost s) := by unfold State.tailLost; simp (maxDischargeDepth := 99) [*]

@[simp ↓] theorem State.coldDie_only {qz} {oz : State} (s : State) (r : RstPhase) (cause : Nat) (hS : Only qz oz s)
    (pm0 : Part.of qz .regs = true := by assumption) (pm1 : Part.of qz .start = true := by assumption)
    (pm2 : Part.of qz .cfg = true := by assumption) (pm3 : Part.of qz .plat = true := by assumption)
    (pm4 : Part.of qz .opt = true := by assumption) (pm5 : Part.of qz .fw = true := by assumption)
    (pm6 : Part.of qz .patches = true := by assumption) (pm7 : Part.of qz .nor = true := by assumption)
    (pm8 : Part.of qz .ident = true := by assumption) (pm9 : Part.of qz .linkA = true := by assumption)
    (pm10 : Part.of qz .linkB = true := by assumption) (pm11 : Part.of qz .linkZ = true := by assumption)
    (pm12 : Part.of qz .feA = true := by assumption) (pm13 : Part.of qz .feB = true := by assumption)
    (pm14 : Part.of qz .motion = true := by assumption) (pm15 : Part.of qz .rep = true := by assumption)
    (pm16 : Part.of qz .spin = true := by assumption) (pm17 : Part.of qz .servoA = true := by assumption)
    (pm18 : Part.of qz .servoB = true := by assumption) (pm19 : Part.of qz .tables = true := by assumption)
    (pm20 : Part.of qz .fsqs = true := by assumption) (pm21 : Part.of qz .rwcs = true := by assumption)
    (pm22 : Part.of qz .media = true := by assumption) (pm23 : Part.of qz .stripe = true := by assumption)
    (pm24 : Part.of qz .chest = true := by assumption) (pm25 : Part.of qz .buf = true := by assumption)
    (pm26 : Part.of qz .dma = true := by assumption) (pm27 : Part.of qz .zmu = true := by assumption)
    (pm28 : Part.of qz .cqu = true := by assumption) (pm29 : Part.of qz .hpt = true := by assumption)
    (pm30 : Part.of qz .power = true := by assumption) (pm31 : Part.of qz .bur = true := by assumption)
    (pm32 : Part.of qz .crd = true := by assumption) (pm33 : Part.of qz .tst = true := by assumption)
    (pm34 : Part.of qz .freeCount = true := by assumption) :
    Only qz oz (@State.coldDie s r cause) := by unfold State.coldDie; simp (maxDischargeDepth := 99) [*]

@[simp ↓] theorem State.nightstandLost_only {qz} {oz : State} (s : State) (hS : Only qz oz s)
    (pm0 : Part.of qz .regs = true := by assumption) (pm1 : Part.of qz .start = true := by assumption)
    (pm2 : Part.of qz .buf = true := by assumption) (pm3 : Part.of qz .bur = true := by assumption) :
    Only qz oz (@State.nightstandLost s) := by unfold State.nightstandLost; simp (maxDischargeDepth := 99) [*]

@[simp ↓] theorem State.driveReset_only {qz} {oz : State} (s : State) (cause : Nat) (hS : Only qz oz s)
    (pm0 : Part.of qz .regs = true := by assumption) (pm1 : Part.of qz .pins = true := by assumption)
    (pm2 : Part.of qz .start = true := by assumption) (pm3 : Part.of qz .cfg = true := by assumption)
    (pm4 : Part.of qz .plat = true := by assumption) (pm5 : Part.of qz .opt = true := by assumption)
    (pm6 : Part.of qz .fw = true := by assumption) (pm7 : Part.of qz .patches = true := by assumption)
    (pm8 : Part.of qz .nor = true := by assumption) (pm9 : Part.of qz .ident = true := by assumption)
    (pm10 : Part.of qz .linkA = true := by assumption) (pm11 : Part.of qz .linkB = true := by assumption)
    (pm12 : Part.of qz .linkZ = true := by assumption) (pm13 : Part.of qz .feA = true := by assumption)
    (pm14 : Part.of qz .feB = true := by assumption) (pm15 : Part.of qz .motion = true := by assumption)
    (pm16 : Part.of qz .rep = true := by assumption) (pm17 : Part.of qz .spin = true := by assumption)
    (pm18 : Part.of qz .servoA = true := by assumption) (pm19 : Part.of qz .servoB = true := by assumption)
    (pm20 : Part.of qz .tables = true := by assumption) (pm21 : Part.of qz .fsqs = true := by assumption)
    (pm22 : Part.of qz .rwcs = true := by assumption) (pm23 : Part.of qz .media = true := by assumption)
    (pm24 : Part.of qz .stripe = true := by assumption) (pm25 : Part.of qz .chest = true := by assumption)
    (pm26 : Part.of qz .buf = true := by assumption) (pm27 : Part.of qz .dma = true := by assumption)
    (pm28 : Part.of qz .zmu = true := by assumption) (pm29 : Part.of qz .cqu = true := by assumption)
    (pm30 : Part.of qz .hpt = true := by assumption) (pm31 : Part.of qz .power = true := by assumption)
    (pm32 : Part.of qz .bur = true := by assumption) (pm33 : Part.of qz .crd = true := by assumption)
    (pm34 : Part.of qz .tst = true := by assumption) :
    Only qz oz (@State.driveReset s cause) := by unfold State.driveReset; simp (maxDischargeDepth := 99) [*]

@[simp ↓] theorem State.startClocks_only {qz} {oz : State} (s : State) (hS : Only qz oz s)
    (pm0 : Part.of qz (.slot 0) = true := by first | assumption | exact of_slot (by assumption)) :
    Only qz oz (@State.startClocks s) := by unfold State.startClocks; simp (maxDischargeDepth := 99) +contextual [*]

@[simp ↓] theorem State.enterP2_only {qz} {oz : State} (s : State) (hS : Only qz oz s)
    (pm0 : Part.of qz (.slot 0) = true := by first | assumption | exact of_slot (by assumption))
    (pm1 : Part.of qz (.slot 1) = true := by first | assumption | exact of_slot (by assumption)) :
    Only qz oz (@State.enterP2 s) := by unfold State.enterP2; simp (maxDischargeDepth := 99) [*]

@[simp ↓] theorem execNssr_only {qz} {oz : State} (value : Word) (s : State) (hS : Only qz oz s)
    (pm0 : Part.of qz .regs = true := by assumption) (pm1 : Part.of qz .pins = true := by assumption)
    (pm2 : Part.of qz .start = true := by assumption) (pm3 : Part.of qz .cfg = true := by assumption)
    (pm4 : Part.of qz .plat = true := by assumption) (pm5 : Part.of qz .opt = true := by assumption)
    (pm6 : Part.of qz .fw = true := by assumption) (pm7 : Part.of qz .patches = true := by assumption)
    (pm8 : Part.of qz .nor = true := by assumption) (pm9 : Part.of qz .ident = true := by assumption)
    (pm10 : Part.of qz .linkA = true := by assumption) (pm11 : Part.of qz .linkB = true := by assumption)
    (pm12 : Part.of qz .linkZ = true := by assumption) (pm13 : Part.of qz .feA = true := by assumption)
    (pm14 : Part.of qz .feB = true := by assumption) (pm15 : Part.of qz .motion = true := by assumption)
    (pm16 : Part.of qz .rep = true := by assumption) (pm17 : Part.of qz .spin = true := by assumption)
    (pm18 : Part.of qz .servoA = true := by assumption) (pm19 : Part.of qz .servoB = true := by assumption)
    (pm20 : Part.of qz .tables = true := by assumption) (pm21 : Part.of qz .fsqs = true := by assumption)
    (pm22 : Part.of qz .rwcs = true := by assumption) (pm23 : Part.of qz .media = true := by assumption)
    (pm24 : Part.of qz .stripe = true := by assumption) (pm25 : Part.of qz .chest = true := by assumption)
    (pm26 : Part.of qz .buf = true := by assumption) (pm27 : Part.of qz .dma = true := by assumption)
    (pm28 : Part.of qz .zmu = true := by assumption) (pm29 : Part.of qz .cqu = true := by assumption)
    (pm30 : Part.of qz .hpt = true := by assumption) (pm31 : Part.of qz .power = true := by assumption)
    (pm32 : Part.of qz .bur = true := by assumption) (pm33 : Part.of qz .crd = true := by assumption)
    (pm34 : Part.of qz .tst = true := by assumption) (pm35 : Part.of qz .freeCount = true := by assumption) :
    Keeps (@execNssr value s) (Only qz oz) := by unfold execNssr; simp (maxDischargeDepth := 99) +contextual [*]

/-! ### BlockReset -/

@[simp ↓] theorem State.setBlock_only {qz} {oz : State} (s : State) (slot : Nat) (b : BlkState) (hS : Only qz oz s)
    (pm0 : Part.of qz .start = true := by assumption) :
    Only qz oz (@State.setBlock s slot b) := by unfold State.setBlock; simp (maxDischargeDepth := 99) [*]

@[simp ↓] theorem State.hostLinkDrop_only {qz} {oz : State} (s : State) (train : Bool) (hS : Only qz oz s)
    (pm0 : Part.of qz .hpt = true := by assumption)
    (pm1 : Part.of qz (.slot 8) = true := by first | assumption | exact of_slot (by assumption)) :
    Only qz oz (@State.hostLinkDrop s train) := by unfold State.hostLinkDrop; simp (maxDischargeDepth := 99) [*]

@[simp ↓] theorem State.pcieDescsEnd_only {qz} {oz : State} (s : State) (hS : Only qz oz s)
    (pm0 : Part.of qz .dma = true := by assumption)
    (pm1 : Part.of qz (.slot 13) = true := by first | assumption | exact of_slot (by assumption)) :
    Only qz oz (@State.pcieDescsEnd s) := by
  unfold State.pcieDescsEnd
  try dsimp only
  repeat' (first | (simp (maxDischargeDepth := 99) +contextual [*]; done) | refine foldl_only _ _ (fun t b ht => ?_) ?_ | split)
  all_goals simp_all (maxDischargeDepth := 99) +contextual

@[simp ↓] theorem State.hostDrop_only {qz} {oz : State} (s : State) (hS : Only qz oz s)
    (pm0 : Part.of qz .stripe = true := by assumption) (pm1 : Part.of qz .buf = true := by assumption)
    (pm2 : Part.of qz .dma = true := by assumption) (pm3 : Part.of qz .cqu = true := by assumption)
    (pm4 : Part.of qz .hpt = true := by assumption)
    (pm5 : Part.of qz (.slot 0) = true := by first | assumption | exact of_slot (by assumption))
    (pm6 : Part.of qz (.slot 8) = true := by first | assumption | exact of_slot (by assumption))
    (pm7 : Part.of qz (.slot 13) = true := by first | assumption | exact of_slot (by assumption))
    (pm8 : Part.of qz (.slot 24) = true := by first | assumption | exact of_slot (by assumption)) :
    Only qz oz (@State.hostDrop s) := by unfold State.hostDrop; simp (maxDischargeDepth := 99) [*]

@[simp ↓] theorem State.fsqDrop_only {qz} {oz : State} (s : State) (ch : Nat) (hS : Only qz oz s)
    (pm0 : Part.of qz .rep = true := by assumption) (pm1 : Part.of qz .fsqs = true := by assumption)
    (pm2 : Part.of qz .cqu = true := by assumption) :
    Only qz oz (@State.fsqDrop s ch) := by unfold State.fsqDrop; (try dsimp only); (repeat' split) <;> simp (maxDischargeDepth := 99) +contextual [*]

@[simp ↓] theorem State.ldpDrop_only {qz} {oz : State} (s : State) (hS : Only qz oz s)
    (pm0 : Part.of qz .media = true := by assumption) (pm1 : Part.of qz .stripe = true := by assumption)
    (pm2 : Part.of qz .cqu = true := by assumption) (pm3 : Part.of qz .crd = true := by assumption)
    (pm4 : Part.of qz (.slot 9) = true := by first | assumption | exact of_slot (by assumption))
    (pm5 : Part.of qz (.slot 16) = true := by first | assumption | exact of_slot (by assumption)) :
    Only qz oz (@State.ldpDrop s) := by unfold State.ldpDrop; simp (maxDischargeDepth := 99) +contextual [*]

@[simp ↓] theorem State.blockDrop_only {qz} {oz : State} (s : State) (slot : Nat) (hS : Only qz oz s)
    (pm0 : Part.of qz .rep = true := by assumption) (pm1 : Part.of qz .spin = true := by assumption)
    (pm2 : Part.of qz .servoA = true := by assumption) (pm3 : Part.of qz .servoB = true := by assumption)
    (pm4 : Part.of qz .fsqs = true := by assumption) (pm5 : Part.of qz .rwcs = true := by assumption)
    (pm6 : Part.of qz .media = true := by assumption) (pm7 : Part.of qz .stripe = true := by assumption)
    (pm8 : Part.of qz .buf = true := by assumption) (pm9 : Part.of qz .dma = true := by assumption)
    (pm10 : Part.of qz .zmu = true := by assumption) (pm11 : Part.of qz .cqu = true := by assumption)
    (pm12 : Part.of qz .hpt = true := by assumption) (pm13 : Part.of qz .crd = true := by assumption)
    (pm14 : Part.of qz (.slot 0) = true := by first | assumption | exact of_slot (by assumption))
    (pm15 : Part.of qz (.slot 8) = true := by first | assumption | exact of_slot (by assumption))
    (pm16 : Part.of qz (.slot 9) = true := by first | assumption | exact of_slot (by assumption))
    (pm17 : Part.of qz (.slot 13) = true := by first | assumption | exact of_slot (by assumption))
    (pm18 : Part.of qz (.slot 16) = true := by first | assumption | exact of_slot (by assumption))
    (pm19 : Part.of qz (.slot 24) = true := by first | assumption | exact of_slot (by assumption)) :
    Only qz oz (@State.blockDrop s slot) := by
  unfold State.blockDrop
  dsimp only
  repeat' split
  all_goals first
    | with_reducible exact hS
    | with_reducible exact State.hostDrop_only _ hS
    | with_reducible exact State.ldpDrop_only _ hS
    | with_reducible exact foldl_only _ _ (fun t b ht => State.fsqDrop_only _ _ ht) hS
    | simp (maxDischargeDepth := 99) [*]

@[simp ↓] theorem State.requestReset_only {qz} {oz : State} (s : State) (slot : Nat) (hS : Only qz oz s)
    (pm0 : Part.of qz .start = true := by assumption) :
    Only qz oz (@State.requestReset s slot) := by unfold State.requestReset; simp (maxDischargeDepth := 99) [*]

@[simp ↓] theorem State.assertReset_only {qz} {oz : State} (s : State) (slot : Nat) (hS : Only qz oz s)
    (pm0 : Part.of qz .start = true := by assumption) (pm1 : Part.of qz .rep = true := by assumption)
    (pm2 : Part.of qz .spin = true := by assumption) (pm3 : Part.of qz .servoA = true := by assumption)
    (pm4 : Part.of qz .servoB = true := by assumption) (pm5 : Part.of qz .fsqs = true := by assumption)
    (pm6 : Part.of qz .rwcs = true := by assumption) (pm7 : Part.of qz .media = true := by assumption)
    (pm8 : Part.of qz .stripe = true := by assumption) (pm9 : Part.of qz .buf = true := by assumption)
    (pm10 : Part.of qz .dma = true := by assumption) (pm11 : Part.of qz .zmu = true := by assumption)
    (pm12 : Part.of qz .cqu = true := by assumption) (pm13 : Part.of qz .hpt = true := by assumption)
    (pm14 : Part.of qz .crd = true := by assumption)
    (pm15 : Part.of qz (.slot 0) = true := by first | assumption | exact of_slot (by assumption))
    (pm16 : Part.of qz (.slot 8) = true := by first | assumption | exact of_slot (by assumption))
    (pm17 : Part.of qz (.slot 9) = true := by first | assumption | exact of_slot (by assumption))
    (pm18 : Part.of qz (.slot 13) = true := by first | assumption | exact of_slot (by assumption))
    (pm19 : Part.of qz (.slot 16) = true := by first | assumption | exact of_slot (by assumption))
    (pm20 : Part.of qz (.slot 24) = true := by first | assumption | exact of_slot (by assumption)) :
    Only qz oz (@State.assertReset s slot) := by unfold State.assertReset; simp (maxDischargeDepth := 99) [*]

@[simp ↓] theorem State.warmRegs_only {qz} {oz : State} (s : State) (slot : Nat) (hS : Only qz oz s)
    (pm0 : Part.of qz .regs = true := by assumption) :
    Only qz oz (@State.warmRegs s slot) := by unfold State.warmRegs; simp (maxDischargeDepth := 99) [*]

@[simp ↓] theorem State.releaseBlock_only {qz} {oz : State} (s : State) (slot : Nat) (hS : Only qz oz s)
    (pm0 : Part.of qz .regs = true := by assumption) (pm1 : Part.of qz .start = true := by assumption)
    (pm2 : Part.of qz .linkA = true := by assumption) (pm3 : Part.of qz .linkB = true := by assumption)
    (pm4 : Part.of qz .linkZ = true := by assumption) (pm5 : Part.of qz .spin = true := by assumption)
    (pm6 : Part.of qz .buf = true := by assumption) (pm7 : Part.of qz .hpt = true := by assumption) :
    Only qz oz (@State.releaseBlock s slot) := by unfold State.releaseBlock; simp (maxDischargeDepth := 99) +contextual [*]

@[simp ↓] theorem State.releaseWaiting_only {qz} {oz : State} (s : State) (hS : Only qz oz s)
    (pm0 : Part.of qz .regs = true := by assumption) (pm1 : Part.of qz .start = true := by assumption)
    (pm2 : Part.of qz .linkA = true := by assumption) (pm3 : Part.of qz .linkB = true := by assumption)
    (pm4 : Part.of qz .linkZ = true := by assumption) (pm5 : Part.of qz .spin = true := by assumption)
    (pm6 : Part.of qz .buf = true := by assumption) (pm7 : Part.of qz .hpt = true := by assumption) :
    Only qz oz (@State.releaseWaiting s) := by unfold State.releaseWaiting; simp (maxDischargeDepth := 99) +contextual [*]

@[simp ↓] theorem execBlkRst_only {qz} {oz : State} (value : Word) (s : State) (hS : Only qz oz s)
    (pm0 : Part.of qz .start = true := by assumption) (pm1 : Part.of qz .hpt = true := by assumption)
    (pm2 : Part.of qz (.slot 0) = true := by first | assumption | exact of_slot (by assumption))
    (pm3 : Part.of qz (.slot 8) = true := by first | assumption | exact of_slot (by assumption)) :
    Keeps (@execBlkRst value s) (Only qz oz) := by unfold execBlkRst; simp (maxDischargeDepth := 99) +contextual [*]

/-! ### ZoneMap -/

@[simp ↓] theorem State.mergeStart_only {qz} {oz : State} (s : State) (lz : Nat) (hS : Only qz oz s)
    (pm0 : Part.of qz .zmu = true := by assumption) :
    Only qz oz (@State.mergeStart s lz) := by unfold State.mergeStart; (try dsimp only); (repeat' split) <;> simp (maxDischargeDepth := 99) +contextual [*]

@[simp ↓] theorem State.lockLine_only {qz} {oz : State} (s : State) (i : Nat) (hS : Only qz oz s)
    (pm0 : Part.of qz .zmu = true := by assumption)
    (pm1 : Part.of qz (.slot 10) = true := by first | assumption | exact of_slot (by assumption)) :
    Only qz oz (@State.lockLine s i) := by unfold State.lockLine; simp (maxDischargeDepth := 99) [*]

@[simp ↓] theorem State.mapMiss_only {qz} {oz : State} (s : State) (u : Nat) (write : Bool) (preload : Bool) (lock : Bool)
    (hS : Only qz oz s) (pm0 : Part.of qz .zmu = true := by assumption)
    (pm1 : Part.of qz (.slot 10) = true := by first | assumption | exact of_slot (by assumption)) :
    Only qz oz (@State.mapMiss s u write preload lock) := by unfold State.mapMiss; (try dsimp only); (repeat' split) <;> simp (maxDischargeDepth := 99) +contextual [*]

@[simp ↓] theorem State.mapLookup_only {qz} {oz : State} (s : State) (u : Nat) (write : Bool) (hS : Only qz oz s)
    (pm0 : Part.of qz .zmu = true := by assumption)
    (pm1 : Part.of qz (.slot 10) = true := by first | assumption | exact of_slot (by assumption)) :
    Only qz oz (@State.mapLookup s u write) := by unfold State.mapLookup; (try dsimp only); (repeat' split) <;> simp (maxDischargeDepth := 99) +contextual [*]

@[simp ↓] theorem State.missAgain_only {qz} {oz : State} (t : State) (k : Nat) (hS : Only qz oz t)
    (pm0 : Part.of qz .zmu = true := by assumption) :
    Only qz oz (@State.missAgain t k) := by unfold State.missAgain; (try dsimp only); (repeat' split) <;> simp (maxDischargeDepth := 99) +contextual [*]

@[simp ↓] theorem State.mapRetry_only {qz} {oz : State} (s : State) (hS : Only qz oz s)
    (pm0 : Part.of qz .zmu = true := by assumption)
    (pm1 : Part.of qz (.slot 10) = true := by first | assumption | exact of_slot (by assumption)) :
    Only qz oz (@State.mapRetry s) := by unfold State.mapRetry; (try dsimp only); (repeat' split) <;> simp (maxDischargeDepth := 99) +contextual [*]

@[simp ↓] theorem State.mapSweep_only {qz} {oz : State} (s : State) (hS : Only qz oz s)
    (pm0 : Part.of qz .zmu = true := by assumption)
    (pm1 : Part.of qz (.slot 10) = true := by first | assumption | exact of_slot (by assumption)) :
    Only qz oz (@State.mapSweep s) := by unfold State.mapSweep; simp (maxDischargeDepth := 99) [*]

@[simp ↓] theorem execPreload_only {qz} {oz : State} (value : Word) (s : State) (hS : Only qz oz s)
    (pm0 : Part.of qz .zmu = true := by assumption)
    (pm1 : Part.of qz (.slot 10) = true := by first | assumption | exact of_slot (by assumption)) :
    Keeps (@execPreload value s) (Only qz oz) := by unfold execPreload; (try dsimp only); (repeat' split) <;> simp (maxDischargeDepth := 99) +contextual [*]

@[simp ↓] theorem execUnlock_only {qz} {oz : State} (value : Word) (s : State) (hS : Only qz oz s)
    (pm0 : Part.of qz .zmu = true := by assumption)
    (pm1 : Part.of qz (.slot 10) = true := by first | assumption | exact of_slot (by assumption)) :
    Keeps (@execUnlock value s) (Only qz oz) := by unfold execUnlock; (try dsimp only); (repeat' split) <;> simp (maxDischargeDepth := 99) +contextual [*]

@[simp ↓] theorem execEnable_only {qz} {oz : State} (onOff : Bool) (s : State) (hS : Only qz oz s)
    (pm0 : Part.of qz .zmu = true := by assumption)
    (pm1 : Part.of qz (.slot 10) = true := by first | assumption | exact of_slot (by assumption)) :
    Keeps (@execEnable onOff s) (Only qz oz) := by unfold execEnable; simp (maxDischargeDepth := 99) [*]

@[simp ↓] theorem execClean_only {qz} {oz : State} (s : State) (hS : Only qz oz s)
    (pm0 : Part.of qz .zmu = true := by assumption)
    (pm1 : Part.of qz (.slot 10) = true := by first | assumption | exact of_slot (by assumption)) :
    Keeps (@execClean s) (Only qz oz) := by unfold execClean; simp (maxDischargeDepth := 99) [*]

/-! ### Vendor -/

@[simp ↓] theorem State.peerStart_only {qz} {oz : State} (s : State) (fsn : Nat) (op : Byte) (hS : Only qz oz s)
    (pm0 : Part.of qz .cqu = true := by assumption)
    (pm1 : Part.of qz (.slot 9) = true := by first | assumption | exact of_slot (by assumption))
    (pm2 : Part.of qz (.slot 13) = true := by first | assumption | exact of_slot (by assumption)) :
    Only qz oz (@State.peerStart s fsn op) := by unfold State.peerStart; (try dsimp only); (repeat' split) <;> simp (maxDischargeDepth := 99) +contextual [*]

@[simp ↓] theorem State.takeFsn_only {qz} {oz : State} (s : State) (hS : Only qz oz s)
    (pm0 : Part.of qz .cqu = true := by assumption) :
    Only qz oz (@State.takeFsn s) := by unfold State.takeFsn; simp (maxDischargeDepth := 99) [*]

@[simp ↓] theorem State.countScan_only {qz} {oz : State} (s : State) (n : Nat) (hS : Only qz oz s)
    (pm0 : Part.of qz .cqu = true := by assumption)
    (pm1 : Part.of qz (.slot 24) = true := by first | assumption | exact of_slot (by assumption)) :
    Only qz oz (@State.countScan s n) := by unfold State.countScan; simp (maxDischargeDepth := 99) [*]

@[simp ↓] theorem State.countPeer_only {qz} {oz : State} (s : State) (out : Bool) (n : Nat) (hS : Only qz oz s)
    (pm0 : Part.of qz .cqu = true := by assumption)
    (pm1 : Part.of qz (.slot 25) = true := by first | assumption | exact of_slot (by assumption)) :
    Only qz oz (@State.countPeer s out n) := by unfold State.countPeer; simp (maxDischargeDepth := 99) [*]

@[simp ↓] theorem State.scanDone_only {qz} {oz : State} (s : State) (c : Cmd) (v : VendorRun) (st : Status)
    (hS : Only qz oz s) (pm0 : Part.of qz .buf = true := by assumption) (pm1 : Part.of qz .cqu = true := by assumption)
    (pm2 : Part.of qz .hpt = true := by assumption) (pm3 : Part.of qz .crd = true := by assumption)
    (pm4 : Part.of qz (.slot 8) = true := by first | assumption | exact of_slot (by assumption))
    (pm5 : Part.of qz (.slot 9) = true := by first | assumption | exact of_slot (by assumption))
    (pm6 : Part.of qz (.slot 12) = true := by first | assumption | exact of_slot (by assumption))
    (pm7 : Part.of qz (.slot 24) = true := by first | assumption | exact of_slot (by assumption)) :
    Only qz oz (@State.scanDone s c v st) := by unfold State.scanDone; simp (maxDischargeDepth := 99) [*]

@[simp ↓] theorem State.scanPiece_only {qz} {oz : State} (s : State) (c : Cmd) (v : VendorRun) (blocks : List (Option Bytes))
    (xfer : Xfer) (hS : Only qz oz s) (pm0 : Part.of qz .buf = true := by assumption)
    (pm1 : Part.of qz .cqu = true := by assumption) (pm2 : Part.of qz .hpt = true := by assumption)
    (pm3 : Part.of qz .crd = true := by assumption)
    (pm4 : Part.of qz (.slot 8) = true := by first | assumption | exact of_slot (by assumption))
    (pm5 : Part.of qz (.slot 9) = true := by first | assumption | exact of_slot (by assumption))
    (pm6 : Part.of qz (.slot 12) = true := by first | assumption | exact of_slot (by assumption))
    (pm7 : Part.of qz (.slot 24) = true := by first | assumption | exact of_slot (by assumption)) :
    Only qz oz (@State.scanPiece s c v blocks xfer) := by unfold State.scanPiece; (try dsimp only); (repeat' split) <;> simp (maxDischargeDepth := 99) +contextual [*]

@[simp ↓] theorem State.outPiece_only {qz} {oz : State} (s : State) (c : Cmd) (v : VendorRun) (blocks : List (Option Bytes))
    (xfer : Xfer) (hS : Only qz oz s) (pm0 : Part.of qz .buf = true := by assumption)
    (pm1 : Part.of qz .cqu = true := by assumption) (pm2 : Part.of qz .hpt = true := by assumption)
    (pm3 : Part.of qz .crd = true := by assumption)
    (pm4 : Part.of qz (.slot 8) = true := by first | assumption | exact of_slot (by assumption))
    (pm5 : Part.of qz (.slot 9) = true := by first | assumption | exact of_slot (by assumption))
    (pm6 : Part.of qz (.slot 12) = true := by first | assumption | exact of_slot (by assumption))
    (pm7 : Part.of qz (.slot 25) = true := by first | assumption | exact of_slot (by assumption)) :
    Only qz oz (@State.outPiece s c v blocks xfer) := by unfold State.outPiece; (try dsimp only); (repeat' split) <;> simp (maxDischargeDepth := 99) +contextual [*]

@[simp ↓] theorem State.inPiece_only {qz} {oz : State} (s : State) (c : Cmd) (v : VendorRun) (blocks : List (Option Bytes))
    (xfer : Xfer) (hS : Only qz oz s) (pm0 : Part.of qz .stripe = true := by assumption)
    (pm1 : Part.of qz .buf = true := by assumption) (pm2 : Part.of qz .dma = true := by assumption)
    (pm3 : Part.of qz .zmu = true := by assumption) (pm4 : Part.of qz .cqu = true := by assumption)
    (pm5 : Part.of qz .hpt = true := by assumption) (pm6 : Part.of qz .bur = true := by assumption)
    (pm7 : Part.of qz (.slot 8) = true := by first | assumption | exact of_slot (by assumption))
    (pm8 : Part.of qz (.slot 9) = true := by first | assumption | exact of_slot (by assumption))
    (pm9 : Part.of qz (.slot 13) = true := by first | assumption | exact of_slot (by assumption))
    (pm10 : Part.of qz (.slot 25) = true := by first | assumption | exact of_slot (by assumption)) :
    Only qz oz (@State.inPiece s c v blocks xfer) := by unfold State.inPiece; (try dsimp only); (repeat' split) <;> simp (maxDischargeDepth := 99) +contextual [*]

/-! ### Views -/

@[simp ↓] theorem State.readReg_only {qz} {oz : State} (s : State) (slot : Nat) (off : Nat) (hS : Only qz oz s)
    (pm0 : Part.of qz .regs = true := by assumption) :
    Only qz oz (@State.readReg s slot off).2 := by unfold State.readReg; (try dsimp only); (repeat' split) <;> simp (maxDischargeDepth := 99) +contextual [*]

/-! ### HostPort -/

@[simp ↓] theorem State.flushSends_only {qz} {oz : State} (s : State) (hS : Only qz oz s)
    (pm0 : Part.of qz .hpt = true := by assumption) :
    Only qz oz (@State.flushSends s) := by unfold State.flushSends; simp (maxDischargeDepth := 99) [*]

@[simp ↓] theorem State.fatal_only {qz} {oz : State} (s : State) (hS : Only qz oz s)
    (pm0 : Part.of qz .cqu = true := by assumption) :
    Only qz oz (@State.fatal s) := by unfold State.fatal; (try dsimp only); (repeat' split) <;> simp (maxDischargeDepth := 99) +contextual [*]

@[simp ↓] theorem State.aerCor_only {qz} {oz : State} (s : State) (bit : Nat) (hS : Only qz oz s)
    (pm0 : Part.of qz .hpt = true := by assumption) :
    Only qz oz (@State.aerCor s bit) := by unfold State.aerCor; simp (maxDischargeDepth := 99) [*]

@[simp ↓] theorem State.cplLogged_only {qz} {oz : State} (s : State) (a1 : CplErr) (hS : Only qz oz s)
    (pm0 : Part.of qz .hpt = true := by assumption) (pm1 : Part.of qz .freeCount = true := by assumption)
    (pm2 : Part.of qz (.slot 8) = true := by first | assumption | exact of_slot (by assumption)) :
    Only qz oz (@State.cplLogged s a1) := by unfold State.cplLogged; (try dsimp only); (repeat' split) <;> simp (maxDischargeDepth := 99) +contextual [*]

@[simp ↓] theorem State.pcieErr_only {qz} {oz : State} (s : State) (a1 : PcieErr) (hS : Only qz oz s)
    (pm0 : Part.of qz .cqu = true := by assumption) (pm1 : Part.of qz .hpt = true := by assumption)
    (pm2 : Part.of qz .freeCount = true := by assumption)
    (pm3 : Part.of qz (.slot 8) = true := by first | assumption | exact of_slot (by assumption))
    (pm4 : Part.of qz (.slot 9) = true := by first | assumption | exact of_slot (by assumption)) :
    Only qz oz (@State.pcieErr s a1) := by unfold State.pcieErr; (try dsimp only); (repeat' split) <;> simp (maxDischargeDepth := 99) +contextual [*]

@[simp ↓] theorem State.winFill_only {qz} {oz : State} (s : State) (line : Nat) (hS : Only qz oz s)
    (pm0 : Part.of qz .buf = true := by assumption) (pm1 : Part.of qz .cqu = true := by assumption)
    (pm2 : Part.of qz .crd = true := by assumption)
    (pm3 : Part.of qz (.slot 9) = true := by first | assumption | exact of_slot (by assumption))
    (pm4 : Part.of qz (.slot 12) = true := by first | assumption | exact of_slot (by assumption)) :
    Only qz oz (@State.winFill s line) := by unfold State.winFill; simp (maxDischargeDepth := 99) [*]

/-! ### Test -/

@[simp ↓] theorem execCrdClear_only {qz} {oz : State} (s : State) (hS : Only qz oz s)
    (pm0 : Part.of qz .chest = true := by assumption) (pm1 : Part.of qz .crd = true := by assumption)
    (pm2 : Part.of qz (.slot 4) = true := by first | assumption | exact of_slot (by assumption)) :
    Keeps (@execCrdClear s) (Only qz oz) := by unfold execCrdClear; simp (maxDischargeDepth := 99) +contextual [*]

@[simp ↓] theorem execPersist_only {qz} {oz : State} (s : State) (hS : Only qz oz s)
    (pm0 : Part.of qz .crd = true := by assumption)
    (pm1 : Part.of qz (.slot 4) = true := by first | assumption | exact of_slot (by assumption)) :
    Keeps (@execPersist s) (Only qz oz) := by unfold execPersist; simp (maxDischargeDepth := 99) +contextual [*]

@[simp ↓] theorem State.fuseDone_only {qz} {oz : State} (s : State) (op : Nat) (index : Nat) (err : Bool) (hS : Only qz oz s)
    (pm0 : Part.of qz (.slot 6) = true := by first | assumption | exact of_slot (by assumption)) :
    Only qz oz (@State.fuseDone s op index err) := by unfold State.fuseDone; simp (maxDischargeDepth := 99) [*]

@[simp ↓] theorem execHold_only {qz} {oz : State} (s : State) (hS : Only qz oz s)
    (pm0 : Part.of qz .cqu = true := by assumption)
    (pm1 : Part.of qz (.slot 6) = true := by first | assumption | exact of_slot (by assumption)) :
    Keeps (@execHold s) (Only qz oz) := by unfold execHold; simp (maxDischargeDepth := 99) +contextual [*]

@[simp ↓] theorem execTstLoopback_only {qz} {oz : State} (value : Word) (s : State) (hS : Only qz oz s)
    (pm0 : Part.of qz .nor = true := by assumption)
    (pm1 : Part.of qz (.slot 6) = true := by first | assumption | exact of_slot (by assumption)) :
    Keeps (@execTstLoopback value s) (Only qz oz) := by unfold execTstLoopback; (try dsimp only); (repeat' split) <;> simp (maxDischargeDepth := 99) +contextual [*]

@[simp ↓] theorem State.partnerLoop_only {qz} {oz : State} (s : State) (p : Port) (depth : Nat) (hS : Only qz oz s)
    (pm0 : Part.of qz .feA = true := by assumption) (pm1 : Part.of qz .feB = true := by assumption)
    (pm2 : Part.of qz .motion = true := by assumption) :
    Only qz oz (@State.partnerLoop s p depth) := by unfold State.partnerLoop; (try dsimp only); (repeat' split) <;> simp (maxDischargeDepth := 99) +contextual [*]

@[simp ↓] theorem execElkLoopback_only {qz} {oz : State} (port : Port) (value : Word) (s : State) (hS : Only qz oz s)
    (pm0 : Part.of qz .feA = true := by assumption) (pm1 : Part.of qz .feB = true := by assumption)
    (pm2 : Part.of qz .motion = true := by assumption)
    (pm3 : Part.of qz (.slot 22) = true := by first | assumption | exact of_slot (by assumption))
    (pm4 : Part.of qz (.slot 23) = true := by first | assumption | exact of_slot (by assumption)) :
    Keeps (@execElkLoopback port value s) (Only qz oz) := by unfold execElkLoopback; (try dsimp only); (repeat' split) <;> simp (maxDischargeDepth := 99) +contextual [*]

@[simp ↓] theorem execHptLoopback_only {qz} {oz : State} (value : Word) (s : State) (hS : Only qz oz s)
    (pm0 : Part.of qz .hpt = true := by assumption)
    (pm1 : Part.of qz (.slot 8) = true := by first | assumption | exact of_slot (by assumption)) :
    Keeps (@execHptLoopback value s) (Only qz oz) := by
  unfold execHptLoopback
  rw [Keeps_next]
  refine State.inMfg_only _ _ hS (fun t ht => ?_)
  split
  · exact ht
  · dsimp only
    (repeat' split) <;> simp (maxDischargeDepth := 99) [*]

@[simp ↓] theorem State.lbEnd_only {qz} {oz : State} (s : State) (p : Port) (errors : Nat) (hS : Only qz oz s)
    (pm0 : Part.of qz .linkA = true := by assumption) (pm1 : Part.of qz .linkB = true := by assumption)
    (pm2 : Part.of qz .linkZ = true := by assumption) (pm3 : Part.of qz .feA = true := by assumption)
    (pm4 : Part.of qz .feB = true := by assumption) (pm5 : Part.of qz .motion = true := by assumption)
    (pm6 : Part.of qz (.slot 22) = true := by first | assumption | exact of_slot (by assumption))
    (pm7 : Part.of qz (.slot 23) = true := by first | assumption | exact of_slot (by assumption)) :
    Only qz oz (@State.lbEnd s p errors) := by unfold State.lbEnd; simp (maxDischargeDepth := 99) [*]

/-! ### PowerRows -/

@[simp ↓] theorem State.issueDemand_only {qz} {oz : State} (s : State) (ps : Nat) (hS : Only qz oz s)
    (pm0 : Part.of qz .linkA = true := by assumption) (pm1 : Part.of qz .linkB = true := by assumption)
    (pm2 : Part.of qz .linkZ = true := by assumption) (pm3 : Part.of qz .spin = true := by assumption)
    (pm4 : Part.of qz .buf = true := by assumption)
    (pm5 : Part.of qz (.slot 0) = true := by first | assumption | exact of_slot (by assumption))
    (pm6 : Part.of qz (.slot 21) = true := by first | assumption | exact of_slot (by assumption)) :
    Only qz oz (@State.issueDemand s ps) := by unfold State.issueDemand; simp (maxDischargeDepth := 99) [*]

@[simp ↓] theorem State.gate_only {qz} {oz : State} (s : State) (slots : List Nat) (hS : Only qz oz s)
    (pm0 : Part.of qz .regs = true := by assumption) (pm1 : Part.of qz .start = true := by assumption)
    (pm2 : Part.of qz .linkA = true := by assumption) (pm3 : Part.of qz .linkB = true := by assumption)
    (pm4 : Part.of qz .linkZ = true := by assumption) (pm5 : Part.of qz .rep = true := by assumption)
    (pm6 : Part.of qz .spin = true := by assumption) (pm7 : Part.of qz .servoA = true := by assumption)
    (pm8 : Part.of qz .servoB = true := by assumption) (pm9 : Part.of qz .fsqs = true := by assumption)
    (pm10 : Part.of qz .rwcs = true := by assumption) (pm11 : Part.of qz .media = true := by assumption)
    (pm12 : Part.of qz .stripe = true := by assumption) (pm13 : Part.of qz .buf = true := by assumption)
    (pm14 : Part.of qz .dma = true := by assumption) (pm15 : Part.of qz .zmu = true := by assumption)
    (pm16 : Part.of qz .cqu = true := by assumption) (pm17 : Part.of qz .hpt = true := by assumption)
    (pm18 : Part.of qz .crd = true := by assumption) :
    Only qz oz (@State.gate s slots) := by unfold State.gate; simp (maxDischargeDepth := 99) +contextual [*]

@[simp ↓] theorem State.transStep_only {qz} {oz : State} (s : State) (hS : Only qz oz s)
    (pm0 : Part.of qz .power = true := by assumption) :
    Only qz oz (@State.transStep s) := by unfold State.transStep; (try dsimp only); (repeat' split) <;> simp (maxDischargeDepth := 99) +contextual [*]

@[simp ↓] theorem State.transEnd_only {qz} {oz : State} (s : State) (n : Nat) (hS : Only qz oz s)
    (pm0 : Part.of qz .power = true := by assumption)
    (pm1 : Part.of qz (.slot 0) = true := by first | assumption | exact of_slot (by assumption)) :
    Only qz oz (@State.transEnd s n) := by unfold State.transEnd; (try dsimp only); (repeat' split) <;> simp (maxDischargeDepth := 99) +contextual [*]

@[simp ↓] theorem State.enterStep_only {qz} {oz : State} (s : State) (n : Nat) (hS : Only qz oz s)
    (pm0 : Part.of qz .regs = true := by assumption) (pm1 : Part.of qz .start = true := by assumption)
    (pm2 : Part.of qz .linkA = true := by assumption) (pm3 : Part.of qz .linkB = true := by assumption)
    (pm4 : Part.of qz .linkZ = true := by assumption) (pm5 : Part.of qz .rep = true := by assumption)
    (pm6 : Part.of qz .spin = true := by assumption) (pm7 : Part.of qz .servoA = true := by assumption)
    (pm8 : Part.of qz .servoB = true := by assumption) (pm9 : Part.of qz .fsqs = true := by assumption)
    (pm10 : Part.of qz .rwcs = true := by assumption) (pm11 : Part.of qz .media = true := by assumption)
    (pm12 : Part.of qz .stripe = true := by assumption) (pm13 : Part.of qz .chest = true := by assumption)
    (pm14 : Part.of qz .core = true := by assumption) (pm15 : Part.of qz .buf = true := by assumption)
    (pm16 : Part.of qz .dma = true := by assumption) (pm17 : Part.of qz .zmu = true := by assumption)
    (pm18 : Part.of qz .cqu = true := by assumption) (pm19 : Part.of qz .hpt = true := by assumption)
    (pm20 : Part.of qz .power = true := by assumption) (pm21 : Part.of qz .crd = true := by assumption)
    (pm22 : Part.of qz .freeCount = true := by assumption) :
    Only qz oz (@State.enterStep s n) := by unfold State.enterStep; (try dsimp only); (repeat' split) <;> simp (maxDischargeDepth := 99) +contextual [*]

@[simp ↓] theorem State.wakeLink_only {qz} {oz : State} (s : State) (x : Act) (hS : Only qz oz s)
    (pm0 : Part.of qz .linkA = true := by assumption) (pm1 : Part.of qz .linkB = true := by assumption)
    (pm2 : Part.of qz .linkZ = true := by assumption) (pm3 : Part.of qz .feA = true := by assumption)
    (pm4 : Part.of qz .feB = true := by assumption)
    (pm5 : Part.of qz (.slot 22) = true := by first | assumption | exact of_slot (by assumption))
    (pm6 : Part.of qz (.slot 23) = true := by first | assumption | exact of_slot (by assumption)) :
    Only qz oz (@State.wakeLink s x) := by unfold State.wakeLink; simp (maxDischargeDepth := 99) [*]

@[simp ↓] theorem State.exitStep_only {qz} {oz : State} (s : State) (hS : Only qz oz s)
    (pm0 : Part.of qz .linkA = true := by assumption) (pm1 : Part.of qz .linkB = true := by assumption)
    (pm2 : Part.of qz .linkZ = true := by assumption) (pm3 : Part.of qz .feA = true := by assumption)
    (pm4 : Part.of qz .feB = true := by assumption) (pm5 : Part.of qz .spin = true := by assumption)
    (pm6 : Part.of qz .chest = true := by assumption) (pm7 : Part.of qz .buf = true := by assumption)
    (pm8 : Part.of qz .cqu = true := by assumption) (pm9 : Part.of qz .power = true := by assumption)
    (pm10 : Part.of qz .bur = true := by assumption)
    (pm11 : Part.of qz (.slot 0) = true := by first | assumption | exact of_slot (by assumption))
    (pm12 : Part.of qz (.slot 9) = true := by first | assumption | exact of_slot (by assumption))
    (pm13 : Part.of qz (.slot 21) = true := by first | assumption | exact of_slot (by assumption))
    (pm14 : Part.of qz (.slot 22) = true := by first | assumption | exact of_slot (by assumption))
    (pm15 : Part.of qz (.slot 23) = true := by first | assumption | exact of_slot (by assumption)) :
    Only qz oz (@State.exitStep s) := by unfold State.exitStep; (try dsimp only); (repeat' split) <;> simp (maxDischargeDepth := 99) +contextual [*]

@[simp ↓] theorem State.toLevel_only {qz} {oz : State} (s : State) (n : Nat) (hS : Only qz oz s)
    (pm0 : Part.of qz .regs = true := by assumption) (pm1 : Part.of qz .start = true := by assumption)
    (pm2 : Part.of qz .linkA = true := by assumption) (pm3 : Part.of qz .linkB = true := by assumption)
    (pm4 : Part.of qz .linkZ = true := by assumption) (pm5 : Part.of qz .rep = true := by assumption)
    (pm6 : Part.of qz .spin = true := by assumption) (pm7 : Part.of qz .servoA = true := by assumption)
    (pm8 : Part.of qz .servoB = true := by assumption) (pm9 : Part.of qz .fsqs = true := by assumption)
    (pm10 : Part.of qz .rwcs = true := by assumption) (pm11 : Part.of qz .media = true := by assumption)
    (pm12 : Part.of qz .stripe = true := by assumption) (pm13 : Part.of qz .buf = true := by assumption)
    (pm14 : Part.of qz .dma = true := by assumption) (pm15 : Part.of qz .zmu = true := by assumption)
    (pm16 : Part.of qz .cqu = true := by assumption) (pm17 : Part.of qz .hpt = true := by assumption)
    (pm18 : Part.of qz .crd = true := by assumption) (pm19 : Part.of qz .freeCount = true := by assumption) :
    Only qz oz (@State.toLevel s n) := by unfold State.toLevel; simp (maxDischargeDepth := 99) [*]

/-! ### Aperture -/

@[simp ↓] theorem State.via_only {qz} {oz : State} (s : State) (o : Host.Outcome State Fault Refusal) (hS : Only qz oz s)
    (ho : Keeps o (Only qz oz)) :
    Only qz oz (@State.via s o) := by
  unfold State.via
  split
  · exact ho _ rfl
  · exact hS

@[simp ↓] theorem State.apRead_only {qz} {oz : State} (s : State) (slot : Nat) (off : Nat) (hS : Only qz oz s)
    (pm0 : Part.of qz .regs = true := by assumption) :
    Only qz oz (@State.apRead s slot off).2 := by unfold State.apRead; (try dsimp only); (repeat' split) <;> simp (maxDischargeDepth := 99) +contextual [*]

@[simp ↓] theorem State.crdCtrl_only {qz} {oz : State} (s : State) (w : Word) (hS : Only qz oz s)
    (pm0 : Part.of qz .chest = true := by assumption) (pm1 : Part.of qz .crd = true := by assumption)
    (pm2 : Part.of qz (.slot 4) = true := by first | assumption | exact of_slot (by assumption)) :
    Only qz oz (@State.crdCtrl s w) := by unfold State.crdCtrl; (try dsimp only); (repeat' split) <;> simp (maxDischargeDepth := 99) +contextual [*]

@[simp ↓] theorem State.fuseGo_only {qz} {oz : State} (s : State) (w : Word) (hS : Only qz oz s)
    (pm0 : Part.of qz (.slot 6) = true := by first | assumption | exact of_slot (by assumption)) :
    Only qz oz (@State.fuseGo s w) := by unfold State.fuseGo; (try dsimp only); (repeat' split) <;> simp (maxDischargeDepth := 99) +contextual [*]

@[simp ↓] theorem State.scrubCtrl_only {qz} {oz : State} (s : State) (w : Word) (hS : Only qz oz s)
    (pm0 : Part.of qz .buf = true := by assumption) :
    Only qz oz (@State.scrubCtrl s w) := by unfold State.scrubCtrl; (try dsimp only); (repeat' split) <;> simp (maxDischargeDepth := 99) +contextual [*]

@[simp ↓] theorem State.zmuCtrl_only {qz} {oz : State} (s : State) (w : Word) (hS : Only qz oz s)
    (pm0 : Part.of qz .zmu = true := by assumption)
    (pm1 : Part.of qz (.slot 10) = true := by first | assumption | exact of_slot (by assumption)) :
    Only qz oz (@State.zmuCtrl s w) := by unfold State.zmuCtrl; (try dsimp only); (repeat' split) <;> simp (maxDischargeDepth := 99) +contextual [*]

@[simp ↓] theorem State.ringCfg_only {qz} {oz : State} (s : State) (n : Fin 64) (w : Word) (hS : Only qz oz s)
    (pm0 : Part.of qz .buf = true := by assumption) (pm1 : Part.of qz .dma = true := by assumption)
    (pm2 : Part.of qz .cqu = true := by assumption) (pm3 : Part.of qz .hpt = true := by assumption)
    (pm4 : Part.of qz .crd = true := by assumption) (pm5 : Part.of qz .freeCount = true := by assumption)
    (pm6 : Part.of qz (.slot 8) = true := by first | assumption | exact of_slot (by assumption))
    (pm7 : Part.of qz (.slot 9) = true := by first | assumption | exact of_slot (by assumption))
    (pm8 : Part.of qz (.slot 12) = true := by first | assumption | exact of_slot (by assumption))
    (pm9 : Part.of qz (.slot 13) = true := by first | assumption | exact of_slot (by assumption)) :
    Only qz oz (@State.ringCfg s n w) := by unfold State.ringCfg; (try dsimp only); (repeat' split) <;> simp (maxDischargeDepth := 99) +contextual [*]

@[simp ↓] theorem State.chainWord_only {qz} {oz : State} (s : State) (off : Nat) (w : Word) (hS : Only qz oz s)
    (pm0 : Part.of qz .bur = true := by assumption) :
    Only qz oz (@State.chainWord s off w) := by unfold State.chainWord; simp (maxDischargeDepth := 99) [*]

@[simp ↓] theorem State.digestWord_only {qz} {oz : State} (s : State) (off : Nat) (w : Word) (hS : Only qz oz s)
    (pm0 : Part.of qz .tst = true := by assumption) :
    Only qz oz (@State.digestWord s off w) := by unfold State.digestWord; simp (maxDischargeDepth := 99) [*]

@[simp ↓] theorem State.setNvme_only {qz} {oz : State} (s : State) (m : NvmeRegs) (hS : Only qz oz s)
    (pm0 : Part.of qz .cqu = true := by assumption) :
    Only qz oz (@State.setNvme s m) := by unfold State.setNvme; simp (maxDischargeDepth := 99) [*]

@[simp ↓] theorem State.apWrite_only {qz} {oz : State} (s : State) (slot : Nat) (off : Nat) (w : Word) (hS : Only qz oz s)
    (pm0 : Part.of qz .regs = true := by assumption) (pm1 : Part.of qz .start = true := by assumption)
    (pm2 : Part.of qz .nor = true := by assumption) (pm3 : Part.of qz .feA = true := by assumption)
    (pm4 : Part.of qz .feB = true := by assumption) (pm5 : Part.of qz .motion = true := by assumption)
    (pm6 : Part.of qz .chest = true := by assumption) (pm7 : Part.of qz .buf = true := by assumption)
    (pm8 : Part.of qz .dma = true := by assumption) (pm9 : Part.of qz .zmu = true := by assumption)
    (pm10 : Part.of qz .cqu = true := by assumption) (pm11 : Part.of qz .hpt = true := by assumption)
    (pm12 : Part.of qz .bur = true := by assumption) (pm13 : Part.of qz .crd = true := by assumption)
    (pm14 : Part.of qz .tst = true := by assumption) (pm15 : Part.of qz .freeCount = true := by assumption) :
    Only qz oz (@State.apWrite s slot off w) := by
  unfold State.apWrite
  repeat' (with_reducible refine (only_ite _ _).2 ⟨fun _ => ?_, fun _ => ?_⟩)
  all_goals first
    | with_reducible exact hS
    | with_reducible exact State.via_only _ _ hS (execBlkRst_only _ _ hS)
    | with_reducible exact State.via_only _ _ hS (execHold_only _ hS)
    | with_reducible exact State.via_only _ _ hS (execTstLoopback_only _ _ hS)
    | with_reducible exact State.via_only _ _ hS (execHptLoopback_only _ _ hS)
    | with_reducible exact State.via_only _ _ hS (execPreload_only _ _ hS)
    | with_reducible exact State.via_only _ _ hS (execUnlock_only _ _ hS)
    | with_reducible exact State.via_only _ _ hS (execFlipArm_only _ _ hS)
    | with_reducible exact State.via_only _ _ hS (execElkLoopback_only _ _ _ hS)
    | with_reducible exact State.crdCtrl_only _ _ hS
    | with_reducible exact State.fuseGo_only _ _ hS
    | with_reducible exact State.zmuCtrl_only _ _ hS
    | with_reducible exact State.scrubCtrl_only _ _ hS
    | with_reducible exact State.ringCfg_only _ _ _ hS
    | with_reducible exact State.writeMasked_only _ _ _ _ hS (of_slot (by assumption))
    | with_reducible exact State.chainWord_only _ _ _ hS
    | with_reducible exact State.digestWord_only _ _ _ hS

@[simp ↓] theorem State.aperture_only {qz} {oz : State} (s : State) (off : Nat) (size : Nat) (value : Option Word)
    (hS : Only qz oz s) (pm0 : Part.of qz .regs = true := by assumption) (pm1 : Part.of qz .start = true := by assumption)
    (pm2 : Part.of qz .nor = true := by assumption) (pm3 : Part.of qz .feA = true := by assumption)
    (pm4 : Part.of qz .feB = true := by assumption) (pm5 : Part.of qz .motion = true := by assumption)
    (pm6 : Part.of qz .chest = true := by assumption) (pm7 : Part.of qz .buf = true := by assumption)
    (pm8 : Part.of qz .dma = true := by assumption) (pm9 : Part.of qz .zmu = true := by assumption)
    (pm10 : Part.of qz .cqu = true := by assumption) (pm11 : Part.of qz .hpt = true := by assumption)
    (pm12 : Part.of qz .bur = true := by assumption) (pm13 : Part.of qz .crd = true := by assumption)
    (pm14 : Part.of qz .tst = true := by assumption) (pm15 : Part.of qz .freeCount = true := by assumption) :
    Only qz oz (@State.aperture s off size value) := by unfold State.aperture; (try dsimp only); (repeat' split) <;> simp (maxDischargeDepth := 99) +contextual [*]

@[simp ↓] theorem State.msixFlush_only {qz} {oz : State} (s : State) (hS : Only qz oz s)
    (pm0 : Part.of qz .hpt = true := by assumption)
    (pm1 : Part.of qz (.slot 8) = true := by first | assumption | exact of_slot (by assumption)) :
    Only qz oz (@State.msixFlush s) := by
  unfold State.msixFlush
  try dsimp only
  repeat' (first | (simp (maxDischargeDepth := 99) +contextual [*]; done) | refine foldl_only _ _ (fun t b ht => ?_) ?_ | split)
  all_goals simp_all (maxDischargeDepth := 99) +contextual

@[simp ↓] theorem State.msixWrite_only {qz} {oz : State} (s : State) (off : Nat) (w : Word) (hS : Only qz oz s)
    (pm0 : Part.of qz .hpt = true := by assumption)
    (pm1 : Part.of qz (.slot 8) = true := by first | assumption | exact of_slot (by assumption)) :
    Only qz oz (@State.msixWrite s off w) := by unfold State.msixWrite; simp (maxDischargeDepth := 99) [*]

@[simp ↓] theorem State.ccWrite_only {qz} {oz : State} (s : State) (w : Word) (hS : Only qz oz s)
    (pm0 : Part.of qz .stripe = true := by assumption) (pm1 : Part.of qz .chest = true := by assumption)
    (pm2 : Part.of qz .core = true := by assumption) (pm3 : Part.of qz .buf = true := by assumption)
    (pm4 : Part.of qz .dma = true := by assumption) (pm5 : Part.of qz .zmu = true := by assumption)
    (pm6 : Part.of qz .cqu = true := by assumption) (pm7 : Part.of qz .hpt = true := by assumption)
    (pm8 : Part.of qz .crd = true := by assumption) (pm9 : Part.of qz .freeCount = true := by assumption)
    (pm10 : Part.of qz (.slot 0) = true := by first | assumption | exact of_slot (by assumption))
    (pm11 : Part.of qz (.slot 4) = true := by first | assumption | exact of_slot (by assumption))
    (pm12 : Part.of qz (.slot 8) = true := by first | assumption | exact of_slot (by assumption))
    (pm13 : Part.of qz (.slot 13) = true := by first | assumption | exact of_slot (by assumption))
    (pm14 : Part.of qz (.slot 24) = true := by first | assumption | exact of_slot (by assumption)) :
    Only qz oz (@State.ccWrite s w) := by unfold State.ccWrite; (try dsimp only); (repeat' split) <;> simp (maxDischargeDepth := 99) +contextual [*]

@[simp ↓] theorem State.bar0Write_only {qz} {oz : State} (s : State) (off : Nat) (w : Word) (hS : Only qz oz s)
    (pm0 : Part.of qz .regs = true := by assumption) (pm1 : Part.of qz .pins = true := by assumption)
    (pm2 : Part.of qz .start = true := by assumption) (pm3 : Part.of qz .cfg = true := by assumption)
    (pm4 : Part.of qz .plat = true := by assumption) (pm5 : Part.of qz .opt = true := by assumption)
    (pm6 : Part.of qz .fw = true := by assumption) (pm7 : Part.of qz .patches = true := by assumption)
    (pm8 : Part.of qz .nor = true := by assumption) (pm9 : Part.of qz .ident = true := by assumption)
    (pm10 : Part.of qz .linkA = true := by assumption) (pm11 : Part.of qz .linkB = true := by assumption)
    (pm12 : Part.of qz .linkZ = true := by assumption) (pm13 : Part.of qz .feA = true := by assumption)
    (pm14 : Part.of qz .feB = true := by assumption) (pm15 : Part.of qz .motion = true := by assumption)
    (pm16 : Part.of qz .rep = true := by assumption) (pm17 : Part.of qz .spin = true := by assumption)
    (pm18 : Part.of qz .servoA = true := by assumption) (pm19 : Part.of qz .servoB = true := by assumption)
    (pm20 : Part.of qz .tables = true := by assumption) (pm21 : Part.of qz .fsqs = true := by assumption)
    (pm22 : Part.of qz .rwcs = true := by assumption) (pm23 : Part.of qz .media = true := by assumption)
    (pm24 : Part.of qz .stripe = true := by assumption) (pm25 : Part.of qz .chest = true := by assumption)
    (pm26 : Part.of qz .core = true := by assumption) (pm27 : Part.of qz .buf = true := by assumption)
    (pm28 : Part.of qz .dma = true := by assumption) (pm29 : Part.of qz .zmu = true := by assumption)
    (pm30 : Part.of qz .cqu = true := by assumption) (pm31 : Part.of qz .hpt = true := by assumption)
    (pm32 : Part.of qz .power = true := by assumption) (pm33 : Part.of qz .bur = true := by assumption)
    (pm34 : Part.of qz .crd = true := by assumption) (pm35 : Part.of qz .tst = true := by assumption)
    (pm36 : Part.of qz .freeCount = true := by assumption) :
    Only qz oz (@State.bar0Write s off w) := by
  unfold State.bar0Write
  dsimp only
  repeat' (with_reducible refine (only_ite _ _).2 ⟨fun _ => ?_, fun _ => ?_⟩)
  all_goals first
    | with_reducible exact hS
    | with_reducible exact State.via_only _ _ hS (execIntms_only _ _ hS)
    | with_reducible exact State.via_only _ _ hS (execIntmc_only _ _ hS)
    | with_reducible exact State.via_only _ _ hS (execNssr_only _ _ hS)
    | with_reducible exact State.via_only _ _ hS (execSqTailDoorbell_only _ _ _ hS)
    | with_reducible exact State.via_only _ _ hS (execCqHeadDoorbell_only _ _ _ hS)
    | with_reducible exact State.ccWrite_only _ _ hS
    | with_reducible exact State.msixWrite_only _ _ _ hS
    | with_reducible exact State.setNvme_only _ _ hS

@[simp ↓] theorem State.aerClear_only {qz} {oz : State} (s : State) (uncor : Bool) (w : Word) (hS : Only qz oz s)
    (pm0 : Part.of qz .hpt = true := by assumption) :
    Only qz oz (@State.aerClear s uncor w) := by unfold State.aerClear; simp (maxDischargeDepth := 99) [*]

@[simp ↓] theorem State.doePop_only {qz} {oz : State} (s : State) (hS : Only qz oz s)
    (pm0 : Part.of qz .hpt = true := by assumption) :
    Only qz oz (@State.doePop s) := by unfold State.doePop; (try dsimp only); (repeat' split) <;> simp (maxDischargeDepth := 99) +contextual [*]

@[simp ↓] theorem State.cfgWrite_only {qz} {oz : State} (s : State) (off : Nat) (w : Word) (hS : Only qz oz s)
    (pm0 : Part.of qz .hpt = true := by assumption)
    (pm1 : Part.of qz (.slot 8) = true := by first | assumption | exact of_slot (by assumption)) :
    Only qz oz (@State.cfgWrite s off w) := by unfold State.cfgWrite; simp (maxDischargeDepth := 99) [*]

/-! ### Firmware -/

@[simp ↓] theorem State.norWrite_only {qz} {oz : State} (s : State) (fw : Bool) (b : Bytes) (backFallback : Bool)
    (backPrimary : Bool) (hS : Only qz oz s) (pm0 : Part.of qz .nor = true := by assumption) :
    Only qz oz (@State.norWrite s fw b backFallback backPrimary) := by unfold State.norWrite; simp (maxDischargeDepth := 99) [*]

/-! ### Start -/

@[simp ↓] theorem State.releaseBlocks_only {qz} {oz : State} (s : State) (hS : Only qz oz s)
    (pm0 : Part.of qz .start = true := by assumption) :
    Only qz oz (@State.releaseBlocks s) := by unfold State.releaseBlocks; simp (maxDischargeDepth := 99) [*]

@[simp ↓] theorem State.enterP3_only {qz} {oz : State} (s : State) (hS : Only qz oz s)
    (pm0 : Part.of qz .start = true := by assumption)
    (pm1 : Part.of qz (.slot 1) = true := by first | assumption | exact of_slot (by assumption))
    (pm2 : Part.of qz (.slot 2) = true := by first | assumption | exact of_slot (by assumption)) :
    Only qz oz (@State.enterP3 s) := by unfold State.enterP3; simp (maxDischargeDepth := 99) [*]

@[simp ↓] theorem State.p2Step_only {qz} {oz : State} (s : State) (hS : Only qz oz s)
    (pm0 : Part.of qz .start = true := by assumption)
    (pm1 : Part.of qz (.slot 1) = true := by first | assumption | exact of_slot (by assumption))
    (pm2 : Part.of qz (.slot 2) = true := by first | assumption | exact of_slot (by assumption)) :
    Only qz oz (@State.p2Step s) := by unfold State.p2Step; simp (maxDischargeDepth := 99) [*]

@[simp ↓] theorem State.loadOption_only {qz} {oz : State} (s : State) (c : OptCfg) (hS : Only qz oz s)
    (pm0 : Part.of qz .cfg = true := by assumption) (pm1 : Part.of qz .plat = true := by assumption)
    (pm2 : Part.of qz .cqu = true := by assumption)
    (pm3 : Part.of qz (.slot 0) = true := by first | assumption | exact of_slot (by assumption))
    (pm4 : Part.of qz (.slot 8) = true := by first | assumption | exact of_slot (by assumption))
    (pm5 : Part.of qz (.slot 11) = true := by first | assumption | exact of_slot (by assumption))
    (pm6 : Part.of qz (.slot 12) = true := by first | assumption | exact of_slot (by assumption))
    (pm7 : Part.of qz (.slot 14) = true := by first | assumption | exact of_slot (by assumption))
    (pm8 : Part.of qz (.slot 16) = true := by first | assumption | exact of_slot (by assumption))
    (pm9 : Part.of qz (.slot 18) = true := by first | assumption | exact of_slot (by assumption))
    (pm10 : Part.of qz (.slot 20) = true := by first | assumption | exact of_slot (by assumption)) :
    Only qz oz (@State.loadOption s c) := by unfold State.loadOption; simp (maxDischargeDepth := 99) +contextual [*]

@[simp ↓] theorem State.endP3_only {qz} {oz : State} (s : State) (hS : Only qz oz s)
    (pm0 : Part.of qz .start = true := by assumption)
    (pm1 : Part.of qz (.slot 1) = true := by first | assumption | exact of_slot (by assumption))
    (pm2 : Part.of qz (.slot 2) = true := by first | assumption | exact of_slot (by assumption)) :
    Only qz oz (@State.endP3 s) := by unfold State.endP3; simp (maxDischargeDepth := 99) [*]

@[simp ↓] theorem rowMapped_only {qz} {oz : State} (a : State × Bool) (r : Nat × Nat) (hS : Only qz oz a.1)
    (pm0 : Part.of qz .buf = true := by assumption) :
    Only qz oz (@rowMapped a r).1 := by unfold rowMapped; (try dsimp only); (repeat' split) <;> simp (maxDischargeDepth := 99) +contextual [*]

@[simp ↓] theorem State.countBoot_only {qz} {oz : State} (s : State) (a : ChestAccess) (hS : Only qz oz s)
    (pm0 : Part.of qz .chest = true := by assumption) (pm1 : Part.of qz .cqu = true := by assumption)
    (pm2 : Part.of qz .bur = true := by assumption)
    (pm3 : Part.of qz (.slot 3) = true := by first | assumption | exact of_slot (by assumption))
    (pm4 : Part.of qz (.slot 9) = true := by first | assumption | exact of_slot (by assumption)) :
    Only qz oz (@State.countBoot s a) := by unfold State.countBoot; simp (maxDischargeDepth := 99) [*]

@[simp ↓] theorem State.measureP5_only {qz} {oz : State} (s : State) (hS : Only qz oz s)
    (pm0 : Part.of qz .bur = true := by assumption)
    (pm1 : Part.of qz (.slot 3) = true := by first | assumption | exact of_slot (by assumption)) :
    Only qz oz (@State.measureP5 s) := by unfold State.measureP5; (try dsimp only); (repeat' split) <;> simp (maxDischargeDepth := 99) +contextual [*]

@[simp ↓] theorem State.setRdy_only {qz} {oz : State} (s : State) (hS : Only qz oz s)
    (pm0 : Part.of qz .cqu = true := by assumption) :
    Only qz oz (@State.setRdy s) := by unfold State.setRdy; (try dsimp only); (repeat' split) <;> simp (maxDischargeDepth := 99) +contextual [*]

/-! ### Discovery -/

@[simp ↓] theorem State.measureP7_only {qz} {oz : State} (s : State) (hS : Only qz oz s)
    (pm0 : Part.of qz .bur = true := by assumption)
    (pm1 : Part.of qz (.slot 3) = true := by first | assumption | exact of_slot (by assumption)) :
    Only qz oz (@State.measureP7 s) := by unfold State.measureP7; simp (maxDischargeDepth := 99) [*]

@[simp ↓] theorem State.p7Step_only {qz} {oz : State} (s : State) (hS : Only qz oz s)
    (pm0 : Part.of qz .linkA = true := by assumption) (pm1 : Part.of qz .linkB = true := by assumption)
    (pm2 : Part.of qz .linkZ = true := by assumption) (pm3 : Part.of qz .spin = true := by assumption)
    (pm4 : Part.of qz .cqu = true := by assumption) (pm5 : Part.of qz .bur = true := by assumption)
    (pm6 : Part.of qz (.slot 1) = true := by first | assumption | exact of_slot (by assumption))
    (pm7 : Part.of qz (.slot 3) = true := by first | assumption | exact of_slot (by assumption))
    (pm8 : Part.of qz (.slot 9) = true := by first | assumption | exact of_slot (by assumption))
    (pm9 : Part.of qz (.slot 21) = true := by first | assumption | exact of_slot (by assumption)) :
    Only qz oz (@State.p7Step s) := by unfold State.p7Step; simp (maxDischargeDepth := 99) [*]

@[simp ↓] theorem State.idEnd_only {qz} {oz : State} (s : State) (m : IdMem) (v : Item) (hS : Only qz oz s)
    (pm0 : Part.of qz .start = true := by assumption) (pm1 : Part.of qz .linkA = true := by assumption)
    (pm2 : Part.of qz .linkB = true := by assumption) (pm3 : Part.of qz .linkZ = true := by assumption)
    (pm4 : Part.of qz .spin = true := by assumption) (pm5 : Part.of qz .cqu = true := by assumption)
    (pm6 : Part.of qz .bur = true := by assumption)
    (pm7 : Part.of qz (.slot 1) = true := by first | assumption | exact of_slot (by assumption))
    (pm8 : Part.of qz (.slot 3) = true := by first | assumption | exact of_slot (by assumption))
    (pm9 : Part.of qz (.slot 9) = true := by first | assumption | exact of_slot (by assumption))
    (pm10 : Part.of qz (.slot 21) = true := by first | assumption | exact of_slot (by assumption))
    (pm11 : Part.of qz (.slot 22) = true := by first | assumption | exact of_slot (by assumption))
    (pm12 : Part.of qz (.slot 23) = true := by first | assumption | exact of_slot (by assumption)) :
    Only qz oz (@State.idEnd s m v) := by unfold State.idEnd; (try dsimp only); (repeat' split) <;> simp (maxDischargeDepth := 99) +contextual [*]

@[simp ↓] theorem State.idFailed_only {qz} {oz : State} (s : State) (m : IdMem) (hS : Only qz oz s)
    (pm0 : Part.of qz .start = true := by assumption) (pm1 : Part.of qz .linkA = true := by assumption)
    (pm2 : Part.of qz .linkB = true := by assumption) (pm3 : Part.of qz .linkZ = true := by assumption)
    (pm4 : Part.of qz .spin = true := by assumption) (pm5 : Part.of qz .cqu = true := by assumption)
    (pm6 : Part.of qz .bur = true := by assumption)
    (pm7 : Part.of qz (.slot 1) = true := by first | assumption | exact of_slot (by assumption))
    (pm8 : Part.of qz (.slot 3) = true := by first | assumption | exact of_slot (by assumption))
    (pm9 : Part.of qz (.slot 9) = true := by first | assumption | exact of_slot (by assumption))
    (pm10 : Part.of qz (.slot 21) = true := by first | assumption | exact of_slot (by assumption))
    (pm11 : Part.of qz (.slot 22) = true := by first | assumption | exact of_slot (by assumption))
    (pm12 : Part.of qz (.slot 23) = true := by first | assumption | exact of_slot (by assumption)) :
    Only qz oz (@State.idFailed s m) := by unfold State.idFailed; (try dsimp only); (repeat' split) <;> simp (maxDischargeDepth := 99) +contextual [*]

@[simp ↓] theorem State.factoryRetired_only {qz} {oz : State} (s : State) (a : Nat) (l : List HeadRec) (hS : Only qz oz s)
    (pm0 : Part.of qz .start = true := by assumption) (pm1 : Part.of qz .media = true := by assumption)
    (pm2 : Part.of qz .stripe = true := by assumption) (pm3 : Part.of qz .cqu = true := by assumption)
    (pm4 : Part.of qz .crd = true := by assumption)
    (pm5 : Part.of qz (.slot 1) = true := by first | assumption | exact of_slot (by assumption))
    (pm6 : Part.of qz (.slot 9) = true := by first | assumption | exact of_slot (by assumption)) :
    Only qz oz (@State.factoryRetired s a l) := by unfold State.factoryRetired; simp (maxDischargeDepth := 99) +contextual [*]

@[simp ↓] theorem State.hsaCheck_only {qz} {oz : State} (s : State) (a : Nat) (h : HsaIdent) (hS : Only qz oz s)
    (pm0 : Part.of qz .start = true := by assumption) (pm1 : Part.of qz .media = true := by assumption)
    (pm2 : Part.of qz .stripe = true := by assumption) (pm3 : Part.of qz .cqu = true := by assumption)
    (pm4 : Part.of qz .crd = true := by assumption)
    (pm5 : Part.of qz (.slot 1) = true := by first | assumption | exact of_slot (by assumption))
    (pm6 : Part.of qz (.slot 9) = true := by first | assumption | exact of_slot (by assumption)) :
    Only qz oz (@State.hsaCheck s a h).1 := by unfold State.hsaCheck; simp (maxDischargeDepth := 99) [*]

/-! ### Restore -/

@[simp ↓] theorem State.remaps_only {qz} {oz : State} (s : State) (c : CredSlot) (hS : Only qz oz s)
    (pm0 : Part.of qz .buf = true := by assumption) :
    Only qz oz (@State.remaps s c) := by unfold State.remaps; simp (maxDischargeDepth := 99) [*]

@[simp ↓] theorem State.credLoad_only {qz} {oz : State} (s : State) (hS : Only qz oz s)
    (pm0 : Part.of qz .buf = true := by assumption) (pm1 : Part.of qz .crd = true := by assumption)
    (pm2 : Part.of qz (.slot 4) = true := by first | assumption | exact of_slot (by assumption)) :
    Only qz oz (@State.credLoad s) := by unfold State.credLoad; (try dsimp only); (repeat' split) <;> simp (maxDischargeDepth := 99) +contextual [*]

@[simp ↓] theorem State.countSaves_only {qz} {oz : State} (s : State) (hS : Only qz oz s)
    (pm0 : Part.of qz .buf = true := by assumption) (pm1 : Part.of qz .cqu = true := by assumption)
    (pm2 : Part.of qz .crd = true := by assumption)
    (pm3 : Part.of qz (.slot 9) = true := by first | assumption | exact of_slot (by assumption)) :
    Only qz oz (@State.countSaves s) := by unfold State.countSaves; simp (maxDischargeDepth := 99) [*]

@[simp ↓] theorem State.replayJournal_only {qz} {oz : State} (s : State) (bandA : Option Nat) (bandB : Option Nat)
    (hS : Only qz oz s) (pm0 : Part.of qz .stripe = true := by assumption)
    (pm1 : Part.of qz (.slot 14) = true := by first | assumption | exact of_slot (by assumption)) :
    Only qz oz (@State.replayJournal s bandA bandB).2 := by unfold State.replayJournal; simp (maxDischargeDepth := 99) [*]

@[simp ↓] theorem State.quietly_only {qz} {oz : State} (s : State) (f : State → State) (hS : Only qz oz s)
    (hf : ∀ t, Only qz oz t → Only qz oz (f t)) (pm0 : Part.of qz .stripe = true := by assumption) :
    Only qz oz (@State.quietly s f) := by
  unfold State.quietly
  have h := hf _ hS
  exact ⟨hS.regs, h.pins, h.start, h.cfg, h.plat, h.opt, h.fw, h.patches, h.fuses, h.nor, h.ident, h.linkA, h.linkB, h.linkZ, h.feA, h.feB, h.motion, h.rep, h.spin, h.servoA, h.servoB, h.tables, h.fsqs, h.rwcs, h.media, h.defects, fun e => absurd pm0 (by rw [e]; exact Bool.false_ne_true), h.chest, h.core, h.buf, h.dma, h.zmu, hS.cqu, h.hpt, h.power, h.bur, hS.crd, h.tst, h.freeCount, h.pending⟩

@[simp ↓] theorem State.applyEntry_only {qz} {oz : State} (s : State) (a1 : JEntry) (hS : Only qz oz s)
    (pm0 : Part.of qz .stripe = true := by assumption) (pm1 : Part.of qz .zmu = true := by assumption)
    (pm2 : Part.of qz .cqu = true := by assumption) (pm3 : Part.of qz .crd = true := by assumption)
    (pm4 : Part.of qz (.slot 9) = true := by first | assumption | exact of_slot (by assumption))
    (pm5 : Part.of qz (.slot 14) = true := by first | assumption | exact of_slot (by assumption)) :
    Only qz oz (@State.applyEntry s a1) := by unfold State.applyEntry; (try dsimp only); (repeat' split) <;> simp (maxDischargeDepth := 99) +contextual [*]

@[simp ↓] theorem State.mapRead_only {qz} {oz : State} (s : State) (hS : Only qz oz s)
    (pm0 : Part.of qz .stripe = true := by assumption) (pm1 : Part.of qz .zmu = true := by assumption) :
    Only qz oz (@State.mapRead s) := by unfold State.mapRead; simp (maxDischargeDepth := 99) +contextual [*]

@[simp ↓] theorem State.ringAgain_only {qz} {oz : State} (s : State) (hS : Only qz oz s)
    (pm0 : Part.of qz .zmu = true := by assumption) :
    Only qz oz (@State.ringAgain s) := by unfold State.ringAgain; simp (maxDischargeDepth := 99) [*]

@[simp ↓] theorem State.mapOfRecord_only {qz} {oz : State} (s : State) (p : Progress) (es : List (Nat × JEntry))
    (hS : Only qz oz s) (pm0 : Part.of qz .stripe = true := by assumption) (pm1 : Part.of qz .zmu = true := by assumption)
    (pm2 : Part.of qz .cqu = true := by assumption) (pm3 : Part.of qz .bur = true := by assumption)
    (pm4 : Part.of qz .crd = true := by assumption)
    (pm5 : Part.of qz (.slot 9) = true := by first | assumption | exact of_slot (by assumption))
    (pm6 : Part.of qz (.slot 14) = true := by first | assumption | exact of_slot (by assumption)) :
    Only qz oz (@State.mapOfRecord s p es) := by unfold State.mapOfRecord; (try dsimp only); (repeat' split) <;> simp (maxDischargeDepth := 99) +contextual [*]

@[simp ↓] theorem State.requeueMoves_only {qz} {oz : State} (s : State) (hS : Only qz oz s)
    (pm0 : Part.of qz .stripe = true := by assumption) :
    Only qz oz (@State.requeueMoves s) := by unfold State.requeueMoves; simp (maxDischargeDepth := 99) +contextual [*]

@[simp ↓] theorem State.bandSurfaces_only {qz} {oz : State} (s : State) (hS : Only qz oz s)
    (pm0 : Part.of qz .stripe = true := by assumption)
    (pm1 : Part.of qz (.slot 14) = true := by first | assumption | exact of_slot (by assumption)) :
    Only qz oz (@State.bandSurfaces s) := by unfold State.bandSurfaces; (try dsimp only); (repeat' split) <;> simp (maxDischargeDepth := 99) +contextual [*]

@[simp ↓] theorem State.linesBack_only {qz} {oz : State} (s : State) (es : List (Nat × JEntry)) (hS : Only qz oz s)
    (pm0 : Part.of qz .stripe = true := by assumption) (pm1 : Part.of qz .buf = true := by assumption)
    (pm2 : Part.of qz .cqu = true := by assumption) :
    Only qz oz (@State.linesBack s es) := by unfold State.linesBack; simp (maxDischargeDepth := 99) +contextual [*]

@[simp ↓] theorem State.slotNow_only {qz} {oz : State} (s : State) (n : Nat) (hS : Only qz oz s)
    (pm0 : Part.of qz .stripe = true := by assumption) (pm1 : Part.of qz .chest = true := by assumption)
    (pm2 : Part.of qz .core = true := by assumption) (pm3 : Part.of qz .buf = true := by assumption)
    (pm4 : Part.of qz .dma = true := by assumption) (pm5 : Part.of qz .zmu = true := by assumption)
    (pm6 : Part.of qz .cqu = true := by assumption) (pm7 : Part.of qz .hpt = true := by assumption)
    (pm8 : Part.of qz .bur = true := by assumption) (pm9 : Part.of qz .crd = true := by assumption)
    (pm10 : Part.of qz (.slot 4) = true := by first | assumption | exact of_slot (by assumption))
    (pm11 : Part.of qz (.slot 8) = true := by first | assumption | exact of_slot (by assumption))
    (pm12 : Part.of qz (.slot 9) = true := by first | assumption | exact of_slot (by assumption))
    (pm13 : Part.of qz (.slot 13) = true := by first | assumption | exact of_slot (by assumption))
    (pm14 : Part.of qz (.slot 14) = true := by first | assumption | exact of_slot (by assumption)) :
    Only qz oz (@State.slotNow s n) := by
  unfold State.slotNow
  have hm : ∀ t, (Only qz oz t) → Keeps (execStripeOnMedia n t) (Only qz oz) := fun t h => by simp (maxDischargeDepth := 99) [*]
  have hc : ∀ t, (Only qz oz t) → Keeps (execCommitDurable n t) (Only qz oz) := fun t h => by simp (maxDischargeDepth := 99) [*]
  split
  · exact hS
  · dsimp only
    split
    · clear hm hc; simp (maxDischargeDepth := 99) [*]
    · split
      · clear hm hc; simp (maxDischargeDepth := 99) [*]
      · have h2 : ∀ u : State, (Only qz oz u) → (Only qz oz (match execCommitDurable n u with | .next t => t | _ => u)) := by
          intro u hu
          split
          · rename_i h; exact hc _ hu _ h
          · exact hu
        refine h2 _ ?_
        split
        · rename_i h; exact State.chestWrite_only _ (hm _ (by clear hm hc h2 h; simp (maxDischargeDepth := 99) [*]) _ h)
        · clear hm hc h2; simp (maxDischargeDepth := 99) [*]

theorem State.homeOut_only {qz} {oz : State} (s : State) (n : Nat) (a : Option State) (lz : Nat) (hS : Only qz oz s)
    (ha : ∀ u, a = some u → Only qz oz u) (pm0 : Part.of qz .stripe = true := by assumption)
    (pm1 : Part.of qz .buf = true := by assumption) :
    ∀ t, @State.homeOut s n a lz = some t → Only qz oz (t) := by
  intro t
  unfold State.homeOut
  split
  · rintro h1; exact ha _ h1
  · split
    · intro e; cases e; simp (maxDischargeDepth := 99) [*]
    · simp

@[simp ↓] theorem State.linesOut_only {qz} {oz : State} (a0 : Nat) (a1 : State) (hS : Only qz oz a1)
    (pm0 : Part.of qz .stripe = true := by assumption) (pm1 : Part.of qz .chest = true := by assumption)
    (pm2 : Part.of qz .core = true := by assumption) (pm3 : Part.of qz .buf = true := by assumption)
    (pm4 : Part.of qz .dma = true := by assumption) (pm5 : Part.of qz .zmu = true := by assumption)
    (pm6 : Part.of qz .cqu = true := by assumption) (pm7 : Part.of qz .hpt = true := by assumption)
    (pm8 : Part.of qz .bur = true := by assumption) (pm9 : Part.of qz .crd = true := by assumption)
    (pm10 : Part.of qz (.slot 4) = true := by first | assumption | exact of_slot (by assumption))
    (pm11 : Part.of qz (.slot 8) = true := by first | assumption | exact of_slot (by assumption))
    (pm12 : Part.of qz (.slot 9) = true := by first | assumption | exact of_slot (by assumption))
    (pm13 : Part.of qz (.slot 13) = true := by first | assumption | exact of_slot (by assumption))
    (pm14 : Part.of qz (.slot 14) = true := by first | assumption | exact of_slot (by assumption)) :
    Only qz oz (@State.linesOut a0 a1) := by
  induction a0 generalizing a1 with
  | zero => exact hS
  | succ f ih =>
    have hh : ∀ (l : List Nat) (n : Nat) (a : Option State), (∀ t, a = some t → (Only qz oz t)) →
        ∀ t, l.foldl (a1.homeOut n) a = some t → (Only qz oz t) := by
      intro l n
      induction l with
      | nil => exact fun o h => h
      | cons x l ihl => exact fun o h => ihl _ (State.homeOut_only _ _ _ _ hS h)
    unfold State.linesOut
    split
    · exact hS
    · dsimp only
      refine ih _ (State.slotNow_only _ _ ?_)
      split
      · rename_i h; exact hh _ _ none (by simp) _ h
      · split <;> first | exact hS | (clear ih hh; simp (maxDischargeDepth := 99) [*])

@[simp ↓] theorem State.restoreLines_only {qz} {oz : State} (s : State) (es : List (Nat × JEntry)) (hS : Only qz oz s)
    (pm0 : Part.of qz .stripe = true := by assumption) (pm1 : Part.of qz .chest = true := by assumption)
    (pm2 : Part.of qz .core = true := by assumption) (pm3 : Part.of qz .buf = true := by assumption)
    (pm4 : Part.of qz .dma = true := by assumption) (pm5 : Part.of qz .zmu = true := by assumption)
    (pm6 : Part.of qz .cqu = true := by assumption) (pm7 : Part.of qz .hpt = true := by assumption)
    (pm8 : Part.of qz .bur = true := by assumption) (pm9 : Part.of qz .crd = true := by assumption)
    (pm10 : Part.of qz (.slot 4) = true := by first | assumption | exact of_slot (by assumption))
    (pm11 : Part.of qz (.slot 8) = true := by first | assumption | exact of_slot (by assumption))
    (pm12 : Part.of qz (.slot 9) = true := by first | assumption | exact of_slot (by assumption))
    (pm13 : Part.of qz (.slot 13) = true := by first | assumption | exact of_slot (by assumption))
    (pm14 : Part.of qz (.slot 14) = true := by first | assumption | exact of_slot (by assumption)) :
    Only qz oz (@State.restoreLines s es) := by unfold State.restoreLines; simp (maxDischargeDepth := 99) [*]

@[simp ↓] theorem State.chestSeen_only {qz} {oz : State} (s : State) (a : ChestAccess) (hS : Only qz oz s)
    (pm0 : Part.of qz .chest = true := by assumption) (pm1 : Part.of qz .cqu = true := by assumption)
    (pm2 : Part.of qz (.slot 9) = true := by first | assumption | exact of_slot (by assumption)) :
    Only qz oz (@State.chestSeen s a) := by unfold State.chestSeen; simp (maxDischargeDepth := 99) [*]

@[simp ↓] theorem State.endP10_only {qz} {oz : State} (s : State) (found : List Nat) (failed : Bool)
    (keys : List (Nat × Bytes)) (hS : Only qz oz s) (pm0 : Part.of qz .media = true := by assumption)
    (pm1 : Part.of qz .stripe = true := by assumption) (pm2 : Part.of qz .cqu = true := by assumption)
    (pm3 : Part.of qz .hpt = true := by assumption) (pm4 : Part.of qz .crd = true := by assumption)
    (pm5 : Part.of qz (.slot 1) = true := by first | assumption | exact of_slot (by assumption))
    (pm6 : Part.of qz (.slot 8) = true := by first | assumption | exact of_slot (by assumption))
    (pm7 : Part.of qz (.slot 9) = true := by first | assumption | exact of_slot (by assumption))
    (pm8 : Part.of qz (.slot 14) = true := by first | assumption | exact of_slot (by assumption)) :
    Only qz oz (@State.endP10 s found failed keys) := by unfold State.endP10; simp (maxDischargeDepth := 99) +contextual [*]

/-! ### Spdm -/

@[simp ↓] theorem State.doeAnswer_only {qz} {oz : State} (s : State) (typ : Nat) (payload : List Word) (hS : Only qz oz s)
    (pm0 : Part.of qz .hpt = true := by assumption)
    (pm1 : Part.of qz (.slot 8) = true := by first | assumption | exact of_slot (by assumption)) :
    Only qz oz (@State.doeAnswer s typ payload) := by unfold State.doeAnswer; simp (maxDischargeDepth := 99) [*]

@[simp ↓] theorem State.doeDiscard_only {qz} {oz : State} (s : State) (hS : Only qz oz s)
    (pm0 : Part.of qz .hpt = true := by assumption)
    (pm1 : Part.of qz (.slot 8) = true := by first | assumption | exact of_slot (by assumption)) :
    Only qz oz (@State.doeDiscard s) := by unfold State.doeDiscard; simp (maxDischargeDepth := 99) [*]

@[simp ↓] theorem State.spdmAnswer_only {qz} {oz : State} (s : State) (m : Bytes) (hS : Only qz oz s)
    (pm0 : Part.of qz .hpt = true := by assumption)
    (pm1 : Part.of qz (.slot 8) = true := by first | assumption | exact of_slot (by assumption)) :
    Only qz oz (@State.spdmAnswer s m) := by unfold State.spdmAnswer; simp (maxDischargeDepth := 99) [*]

@[simp ↓] theorem State.spdmError_only {qz} {oz : State} (s : State) (code : Nat) (data : Nat) (hS : Only qz oz s)
    (pm0 : Part.of qz .hpt = true := by assumption)
    (pm1 : Part.of qz (.slot 8) = true := by first | assumption | exact of_slot (by assumption)) :
    Only qz oz (@State.spdmError s code data) := by unfold State.spdmError; simp (maxDischargeDepth := 99) [*]

@[simp ↓] theorem State.setSpdm_only {qz} {oz : State} (s : State) (m : Spdm) (hS : Only qz oz s)
    (pm0 : Part.of qz .hpt = true := by assumption) :
    Only qz oz (@State.setSpdm s m) := by unfold State.setSpdm; simp (maxDischargeDepth := 99) [*]

@[simp ↓] theorem State.spdmServe_only {qz} {oz : State} (s : State) (m : Bytes) (stage : Nat) (len : Nat) (f : State → State)
    (hS : Only qz oz s) (hf : ∀ t, Only qz oz t → Only qz oz (f t)) (pm0 : Part.of qz .hpt = true := by assumption)
    (pm1 : Part.of qz (.slot 8) = true := by first | assumption | exact of_slot (by assumption)) :
    Only qz oz (@State.spdmServe s m stage len f) := by
  unfold State.spdmServe
  (repeat' split) <;> simp (maxDischargeDepth := 99) [*]

@[simp ↓] theorem State.certAnswer_only {qz} {oz : State} (s : State) (req : Bytes) (resp : Bytes) (hS : Only qz oz s)
    (pm0 : Part.of qz .hpt = true := by assumption)
    (pm1 : Part.of qz (.slot 8) = true := by first | assumption | exact of_slot (by assumption)) :
    Only qz oz (@State.certAnswer s req resp) := by unfold State.certAnswer; simp (maxDischargeDepth := 99) [*]

@[simp ↓] theorem State.nonce_only {qz} {oz : State} (s : State) (hS : Only qz oz s)
    (pm0 : Part.of qz .freeCount = true := by assumption) :
    Only qz oz (@State.nonce s).2 := by unfold State.nonce; simp (maxDischargeDepth := 99) [*]

end Sys2Proof.Machine
end

