-- ==== Sys2Proof/Laws/Sound.lean ====
section
/-!
SUPPORT. Soundness: every operation keeps a state sound.
-/

set_option linter.unusedTactic false
set_option linter.unreachableTactic false
set_option linter.style.nameCheck false

namespace Sys2Proof.Machine

@[simp ↓] theorem sound_upd (t : State) pins start cfg plat opt fw patches fuses nor ident linkA linkB linkZ feA feB motion
    rep spin servoA servoB tables fsqs rwcs media defects stripe chest core buf dma zmu cqu hpt power bur crd tst freeCount
    pending (h : t.Sound) (h1 : buf.sram = t.buf.sram) (h2 : buf.dram = t.buf.dram) (h3 : fsqs.length = t.fsqs.length)
    (h4 : rwcs.length = t.rwcs.length) : State.Sound ⟨t.regs, pins, start, cfg, plat, opt, fw, patches, fuses, nor, ident,
    linkA, linkB, linkZ, feA, feB, motion, rep, spin, servoA, servoB, tables, fsqs, rwcs, media, defects, stripe, chest, core,
    buf, dma, zmu, cqu, hpt, power, bur, crd, tst, freeCount, pending⟩ :=
  ⟨h.1, h1 ▸ h.2, h2 ▸ h.3, h3.trans h.4, h4.trans h.5⟩

@[simp 100] theorem sound_mk regs pins start cfg plat opt fw patches fuses nor ident linkA linkB linkZ feA feB motion rep spin
    servoA servoB tables fsqs rwcs media defects stripe chest core buf dma zmu cqu hpt power bur crd tst freeCount pending :
    State.Sound ⟨regs, pins, start, cfg, plat, opt, fw, patches, fuses, nor, ident, linkA, linkB, linkZ, feA, feB, motion,
    rep, spin, servoA, servoB, tables, fsqs, rwcs, media, defects, stripe, chest, core, buf, dma, zmu, cqu, hpt, power, bur,
    crd, tst, freeCount, pending⟩ ↔ RegFile.wf regs = true ∧ Memory.wf buf.sram = true ∧ Memory.wf buf.dram = true ∧
    fsqs.length = 4 ∧ rwcs.length = 4 :=
  ⟨fun h => ⟨h.1, h.2, h.3, h.4, h.5⟩, fun h => ⟨h.1, h.2.1, h.2.2.1, h.2.2.2.1, h.2.2.2.2⟩⟩

@[simp] theorem sound_regs {s : State} (h : s.Sound) : RegFile.wf s.regs = true := h.regs

@[simp] theorem sound_sram {s : State} (h : s.Sound) : Memory.wf s.buf.sram = true := h.sram

@[simp] theorem sound_dram {s : State} (h : s.Sound) : Memory.wf s.buf.dram = true := h.dram

@[simp] theorem sound_fsqs {s : State} (h : s.Sound) : s.fsqs.length = 4 := h.fsqs

@[simp] theorem sound_rwcs {s : State} (h : s.Sound) : s.rwcs.length = 4 := h.rwcs

@[simp] theorem wf_setWord' {r : RegFile} (k : Nat) (w : Word) (h : r.wf = true) : (r.setWord k w).wf = true :=
    RegFile.wf_setWord k w h

@[simp] theorem wf_set' {r : RegFile} (f : Fld) (v : Nat) (h : r.wf = true) : (r.set f v).wf = true := RegFile.wf_set f v h

@[simp] theorem wf_setB' {r : RegFile} (f : Fld) (b : Bool) (h : r.wf = true) : (r.setB f b).wf = true := RegFile.wf_setB f b h

@[simp] theorem wf_filterR {r : RegFile} (p : Nat × Word → Bool) (h : r.wf = true) : RegFile.wf (List.filter p r) = true :=
    RegFile.wf_filter p h

@[simp] theorem wf_filterM {r : List Host.Cell} (p : Host.Cell → Bool) (h : Memory.wf r = true) : Memory.wf (List.filter p r)
    = true := Memory.wf_filter p h

@[simp] theorem wf_putRunM {r : List Host.Cell} (a b) (h : Memory.wf r = true) : Memory.wf (Sparse.putRun cellDefault r a b) =
    true := Memory.wf_putRun a b h

@[simp] theorem mem_nil : Memory.wf [] = true := rfl

@[simp] theorem modifyAt_len {α : Type} (l : List α) (n : Nat) (f : α → α) : (modifyAt l n f).length = l.length :=
    modifyAt_length _ _ _

@[simp] theorem setAt_len {α : Type} (l : List α) (n : Nat) (f : α) : (setAt l n f).length = l.length := setAt_length _ _ _

@[simp ↓] theorem sound_ite {c : Prop} [Decidable c] (a b : State) : (if c then a else b : State).Sound ↔ (c → a.Sound) ∧
    (¬c → b.Sound) := by split <;> simp [*]

@[simp ↓] theorem sound_ite_fst {γ : Type} {c : Prop} [Decidable c] (a b : State × γ) :
    (if c then a else b : State × γ).1.Sound ↔ (c → a.1.Sound) ∧ (¬c → b.1.Sound) := by split <;> simp [*]

@[simp ↓] theorem foldl_sound {β : Type} (g : State → β → State) (l : List β) {s : State}
    (hg : ∀ t b, t.Sound → (g t b).Sound) (h : s.Sound) : (l.foldl g s).Sound := by
  induction l generalizing s with
  | nil => exact h
  | cons a t ih => exact ih (hg _ _ h)

@[simp ↓] theorem foldl_fst_sound {β γ : Type} (g : State × γ → β → State × γ) (l : List β) {s : State × γ}
    (hg : ∀ t b, t.1.Sound → (g t b).1.Sound) (h : s.1.Sound) : (l.foldl g s).1.Sound := by
  induction l generalizing s with
  | nil => exact h
  | cons a t ih => exact ih (hg _ _ h)

/-! ### Ops -/

@[simp ↓] theorem State.put_sound (s : State) (f : Fld) (v : Nat) (hS : s.Sound) :
    (@State.put s f v).Sound := by unfold State.put; simp (maxDischargeDepth := 99) [hS]

@[simp ↓] theorem State.putB_sound (s : State) (f : Fld) (b : Bool) (hS : s.Sound) :
    (@State.putB s f b).Sound := by unfold State.putB; simp (maxDischargeDepth := 99) [hS]

@[simp ↓] theorem State.bump_sound (s : State) (f : Fld) (n : Nat) (hS : s.Sound) :
    (@State.bump s f n).Sound := by unfold State.bump; simp (maxDischargeDepth := 99) [hS]

@[simp ↓] theorem State.inMfg_sound (s : State) (f : State → State) (hS : s.Sound) (hf : ∀ t, t.Sound → (f t).Sound) :
    (@State.inMfg s f).Sound := by unfold State.inMfg; split <;> simp (maxDischargeDepth := 99) [*]

@[simp ↓] theorem State.writeMasked_sound (s : State) (slot : Nat) (off : Nat) (w : Word) (hS : s.Sound) :
    (@State.writeMasked s slot off w).Sound := by unfold State.writeMasked; (try dsimp only); (repeat' split) <;> simp (maxDischargeDepth := 99) +contextual [hS]

@[simp ↓] theorem State.free_sound (s : State) (hS : s.Sound) :
    (@State.free s).2.Sound := by unfold State.free; simp (maxDischargeDepth := 99) [hS]

@[simp ↓] theorem State.setLink_sound (s : State) (p : Port) (l : Link) (hS : s.Sound) :
    (@State.setLink s p l).Sound := by unfold State.setLink; (try dsimp only); (repeat' split) <;> simp (maxDischargeDepth := 99) +contextual [hS]

@[simp ↓] theorem State.setFe_sound (s : State) (x : Act) (f : FrontEnd) (hS : s.Sound) :
    (@State.setFe s x f).Sound := by unfold State.setFe; (try dsimp only); (repeat' split) <;> simp (maxDischargeDepth := 99) +contextual [hS]

@[simp ↓] theorem State.setServo_sound (s : State) (x : Act) (v : ServoAct) (hS : s.Sound) :
    (@State.setServo s x v).Sound := by unfold State.setServo; (try dsimp only); (repeat' split) <;> simp (maxDischargeDepth := 99) +contextual [hS]

@[simp ↓] theorem State.setCmd_sound (s : State) (c : Cmd) (hS : s.Sound) :
    (@State.setCmd s c).Sound := by unfold State.setCmd; simp (maxDischargeDepth := 99) [hS]

@[simp ↓] theorem State.finish_sound (s : State) (fsn : Nat) (st : Status) (dw0 : Nat) (dw1 : Nat) (hS : s.Sound) :
    (@State.finish s fsn st dw0 dw1).Sound := by unfold State.finish; (try dsimp only); (repeat' split) <;> simp (maxDischargeDepth := 99) +contextual [hS]

@[simp ↓] theorem State.asyncEvent_sound (s : State) (typ : Nat) (info : Nat) (lid : Nat) (hS : s.Sound) :
    (@State.asyncEvent s typ info lid).Sound := by unfold State.asyncEvent; (try dsimp only); (repeat' split) <;> simp (maxDischargeDepth := 99) +contextual [hS]

@[simp ↓] theorem State.warn_sound (s : State) (b : Nat) (cause : Nat) (hS : s.Sound) :
    (@State.warn s b cause).Sound := by unfold State.warn; simp (maxDischargeDepth := 99) [hS]

@[simp ↓] theorem State.unwarn_sound (s : State) (b : Nat) (cause : Nat) (hS : s.Sound) :
    (@State.unwarn s b cause).Sound := by unfold State.unwarn; simp (maxDischargeDepth := 99) [hS]

@[simp ↓] theorem State.saturated_sound (s : State) (first : Bool) (hS : s.Sound) :
    (@State.saturated s first).Sound := by unfold State.saturated; simp (maxDischargeDepth := 99) [hS]

@[simp ↓] theorem State.count_sound (s : State) (id : Nat) (inst : Nat) (n : Nat) (hS : s.Sound) :
    (@State.count s id inst n).Sound := by unfold State.count; simp (maxDischargeDepth := 99) [hS]

@[simp ↓] theorem State.bin_sound (s : State) (hid : Nat) (inst : Nat) (b : Nat) (hS : s.Sound) :
    (@State.bin s hid inst b).Sound := by unfold State.bin; simp (maxDischargeDepth := 99) [hS]

@[simp ↓] theorem State.pulse_sound (s : State) (k : Nat) (hS : s.Sound) :
    (@State.pulse s k).Sound := by unfold State.pulse; simp (maxDischargeDepth := 99) [hS]

@[simp ↓] theorem State.send_sound (s : State) (o : Out) (hS : s.Sound) :
    (@State.send s o).Sound := by unfold State.send; simp (maxDischargeDepth := 99) [hS]

/-! ### Memory -/

@[simp ↓] theorem State.setCells_sound (s : State) (m : Mem) (c : List Host.Cell) (hS : s.Sound) (ha : Memory.wf c = true) :
    (@State.setCells s m c).Sound := by
  unfold State.setCells
  split <;> simp (maxDischargeDepth := 99) [*]

@[simp ↓] theorem State.takeFlip_sound (s : State) (m : Mem) (a : Nat) (n : Nat) (hS : s.Sound) :
    (@State.takeFlip s m a n).Sound := by unfold State.takeFlip; simp (maxDischargeDepth := 99) [hS]

@[simp ↓] theorem State.memWrite_sound (s : State) (m : Mem) (a : Nat) (b : Bytes) (hS : s.Sound) :
    (@State.memWrite s m a b).Sound := by
  unfold State.memWrite
  dsimp only
  have h1 : (s.setCells m (Sparse.putRun cellDefault (s.cells m) a b)).Sound :=
    State.setCells_sound _ _ _ hS (by cases m <;> simp [State.cells, hS])
  simp (maxDischargeDepth := 99) [h1]

@[simp ↓] theorem State.setScrub_sound (s : State) (m : Mem) (v : Option (Nat × Nat × Bool)) (hS : s.Sound) :
    (@State.setScrub s m v).Sound := by unfold State.setScrub; (try dsimp only); (repeat' split) <;> simp (maxDischargeDepth := 99) +contextual [hS]

@[simp ↓] theorem State.startScrub_sound (s : State) (m : Mem) (triggered : Bool) (hS : s.Sound) :
    (@State.startScrub s m triggered).Sound := by unfold State.startScrub; (try dsimp only); (repeat' split) <;> simp (maxDischargeDepth := 99) +contextual [hS]

@[simp ↓] theorem State.endScrub_sound (s : State) (m : Mem) (complete : Bool) (hS : s.Sound) :
    (@State.endScrub s m complete).Sound := by unfold State.endScrub; (try dsimp only); (repeat' split) <;> simp (maxDischargeDepth := 99) +contextual [hS]

@[simp ↓] theorem State.bucketOverflow_sound (s : State) (m : Mem) (depth : Nat) (hS : s.Sound) :
    (@State.bucketOverflow s m depth).Sound := by unfold State.bucketOverflow; simp (maxDischargeDepth := 99) [hS]

@[simp ↓] theorem State.bucketAdd_sound (s : State) (m : Mem) (hS : s.Sound) :
    (@State.bucketAdd s m).Sound := by unfold State.bucketAdd; (try dsimp only); (repeat' split) <;> simp (maxDischargeDepth := 99) +contextual [hS]

@[simp ↓] theorem State.sparesOut_sound (s : State) (m : Mem) (hS : s.Sound) :
    (@State.sparesOut s m).Sound := by unfold State.sparesOut; simp (maxDischargeDepth := 99) [hS]

@[simp ↓] theorem State.rewrite_sound (s : State) (m : Mem) (a : Nat) (n : Nat) (hS : s.Sound) :
    (@State.rewrite s m a n).Sound := by unfold State.rewrite; simp (maxDischargeDepth := 99) [hS]

@[simp ↓] theorem State.hardFault_sound (s : State) (m : Mem) (u : Nat) (hS : s.Sound) :
    (@State.hardFault s m u).Sound := by unfold State.hardFault; (try dsimp only); (repeat' split) <;> simp (maxDischargeDepth := 99) +contextual [hS]

@[simp ↓] theorem State.trackNew_sound (s : State) (m : Mem) (u : Nat) (hS : s.Sound) :
    (@State.trackNew s m u).Sound := by unfold State.trackNew; (try dsimp only); (repeat' split) <;> simp (maxDischargeDepth := 99) +contextual [hS]

@[simp ↓] theorem State.trackWriteback_sound (s : State) (m : Mem) (u : Nat) (cancelled : Bool) (hS : s.Sound) :
    (@State.trackWriteback s m u cancelled).Sound := by unfold State.trackWriteback; simp (maxDischargeDepth := 99) [hS]

@[simp ↓] theorem State.trackCorrection_sound (s : State) (m : Mem) (u : Nat) (clientWrote : Bool) (hS : s.Sound) :
    (@State.trackCorrection s m u clientWrote).Sound := by unfold State.trackCorrection; (try dsimp only); (repeat' split) <;> simp (maxDischargeDepth := 99) +contextual [hS]

@[simp ↓] theorem State.correction_sound (s : State) (m : Mem) (u : Nat) (clientWrote : Bool) (byScrub : Bool) (hS : s.Sound) :
    (@State.correction s m u clientWrote byScrub).Sound := by unfold State.correction; (try dsimp only); (repeat' split) <;> simp (maxDischargeDepth := 99) +contextual [hS]

@[simp ↓] theorem State.ueRecord_sound (s : State) (m : Mem) (u : Nat) (hS : s.Sound) :
    (@State.ueRecord s m u).Sound := by unfold State.ueRecord; simp (maxDischargeDepth := 99) [hS]

@[simp ↓] theorem State.lostEvent_sound (s : State) (n : Nat) (hS : s.Sound) :
    (@State.lostEvent s n).Sound := by unfold State.lostEvent; simp (maxDischargeDepth := 99) [hS]

@[simp ↓] theorem State.poison_sound (s : State) (dlba : Nat) (hS : s.Sound) :
    (@State.poison s dlba).Sound := by unfold State.poison; simp (maxDischargeDepth := 99) [hS]

@[simp ↓] theorem State.readCorrections_sound (s : State) (m : Mem) (a : Nat) (n : Nat) (hS : s.Sound) :
    (@State.readCorrections s m a n).Sound := by unfold State.readCorrections; simp (maxDischargeDepth := 99) +contextual [hS]

@[simp ↓] theorem State.testResult_sound (s : State) (result : Nat) (hS : s.Sound) :
    (@State.testResult s result).Sound := by unfold State.testResult; simp (maxDischargeDepth := 99) [hS]

@[simp ↓] theorem State.shortTestStep_sound (s : State) (hS : s.Sound) :
    (@State.shortTestStep s).Sound := by unfold State.shortTestStep; simp (maxDischargeDepth := 99) [hS]

/-! ### Map -/

@[simp ↓] theorem State.setZone_sound (s : State) (lz : Nat) (z : ZoneDesc) (hS : s.Sound) :
    (@State.setZone s lz z).Sound := by unfold State.setZone; simp (maxDischargeDepth := 99) [hS]

@[simp ↓] theorem State.unlose_sound (s : State) (d : Nat) (hS : s.Sound) :
    (@State.unlose s d).Sound := by unfold State.unlose; simp (maxDischargeDepth := 99) [hS]

@[simp ↓] theorem State.expose_sound (s : State) (hS : s.Sound) :
    (@State.expose s).Sound := by unfold State.expose; simp (maxDischargeDepth := 99) [hS]

@[simp ↓] theorem State.logRec_sound (s : State) (r : LogRec) (hS : s.Sound) :
    (@State.logRec s r).Sound := by unfold State.logRec; simp (maxDischargeDepth := 99) [hS]

@[simp ↓] theorem State.applyRec_sound (s : State) (a1 : LogRec) (hS : s.Sound) :
    (@State.applyRec s a1).Sound := by unfold State.applyRec; (try dsimp only); (repeat' split) <;> simp (maxDischargeDepth := 99) +contextual [hS]

@[simp ↓] theorem State.mapChange_sound (s : State) (r : LogRec) (hS : s.Sound) :
    (@State.mapChange s r).Sound := by unfold State.mapChange; simp (maxDischargeDepth := 99) [hS]

@[simp ↓] theorem State.evictClean_sound (s : State) (prot : Bool) (hS : s.Sound) :
    (@State.evictClean s prot).Sound := by unfold State.evictClean; (try dsimp only); (repeat' split) <;> simp (maxDischargeDepth := 99) +contextual [hS]

@[simp ↓] theorem State.commitBlock_sound (fsn : Nat) (prot : Bool) (s : State) (x : Nat × Bytes) (hS : s.Sound) :
    (@State.commitBlock fsn prot s x).Sound := by unfold State.commitBlock; simp (maxDischargeDepth := 99) [hS]

@[simp ↓] theorem State.commitBlocks_sound (s : State) (fsn : Nat) (prot : Bool) (l : List (Nat × Bytes)) (hS : s.Sound) :
    (@State.commitBlocks s fsn prot l).Sound := by unfold State.commitBlocks; simp (maxDischargeDepth := 99) +contextual [hS]

@[simp ↓] theorem State.pin_sound (s : State) (fsn : Nat) (locs : List (Nat × Loc)) (hS : s.Sound) :
    (@State.pin s fsn locs).Sound := by unfold State.pin; simp (maxDischargeDepth := 99) [hS]

@[simp ↓] theorem State.unpin_sound (s : State) (fsn : Nat) (hS : s.Sound) :
    (@State.unpin s fsn).Sound := by unfold State.unpin; simp (maxDischargeDepth := 99) [hS]

@[simp ↓] theorem State.dropBlocks_sound (s : State) (p : Nat → Bool) (hS : s.Sound) :
    (@State.dropBlocks s p).Sound := by unfold State.dropBlocks; simp (maxDischargeDepth := 99) [hS]

@[simp ↓] theorem State.journal_sound (s : State) (e : JEntry) (hS : s.Sound) :
    (@State.journal s e).Sound := by unfold State.journal; simp (maxDischargeDepth := 99) [hS]

@[simp ↓] theorem State.setSlot_sound (s : State) (x : SideSlot) (hS : s.Sound) :
    (@State.setSlot s x).Sound := by unfold State.setSlot; simp (maxDischargeDepth := 99) [hS]

@[simp ↓] theorem State.setPlace_sound (s : State) (p : Placement) (hS : s.Sound) :
    (@State.setPlace s p).Sound := by unfold State.setPlace; simp (maxDischargeDepth := 99) [hS]

@[simp ↓] theorem State.assignSlot_sound (s : State) (n : Nat) (pz : Nat) (i : Nat) (first : Nat) (blocks : List (Nat × Nat))
    (cache : Bool) (hS : s.Sound) :
    (@State.assignSlot s n pz i first blocks cache).Sound := by unfold State.assignSlot; simp (maxDischargeDepth := 99) [hS]

@[simp ↓] theorem State.gatherHome_sound (s : State) (lz : Nat) (hS : s.Sound) :
    (@State.gatherHome s lz).Sound := by unfold State.gatherHome; (try dsimp only); (repeat' split) <;> simp (maxDischargeDepth := 99) +contextual [hS]

@[simp ↓] theorem State.ringTake_sound (s : State) (z : Nat) (i : Nat) (hS : s.Sound) :
    (@State.ringTake s z i).Sound := by unfold State.ringTake; simp (maxDischargeDepth := 99) [hS]

@[simp ↓] theorem State.gatherCache_sound (s : State) (n : Nat) (hS : s.Sound) :
    (@State.gatherCache s n).Sound := by unfold State.gatherCache; (try dsimp only); (repeat' split) <;> simp (maxDischargeDepth := 99) +contextual [hS]

/-! ### Ladder -/

@[simp ↓] theorem State.queueRuns_sound (s : State) (l : List MRun) (hS : s.Sound) :
    (@State.queueRuns s l).Sound := by unfold State.queueRuns; simp (maxDischargeDepth := 99) [hS]

@[simp ↓] theorem State.requeue_sound (s : State) (n : Nat) (r : RunCmd) (hS : s.Sound) :
    (@State.requeue s n r).Sound := by unfold State.requeue; simp (maxDischargeDepth := 99) [hS]

@[simp ↓] theorem State.setSector_sound (s : State) (x : LdpSector) (hS : s.Sound) :
    (@State.setSector s x).Sound := by unfold State.setSector; simp (maxDischargeDepth := 99) [hS]

@[simp ↓] theorem State.dropSector_sound (s : State) (x : LdpSector) (hS : s.Sound) :
    (@State.dropSector s x).Sound := by unfold State.dropSector; simp (maxDischargeDepth := 99) [hS]

@[simp ↓] theorem State.queueReread_sound (s : State) (x : LdpSector) (hS : s.Sound) :
    (@State.queueReread s x).Sound := by unfold State.queueReread; simp (maxDischargeDepth := 99) [hS]

@[simp ↓] theorem State.askReread_sound (s : State) (x : LdpSector) (hS : s.Sound) :
    (@State.askReread s x).Sound := by unfold State.askReread; simp (maxDischargeDepth := 99) [hS]

@[simp ↓] theorem State.fillPlaces_sound (s : State) (hS : s.Sound) :
    (@State.fillPlaces s).Sound := by unfold State.fillPlaces; simp (maxDischargeDepth := 99) +contextual [hS]

@[simp ↓] theorem State.relocDue_sound (s : State) (x : LdpSector) (hS : s.Sound) :
    (@State.relocDue s x).Sound := by unfold State.relocDue; (try dsimp only); (repeat' split) <;> simp (maxDischargeDepth := 99) +contextual [hS]

@[simp ↓] theorem State.toStep8_sound (s : State) (x : LdpSector) (hS : s.Sound) :
    (@State.toStep8 s x).Sound := by unfold State.toStep8; simp (maxDischargeDepth := 99) [hS]

@[simp ↓] theorem State.headToStep8_sound (s : State) (h : Nat) (hS : s.Sound) :
    (@State.headToStep8 s h).Sound := by unfold State.headToStep8; simp (maxDischargeDepth := 99) +contextual [hS]

@[simp ↓] theorem State.step8Served_sound (s : State) (blocks : List Nat) (hS : s.Sound) :
    (@State.step8Served s blocks).Sound := by unfold State.step8Served; simp (maxDischargeDepth := 99) +contextual [hS]

@[simp ↓] theorem State.ladderNext_sound (s : State) (x : LdpSector) (hS : s.Sound) :
    (@State.ladderNext s x).Sound := by unfold State.ladderNext; (try dsimp only); (repeat' split) <;> simp (maxDischargeDepth := 99) +contextual [hS]

@[simp ↓] theorem State.syncLast_sound (s : State) (ch : Nat) (result : Nat) (a : Int) (score : Nat) (hS : s.Sound) :
    (@State.syncLast s ch result a score).Sound := by unfold State.syncLast; simp (maxDischargeDepth := 99) [hS]

@[simp ↓] theorem State.syncFailed_sound (s : State) (x : LdpSector) (hS : s.Sound) :
    (@State.syncFailed s x).Sound := by unfold State.syncFailed; simp (maxDischargeDepth := 99) [hS]

@[simp ↓] theorem State.decodeFailed_sound (s : State) (x : LdpSector) (hS : s.Sound) :
    (@State.decodeFailed s x).Sound := by unfold State.decodeFailed; (try dsimp only); (repeat' split) <;> simp (maxDischargeDepth := 99) +contextual [hS]

@[simp ↓] theorem State.expireEntry_sound (s : State) (x : LdpSector) (hS : s.Sound) :
    (@State.expireEntry s x).Sound := by unfold State.expireEntry; simp (maxDischargeDepth := 99) [hS]

/-! ### Stripe -/

@[simp ↓] theorem State.redundancy_sound (s : State) (hS : s.Sound) :
    (@State.redundancy s).Sound := by unfold State.redundancy; simp (maxDischargeDepth := 99) [hS]

@[simp ↓] theorem State.moveStart_sound (s : State) (p : Placement) (kind : Nat) (inPlace : Bool) (next : List Member)
    (spares : List (Nat × Nat × Bool)) (chg : List (Nat × Nat × Nat)) (hS : s.Sound) :
    (@State.moveStart s p kind inPlace next spares chg).Sound := by unfold State.moveStart; simp (maxDischargeDepth := 99) [hS]

@[simp ↓] theorem State.movesDone_sound (s : State) (hS : s.Sound) :
    (@State.movesDone s).Sound := by unfold State.movesDone; simp (maxDischargeDepth := 99) [hS]

@[simp ↓] theorem State.donate_sound (s : State) (zone : Nat) (surface : Nat) (taken : Nat) (given : Nat) (hS : s.Sound) :
    (@State.donate s zone surface taken given).Sound := by unfold State.donate; simp (maxDischargeDepth := 99) [hS]

@[simp ↓] theorem State.moveEnd_sound (s : State) (p : Placement) (hS : s.Sound) :
    (@State.moveEnd s p).Sound := by unfold State.moveEnd; (try dsimp only); (repeat' split) <;> simp (maxDischargeDepth := 99) +contextual [hS]

@[simp ↓] theorem State.raiseBoundary_sound (s : State) (p : Placement) (b : Nat) (hS : s.Sound) :
    (@State.raiseBoundary s p b).Sound := by unfold State.raiseBoundary; simp (maxDischargeDepth := 99) [hS]

@[simp ↓] theorem State.launch_sound (s : State) (x : SideSlot) (hS : s.Sound) :
    (@State.launch s x).Sound := by unfold State.launch; (try dsimp only); (repeat' split) <;> simp (maxDischargeDepth := 99) +contextual [hS]

@[simp ↓] theorem execStripeOnMedia_sound (slot : Nat) (s : State) (hS : s.Sound) :
    Keeps (@execStripeOnMedia slot s) State.Sound := by unfold execStripeOnMedia; (try dsimp only); (repeat' split) <;> simp (maxDischargeDepth := 99) +contextual [hS]

@[simp ↓] theorem State.wake_sound (s : State) (hS : s.Sound) :
    (@State.wake s).Sound := by
  unfold State.wake
  try dsimp only
  repeat' (first | (simp (maxDischargeDepth := 99) +contextual [*]; done) | refine foldl_sound _ _ (fun t b ht => ?_) ?_ | split)
  all_goals simp_all (maxDischargeDepth := 99) +contextual

@[simp ↓] theorem State.chestWrite_sound (s : State) (hS : s.Sound) :
    (@State.chestWrite s).Sound := by unfold State.chestWrite; simp (maxDischargeDepth := 99) [hS]

@[simp ↓] theorem State.bandFlush_sound (s : State) (hS : s.Sound) :
    (@State.bandFlush s).Sound := by unfold State.bandFlush; simp (maxDischargeDepth := 99) [hS]

@[simp ↓] theorem State.checkpoint_sound (s : State) (hS : s.Sound) :
    (@State.checkpoint s).Sound := by unfold State.checkpoint; simp (maxDischargeDepth := 99) [hS]

@[simp ↓] theorem State.restartMove_sound (s : State) (z : Nat) (h : Nat) (hS : s.Sound) :
    (@State.restartMove s z h).Sound := by unfold State.restartMove; (try dsimp only); (repeat' split) <;> simp (maxDischargeDepth := 99) +contextual [hS]

@[simp ↓] theorem State.retireHead_sound (s : State) (h : Nat) (hS : s.Sound) :
    (@State.retireHead s h).Sound := by unfold State.retireHead; simp (maxDischargeDepth := 99) +contextual [hS]

@[simp ↓] theorem State.retireInStart_sound (s : State) (h : Nat) (hS : s.Sound) :
    (@State.retireInStart s h).Sound := by unfold State.retireInStart; simp (maxDischargeDepth := 99) [hS]

@[simp ↓] theorem State.rowLost_sound (s : State) (pz : Nat) (i : Nat) (j : Nat) (mask : Word) (hS : s.Sound) :
    (@State.rowLost s pz i j mask).Sound := by unfold State.rowLost; simp (maxDischargeDepth := 99) [hS]

@[simp ↓] theorem State.degradedRow_sound (fsn : Nat) (pz : Nat) (i : Nat) (after : Bool) (s : State)
    (r : Nat × List MemberRead) (hS : s.Sound) :
    (@State.degradedRow fsn pz i after s r).Sound := by unfold State.degradedRow; (try dsimp only); (repeat' split) <;> simp (maxDischargeDepth := 99) +contextual [hS]

@[simp ↓] theorem State.startRebuild_sound (s : State) (p : Placement) (hS : s.Sound) :
    (@State.startRebuild s p).Sound := by unfold State.startRebuild; (try dsimp only); (repeat' split) <;> simp (maxDischargeDepth := 99) +contextual [hS]

/-! ### Cqu -/

@[simp ↓] theorem State.countEnc_sound (s : State) (n : Nat) (hS : s.Sound) :
    (@State.countEnc s n).Sound := by unfold State.countEnc; simp (maxDischargeDepth := 99) [hS]

@[simp ↓] theorem State.countDec_sound (s : State) (n : Nat) (hS : s.Sound) :
    (@State.countDec s n).Sound := by unfold State.countDec; simp (maxDischargeDepth := 99) [hS]

@[simp ↓] theorem State.keepRead_sound (s : State) (d : Nat) (b : Bytes) (hS : s.Sound) :
    (@State.keepRead s d b).Sound := by unfold State.keepRead; simp (maxDischargeDepth := 99) [hS]

@[simp ↓] theorem State.hostData_sound (s : State) (write : Bool) (n : Nat) (hS : s.Sound) :
    (@State.hostData s write n).Sound := by unfold State.hostData; simp (maxDischargeDepth := 99) [hS]

@[simp ↓] theorem State.failRead_sound (s : State) (fsn : Nat) (hS : s.Sound) :
    (@State.failRead s fsn).Sound := by unfold State.failRead; simp (maxDischargeDepth := 99) [hS]

@[simp ↓] theorem State.winLine_sound (s : State) (n : Nat) (hS : s.Sound) :
    (@State.winLine s n).Sound := by unfold State.winLine; (try dsimp only); (repeat' split) <;> simp (maxDischargeDepth := 99) +contextual [hS]

@[simp ↓] theorem State.winByte_sound (s : State) (off : Nat) (b : Byte) (hS : s.Sound) :
    (@State.winByte s off b).Sound := by unfold State.winByte; simp (maxDischargeDepth := 99) [hS]

@[simp ↓] theorem State.winWrite_sound (s : State) (off : Nat) (b : Bytes) (hS : s.Sound) :
    (@State.winWrite s off b).Sound := by unfold State.winWrite; simp (maxDischargeDepth := 99) +contextual [hS]

@[simp ↓] theorem State.toHost_sound (s : State) (c : Cmd) (b : Bytes) (hS : s.Sound) :
    (@State.toHost s c b).Sound := by unfold State.toHost; simp (maxDischargeDepth := 99) [hS]

@[simp ↓] theorem State.zoneSet_sound (s : State) (lz : Nat) (st : Nat) (wp : Nat) (hS : s.Sound) :
    (@State.zoneSet s lz st wp).Sound := by unfold State.zoneSet; simp (maxDischargeDepth := 99) [hS]

@[simp ↓] theorem State.openRoom_sound (s : State) (hS : s.Sound) :
    (@State.openRoom s).1.Sound := by unfold State.openRoom; (try dsimp only); (repeat' split) <;> simp (maxDischargeDepth := 99) +contextual [hS]

@[simp ↓] theorem State.openZone_sound (s : State) (lz : Nat) (explicit : Bool) (hS : s.Sound) :
    (@State.openZone s lz explicit).1.Sound := by unfold State.openZone; (try dsimp only); (repeat' split) <;> simp (maxDischargeDepth := 99) +contextual [hS]

@[simp ↓] theorem State.zoneCheck_sound (s : State) (c : Cmd) (lz : Nat) (blocks : Nat) (hS : s.Sound) :
    (@State.zoneCheck s c lz blocks).1.Sound := by
  unfold State.zoneCheck
  have h := State.openZone_sound s lz false hS
  (repeat' split) <;> first | exact hS | (rename_i heq; rw [heq] at h; exact h)

@[simp ↓] theorem State.zoneAdvance_sound (s : State) (lz : Nat) (n : Nat) (fsn : Nat) (hS : s.Sound) :
    (@State.zoneAdvance s lz n fsn).Sound := by unfold State.zoneAdvance; (try dsimp only); (repeat' split) <;> simp (maxDischargeDepth := 99) +contextual [hS]

@[simp ↓] theorem State.signal_sound (s : State) (q : Cq) (hS : s.Sound) :
    (@State.signal s q).Sound := by unfold State.signal; (try dsimp only); (repeat' split) <;> simp (maxDischargeDepth := 99) +contextual [hS]

@[simp ↓] theorem State.setCq_sound (s : State) (q : Cq) (hS : s.Sound) :
    (@State.setCq s q).Sound := by unfold State.setCq; simp (maxDischargeDepth := 99) [hS]

@[simp ↓] theorem State.setSq_sound (s : State) (q : Sq) (hS : s.Sound) :
    (@State.setSq s q).Sound := by unfold State.setSq; simp (maxDischargeDepth := 99) [hS]

@[simp ↓] theorem State.coalesce_sound (s : State) (q : Cq) (hS : s.Sound) :
    (@State.coalesce s q).Sound := by unfold State.coalesce; simp (maxDischargeDepth := 99) [hS]

@[simp ↓] theorem State.errorLog_sound (s : State) (sqid : Nat) (cid : Nat) (status : Nat) (lba : Nat) (nsid : Nat)
    (hS : s.Sound) :
    (@State.errorLog s sqid cid status lba nsid).Sound := by unfold State.errorLog; simp (maxDischargeDepth := 99) [hS]

@[simp ↓] theorem State.post_sound (s : State) (c : Cmd) (st : Status) (hS : s.Sound) :
    (@State.post s c st).Sound := by unfold State.post; (try dsimp only); (repeat' split) <;> simp (maxDischargeDepth := 99) +contextual [hS]

/-! ### Persist -/

@[simp ↓] theorem State.credWrite_sound (s : State) (hS : s.Sound) :
    (@State.credWrite s).Sound := by unfold State.credWrite; simp (maxDischargeDepth := 99) [hS]

@[simp ↓] theorem State.credClear_sound (s : State) (hS : s.Sound) :
    (@State.credClear s).Sound := by unfold State.credClear; simp (maxDischargeDepth := 99) [hS]

@[simp ↓] theorem State.credPersist_sound (s : State) (hS : s.Sound) :
    (@State.credPersist s).Sound := by unfold State.credPersist; simp (maxDischargeDepth := 99) [hS]

@[simp ↓] theorem State.keepTail_sound (s : State) (k : Nat) (hS : s.Sound) :
    (@State.keepTail s k).Sound := by unfold State.keepTail; simp (maxDischargeDepth := 99) [hS]

@[simp ↓] theorem State.saveStart_sound (s : State) (hS : s.Sound) :
    (@State.saveStart s).Sound := by unfold State.saveStart; simp (maxDischargeDepth := 99) [hS]

@[simp ↓] theorem State.saveEnd_sound (s : State) (skipped : Nat) (hS : s.Sound) :
    (@State.saveEnd s skipped).Sound := by unfold State.saveEnd; (try dsimp only); (repeat' split) <;> simp (maxDischargeDepth := 99) +contextual [hS]

@[simp ↓] theorem State.saveCut_sound (s : State) (hS : s.Sound) :
    (@State.saveCut s).Sound := by unfold State.saveCut; simp (maxDischargeDepth := 99) [hS]

@[simp ↓] theorem State.drain_sound (s : State) (hS : s.Sound) :
    (@State.drain s).Sound := by
  unfold State.drain
  try dsimp only
  repeat' (first | (simp (maxDischargeDepth := 99) +contextual [*]; done) | refine foldl_sound _ _ (fun t b ht => ?_) ?_ | split)
  all_goals simp_all (maxDischargeDepth := 99) +contextual

@[simp ↓] theorem State.shutdownStep_sound (s : State) (hS : s.Sound) :
    (@State.shutdownStep s).Sound := by unfold State.shutdownStep; simp (maxDischargeDepth := 99) [hS]

@[simp ↓] theorem State.exitPs_sound (s : State) (hS : s.Sound) :
    (@State.exitPs s).Sound := by unfold State.exitPs; simp (maxDischargeDepth := 99) [hS]

@[simp ↓] theorem State.wakeForIo_sound (s : State) (hS : s.Sound) :
    (@State.wakeForIo s).Sound := by unfold State.wakeForIo; simp (maxDischargeDepth := 99) [hS]

/-! ### BureauOps -/

@[simp ↓] theorem State.measure_sound (s : State) (i : Nat) (typ : Nat) (v : Bytes) (hS : s.Sound) :
    (@State.measure s i typ v).Sound := by unfold State.measure; simp (maxDischargeDepth := 99) [hS]

@[simp ↓] theorem State.measure8_sound (s : State) (phase : Nat) (hS : s.Sound) :
    (@State.measure8 s phase).Sound := by unfold State.measure8; simp (maxDischargeDepth := 99) [hS]

/-! ### Commands -/

@[simp ↓] theorem State.aerUncor_sound (s : State) (bit : Nat) (hS : s.Sound) :
    (@State.aerUncor s bit).Sound := by unfold State.aerUncor; (try dsimp only); (repeat' split) <;> simp (maxDischargeDepth := 99) +contextual [hS]

@[simp ↓] theorem State.unsup_sound (s : State) (read : Bool) (hS : s.Sound) :
    (@State.unsup s read).Sound := by unfold State.unsup; simp (maxDischargeDepth := 99) [hS]

@[simp ↓] theorem State.memReq_sound (s : State) (read : Bool) (f : State → State) (hS : s.Sound)
    (hf : ∀ t, t.Sound → (f t).Sound) :
    (@State.memReq s read f).Sound := by unfold State.memReq; (repeat' split) <;> simp (maxDischargeDepth := 99) [*]

@[simp ↓] theorem State.mmio_sound (s : State) (f : State → State) (hS : s.Sound) (hf : ∀ t, t.Sound → (f t).Sound) :
    (@State.mmio s f).Sound := by unfold State.mmio; exact State.memReq_sound _ _ _ hS hf

@[simp ↓] theorem State.doorbellError_sound (s : State) (qid : Nat) (hS : s.Sound) :
    (@State.doorbellError s qid).Sound := by unfold State.doorbellError; simp (maxDischargeDepth := 99) [hS]

@[simp ↓] theorem execSqTailDoorbell_sound (qid : Nat) (value : Word) (s : State) (hS : s.Sound) :
    Keeps (@execSqTailDoorbell qid value s) State.Sound := by
  unfold execSqTailDoorbell
  simp only [Keeps_next]
  refine State.mmio_sound _ _ hS (fun t ht => ?_)
  (repeat' split) <;> simp (maxDischargeDepth := 99) [*]

@[simp ↓] theorem State.intaLevel_sound (s : State) (hS : s.Sound) :
    (@State.intaLevel s).Sound := by unfold State.intaLevel; simp (maxDischargeDepth := 99) [hS]

@[simp ↓] theorem execCqHeadDoorbell_sound (qid : Nat) (value : Word) (s : State) (hS : s.Sound) :
    Keeps (@execCqHeadDoorbell qid value s) State.Sound := by
  unfold execCqHeadDoorbell
  simp only [Keeps_next]
  refine State.mmio_sound _ _ hS (fun t ht => ?_)
  (repeat' split) <;> simp (maxDischargeDepth := 99) [*]

@[simp ↓] theorem State.enter_sound (s : State) (sqid : Nat) (e : Sqe) (ranges : List (Nat × Nat × Bool)) (hS : s.Sound) :
    (@State.enter s sqid e ranges).Sound := by unfold State.enter; simp (maxDischargeDepth := 99) [hS]

@[simp ↓] theorem State.ltr_sound (s : State) (hS : s.Sound) :
    (@State.ltr s).Sound := by unfold State.ltr; simp (maxDischargeDepth := 99) [hS]

@[simp ↓] theorem State.deleteStep_sound (s : State) (hS : s.Sound) :
    (@State.deleteStep s).Sound := by unfold State.deleteStep; simp (maxDischargeDepth := 99) +contextual [hS]

@[simp ↓] theorem State.scanEnd_sound (s : State) (c : Cmd) (st : Nat) (hS : s.Sound) :
    (@State.scanEnd s c st).Sound := by unfold State.scanEnd; simp (maxDischargeDepth := 99) [hS]

@[simp ↓] theorem State.cancel_sound (s : State) (c : Cmd) (st : Status) (hS : s.Sound) :
    (@State.cancel s c st).Sound := by unfold State.cancel; simp (maxDischargeDepth := 99) [hS]

@[simp ↓] theorem State.deliver_sound (s : State) (hS : s.Sound) :
    (@State.deliver s).Sound := by unfold State.deliver; (try dsimp only); (repeat' split) <;> simp (maxDischargeDepth := 99) +contextual [hS]

@[simp ↓] theorem State.selfTest_sound (s : State) (fsn : Nat) (code : Nat) (go : State → State) (hS : s.Sound)
    (hf : ∀ t, t.Sound → (go t).Sound) :
    (@State.selfTest s fsn code go).Sound := by
  unfold State.selfTest
  (repeat' split) <;> simp (maxDischargeDepth := 99) [*]

@[simp ↓] theorem execCcEnSet_sound (cc : Word) (s : State) (hS : s.Sound) :
    Keeps (@execCcEnSet cc s) State.Sound := by
  unfold execCcEnSet
  simp only [Keeps_next]
  refine State.mmio_sound _ _ hS (fun t ht => ?_)
  (repeat' split) <;> simp (maxDischargeDepth := 99) [*]

@[simp ↓] theorem State.ctrlReset_sound (s : State) (cc : Word) (hS : s.Sound) :
    (@State.ctrlReset s cc).Sound := by unfold State.ctrlReset; simp (maxDischargeDepth := 99) +contextual [hS]

@[simp ↓] theorem execControllerReset_sound (cc : Word) (s : State) (hS : s.Sound) :
    Keeps (@execControllerReset cc s) State.Sound := by
  unfold execControllerReset
  simp only [Keeps_next]
  refine State.mmio_sound _ _ hS (fun t ht => ?_)
  (repeat' split) <;> simp (maxDischargeDepth := 99) [*]

@[simp ↓] theorem execShutdown_sound (cc : Word) (s : State) (hS : s.Sound) :
    Keeps (@execShutdown cc s) State.Sound := by unfold execShutdown; simp (maxDischargeDepth := 99) +contextual [hS]

@[simp ↓] theorem execIntms_sound (value : Word) (s : State) (hS : s.Sound) :
    Keeps (@execIntms value s) State.Sound := by unfold execIntms; (try dsimp only); (repeat' split) <;> simp (maxDischargeDepth := 99) +contextual [hS]

@[simp ↓] theorem execIntmc_sound (value : Word) (s : State) (hS : s.Sound) :
    Keeps (@execIntmc value s) State.Sound := by unfold execIntmc; (try dsimp only); (repeat' split) <;> simp (maxDischargeDepth := 99) +contextual [hS]

/-! ### Features -/

@[simp ↓] theorem State.tempWarn_sound (s : State) (hS : s.Sound) :
    (@State.tempWarn s).Sound := by unfold State.tempWarn; simp (maxDischargeDepth := 99) [hS]

@[simp ↓] theorem State.applyPs_sound (s : State) (n : Nat) (hS : s.Sound) :
    (@State.applyPs s n).Sound := by unfold State.applyPs; simp (maxDischargeDepth := 99) [hS]

@[simp ↓] theorem State.selectPs_sound (s : State) (n : Nat) (hS : s.Sound) :
    (@State.selectPs s n).Sound := by unfold State.selectPs; simp (maxDischargeDepth := 99) [hS]

@[simp ↓] theorem State.setFeats_sound (s : State) (f : Feats) (hS : s.Sound) :
    (@State.setFeats s f).Sound := by unfold State.setFeats; simp (maxDischargeDepth := 99) [hS]

@[simp ↓] theorem State.setThreshold_sound (s : State) (fsn : Nat) (d : Word) (hS : s.Sound) :
    (@State.setThreshold s fsn d).Sound := by unfold State.setThreshold; simp (maxDischargeDepth := 99) [hS]

@[simp ↓] theorem State.setWriteCache_sound (s : State) (c : Cmd) (on : Bool) (hS : s.Sound) :
    (@State.setWriteCache s c on).Sound := by unfold State.setWriteCache; simp (maxDischargeDepth := 99) [hS]

@[simp ↓] theorem State.setFeature_sound (s : State) (c : Cmd) (fid : Nat) (d : Word) (data : Bytes) (hS : s.Sound) :
    (@State.setFeature s c fid d data).Sound := by unfold State.setFeature; (try dsimp only); (repeat' split) <;> simp (maxDischargeDepth := 99) +contextual [hS]

/-! ### Logs -/

@[simp ↓] theorem State.clearEvents_sound (s : State) (lid : Nat) (hS : s.Sound) :
    (@State.clearEvents s lid).Sound := by unfold State.clearEvents; simp (maxDischargeDepth := 99) [hS]

/-! ### Io -/

@[simp ↓] theorem State.handIn_sound (s : State) (c : Cmd) (buf : List (Nat × Bytes)) (hS : s.Sound) :
    (@State.handIn s c buf).Sound := by unfold State.handIn; simp (maxDischargeDepth := 99) [hS]

@[simp ↓] theorem State.writeData_sound (s : State) (c : Cmd) (data : List Bytes) (xfer : Xfer) (sealed : Bool) (hS : s.Sound) :
    (@State.writeData s c data xfer sealed).Sound := by unfold State.writeData; (try dsimp only); (repeat' split) <;> simp (maxDischargeDepth := 99) +contextual [hS]

@[simp ↓] theorem State.zeroRange_sound (s : State) (r : Nat × Nat) (hS : s.Sound) :
    (@State.zeroRange s r).Sound := by unfold State.zeroRange; simp (maxDischargeDepth := 99) +contextual [hS]

@[simp ↓] theorem State.gatherHomes_sound (s : State) (l : List (Nat × Bytes)) (hS : s.Sound) :
    (@State.gatherHomes s l).Sound := by unfold State.gatherHomes; simp (maxDischargeDepth := 99) +contextual [hS]

@[simp ↓] theorem State.writerDone_sound (s : State) (c : Cmd) (must : Bool) (blocks : List Nat) (dw0 : Nat) (dw1 : Nat)
    (hS : s.Sound) :
    (@State.writerDone s c must blocks dw0 dw1).Sound := by unfold State.writerDone; simp (maxDischargeDepth := 99) [hS]

@[simp ↓] theorem State.commitWriter_sound (s : State) (c : Cmd) (z : Bool) (l : Layout) (current : List (Nat × Option Bytes))
    (hS : s.Sound) :
    (@State.commitWriter s c z l current).Sound := by
  unfold State.commitWriter
  try dsimp only
  repeat' (first | (simp (maxDischargeDepth := 99) +contextual [*]; done) | refine foldl_sound _ _ (fun t b ht => ?_) ?_ | split)
  all_goals simp_all (maxDischargeDepth := 99) +contextual

@[simp ↓] theorem State.resetZone_sound (s : State) (lz : Nat) (hS : s.Sound) :
    (@State.resetZone s lz).Sound := by unfold State.resetZone; (try dsimp only); (repeat' split) <;> simp (maxDischargeDepth := 99) +contextual [hS]

theorem State.finishZone_sound (s : State) (fsn : Nat) (lz : Nat) (hS : s.Sound) :
    ∀ t, @State.finishZone s fsn lz = some t → t.Sound := by unfold State.finishZone; (try dsimp only); (repeat' split) <;> simp (maxDischargeDepth := 99) +contextual [hS]

theorem State.zoneAct_sound (s : State) (fsn : Nat) (zsa : Nat) (lz : Nat) (hS : s.Sound) :
    ∀ t, @State.zoneAct s fsn zsa lz = some t → t.1.Sound := by
  intro t
  unfold State.zoneAct
  (repeat' split) <;> simp only [Option.some.injEq, Option.map_eq_some_iff] <;> intro h <;>
    first | (subst h; simp (maxDischargeDepth := 99) [*]) | (obtain ⟨u, hu, rfl⟩ := h; have hz := State.finishZone_sound s fsn lz hS; exact hz _ hu)

theorem State.zoneActs_sound (fsn : Nat) (zsa : Nat) (a2 : List Nat) (a3 : State) (hS : a3.Sound) :
    ∀ t, @State.zoneActs fsn zsa a2 a3 = some t → t.1.Sound := by
  induction a2 generalizing a3 with
  | nil => simp [State.zoneActs, hS]
  | cons a l ih =>
    intro t
    unfold State.zoneActs
    split
    · simp
    · rename_i u st hu
      simp only [Option.some.injEq]
      rintro rfl
      have hz := State.zoneAct_sound a3 fsn zsa a hS
      exact hz _ hu
    · rename_i u hu
      intro h
      have hz := State.zoneAct_sound a3 fsn zsa a hS
      exact ih _ (hz _ hu) _ h

@[simp ↓] theorem State.commitZones_sound (s : State) (c : Cmd) (l : Layout) (hS : s.Sound) :
    (@State.commitZones s c l).Sound := by
  unfold State.commitZones
  dsimp only
  split
  · exact hS
  · rename_i hu
    have hz := fun l => State.zoneActs_sound c.fsn (sqeZsa c.sqe) l s hS
    exact State.finish_sound _ _ _ _ _ (hz _ _ hu)
  · rename_i hu
    have hz := fun l => State.zoneActs_sound c.fsn (sqeZsa c.sqe) l s hS
    exact State.finish_sound _ _ _ _ _ (hz _ _ hu)

@[simp ↓] theorem State.tryCommit_sound (s : State) (fsn : Nat) (current : List (Nat × Option Bytes)) (hS : s.Sound) :
    (@State.tryCommit s fsn current).Sound := by unfold State.tryCommit; (try dsimp only); (repeat' split) <;> simp (maxDischargeDepth := 99) +contextual [hS]

@[simp ↓] theorem State.zoneSend_sound (s : State) (fsn : Nat) (zsa : Nat) (hS : s.Sound) :
    (@State.zoneSend s fsn zsa).Sound := by unfold State.zoneSend; (try dsimp only); (repeat' split) <;> simp (maxDischargeDepth := 99) +contextual [hS]

@[simp ↓] theorem State.snapshot_sound (s : State) (c : Cmd) (hS : s.Sound) :
    (@State.snapshot s c).Sound := by unfold State.snapshot; (try dsimp only); (repeat' split) <;> simp (maxDischargeDepth := 99) +contextual [hS]

@[simp ↓] theorem State.keepReads_sound (s : State) (c : Cmd) (media : List (Option Bytes)) (hS : s.Sound) :
    (@State.keepReads s c media).Sound := by
  unfold State.keepReads
  try dsimp only
  repeat' (first | (simp (maxDischargeDepth := 99) +contextual [*]; done) | refine foldl_sound _ _ (fun t b ht => ?_) ?_ | split)
  all_goals simp_all (maxDischargeDepth := 99) +contextual

@[simp ↓] theorem State.readerDone_sound (s : State) (c : Cmd) (hS : s.Sound) :
    (@State.readerDone s c).Sound := by unfold State.readerDone; simp (maxDischargeDepth := 99) [hS]

@[simp ↓] theorem State.flushStep_sound (s : State) (f : Cmd) (hS : s.Sound) :
    (@State.flushStep s f).Sound := by unfold State.flushStep; simp (maxDischargeDepth := 99) [hS]

@[simp ↓] theorem State.flushes_sound (s : State) (hS : s.Sound) :
    (@State.flushes s).Sound := by unfold State.flushes; simp (maxDischargeDepth := 99) +contextual [hS]

/-! ### Bureau -/

@[simp ↓] theorem State.progressTo_sound (s : State) (p : Progress) (hS : s.Sound) :
    (@State.progressTo s p).Sound := by unfold State.progressTo; simp (maxDischargeDepth := 99) [hS]

@[simp ↓] theorem State.discardAll_sound (s : State) (hS : s.Sound) :
    (@State.discardAll s).Sound := by unfold State.discardAll; simp (maxDischargeDepth := 99) [hS]

@[simp ↓] theorem State.drawKey_sound (s : State) (hS : s.Sound) :
    (@State.drawKey s).2.Sound := by unfold State.drawKey; simp (maxDischargeDepth := 99) [hS]

@[simp ↓] theorem State.drawPair_sound (a0 : Nat) (a1 : State) (hS : a1.Sound) :
    (@State.drawPair a0 a1).2.Sound := by
  induction a0 generalizing a1 with
  | zero => unfold State.drawPair; simp (maxDischargeDepth := 99) [*]
  | succ n ih =>
    unfold State.drawPair
    dsimp only
    split <;> first | exact ih _ (by simp (maxDischargeDepth := 99) [*]) | simp (maxDischargeDepth := 99) [*]

@[simp ↓] theorem State.drawKeys_sound (s : State) (p : Progress) (hS : s.Sound) :
    (@State.drawKeys s p).1.Sound := by unfold State.drawKeys; simp (maxDischargeDepth := 99) +contextual [hS]

@[simp ↓] theorem State.resetMap_sound (s : State) (p : Progress) (hS : s.Sound) :
    (@State.resetMap s p).Sound := by unfold State.resetMap; simp (maxDischargeDepth := 99) +contextual [hS]

@[simp ↓] theorem State.eraseChest_sound (s : State) (p : Progress) (hS : s.Sound) :
    (@State.eraseChest s p).Sound := by unfold State.eraseChest; simp (maxDischargeDepth := 99) [hS]

@[simp ↓] theorem State.loadKeys_sound (s : State) (keys : List (Nat × Bytes)) (hS : s.Sound) :
    (@State.loadKeys s keys).Sound := by unfold State.loadKeys; simp (maxDischargeDepth := 99) [hS]

@[simp ↓] theorem State.checkpointKeys_sound (s : State) (p : Progress) (hS : s.Sound) :
    (@State.checkpointKeys s p).Sound := by unfold State.checkpointKeys; simp (maxDischargeDepth := 99) [hS]

@[simp ↓] theorem State.opEnd_sound (s : State) (p : Progress) (hS : s.Sound) :
    (@State.opEnd s p).Sound := by unfold State.opEnd; (try dsimp only); (repeat' split) <;> simp (maxDischargeDepth := 99) +contextual [hS]

@[simp ↓] theorem State.opStep_sound (s : State) (hS : s.Sound) :
    (@State.opStep s).Sound := by unfold State.opStep; (try dsimp only); (repeat' split) <;> simp (maxDischargeDepth := 99) +contextual [hS]

@[simp ↓] theorem State.opBegin_sound (s : State) (op : Nat) (cdw10 : Word) (pattern : Word) (l : Layout) (hS : s.Sound) :
    (@State.opBegin s op cdw10 pattern l).Sound := by unfold State.opBegin; simp (maxDischargeDepth := 99) [hS]

@[simp ↓] theorem State.opStart_sound (s : State) (hS : s.Sound) :
    (@State.opStart s).Sound := by unfold State.opStart; (try dsimp only); (repeat' split) <;> simp (maxDischargeDepth := 99) +contextual [hS]

@[simp ↓] theorem State.sanitize_sound (s : State) (fsn : Nat) (act : Nat) (hS : s.Sound) :
    (@State.sanitize s fsn act).Sound := by unfold State.sanitize; (try dsimp only); (repeat' split) <;> simp (maxDischargeDepth := 99) +contextual [hS]

/-! ### Completion -/

@[simp ↓] theorem State.settle_sound (s : State) (hS : s.Sound) :
    (@State.settle s).Sound := by unfold State.settle; simp (maxDischargeDepth := 99) [hS]

@[simp ↓] theorem execCommitDurable_sound (slot : Nat) (s : State) (hS : s.Sound) :
    Keeps (@execCommitDurable slot s) State.Sound := by unfold execCommitDurable; (try dsimp only); (repeat' split) <;> simp (maxDischargeDepth := 99) +contextual [hS]

/-! ### Boot -/

@[simp ↓] theorem State.toPhase_sound (s : State) (n : Nat) (hS : s.Sound) :
    (@State.toPhase s n).Sound := by unfold State.toPhase; simp (maxDischargeDepth := 99) [hS]

@[simp ↓] theorem State.bootCode_sound (s : State) (sev : Nat) (code : Nat) (unit : Nat) (hS : s.Sound) :
    (@State.bootCode s sev code unit).Sound := by unfold State.bootCode; simp (maxDischargeDepth := 99) [hS]

@[simp ↓] theorem State.halt_sound (s : State) (code : Nat) (unit : Nat) (hS : s.Sound) :
    (@State.halt s code unit).Sound := by unfold State.halt; simp (maxDischargeDepth := 99) [hS]

@[simp ↓] theorem State.hold_sound (s : State) (code : Nat) (unit : Nat) (hS : s.Sound) :
    (@State.hold s code unit).Sound := by unfold State.hold; simp (maxDischargeDepth := 99) [hS]

@[simp ↓] theorem State.holdIo_sound (s : State) (hS : s.Sound) :
    (@State.holdIo s).Sound := by unfold State.holdIo; simp (maxDischargeDepth := 99) [hS]

@[simp ↓] theorem State.loseAct_sound (s : State) (x : Act) (hS : s.Sound) :
    (@State.loseAct s x).Sound := by unfold State.loseAct; simp (maxDischargeDepth := 99) [hS]

@[simp ↓] theorem State.closeGates_sound (s : State) (x : Act) (hS : s.Sound) :
    (@State.closeGates s x).Sound := by unfold State.closeGates; simp (maxDischargeDepth := 99) [hS]

/-! ### Link -/

@[simp ↓] theorem State.sendSet_sound (s : State) (p : Port) (down : Bool) (o : OSet) (hS : s.Sound) :
    (@State.sendSet s p down o).Sound := by unfold State.sendSet; simp (maxDischargeDepth := 99) [hS]

@[simp ↓] theorem State.setArrives_sound (s : State) (p : Port) (down : Bool) (o : OSet) (hS : s.Sound) :
    (@State.setArrives s p down o).Sound := by unfold State.setArrives; simp (maxDischargeDepth := 99) [hS]

@[simp ↓] theorem State.sendCell_sound (s : State) (p : Port) (c : Cell) (hS : s.Sound) :
    (@State.sendCell s p c).Sound := by unfold State.sendCell; simp (maxDischargeDepth := 99) [hS]

@[simp ↓] theorem State.sendCmd_sound (s : State) (p : Port) (unit : Nat) (opcode : Nat) (body : Bytes) (hS : s.Sound) :
    (@State.sendCmd s p unit opcode body).Sound := by unfold State.sendCmd; simp (maxDischargeDepth := 99) [hS]

@[simp ↓] theorem State.feCmd_sound (s : State) (x : Act) (unit : Nat) (opcode : Nat) (body : Bytes) (hS : s.Sound) :
    (@State.feCmd s x unit opcode body).Sound := by unfold State.feCmd; simp (maxDischargeDepth := 99) [hS]

@[simp ↓] theorem State.motCmd_sound (s : State) (unit : Nat) (opcode : Nat) (body : Bytes) (hS : s.Sound) :
    (@State.motCmd s unit opcode body).Sound := by unfold State.motCmd; simp (maxDischargeDepth := 99) [hS]

@[simp ↓] theorem State.retrainStart_sound (s : State) (p : Port) (hS : s.Sound) :
    (@State.retrainStart s p).Sound := by unfold State.retrainStart; simp (maxDischargeDepth := 99) [hS]

@[simp ↓] theorem State.resendFrom_sound (s : State) (p : Port) (atController : Bool) (i : Nat) (hS : s.Sound) :
    (@State.resendFrom s p atController i).Sound := by unfold State.resendFrom; simp (maxDischargeDepth := 99) [hS]

@[simp ↓] theorem State.accept_sound (s : State) (p : Port) (h : CellHdr) (sequenced : Bool) (hS : s.Sound) :
    (@State.accept s p h sequenced).1.Sound := by unfold State.accept; simp (maxDischargeDepth := 99) [hS]

@[simp ↓] theorem State.parAccept_sound (s : State) (p : Port) (hS : s.Sound) :
    (@State.parAccept s p).Sound := by unfold State.parAccept; simp (maxDischargeDepth := 99) [hS]

@[simp ↓] theorem State.takeCred_sound (s : State) (p : Port) (hS : s.Sound) :
    (@State.takeCred s p).1.Sound := by unfold State.takeCred; (try dsimp only); (repeat' split) <;> simp (maxDischargeDepth := 99) +contextual [hS]

@[simp ↓] theorem State.parSend_sound (s : State) (p : Port) (c0 : Cell) (hS : s.Sound) :
    (@State.parSend s p c0).Sound := by unfold State.parSend; simp (maxDischargeDepth := 99) [hS]

@[simp ↓] theorem State.answer_sound (s : State) (p : Port) (unit : Nat) (status : Nat) (opcode : Nat) (tag : Byte)
    (body : Bytes) (hS : s.Sound) :
    (@State.answer s p unit status opcode tag body).Sound := by unfold State.answer; simp (maxDischargeDepth := 99) [hS]

@[simp ↓] theorem State.trainStart_sound (s : State) (p : Port) (wake : Bool) (hS : s.Sound) :
    (@State.trainStart s p wake).Sound := by unfold State.trainStart; simp (maxDischargeDepth := 99) [hS]

@[simp ↓] theorem State.linkReady_sound (s : State) (p : Port) (asideUp : Option Nat) (asideDn : Option Nat) (up : Nat)
    (dn : Nat) (narrow : Bool) (hS : s.Sound) :
    (@State.linkReady s p asideUp asideDn up dn narrow).Sound := by unfold State.linkReady; simp (maxDischargeDepth := 99) [hS]

@[simp ↓] theorem State.linkDown_sound (s : State) (p : Port) (hS : s.Sound) :
    (@State.linkDown s p).Sound := by unfold State.linkDown; (try dsimp only); (repeat' split) <;> simp (maxDischargeDepth := 99) +contextual [hS]

/-! ### FrontEnd -/

@[simp ↓] theorem State.returnCredits_sound (s : State) (x : Act) (hS : s.Sound) :
    (@State.returnCredits s x).Sound := by unfold State.returnCredits; simp (maxDischargeDepth := 99) [hS]

@[simp ↓] theorem State.feExec_sound (s : State) (x : Act) (unit : Nat) (opcode : Nat) (tag : Byte)
    (f : FrontEnd → FrontEnd × Nat × Bytes) (hS : s.Sound) :
    (@State.feExec s x unit opcode tag f).Sound := by unfold State.feExec; simp (maxDischargeDepth := 99) [hS]

@[simp ↓] theorem State.feEvent_sound (s : State) (x : Act) (unit : Nat) (code : Nat) (head : Nat) (sidx : Word) (hS : s.Sound) :
    (@State.feEvent s x unit code head sidx).Sound := by unfold State.feEvent; simp (maxDischargeDepth := 99) [hS]

/-! ### Motion -/

@[simp ↓] theorem State.motExec_sound (s : State) (unit : Nat) (opcode : Nat) (tag : Byte)
    (f : MotionChip → MotionChip × Nat × Bytes) (hS : s.Sound) :
    (@State.motExec s unit opcode tag f).Sound := by unfold State.motExec; simp (maxDischargeDepth := 99) [hS]

/-! ### ServoOps -/

@[simp ↓] theorem State.toAct_sound (s : State) (x : Act) (n : Nat) (hS : s.Sound) :
    (@State.toAct s x n).Sound := by unfold State.toAct; simp (maxDischargeDepth := 99) [hS]

@[simp ↓] theorem State.setFsq_sound (s : State) (n : Nat) (f : Fsq) (hS : s.Sound) :
    (@State.setFsq s n f).Sound := by unfold State.setFsq; simp (maxDischargeDepth := 99) [hS]

@[simp ↓] theorem State.assistOff_sound (s : State) (ch : Nat) (hS : s.Sound) :
    (@State.assistOff s ch).Sound := by unfold State.assistOff; (try dsimp only); (repeat' split) <;> simp (maxDischargeDepth := 99) +contextual [hS]

@[simp ↓] theorem State.sendWih_sound (s : State) (x : Act) (mask : Nat) (hS : s.Sound) :
    (@State.sendWih s x mask).Sound := by unfold State.sendWih; simp (maxDischargeDepth := 99) [hS]

@[simp ↓] theorem State.stopUnits_sound (s : State) (x : Act) (mask : Nat) (hS : s.Sound) :
    (@State.stopUnits s x mask).Sound := by
  unfold State.stopUnits
  try dsimp only
  repeat' (first | (simp (maxDischargeDepth := 99) +contextual [*]; done) | refine foldl_sound _ _ (fun t b ht => ?_) ?_ | split)
  all_goals simp_all (maxDischargeDepth := 99) +contextual

@[simp ↓] theorem State.stopWrites_sound (s : State) (x : Act) (mask : Nat) (hS : s.Sound) :
    (@State.stopWrites s x mask).Sound := by unfold State.stopWrites; simp (maxDischargeDepth := 99) [hS]

@[simp ↓] theorem State.microOff_sound (s : State) (x : Act) (hS : s.Sound) :
    (@State.microOff s x).Sound := by unfold State.microOff; simp (maxDischargeDepth := 99) [hS]

@[simp ↓] theorem State.retractAct_sound (s : State) (x : Act) (hS : s.Sound) :
    (@State.retractAct s x).Sound := by unfold State.retractAct; simp (maxDischargeDepth := 99) [hS]

@[simp ↓] theorem State.unloadAct_sound (s : State) (x : Act) (hS : s.Sound) :
    (@State.unloadAct s x).Sound := by unfold State.unloadAct; simp (maxDischargeDepth := 99) [hS]

@[simp ↓] theorem State.unloadBoth_sound (s : State) (hS : s.Sound) :
    (@State.unloadBoth s).Sound := by unfold State.unloadBoth; simp (maxDischargeDepth := 99) [hS]

/-! ### Spindle -/

@[simp ↓] theorem State.toSpin_sound (s : State) (n : Nat) (hS : s.Sound) :
    (@State.toSpin s n).Sound := by unfold State.toSpin; simp (maxDischargeDepth := 99) [hS]

@[simp ↓] theorem State.setSpin_sound (s : State) (v : Spindle) (hS : s.Sound) :
    (@State.setSpin s v).Sound := by unfold State.setSpin; simp (maxDischargeDepth := 99) [hS]

@[simp ↓] theorem State.limitAt_sound (s : State) (rpm : Nat) (hS : s.Sound) :
    (@State.limitAt s rpm).Sound := by unfold State.limitAt; simp (maxDischargeDepth := 99) [hS]

@[simp ↓] theorem State.sendMode_sound (s : State) (mode : Nat) (limit : Nat) (hS : s.Sound) :
    (@State.sendMode s mode limit).Sound := by unfold State.sendMode; simp (maxDischargeDepth := 99) [hS]

@[simp ↓] theorem State.driveAt_sound (s : State) (lt : Word) (angle : Int) (rate : Int) (ampl : Nat) (hS : s.Sound) :
    (@State.driveAt s lt angle rate ampl).Sound := by unfold State.driveAt; simp (maxDischargeDepth := 99) [hS]

@[simp ↓] theorem State.sendDrive_sound (s : State) (lt : Word) (hS : s.Sound) :
    (@State.sendDrive s lt).Sound := by unfold State.sendDrive; simp (maxDischargeDepth := 99) [hS]

@[simp ↓] theorem State.sendTable_sound (s : State) (hS : s.Sound) :
    (@State.sendTable s).Sound := by unfold State.sendTable; simp (maxDischargeDepth := 99) +contextual [hS]

@[simp ↓] theorem State.offSpeed_sound (s : State) (hS : s.Sound) :
    (@State.offSpeed s).Sound := by unfold State.offSpeed; simp (maxDischargeDepth := 99) [hS]

@[simp ↓] theorem State.takeTarget_sound (s : State) (n : Nat) (hS : s.Sound) :
    (@State.takeTarget s n).Sound := by unfold State.takeTarget; simp (maxDischargeDepth := 99) [hS]

@[simp ↓] theorem State.observe_sound (s : State) (hS : s.Sound) :
    (@State.observe s).Sound := by unfold State.observe; simp (maxDischargeDepth := 99) [hS]

@[simp ↓] theorem State.startSpin_sound (s : State) (hS : s.Sound) :
    (@State.startSpin s).Sound := by unfold State.startSpin; simp (maxDischargeDepth := 99) [hS]

@[simp ↓] theorem State.stopSpin_sound (s : State) (hS : s.Sound) :
    (@State.stopSpin s).Sound := by unfold State.stopSpin; simp (maxDischargeDepth := 99) [hS]

@[simp ↓] theorem State.lowerTarget_sound (s : State) (hS : s.Sound) :
    (@State.lowerTarget s).Sound := by unfold State.lowerTarget; (try dsimp only); (repeat' split) <;> simp (maxDischargeDepth := 99) +contextual [hS]

@[simp ↓] theorem State.setDemand_sound (s : State) (d : Nat) (hS : s.Sound) :
    (@State.setDemand s d).Sound := by unfold State.setDemand; simp (maxDischargeDepth := 99) [hS]

@[simp ↓] theorem State.spinFault_sound (s : State) (detail : Nat) (hS : s.Sound) :
    (@State.spinFault s detail).Sound := by unfold State.spinFault; simp (maxDischargeDepth := 99) [hS]

@[simp ↓] theorem State.catch__sound (s : State) (l : List Crossing) (hS : s.Sound) :
    (@State.catch_ s l).Sound := by unfold State.catch_; (try dsimp only); (repeat' split) <;> simp (maxDischargeDepth := 99) +contextual [hS]

@[simp ↓] theorem State.align_sound (s : State) (hS : s.Sound) :
    (@State.align s).Sound := by unfold State.align; simp (maxDischargeDepth := 99) [hS]

@[simp ↓] theorem State.brake_sound (s : State) (hS : s.Sound) :
    (@State.brake s).Sound := by unfold State.brake; simp (maxDischargeDepth := 99) [hS]

@[simp ↓] theorem State.observed_sound (s : State) (hS : s.Sound) :
    (@State.observed s).Sound := by unfold State.observed; simp (maxDischargeDepth := 99) [hS]

@[simp ↓] theorem State.stopped_sound (s : State) (hS : s.Sound) :
    (@State.stopped s).Sound := by unfold State.stopped; simp (maxDischargeDepth := 99) [hS]

@[simp ↓] theorem State.atSpeed_sound (s : State) (hS : s.Sound) :
    (@State.atSpeed s).Sound := by unfold State.atSpeed; simp (maxDischargeDepth := 99) [hS]

@[simp ↓] theorem State.loopStep_sound (s : State) (e : Rat) (te : Rat) (hS : s.Sound) :
    (@State.loopStep s e te).1.Sound := by unfold State.loopStep; simp (maxDischargeDepth := 99) [hS]

@[simp ↓] theorem State.raiseTarget_sound (s : State) (hS : s.Sound) :
    (@State.raiseTarget s).Sound := by unfold State.raiseTarget; (try dsimp only); (repeat' split) <;> simp (maxDischargeDepth := 99) +contextual [hS]

@[simp ↓] theorem State.inertiaRun_sound (s : State) (rpm : Nat) (t : Word) (hS : s.Sound) :
    (@State.inertiaRun s rpm t).Sound := by unfold State.inertiaRun; simp (maxDischargeDepth := 99) [hS]

@[simp ↓] theorem State.speedLoop_sound (s : State) (t : Word) (hS : s.Sound) :
    (@State.speedLoop s t).Sound := by unfold State.speedLoop; simp (maxDischargeDepth := 99) [hS]

@[simp ↓] theorem State.respin_sound (s : State) (now : Nat) (hS : s.Sound) :
    (@State.respin s now).Sound := by unfold State.respin; simp (maxDischargeDepth := 99) [hS]

@[simp ↓] theorem State.rotorLost_sound (s : State) (now : Nat) (hS : s.Sound) :
    (@State.rotorLost s now).Sound := by unfold State.rotorLost; (try dsimp only); (repeat' split) <;> simp (maxDischargeDepth := 99) +contextual [hS]

@[simp ↓] theorem State.handoverOk_sound (s : State) (hS : s.Sound) :
    (@State.handoverOk s).Sound := by unfold State.handoverOk; simp (maxDischargeDepth := 99) [hS]

@[simp ↓] theorem State.crossing_sound (s : State) (c : Crossing) (now : Nat) (hS : s.Sound) :
    (@State.crossing s c now).Sound := by unfold State.crossing; simp (maxDischargeDepth := 99) [hS]

@[simp ↓] theorem State.elecCell_sound (s : State) (lt : Word) (iU : Int) (iV : Int) (vU : Int) (vV : Int) (vW : Int)
    (now : Nat) (hS : s.Sound) :
    (@State.elecCell s lt iU iV vU vV vW now).Sound := by unfold State.elecCell; simp (maxDischargeDepth := 99) +contextual [hS]

@[simp ↓] theorem State.overcurrent_sound (s : State) (now : Nat) (hS : s.Sound) :
    (@State.overcurrent s now).Sound := by unfold State.overcurrent; simp (maxDischargeDepth := 99) [hS]

/-! ### Servo -/

@[simp ↓] theorem State.mapUnit_sound (s : State) (x : Act) (u : Nat) (f : ServoUnit → ServoUnit) (hS : s.Sound) :
    (@State.mapUnit s x u f).Sound := by unfold State.mapUnit; simp (maxDischargeDepth := 99) [hS]

@[simp ↓] theorem State.putTables_sound (s : State) (t : ServoTables) (hS : s.Sound) :
    (@State.putTables s t).Sound := by unfold State.putTables; simp (maxDischargeDepth := 99) [hS]

@[simp ↓] theorem State.vcmMode_sound (s : State) (x : Act) (m : Nat) (hS : s.Sound) :
    (@State.vcmMode s x m).Sound := by unfold State.vcmMode; simp (maxDischargeDepth := 99) [hS]

@[simp ↓] theorem State.microMode_sound (s : State) (x : Act) (u : Nat) (m : Nat) (hS : s.Sound) :
    (@State.microMode s x u m).Sound := by unfold State.microMode; simp (maxDischargeDepth := 99) [hS]

@[simp ↓] theorem State.swapBank_sound (s : State) (x : Act) (hS : s.Sound) :
    (@State.swapBank s x).Sound := by unfold State.swapBank; simp (maxDischargeDepth := 99) [hS]

@[simp ↓] theorem State.maSelect_sound (s : State) (x : Act) (hS : s.Sound) :
    (@State.maSelect s x).Sound := by unfold State.maSelect; simp (maxDischargeDepth := 99) [hS]

@[simp ↓] theorem State.selectHead_sound (s : State) (x : Act) (u : Nat) (h : Nat) (hS : s.Sound) :
    (@State.selectHead s x u h).Sound := by unfold State.selectHead; simp (maxDischargeDepth := 99) [hS]

@[simp ↓] theorem State.pathCtrl_sound (s : State) (x : Act) (u : Nat) (on : Bool) (hS : s.Sound) :
    (@State.pathCtrl s x u on).Sound := by unfold State.pathCtrl; simp (maxDischargeDepth := 99) [hS]

@[simp ↓] theorem State.startMove_sound (s : State) (x : Act) (m : ArmMove) (hS : s.Sound) :
    (@State.startMove s x m).Sound := by unfold State.startMove; (try dsimp only); (repeat' split) <;> simp (maxDischargeDepth := 99) +contextual [hS]

@[simp ↓] theorem State.moveUnit_sound (s : State) (x : Act) (u : Nat) (h : Nat) (target : Int) (hS : s.Sound) :
    (@State.moveUnit s x u h target).Sound := by unfold State.moveUnit; simp (maxDischargeDepth := 99) [hS]

@[simp ↓] theorem State.sendSetpt_sound (s : State) (x : Act) (wedge : Nat) (apply : Nat) (vcm : Int) (m0 : Int) (m1 : Int)
    (hS : s.Sound) :
    (@State.sendSetpt s x wedge apply vcm m0 m1).Sound := by unfold State.sendSetpt; simp (maxDischargeDepth := 99) [hS]

@[simp ↓] theorem State.countMiss_sound (s : State) (x : Act) (u : Nat) (missed : Bool) (hS : s.Sound) :
    (@State.countMiss s x u missed).Sound := by unfold State.countMiss; simp (maxDischargeDepth := 99) [hS]

@[simp ↓] theorem State.lockLost_sound (s : State) (x : Act) (hS : s.Sound) :
    (@State.lockLost s x).Sound := by unfold State.lockLost; simp (maxDischargeDepth := 99) [hS]

@[simp ↓] theorem State.seekFailed_sound (s : State) (x : Act) (arm : Int) (k : SeekRef) (hS : s.Sound) :
    (@State.seekFailed s x arm k).Sound := by unfold State.seekFailed; simp (maxDischargeDepth := 99) [hS]

@[simp ↓] theorem State.enterSettle_sound (s : State) (x : Act) (hS : s.Sound) :
    (@State.enterSettle s x).Sound := by unfold State.enterSettle; simp (maxDischargeDepth := 99) +contextual [hS]

@[simp ↓] theorem State.seekTime_sound (s : State) (x : Act) (hS : s.Sound) :
    (@State.seekTime s x).Sound := by unfold State.seekTime; (try dsimp only); (repeat' split) <;> simp (maxDischargeDepth := 99) +contextual [hS]

@[simp ↓] theorem State.enterFollow_sound (s : State) (x : Act) (hS : s.Sound) :
    (@State.enterFollow s x).Sound := by unfold State.enterFollow; simp (maxDischargeDepth := 99) +contextual [hS]

@[simp ↓] theorem State.reacquired_sound (s : State) (x : Act) (arm : Int) (hS : s.Sound) :
    (@State.reacquired s x arm).Sound := by unfold State.reacquired; simp (maxDischargeDepth := 99) [hS]

@[simp ↓] theorem State.permit_sound (s : State) (x : Act) (errs : List (Option Int)) (inTime : Bool) (hS : s.Sound) :
    (@State.permit s x errs inTime).Sound := by unfold State.permit; simp (maxDischargeDepth := 99) [hS]

@[simp ↓] theorem State.microNext_sound (s : State) (x : Act) (u : Nat) (uc : Int) (ud : Int) (m : Option UnitMeas)
    (arm : Int) (hS : s.Sound) :
    (@State.microNext s x u uc ud m arm).Sound := by unfold State.microNext; simp (maxDischargeDepth := 99) [hS]

@[simp ↓] theorem State.takeMeas_sound (s : State) (x : Act) (u : Nat) (o : WedgeObs) (m : Option UnitMeas) (index : Nat)
    (arm : Int) (hS : s.Sound) :
    (@State.takeMeas s x u o m index arm).Sound := by unfold State.takeMeas; (try dsimp only); (repeat' split) <;> simp (maxDischargeDepth := 99) +contextual [hS]

@[simp ↓] theorem State.servoTrans_sound (s : State) (x : Act) (y : Option Rat) (armMeas : Int) (left : Nat)
    (errs : List (Option Int)) (hS : s.Sound) :
    (@State.servoTrans s x y armMeas left errs).Sound := by unfold State.servoTrans; (try dsimp only); (repeat' split) <;> simp (maxDischargeDepth := 99) +contextual [hS]

@[simp ↓] theorem State.takeMoves_sound (s : State) (x : Act) (hS : s.Sound) :
    (@State.takeMoves s x).Sound := by
  unfold State.takeMoves
  try dsimp only
  repeat' (first | (simp (maxDischargeDepth := 99) +contextual [*]; done) | refine foldl_sound _ _ (fun t b ht => ?_) ?_ | split)
  all_goals simp_all (maxDischargeDepth := 99) +contextual

@[simp ↓] theorem State.takeSeek_sound (s : State) (x : Act) (hS : s.Sound) :
    (@State.takeSeek s x).Sound := by unfold State.takeSeek; (try dsimp only); (repeat' split) <;> simp (maxDischargeDepth := 99) +contextual [hS]

@[simp ↓] theorem State.takePending_sound (s : State) (x : Act) (hS : s.Sound) :
    (@State.takePending s x).Sound := by
  unfold State.takePending
  dsimp only
  split
  · exact hS
  · split
    · simp (maxDischargeDepth := 99) [*]
    · have h2 : (State.Sound) ((s.takeMoves x).takeSeek x) := by simp (maxDischargeDepth := 99) [*]
      split
      · simp (maxDischargeDepth := 99) [*]
      · exact h2

@[simp ↓] theorem State.lawDone_sound (s : State) (x : Act) (xhat : List Int) (drive : Int) (tk : Nat) (w : Nat)
    (intervals : List Nat) (miss : Bool) (sat : Nat) (hS : s.Sound) :
    (@State.lawDone s x xhat drive tk w intervals miss sat).Sound := by unfold State.lawDone; simp (maxDischargeDepth := 99) [hS]

@[simp ↓] theorem State.wedgeEnd_sound (s : State) (x : Act) (errs : List (Option Int)) (y : Option Rat) (arm : Int)
    (left : Nat) (inTime : Bool) (hS : s.Sound) :
    (@State.wedgeEnd s x errs y arm left inTime).Sound := by unfold State.wedgeEnd; simp (maxDischargeDepth := 99) [hS]

@[simp ↓] theorem State.loopWedge_sound (s : State) (x : Act) (o0 : WedgeObs) (o1 : WedgeObs) (inTime : Bool) (hS : s.Sound) :
    (@State.loopWedge s x o0 o1 inTime).Sound := by
  unfold State.loopWedge
  extract_lets
  split
  try extract_lets
  split
  try extract_lets
  split
  try extract_lets
  split
  try extract_lets
  split
  try extract_lets
  refine State.wedgeEnd_sound _ _ _ _ _ _ _ (foldl_sound _ _ (fun t b ht => State.takeMeas_sound _ _ _ _ _ _ _ ht) ?_)
  refine State.microNext_sound _ _ _ _ _ _ _ (State.microNext_sound _ _ _ _ _ _ _ (State.lawDone_sound _ _ _ _ _ _ _ _ _ ?_))
  exact State.sendSetpt_sound _ _ _ _ _ _ _ hS

@[simp ↓] theorem State.closeLoop_sound (s : State) (x : Act) (u : Nat) (hS : s.Sound) :
    (@State.closeLoop s x u).Sound := by unfold State.closeLoop; simp (maxDischargeDepth := 99) [hS]

@[simp ↓] theorem State.loadWedge_sound (s : State) (x : Act) (o0 : WedgeObs) (o1 : WedgeObs) (hS : s.Sound) :
    (@State.loadWedge s x o0 o1).Sound := by unfold State.loadWedge; simp (maxDischargeDepth := 99) [hS]

@[simp ↓] theorem State.loadPulse_sound (s : State) (x : Act) (lt : Word) (hS : s.Sound) :
    (@State.loadPulse s x lt).Sound := by unfold State.loadPulse; (try dsimp only); (repeat' split) <;> simp (maxDischargeDepth := 99) +contextual [hS]

@[simp ↓] theorem State.loadFailed_sound (s : State) (x : Act) (now : Nat) (hS : s.Sound) :
    (@State.loadFailed s x now).Sound := by unfold State.loadFailed; simp (maxDischargeDepth := 99) [hS]

@[simp ↓] theorem State.learnRunout_sound (s : State) (x : Act) (u : Nat) (e : List Int) (hS : s.Sound) :
    (@State.learnRunout s x u e).Sound := by unfold State.learnRunout; simp (maxDischargeDepth := 99) +contextual [hS]

@[simp ↓] theorem State.shiftMap_sound (s : State) (h : Nat) (p : Int) (d : Int) (hS : s.Sound) :
    (@State.shiftMap s h p d).Sound := by unfold State.shiftMap; simp (maxDischargeDepth := 99) [hS]

@[simp ↓] theorem State.learnMap_sound (s : State) (x : Act) (m : Int) (hS : s.Sound) :
    (@State.learnMap s x m).Sound := by unfold State.learnMap; (try dsimp only); (repeat' split) <;> simp (maxDischargeDepth := 99) +contextual [hS]

@[simp ↓] theorem State.calibrate_sound (s : State) (x : Act) (m : CalMeas) (hS : s.Sound) :
    (@State.calibrate s x m).Sound := by unfold State.calibrate; simp (maxDischargeDepth := 99) +contextual [hS]

@[simp ↓] theorem State.recalled_sound (s : State) (x : Act) (hS : s.Sound) :
    (@State.recalled s x).Sound := by unfold State.recalled; simp (maxDischargeDepth := 99) [hS]

@[simp ↓] theorem State.dropRetired_sound (s : State) (x : Act) (hS : s.Sound) :
    (@State.dropRetired s x).Sound := by unfold State.dropRetired; simp (maxDischargeDepth := 99) +contextual [hS]

@[simp ↓] theorem State.retireSearched_sound (s : State) (x : Act) (hS : s.Sound) :
    (@State.retireSearched s x).Sound := by unfold State.retireSearched; simp (maxDischargeDepth := 99) +contextual [hS]

/-! ### LinkRows -/

@[simp ↓] theorem State.channelOut_sound (s : State) (x : Act) (u : Nat) (out : Bool) (hS : s.Sound) :
    (@State.channelOut s x u out).Sound := by unfold State.channelOut; (try dsimp only); (repeat' split) <;> simp (maxDischargeDepth := 99) +contextual [hS]

@[simp ↓] theorem State.narrowChannel_sound (s : State) (x : Act) (narrow : Bool) (hS : s.Sound) :
    (@State.narrowChannel s x narrow).Sound := by unfold State.narrowChannel; simp (maxDischargeDepth := 99) [hS]

@[simp ↓] theorem State.mapAssist_sound (s : State) (h : Nat) (f : AssistHead → AssistHead) (hS : s.Sound) :
    (@State.mapAssist s h f).Sound := by unfold State.mapAssist; simp (maxDischargeDepth := 99) [hS]

@[simp ↓] theorem State.recalDue_sound (s : State) (h : Nat) (atOnce : Bool) (hS : s.Sound) :
    (@State.recalDue s h atOnce).Sound := by unfold State.recalDue; simp (maxDischargeDepth := 99) [hS]

@[simp ↓] theorem State.assistEvent_sound (s : State) (h : Nat) (now : Nat) (hS : s.Sound) :
    (@State.assistEvent s h now).Sound := by unfold State.assistEvent; (try dsimp only); (repeat' split) <;> simp (maxDischargeDepth := 99) +contextual [hS]

@[simp ↓] theorem State.shockAlarm_sound (s : State) (x : Act) (hS : s.Sound) :
    (@State.shockAlarm s x).Sound := by unfold State.shockAlarm; simp (maxDischargeDepth := 99) [hS]

@[simp ↓] theorem State.badHead_sound (s : State) (h : Nat) (hS : s.Sound) :
    (@State.badHead s h).Sound := by unfold State.badHead; simp (maxDischargeDepth := 99) [hS]

@[simp ↓] theorem State.retracted_sound (s : State) (x : Act) (hS : s.Sound) :
    (@State.retracted s x).Sound := by unfold State.retracted; simp (maxDischargeDepth := 99) [hS]

@[simp ↓] theorem State.feEventCode_sound (s : State) (x : Act) (code : Nat) (head : Nat) (now : Nat) (hS : s.Sound) :
    (@State.feEventCode s x code head now).Sound := by unfold State.feEventCode; simp (maxDischargeDepth := 99) [hS]

@[simp ↓] theorem State.monDrift_sound (s : State) (x : Act) (u : Nat) (m : MonUnit) (hS : s.Sound) :
    (@State.monDrift s x u m).Sound := by unfold State.monDrift; (try dsimp only); (repeat' split) <;> simp (maxDischargeDepth := 99) +contextual [hS]

@[simp ↓] theorem State.ezpolTrain_sound (s : State) (hS : s.Sound) :
    (@State.ezpolTrain s).Sound := by unfold State.ezpolTrain; simp (maxDischargeDepth := 99) [hS]

@[simp ↓] theorem State.motionIdent_sound (s : State) (status : Nat) (body : Bytes) (hS : s.Sound) :
    (@State.motionIdent s status body).Sound := by unfold State.motionIdent; simp (maxDischargeDepth := 99) [hS]

@[simp ↓] theorem State.feIdent_sound (s : State) (x : Act) (body : Bytes) (hS : s.Sound) :
    (@State.feIdent s x body).Sound := by unfold State.feIdent; simp (maxDischargeDepth := 99) +contextual [hS]

@[simp ↓] theorem State.saveIfWarm_sound (s : State) (hS : s.Sound) :
    (@State.saveIfWarm s).Sound := by unfold State.saveIfWarm; simp (maxDischargeDepth := 99) [hS]

/-! ### Mec -/

@[simp ↓] theorem State.retryLost_sound (s : State) (ch : Nat) (tag : Word) (hS : s.Sound) :
    (@State.retryLost s ch tag).Sound := by unfold State.retryLost; simp (maxDischargeDepth := 99) +contextual [hS]

@[simp ↓] theorem State.ueRegion_sound (s : State) (a1 : UeRegion) (hS : s.Sound) :
    (@State.ueRegion s a1).Sound := by unfold State.ueRegion; (try dsimp only); (repeat' split) <;> simp (maxDischargeDepth := 99) +contextual [hS]

@[simp ↓] theorem State.haltInfo_sound (s : State) (chan : Nat) (m : Mem) (u : Nat) (moved : Nat) (hS : s.Sound) :
    (@State.haltInfo s chan m u moved).Sound := by unfold State.haltInfo; simp (maxDischargeDepth := 99) [hS]

@[simp ↓] theorem State.ringEnd_sound (s : State) (n : Nat) (d : Desc) (st : Nat) (hS : s.Sound) :
    (@State.ringEnd s n d st).Sound := by unfold State.ringEnd; simp (maxDischargeDepth := 99) [hS]

@[simp ↓] theorem State.streamHalt_sound (s : State) (m : Nat) (hS : s.Sound) :
    (@State.streamHalt s m).Sound := by unfold State.streamHalt; simp (maxDischargeDepth := 99) [hS]

@[simp ↓] theorem State.dmaHalt_sound (s : State) (chan : Nat) (m : Mem) (u : Nat) (moved : Nat) (hS : s.Sound) :
    (@State.dmaHalt s chan m u moved).Sound := by unfold State.dmaHalt; (try dsimp only); (repeat' split) <;> simp (maxDischargeDepth := 99) +contextual [hS]

@[simp ↓] theorem State.ueReader_sound (s : State) (m : Mem) (u : Nat) (a3 : UeReader) (hS : s.Sound) :
    (@State.ueReader s m u a3).Sound := by unfold State.ueReader; (try dsimp only); (repeat' split) <;> simp (maxDischargeDepth := 99) +contextual [hS]

@[simp ↓] theorem execStartSram_sound (s : State) (hS : s.Sound) :
    Keeps (@execStartSram s) State.Sound := by unfold execStartSram; simp (maxDischargeDepth := 99) +contextual [hS]

@[simp ↓] theorem execStartDram_sound (s : State) (hS : s.Sound) :
    Keeps (@execStartDram s) State.Sound := by unfold execStartDram; simp (maxDischargeDepth := 99) +contextual [hS]

@[simp ↓] theorem execFlipArm_sound (value : Word) (s : State) (hS : s.Sound) :
    Keeps (@execFlipArm value s) State.Sound := by unfold execFlipArm; simp (maxDischargeDepth := 99) +contextual [hS]

/-! ### Dma -/

@[simp ↓] theorem State.dmaPut_sound (s : State) (sp : Nat) (a : Nat) (b : Bytes) (hS : s.Sound) :
    (@State.dmaPut s sp a b).Sound := by unfold State.dmaPut; (try dsimp only); (repeat' split) <;> simp (maxDischargeDepth := 99) +contextual [hS]

@[simp ↓] theorem State.dmaRow_sound (s : State) (d : Desc) (pcie : List Bytes) (r : Nat) (lim : Nat) (hS : s.Sound) :
    (@State.dmaRow s d pcie r lim).1.Sound := by unfold State.dmaRow; (try dsimp only); (repeat' split) <;> simp (maxDischargeDepth := 99) +contextual [hS]

@[simp ↓] theorem State.dmaRows_sound (d : Desc) (pcie : List Bytes) (a2 : List Nat) (a3 : Nat) (a4 : Nat) (a5 : State)
    (hS : a5.Sound) :
    (@State.dmaRows d pcie a2 a3 a4 a5).1.Sound := by
  induction a2 generalizing a3 a4 a5 with
  | nil => exact hS
  | cons a l ih =>
    unfold State.dmaRows
    split
    · exact hS
    · have h := State.dmaRow_sound a5 d pcie a a3 hS
      split
      · rename_i heq; rw [heq] at h; exact h
      · rename_i heq; rw [heq] at h; exact ih _ _ _ h

@[simp ↓] theorem State.runDesc_sound (s : State) (n : Nat) (d : Desc) (pcie : List Bytes) (lim : Nat) (st : Nat) (hS : s.Sound) :
    (@State.runDesc s n d pcie lim st).Sound := by
  unfold State.runDesc
  have h := State.dmaRows_sound d pcie (List.range d.rows.toNat) lim 0 s hS
  split <;> rename_i heq <;> rw [heq] at h <;> simp_all (maxDischargeDepth := 99)

@[simp ↓] theorem execKick_sound (n : Fin 64) (s : State) (hS : s.Sound) :
    Keeps (@execKick n s) State.Sound := by unfold execKick; simp (maxDischargeDepth := 99) [hS]

@[simp ↓] theorem execAbort_sound (n : Fin 64) (s : State) (hS : s.Sound) :
    Keeps (@execAbort n s) State.Sound := by unfold execAbort; (try dsimp only); (repeat' split) <;> simp (maxDischargeDepth := 99) +contextual [hS]

@[simp ↓] theorem State.streamEnd_sound (s : State) (m : Nat) (hS : s.Sound) :
    (@State.streamEnd s m).Sound := by unfold State.streamEnd; simp (maxDischargeDepth := 99) [hS]

/-! ### Sequencer -/

@[simp ↓] theorem State.fsqFault_sound (s : State) (n : Nat) (code : Nat) (hS : s.Sound) :
    (@State.fsqFault s n code).Sound := by unfold State.fsqFault; (try dsimp only); (repeat' split) <;> simp (maxDischargeDepth := 99) +contextual [hS]

@[simp ↓] theorem State.fsqFetch_sound (n : Nat) (s : State) (o : FetchObs) (hS : s.Sound) :
    (@State.fsqFetch n s o).Sound := by unfold State.fsqFetch; (try dsimp only); (repeat' split) <;> simp (maxDischargeDepth := 99) +contextual [hS]

@[simp ↓] theorem State.assistStart_sound (s : State) (n : Nat) (h : Nat) (z : Nat) (write : Bool) (hS : s.Sound) :
    (@State.assistStart s n h z write).Sound := by unfold State.assistStart; (try dsimp only); (repeat' split) <;> simp (maxDischargeDepth := 99) +contextual [hS]

@[simp ↓] theorem State.biasStart_sound (s : State) (n : Nat) (h : Nat) (z : Nat) (turn : Option Nat) (hS : s.Sound) :
    (@State.biasStart s n h z turn).Sound := by unfold State.biasStart; (try dsimp only); (repeat' split) <;> simp (maxDischargeDepth := 99) +contextual [hS]

@[simp ↓] theorem State.precompStart_sound (s : State) (n : Nat) (h : Nat) (z : Nat) (hS : s.Sound) :
    (@State.precompStart s n h z).Sound := by unfold State.precompStart; (try dsimp only); (repeat' split) <;> simp (maxDischargeDepth := 99) +contextual [hS]

@[simp ↓] theorem State.writeArmCmd_sound (s : State) (n : Nat) (r : RunCmd) (hS : s.Sound) :
    (@State.writeArmCmd s n r).Sound := by unfold State.writeArmCmd; simp (maxDischargeDepth := 99) [hS]

@[simp ↓] theorem State.runLoad_sound (s : State) (n : Nat) (r : RunCmd) (hS : s.Sound) :
    (@State.runLoad s n r).Sound := by unfold State.runLoad; simp (maxDischargeDepth := 99) [hS]

@[simp ↓] theorem State.runHead_sound (s : State) (n : Nat) (r : RunCmd) (turn : Option Nat) (hS : s.Sound) :
    (@State.runHead s n r turn).Sound := by unfold State.runHead; simp (maxDischargeDepth := 99) [hS]

@[simp ↓] theorem State.rereadTrim_sound (s : State) (n : Nat) (a2 : Option LdpSector) (hS : s.Sound) :
    (@State.rereadTrim s n a2).Sound := by unfold State.rereadTrim; (try dsimp only); (repeat' split) <;> simp (maxDischargeDepth := 99) +contextual [hS]

@[simp ↓] theorem State.runOpen_sound (s : State) (n : Nat) (r : RunCmd) (hS : s.Sound) :
    (@State.runOpen s n r).Sound := by unfold State.runOpen; simp (maxDischargeDepth := 99) [hS]

@[simp ↓] theorem State.startRun_sound (s : State) (n : Nat) (r : RunCmd) (hS : s.Sound) :
    (@State.startRun s n r).Sound := by
  unfold State.startRun
  extract_lets again turn s1
  have h1 : (State.Sound s1) := State.rereadTrim_sound _ _ _ (State.runHead_sound _ _ _ _ (State.runLoad_sound _ _ _ hS))
  clear_value s1
  simp (maxDischargeDepth := 99) [*]

@[simp ↓] theorem State.takeRun_sound (s : State) (n : Nat) (hS : s.Sound) :
    (@State.takeRun s n).Sound := by unfold State.takeRun; (try dsimp only); (repeat' split) <;> simp (maxDischargeDepth := 99) +contextual [hS]

@[simp ↓] theorem State.slotEnd_sound (s : State) (n : Nat) (h : Nat) (hS : s.Sound) :
    (@State.slotEnd s n h).Sound := by unfold State.slotEnd; (try dsimp only); (repeat' split) <;> simp (maxDischargeDepth := 99) +contextual [hS]

@[simp ↓] theorem State.missSector_sound (s : State) (n : Nat) (r : RunCmd) (slot : Nat) (i : Nat) (hS : s.Sound) :
    (@State.missSector s n r slot i).Sound := by unfold State.missSector; simp (maxDischargeDepth := 99) [hS]

@[simp ↓] theorem State.readSector_sound (s : State) (n : Nat) (r : RunCmd) (o : SectorObs) (slot : Nat) (i : Nat)
    (half : Nat) (hS : s.Sound) :
    (@State.readSector s n r o slot i half).Sound := by unfold State.readSector; (try dsimp only); (repeat' split) <;> simp (maxDischargeDepth := 99) +contextual [hS]

@[simp ↓] theorem State.wdataCells_sound (n : Nat) (last : Bool) (a2 : Nat) (a3 : State) (hS : a3.Sound) :
    (@State.wdataCells n last a2 a3).Sound := by
  induction a2 generalizing a3 with
  | zero => exact hS
  | succ k ih =>
    unfold State.wdataCells
    (repeat' split) <;> first | exact hS | (dsimp only; split <;> first | exact ih _ (by simp (maxDischargeDepth := 99) [*]) | simp (maxDischargeDepth := 99) [*])

@[simp ↓] theorem State.takePayload_sound (s : State) (n : Nat) (hS : s.Sound) :
    (@State.takePayload s n).1.Sound := by unfold State.takePayload; (try dsimp only); (repeat' split) <;> simp (maxDischargeDepth := 99) +contextual [hS]

@[simp ↓] theorem State.writeSector_sound (s : State) (n : Nat) (r : RunCmd) (o : SectorObs) (slot : Nat) (i : Nat)
    (permits : List Bool) (marks : List Nat) (hS : s.Sound) :
    (@State.writeSector s n r o slot i permits marks).1.Sound := by
  unfold State.writeSector
  dsimp only
  have h := State.takePayload_sound s n hS
  (repeat' split) <;> first | (simp (maxDischargeDepth := 99) [*]; done) | (rename_i heq; rw [heq] at h; simp_all (maxDischargeDepth := 99))

@[simp ↓] theorem State.nextSector_sound (s : State) (n : Nat) (r : RunCmd) (slot : Nat) (hS : s.Sound) :
    (@State.nextSector s n r slot).Sound := by unfold State.nextSector; simp (maxDischargeDepth := 99) [hS]

@[simp ↓] theorem State.atSlot_sound (s : State) (n : Nat) (slot : Nat) (hS : s.Sound) :
    (@State.atSlot s n slot).Sound := by unfold State.atSlot; simp (maxDischargeDepth := 99) [hS]

@[simp ↓] theorem State.runSector_sound (n : Nat) (acc : State × List Bool) (o : SectorObs) (hS : acc.1.Sound) :
    (@State.runSector n acc o).1.Sound := by unfold State.runSector; (try dsimp only); (repeat' split) <;> simp (maxDischargeDepth := 99) +contextual [hS]

@[simp ↓] theorem State.learnEntry_sound (s : State) (n : Nat) (hS : s.Sound) :
    (@State.learnEntry s n).Sound := by unfold State.learnEntry; (try dsimp only); (repeat' split) <;> simp (maxDischargeDepth := 99) +contextual [hS]

/-! ### Decoder -/

@[simp ↓] theorem State.headCheck_sound (s : State) (h : Nat) (hS : s.Sound) :
    (@State.headCheck s h).Sound := by unfold State.headCheck; (try dsimp only); (repeat' split) <;> simp (maxDischargeDepth := 99) +contextual [hS]

@[simp ↓] theorem State.removeEngine_sound (s : State) (e : Nat) (cause : Nat) (hS : s.Sound) :
    (@State.removeEngine s e cause).Sound := by unfold State.removeEngine; simp (maxDischargeDepth := 99) [hS]

@[simp ↓] theorem State.decodeAgain_sound (s : State) (x : LdpSector) (hS : s.Sound) :
    (@State.decodeAgain s x).Sound := by unfold State.decodeAgain; simp (maxDischargeDepth := 99) [hS]

@[simp ↓] theorem State.postRow_sound (s : State) (x : LdpSector) (payload : Bytes) (hS : s.Sound) :
    (@State.postRow s x payload).Sound := by unfold State.postRow; (try dsimp only); (repeat' split) <;> simp (maxDischargeDepth := 99) +contextual [hS]

@[simp ↓] theorem State.countSector_sound (s : State) (x : LdpSector) (hS : s.Sound) :
    (@State.countSector s x).Sound := by unfold State.countSector; simp (maxDischargeDepth := 99) [hS]

@[simp ↓] theorem State.readAgain_sound (s : State) (x : LdpSector) (hS : s.Sound) :
    (@State.readAgain s x).Sound := by unfold State.readAgain; simp (maxDischargeDepth := 99) [hS]

@[simp ↓] theorem State.step7Rule_sound (s : State) (ch : Nat) (now : Nat) (hS : s.Sound) :
    (@State.step7Rule s ch now).Sound := by unfold State.step7Rule; (try dsimp only); (repeat' split) <;> simp (maxDischargeDepth := 99) +contextual [hS]

@[simp ↓] theorem State.afterDelivery_sound (s : State) (x : LdpSector) (now : Nat) (hS : s.Sound) :
    (@State.afterDelivery s x now).Sound := by unfold State.afterDelivery; simp (maxDischargeDepth := 99) [hS]

@[simp ↓] theorem State.deliverSector_sound (s : State) (x : LdpSector) (payload : Bytes) (now : Nat) (hS : s.Sound) :
    (@State.deliverSector s x payload now).Sound := by unfold State.deliverSector; simp (maxDischargeDepth := 99) [hS]

@[simp ↓] theorem State.scaleIcal_sound (s : State) (h : Nat) (n : Nat) (d : Nat) (hS : s.Sound) :
    (@State.scaleIcal s h n d).Sound := by unfold State.scaleIcal; simp (maxDischargeDepth := 99) [hS]

/-! ### Reset -/

@[simp ↓] theorem State.partnersReset_sound (s : State) (hS : s.Sound) :
    (@State.partnersReset s).Sound := by unfold State.partnersReset; simp (maxDischargeDepth := 99) [hS]

@[simp ↓] theorem State.partnersOut_sound (s : State) (hS : s.Sound) :
    (@State.partnersOut s).Sound := by unfold State.partnersOut; simp (maxDischargeDepth := 99) [hS]

@[simp ↓] theorem State.dieReset_sound (s : State) (tables : Bool) (hS : s.Sound) :
    (@State.dieReset s tables).Sound := by
  unfold State.dieReset
  exact ⟨by simp [*], rfl, rfl, rfl, rfl⟩

@[simp ↓] theorem State.savePathReset_sound (s : State) (hS : s.Sound) :
    (@State.savePathReset s).Sound := by unfold State.savePathReset; simp (maxDischargeDepth := 99) [hS]

@[simp ↓] theorem State.startOver_sound (s : State) (r : RstPhase) (cause : Nat) (hS : s.Sound) :
    (@State.startOver s r cause).Sound := by unfold State.startOver; simp (maxDischargeDepth := 99) [hS]

@[simp ↓] theorem State.keepStatus_sound (s : State) (hS : s.Sound) :
    (@State.keepStatus s).Sound := by unfold State.keepStatus; simp (maxDischargeDepth := 99) [hS]

@[simp ↓] theorem State.lossNoted_sound (s : State) (hS : s.Sound) :
    (@State.lossNoted s).Sound := by unfold State.lossNoted; simp (maxDischargeDepth := 99) [hS]

@[simp ↓] theorem State.tailLost_sound (s : State) (hS : s.Sound) :
    (@State.tailLost s).Sound := by unfold State.tailLost; simp (maxDischargeDepth := 99) [hS]

@[simp ↓] theorem State.coldDie_sound (s : State) (r : RstPhase) (cause : Nat) (hS : s.Sound) :
    (@State.coldDie s r cause).Sound := by unfold State.coldDie; simp (maxDischargeDepth := 99) [hS]

@[simp ↓] theorem State.nightstandLost_sound (s : State) (hS : s.Sound) :
    (@State.nightstandLost s).Sound := by unfold State.nightstandLost; simp (maxDischargeDepth := 99) [hS]

@[simp ↓] theorem State.driveReset_sound (s : State) (cause : Nat) (hS : s.Sound) :
    (@State.driveReset s cause).Sound := by unfold State.driveReset; simp (maxDischargeDepth := 99) [hS]

@[simp ↓] theorem State.startClocks_sound (s : State) (hS : s.Sound) :
    (@State.startClocks s).Sound := by unfold State.startClocks; simp (maxDischargeDepth := 99) +contextual [hS]

@[simp ↓] theorem State.enterP2_sound (s : State) (hS : s.Sound) :
    (@State.enterP2 s).Sound := by unfold State.enterP2; simp (maxDischargeDepth := 99) [hS]

@[simp ↓] theorem execNssr_sound (value : Word) (s : State) (hS : s.Sound) :
    Keeps (@execNssr value s) State.Sound := by unfold execNssr; simp (maxDischargeDepth := 99) +contextual [hS]

/-! ### BlockReset -/

@[simp ↓] theorem State.setBlock_sound (s : State) (slot : Nat) (b : BlkState) (hS : s.Sound) :
    (@State.setBlock s slot b).Sound := by unfold State.setBlock; simp (maxDischargeDepth := 99) [hS]

@[simp ↓] theorem State.hostLinkDrop_sound (s : State) (train : Bool) (hS : s.Sound) :
    (@State.hostLinkDrop s train).Sound := by unfold State.hostLinkDrop; simp (maxDischargeDepth := 99) [hS]

@[simp ↓] theorem State.pcieDescsEnd_sound (s : State) (hS : s.Sound) :
    (@State.pcieDescsEnd s).Sound := by
  unfold State.pcieDescsEnd
  try dsimp only
  repeat' (first | (simp (maxDischargeDepth := 99) +contextual [*]; done) | refine foldl_sound _ _ (fun t b ht => ?_) ?_ | split)
  all_goals simp_all (maxDischargeDepth := 99) +contextual

@[simp ↓] theorem State.hostDrop_sound (s : State) (hS : s.Sound) :
    (@State.hostDrop s).Sound := by unfold State.hostDrop; simp (maxDischargeDepth := 99) [hS]

@[simp ↓] theorem State.fsqDrop_sound (s : State) (ch : Nat) (hS : s.Sound) :
    (@State.fsqDrop s ch).Sound := by unfold State.fsqDrop; (try dsimp only); (repeat' split) <;> simp (maxDischargeDepth := 99) +contextual [hS]

@[simp ↓] theorem State.ldpDrop_sound (s : State) (hS : s.Sound) :
    (@State.ldpDrop s).Sound := by unfold State.ldpDrop; simp (maxDischargeDepth := 99) +contextual [hS]

@[simp ↓] theorem State.blockDrop_sound (s : State) (slot : Nat) (hS : s.Sound) :
    (@State.blockDrop s slot).Sound := by
  unfold State.blockDrop
  dsimp only
  have hl : ∀ (l : List Nat) (a : List Rwc), (l.foldl (fun l ch => setAt l ch Rwc.reset) a).length = a.length := by
    intro l
    induction l with
    | nil => exact fun _ => rfl
    | cons x l ih => exact fun a => (ih _).trans (setAt_length _ _ _)
  repeat' split
  all_goals first
    | with_reducible exact hS
    | with_reducible exact State.hostDrop_sound _ hS
    | with_reducible exact State.ldpDrop_sound _ hS
    | with_reducible exact foldl_sound _ _ (fun t b ht => State.fsqDrop_sound _ _ ht) hS
    | with_reducible exact ⟨hS.1, hS.2, hS.3, hS.4, (hl _ _).trans hS.5⟩
    | simp (maxDischargeDepth := 99) [*]

@[simp ↓] theorem State.requestReset_sound (s : State) (slot : Nat) (hS : s.Sound) :
    (@State.requestReset s slot).Sound := by unfold State.requestReset; simp (maxDischargeDepth := 99) [hS]

@[simp ↓] theorem State.assertReset_sound (s : State) (slot : Nat) (hS : s.Sound) :
    (@State.assertReset s slot).Sound := by unfold State.assertReset; simp (maxDischargeDepth := 99) [hS]

@[simp ↓] theorem State.warmRegs_sound (s : State) (slot : Nat) (hS : s.Sound) :
    (@State.warmRegs s slot).Sound := by
  unfold State.warmRegs
  refine ⟨?_, hS.sram, hS.dram, hS.fsqs, hS.rwcs⟩
  dsimp only
  have hk : ∀ (l : List Nat) (g : RegFile → Nat → RegFile) (f : RegFile), (∀ f i, f.wf = true → (g f i).wf = true) → f.wf = true →
      (l.foldl g f).wf = true := by
    intro l g
    induction l with
    | nil => exact fun f _ h => h
    | cons r l ih => exact fun f hg h => ih _ hg (hg _ _ h)
  have hr : ∀ (l : List RegRow) (g : RegFile → RegRow → RegFile) (f : RegFile), (∀ f i, f.wf = true → (g f i).wf = true) → f.wf = true →
      (l.foldl g f).wf = true := by
    intro l g
    induction l with
    | nil => exact fun f _ h => h
    | cons r l ih => exact fun f hg h => ih _ hg (hg _ _ h)
  refine hr _ _ _ (fun f r hf => hk _ _ _ (fun f i hf => ?_) hf) hS.regs
  have hq : ∀ (c : Prop) [Decidable c] (a b : RegFile), a.wf = true → b.wf = true → (if c then a else b).wf = true := by
    intro c _ a b ha hb
    split <;> assumption
  exact hq _ _ _ hf (RegFile.wf_setWord _ _ hf)

@[simp ↓] theorem State.releaseBlock_sound (s : State) (slot : Nat) (hS : s.Sound) :
    (@State.releaseBlock s slot).Sound := by unfold State.releaseBlock; simp (maxDischargeDepth := 99) +contextual [hS]

@[simp ↓] theorem State.releaseWaiting_sound (s : State) (hS : s.Sound) :
    (@State.releaseWaiting s).Sound := by unfold State.releaseWaiting; simp (maxDischargeDepth := 99) +contextual [hS]

@[simp ↓] theorem execBlkRst_sound (value : Word) (s : State) (hS : s.Sound) :
    Keeps (@execBlkRst value s) State.Sound := by unfold execBlkRst; simp (maxDischargeDepth := 99) +contextual [hS]

/-! ### ZoneMap -/

@[simp ↓] theorem State.mergeStart_sound (s : State) (lz : Nat) (hS : s.Sound) :
    (@State.mergeStart s lz).Sound := by unfold State.mergeStart; (try dsimp only); (repeat' split) <;> simp (maxDischargeDepth := 99) +contextual [hS]

@[simp ↓] theorem State.lockLine_sound (s : State) (i : Nat) (hS : s.Sound) :
    (@State.lockLine s i).Sound := by unfold State.lockLine; simp (maxDischargeDepth := 99) [hS]

@[simp ↓] theorem State.mapMiss_sound (s : State) (u : Nat) (write : Bool) (preload : Bool) (lock : Bool) (hS : s.Sound) :
    (@State.mapMiss s u write preload lock).Sound := by unfold State.mapMiss; (try dsimp only); (repeat' split) <;> simp (maxDischargeDepth := 99) +contextual [hS]

@[simp ↓] theorem State.mapLookup_sound (s : State) (u : Nat) (write : Bool) (hS : s.Sound) :
    (@State.mapLookup s u write).Sound := by unfold State.mapLookup; (try dsimp only); (repeat' split) <;> simp (maxDischargeDepth := 99) +contextual [hS]

@[simp ↓] theorem State.missAgain_sound (t : State) (k : Nat) (hS : t.Sound) :
    (@State.missAgain t k).Sound := by unfold State.missAgain; (try dsimp only); (repeat' split) <;> simp (maxDischargeDepth := 99) +contextual [hS]

@[simp ↓] theorem State.mapRetry_sound (s : State) (hS : s.Sound) :
    (@State.mapRetry s).Sound := by unfold State.mapRetry; (try dsimp only); (repeat' split) <;> simp (maxDischargeDepth := 99) +contextual [hS]

@[simp ↓] theorem State.mapSweep_sound (s : State) (hS : s.Sound) :
    (@State.mapSweep s).Sound := by unfold State.mapSweep; simp (maxDischargeDepth := 99) [hS]

@[simp ↓] theorem execPreload_sound (value : Word) (s : State) (hS : s.Sound) :
    Keeps (@execPreload value s) State.Sound := by unfold execPreload; (try dsimp only); (repeat' split) <;> simp (maxDischargeDepth := 99) +contextual [hS]

@[simp ↓] theorem execUnlock_sound (value : Word) (s : State) (hS : s.Sound) :
    Keeps (@execUnlock value s) State.Sound := by unfold execUnlock; (try dsimp only); (repeat' split) <;> simp (maxDischargeDepth := 99) +contextual [hS]

@[simp ↓] theorem execEnable_sound (onOff : Bool) (s : State) (hS : s.Sound) :
    Keeps (@execEnable onOff s) State.Sound := by unfold execEnable; simp (maxDischargeDepth := 99) [hS]

@[simp ↓] theorem execClean_sound (s : State) (hS : s.Sound) :
    Keeps (@execClean s) State.Sound := by unfold execClean; simp (maxDischargeDepth := 99) [hS]

/-! ### Vendor -/

@[simp ↓] theorem State.peerStart_sound (s : State) (fsn : Nat) (op : Byte) (hS : s.Sound) :
    (@State.peerStart s fsn op).Sound := by unfold State.peerStart; (try dsimp only); (repeat' split) <;> simp (maxDischargeDepth := 99) +contextual [hS]

@[simp ↓] theorem State.takeFsn_sound (s : State) (hS : s.Sound) :
    (@State.takeFsn s).Sound := by unfold State.takeFsn; simp (maxDischargeDepth := 99) [hS]

@[simp ↓] theorem State.countScan_sound (s : State) (n : Nat) (hS : s.Sound) :
    (@State.countScan s n).Sound := by unfold State.countScan; simp (maxDischargeDepth := 99) [hS]

@[simp ↓] theorem State.countPeer_sound (s : State) (out : Bool) (n : Nat) (hS : s.Sound) :
    (@State.countPeer s out n).Sound := by unfold State.countPeer; simp (maxDischargeDepth := 99) [hS]

@[simp ↓] theorem State.scanDone_sound (s : State) (c : Cmd) (v : VendorRun) (st : Status) (hS : s.Sound) :
    (@State.scanDone s c v st).Sound := by unfold State.scanDone; simp (maxDischargeDepth := 99) [hS]

@[simp ↓] theorem State.scanPiece_sound (s : State) (c : Cmd) (v : VendorRun) (blocks : List (Option Bytes)) (xfer : Xfer)
    (hS : s.Sound) :
    (@State.scanPiece s c v blocks xfer).Sound := by unfold State.scanPiece; (try dsimp only); (repeat' split) <;> simp (maxDischargeDepth := 99) +contextual [hS]

@[simp ↓] theorem State.outPiece_sound (s : State) (c : Cmd) (v : VendorRun) (blocks : List (Option Bytes)) (xfer : Xfer)
    (hS : s.Sound) :
    (@State.outPiece s c v blocks xfer).Sound := by unfold State.outPiece; (try dsimp only); (repeat' split) <;> simp (maxDischargeDepth := 99) +contextual [hS]

@[simp ↓] theorem State.inPiece_sound (s : State) (c : Cmd) (v : VendorRun) (blocks : List (Option Bytes)) (xfer : Xfer)
    (hS : s.Sound) :
    (@State.inPiece s c v blocks xfer).Sound := by unfold State.inPiece; (try dsimp only); (repeat' split) <;> simp (maxDischargeDepth := 99) +contextual [hS]

/-! ### Views -/

@[simp ↓] theorem State.readReg_sound (s : State) (slot : Nat) (off : Nat) (hS : s.Sound) :
    (@State.readReg s slot off).2.Sound := by unfold State.readReg; (try dsimp only); (repeat' split) <;> simp (maxDischargeDepth := 99) +contextual [hS]

/-! ### HostPort -/

@[simp ↓] theorem State.flushSends_sound (s : State) (hS : s.Sound) :
    (@State.flushSends s).Sound := by unfold State.flushSends; simp (maxDischargeDepth := 99) [hS]

@[simp ↓] theorem State.fatal_sound (s : State) (hS : s.Sound) :
    (@State.fatal s).Sound := by unfold State.fatal; (try dsimp only); (repeat' split) <;> simp (maxDischargeDepth := 99) +contextual [hS]

@[simp ↓] theorem State.aerCor_sound (s : State) (bit : Nat) (hS : s.Sound) :
    (@State.aerCor s bit).Sound := by unfold State.aerCor; simp (maxDischargeDepth := 99) [hS]

@[simp ↓] theorem State.cplLogged_sound (s : State) (a1 : CplErr) (hS : s.Sound) :
    (@State.cplLogged s a1).Sound := by unfold State.cplLogged; (try dsimp only); (repeat' split) <;> simp (maxDischargeDepth := 99) +contextual [hS]

@[simp ↓] theorem State.pcieErr_sound (s : State) (a1 : PcieErr) (hS : s.Sound) :
    (@State.pcieErr s a1).Sound := by unfold State.pcieErr; (try dsimp only); (repeat' split) <;> simp (maxDischargeDepth := 99) +contextual [hS]

@[simp ↓] theorem State.winFill_sound (s : State) (line : Nat) (hS : s.Sound) :
    (@State.winFill s line).Sound := by unfold State.winFill; simp (maxDischargeDepth := 99) [hS]

/-! ### Test -/

@[simp ↓] theorem execCrdClear_sound (s : State) (hS : s.Sound) :
    Keeps (@execCrdClear s) State.Sound := by unfold execCrdClear; simp (maxDischargeDepth := 99) +contextual [hS]

@[simp ↓] theorem execPersist_sound (s : State) (hS : s.Sound) :
    Keeps (@execPersist s) State.Sound := by unfold execPersist; simp (maxDischargeDepth := 99) +contextual [hS]

@[simp ↓] theorem State.fuseDone_sound (s : State) (op : Nat) (index : Nat) (err : Bool) (hS : s.Sound) :
    (@State.fuseDone s op index err).Sound := by unfold State.fuseDone; simp (maxDischargeDepth := 99) [hS]

@[simp ↓] theorem execHold_sound (s : State) (hS : s.Sound) :
    Keeps (@execHold s) State.Sound := by unfold execHold; simp (maxDischargeDepth := 99) +contextual [hS]

@[simp ↓] theorem execTstLoopback_sound (value : Word) (s : State) (hS : s.Sound) :
    Keeps (@execTstLoopback value s) State.Sound := by unfold execTstLoopback; (try dsimp only); (repeat' split) <;> simp (maxDischargeDepth := 99) +contextual [hS]

@[simp ↓] theorem State.partnerLoop_sound (s : State) (p : Port) (depth : Nat) (hS : s.Sound) :
    (@State.partnerLoop s p depth).Sound := by unfold State.partnerLoop; (try dsimp only); (repeat' split) <;> simp (maxDischargeDepth := 99) +contextual [hS]

@[simp ↓] theorem execElkLoopback_sound (port : Port) (value : Word) (s : State) (hS : s.Sound) :
    Keeps (@execElkLoopback port value s) State.Sound := by unfold execElkLoopback; (try dsimp only); (repeat' split) <;> simp (maxDischargeDepth := 99) +contextual [hS]

@[simp ↓] theorem execHptLoopback_sound (value : Word) (s : State) (hS : s.Sound) :
    Keeps (@execHptLoopback value s) State.Sound := by
  unfold execHptLoopback
  rw [Keeps_next]
  refine State.inMfg_sound _ _ hS (fun t ht => ?_)
  split
  · exact ht
  · dsimp only
    (repeat' split) <;> simp (maxDischargeDepth := 99) [*]

@[simp ↓] theorem State.lbEnd_sound (s : State) (p : Port) (errors : Nat) (hS : s.Sound) :
    (@State.lbEnd s p errors).Sound := by unfold State.lbEnd; simp (maxDischargeDepth := 99) [hS]

/-! ### PowerRows -/

@[simp ↓] theorem State.issueDemand_sound (s : State) (ps : Nat) (hS : s.Sound) :
    (@State.issueDemand s ps).Sound := by unfold State.issueDemand; simp (maxDischargeDepth := 99) [hS]

@[simp ↓] theorem State.gate_sound (s : State) (slots : List Nat) (hS : s.Sound) :
    (@State.gate s slots).Sound := by unfold State.gate; simp (maxDischargeDepth := 99) +contextual [hS]

@[simp ↓] theorem State.transStep_sound (s : State) (hS : s.Sound) :
    (@State.transStep s).Sound := by unfold State.transStep; (try dsimp only); (repeat' split) <;> simp (maxDischargeDepth := 99) +contextual [hS]

@[simp ↓] theorem State.transEnd_sound (s : State) (n : Nat) (hS : s.Sound) :
    (@State.transEnd s n).Sound := by unfold State.transEnd; (try dsimp only); (repeat' split) <;> simp (maxDischargeDepth := 99) +contextual [hS]

@[simp ↓] theorem State.enterStep_sound (s : State) (n : Nat) (hS : s.Sound) :
    (@State.enterStep s n).Sound := by unfold State.enterStep; (try dsimp only); (repeat' split) <;> simp (maxDischargeDepth := 99) +contextual [hS]

@[simp ↓] theorem State.wakeLink_sound (s : State) (x : Act) (hS : s.Sound) :
    (@State.wakeLink s x).Sound := by unfold State.wakeLink; simp (maxDischargeDepth := 99) [hS]

@[simp ↓] theorem State.exitStep_sound (s : State) (hS : s.Sound) :
    (@State.exitStep s).Sound := by unfold State.exitStep; (try dsimp only); (repeat' split) <;> simp (maxDischargeDepth := 99) +contextual [hS]

@[simp ↓] theorem State.toLevel_sound (s : State) (n : Nat) (hS : s.Sound) :
    (@State.toLevel s n).Sound := by unfold State.toLevel; simp (maxDischargeDepth := 99) [hS]

/-! ### Aperture -/

@[simp ↓] theorem State.via_sound (s : State) (o : Host.Outcome State Fault Refusal) (hS : s.Sound) (ho : Keeps o State.Sound) :
    (@State.via s o).Sound := by
  unfold State.via
  split
  · exact ho _ rfl
  · exact hS

@[simp ↓] theorem State.apRead_sound (s : State) (slot : Nat) (off : Nat) (hS : s.Sound) :
    (@State.apRead s slot off).2.Sound := by unfold State.apRead; (try dsimp only); (repeat' split) <;> simp (maxDischargeDepth := 99) +contextual [hS]

@[simp ↓] theorem State.crdCtrl_sound (s : State) (w : Word) (hS : s.Sound) :
    (@State.crdCtrl s w).Sound := by unfold State.crdCtrl; (try dsimp only); (repeat' split) <;> simp (maxDischargeDepth := 99) +contextual [hS]

@[simp ↓] theorem State.fuseGo_sound (s : State) (w : Word) (hS : s.Sound) :
    (@State.fuseGo s w).Sound := by unfold State.fuseGo; (try dsimp only); (repeat' split) <;> simp (maxDischargeDepth := 99) +contextual [hS]

@[simp ↓] theorem State.scrubCtrl_sound (s : State) (w : Word) (hS : s.Sound) :
    (@State.scrubCtrl s w).Sound := by unfold State.scrubCtrl; (try dsimp only); (repeat' split) <;> simp (maxDischargeDepth := 99) +contextual [hS]

@[simp ↓] theorem State.zmuCtrl_sound (s : State) (w : Word) (hS : s.Sound) :
    (@State.zmuCtrl s w).Sound := by unfold State.zmuCtrl; (try dsimp only); (repeat' split) <;> simp (maxDischargeDepth := 99) +contextual [hS]

@[simp ↓] theorem State.ringCfg_sound (s : State) (n : Fin 64) (w : Word) (hS : s.Sound) :
    (@State.ringCfg s n w).Sound := by unfold State.ringCfg; (try dsimp only); (repeat' split) <;> simp (maxDischargeDepth := 99) +contextual [hS]

@[simp ↓] theorem State.chainWord_sound (s : State) (off : Nat) (w : Word) (hS : s.Sound) :
    (@State.chainWord s off w).Sound := by unfold State.chainWord; simp (maxDischargeDepth := 99) [hS]

@[simp ↓] theorem State.digestWord_sound (s : State) (off : Nat) (w : Word) (hS : s.Sound) :
    (@State.digestWord s off w).Sound := by unfold State.digestWord; simp (maxDischargeDepth := 99) [hS]

@[simp ↓] theorem State.setNvme_sound (s : State) (m : NvmeRegs) (hS : s.Sound) :
    (@State.setNvme s m).Sound := by unfold State.setNvme; simp (maxDischargeDepth := 99) [hS]

@[simp ↓] theorem State.apWrite_sound (s : State) (slot : Nat) (off : Nat) (w : Word) (hS : s.Sound) :
    (@State.apWrite s slot off w).Sound := by
  unfold State.apWrite
  repeat' (with_reducible refine (sound_ite _ _).2 ⟨fun _ => ?_, fun _ => ?_⟩)
  all_goals first
    | with_reducible exact hS
    | with_reducible exact State.via_sound _ _ hS (execBlkRst_sound _ _ hS)
    | with_reducible exact State.via_sound _ _ hS (execHold_sound _ hS)
    | with_reducible exact State.via_sound _ _ hS (execTstLoopback_sound _ _ hS)
    | with_reducible exact State.via_sound _ _ hS (execHptLoopback_sound _ _ hS)
    | with_reducible exact State.via_sound _ _ hS (execPreload_sound _ _ hS)
    | with_reducible exact State.via_sound _ _ hS (execUnlock_sound _ _ hS)
    | with_reducible exact State.via_sound _ _ hS (execFlipArm_sound _ _ hS)
    | with_reducible exact State.via_sound _ _ hS (execElkLoopback_sound _ _ _ hS)
    | with_reducible exact State.crdCtrl_sound _ _ hS
    | with_reducible exact State.fuseGo_sound _ _ hS
    | with_reducible exact State.zmuCtrl_sound _ _ hS
    | with_reducible exact State.scrubCtrl_sound _ _ hS
    | with_reducible exact State.ringCfg_sound _ _ _ hS
    | with_reducible exact State.writeMasked_sound _ _ _ _ hS
    | with_reducible exact State.chainWord_sound _ _ _ hS
    | with_reducible exact State.digestWord_sound _ _ _ hS

@[simp ↓] theorem State.aperture_sound (s : State) (off : Nat) (size : Nat) (value : Option Word) (hS : s.Sound) :
    (@State.aperture s off size value).Sound := by unfold State.aperture; (try dsimp only); (repeat' split) <;> simp (maxDischargeDepth := 99) +contextual [hS]

@[simp ↓] theorem State.msixFlush_sound (s : State) (hS : s.Sound) :
    (@State.msixFlush s).Sound := by
  unfold State.msixFlush
  try dsimp only
  repeat' (first | (simp (maxDischargeDepth := 99) +contextual [*]; done) | refine foldl_sound _ _ (fun t b ht => ?_) ?_ | split)
  all_goals simp_all (maxDischargeDepth := 99) +contextual

@[simp ↓] theorem State.msixWrite_sound (s : State) (off : Nat) (w : Word) (hS : s.Sound) :
    (@State.msixWrite s off w).Sound := by unfold State.msixWrite; simp (maxDischargeDepth := 99) [hS]

@[simp ↓] theorem State.ccWrite_sound (s : State) (w : Word) (hS : s.Sound) :
    (@State.ccWrite s w).Sound := by unfold State.ccWrite; (try dsimp only); (repeat' split) <;> simp (maxDischargeDepth := 99) +contextual [hS]

@[simp ↓] theorem State.bar0Write_sound (s : State) (off : Nat) (w : Word) (hS : s.Sound) :
    (@State.bar0Write s off w).Sound := by
  unfold State.bar0Write
  dsimp only
  repeat' (with_reducible refine (sound_ite _ _).2 ⟨fun _ => ?_, fun _ => ?_⟩)
  all_goals first
    | with_reducible exact hS
    | with_reducible exact State.via_sound _ _ hS (execIntms_sound _ _ hS)
    | with_reducible exact State.via_sound _ _ hS (execIntmc_sound _ _ hS)
    | with_reducible exact State.via_sound _ _ hS (execNssr_sound _ _ hS)
    | with_reducible exact State.via_sound _ _ hS (execSqTailDoorbell_sound _ _ _ hS)
    | with_reducible exact State.via_sound _ _ hS (execCqHeadDoorbell_sound _ _ _ hS)
    | with_reducible exact State.ccWrite_sound _ _ hS
    | with_reducible exact State.msixWrite_sound _ _ _ hS
    | with_reducible exact State.setNvme_sound _ _ hS

@[simp ↓] theorem State.aerClear_sound (s : State) (uncor : Bool) (w : Word) (hS : s.Sound) :
    (@State.aerClear s uncor w).Sound := by unfold State.aerClear; simp (maxDischargeDepth := 99) [hS]

@[simp ↓] theorem State.doePop_sound (s : State) (hS : s.Sound) :
    (@State.doePop s).Sound := by unfold State.doePop; (try dsimp only); (repeat' split) <;> simp (maxDischargeDepth := 99) +contextual [hS]

@[simp ↓] theorem State.cfgWrite_sound (s : State) (off : Nat) (w : Word) (hS : s.Sound) :
    (@State.cfgWrite s off w).Sound := by unfold State.cfgWrite; simp (maxDischargeDepth := 99) [hS]

/-! ### Firmware -/

@[simp ↓] theorem State.norWrite_sound (s : State) (fw : Bool) (b : Bytes) (backFallback : Bool) (backPrimary : Bool)
    (hS : s.Sound) :
    (@State.norWrite s fw b backFallback backPrimary).Sound := by unfold State.norWrite; simp (maxDischargeDepth := 99) [hS]

/-! ### Start -/

@[simp ↓] theorem State.releaseBlocks_sound (s : State) (hS : s.Sound) :
    (@State.releaseBlocks s).Sound := by unfold State.releaseBlocks; simp (maxDischargeDepth := 99) [hS]

@[simp ↓] theorem State.enterP3_sound (s : State) (hS : s.Sound) :
    (@State.enterP3 s).Sound := by unfold State.enterP3; simp (maxDischargeDepth := 99) [hS]

@[simp ↓] theorem State.p2Step_sound (s : State) (hS : s.Sound) :
    (@State.p2Step s).Sound := by unfold State.p2Step; simp (maxDischargeDepth := 99) [hS]

@[simp ↓] theorem State.loadOption_sound (s : State) (c : OptCfg) (hS : s.Sound) :
    (@State.loadOption s c).Sound := by unfold State.loadOption; simp (maxDischargeDepth := 99) +contextual [hS]

@[simp ↓] theorem State.endP3_sound (s : State) (hS : s.Sound) :
    (@State.endP3 s).Sound := by unfold State.endP3; simp (maxDischargeDepth := 99) [hS]

@[simp ↓] theorem rowMapped_sound (a : State × Bool) (r : Nat × Nat) (hS : a.1.Sound) :
    (@rowMapped a r).1.Sound := by unfold rowMapped; (try dsimp only); (repeat' split) <;> simp (maxDischargeDepth := 99) +contextual [hS]

@[simp ↓] theorem State.countBoot_sound (s : State) (a : ChestAccess) (hS : s.Sound) :
    (@State.countBoot s a).Sound := by unfold State.countBoot; simp (maxDischargeDepth := 99) [hS]

@[simp ↓] theorem State.measureP5_sound (s : State) (hS : s.Sound) :
    (@State.measureP5 s).Sound := by unfold State.measureP5; (try dsimp only); (repeat' split) <;> simp (maxDischargeDepth := 99) +contextual [hS]

@[simp ↓] theorem State.setRdy_sound (s : State) (hS : s.Sound) :
    (@State.setRdy s).Sound := by unfold State.setRdy; (try dsimp only); (repeat' split) <;> simp (maxDischargeDepth := 99) +contextual [hS]

/-! ### Discovery -/

@[simp ↓] theorem State.measureP7_sound (s : State) (hS : s.Sound) :
    (@State.measureP7 s).Sound := by unfold State.measureP7; simp (maxDischargeDepth := 99) [hS]

@[simp ↓] theorem State.p7Step_sound (s : State) (hS : s.Sound) :
    (@State.p7Step s).Sound := by unfold State.p7Step; simp (maxDischargeDepth := 99) [hS]

@[simp ↓] theorem State.idEnd_sound (s : State) (m : IdMem) (v : Item) (hS : s.Sound) :
    (@State.idEnd s m v).Sound := by unfold State.idEnd; (try dsimp only); (repeat' split) <;> simp (maxDischargeDepth := 99) +contextual [hS]

@[simp ↓] theorem State.idFailed_sound (s : State) (m : IdMem) (hS : s.Sound) :
    (@State.idFailed s m).Sound := by unfold State.idFailed; (try dsimp only); (repeat' split) <;> simp (maxDischargeDepth := 99) +contextual [hS]

@[simp ↓] theorem State.factoryRetired_sound (s : State) (a : Nat) (l : List HeadRec) (hS : s.Sound) :
    (@State.factoryRetired s a l).Sound := by unfold State.factoryRetired; simp (maxDischargeDepth := 99) +contextual [hS]

@[simp ↓] theorem State.hsaCheck_sound (s : State) (a : Nat) (h : HsaIdent) (hS : s.Sound) :
    (@State.hsaCheck s a h).1.Sound := by unfold State.hsaCheck; simp (maxDischargeDepth := 99) [hS]

/-! ### Restore -/

@[simp ↓] theorem State.remaps_sound (s : State) (c : CredSlot) (hS : s.Sound) :
    (@State.remaps s c).Sound := by unfold State.remaps; simp (maxDischargeDepth := 99) [hS]

@[simp ↓] theorem State.credLoad_sound (s : State) (hS : s.Sound) :
    (@State.credLoad s).Sound := by unfold State.credLoad; (try dsimp only); (repeat' split) <;> simp (maxDischargeDepth := 99) +contextual [hS]

@[simp ↓] theorem State.countSaves_sound (s : State) (hS : s.Sound) :
    (@State.countSaves s).Sound := by unfold State.countSaves; simp (maxDischargeDepth := 99) [hS]

@[simp ↓] theorem State.replayJournal_sound (s : State) (bandA : Option Nat) (bandB : Option Nat) (hS : s.Sound) :
    (@State.replayJournal s bandA bandB).2.Sound := by unfold State.replayJournal; simp (maxDischargeDepth := 99) [hS]

@[simp ↓] theorem State.quietly_sound (s : State) (f : State → State) (hS : s.Sound) (hf : ∀ t, t.Sound → (f t).Sound) :
    (@State.quietly s f).Sound := by
  unfold State.quietly
  have := hf _ hS
  simp (maxDischargeDepth := 99) [*]

@[simp ↓] theorem State.applyEntry_sound (s : State) (a1 : JEntry) (hS : s.Sound) :
    (@State.applyEntry s a1).Sound := by unfold State.applyEntry; (try dsimp only); (repeat' split) <;> simp (maxDischargeDepth := 99) +contextual [hS]

@[simp ↓] theorem State.mapRead_sound (s : State) (hS : s.Sound) :
    (@State.mapRead s).Sound := by unfold State.mapRead; simp (maxDischargeDepth := 99) +contextual [hS]

@[simp ↓] theorem State.ringAgain_sound (s : State) (hS : s.Sound) :
    (@State.ringAgain s).Sound := by unfold State.ringAgain; simp (maxDischargeDepth := 99) [hS]

@[simp ↓] theorem State.mapOfRecord_sound (s : State) (p : Progress) (es : List (Nat × JEntry)) (hS : s.Sound) :
    (@State.mapOfRecord s p es).Sound := by unfold State.mapOfRecord; (try dsimp only); (repeat' split) <;> simp (maxDischargeDepth := 99) +contextual [hS]

@[simp ↓] theorem State.requeueMoves_sound (s : State) (hS : s.Sound) :
    (@State.requeueMoves s).Sound := by unfold State.requeueMoves; simp (maxDischargeDepth := 99) +contextual [hS]

@[simp ↓] theorem State.bandSurfaces_sound (s : State) (hS : s.Sound) :
    (@State.bandSurfaces s).Sound := by unfold State.bandSurfaces; (try dsimp only); (repeat' split) <;> simp (maxDischargeDepth := 99) +contextual [hS]

@[simp ↓] theorem State.linesBack_sound (s : State) (es : List (Nat × JEntry)) (hS : s.Sound) :
    (@State.linesBack s es).Sound := by unfold State.linesBack; simp (maxDischargeDepth := 99) +contextual [hS]

@[simp ↓] theorem State.slotNow_sound (s : State) (n : Nat) (hS : s.Sound) :
    (@State.slotNow s n).Sound := by
  unfold State.slotNow
  have hm : ∀ t, (State.Sound t) → Keeps (execStripeOnMedia n t) (State.Sound) := fun t h => by simp (maxDischargeDepth := 99) [*]
  have hc : ∀ t, (State.Sound t) → Keeps (execCommitDurable n t) (State.Sound) := fun t h => by simp (maxDischargeDepth := 99) [*]
  split
  · exact hS
  · dsimp only
    split
    · clear hm hc; simp (maxDischargeDepth := 99) [*]
    · split
      · clear hm hc; simp (maxDischargeDepth := 99) [*]
      · have h2 : ∀ u : State, (State.Sound u) → (State.Sound (match execCommitDurable n u with | .next t => t | _ => u)) := by
          intro u hu
          split
          · rename_i h; exact hc _ hu _ h
          · exact hu
        refine h2 _ ?_
        split
        · rename_i h; exact State.chestWrite_sound _ (hm _ (by clear hm hc h2 h; simp (maxDischargeDepth := 99) [*]) _ h)
        · clear hm hc h2; simp (maxDischargeDepth := 99) [*]

theorem State.homeOut_sound (s : State) (n : Nat) (a : Option State) (lz : Nat) (hS : s.Sound) (ha : ∀ u, a = some u → u.Sound) :
    ∀ t, @State.homeOut s n a lz = some t → t.Sound := by
  intro t
  unfold State.homeOut
  split
  · rintro h1; exact ha _ h1
  · split
    · intro e; cases e; simp (maxDischargeDepth := 99) [*]
    · simp

@[simp ↓] theorem State.linesOut_sound (a0 : Nat) (a1 : State) (hS : a1.Sound) :
    (@State.linesOut a0 a1).Sound := by
  induction a0 generalizing a1 with
  | zero => exact hS
  | succ f ih =>
    have hh : ∀ (l : List Nat) (n : Nat) (a : Option State), (∀ t, a = some t → (State.Sound t)) →
        ∀ t, l.foldl (a1.homeOut n) a = some t → (State.Sound t) := by
      intro l n
      induction l with
      | nil => exact fun o h => h
      | cons x l ihl => exact fun o h => ihl _ (State.homeOut_sound _ _ _ _ hS h)
    unfold State.linesOut
    split
    · exact hS
    · dsimp only
      refine ih _ (State.slotNow_sound _ _ ?_)
      split
      · rename_i h; exact hh _ _ none (by simp) _ h
      · split <;> first | exact hS | (clear ih hh; simp (maxDischargeDepth := 99) [*])

@[simp ↓] theorem State.restoreLines_sound (s : State) (es : List (Nat × JEntry)) (hS : s.Sound) :
    (@State.restoreLines s es).Sound := by unfold State.restoreLines; simp (maxDischargeDepth := 99) [hS]

@[simp ↓] theorem State.chestSeen_sound (s : State) (a : ChestAccess) (hS : s.Sound) :
    (@State.chestSeen s a).Sound := by unfold State.chestSeen; simp (maxDischargeDepth := 99) [hS]

@[simp ↓] theorem State.endP10_sound (s : State) (found : List Nat) (failed : Bool) (keys : List (Nat × Bytes)) (hS : s.Sound) :
    (@State.endP10 s found failed keys).Sound := by unfold State.endP10; simp (maxDischargeDepth := 99) +contextual [hS]

/-! ### Spdm -/

@[simp ↓] theorem State.doeAnswer_sound (s : State) (typ : Nat) (payload : List Word) (hS : s.Sound) :
    (@State.doeAnswer s typ payload).Sound := by unfold State.doeAnswer; simp (maxDischargeDepth := 99) [hS]

@[simp ↓] theorem State.doeDiscard_sound (s : State) (hS : s.Sound) :
    (@State.doeDiscard s).Sound := by unfold State.doeDiscard; simp (maxDischargeDepth := 99) [hS]

@[simp ↓] theorem State.spdmAnswer_sound (s : State) (m : Bytes) (hS : s.Sound) :
    (@State.spdmAnswer s m).Sound := by unfold State.spdmAnswer; simp (maxDischargeDepth := 99) [hS]

@[simp ↓] theorem State.spdmError_sound (s : State) (code : Nat) (data : Nat) (hS : s.Sound) :
    (@State.spdmError s code data).Sound := by unfold State.spdmError; simp (maxDischargeDepth := 99) [hS]

@[simp ↓] theorem State.setSpdm_sound (s : State) (m : Spdm) (hS : s.Sound) :
    (@State.setSpdm s m).Sound := by unfold State.setSpdm; simp (maxDischargeDepth := 99) [hS]

@[simp ↓] theorem State.spdmServe_sound (s : State) (m : Bytes) (stage : Nat) (len : Nat) (f : State → State) (hS : s.Sound)
    (hf : ∀ t, t.Sound → (f t).Sound) :
    (@State.spdmServe s m stage len f).Sound := by
  unfold State.spdmServe
  (repeat' split) <;> simp (maxDischargeDepth := 99) [*]

@[simp ↓] theorem State.certAnswer_sound (s : State) (req : Bytes) (resp : Bytes) (hS : s.Sound) :
    (@State.certAnswer s req resp).Sound := by unfold State.certAnswer; simp (maxDischargeDepth := 99) [hS]

@[simp ↓] theorem State.nonce_sound (s : State) (hS : s.Sound) :
    (@State.nonce s).2.Sound := by unfold State.nonce; simp (maxDischargeDepth := 99) [hS]

end Sys2Proof.Machine
end

