-- ==== Sys2Proof/WellFormed.lean ====
section
/-!
DEFINITION. Which operands a command may carry: the lengths, ranges and encodings that the spec gives the cells, ordered
sets, registers and NVMe fields the operands stand for. A command that is not well formed names nothing the hardware can
meet; `exec` answers it all the same, and statements take this check as a hypothesis only where they need it.
-/

namespace Sys2Proof

/-- An integer within bounds, both included. -/
def inRange (lo hi x : Int) : Bool := decide (lo ≤ x ∧ x ≤ hi)

/-- The lanes of a port towards one side (R93): five up and two down on an Ezpol, two each way on the Zhosel. -/
def laneCount : Port → Bool → Nat
  | .zhosel, _ => 2
  | _, true => 5
  | _, false => 2

/-- A physical lane that the receiving side has (R93). -/
def laneOk (p : Port) (atController : Bool) (lane : Nat) : Bool := decide (lane < laneCount p atController)

/-- Byte 7 of TS1 and TS2 holds bits [3:0] only (R99). -/
def tsOk (b : TsBody) : Bool := decide (b.byte7.toNat < 16)

/-- A head number of an actuator: 0 to 11 on A, 12 to 23 on B (R7). -/
def headOf (x : Act) (h : Nat) : Bool :=
  match x with
  | .a => decide (h < 12)
  | .b => decide (12 ≤ h ∧ h < 24)

/-- A sector payload, where one was delivered, has 4,096 bytes (R191). -/
def blockOk : Option Bytes → Bool
  | some b => decide (b.length = 4096)
  | none => true

/-- The measurements of an actuator (R183): its twelve heads, 16 bands a head. -/
def calOk (x : Act) (m : CalMeas) : Bool :=
  decide (m.gains.length ≤ 12 ∧ m.skews.length ≤ 12 ∧ m.band8.length ≤ 12) && (m.stored.all fun l => decide (l.length = 16)) &&
  (m.assist.all fun a => headOf x a.head)

/-- Whether a command's operands are ones the spec's encodings allow. -/
def Instr.wf : Instr → Bool
  | .powerOn .. => true
  | .vddCoreOff .. => true
  | .sysrstNLow .. => true
  | .sysrstNHigh .. => true
  | .sysrstRecognised .. => true
  | .holdupSaveDone .. => true
  | .resetStretchEnd .. => true
  | .internalResetRelease .. => true
  | .oscSettled .. => true
  | .clkGood .. => true
  | .clkGoodTimeout .. => true
  | .optionCopyCheck .. => true
  | .pcieLinkTrainStart .. => true
  | .sramSelfTestDone .. => true
  | .firmwareCopyCheck .. => true
  | .firmwareLoadDone .. => true
  | .dramTrainingDone .. => true
  | .zhoselLinkUp up dn => up != 0 && dn != 0
  | .zhoselTrainTimeout .. => true
  | .ezpolLinkUp _ up dn => up != 0 && dn != 0
  | .ezpolTrainTimeout .. => true
  | .identityRead _ rd => match rd with | some b => decide (b.length ≤ 65536) | none => true
  | .backgroundIdentityRead _ rd => match rd with | some b => decide (b.length ≤ 65536) | none => true
  | .servoCalibration ma mb => calOk .a ma && calOk .b mb
  | .assistCheck best => best.all fun e => decide (e.1 < 24 ∧ e.2 < 3)
  | .metadataReplay .. => true
  | .startReady .. => true
  | .watchdogService .. => true
  | .watchdogExpire .. => true
  | .nssr .. => true
  | .mfgStartRetry .. => true
  | .pllLockLoss .. => true
  | .lockLossTimeout .. => true
  | .blockResetRequest .. => true
  | .idleAck .. => true
  | .idleAckTimeout .. => true
  | .blockResetRelease .. => true
  | .blkRst .. => true
  | .perstNAssert .. => true
  | .perstNRelease .. => true
  | .ts1 port c lane s => laneOk port c lane && tsOk s
  | .ts2 port c lane s => laneOk port c lane && tsOk s
  | .aln port down lt => lt == 0 || (port == .zhosel && down)
  | .alnInterval .. => true
  | .nak _ _ seq => decide (seq.toNat < 4096)
  | .wih .. => true
  | .alm .. => true
  | .pfail .. => true
  | .lbx .. => true
  | .slp .. => true
  | .blockLockLost port down lane => laneOk port (!down) lane
  | .cellCrcFail .. => true
  | .idle .. => true
  | .wdata _ _ _ _ bits => decide (bits.length = 240)
  | .smpl _ _ _ _ _ samples bits => decide (samples.length = 832) && samples.all (inRange (-32) 31) && decide (bits.length ≤ 740)
  | .resp port _ _ _ _ _ body => decide (body.length ≤ if port = .zhosel then 20 else 68)
  | .mon _ _ m => inRange (-32768) 32767 m.temp
  | .event .. => true
  | .setpt .. => true
  | .mstat .. => true
  | .zc _ entries _ => decide (1 ≤ entries.length ∧ entries.length ≤ 3) && entries.all fun e => e.phase != 3
  | .elec _ sample _ iU iV vU vV vW _ => decide (sample.toNat < 64) && [iU, iV, vU, vV, vW].all (inRange (-32768) 32767)
  | .replayTimeout .. => true
  | .lane0Silence .. => true
  | .linkRetrain port _ up _ _ => port != .zhosel || decide (up.toNat < 4)
  | .linkTmoExpire .. => true
  | .retractDelayExpire .. => true
  | .wakeFromDormant .. => true
  | .writeDriverStart .. => true
  | .assistFaultStop .. => true
  | .downlinkLossStop .. => true
  | .ezpolIdent .. => true
  | .ezpolConfig .. => true
  | .rate .. => true
  | .headSel .. => true
  | .pathCtrl .. => true
  | .writeArm .. => true
  | .writeCancel .. => true
  | .biasSet .. => true
  | .precomp _ _ _ entries => decide (entries.length = 8) && entries.all (inRange (-128) 127)
  | .assistSet .. => true
  | .headTest _ _ _ _ _ _ result => decide (result.toNat ≤ 2)
  | .ezpolLoop .. => true
  | .zhoselIdent .. => true
  | .zhoselConfig .. => true
  | .aux .. => true
  | .spinMode .. => true
  | .spinTable _ _ entries => decide (entries.length = 8)
  | .spinDrive .. => true
  | .vcmEn .. => true
  | .maSelect .. => true
  | .retract .. => true
  | .zhoselLoop .. => true
  | .spinDriveRefresh .. => true
  | .speedDemandChange .. => true
  | .targetLower .. => true
  | .observationEnd .. => true
  | .brakeBelow30rpm .. => true
  | .brakeTimeout .. => true
  | .alignmentDone .. => true
  | .openLoopRampDone .. => true
  | .handoverTimeout .. => true
  | .jCoastEnd .. => true
  | .rotorRecoveryEnd .. => true
  | .spinUpTimeout .. => true
  | .spindleFaultRetry .. => true
  | .servoWedge .. => true
  | .acquisitionTimeout .. => true
  | .seek act t0 t1 => [t0, t1].all fun t => match t with | some x => headOf act x.1 | none => true
  | .microSeek act _ head _ => headOf act head
  | .headSwitch act _ head _ => headOf act head
  | .servoRevolution .. => true
  | .calSave .. => true
  | .shockQuietExpire .. => true
  | .headLoad .. => true
  | .loadPulseEnd .. => true
  | .loadAcquisitionTimeout .. => true
  | .unload .. => true
  | .mapBackgroundPass act head map => headOf act head && decide (map.length = 16)
  | .fsqRun _ _ sectors _ => sectors.all fun o => (o.sm1 ++ o.sm2).all fun c => decide (c.2 ≤ 32)
  | .missedRevolution .. => true
  | .runEnd .. => true
  | .decoderGrant .. => true
  | .decodeEnd _ _ _ payload _ trouble _ => decide (payload.length = 4096 ∧ trouble ≤ 3)
  | .retryStoreExpire _ _ sector => decide (sector < 65536)
  | .referenceDecode .. => true
  | .assistCalDue head => decide (head < 24)
  | .assistCalibration head scores _ signs _ _ => decide (head < 24 ∧ scores.length = 7) && signs.all (inRange (-1) 1)
  | .stripeLaunch .. => true
  | .beginDurable .. => true
  | .stripeOnMedia .. => true
  | .commitDurable .. => true
  | .journalChestWrite .. => true
  | .journalBandFlush .. => true
  | .metadataCheckpoint .. => true
  | .journalBandMove .. => true
  | .headRetire head => decide (head < 24)
  | .degradedRead _ _ _ rows _ => rows.all fun r => decide (r.1 < 256 ∧ r.2.length ≤ 22) && r.2.all blockOk
  | .rebuildChunk _ lost => lost.all fun l => decide (l.2.1 < 256)
  | .relocation _ member => decide (member < 22)
  | .reshape .. => true
  | .reshapeInPlaceChunk .. => true
  | .backgroundErase .. => true
  | .backgroundEraseDone .. => true
  | .memoryCorrection .. => true
  | .bucketLeak .. => true
  | .trackerAgeOut .. => true
  | .uncorrectableError .. => true
  | .scrubPassStart .. => true
  | .scrubPassEnd .. => true
  | .startSram .. => true
  | .startDram .. => true
  | .flipArm value => value.getLsbD 0
  | .refreshRatePoll rates => decide (rates.length ≤ 8)
  | .writeAdmission .. => true
  | .descriptorStart .. => true
  | .descriptorDone .. => true
  | .kick .. => true
  | .abort .. => true
  | .shadowLoad .. => true
  | .streamSetEnd .. => true
  | .eventLinePulse .. => true
  | .mediaCacheSlotTimeout .. => true
  | .indexLogBase .. => true
  | .cleaning .. => true
  | .mergeSwitch .. => true
  | .mapCacheMiss unit _ => decide (unit < 2 ^ 21)
  | .mapFillDone .. => true
  | .mapWritebackDone .. => true
  | .preload .. => true
  | .unlock .. => true
  | .enable .. => true
  | .clean .. => true
  | .sqTailDoorbell qid _ => decide (qid ≤ 64)
  | .cqHeadDoorbell qid _ => decide (qid ≤ 64)
  | .commandFetch sqid _ => decide (sqid ≤ 64)
  | .readerSnapshot .. => true
  | .writerCommit _ current => current.all fun e => blockOk e.2
  | .completionPost .. => true
  | .mediaDispatch _ access _ => (access.map Prod.fst).Nodup
  | .deleteIoSubmissionQueue .. => true
  | .createIoSubmissionQueue .. => true
  | .getLogPage .. => true
  | .deleteIoCompletionQueue .. => true
  | .createIoCompletionQueue .. => true
  | .identify .. => true
  | .abortCommand .. => true
  | .setFeatures _ data => decide (data.length ≤ 256)
  | .getFeatures .. => true
  | .asynchronousEventRequest .. => true
  | .firmwareImageDownload .. => true
  | .firmwareCommit .. => true
  | .shortSelfTest .. => true
  | .extendedSelfTest .. => true
  | .selfTestAbort .. => true
  | .formatNvm .. => true
  | .exitFailureMode .. => true
  | .overwrite .. => true
  | .overwriteZone .. => true
  | .cryptographicErase .. => true
  | .sanitizeResume .. => true
  | .flush .. => true
  | .write _ data _ => data.all fun b => decide (b.length = 512 ∨ b.length = 4096)
  | .read _ media _ => media.all blockOk
  | .writeZeroes .. => true
  | .datasetManagement _ ranges _ => decide (ranges.length ≤ 256)
  | .verify _ media => media.all blockOk
  | .zoneOpen .. => true
  | .zoneClose .. => true
  | .zoneFinish .. => true
  | .zoneReset .. => true
  | .zoneManagementReceive .. => true
  | .zoneAppend _ data _ => data.all fun b => decide (b.length = 4096)
  | .scan .. => true
  | .peerOut .. => true
  | .peerIn .. => true
  | .vendorPiece _ blocks _ => blocks.all blockOk
  | .ccEnSet cc => cc.getLsbD 0
  | .controllerReset cc => !cc.getLsbD 0
  | .shutdown cc => decide (1 ≤ cc.toNat / 2 ^ 14 % 4 ∧ cc.toNat / 2 ^ 14 % 4 ≤ 2)
  | .intms .. => true
  | .intmc .. => true
  | .hotReset .. => true
  | .pcieLinkDown .. => true
  | .functionLevelReset .. => true
  | .pmeTurnOff .. => true
  | .d3hotEntry .. => true
  | .d3hotExit .. => true
  | .aspmL1Entry .. => true
  | .pcieError .. => true
  | .memoryWindowWrite off data => decide (1 ≤ data.length ∧ off + data.length ≤ 2 ^ 28)
  | .memoryWindowRead off len => decide (1 ≤ len ∧ off + len ≤ 2 ^ 28)
  | .doeRequest .. => true
  | .doeAbort .. => true
  | .getVersion .. => true
  | .getCapabilities .. => true
  | .negotiateAlgorithms .. => true
  | .getDigests .. => true
  | .getCertificate .. => true
  | .challenge _ _ nonce => decide (nonce.length = 32)
  | .getMeasurements _ _ nonce _ => decide (nonce.length = 32)
  | .idleTimerPs1 .. => true
  | .idleTimerPs2 .. => true
  | .apstTimer .. => true
  | .ps3Entry .. => true
  | .ps4Entry .. => true
  | .ps3Exit .. => true
  | .ps4Exit .. => true
  | .thermalSample .. => true
  | .chainCommit .. => true
  | .credenzaPersist .. => true
  | .minuteTick .. => true
  | .crdClear .. => true
  | .persist .. => true
  | .burnDs .. => true
  | .programKeySlot .. => true
  | .revokeKeySlot .. => true
  | .revokeHoltaleKey .. => true
  | .hold .. => true
  | .tstLoopback value => value.getLsbD 7
  | .elkLoopback _ value => value.getLsbD 4
  | .hptLoopback value => value.getLsbD 7
  | .loopbackDone .. => true
  | .nstread .. => true
  | .apertureAccess off size _ => decide (off + size ≤ 2 ^ 26) && [1, 2, 4, 8].contains size
  | .registerWrite _ off _ => decide (off < 65536 ∧ off % 4 = 0)
  | .powerLoss .. => true
  | .pcieLinkUp speed width => decide (1 ≤ speed.toNat ∧ speed.toNat ≤ 5) && [1, 2, 4].contains width.toNat
  | .aspmL1Exit .. => true
  | .interruptCoalescingTime qid => decide (qid ≤ 64)
  | .dramSelfRefreshIdle .. => true
  | .loopbackFollower .. => true
  | .extest drive sample => decide (drive.length = sample.length)

end Sys2Proof
end

section
/-!
PROOFS. The state after reset (O2, O3): facts of one closed state, which evaluate.
-/

namespace Sys2Proof.Machine

/-- Settles O2: each clause is a value of the one state `State.reset`. -/
theorem resetLeavesColdStart : Obligations.ResetLeavesColdStart := by
  unfold Obligations.ResetLeavesColdStart
  decide

/-- Settles O3: one register is listed, with a word other than its cold one, and both memories are empty. -/
theorem resetIsSound : Obligations.ResetIsSound where
  regs := by decide
  sram := rfl
  dram := rfl
  fsqs := rfl
  rwcs := rfl

end Sys2Proof.Machine
end

section
/-!
PROOFS. Soundness of every command (O4). Each meaning is made of the shared operations, which keep a state sound
(Laws/Sound): a command's lemma takes its meaning apart along its branches and cites the law of the operations on each.
-/

namespace Sys2Proof.Machine

/-! ### Mec -/

theorem execMemoryCorrection_sound (mem : Mem) (addr : Nat) (clientWrote byScrub : Bool) (s : State) (hS : s.Sound) :
    Keeps (execMemoryCorrection mem addr clientWrote byScrub s) State.Sound := by
  simp [execMemoryCorrection, hS]

theorem execBucketLeak_sound (mem : Mem) (s : State) (hS : s.Sound) :
    Keeps (execBucketLeak mem s) State.Sound := by
  unfold execBucketLeak
  split <;> simp [hS]

theorem execTrackerAgeOut_sound (mem : Mem) (addr : Nat) (s : State) (hS : s.Sound) :
    Keeps (execTrackerAgeOut mem addr s) State.Sound := by
  simp [execTrackerAgeOut, hS]

theorem execUncorrectableError_sound (mem : Mem) (addr : Nat) (reader : UeReader) (region : UeRegion) (s : State)
    (hS : s.Sound) :
    Keeps (execUncorrectableError mem addr reader region s) State.Sound := by
  simp (maxDischargeDepth := 99) [execUncorrectableError, hS]

theorem execScrubPassStart_sound (mem : Mem) (s : State) (hS : s.Sound) :
    Keeps (execScrubPassStart mem s) State.Sound := by
  simp [execScrubPassStart, hS]

theorem execScrubPassEnd_sound (mem : Mem) (s : State) (hS : s.Sound) :
    Keeps (execScrubPassEnd mem s) State.Sound := by
  simp [execScrubPassEnd, hS]

theorem execRefreshRatePoll_sound (rates : List Byte) (s : State) (hS : s.Sound) :
    Keeps (execRefreshRatePoll rates s) State.Sound := by
  simp [execRefreshRatePoll, hS]

/-! ### Dma -/

theorem execDescriptorStart_sound (n : Fin 64) (d : Desc) (pcieData : List Bytes) (s : State) (hS : s.Sound) :
    Keeps (execDescriptorStart n d pcieData s) State.Sound := by
  simp [execDescriptorStart, hS]

theorem execDescriptorDone_sound (n : Fin 64) (pcieErr : Bool) (s : State) (hS : s.Sound) :
    Keeps (execDescriptorDone n pcieErr s) State.Sound := by
  unfold execDescriptorDone
  dsimp only
  (repeat' split) <;> simp [hS]

theorem execShadowLoad_sound (m : Fin 8) (d : Desc) (s : State) (hS : s.Sound) :
    Keeps (execShadowLoad m d s) State.Sound := by
  simp [execShadowLoad, hS]

theorem execStreamSetEnd_sound (m : Fin 8) (s : State) (hS : s.Sound) :
    Keeps (execStreamSetEnd m s) State.Sound := by
  have hrows {d l n r} (h : State.dmaRows d [] l n 0 s = r) : r.1.Sound := by
    subst h; simp (maxDischargeDepth := 99) [hS]
  unfold execStreamSetEnd
  (repeat' split) <;> simp (maxDischargeDepth := 99) [hS]
  all_goals
    have h1 := hrows ‹_›
    simp (maxDischargeDepth := 99) [h1]

theorem execEventLinePulse_sound (ev : Fin 64) (s : State) (hS : s.Sound) :
    Keeps (execEventLinePulse ev s) State.Sound := by
  simp [execEventLinePulse, hS]

/-! ### Stripe -/

theorem execStripeLaunch_sound (slot : Nat) (s : State) (hS : s.Sound) :
    Keeps (execStripeLaunch slot s) State.Sound := by
  unfold execStripeLaunch
  split <;> simp [hS]

theorem execBeginDurable_sound (slot : Nat) (s : State) (hS : s.Sound) :
    Keeps (execBeginDurable slot s) State.Sound := by
  unfold execBeginDurable
  split
  · simp [hS]
  split
  · extract_lets s1
    have h1 : s1.Sound := by simp [s1, hS]
    split
    · refine (Keeps_next _ _).2 (foldl_sound _ _ (fun t m ht => ?_) h1)
      (repeat' split) <;> simp [ht]
    · simp [h1]
  · simp [hS]

theorem execJournalChestWrite_sound (s : State) (hS : s.Sound) :
    Keeps (execJournalChestWrite s) State.Sound := by
  simp [execJournalChestWrite, hS]

theorem execJournalBandFlush_sound (s : State) (hS : s.Sound) :
    Keeps (execJournalBandFlush s) State.Sound := by
  simp [execJournalBandFlush, hS]

theorem execMetadataCheckpoint_sound (s : State) (hS : s.Sound) :
    Keeps (execMetadataCheckpoint s) State.Sound := by
  simp [execMetadataCheckpoint, hS]

theorem execJournalBandMove_sound (x : Act) (s : State) (hS : s.Sound) :
    Keeps (execJournalBandMove x s) State.Sound := by
  unfold execJournalBandMove
  dsimp only
  (repeat' split) <;> simp [hS]

theorem execHeadRetire_sound (head : Nat) (s : State) (hS : s.Sound) :
    Keeps (execHeadRetire head s) State.Sound := by
  unfold execHeadRetire
  split <;> simp [hS]

theorem execDegradedRead_sound (fsn zone stripe : Nat) (rows : List (Nat × List MemberRead)) (afterFurther : Bool)
    (s : State) (hS : s.Sound) :
    Keeps (execDegradedRead fsn zone stripe rows afterFurther s) State.Sound := by
  unfold execDegradedRead
  split <;> simp (maxDischargeDepth := 99) +contextual [hS]

theorem execRebuildChunk_sound (zone : Nat) (lost : List (Nat × Nat × Word)) (s : State) (hS : s.Sound) :
    Keeps (execRebuildChunk zone lost s) State.Sound := by
  unfold execRebuildChunk
  dsimp only
  (repeat' split) <;> simp (maxDischargeDepth := 99) +contextual [hS]

theorem execRelocation_sound (zone member : Nat) (s : State) (hS : s.Sound) :
    Keeps (execRelocation zone member s) State.Sound := by
  unfold execRelocation
  dsimp only
  (repeat' split) <;> simp [hS]

theorem execReshape_sound (zone : Nat) (s : State) (hS : s.Sound) :
    Keeps (execReshape zone s) State.Sound := by
  unfold execReshape
  dsimp only
  (repeat' split) <;> simp [hS]

theorem execReshapeInPlaceChunk_sound (zone : Nat) (s : State) (hS : s.Sound) :
    Keeps (execReshapeInPlaceChunk zone s) State.Sound := by
  unfold execReshapeInPlaceChunk
  split <;> simp [hS]

theorem execBackgroundErase_sound (dev : Fin 2) (s : State) (hS : s.Sound) :
    Keeps (execBackgroundErase dev s) State.Sound := by
  simp [execBackgroundErase, hS]

theorem execBackgroundEraseDone_sound (s : State) (hS : s.Sound) :
    Keeps (execBackgroundEraseDone s) State.Sound := by
  simp [execBackgroundEraseDone, hS]

/-! ### Commands -/

theorem execCommandFetch_sound (sqid : Nat) (e : Sqe) (s : State) (hS : s.Sound) :
    Keeps (execCommandFetch sqid e s) State.Sound := by
  unfold execCommandFetch
  dsimp only
  (repeat' split) <;> simp (maxDischargeDepth := 99) [hS]

theorem execCreateIoCompletionQueue_sound (fsn : Nat) (s : State) (hS : s.Sound) :
    Keeps (execCreateIoCompletionQueue fsn s) State.Sound := by
  unfold execCreateIoCompletionQueue
  split <;> simp [hS]

theorem execCreateIoSubmissionQueue_sound (fsn : Nat) (s : State) (hS : s.Sound) :
    Keeps (execCreateIoSubmissionQueue fsn s) State.Sound := by
  unfold execCreateIoSubmissionQueue
  split <;> simp [hS]

theorem execDeleteIoCompletionQueue_sound (fsn : Nat) (s : State) (hS : s.Sound) :
    Keeps (execDeleteIoCompletionQueue fsn s) State.Sound := by
  unfold execDeleteIoCompletionQueue
  split <;> simp [hS]

theorem execDeleteIoSubmissionQueue_sound (fsn : Nat) (s : State) (hS : s.Sound) :
    Keeps (execDeleteIoSubmissionQueue fsn s) State.Sound := by
  unfold execDeleteIoSubmissionQueue
  split <;> simp (maxDischargeDepth := 99) +contextual [hS]

theorem execAbortCommand_sound (fsn : Nat) (s : State) (hS : s.Sound) :
    Keeps (execAbortCommand fsn s) State.Sound := by
  unfold execAbortCommand
  dsimp only
  (repeat' split) <;> simp (maxDischargeDepth := 99) [hS]

theorem execAsynchronousEventRequest_sound (fsn : Nat) (s : State) (hS : s.Sound) :
    Keeps (execAsynchronousEventRequest fsn s) State.Sound := by
  unfold execAsynchronousEventRequest
  split <;> simp [hS]

theorem execShortSelfTest_sound (fsn : Nat) (s : State) (hS : s.Sound) :
    Keeps (execShortSelfTest fsn s) State.Sound := by
  simp (maxDischargeDepth := 99) +contextual [execShortSelfTest, hS]

theorem execExtendedSelfTest_sound (fsn : Nat) (s : State) (hS : s.Sound) :
    Keeps (execExtendedSelfTest fsn s) State.Sound := by
  simp (maxDischargeDepth := 99) +contextual [execExtendedSelfTest, hS]

theorem execSelfTestAbort_sound (fsn : Nat) (s : State) (hS : s.Sound) :
    Keeps (execSelfTestAbort fsn s) State.Sound := by
  simp +contextual [execSelfTestAbort, hS]

theorem execInterruptCoalescingTime_sound (qid : Nat) (s : State) (hS : s.Sound) :
    Keeps (execInterruptCoalescingTime qid s) State.Sound := by
  unfold execInterruptCoalescingTime
  split <;> simp [hS]

/-! ### Features -/

theorem execSetFeatures_sound (fsn : Nat) (data : Bytes) (s : State) (hS : s.Sound) :
    Keeps (execSetFeatures fsn data s) State.Sound := by
  unfold execSetFeatures
  split <;> simp [hS]

theorem execGetFeatures_sound (fsn : Nat) (s : State) (hS : s.Sound) :
    Keeps (execGetFeatures fsn s) State.Sound := by
  unfold execGetFeatures
  split <;> simp [hS]

/-! ### Io -/

theorem execWrite_sound (fsn : Nat) (data : List Bytes) (xfer : Xfer) (s : State) (hS : s.Sound) :
    Keeps (execWrite fsn data xfer s) State.Sound := by
  unfold execWrite
  split <;> simp [hS]

theorem execZoneAppend_sound (fsn : Nat) (data : List Bytes) (xfer : Xfer) (s : State) (hS : s.Sound) :
    Keeps (execZoneAppend fsn data xfer s) State.Sound := by
  unfold execZoneAppend
  split <;> simp [hS]

theorem execWriteAdmission_sound (fsn : Nat) (s : State) (hS : s.Sound) :
    Keeps (execWriteAdmission fsn s) State.Sound := by
  unfold execWriteAdmission
  (repeat' split) <;> simp [hS]

theorem execWriterCommit_sound (fsn : Nat) (current : List (Nat × Option Bytes)) (s : State) (hS : s.Sound) :
    Keeps (execWriterCommit fsn current s) State.Sound := by
  simp [execWriterCommit, hS]

theorem execZoneOpen_sound (fsn : Nat) (s : State) (hS : s.Sound) :
    Keeps (execZoneOpen fsn s) State.Sound := by
  simp [execZoneOpen, hS]

theorem execZoneClose_sound (fsn : Nat) (s : State) (hS : s.Sound) :
    Keeps (execZoneClose fsn s) State.Sound := by
  simp [execZoneClose, hS]

theorem execZoneFinish_sound (fsn : Nat) (s : State) (hS : s.Sound) :
    Keeps (execZoneFinish fsn s) State.Sound := by
  simp [execZoneFinish, hS]

theorem execZoneReset_sound (fsn : Nat) (s : State) (hS : s.Sound) :
    Keeps (execZoneReset fsn s) State.Sound := by
  simp [execZoneReset, hS]

theorem execWriteZeroes_sound (fsn : Nat) (s : State) (hS : s.Sound) :
    Keeps (execWriteZeroes fsn s) State.Sound := by
  unfold execWriteZeroes
  dsimp only
  (repeat' split) <;> simp [hS]

theorem execDatasetManagement_sound (fsn : Nat) (ranges : List (Nat × Nat)) (xfer : Xfer) (s : State) (hS : s.Sound) :
    Keeps (execDatasetManagement fsn ranges xfer s) State.Sound := by
  unfold execDatasetManagement
  dsimp only
  (repeat' split) <;> simp [hS]

theorem execReaderSnapshot_sound (fsn : Nat) (s : State) (hS : s.Sound) :
    Keeps (execReaderSnapshot fsn s) State.Sound := by
  unfold execReaderSnapshot
  split <;> simp [hS]

theorem execRead_sound (fsn : Nat) (media : List (Option Bytes)) (xfer : Xfer) (s : State) (hS : s.Sound) :
    Keeps (execRead fsn media xfer s) State.Sound := by
  unfold execRead
  dsimp only
  (repeat' split) <;> simp (maxDischargeDepth := 99) [hS]

theorem execVerify_sound (fsn : Nat) (media : List (Option Bytes)) (s : State) (hS : s.Sound) :
    Keeps (execVerify fsn media s) State.Sound := by
  unfold execVerify
  (repeat' split) <;> simp [hS]

theorem execFlush_sound (fsn : Nat) (s : State) (hS : s.Sound) :
    Keeps (execFlush fsn s) State.Sound := by
  unfold execFlush
  split <;> simp [hS]

theorem execMediaDispatch_sound (ch : Fin 4) (access : List (Nat × Nat)) (now : Nat) (s : State) (hS : s.Sound) :
    Keeps (execMediaDispatch ch access now s) State.Sound := by
  unfold execMediaDispatch
  dsimp only
  (repeat' split) <;> simp (maxDischargeDepth := 99) [hS]

/-! ### Bureau -/

theorem execFormatNvm_sound (fsn : Nat) (s : State) (hS : s.Sound) :
    Keeps (execFormatNvm fsn s) State.Sound := by
  unfold execFormatNvm
  dsimp only
  (repeat' split) <;> simp (maxDischargeDepth := 99) [hS]

theorem execExitFailureMode_sound (fsn : Nat) (s : State) (hS : s.Sound) :
    Keeps (execExitFailureMode fsn s) State.Sound := by
  simp [execExitFailureMode, hS]

theorem execOverwrite_sound (fsn : Nat) (s : State) (hS : s.Sound) :
    Keeps (execOverwrite fsn s) State.Sound := by
  simp [execOverwrite, hS]

theorem execOverwriteZone_sound (s : State) (hS : s.Sound) :
    Keeps (execOverwriteZone s) State.Sound := by
  unfold execOverwriteZone
  split <;> simp [hS]

theorem execCryptographicErase_sound (fsn : Nat) (s : State) (hS : s.Sound) :
    Keeps (execCryptographicErase fsn s) State.Sound := by
  simp [execCryptographicErase, hS]

theorem execSanitizeResume_sound (s : State) (hS : s.Sound) :
    Keeps (execSanitizeResume s) State.Sound := by
  simp [execSanitizeResume, hS]

theorem execChainCommit_sound (leafHasDk signaturesOk rootOk : Bool) (s : State) (hS : s.Sound) :
    Keeps (execChainCommit leafHasDk signaturesOk rootOk s) State.Sound := by
  simp (maxDischargeDepth := 99) +contextual [execChainCommit, hS]

/-! ### Completion -/

theorem execCompletionPost_sound (fsn : Nat) (s : State) (hS : s.Sound) :
    Keeps (execCompletionPost fsn s) State.Sound := by
  unfold execCompletionPost
  (repeat' split) <;> simp [hS]

/-! ### Identify -/

theorem execIdentify_sound (fsn : Nat) (s : State) (hS : s.Sound) :
    Keeps (execIdentify fsn s) State.Sound := by
  unfold execIdentify
  (repeat' split) <;> simp [hS]

/-! ### Logs -/

theorem execGetLogPage_sound (fsn : Nat) (s : State) (hS : s.Sound) :
    Keeps (execGetLogPage fsn s) State.Sound := by
  unfold execGetLogPage
  dsimp only
  (repeat' split) <;> simp (maxDischargeDepth := 99) [hS]

/-! ### FrontEnd -/

theorem execEzpolIdent_sound (act : Act) (tag : Byte) (s : State) (hS : s.Sound) :
    Keeps (execEzpolIdent act tag s) State.Sound := by
  simp [execEzpolIdent, hS]

theorem execEzpolConfig_sound (act : Act) (tag : Byte) (monPeriod : BitVec 16) (win : Byte) (s : State) (hS : s.Sound) :
    Keeps (execEzpolConfig act tag monPeriod win s) State.Sound := by
  simp [execEzpolConfig, hS]

theorem execRate_sound (act : Act) (unit : Fin 2) (tag : Byte) (baud : Word) (s : State) (hS : s.Sound) :
    Keeps (execRate act unit tag baud s) State.Sound := by
  simp [execRate, hS]

theorem execHeadSel_sound (act : Act) (unit : Fin 2) (tag : Byte) (head : Byte) (s : State) (hS : s.Sound) :
    Keeps (execHeadSel act unit tag head s) State.Sound := by
  simp [execHeadSel, hS]

theorem execPathCtrl_sound (act : Act) (unit : Fin 2) (tag : Byte) (onOff : Byte) (s : State) (hS : s.Sound) :
    Keeps (execPathCtrl act unit tag onOff s) State.Sound := by
  simp [execPathCtrl, hS]

theorem execWriteArm_sound (act : Act) (unit : Fin 2) (tag : Byte) (start : Word) (phase precompOn : Byte)
    (length sidx : Word) (s : State) (hS : s.Sound) :
    Keeps (execWriteArm act unit tag start phase precompOn length sidx s) State.Sound := by
  simp [execWriteArm, hS]

theorem execWriteCancel_sound (act : Act) (unit : Fin 2) (tag : Byte) (s : State) (hS : s.Sound) :
    Keeps (execWriteCancel act unit tag s) State.Sound := by
  simp [execWriteCancel, hS]

theorem execBiasSet_sound (act : Act) (tag : Byte) (head : Byte) (bias writeCur heater : BitVec 16) (s : State) (hS : s.Sound) :
    Keeps (execBiasSet act tag head bias writeCur heater s) State.Sound := by
  simp [execBiasSet, hS]

theorem execPrecomp_sound (act : Act) (unit : Fin 2) (tag : Byte) (entries : List Int) (s : State) (hS : s.Sound) :
    Keeps (execPrecomp act unit tag entries s) State.Sound := by
  simp [execPrecomp, hS]

theorem execAssistSet_sound (act : Act) (tag : Byte) (head mode : Byte) (writeCur standby lead tail : BitVec 16) (s : State)
    (hS : s.Sound) :
    Keeps (execAssistSet act tag head mode writeCur standby lead tail s) State.Sound := by
  simp [execAssistSet, hS]

theorem execHeadTest_sound (act : Act) (tag : Byte) (head : Byte) (reader writer volt : BitVec 16) (result : Byte)
    (s : State) (hS : s.Sound) :
    Keeps (execHeadTest act tag head reader writer volt result s) State.Sound := by
  simp [execHeadTest, hS]

theorem execEzpolLoop_sound (act : Act) (tag : Byte) (depth : Byte) (s : State) (hS : s.Sound) :
    Keeps (execEzpolLoop act tag depth s) State.Sound := by
  simp [execEzpolLoop, hS]

theorem execWdata_sound (act : Act) (unit : Fin 2) (last : Bool) (widx : Word) (bits : Bytes) (s : State) (hS : s.Sound) :
    Keeps (execWdata act unit last widx bits s) State.Sound := by
  simp (maxDischargeDepth := 99) [execWdata, hS]

theorem execWriteDriverStart_sound (act : Act) (unit : Fin 2) (s : State) (hS : s.Sound) :
    Keeps (execWriteDriverStart act unit s) State.Sound := by
  unfold execWriteDriverStart
  dsimp only
  (repeat' split) <;> simp (maxDischargeDepth := 99) [hS]

theorem execAssistFaultStop_sound (act : Act) (unit : Fin 2) (s : State) (hS : s.Sound) :
    Keeps (execAssistFaultStop act unit s) State.Sound := by
  simp (maxDischargeDepth := 99) [execAssistFaultStop, hS]

theorem execDownlinkLossStop_sound (act : Act) (s : State) (hS : s.Sound) :
    Keeps (execDownlinkLossStop act s) State.Sound := by
  simp [execDownlinkLossStop, hS]

theorem execWih_sound (act : Act) (mask comp reason : Byte) (s : State) (hS : s.Sound) :
    Keeps (execWih act mask comp reason s) State.Sound := by
  simp (maxDischargeDepth := 99) [execWih, hS]

theorem execSlp_sound (act : Act) (s : State) (hS : s.Sound) :
    Keeps (execSlp act s) State.Sound := by
  simp (maxDischargeDepth := 99) [execSlp, hS]

theorem execWakeFromDormant_sound (act : Act) (s : State) (hS : s.Sound) :
    Keeps (execWakeFromDormant act s) State.Sound := by
  simp [execWakeFromDormant, hS]

theorem execLbx_sound (port : Port) (s : State) (hS : s.Sound) :
    Keeps (execLbx port s) State.Sound := by
  unfold execLbx
  split <;> simp [hS]

/-! ### Motion -/

theorem execZhoselIdent_sound (tag : Byte) (s : State) (hS : s.Sound) :
    Keeps (execZhoselIdent tag s) State.Sound := by
  simp [execZhoselIdent, hS]

theorem execZhoselConfig_sound (tag : Byte) (period tmo shock retract : BitVec 16) (s : State) (hS : s.Sound) :
    Keeps (execZhoselConfig tag period tmo shock retract s) State.Sound := by
  simp [execZhoselConfig, hS]

theorem execAux_sound (tag : Byte) (onOff : Byte) (s : State) (hS : s.Sound) :
    Keeps (execAux tag onOff s) State.Sound := by
  simp [execAux, hS]

theorem execSpinMode_sound (tag : Byte) (mode samples : Byte) (limit : BitVec 16) (s : State) (hS : s.Sound) :
    Keeps (execSpinMode tag mode samples limit s) State.Sound := by
  simp [execSpinMode, hS]

theorem execSpinTable_sound (tag : Byte) (base : BitVec 16) (entries : List (BitVec 16)) (s : State) (hS : s.Sound) :
    Keeps (execSpinTable tag base entries s) State.Sound := by
  simp [execSpinTable, hS]

theorem execSpinDrive_sound (tag : Byte) (applyLt angle rate : Word) (ampl : BitVec 16) (lt : Word) (s : State) (hS : s.Sound) :
    Keeps (execSpinDrive tag applyLt angle rate ampl lt s) State.Sound := by
  simp [execSpinDrive, hS]

theorem execVcmEn_sound (tag : Byte) (mask : Byte) (limA limB : BitVec 16) (s : State) (hS : s.Sound) :
    Keeps (execVcmEn tag mask limA limB s) State.Sound := by
  unfold execVcmEn
  split <;> simp [hS]

theorem execMaSelect_sound (act : Act) (tag : Byte) (idx0 idx1 : Byte) (s : State) (hS : s.Sound) :
    Keeps (execMaSelect act tag idx0 idx1 s) State.Sound := by
  simp [execMaSelect, hS]

theorem execRetract_sound (tag : Byte) (mask : Byte) (s : State) (hS : s.Sound) :
    Keeps (execRetract tag mask s) State.Sound := by
  simp [execRetract, hS]

theorem execZhoselLoop_sound (tag : Byte) (depth : Byte) (rpm : Nat) (s : State) (hS : s.Sound) :
    Keeps (execZhoselLoop tag depth rpm s) State.Sound := by
  simp [execZhoselLoop, hS]

theorem execSetpt_sound (act : Act) (wedge : BitVec 16) (applyLt : Word) (vcm ma0 ma1 : BitVec 16) (lt : Word) (s : State)
    (hS : s.Sound) :
    Keeps (execSetpt act wedge applyLt vcm ma0 ma1 lt s) State.Sound := by
  simp (maxDischargeDepth := 99) [execSetpt, hS]

theorem execLinkTmoExpire_sound (s : State) (hS : s.Sound) :
    Keeps (execLinkTmoExpire s) State.Sound := by
  simp [execLinkTmoExpire, hS]

theorem execRetractDelayExpire_sound (s : State) (hS : s.Sound) :
    Keeps (execRetractDelayExpire s) State.Sound := by
  simp [execRetractDelayExpire, hS]

/-! ### Spindle -/

theorem execSpeedDemandChange_sound (demand : Byte) (s : State) (hS : s.Sound) :
    Keeps (execSpeedDemandChange demand s) State.Sound := by
  simp [execSpeedDemandChange, hS]

theorem execTargetLower_sound (s : State) (hS : s.Sound) :
    Keeps (execTargetLower s) State.Sound := by
  simp [execTargetLower, hS]

theorem execSpindleFaultRetry_sound (s : State) (hS : s.Sound) :
    Keeps (execSpindleFaultRetry s) State.Sound := by
  simp [execSpindleFaultRetry, hS]

theorem execSpinUpTimeout_sound (s : State) (hS : s.Sound) :
    Keeps (execSpinUpTimeout s) State.Sound := by
  simp [execSpinUpTimeout, hS]

theorem execObservationEnd_sound (s : State) (hS : s.Sound) :
    Keeps (execObservationEnd s) State.Sound := by
  simp [execObservationEnd, hS]

theorem execBrakeBelow30rpm_sound (s : State) (hS : s.Sound) :
    Keeps (execBrakeBelow30rpm s) State.Sound := by
  simp [execBrakeBelow30rpm, hS]

theorem execBrakeTimeout_sound (s : State) (hS : s.Sound) :
    Keeps (execBrakeTimeout s) State.Sound := by
  simp [execBrakeTimeout, hS]

theorem execAlignmentDone_sound (s : State) (hS : s.Sound) :
    Keeps (execAlignmentDone s) State.Sound := by
  simp [execAlignmentDone, hS]

theorem execOpenLoopRampDone_sound (s : State) (hS : s.Sound) :
    Keeps (execOpenLoopRampDone s) State.Sound := by
  simp [execOpenLoopRampDone, hS]

theorem execHandoverTimeout_sound (moved : Bool) (s : State) (hS : s.Sound) :
    Keeps (execHandoverTimeout moved s) State.Sound := by
  simp [execHandoverTimeout, hS]

theorem execSpinDriveRefresh_sound (lt : Word) (s : State) (hS : s.Sound) :
    Keeps (execSpinDriveRefresh lt s) State.Sound := by
  simp (maxDischargeDepth := 99) [execSpinDriveRefresh, hS]

theorem execJCoastEnd_sound (riseUs decel : Nat) (s : State) (hS : s.Sound) :
    Keeps (execJCoastEnd riseUs decel s) State.Sound := by
  simp (maxDischargeDepth := 99) [execJCoastEnd, hS]

theorem execRotorRecoveryEnd_sound (forward now : Nat) (s : State) (hS : s.Sound) :
    Keeps (execRotorRecoveryEnd forward now s) State.Sound := by
  simp [execRotorRecoveryEnd, hS]

theorem execElec_sound (hdr : CellHdr) (sample : BitVec 16) (lt : Word) (iU iV vU vV vW : Int) (now : Nat) (s : State)
    (hS : s.Sound) :
    Keeps (execElec hdr sample lt iU iV vU vV vW now s) State.Sound := by
  simp [execElec, hS]

theorem execZc_sound (hdr : CellHdr) (entries : List ZcEntry) (now : Nat) (s : State) (hS : s.Sound) :
    Keeps (execZc hdr entries now s) State.Sound := by
  simp [execZc, hS]

/-! ### Servo -/

theorem execSeek_sound (act : Act) (t0 t1 : Option (Nat × Int)) (s : State) (hS : s.Sound) :
    Keeps (execSeek act t0 t1 s) State.Sound := by
  simp [execSeek, hS]

theorem execMicroSeek_sound (act : Act) (unit : Fin 2) (head : Nat) (target : Int) (s : State) (hS : s.Sound) :
    Keeps (execMicroSeek act unit head target s) State.Sound := by
  simp [execMicroSeek, hS]

theorem execHeadSwitch_sound (act : Act) (unit : Fin 2) (head : Nat) (target : Int) (s : State) (hS : s.Sound) :
    Keeps (execHeadSwitch act unit head target s) State.Sound := by
  simp [execHeadSwitch, hS]

theorem execServoWedge_sound (act : Act) (u0 u1 : WedgeObs) (inTime : Bool) (s : State) (hS : s.Sound) :
    Keeps (execServoWedge act u0 u1 inTime s) State.Sound := by
  simp [execServoWedge, hS]

theorem execHeadLoad_sound (act : Act) (lt : Word) (s : State) (hS : s.Sound) :
    Keeps (execHeadLoad act lt s) State.Sound := by
  simp (maxDischargeDepth := 99) [execHeadLoad, hS]

theorem execLoadPulseEnd_sound (act : Act) (lt : Word) (s : State) (hS : s.Sound) :
    Keeps (execLoadPulseEnd act lt s) State.Sound := by
  simp [execLoadPulseEnd, hS]

theorem execLoadAcquisitionTimeout_sound (act : Act) (lt : Word) (now : Nat) (s : State) (hS : s.Sound) :
    Keeps (execLoadAcquisitionTimeout act lt now s) State.Sound := by
  simp [execLoadAcquisitionTimeout, hS]

theorem execAcquisitionTimeout_sound (act : Act) (s : State) (hS : s.Sound) :
    Keeps (execAcquisitionTimeout act s) State.Sound := by
  simp [execAcquisitionTimeout, hS]

theorem execUnload_sound (act : Act) (s : State) (hS : s.Sound) :
    Keeps (execUnload act s) State.Sound := by
  simp [execUnload, hS]

theorem execServoRevolution_sound (act : Act) (e0 e1 : List Int) (mean : Option Int) (s : State) (hS : s.Sound) :
    Keeps (execServoRevolution act e0 e1 mean s) State.Sound := by
  unfold execServoRevolution
  dsimp only
  (repeat' split) <;> simp (maxDischargeDepth := 99) [hS]

theorem execCalSave_sound (minutes : Nat) (s : State) (hS : s.Sound) :
    Keeps (execCalSave minutes s) State.Sound := by
  simp (maxDischargeDepth := 99) [execCalSave, hS]

theorem execShockQuietExpire_sound (act : Act) (s : State) (hS : s.Sound) :
    Keeps (execShockQuietExpire act s) State.Sound := by
  simp [execShockQuietExpire, hS]

theorem execMapBackgroundPass_sound (act : Act) (head : Nat) (map : List Int) (s : State) (hS : s.Sound) :
    Keeps (execMapBackgroundPass act head map s) State.Sound := by
  simp [execMapBackgroundPass, hS]

theorem execServoCalibration_sound (ma mb : CalMeas) (s : State) (hS : s.Sound) :
    Keeps (execServoCalibration ma mb s) State.Sound := by
  simp (maxDischargeDepth := 99) [execServoCalibration, hS]

/-! ### LinkRows -/

theorem execTs1_sound (port : Port) (atController : Bool) (lane : Nat) (b : TsBody) (s : State) (hS : s.Sound) :
    Keeps (execTs1 port atController lane b s) State.Sound := by
  simp (maxDischargeDepth := 99) +contextual [execTs1, hS]

theorem execTs2_sound (port : Port) (atController : Bool) (lane : Nat) (b : TsBody) (s : State) (hS : s.Sound) :
    Keeps (execTs2 port atController lane b s) State.Sound := by
  simp [execTs2, hS]

theorem execAln_sound (port : Port) (down : Bool) (lt : Word) (s : State) (hS : s.Sound) :
    Keeps (execAln port down lt s) State.Sound := by
  simp [execAln, hS]

theorem execAlnInterval_sound (port : Port) (down : Bool) (lt : Word) (s : State) (hS : s.Sound) :
    Keeps (execAlnInterval port down lt s) State.Sound := by
  simp [execAlnInterval, hS]

theorem execNak_sound (port : Port) (atController : Bool) (seq : BitVec 16) (s : State) (hS : s.Sound) :
    Keeps (execNak port atController seq s) State.Sound := by
  unfold execNak
  dsimp only
  (repeat' split) <;> simp [hS]

theorem execCellCrcFail_sound (port : Port) (atController : Bool) (s : State) (hS : s.Sound) :
    Keeps (execCellCrcFail port atController s) State.Sound := by
  simp [execCellCrcFail, hS]

theorem execReplayTimeout_sound (port : Port) (s : State) (hS : s.Sound) :
    Keeps (execReplayTimeout port s) State.Sound := by
  simp [execReplayTimeout, hS]

theorem execLane0Silence_sound (port : Port) (s : State) (hS : s.Sound) :
    Keeps (execLane0Silence port s) State.Sound := by
  simp [execLane0Silence, hS]

theorem execBlockLockLost_sound (port : Port) (down : Bool) (lane : Nat) (s : State) (hS : s.Sound) :
    Keeps (execBlockLockLost port down lane s) State.Sound := by
  simp [execBlockLockLost, hS]

theorem execIdle_sound (port : Port) (hdr : CellHdr) (s : State) (hS : s.Sound) :
    Keeps (execIdle port hdr s) State.Sound := by
  simp [execIdle, hS]

theorem execLinkRetrain_sound (port : Port) (ok : Bool) (up : BitVec 5) (dn : BitVec 2) (now : Nat) (s : State) (hS : s.Sound) :
    Keeps (execLinkRetrain port ok up dn now s) State.Sound := by
  unfold execLinkRetrain
  dsimp only
  (repeat' split) <;> simp (maxDischargeDepth := 99) [hS]

theorem execAlm_sound (port : Port) (source unitMask comp : Byte) (now : Nat) (s : State) (hS : s.Sound) :
    Keeps (execAlm port source unitMask comp now s) State.Sound := by
  unfold execAlm
  dsimp only
  (repeat' split) <;> simp (maxDischargeDepth := 99) +contextual [hS]

theorem execEvent_sound (port : Port) (hdr : CellHdr) (code head : Byte) (detail : BitVec 16) (time : Word) (now : Nat)
    (s : State) (hS : s.Sound) :
    Keeps (execEvent port hdr code head detail time now s) State.Sound := by
  unfold execEvent
  dsimp only
  (repeat' split) <;> simp (maxDischargeDepth := 99) +contextual [hS]

theorem execMon_sound (act : Act) (hdr : CellHdr) (m : MonBody) (s : State) (hS : s.Sound) :
    Keeps (execMon act hdr m s) State.Sound := by
  simp (maxDischargeDepth := 99) [execMon, hS]

theorem execMstat_sound (hdr : CellHdr) (m : MstatBody) (s : State) (hS : s.Sound) :
    Keeps (execMstat hdr m s) State.Sound := by
  simp (maxDischargeDepth := 99) [execMstat, hS]

theorem execResp_sound (port : Port) (hdr : CellHdr) (unit : BitVec 4) (status : BitVec 4) (opcode tag : Byte)
    (body : Bytes) (s : State) (hS : s.Sound) :
    Keeps (execResp port hdr unit status opcode tag body s) State.Sound := by
  unfold execResp
  dsimp only
  (repeat' split) <;> simp (maxDischargeDepth := 99) [hS]

theorem execPfail_sound (s : State) (hS : s.Sound) :
    Keeps (execPfail s) State.Sound := by
  simp (maxDischargeDepth := 99) [execPfail, hS]

/-! ### Channel -/

theorem execSmpl_sound (act : Act) (hdr : CellHdr) (unit : Fin 2) (flags : SmplFlags) (sidx : Word) (samples : List Int)
    (bits : List ChanBit) (s : State) (hS : s.Sound) :
    Keeps (execSmpl act hdr unit flags sidx samples bits s) State.Sound := by
  unfold execSmpl
  dsimp only
  (repeat' split) <;> simp (maxDischargeDepth := 99) [hS]

/-! ### Sequencer -/

theorem execFsqRun_sound (n : Fin 4) (permits : List Bool) (sectors : List SectorObs) (fetches : List FetchObs) (s : State)
    (hS : s.Sound) :
    Keeps (execFsqRun n permits sectors fetches s) State.Sound := by
  simp (maxDischargeDepth := 99) +contextual [execFsqRun, hS]

theorem execMissedRevolution_sound (n : Fin 4) (s : State) (hS : s.Sound) :
    Keeps (execMissedRevolution n s) State.Sound := by
  simp [execMissedRevolution, hS]

theorem execRunEnd_sound (n : Fin 4) (s : State) (hS : s.Sound) :
    Keeps (execRunEnd n s) State.Sound := by
  unfold execRunEnd
  dsimp only
  (repeat' split) <;> simp (maxDischargeDepth := 99) [hS]

/-! ### Decoder -/

theorem execDecoderGrant_sound (s : State) (hS : s.Sound) :
    Keeps (execDecoderGrant s) State.Sound := by
  unfold execDecoderGrant
  split <;> simp [hS]

theorem execDecodeEnd_sound (engine : Fin 6) (zero : Bool) (iters : Nat) (payload : Bytes) (crc : Word) (trouble : Nat)
    (now : Nat) (s : State) (hS : s.Sound) :
    Keeps (execDecodeEnd engine zero iters payload crc trouble now s) State.Sound := by
  unfold execDecodeEnd
  split <;> simp (maxDischargeDepth := 99) [hS]

theorem execRetryStoreExpire_sound (ch : Fin 4) (tag : Word) (sector : Nat) (s : State) (hS : s.Sound) :
    Keeps (execRetryStoreExpire ch tag sector s) State.Sound := by
  unfold execRetryStoreExpire
  split <;> simp (maxDischargeDepth := 99) [hS]

theorem execReferenceDecode_sound (good : BitVec 6) (s : State) (hS : s.Sound) :
    Keeps (execReferenceDecode good s) State.Sound := by
  unfold execReferenceDecode
  refine (Keeps_next _ _).2 (foldl_sound _ _ (fun t e ht => ?_) hS)
  dsimp only
  (repeat' split) <;> simp (maxDischargeDepth := 99) [ht]

theorem execAssistCalDue_sound (head : Nat) (s : State) (hS : s.Sound) :
    Keeps (execAssistCalDue head s) State.Sound := by
  simp [execAssistCalDue, hS]

theorem execAssistCalibration_sound (head : Nat) (scores : List (Nat × Nat)) (threshold : Nat) (signs : List Int) (temp : Int)
    (monitor : Nat) (s : State) (hS : s.Sound) :
    Keeps (execAssistCalibration head scores threshold signs temp monitor s)
      State.Sound := by
  unfold execAssistCalibration
  extract_lets due writing i k s1
  refine (Keeps_ite _ _ _).2 ⟨fun _ => by simp [hS], fun _ => (Keeps_ite _ _ _).2 ⟨fun _ => by simp [hS], fun _ => ?_⟩⟩
  have h1 : s1.Sound := by simp (maxDischargeDepth := 99) [s1, hS]
  split
  extract_lets chosen beyond s2 s3 med s4 crd s5
  have h2 : s2.Sound := by simp [s2, h1]
  have h3 : s3.Sound := by simp [s3, h2]
  have h4 : s4.Sound := by simp [s4, h3]
  have h5 : s5.Sound := by simp [s5, h4]
  simp [h5]

theorem execAssistCheck_sound (best : List (Nat × Nat)) (s : State) (hS : s.Sound) :
    Keeps (execAssistCheck best s) State.Sound := by
  simp (maxDischargeDepth := 99) +contextual [execAssistCheck, hS]

/-! ### Reset -/

theorem execPowerOn_sound (rail : Rail) (s : State) (hS : s.Sound) :
    Keeps (execPowerOn rail s) State.Sound := by
  simp (maxDischargeDepth := 99) [execPowerOn, hS]

theorem execVddCoreOff_sound (s : State) (hS : s.Sound) :
    Keeps (execVddCoreOff s) State.Sound := by
  simp [execVddCoreOff, hS]

theorem execPowerLoss_sound (s : State) (hS : s.Sound) :
    Keeps (execPowerLoss s) State.Sound := by
  simp (maxDischargeDepth := 99) [execPowerLoss, hS]

theorem execSysrstNLow_sound (s : State) (hS : s.Sound) :
    Keeps (execSysrstNLow s) State.Sound := by
  simp (maxDischargeDepth := 99) [execSysrstNLow, hS]

theorem execSysrstNHigh_sound (s : State) (hS : s.Sound) :
    Keeps (execSysrstNHigh s) State.Sound := by
  simp [execSysrstNHigh, hS]

theorem execSysrstRecognised_sound (s : State) (hS : s.Sound) :
    Keeps (execSysrstRecognised s) State.Sound := by
  simp [execSysrstRecognised, hS]

theorem execHoldupSaveDone_sound (skipped : Nat) (s : State) (hS : s.Sound) :
    Keeps (execHoldupSaveDone skipped s) State.Sound := by
  simp (maxDischargeDepth := 99) [execHoldupSaveDone, hS]

theorem execResetStretchEnd_sound (s : State) (hS : s.Sound) :
    Keeps (execResetStretchEnd s) State.Sound := by
  simp (maxDischargeDepth := 99) [execResetStretchEnd, hS]

theorem execInternalResetRelease_sound (bootSrc clkMode : BitVec 2) (s : State) (hS : s.Sound) :
    Keeps (execInternalResetRelease bootSrc clkMode s) State.Sound := by
  simp (maxDischargeDepth := 99) [execInternalResetRelease, hS]

theorem execOscSettled_sound (s : State) (hS : s.Sound) :
    Keeps (execOscSettled s) State.Sound := by
  simp [execOscSettled, hS]

theorem execMfgStartRetry_sound (s : State) (hS : s.Sound) :
    Keeps (execMfgStartRetry s) State.Sound := by
  simp +contextual [execMfgStartRetry, hS]

theorem execWatchdogService_sound (s : State) (hS : s.Sound) :
    Keeps (execWatchdogService s) State.Sound := by
  simp [execWatchdogService, hS]

theorem execWatchdogExpire_sound (s : State) (hS : s.Sound) :
    Keeps (execWatchdogExpire s) State.Sound := by
  simp [execWatchdogExpire, hS]

/-! ### BlockReset -/

theorem execBlockResetRequest_sound (slot : Fin 26) (s : State) (hS : s.Sound) :
    Keeps (execBlockResetRequest slot s) State.Sound := by
  simp [execBlockResetRequest, hS]

theorem execIdleAck_sound (slot : Fin 26) (s : State) (hS : s.Sound) :
    Keeps (execIdleAck slot s) State.Sound := by
  simp [execIdleAck, hS]

theorem execIdleAckTimeout_sound (slot : Fin 26) (s : State) (hS : s.Sound) :
    Keeps (execIdleAckTimeout slot s) State.Sound := by
  simp [execIdleAckTimeout, hS]

theorem execBlockResetRelease_sound (slot : Fin 26) (s : State) (hS : s.Sound) :
    Keeps (execBlockResetRelease slot s) State.Sound := by
  simp [execBlockResetRelease, hS]

theorem execPllLockLoss_sound (pll : Pll) (s : State) (hS : s.Sound) :
    Keeps (execPllLockLoss pll s) State.Sound := by
  unfold execPllLockLoss
  dsimp only
  (repeat' split) <;> simp (maxDischargeDepth := 99) +contextual [hS]

theorem execLockLossTimeout_sound (dom : Fin 10) (s : State) (hS : s.Sound) :
    Keeps (execLockLossTimeout dom s) State.Sound := by
  simp [execLockLossTimeout, hS]

theorem execPerstNAssert_sound (s : State) (hS : s.Sound) :
    Keeps (execPerstNAssert s) State.Sound := by
  simp (maxDischargeDepth := 99) [execPerstNAssert, hS]

theorem execPerstNRelease_sound (s : State) (hS : s.Sound) :
    Keeps (execPerstNRelease s) State.Sound := by
  simp [execPerstNRelease, hS]

theorem execHotReset_sound (s : State) (hS : s.Sound) :
    Keeps (execHotReset s) State.Sound := by
  simp (maxDischargeDepth := 99) [execHotReset, hS]

theorem execPcieLinkDown_sound (s : State) (hS : s.Sound) :
    Keeps (execPcieLinkDown s) State.Sound := by
  simp (maxDischargeDepth := 99) [execPcieLinkDown, hS]

theorem execFunctionLevelReset_sound (s : State) (hS : s.Sound) :
    Keeps (execFunctionLevelReset s) State.Sound := by
  simp [execFunctionLevelReset, hS]

/-! ### ZoneMap -/

theorem execMediaCacheSlotTimeout_sound (slot : Nat) (s : State) (hS : s.Sound) :
    Keeps (execMediaCacheSlotTimeout slot s) State.Sound := by
  unfold execMediaCacheSlotTimeout
  dsimp only
  (repeat' split) <;> simp [hS]

theorem execIndexLogBase_sound (s : State) (hS : s.Sound) :
    Keeps (execIndexLogBase s) State.Sound := by
  simp [execIndexLogBase, hS]

theorem execCleaning_sound (s : State) (hS : s.Sound) :
    Keeps (execCleaning s) State.Sound := by
  unfold execCleaning
  dsimp only
  (repeat' split) <;> simp (maxDischargeDepth := 99) +contextual [hS]

theorem execMergeSwitch_sound (zone target : Nat) (s : State) (hS : s.Sound) :
    Keeps (execMergeSwitch zone target s) State.Sound := by
  unfold execMergeSwitch
  dsimp only
  (repeat' split) <;> simp (maxDischargeDepth := 99) +contextual [hS]

theorem execMapCacheMiss_sound (unit : Nat) (write : Bool) (s : State) (hS : s.Sound) :
    Keeps (execMapCacheMiss unit write s) State.Sound := by
  simp [execMapCacheMiss, hS]

theorem execMapFillDone_sound (k : Fin 8) (s : State) (hS : s.Sound) :
    Keeps (execMapFillDone k s) State.Sound := by
  unfold execMapFillDone
  dsimp only
  (repeat' split) <;> simp (maxDischargeDepth := 99) [hS]

theorem execMapWritebackDone_sound (line : Fin 48) (s : State) (hS : s.Sound) :
    Keeps (execMapWritebackDone line s) State.Sound := by
  simp (maxDischargeDepth := 99) [execMapWritebackDone, hS]

/-! ### PowerRows -/

theorem execIdleTimerPs1_sound (s : State) (hS : s.Sound) :
    Keeps (execIdleTimerPs1 s) State.Sound := by
  simp [execIdleTimerPs1, hS]

theorem execIdleTimerPs2_sound (s : State) (hS : s.Sound) :
    Keeps (execIdleTimerPs2 s) State.Sound := by
  simp [execIdleTimerPs2, hS]

theorem execApstTimer_sound (s : State) (hS : s.Sound) :
    Keeps (execApstTimer s) State.Sound := by
  simp [execApstTimer, hS]

theorem execPs3Entry_sound (s : State) (hS : s.Sound) :
    Keeps (execPs3Entry s) State.Sound := by
  simp [execPs3Entry, hS]

theorem execPs4Entry_sound (s : State) (hS : s.Sound) :
    Keeps (execPs4Entry s) State.Sound := by
  simp [execPs4Entry, hS]

theorem execPs3Exit_sound (s : State) (hS : s.Sound) :
    Keeps (execPs3Exit s) State.Sound := by
  simp [execPs3Exit, hS]

theorem execPs4Exit_sound (s : State) (hS : s.Sound) :
    Keeps (execPs4Exit s) State.Sound := by
  simp [execPs4Exit, hS]

theorem execDramSelfRefreshIdle_sound (s : State) (hS : s.Sound) :
    Keeps (execDramSelfRefreshIdle s) State.Sound := by
  simp [execDramSelfRefreshIdle, hS]

theorem execThermalSample_sound (r0 r1 r2 r3 : Int) (s : State) (hS : s.Sound) :
    Keeps (execThermalSample r0 r1 r2 r3 s) State.Sound := by
  unfold execThermalSample
  dsimp only
  (repeat' split) <;> simp (maxDischargeDepth := 99) [hS]

/-! ### HostPort -/

theorem execPmeTurnOff_sound (s : State) (hS : s.Sound) :
    Keeps (execPmeTurnOff s) State.Sound := by
  simp [execPmeTurnOff, hS]

theorem execD3hotEntry_sound (s : State) (hS : s.Sound) :
    Keeps (execD3hotEntry s) State.Sound := by
  simp [execD3hotEntry, hS]

theorem execD3hotExit_sound (s : State) (hS : s.Sound) :
    Keeps (execD3hotExit s) State.Sound := by
  simp (maxDischargeDepth := 99) [execD3hotExit, hS]

theorem execAspmL1Entry_sound (s : State) (hS : s.Sound) :
    Keeps (execAspmL1Entry s) State.Sound := by
  simp [execAspmL1Entry, hS]

theorem execAspmL1Exit_sound (s : State) (hS : s.Sound) :
    Keeps (execAspmL1Exit s) State.Sound := by
  simp [execAspmL1Exit, hS]

theorem execLoopbackFollower_sound (s : State) (hS : s.Sound) :
    Keeps (execLoopbackFollower s) State.Sound := by
  simp (maxDischargeDepth := 99) [execLoopbackFollower, hS]

theorem execPcieError_sound (e : PcieErr) (s : State) (hS : s.Sound) :
    Keeps (execPcieError e s) State.Sound := by
  simp [execPcieError, hS]

theorem execMemoryWindowWrite_sound (off : Nat) (data : Bytes) (s : State) (hS : s.Sound) :
    Keeps (execMemoryWindowWrite off data s) State.Sound := by
  simp +contextual [execMemoryWindowWrite, hS]

theorem execMemoryWindowRead_sound (off len : Nat) (s : State) (hS : s.Sound) :
    Keeps (execMemoryWindowRead off len s) State.Sound := by
  unfold execMemoryWindowRead
  refine (Keeps_next _ _).2 (State.memReq_sound _ _ _ hS (fun t ht => ?_))
  (repeat' split) <;> simp (maxDischargeDepth := 99) +contextual [ht]

/-! ### Test -/

theorem execCredenzaPersist_sound (s : State) (hS : s.Sound) :
    Keeps (execCredenzaPersist s) State.Sound := by
  simp [execCredenzaPersist, hS]

theorem execMinuteTick_sound (s : State) (hS : s.Sound) :
    Keeps (execMinuteTick s) State.Sound := by
  simp (maxDischargeDepth := 99) [execMinuteTick, hS]

theorem execBurnDs_sound (ok : Bool) (s : State) (hS : s.Sound) :
    Keeps (execBurnDs ok s) State.Sound := by
  simp (maxDischargeDepth := 99) +contextual [execBurnDs, hS]

theorem execProgramKeySlot_sound (index : Fin 4) (ok : Bool) (s : State) (hS : s.Sound) :
    Keeps (execProgramKeySlot index ok s) State.Sound := by
  unfold execProgramKeySlot
  refine (Keeps_next _ _).2 (State.inMfg_sound _ _ hS fun t ht => ?_)
  (repeat' split) <;> simp (maxDischargeDepth := 99) [ht]

theorem execRevokeKeySlot_sound (index : Fin 4) (ok : Bool) (s : State) (hS : s.Sound) :
    Keeps (execRevokeKeySlot index ok s) State.Sound := by
  unfold execRevokeKeySlot
  refine (Keeps_next _ _).2 (State.inMfg_sound _ _ hS fun t ht => ?_)
  (repeat' split) <;> simp (maxDischargeDepth := 99) [ht]

theorem execRevokeHoltaleKey_sound (index : Fin 2) (ok : Bool) (s : State) (hS : s.Sound) :
    Keeps (execRevokeHoltaleKey index ok s) State.Sound := by
  simp (maxDischargeDepth := 99) +contextual [execRevokeHoltaleKey, hS]

theorem execLoopbackDone_sound (unit : Fin 5) (errors : Nat) (s : State) (hS : s.Sound) :
    Keeps (execLoopbackDone unit errors s) State.Sound := by
  simp (maxDischargeDepth := 99) [execLoopbackDone, hS]

theorem execNstread_sound (s : State) (hS : s.Sound) :
    Keeps (execNstread s) State.Sound := by
  simp [execNstread, hS]

theorem execExtest_sound (drive sample : List Bool) (s : State) (hS : s.Sound) :
    Keeps (execExtest drive sample s) State.Sound := by
  simp [execExtest, hS]

/-! ### Vendor -/

theorem execScan_sound (fsn : Nat) (s : State) (hS : s.Sound) :
    Keeps (execScan fsn s) State.Sound := by
  unfold execScan
  split <;> simp [hS]

theorem execPeerOut_sound (fsn : Nat) (s : State) (hS : s.Sound) :
    Keeps (execPeerOut fsn s) State.Sound := by
  simp [execPeerOut, hS]

theorem execPeerIn_sound (fsn : Nat) (s : State) (hS : s.Sound) :
    Keeps (execPeerIn fsn s) State.Sound := by
  simp [execPeerIn, hS]

theorem execVendorPiece_sound (fsn : Nat) (blocks : List (Option Bytes)) (xfer : Xfer) (s : State) (hS : s.Sound) :
    Keeps (execVendorPiece fsn blocks xfer s) State.Sound := by
  unfold execVendorPiece
  (repeat' split) <;> simp [hS]

/-! ### Aperture -/

theorem execApertureAccess_sound (off size : Nat) (value : Option Word) (s : State) (hS : s.Sound) :
    Keeps (execApertureAccess off size value s) State.Sound := by
  simp +contextual [execApertureAccess, hS]

theorem execRegisterWrite_sound (space : RegSpace) (off : Nat) (value : Word) (s : State) (hS : s.Sound) :
    Keeps (execRegisterWrite space off value s) State.Sound := by
  unfold execRegisterWrite
  split <;> simp +contextual [hS]

/-! ### Firmware -/

theorem execZoneManagementReceive_sound (fsn : Nat) (s : State) (hS : s.Sound) :
    Keeps (execZoneManagementReceive fsn s) State.Sound := by
  unfold execZoneManagementReceive
  split <;> simp [hS]

theorem execFirmwareImageDownload_sound (fsn : Nat) (data : Bytes) (s : State) (hS : s.Sound) :
    Keeps (execFirmwareImageDownload fsn data s) State.Sound := by
  unfold execFirmwareImageDownload
  split <;> simp [hS]

theorem execFirmwareCommit_sound (fsn : Nat) (backFallback backPrimary : Bool) (s : State) (hS : s.Sound) :
    Keeps (execFirmwareCommit fsn backFallback backPrimary s) State.Sound := by
  unfold execFirmwareCommit
  dsimp only
  (repeat' split) <;> simp (maxDischargeDepth := 99) [hS]

/-! ### Start -/

theorem execClkGoodTimeout_sound (dom : Fin 10) (s : State) (hS : s.Sound) :
    Keeps (execClkGoodTimeout dom s) State.Sound := by
  simp (maxDischargeDepth := 99) [execClkGoodTimeout, hS]

theorem execClkGood_sound (dom : Fin 10) (s : State) (hS : s.Sound) :
    Keeps (execClkGood dom s) State.Sound := by
  simp (maxDischargeDepth := 99) [execClkGood, hS]

theorem execOptionCopyCheck_sound (copy : Copy) (rd : NorRead) (s : State) (hS : s.Sound) :
    Keeps (execOptionCopyCheck copy rd s) State.Sound := by
  unfold execOptionCopyCheck
  dsimp only
  (repeat' split) <;> simp (maxDischargeDepth := 99) [hS]

theorem execSramSelfTestDone_sound (rows : List (BitVec 6 × BitVec 10)) (spares : List (BitVec 6 × BitVec 4)) (s : State)
    (hS : s.Sound) :
    Keeps (execSramSelfTestDone rows spares s) State.Sound := by
  simp (maxDischargeDepth := 99) +contextual [execSramSelfTestDone, hS]

theorem execFirmwareCopyCheck_sound (copy : Copy) (rd : NorRead) (s : State) (hS : s.Sound) :
    Keeps (execFirmwareCopyCheck copy rd s) State.Sound := by
  simp (maxDischargeDepth := 99) [execFirmwareCopyCheck, hS]

theorem execFirmwareLoadDone_sound (chest : ChestAccess) (s : State) (hS : s.Sound) :
    Keeps (execFirmwareLoadDone chest s) State.Sound := by
  simp (maxDischargeDepth := 99) [execFirmwareLoadDone, hS]

theorem execDramTrainingDone_sound (trained : BitVec 4) (capGiB : BitVec 4) (density : BitVec 5) (s : State) (hS : s.Sound) :
    Keeps (execDramTrainingDone trained capGiB density s) State.Sound := by
  unfold execDramTrainingDone
  dsimp only
  (repeat' split) <;> simp (maxDischargeDepth := 99) [hS]

theorem execPcieLinkTrainStart_sound (s : State) (hS : s.Sound) :
    Keeps (execPcieLinkTrainStart s) State.Sound := by
  simp [execPcieLinkTrainStart, hS]

theorem execPcieLinkUp_sound (speed width : BitVec 3) (s : State) (hS : s.Sound) :
    Keeps (execPcieLinkUp speed width s) State.Sound := by
  simp (maxDischargeDepth := 99) [execPcieLinkUp, hS]

/-! ### Discovery -/

theorem execZhoselLinkUp_sound (up dn : BitVec 2) (s : State) (hS : s.Sound) :
    Keeps (execZhoselLinkUp up dn s) State.Sound := by
  unfold execZhoselLinkUp
  dsimp only
  (repeat' split) <;> simp (maxDischargeDepth := 99) [hS]

theorem execZhoselTrainTimeout_sound (s : State) (hS : s.Sound) :
    Keeps (execZhoselTrainTimeout s) State.Sound := by
  simp (maxDischargeDepth := 99) [execZhoselTrainTimeout, hS]

theorem execEzpolLinkUp_sound (act : Act) (up : BitVec 5) (dn : BitVec 2) (s : State) (hS : s.Sound) :
    Keeps (execEzpolLinkUp act up dn s) State.Sound := by
  unfold execEzpolLinkUp
  dsimp only
  (repeat' split) <;> simp (maxDischargeDepth := 99) [hS]

theorem execEzpolTrainTimeout_sound (act : Act) (s : State) (hS : s.Sound) :
    Keeps (execEzpolTrainTimeout act s) State.Sound := by
  simp (maxDischargeDepth := 99) [execEzpolTrainTimeout, hS]

theorem execIdentityRead_sound (mem : IdMem) (rd : Option Bytes) (s : State) (hS : s.Sound) :
    Keeps (execIdentityRead mem rd s) State.Sound := by
  unfold execIdentityRead
  dsimp only
  (repeat' split) <;> simp (maxDischargeDepth := 99) [hS]

theorem execBackgroundIdentityRead_sound (mem : IdMem) (rd : Option Bytes) (s : State) (hS : s.Sound) :
    Keeps (execBackgroundIdentityRead mem rd s) State.Sound := by
  unfold execBackgroundIdentityRead
  dsimp only
  (repeat' split) <;> simp [hS]

/-! ### Restore -/

theorem execMetadataReplay_sound (chest : ChestAccess) (bandA bandB : Option Nat) (mapOk : Bool) (s : State) (hS : s.Sound) :
    Keeps (execMetadataReplay chest bandA bandB mapOk s) State.Sound := by
  unfold execMetadataReplay
  dsimp only
  (repeat' split) <;> simp (maxDischargeDepth := 99) +contextual [hS]

theorem execStartReady_sound (s : State) (hS : s.Sound) :
    Keeps (execStartReady s) State.Sound := by
  simp (maxDischargeDepth := 99) [execStartReady, hS]

/-! ### Spdm -/

theorem execDoeRequest_sound (vendor : BitVec 16) (typ : Byte) (payload : List Word) (s : State) (hS : s.Sound) :
    Keeps (execDoeRequest vendor typ payload s) State.Sound := by
  simp [execDoeRequest, hS]

theorem execDoeAbort_sound (s : State) (hS : s.Sound) :
    Keeps (execDoeAbort s) State.Sound := by
  simp [execDoeAbort, hS]

theorem execGetVersion_sound (s : State) (hS : s.Sound) :
    Keeps (execGetVersion s) State.Sound := by
  unfold execGetVersion
  split <;> simp [hS]

theorem execGetCapabilities_sound (version : Byte) (s : State) (hS : s.Sound) :
    Keeps (execGetCapabilities version s) State.Sound := by
  unfold execGetCapabilities
  split <;> simp (maxDischargeDepth := 99) +contextual [hS]

theorem execNegotiateAlgorithms_sound (asym hash : Word) (measSpec : Byte) (s : State) (hS : s.Sound) :
    Keeps (execNegotiateAlgorithms asym hash measSpec s) State.Sound := by
  unfold execNegotiateAlgorithms
  dsimp only
  (repeat' split) <;> simp (maxDischargeDepth := 99) +contextual [hS]

theorem execGetDigests_sound (s : State) (hS : s.Sound) :
    Keeps (execGetDigests s) State.Sound := by
  unfold execGetDigests
  split <;> simp +contextual [hS]

theorem execGetCertificate_sound (slot : Byte) (offset length : BitVec 16) (s : State) (hS : s.Sound) :
    Keeps (execGetCertificate slot offset length s) State.Sound := by
  unfold execGetCertificate
  split <;> simp +contextual [hS]

theorem execChallenge_sound (slot : Byte) (hashType : Byte) (nonce : Bytes) (s : State) (hS : s.Sound) :
    Keeps (execChallenge slot hashType nonce s) State.Sound := by
  unfold execChallenge
  split <;> simp (maxDischargeDepth := 99) +contextual [hS]

theorem execGetMeasurements_sound (param1 param2 : Byte) (nonce : Bytes) (slot : Byte) (s : State) (hS : s.Sound) :
    Keeps (execGetMeasurements param1 param2 nonce slot s) State.Sound := by
  unfold execGetMeasurements
  split
  · simp [hS]
  dsimp only
  split
  · simp [hS]
  refine (Keeps_next _ _).2 (State.spdmServe_sound _ _ _ _ _ hS (fun t ht => ?_))
  (repeat' split) <;> simp (maxDischargeDepth := 99) [ht]

/-! ### Every command, and every step -/

theorem exec_sound (c : Instr) (s : State) (hS : s.Sound) : Keeps (exec c s) State.Sound :=
  match c with
  | .powerOn rail => execPowerOn_sound rail s hS
  | .vddCoreOff => execVddCoreOff_sound s hS
  | .sysrstNLow => execSysrstNLow_sound s hS
  | .sysrstNHigh => execSysrstNHigh_sound s hS
  | .sysrstRecognised => execSysrstRecognised_sound s hS
  | .holdupSaveDone skipped => execHoldupSaveDone_sound skipped s hS
  | .resetStretchEnd => execResetStretchEnd_sound s hS
  | .internalResetRelease bootSrc clkMode => execInternalResetRelease_sound bootSrc clkMode s hS
  | .oscSettled => execOscSettled_sound s hS
  | .clkGood dom => execClkGood_sound dom s hS
  | .clkGoodTimeout dom => execClkGoodTimeout_sound dom s hS
  | .optionCopyCheck copy rd => execOptionCopyCheck_sound copy rd s hS
  | .pcieLinkTrainStart => execPcieLinkTrainStart_sound s hS
  | .sramSelfTestDone rows spares => execSramSelfTestDone_sound rows spares s hS
  | .firmwareCopyCheck copy rd => execFirmwareCopyCheck_sound copy rd s hS
  | .firmwareLoadDone chest => execFirmwareLoadDone_sound chest s hS
  | .dramTrainingDone trained capGiB density => execDramTrainingDone_sound trained capGiB density s hS
  | .zhoselLinkUp up dn => execZhoselLinkUp_sound up dn s hS
  | .zhoselTrainTimeout => execZhoselTrainTimeout_sound s hS
  | .ezpolLinkUp act up dn => execEzpolLinkUp_sound act up dn s hS
  | .ezpolTrainTimeout act => execEzpolTrainTimeout_sound act s hS
  | .identityRead mem rd => execIdentityRead_sound mem rd s hS
  | .backgroundIdentityRead mem rd => execBackgroundIdentityRead_sound mem rd s hS
  | .servoCalibration ma mb => execServoCalibration_sound ma mb s hS
  | .assistCheck best => execAssistCheck_sound best s hS
  | .metadataReplay chest bandA bandB mapOk => execMetadataReplay_sound chest bandA bandB mapOk s hS
  | .startReady => execStartReady_sound s hS
  | .watchdogService => execWatchdogService_sound s hS
  | .watchdogExpire => execWatchdogExpire_sound s hS
  | .nssr value => execNssr_sound value s hS
  | .mfgStartRetry => execMfgStartRetry_sound s hS
  | .pllLockLoss pll => execPllLockLoss_sound pll s hS
  | .lockLossTimeout dom => execLockLossTimeout_sound dom s hS
  | .blockResetRequest slot => execBlockResetRequest_sound slot s hS
  | .idleAck slot => execIdleAck_sound slot s hS
  | .idleAckTimeout slot => execIdleAckTimeout_sound slot s hS
  | .blockResetRelease slot => execBlockResetRelease_sound slot s hS
  | .blkRst value => execBlkRst_sound value s hS
  | .perstNAssert => execPerstNAssert_sound s hS
  | .perstNRelease => execPerstNRelease_sound s hS
  | .ts1 port atController lane sb => execTs1_sound port atController lane sb s hS
  | .ts2 port atController lane sb => execTs2_sound port atController lane sb s hS
  | .aln port down lt => execAln_sound port down lt s hS
  | .alnInterval port down lt => execAlnInterval_sound port down lt s hS
  | .nak port atController seq => execNak_sound port atController seq s hS
  | .wih act mask comp reason => execWih_sound act mask comp reason s hS
  | .alm port source unitMask comp now => execAlm_sound port source unitMask comp now s hS
  | .pfail => execPfail_sound s hS
  | .lbx port => execLbx_sound port s hS
  | .slp act => execSlp_sound act s hS
  | .blockLockLost port down lane => execBlockLockLost_sound port down lane s hS
  | .cellCrcFail port atController => execCellCrcFail_sound port atController s hS
  | .idle port hdr => execIdle_sound port hdr s hS
  | .wdata act unit last widx bits => execWdata_sound act unit last widx bits s hS
  | .smpl act hdr unit flags sidx samples bits => execSmpl_sound act hdr unit flags sidx samples bits s hS
  | .resp port hdr unit status opcode tag body => execResp_sound port hdr unit status opcode tag body s hS
  | .mon act hdr m => execMon_sound act hdr m s hS
  | .event port hdr code head detail time now => execEvent_sound port hdr code head detail time now s hS
  | .setpt act wedge applyLt vcm ma0 ma1 lt => execSetpt_sound act wedge applyLt vcm ma0 ma1 lt s hS
  | .mstat hdr m => execMstat_sound hdr m s hS
  | .zc hdr entries now => execZc_sound hdr entries now s hS
  | .elec hdr sample lt iU iV vU vV vW now => execElec_sound hdr sample lt iU iV vU vV vW now s hS
  | .replayTimeout port => execReplayTimeout_sound port s hS
  | .lane0Silence port => execLane0Silence_sound port s hS
  | .linkRetrain port ok up dn now => execLinkRetrain_sound port ok up dn now s hS
  | .linkTmoExpire => execLinkTmoExpire_sound s hS
  | .retractDelayExpire => execRetractDelayExpire_sound s hS
  | .wakeFromDormant act => execWakeFromDormant_sound act s hS
  | .writeDriverStart act unit => execWriteDriverStart_sound act unit s hS
  | .assistFaultStop act unit => execAssistFaultStop_sound act unit s hS
  | .downlinkLossStop act => execDownlinkLossStop_sound act s hS
  | .ezpolIdent act tag => execEzpolIdent_sound act tag s hS
  | .ezpolConfig act tag monPeriod win => execEzpolConfig_sound act tag monPeriod win s hS
  | .rate act unit tag baud => execRate_sound act unit tag baud s hS
  | .headSel act unit tag head => execHeadSel_sound act unit tag head s hS
  | .pathCtrl act unit tag onOff => execPathCtrl_sound act unit tag onOff s hS
  | .writeArm act unit tag start phase precompOn length sidx =>
    execWriteArm_sound act unit tag start phase precompOn length sidx s hS
  | .writeCancel act unit tag => execWriteCancel_sound act unit tag s hS
  | .biasSet act tag head bias writeCur heater => execBiasSet_sound act tag head bias writeCur heater s hS
  | .precomp act unit tag entries => execPrecomp_sound act unit tag entries s hS
  | .assistSet act tag head mode writeCur standby lead tail =>
    execAssistSet_sound act tag head mode writeCur standby lead tail s hS
  | .headTest act tag head reader writer volt result => execHeadTest_sound act tag head reader writer volt result s hS
  | .ezpolLoop act tag depth => execEzpolLoop_sound act tag depth s hS
  | .zhoselIdent tag => execZhoselIdent_sound tag s hS
  | .zhoselConfig tag period tmo shock retract => execZhoselConfig_sound tag period tmo shock retract s hS
  | .aux tag onOff => execAux_sound tag onOff s hS
  | .spinMode tag mode samples limit => execSpinMode_sound tag mode samples limit s hS
  | .spinTable tag base entries => execSpinTable_sound tag base entries s hS
  | .spinDrive tag applyLt angle rate ampl lt => execSpinDrive_sound tag applyLt angle rate ampl lt s hS
  | .vcmEn tag mask limA limB => execVcmEn_sound tag mask limA limB s hS
  | .maSelect act tag idx0 idx1 => execMaSelect_sound act tag idx0 idx1 s hS
  | .retract tag mask => execRetract_sound tag mask s hS
  | .zhoselLoop tag depth rpm => execZhoselLoop_sound tag depth rpm s hS
  | .spinDriveRefresh lt => execSpinDriveRefresh_sound lt s hS
  | .speedDemandChange demand => execSpeedDemandChange_sound demand s hS
  | .targetLower => execTargetLower_sound s hS
  | .observationEnd => execObservationEnd_sound s hS
  | .brakeBelow30rpm => execBrakeBelow30rpm_sound s hS
  | .brakeTimeout => execBrakeTimeout_sound s hS
  | .alignmentDone => execAlignmentDone_sound s hS
  | .openLoopRampDone => execOpenLoopRampDone_sound s hS
  | .handoverTimeout moved => execHandoverTimeout_sound moved s hS
  | .jCoastEnd riseUs decel => execJCoastEnd_sound riseUs decel s hS
  | .rotorRecoveryEnd forward now => execRotorRecoveryEnd_sound forward now s hS
  | .spinUpTimeout => execSpinUpTimeout_sound s hS
  | .spindleFaultRetry => execSpindleFaultRetry_sound s hS
  | .servoWedge act u0 u1 inTime => execServoWedge_sound act u0 u1 inTime s hS
  | .acquisitionTimeout act => execAcquisitionTimeout_sound act s hS
  | .seek act t0 t1 => execSeek_sound act t0 t1 s hS
  | .microSeek act unit head target => execMicroSeek_sound act unit head target s hS
  | .headSwitch act unit head target => execHeadSwitch_sound act unit head target s hS
  | .servoRevolution act e0 e1 mean => execServoRevolution_sound act e0 e1 mean s hS
  | .calSave minutes => execCalSave_sound minutes s hS
  | .shockQuietExpire act => execShockQuietExpire_sound act s hS
  | .headLoad act lt => execHeadLoad_sound act lt s hS
  | .loadPulseEnd act lt => execLoadPulseEnd_sound act lt s hS
  | .loadAcquisitionTimeout act lt now => execLoadAcquisitionTimeout_sound act lt now s hS
  | .unload act => execUnload_sound act s hS
  | .mapBackgroundPass act head map => execMapBackgroundPass_sound act head map s hS
  | .fsqRun n permits sectors fetches => execFsqRun_sound n permits sectors fetches s hS
  | .missedRevolution n => execMissedRevolution_sound n s hS
  | .runEnd n => execRunEnd_sound n s hS
  | .decoderGrant => execDecoderGrant_sound s hS
  | .decodeEnd engine zero iters payload crc trouble now => execDecodeEnd_sound engine zero iters payload crc trouble now s hS
  | .retryStoreExpire ch tag sector => execRetryStoreExpire_sound ch tag sector s hS
  | .referenceDecode good => execReferenceDecode_sound good s hS
  | .assistCalDue head => execAssistCalDue_sound head s hS
  | .assistCalibration head scores threshold signs temp monitor =>
    execAssistCalibration_sound head scores threshold signs temp monitor s hS
  | .stripeLaunch slot => execStripeLaunch_sound slot s hS
  | .beginDurable slot => execBeginDurable_sound slot s hS
  | .stripeOnMedia slot => execStripeOnMedia_sound slot s hS
  | .commitDurable slot => execCommitDurable_sound slot s hS
  | .journalChestWrite => execJournalChestWrite_sound s hS
  | .journalBandFlush => execJournalBandFlush_sound s hS
  | .metadataCheckpoint => execMetadataCheckpoint_sound s hS
  | .journalBandMove act => execJournalBandMove_sound act s hS
  | .headRetire head => execHeadRetire_sound head s hS
  | .degradedRead fsn zone stripe rows afterFurther => execDegradedRead_sound fsn zone stripe rows afterFurther s hS
  | .rebuildChunk zone lost => execRebuildChunk_sound zone lost s hS
  | .relocation zone member => execRelocation_sound zone member s hS
  | .reshape zone => execReshape_sound zone s hS
  | .reshapeInPlaceChunk zone => execReshapeInPlaceChunk_sound zone s hS
  | .backgroundErase dev => execBackgroundErase_sound dev s hS
  | .backgroundEraseDone => execBackgroundEraseDone_sound s hS
  | .memoryCorrection mem addr clientWrote byScrub => execMemoryCorrection_sound mem addr clientWrote byScrub s hS
  | .bucketLeak mem => execBucketLeak_sound mem s hS
  | .trackerAgeOut mem addr => execTrackerAgeOut_sound mem addr s hS
  | .uncorrectableError mem addr reader region => execUncorrectableError_sound mem addr reader region s hS
  | .scrubPassStart mem => execScrubPassStart_sound mem s hS
  | .scrubPassEnd mem => execScrubPassEnd_sound mem s hS
  | .startSram => execStartSram_sound s hS
  | .startDram => execStartDram_sound s hS
  | .flipArm value => execFlipArm_sound value s hS
  | .refreshRatePoll rates => execRefreshRatePoll_sound rates s hS
  | .writeAdmission fsn => execWriteAdmission_sound fsn s hS
  | .descriptorStart n d pcieData => execDescriptorStart_sound n d pcieData s hS
  | .descriptorDone n pcieErr => execDescriptorDone_sound n pcieErr s hS
  | .kick n => execKick_sound n s hS
  | .abort n => execAbort_sound n s hS
  | .shadowLoad m d => execShadowLoad_sound m d s hS
  | .streamSetEnd m => execStreamSetEnd_sound m s hS
  | .eventLinePulse ev => execEventLinePulse_sound ev s hS
  | .mediaCacheSlotTimeout slot => execMediaCacheSlotTimeout_sound slot s hS
  | .indexLogBase => execIndexLogBase_sound s hS
  | .cleaning => execCleaning_sound s hS
  | .mergeSwitch zone target => execMergeSwitch_sound zone target s hS
  | .mapCacheMiss unit write => execMapCacheMiss_sound unit write s hS
  | .mapFillDone k => execMapFillDone_sound k s hS
  | .mapWritebackDone line => execMapWritebackDone_sound line s hS
  | .preload value => execPreload_sound value s hS
  | .unlock value => execUnlock_sound value s hS
  | .enable onOff => execEnable_sound onOff s hS
  | .clean => execClean_sound s hS
  | .sqTailDoorbell qid value => execSqTailDoorbell_sound qid value s hS
  | .cqHeadDoorbell qid value => execCqHeadDoorbell_sound qid value s hS
  | .commandFetch sqid e => execCommandFetch_sound sqid e s hS
  | .readerSnapshot fsn => execReaderSnapshot_sound fsn s hS
  | .writerCommit fsn current => execWriterCommit_sound fsn current s hS
  | .completionPost fsn => execCompletionPost_sound fsn s hS
  | .mediaDispatch ch access now => execMediaDispatch_sound ch access now s hS
  | .deleteIoSubmissionQueue fsn => execDeleteIoSubmissionQueue_sound fsn s hS
  | .createIoSubmissionQueue fsn => execCreateIoSubmissionQueue_sound fsn s hS
  | .getLogPage fsn => execGetLogPage_sound fsn s hS
  | .deleteIoCompletionQueue fsn => execDeleteIoCompletionQueue_sound fsn s hS
  | .createIoCompletionQueue fsn => execCreateIoCompletionQueue_sound fsn s hS
  | .identify fsn => execIdentify_sound fsn s hS
  | .abortCommand fsn => execAbortCommand_sound fsn s hS
  | .setFeatures fsn data => execSetFeatures_sound fsn data s hS
  | .getFeatures fsn => execGetFeatures_sound fsn s hS
  | .asynchronousEventRequest fsn => execAsynchronousEventRequest_sound fsn s hS
  | .firmwareImageDownload fsn data => execFirmwareImageDownload_sound fsn data s hS
  | .firmwareCommit fsn backFallback backPrimary => execFirmwareCommit_sound fsn backFallback backPrimary s hS
  | .shortSelfTest fsn => execShortSelfTest_sound fsn s hS
  | .extendedSelfTest fsn => execExtendedSelfTest_sound fsn s hS
  | .selfTestAbort fsn => execSelfTestAbort_sound fsn s hS
  | .formatNvm fsn => execFormatNvm_sound fsn s hS
  | .exitFailureMode fsn => execExitFailureMode_sound fsn s hS
  | .overwrite fsn => execOverwrite_sound fsn s hS
  | .overwriteZone => execOverwriteZone_sound s hS
  | .cryptographicErase fsn => execCryptographicErase_sound fsn s hS
  | .sanitizeResume => execSanitizeResume_sound s hS
  | .flush fsn => execFlush_sound fsn s hS
  | .write fsn data xfer => execWrite_sound fsn data xfer s hS
  | .read fsn media xfer => execRead_sound fsn media xfer s hS
  | .writeZeroes fsn => execWriteZeroes_sound fsn s hS
  | .datasetManagement fsn ranges xfer => execDatasetManagement_sound fsn ranges xfer s hS
  | .verify fsn media => execVerify_sound fsn media s hS
  | .zoneOpen fsn => execZoneOpen_sound fsn s hS
  | .zoneClose fsn => execZoneClose_sound fsn s hS
  | .zoneFinish fsn => execZoneFinish_sound fsn s hS
  | .zoneReset fsn => execZoneReset_sound fsn s hS
  | .zoneManagementReceive fsn => execZoneManagementReceive_sound fsn s hS
  | .zoneAppend fsn data xfer => execZoneAppend_sound fsn data xfer s hS
  | .scan fsn => execScan_sound fsn s hS
  | .peerOut fsn => execPeerOut_sound fsn s hS
  | .peerIn fsn => execPeerIn_sound fsn s hS
  | .vendorPiece fsn blocks xfer => execVendorPiece_sound fsn blocks xfer s hS
  | .ccEnSet cc => execCcEnSet_sound cc s hS
  | .controllerReset cc => execControllerReset_sound cc s hS
  | .shutdown cc => execShutdown_sound cc s hS
  | .intms value => execIntms_sound value s hS
  | .intmc value => execIntmc_sound value s hS
  | .hotReset => execHotReset_sound s hS
  | .pcieLinkDown => execPcieLinkDown_sound s hS
  | .functionLevelReset => execFunctionLevelReset_sound s hS
  | .pmeTurnOff => execPmeTurnOff_sound s hS
  | .d3hotEntry => execD3hotEntry_sound s hS
  | .d3hotExit => execD3hotExit_sound s hS
  | .aspmL1Entry => execAspmL1Entry_sound s hS
  | .pcieError e => execPcieError_sound e s hS
  | .memoryWindowWrite off data => execMemoryWindowWrite_sound off data s hS
  | .memoryWindowRead off len => execMemoryWindowRead_sound off len s hS
  | .doeRequest vendor typ payload => execDoeRequest_sound vendor typ payload s hS
  | .doeAbort => execDoeAbort_sound s hS
  | .getVersion => execGetVersion_sound s hS
  | .getCapabilities version => execGetCapabilities_sound version s hS
  | .negotiateAlgorithms asym hash measSpec => execNegotiateAlgorithms_sound asym hash measSpec s hS
  | .getDigests => execGetDigests_sound s hS
  | .getCertificate slot offset length => execGetCertificate_sound slot offset length s hS
  | .challenge slot hashType nonce => execChallenge_sound slot hashType nonce s hS
  | .getMeasurements param1 param2 nonce slot => execGetMeasurements_sound param1 param2 nonce slot s hS
  | .idleTimerPs1 => execIdleTimerPs1_sound s hS
  | .idleTimerPs2 => execIdleTimerPs2_sound s hS
  | .apstTimer => execApstTimer_sound s hS
  | .ps3Entry => execPs3Entry_sound s hS
  | .ps4Entry => execPs4Entry_sound s hS
  | .ps3Exit => execPs3Exit_sound s hS
  | .ps4Exit => execPs4Exit_sound s hS
  | .thermalSample r0 r1 r2 r3 => execThermalSample_sound r0 r1 r2 r3 s hS
  | .chainCommit leafHasDk signaturesOk rootOk => execChainCommit_sound leafHasDk signaturesOk rootOk s hS
  | .credenzaPersist => execCredenzaPersist_sound s hS
  | .minuteTick => execMinuteTick_sound s hS
  | .crdClear => execCrdClear_sound s hS
  | .persist => execPersist_sound s hS
  | .burnDs ok => execBurnDs_sound ok s hS
  | .programKeySlot index ok => execProgramKeySlot_sound index ok s hS
  | .revokeKeySlot index ok => execRevokeKeySlot_sound index ok s hS
  | .revokeHoltaleKey index ok => execRevokeHoltaleKey_sound index ok s hS
  | .hold => execHold_sound s hS
  | .tstLoopback value => execTstLoopback_sound value s hS
  | .elkLoopback port value => execElkLoopback_sound port value s hS
  | .hptLoopback value => execHptLoopback_sound value s hS
  | .loopbackDone unit errors => execLoopbackDone_sound unit errors s hS
  | .nstread => execNstread_sound s hS
  | .apertureAccess off size value => execApertureAccess_sound off size value s hS
  | .registerWrite space off value => execRegisterWrite_sound space off value s hS
  | .powerLoss => execPowerLoss_sound s hS
  | .pcieLinkUp speed width => execPcieLinkUp_sound speed width s hS
  | .aspmL1Exit => execAspmL1Exit_sound s hS
  | .interruptCoalescingTime qid => execInterruptCoalescingTime_sound qid s hS
  | .dramSelfRefreshIdle => execDramSelfRefreshIdle_sound s hS
  | .loopbackFollower => execLoopbackFollower_sound s hS
  | .extest drive sample => execExtest_sound drive sample s hS

/-- The queue is no part of what makes a state sound. -/
theorem State.Sound.withPending {s : State} (h : s.Sound) (q : List Instr) : State.Sound { s with pending := q } :=
  ⟨h.regs, h.sram, h.dram, h.fsqs, h.rwcs⟩

/-- Settles O4: a step idles or runs the front command. -/
theorem stepKeepsSound : Obligations.StepKeepsSound := by
  intro s t hS ht
  unfold step at ht
  split at ht
  · cases ht
    exact hS
  · exact exec_sound _ _ (hS.withPending _) t ht

end Sys2Proof.Machine
end

section
/-!
PROOFS. The reach of every command (O5). A command's lemma takes a list of parts that contains those `Instr.reach` names, and
cites on each branch of its meaning the law of Laws/Reach* that says what the shared operations there touch.
-/

namespace Sys2Proof.Machine

theorem Part.of_mem {ps : List Part} {p : Part} (h : p ∈ ps) : Part.of ps p = true := by
  unfold Part.of
  rw [List.contains_iff_mem.2 h, Bool.true_or]

/-- To bound what an outcome touches by a command's reach, it is enough that every list of parts that contains the reach bounds
it. -/
theorem Keeps_reach {c : Instr} {s : State} {o : Host.Outcome State Fault Refusal}
    (h : ∀ ps : List Part, c.reach.all (Part.of ps) = true → Only ps s s → Keeps o (Only ps s)) : Keeps o (Only c.reach s) :=
  h _ (List.all_eq_true.2 fun _ => Part.of_mem) (Only.refl _ _)

/-! ### Mec -/

theorem execMemoryCorrection_reach (mem : Mem) (addr : Nat) (clientWrote byScrub : Bool) (s : State) :
    Keeps (execMemoryCorrection mem addr clientWrote byScrub s)
      (Only (Instr.memoryCorrection mem addr clientWrote byScrub).reach s) := by
  refine Keeps_reach fun ps hp hs => ?_
  simp only [Instr.reach.eq_def, List.all_cons, Bool.and_eq_true] at hp
  simp [execMemoryCorrection, hp, hs]

theorem execBucketLeak_reach (mem : Mem) (s : State) :
    Keeps (execBucketLeak mem s) (Only (Instr.bucketLeak mem).reach s) := by
  refine Keeps_reach fun ps hp hs => ?_
  simp only [Instr.reach.eq_def, List.all_cons, Bool.and_eq_true] at hp
  unfold execBucketLeak
  split <;> simp [hp, hs]

theorem execTrackerAgeOut_reach (mem : Mem) (addr : Nat) (s : State) :
    Keeps (execTrackerAgeOut mem addr s) (Only (Instr.trackerAgeOut mem addr).reach s) := by
  refine Keeps_reach fun ps hp hs => ?_
  simp only [Instr.reach.eq_def, List.all_cons, Bool.and_eq_true] at hp
  simp [execTrackerAgeOut, hp, hs]

theorem execUncorrectableError_reach (mem : Mem) (addr : Nat) (reader : UeReader) (region : UeRegion) (s : State) :
    Keeps (execUncorrectableError mem addr reader region s)
      (Only (Instr.uncorrectableError mem addr reader region).reach s) := by
  refine Keeps_reach fun ps hp hs => ?_
  simp only [Instr.reach.eq_def, List.all_cons, Bool.and_eq_true] at hp
  simp (maxDischargeDepth := 99) [execUncorrectableError, hp, hs]

theorem execScrubPassStart_reach (mem : Mem) (s : State) :
    Keeps (execScrubPassStart mem s) (Only (Instr.scrubPassStart mem).reach s) := by
  refine Keeps_reach fun ps hp hs => ?_
  simp only [Instr.reach.eq_def, List.all_cons, Bool.and_eq_true] at hp
  simp [execScrubPassStart, hp, hs]

theorem execScrubPassEnd_reach (mem : Mem) (s : State) :
    Keeps (execScrubPassEnd mem s) (Only (Instr.scrubPassEnd mem).reach s) := by
  refine Keeps_reach fun ps hp hs => ?_
  simp only [Instr.reach.eq_def, List.all_cons, Bool.and_eq_true] at hp
  simp [execScrubPassEnd, hp, hs]

theorem execStartSram_reach (s : State) :
    Keeps (execStartSram s) (Only Instr.startSram.reach s) := by
  refine Keeps_reach fun ps hp hs => ?_
  simp only [Instr.reach.eq_def, List.all_cons, Bool.and_eq_true] at hp
  simp [hp, hs]

theorem execStartDram_reach (s : State) :
    Keeps (execStartDram s) (Only Instr.startDram.reach s) := by
  refine Keeps_reach fun ps hp hs => ?_
  simp only [Instr.reach.eq_def, List.all_cons, Bool.and_eq_true] at hp
  simp [hp, hs]

theorem execFlipArm_reach (value : Word) (s : State) :
    Keeps (execFlipArm value s) (Only (Instr.flipArm value).reach s) := by
  refine Keeps_reach fun ps hp hs => ?_
  simp only [Instr.reach.eq_def, List.all_cons, Bool.and_eq_true] at hp
  simp [hp, hs]

theorem execRefreshRatePoll_reach (rates : List Byte) (s : State) :
    Keeps (execRefreshRatePoll rates s) (Only (Instr.refreshRatePoll rates).reach s) := by
  refine Keeps_reach fun ps hp hs => ?_
  simp only [Instr.reach.eq_def, List.all_cons, Bool.and_eq_true] at hp
  simp [execRefreshRatePoll, hp, hs]

/-! ### Dma -/

theorem execDescriptorStart_reach (n : Fin 64) (d : Desc) (pcieData : List Bytes) (s : State) :
    Keeps (execDescriptorStart n d pcieData s) (Only (Instr.descriptorStart n d pcieData).reach s) := by
  refine Keeps_reach fun ps hp hs => ?_
  simp only [Instr.reach.eq_def, List.all_cons, Bool.and_eq_true] at hp
  simp [execDescriptorStart, hp, hs]

theorem execDescriptorDone_reach (n : Fin 64) (pcieErr : Bool) (s : State) :
    Keeps (execDescriptorDone n pcieErr s) (Only (Instr.descriptorDone n pcieErr).reach s) := by
  refine Keeps_reach fun ps hp hs => ?_
  simp only [Instr.reach.eq_def, List.all_cons, Bool.and_eq_true] at hp
  unfold execDescriptorDone
  dsimp only
  (repeat' split) <;> simp [hp, hs]

theorem execKick_reach (n : Fin 64) (s : State) :
    Keeps (execKick n s) (Only (Instr.kick n).reach s) := by
  refine Keeps_reach fun ps hp hs => ?_
  simp only [Instr.reach.eq_def, List.all_cons, Bool.and_eq_true] at hp
  simp [hp, hs]

theorem execAbort_reach (n : Fin 64) (s : State) :
    Keeps (execAbort n s) (Only (Instr.abort n).reach s) := by
  refine Keeps_reach fun ps hp hs => ?_
  simp only [Instr.reach.eq_def, List.all_cons, Bool.and_eq_true] at hp
  simp [hp, hs]

theorem execShadowLoad_reach (m : Fin 8) (d : Desc) (s : State) :
    Keeps (execShadowLoad m d s) (Only (Instr.shadowLoad m d).reach s) := by
  refine Keeps_reach fun ps hp hs => ?_
  simp only [Instr.reach.eq_def, List.all_cons, Bool.and_eq_true] at hp
  simp [execShadowLoad, hp, hs]

theorem execStreamSetEnd_reach (m : Fin 8) (s : State) :
    Keeps (execStreamSetEnd m s) (Only (Instr.streamSetEnd m).reach s) := by
  refine Keeps_reach fun ps hp hs => ?_
  simp only [Instr.reach.eq_def, List.all_cons, Bool.and_eq_true] at hp
  have hrows {d l n r} (h : State.dmaRows d [] l n 0 s = r) : Only ps s r.1 := by
    subst h; simp (maxDischargeDepth := 99) [hp, hs]
  unfold execStreamSetEnd
  (repeat' split) <;> simp (maxDischargeDepth := 99) [hp, hs]
  all_goals
    have h1 := hrows ‹_›
    simp (maxDischargeDepth := 99) [hp, h1]

theorem execEventLinePulse_reach (ev : Fin 64) (s : State) :
    Keeps (execEventLinePulse ev s) (Only (Instr.eventLinePulse ev).reach s) := by
  refine Keeps_reach fun ps hp hs => ?_
  simp only [Instr.reach.eq_def, List.all_cons, Bool.and_eq_true] at hp
  simp [execEventLinePulse, hp, hs]

/-! ### Stripe -/

theorem execStripeLaunch_reach (slot : Nat) (s : State) :
    Keeps (execStripeLaunch slot s) (Only (Instr.stripeLaunch slot).reach s) := by
  refine Keeps_reach fun ps hp hs => ?_
  simp only [Instr.reach.eq_def, List.all_cons, Bool.and_eq_true] at hp
  unfold execStripeLaunch
  split <;> simp [hp, hs]

theorem execBeginDurable_reach (slot : Nat) (s : State) :
    Keeps (execBeginDurable slot s) (Only (Instr.beginDurable slot).reach s) := by
  refine Keeps_reach fun ps hp hs => ?_
  simp only [Instr.reach.eq_def, List.all_cons, Bool.and_eq_true] at hp
  unfold execBeginDurable
  split
  · simp [hs]
  split
  · extract_lets s1
    have h1 : Only ps s s1 := by simp [s1, hp, hs]
    split
    · refine (Keeps_next _ _).2 (foldl_only _ _ (fun t m ht => ?_) h1)
      (repeat' split) <;> simp [hp, ht]
    · simp [h1]
  · simp [hs]

theorem execStripeOnMedia_reach (slot : Nat) (s : State) :
    Keeps (execStripeOnMedia slot s) (Only (Instr.stripeOnMedia slot).reach s) := by
  refine Keeps_reach fun ps hp hs => ?_
  simp only [Instr.reach.eq_def, List.all_cons, Bool.and_eq_true] at hp
  simp [hp, hs]

theorem execJournalChestWrite_reach (s : State) :
    Keeps (execJournalChestWrite s) (Only Instr.journalChestWrite.reach s) := by
  refine Keeps_reach fun ps hp hs => ?_
  simp only [Instr.reach.eq_def, List.all_cons, Bool.and_eq_true] at hp
  simp [execJournalChestWrite, hp, hs]

theorem execJournalBandFlush_reach (s : State) :
    Keeps (execJournalBandFlush s) (Only Instr.journalBandFlush.reach s) := by
  refine Keeps_reach fun ps hp hs => ?_
  simp only [Instr.reach.eq_def, List.all_cons, Bool.and_eq_true] at hp
  simp [execJournalBandFlush, hp, hs]

theorem execMetadataCheckpoint_reach (s : State) :
    Keeps (execMetadataCheckpoint s) (Only Instr.metadataCheckpoint.reach s) := by
  refine Keeps_reach fun ps hp hs => ?_
  simp only [Instr.reach.eq_def, List.all_cons, Bool.and_eq_true] at hp
  simp [execMetadataCheckpoint, hp, hs]

theorem execJournalBandMove_reach (x : Act) (s : State) :
    Keeps (execJournalBandMove x s) (Only (Instr.journalBandMove x).reach s) := by
  refine Keeps_reach fun ps hp hs => ?_
  simp only [Instr.reach.eq_def, List.all_cons, Bool.and_eq_true] at hp
  unfold execJournalBandMove
  dsimp only
  (repeat' split) <;> simp [hp, hs]

theorem execHeadRetire_reach (head : Nat) (s : State) :
    Keeps (execHeadRetire head s) (Only (Instr.headRetire head).reach s) := by
  refine Keeps_reach fun ps hp hs => ?_
  simp only [Instr.reach.eq_def, List.all_cons, Bool.and_eq_true] at hp
  unfold execHeadRetire
  split <;> simp [hp, hs]

theorem execDegradedRead_reach (fsn zone stripe : Nat) (rows : List (Nat × List MemberRead)) (afterFurther : Bool) (s : State) :
    Keeps (execDegradedRead fsn zone stripe rows afterFurther s)
      (Only (Instr.degradedRead fsn zone stripe rows afterFurther).reach s) := by
  refine Keeps_reach fun ps hp hs => ?_
  simp only [Instr.reach.eq_def, List.all_cons, Bool.and_eq_true] at hp
  unfold execDegradedRead
  split <;> simp (maxDischargeDepth := 99) +contextual [hp, hs]

theorem execRebuildChunk_reach (zone : Nat) (lost : List (Nat × Nat × Word)) (s : State) :
    Keeps (execRebuildChunk zone lost s) (Only (Instr.rebuildChunk zone lost).reach s) := by
  refine Keeps_reach fun ps hp hs => ?_
  simp only [Instr.reach.eq_def, List.all_cons, Bool.and_eq_true] at hp
  unfold execRebuildChunk
  dsimp only
  (repeat' split) <;> simp (maxDischargeDepth := 99) +contextual [hp, hs]

theorem execRelocation_reach (zone member : Nat) (s : State) :
    Keeps (execRelocation zone member s) (Only (Instr.relocation zone member).reach s) := by
  refine Keeps_reach fun ps hp hs => ?_
  simp only [Instr.reach.eq_def, List.all_cons, Bool.and_eq_true] at hp
  unfold execRelocation
  dsimp only
  (repeat' split) <;> simp [hp, hs]

theorem execReshape_reach (zone : Nat) (s : State) :
    Keeps (execReshape zone s) (Only (Instr.reshape zone).reach s) := by
  refine Keeps_reach fun ps hp hs => ?_
  simp only [Instr.reach.eq_def, List.all_cons, Bool.and_eq_true] at hp
  unfold execReshape
  dsimp only
  (repeat' split) <;> simp [hp, hs]

theorem execReshapeInPlaceChunk_reach (zone : Nat) (s : State) :
    Keeps (execReshapeInPlaceChunk zone s) (Only (Instr.reshapeInPlaceChunk zone).reach s) := by
  refine Keeps_reach fun ps hp hs => ?_
  simp only [Instr.reach.eq_def, List.all_cons, Bool.and_eq_true] at hp
  unfold execReshapeInPlaceChunk
  split <;> simp [hp, hs]

theorem execBackgroundErase_reach (dev : Fin 2) (s : State) :
    Keeps (execBackgroundErase dev s) (Only (Instr.backgroundErase dev).reach s) := by
  refine Keeps_reach fun ps hp hs => ?_
  simp only [Instr.reach.eq_def, List.all_cons, Bool.and_eq_true] at hp
  simp [execBackgroundErase, hp, hs]

theorem execBackgroundEraseDone_reach (s : State) :
    Keeps (execBackgroundEraseDone s) (Only Instr.backgroundEraseDone.reach s) := by
  refine Keeps_reach fun ps hp hs => ?_
  simp only [Instr.reach.eq_def, List.all_cons, Bool.and_eq_true] at hp
  simp [execBackgroundEraseDone, hp, hs]

/-! ### Commands -/

theorem execSqTailDoorbell_reach (qid : Nat) (value : Word) (s : State) :
    Keeps (execSqTailDoorbell qid value s) (Only (Instr.sqTailDoorbell qid value).reach s) := by
  refine Keeps_reach fun ps hp hs => ?_
  simp only [Instr.reach.eq_def, List.all_cons, Bool.and_eq_true] at hp
  simp [hp, hs]

theorem execCqHeadDoorbell_reach (qid : Nat) (value : Word) (s : State) :
    Keeps (execCqHeadDoorbell qid value s) (Only (Instr.cqHeadDoorbell qid value).reach s) := by
  refine Keeps_reach fun ps hp hs => ?_
  simp only [Instr.reach.eq_def, List.all_cons, Bool.and_eq_true] at hp
  simp [hp, hs]

theorem execCommandFetch_reach (sqid : Nat) (e : Sqe) (s : State) :
    Keeps (execCommandFetch sqid e s) (Only (Instr.commandFetch sqid e).reach s) := by
  refine Keeps_reach fun ps hp hs => ?_
  simp only [Instr.reach.eq_def, List.all_cons, Bool.and_eq_true] at hp
  unfold execCommandFetch
  dsimp only
  (repeat' split) <;> simp (maxDischargeDepth := 99) [hp, hs]

theorem execCreateIoCompletionQueue_reach (fsn : Nat) (s : State) :
    Keeps (execCreateIoCompletionQueue fsn s) (Only (Instr.createIoCompletionQueue fsn).reach s) := by
  refine Keeps_reach fun ps hp hs => ?_
  simp only [Instr.reach.eq_def, List.all_cons, Bool.and_eq_true] at hp
  unfold execCreateIoCompletionQueue
  split <;> simp [hp, hs]

theorem execCreateIoSubmissionQueue_reach (fsn : Nat) (s : State) :
    Keeps (execCreateIoSubmissionQueue fsn s) (Only (Instr.createIoSubmissionQueue fsn).reach s) := by
  refine Keeps_reach fun ps hp hs => ?_
  simp only [Instr.reach.eq_def, List.all_cons, Bool.and_eq_true] at hp
  unfold execCreateIoSubmissionQueue
  split <;> simp [hp, hs]

theorem execDeleteIoCompletionQueue_reach (fsn : Nat) (s : State) :
    Keeps (execDeleteIoCompletionQueue fsn s) (Only (Instr.deleteIoCompletionQueue fsn).reach s) := by
  refine Keeps_reach fun ps hp hs => ?_
  simp only [Instr.reach.eq_def, List.all_cons, Bool.and_eq_true] at hp
  unfold execDeleteIoCompletionQueue
  split <;> simp [hp, hs]

theorem execDeleteIoSubmissionQueue_reach (fsn : Nat) (s : State) :
    Keeps (execDeleteIoSubmissionQueue fsn s) (Only (Instr.deleteIoSubmissionQueue fsn).reach s) := by
  refine Keeps_reach fun ps hp hs => ?_
  simp only [Instr.reach.eq_def, List.all_cons, Bool.and_eq_true] at hp
  unfold execDeleteIoSubmissionQueue
  split <;> simp (maxDischargeDepth := 99) +contextual [hp, hs]

theorem execAbortCommand_reach (fsn : Nat) (s : State) :
    Keeps (execAbortCommand fsn s) (Only (Instr.abortCommand fsn).reach s) := by
  refine Keeps_reach fun ps hp hs => ?_
  simp only [Instr.reach.eq_def, List.all_cons, Bool.and_eq_true] at hp
  unfold execAbortCommand
  dsimp only
  (repeat' split) <;> simp (maxDischargeDepth := 99) [hp, hs]

theorem execAsynchronousEventRequest_reach (fsn : Nat) (s : State) :
    Keeps (execAsynchronousEventRequest fsn s) (Only (Instr.asynchronousEventRequest fsn).reach s) := by
  refine Keeps_reach fun ps hp hs => ?_
  simp only [Instr.reach.eq_def, List.all_cons, Bool.and_eq_true] at hp
  unfold execAsynchronousEventRequest
  split <;> simp [hp, hs]

theorem execShortSelfTest_reach (fsn : Nat) (s : State) :
    Keeps (execShortSelfTest fsn s) (Only (Instr.shortSelfTest fsn).reach s) := by
  refine Keeps_reach fun ps hp hs => ?_
  simp only [Instr.reach.eq_def, List.all_cons, Bool.and_eq_true] at hp
  simp (maxDischargeDepth := 99) +contextual [execShortSelfTest, hp, hs]

theorem execExtendedSelfTest_reach (fsn : Nat) (s : State) :
    Keeps (execExtendedSelfTest fsn s) (Only (Instr.extendedSelfTest fsn).reach s) := by
  refine Keeps_reach fun ps hp hs => ?_
  simp only [Instr.reach.eq_def, List.all_cons, Bool.and_eq_true] at hp
  simp (maxDischargeDepth := 99) +contextual [execExtendedSelfTest, hp, hs]

theorem execSelfTestAbort_reach (fsn : Nat) (s : State) :
    Keeps (execSelfTestAbort fsn s) (Only (Instr.selfTestAbort fsn).reach s) := by
  refine Keeps_reach fun ps hp hs => ?_
  simp only [Instr.reach.eq_def, List.all_cons, Bool.and_eq_true] at hp
  simp +contextual [execSelfTestAbort, hp, hs]

theorem execCcEnSet_reach (cc : Word) (s : State) :
    Keeps (execCcEnSet cc s) (Only (Instr.ccEnSet cc).reach s) := by
  refine Keeps_reach fun ps hp hs => ?_
  simp only [Instr.reach.eq_def, List.all_cons, Bool.and_eq_true] at hp
  simp [hp, hs]

theorem execControllerReset_reach (cc : Word) (s : State) :
    Keeps (execControllerReset cc s) (Only (Instr.controllerReset cc).reach s) := by
  refine Keeps_reach fun ps hp hs => ?_
  simp only [Instr.reach.eq_def, List.all_cons, Bool.and_eq_true] at hp
  simp [hp, hs]

theorem execShutdown_reach (cc : Word) (s : State) :
    Keeps (execShutdown cc s) (Only (Instr.shutdown cc).reach s) := by
  refine Keeps_reach fun ps hp hs => ?_
  simp only [Instr.reach.eq_def, List.all_cons, Bool.and_eq_true] at hp
  simp [hp, hs]

theorem execIntms_reach (value : Word) (s : State) :
    Keeps (execIntms value s) (Only (Instr.intms value).reach s) := by
  refine Keeps_reach fun ps hp hs => ?_
  simp only [Instr.reach.eq_def, List.all_cons, Bool.and_eq_true] at hp
  simp [hp, hs]

theorem execIntmc_reach (value : Word) (s : State) :
    Keeps (execIntmc value s) (Only (Instr.intmc value).reach s) := by
  refine Keeps_reach fun ps hp hs => ?_
  simp only [Instr.reach.eq_def, List.all_cons, Bool.and_eq_true] at hp
  simp [hp, hs]

theorem execInterruptCoalescingTime_reach (qid : Nat) (s : State) :
    Keeps (execInterruptCoalescingTime qid s) (Only (Instr.interruptCoalescingTime qid).reach s) := by
  refine Keeps_reach fun ps hp hs => ?_
  simp only [Instr.reach.eq_def, List.all_cons, Bool.and_eq_true] at hp
  unfold execInterruptCoalescingTime
  split <;> simp [hp, hs]

/-! ### Features -/

theorem execSetFeatures_reach (fsn : Nat) (data : Bytes) (s : State) :
    Keeps (execSetFeatures fsn data s) (Only (Instr.setFeatures fsn data).reach s) := by
  refine Keeps_reach fun ps hp hs => ?_
  simp only [Instr.reach.eq_def, List.all_cons, Bool.and_eq_true] at hp
  unfold execSetFeatures
  split <;> simp [hp, hs]

theorem execGetFeatures_reach (fsn : Nat) (s : State) :
    Keeps (execGetFeatures fsn s) (Only (Instr.getFeatures fsn).reach s) := by
  refine Keeps_reach fun ps hp hs => ?_
  simp only [Instr.reach.eq_def, List.all_cons, Bool.and_eq_true] at hp
  unfold execGetFeatures
  split <;> simp [hp, hs]

/-! ### Io -/

theorem execWrite_reach (fsn : Nat) (data : List Bytes) (xfer : Xfer) (s : State) :
    Keeps (execWrite fsn data xfer s) (Only (Instr.write fsn data xfer).reach s) := by
  refine Keeps_reach fun ps hp hs => ?_
  simp only [Instr.reach.eq_def, List.all_cons, Bool.and_eq_true] at hp
  unfold execWrite
  split <;> simp [hp, hs]

theorem execZoneAppend_reach (fsn : Nat) (data : List Bytes) (xfer : Xfer) (s : State) :
    Keeps (execZoneAppend fsn data xfer s) (Only (Instr.zoneAppend fsn data xfer).reach s) := by
  refine Keeps_reach fun ps hp hs => ?_
  simp only [Instr.reach.eq_def, List.all_cons, Bool.and_eq_true] at hp
  unfold execZoneAppend
  split <;> simp [hp, hs]

theorem execWriteAdmission_reach (fsn : Nat) (s : State) :
    Keeps (execWriteAdmission fsn s) (Only (Instr.writeAdmission fsn).reach s) := by
  refine Keeps_reach fun ps hp hs => ?_
  simp only [Instr.reach.eq_def, List.all_cons, Bool.and_eq_true] at hp
  unfold execWriteAdmission
  (repeat' split) <;> simp [hp, hs]

theorem execWriterCommit_reach (fsn : Nat) (current : List (Nat × Option Bytes)) (s : State) :
    Keeps (execWriterCommit fsn current s) (Only (Instr.writerCommit fsn current).reach s) := by
  refine Keeps_reach fun ps hp hs => ?_
  simp only [Instr.reach.eq_def, List.all_cons, Bool.and_eq_true] at hp
  simp [execWriterCommit, hp, hs]

theorem execZoneOpen_reach (fsn : Nat) (s : State) :
    Keeps (execZoneOpen fsn s) (Only (Instr.zoneOpen fsn).reach s) := by
  refine Keeps_reach fun ps hp hs => ?_
  simp only [Instr.reach.eq_def, List.all_cons, Bool.and_eq_true] at hp
  simp [execZoneOpen, hp, hs]

theorem execZoneClose_reach (fsn : Nat) (s : State) :
    Keeps (execZoneClose fsn s) (Only (Instr.zoneClose fsn).reach s) := by
  refine Keeps_reach fun ps hp hs => ?_
  simp only [Instr.reach.eq_def, List.all_cons, Bool.and_eq_true] at hp
  simp [execZoneClose, hp, hs]

theorem execZoneFinish_reach (fsn : Nat) (s : State) :
    Keeps (execZoneFinish fsn s) (Only (Instr.zoneFinish fsn).reach s) := by
  refine Keeps_reach fun ps hp hs => ?_
  simp only [Instr.reach.eq_def, List.all_cons, Bool.and_eq_true] at hp
  simp [execZoneFinish, hp, hs]

theorem execZoneReset_reach (fsn : Nat) (s : State) :
    Keeps (execZoneReset fsn s) (Only (Instr.zoneReset fsn).reach s) := by
  refine Keeps_reach fun ps hp hs => ?_
  simp only [Instr.reach.eq_def, List.all_cons, Bool.and_eq_true] at hp
  simp [execZoneReset, hp, hs]

theorem execWriteZeroes_reach (fsn : Nat) (s : State) :
    Keeps (execWriteZeroes fsn s) (Only (Instr.writeZeroes fsn).reach s) := by
  refine Keeps_reach fun ps hp hs => ?_
  simp only [Instr.reach.eq_def, List.all_cons, Bool.and_eq_true] at hp
  unfold execWriteZeroes
  dsimp only
  (repeat' split) <;> simp [hp, hs]

theorem execDatasetManagement_reach (fsn : Nat) (ranges : List (Nat × Nat)) (xfer : Xfer) (s : State) :
    Keeps (execDatasetManagement fsn ranges xfer s) (Only (Instr.datasetManagement fsn ranges xfer).reach s) := by
  refine Keeps_reach fun ps hp hs => ?_
  simp only [Instr.reach.eq_def, List.all_cons, Bool.and_eq_true] at hp
  unfold execDatasetManagement
  dsimp only
  (repeat' split) <;> simp [hp, hs]

theorem execReaderSnapshot_reach (fsn : Nat) (s : State) :
    Keeps (execReaderSnapshot fsn s) (Only (Instr.readerSnapshot fsn).reach s) := by
  refine Keeps_reach fun ps hp hs => ?_
  simp only [Instr.reach.eq_def, List.all_cons, Bool.and_eq_true] at hp
  unfold execReaderSnapshot
  split <;> simp [hp, hs]

theorem execRead_reach (fsn : Nat) (media : List (Option Bytes)) (xfer : Xfer) (s : State) :
    Keeps (execRead fsn media xfer s) (Only (Instr.read fsn media xfer).reach s) := by
  refine Keeps_reach fun ps hp hs => ?_
  simp only [Instr.reach.eq_def, List.all_cons, Bool.and_eq_true] at hp
  unfold execRead
  dsimp only
  (repeat' split) <;> simp (maxDischargeDepth := 99) [hp, hs]

theorem execVerify_reach (fsn : Nat) (media : List (Option Bytes)) (s : State) :
    Keeps (execVerify fsn media s) (Only (Instr.verify fsn media).reach s) := by
  refine Keeps_reach fun ps hp hs => ?_
  simp only [Instr.reach.eq_def, List.all_cons, Bool.and_eq_true] at hp
  unfold execVerify
  (repeat' split) <;> simp [hp, hs]

theorem execFlush_reach (fsn : Nat) (s : State) :
    Keeps (execFlush fsn s) (Only (Instr.flush fsn).reach s) := by
  refine Keeps_reach fun ps hp hs => ?_
  simp only [Instr.reach.eq_def, List.all_cons, Bool.and_eq_true] at hp
  unfold execFlush
  split <;> simp [hp, hs]

theorem execMediaDispatch_reach (ch : Fin 4) (access : List (Nat × Nat)) (now : Nat) (s : State) :
    Keeps (execMediaDispatch ch access now s) (Only (Instr.mediaDispatch ch access now).reach s) := by
  refine Keeps_reach fun ps hp hs => ?_
  simp only [Instr.reach.eq_def, List.all_cons, Bool.and_eq_true] at hp
  unfold execMediaDispatch
  dsimp only
  (repeat' split) <;> simp (maxDischargeDepth := 99) [hp, hs]

/-! ### Bureau -/

theorem execFormatNvm_reach (fsn : Nat) (s : State) :
    Keeps (execFormatNvm fsn s) (Only (Instr.formatNvm fsn).reach s) := by
  refine Keeps_reach fun ps hp hs => ?_
  simp only [Instr.reach.eq_def, List.all_cons, Bool.and_eq_true] at hp
  unfold execFormatNvm
  dsimp only
  (repeat' split) <;> simp (maxDischargeDepth := 99) [hp, hs]

theorem execExitFailureMode_reach (fsn : Nat) (s : State) :
    Keeps (execExitFailureMode fsn s) (Only (Instr.exitFailureMode fsn).reach s) := by
  refine Keeps_reach fun ps hp hs => ?_
  simp only [Instr.reach.eq_def, List.all_cons, Bool.and_eq_true] at hp
  simp [execExitFailureMode, hp, hs]

theorem execOverwrite_reach (fsn : Nat) (s : State) :
    Keeps (execOverwrite fsn s) (Only (Instr.overwrite fsn).reach s) := by
  refine Keeps_reach fun ps hp hs => ?_
  simp only [Instr.reach.eq_def, List.all_cons, Bool.and_eq_true] at hp
  simp [execOverwrite, hp, hs]

theorem execOverwriteZone_reach (s : State) :
    Keeps (execOverwriteZone s) (Only Instr.overwriteZone.reach s) := by
  refine Keeps_reach fun ps hp hs => ?_
  simp only [Instr.reach.eq_def, List.all_cons, Bool.and_eq_true] at hp
  unfold execOverwriteZone
  split <;> simp [hp, hs]

theorem execCryptographicErase_reach (fsn : Nat) (s : State) :
    Keeps (execCryptographicErase fsn s) (Only (Instr.cryptographicErase fsn).reach s) := by
  refine Keeps_reach fun ps hp hs => ?_
  simp only [Instr.reach.eq_def, List.all_cons, Bool.and_eq_true] at hp
  simp [execCryptographicErase, hp, hs]

theorem execSanitizeResume_reach (s : State) :
    Keeps (execSanitizeResume s) (Only Instr.sanitizeResume.reach s) := by
  refine Keeps_reach fun ps hp hs => ?_
  simp only [Instr.reach.eq_def, List.all_cons, Bool.and_eq_true] at hp
  simp [execSanitizeResume, hp, hs]

theorem execChainCommit_reach (leafHasDk signaturesOk rootOk : Bool) (s : State) :
    Keeps (execChainCommit leafHasDk signaturesOk rootOk s)
      (Only (Instr.chainCommit leafHasDk signaturesOk rootOk).reach s) := by
  refine Keeps_reach fun ps hp hs => ?_
  simp only [Instr.reach.eq_def, List.all_cons, Bool.and_eq_true] at hp
  simp (maxDischargeDepth := 99) +contextual [execChainCommit, hp, hs]

/-! ### Completion -/

theorem execCompletionPost_reach (fsn : Nat) (s : State) :
    Keeps (execCompletionPost fsn s) (Only (Instr.completionPost fsn).reach s) := by
  refine Keeps_reach fun ps hp hs => ?_
  simp only [Instr.reach.eq_def, List.all_cons, Bool.and_eq_true] at hp
  unfold execCompletionPost
  (repeat' split) <;> simp [hp, hs]

theorem execCommitDurable_reach (slot : Nat) (s : State) :
    Keeps (execCommitDurable slot s) (Only (Instr.commitDurable slot).reach s) := by
  refine Keeps_reach fun ps hp hs => ?_
  simp only [Instr.reach.eq_def, List.all_cons, Bool.and_eq_true] at hp
  simp [hp, hs]

/-! ### Identify -/

theorem execIdentify_reach (fsn : Nat) (s : State) :
    Keeps (execIdentify fsn s) (Only (Instr.identify fsn).reach s) := by
  refine Keeps_reach fun ps hp hs => ?_
  simp only [Instr.reach.eq_def, List.all_cons, Bool.and_eq_true] at hp
  unfold execIdentify
  (repeat' split) <;> simp [hp, hs]

/-! ### Logs -/

theorem execGetLogPage_reach (fsn : Nat) (s : State) :
    Keeps (execGetLogPage fsn s) (Only (Instr.getLogPage fsn).reach s) := by
  refine Keeps_reach fun ps hp hs => ?_
  simp only [Instr.reach.eq_def, List.all_cons, Bool.and_eq_true] at hp
  unfold execGetLogPage
  dsimp only
  (repeat' split) <;> simp (maxDischargeDepth := 99) [hp, hs]

/-! ### FrontEnd -/

theorem execEzpolIdent_reach (act : Act) (tag : Byte) (s : State) :
    Keeps (execEzpolIdent act tag s) (Only (Instr.ezpolIdent act tag).reach s) := by
  refine Keeps_reach fun ps hp hs => ?_
  simp only [Instr.reach.eq_def, List.all_cons, Bool.and_eq_true] at hp
  simp [execEzpolIdent, hp, hs]

theorem execEzpolConfig_reach (act : Act) (tag : Byte) (monPeriod : BitVec 16) (win : Byte) (s : State) :
    Keeps (execEzpolConfig act tag monPeriod win s) (Only (Instr.ezpolConfig act tag monPeriod win).reach s) := by
  refine Keeps_reach fun ps hp hs => ?_
  simp only [Instr.reach.eq_def, List.all_cons, Bool.and_eq_true] at hp
  simp [execEzpolConfig, hp, hs]

theorem execRate_reach (act : Act) (unit : Fin 2) (tag : Byte) (baud : Word) (s : State) :
    Keeps (execRate act unit tag baud s) (Only (Instr.rate act unit tag baud).reach s) := by
  refine Keeps_reach fun ps hp hs => ?_
  simp only [Instr.reach.eq_def, List.all_cons, Bool.and_eq_true] at hp
  simp [execRate, hp, hs]

theorem execHeadSel_reach (act : Act) (unit : Fin 2) (tag : Byte) (head : Byte) (s : State) :
    Keeps (execHeadSel act unit tag head s) (Only (Instr.headSel act unit tag head).reach s) := by
  refine Keeps_reach fun ps hp hs => ?_
  simp only [Instr.reach.eq_def, List.all_cons, Bool.and_eq_true] at hp
  simp [execHeadSel, hp, hs]

theorem execPathCtrl_reach (act : Act) (unit : Fin 2) (tag : Byte) (onOff : Byte) (s : State) :
    Keeps (execPathCtrl act unit tag onOff s) (Only (Instr.pathCtrl act unit tag onOff).reach s) := by
  refine Keeps_reach fun ps hp hs => ?_
  simp only [Instr.reach.eq_def, List.all_cons, Bool.and_eq_true] at hp
  simp [execPathCtrl, hp, hs]

theorem execWriteArm_reach (act : Act) (unit : Fin 2) (tag : Byte) (start : Word) (phase precompOn : Byte)
    (length sidx : Word) (s : State) :
    Keeps (execWriteArm act unit tag start phase precompOn length sidx s)
      (Only (Instr.writeArm act unit tag start phase precompOn length sidx).reach s) := by
  refine Keeps_reach fun ps hp hs => ?_
  simp only [Instr.reach.eq_def, List.all_cons, Bool.and_eq_true] at hp
  simp [execWriteArm, hp, hs]

theorem execWriteCancel_reach (act : Act) (unit : Fin 2) (tag : Byte) (s : State) :
    Keeps (execWriteCancel act unit tag s) (Only (Instr.writeCancel act unit tag).reach s) := by
  refine Keeps_reach fun ps hp hs => ?_
  simp only [Instr.reach.eq_def, List.all_cons, Bool.and_eq_true] at hp
  simp [execWriteCancel, hp, hs]

theorem execBiasSet_reach (act : Act) (tag : Byte) (head : Byte) (bias writeCur heater : BitVec 16) (s : State) :
    Keeps (execBiasSet act tag head bias writeCur heater s)
      (Only (Instr.biasSet act tag head bias writeCur heater).reach s) := by
  refine Keeps_reach fun ps hp hs => ?_
  simp only [Instr.reach.eq_def, List.all_cons, Bool.and_eq_true] at hp
  simp [execBiasSet, hp, hs]

theorem execPrecomp_reach (act : Act) (unit : Fin 2) (tag : Byte) (entries : List Int) (s : State) :
    Keeps (execPrecomp act unit tag entries s) (Only (Instr.precomp act unit tag entries).reach s) := by
  refine Keeps_reach fun ps hp hs => ?_
  simp only [Instr.reach.eq_def, List.all_cons, Bool.and_eq_true] at hp
  simp [execPrecomp, hp, hs]

theorem execAssistSet_reach (act : Act) (tag : Byte) (head mode : Byte) (writeCur standby lead tail : BitVec 16) (s : State) :
    Keeps (execAssistSet act tag head mode writeCur standby lead tail s)
      (Only (Instr.assistSet act tag head mode writeCur standby lead tail).reach s) := by
  refine Keeps_reach fun ps hp hs => ?_
  simp only [Instr.reach.eq_def, List.all_cons, Bool.and_eq_true] at hp
  simp [execAssistSet, hp, hs]

theorem execHeadTest_reach (act : Act) (tag : Byte) (head : Byte) (reader writer volt : BitVec 16) (result : Byte) (s : State) :
    Keeps (execHeadTest act tag head reader writer volt result s)
      (Only (Instr.headTest act tag head reader writer volt result).reach s) := by
  refine Keeps_reach fun ps hp hs => ?_
  simp only [Instr.reach.eq_def, List.all_cons, Bool.and_eq_true] at hp
  simp [execHeadTest, hp, hs]

theorem execEzpolLoop_reach (act : Act) (tag : Byte) (depth : Byte) (s : State) :
    Keeps (execEzpolLoop act tag depth s) (Only (Instr.ezpolLoop act tag depth).reach s) := by
  refine Keeps_reach fun ps hp hs => ?_
  simp only [Instr.reach.eq_def, List.all_cons, Bool.and_eq_true] at hp
  simp [execEzpolLoop, hp, hs]

theorem execWdata_reach (act : Act) (unit : Fin 2) (last : Bool) (widx : Word) (bits : Bytes) (s : State) :
    Keeps (execWdata act unit last widx bits s) (Only (Instr.wdata act unit last widx bits).reach s) := by
  refine Keeps_reach fun ps hp hs => ?_
  simp only [Instr.reach.eq_def, List.all_cons, Bool.and_eq_true] at hp
  simp (maxDischargeDepth := 99) [execWdata, hp, hs]

theorem execWriteDriverStart_reach (act : Act) (unit : Fin 2) (s : State) :
    Keeps (execWriteDriverStart act unit s) (Only (Instr.writeDriverStart act unit).reach s) := by
  refine Keeps_reach fun ps hp hs => ?_
  simp only [Instr.reach.eq_def, List.all_cons, Bool.and_eq_true] at hp
  unfold execWriteDriverStart
  dsimp only
  (repeat' split) <;> simp (maxDischargeDepth := 99) [hp, hs]

theorem execAssistFaultStop_reach (act : Act) (unit : Fin 2) (s : State) :
    Keeps (execAssistFaultStop act unit s) (Only (Instr.assistFaultStop act unit).reach s) := by
  refine Keeps_reach fun ps hp hs => ?_
  simp only [Instr.reach.eq_def, List.all_cons, Bool.and_eq_true] at hp
  simp (maxDischargeDepth := 99) [execAssistFaultStop, hp, hs]

theorem execDownlinkLossStop_reach (act : Act) (s : State) :
    Keeps (execDownlinkLossStop act s) (Only (Instr.downlinkLossStop act).reach s) := by
  refine Keeps_reach fun ps hp hs => ?_
  simp only [Instr.reach.eq_def, List.all_cons, Bool.and_eq_true] at hp
  simp [execDownlinkLossStop, hp, hs]

theorem execWih_reach (act : Act) (mask comp reason : Byte) (s : State) :
    Keeps (execWih act mask comp reason s) (Only (Instr.wih act mask comp reason).reach s) := by
  refine Keeps_reach fun ps hp hs => ?_
  simp only [Instr.reach.eq_def, List.all_cons, Bool.and_eq_true] at hp
  simp (maxDischargeDepth := 99) [execWih, hp, hs]

theorem execSlp_reach (act : Act) (s : State) :
    Keeps (execSlp act s) (Only (Instr.slp act).reach s) := by
  refine Keeps_reach fun ps hp hs => ?_
  simp only [Instr.reach.eq_def, List.all_cons, Bool.and_eq_true] at hp
  simp (maxDischargeDepth := 99) [execSlp, hp, hs]

theorem execWakeFromDormant_reach (act : Act) (s : State) :
    Keeps (execWakeFromDormant act s) (Only (Instr.wakeFromDormant act).reach s) := by
  refine Keeps_reach fun ps hp hs => ?_
  simp only [Instr.reach.eq_def, List.all_cons, Bool.and_eq_true] at hp
  simp [execWakeFromDormant, hp, hs]

theorem execLbx_reach (port : Port) (s : State) :
    Keeps (execLbx port s) (Only (Instr.lbx port).reach s) := by
  refine Keeps_reach fun ps hp hs => ?_
  simp only [Instr.reach.eq_def, List.all_cons, Bool.and_eq_true] at hp
  unfold execLbx
  split <;> simp [hp, hs]

/-! ### Motion -/

theorem execZhoselIdent_reach (tag : Byte) (s : State) :
    Keeps (execZhoselIdent tag s) (Only (Instr.zhoselIdent tag).reach s) := by
  refine Keeps_reach fun ps hp hs => ?_
  simp only [Instr.reach.eq_def, List.all_cons, Bool.and_eq_true] at hp
  simp [execZhoselIdent, hp, hs]

theorem execZhoselConfig_reach (tag : Byte) (period tmo shock retract : BitVec 16) (s : State) :
    Keeps (execZhoselConfig tag period tmo shock retract s)
      (Only (Instr.zhoselConfig tag period tmo shock retract).reach s) := by
  refine Keeps_reach fun ps hp hs => ?_
  simp only [Instr.reach.eq_def, List.all_cons, Bool.and_eq_true] at hp
  simp [execZhoselConfig, hp, hs]

theorem execAux_reach (tag : Byte) (onOff : Byte) (s : State) :
    Keeps (execAux tag onOff s) (Only (Instr.aux tag onOff).reach s) := by
  refine Keeps_reach fun ps hp hs => ?_
  simp only [Instr.reach.eq_def, List.all_cons, Bool.and_eq_true] at hp
  simp [execAux, hp, hs]

theorem execSpinMode_reach (tag : Byte) (mode samples : Byte) (limit : BitVec 16) (s : State) :
    Keeps (execSpinMode tag mode samples limit s) (Only (Instr.spinMode tag mode samples limit).reach s) := by
  refine Keeps_reach fun ps hp hs => ?_
  simp only [Instr.reach.eq_def, List.all_cons, Bool.and_eq_true] at hp
  simp [execSpinMode, hp, hs]

theorem execSpinTable_reach (tag : Byte) (base : BitVec 16) (entries : List (BitVec 16)) (s : State) :
    Keeps (execSpinTable tag base entries s) (Only (Instr.spinTable tag base entries).reach s) := by
  refine Keeps_reach fun ps hp hs => ?_
  simp only [Instr.reach.eq_def, List.all_cons, Bool.and_eq_true] at hp
  simp [execSpinTable, hp, hs]

theorem execSpinDrive_reach (tag : Byte) (applyLt angle rate : Word) (ampl : BitVec 16) (lt : Word) (s : State) :
    Keeps (execSpinDrive tag applyLt angle rate ampl lt s) (Only (Instr.spinDrive tag applyLt angle rate ampl lt).reach s) := by
  refine Keeps_reach fun ps hp hs => ?_
  simp only [Instr.reach.eq_def, List.all_cons, Bool.and_eq_true] at hp
  simp [execSpinDrive, hp, hs]

theorem execVcmEn_reach (tag : Byte) (mask : Byte) (limA limB : BitVec 16) (s : State) :
    Keeps (execVcmEn tag mask limA limB s) (Only (Instr.vcmEn tag mask limA limB).reach s) := by
  refine Keeps_reach fun ps hp hs => ?_
  simp only [Instr.reach.eq_def, List.all_cons, Bool.and_eq_true] at hp
  unfold execVcmEn
  split <;> simp [hp, hs]

theorem execMaSelect_reach (act : Act) (tag : Byte) (idx0 idx1 : Byte) (s : State) :
    Keeps (execMaSelect act tag idx0 idx1 s) (Only (Instr.maSelect act tag idx0 idx1).reach s) := by
  refine Keeps_reach fun ps hp hs => ?_
  simp only [Instr.reach.eq_def, List.all_cons, Bool.and_eq_true] at hp
  simp [execMaSelect, hp, hs]

theorem execRetract_reach (tag : Byte) (mask : Byte) (s : State) :
    Keeps (execRetract tag mask s) (Only (Instr.retract tag mask).reach s) := by
  refine Keeps_reach fun ps hp hs => ?_
  simp only [Instr.reach.eq_def, List.all_cons, Bool.and_eq_true] at hp
  simp [execRetract, hp, hs]

theorem execZhoselLoop_reach (tag : Byte) (depth : Byte) (rpm : Nat) (s : State) :
    Keeps (execZhoselLoop tag depth rpm s) (Only (Instr.zhoselLoop tag depth rpm).reach s) := by
  refine Keeps_reach fun ps hp hs => ?_
  simp only [Instr.reach.eq_def, List.all_cons, Bool.and_eq_true] at hp
  simp [execZhoselLoop, hp, hs]

theorem execSetpt_reach (act : Act) (wedge : BitVec 16) (applyLt : Word) (vcm ma0 ma1 : BitVec 16) (lt : Word) (s : State) :
    Keeps (execSetpt act wedge applyLt vcm ma0 ma1 lt s) (Only (Instr.setpt act wedge applyLt vcm ma0 ma1 lt).reach s) := by
  refine Keeps_reach fun ps hp hs => ?_
  simp only [Instr.reach.eq_def, List.all_cons, Bool.and_eq_true] at hp
  simp (maxDischargeDepth := 99) [execSetpt, hp, hs]

theorem execLinkTmoExpire_reach (s : State) :
    Keeps (execLinkTmoExpire s) (Only Instr.linkTmoExpire.reach s) := by
  refine Keeps_reach fun ps hp hs => ?_
  simp only [Instr.reach.eq_def, List.all_cons, Bool.and_eq_true] at hp
  simp [execLinkTmoExpire, hp, hs]

theorem execRetractDelayExpire_reach (s : State) :
    Keeps (execRetractDelayExpire s) (Only Instr.retractDelayExpire.reach s) := by
  refine Keeps_reach fun ps hp hs => ?_
  simp only [Instr.reach.eq_def, List.all_cons, Bool.and_eq_true] at hp
  simp [execRetractDelayExpire, hp, hs]

/-! ### Spindle -/

theorem execSpeedDemandChange_reach (demand : Byte) (s : State) :
    Keeps (execSpeedDemandChange demand s) (Only (Instr.speedDemandChange demand).reach s) := by
  refine Keeps_reach fun ps hp hs => ?_
  simp only [Instr.reach.eq_def, List.all_cons, Bool.and_eq_true] at hp
  simp [execSpeedDemandChange, hp, hs]

theorem execTargetLower_reach (s : State) :
    Keeps (execTargetLower s) (Only Instr.targetLower.reach s) := by
  refine Keeps_reach fun ps hp hs => ?_
  simp only [Instr.reach.eq_def, List.all_cons, Bool.and_eq_true] at hp
  simp [execTargetLower, hp, hs]

theorem execSpindleFaultRetry_reach (s : State) :
    Keeps (execSpindleFaultRetry s) (Only Instr.spindleFaultRetry.reach s) := by
  refine Keeps_reach fun ps hp hs => ?_
  simp only [Instr.reach.eq_def, List.all_cons, Bool.and_eq_true] at hp
  simp [execSpindleFaultRetry, hp, hs]

theorem execSpinUpTimeout_reach (s : State) :
    Keeps (execSpinUpTimeout s) (Only Instr.spinUpTimeout.reach s) := by
  refine Keeps_reach fun ps hp hs => ?_
  simp only [Instr.reach.eq_def, List.all_cons, Bool.and_eq_true] at hp
  simp [execSpinUpTimeout, hp, hs]

theorem execObservationEnd_reach (s : State) :
    Keeps (execObservationEnd s) (Only Instr.observationEnd.reach s) := by
  refine Keeps_reach fun ps hp hs => ?_
  simp only [Instr.reach.eq_def, List.all_cons, Bool.and_eq_true] at hp
  simp [execObservationEnd, hp, hs]

theorem execBrakeBelow30rpm_reach (s : State) :
    Keeps (execBrakeBelow30rpm s) (Only Instr.brakeBelow30rpm.reach s) := by
  refine Keeps_reach fun ps hp hs => ?_
  simp only [Instr.reach.eq_def, List.all_cons, Bool.and_eq_true] at hp
  simp [execBrakeBelow30rpm, hp, hs]

theorem execBrakeTimeout_reach (s : State) :
    Keeps (execBrakeTimeout s) (Only Instr.brakeTimeout.reach s) := by
  refine Keeps_reach fun ps hp hs => ?_
  simp only [Instr.reach.eq_def, List.all_cons, Bool.and_eq_true] at hp
  simp [execBrakeTimeout, hp, hs]

theorem execAlignmentDone_reach (s : State) :
    Keeps (execAlignmentDone s) (Only Instr.alignmentDone.reach s) := by
  refine Keeps_reach fun ps hp hs => ?_
  simp only [Instr.reach.eq_def, List.all_cons, Bool.and_eq_true] at hp
  simp [execAlignmentDone, hp, hs]

theorem execOpenLoopRampDone_reach (s : State) :
    Keeps (execOpenLoopRampDone s) (Only Instr.openLoopRampDone.reach s) := by
  refine Keeps_reach fun ps hp hs => ?_
  simp only [Instr.reach.eq_def, List.all_cons, Bool.and_eq_true] at hp
  simp [execOpenLoopRampDone, hp, hs]

theorem execHandoverTimeout_reach (moved : Bool) (s : State) :
    Keeps (execHandoverTimeout moved s) (Only (Instr.handoverTimeout moved).reach s) := by
  refine Keeps_reach fun ps hp hs => ?_
  simp only [Instr.reach.eq_def, List.all_cons, Bool.and_eq_true] at hp
  simp [execHandoverTimeout, hp, hs]

theorem execSpinDriveRefresh_reach (lt : Word) (s : State) :
    Keeps (execSpinDriveRefresh lt s) (Only (Instr.spinDriveRefresh lt).reach s) := by
  refine Keeps_reach fun ps hp hs => ?_
  simp only [Instr.reach.eq_def, List.all_cons, Bool.and_eq_true] at hp
  simp (maxDischargeDepth := 99) [execSpinDriveRefresh, hp, hs]

theorem execJCoastEnd_reach (riseUs decel : Nat) (s : State) :
    Keeps (execJCoastEnd riseUs decel s) (Only (Instr.jCoastEnd riseUs decel).reach s) := by
  refine Keeps_reach fun ps hp hs => ?_
  simp only [Instr.reach.eq_def, List.all_cons, Bool.and_eq_true] at hp
  simp (maxDischargeDepth := 99) [execJCoastEnd, hp, hs]

theorem execRotorRecoveryEnd_reach (forward now : Nat) (s : State) :
    Keeps (execRotorRecoveryEnd forward now s) (Only (Instr.rotorRecoveryEnd forward now).reach s) := by
  refine Keeps_reach fun ps hp hs => ?_
  simp only [Instr.reach.eq_def, List.all_cons, Bool.and_eq_true] at hp
  simp [execRotorRecoveryEnd, hp, hs]

theorem execElec_reach (hdr : CellHdr) (sample : BitVec 16) (lt : Word) (iU iV vU vV vW : Int) (now : Nat) (s : State) :
    Keeps (execElec hdr sample lt iU iV vU vV vW now s) (Only (Instr.elec hdr sample lt iU iV vU vV vW now).reach s) := by
  refine Keeps_reach fun ps hp hs => ?_
  simp only [Instr.reach.eq_def, List.all_cons, Bool.and_eq_true] at hp
  simp [execElec, hp, hs]

theorem execZc_reach (hdr : CellHdr) (entries : List ZcEntry) (now : Nat) (s : State) :
    Keeps (execZc hdr entries now s) (Only (Instr.zc hdr entries now).reach s) := by
  refine Keeps_reach fun ps hp hs => ?_
  simp only [Instr.reach.eq_def, List.all_cons, Bool.and_eq_true] at hp
  simp [execZc, hp, hs]

/-! ### Servo -/

theorem execSeek_reach (act : Act) (t0 t1 : Option (Nat × Int)) (s : State) :
    Keeps (execSeek act t0 t1 s) (Only (Instr.seek act t0 t1).reach s) := by
  refine Keeps_reach fun ps hp hs => ?_
  simp only [Instr.reach.eq_def, List.all_cons, Bool.and_eq_true] at hp
  simp [execSeek, hp, hs]

theorem execMicroSeek_reach (act : Act) (unit : Fin 2) (head : Nat) (target : Int) (s : State) :
    Keeps (execMicroSeek act unit head target s) (Only (Instr.microSeek act unit head target).reach s) := by
  refine Keeps_reach fun ps hp hs => ?_
  simp only [Instr.reach.eq_def, List.all_cons, Bool.and_eq_true] at hp
  simp [execMicroSeek, hp, hs]

theorem execHeadSwitch_reach (act : Act) (unit : Fin 2) (head : Nat) (target : Int) (s : State) :
    Keeps (execHeadSwitch act unit head target s) (Only (Instr.headSwitch act unit head target).reach s) := by
  refine Keeps_reach fun ps hp hs => ?_
  simp only [Instr.reach.eq_def, List.all_cons, Bool.and_eq_true] at hp
  simp [execHeadSwitch, hp, hs]

theorem execServoWedge_reach (act : Act) (u0 u1 : WedgeObs) (inTime : Bool) (s : State) :
    Keeps (execServoWedge act u0 u1 inTime s) (Only (Instr.servoWedge act u0 u1 inTime).reach s) := by
  refine Keeps_reach fun ps hp hs => ?_
  simp only [Instr.reach.eq_def, List.all_cons, Bool.and_eq_true] at hp
  simp [execServoWedge, hp, hs]

theorem execHeadLoad_reach (act : Act) (lt : Word) (s : State) :
    Keeps (execHeadLoad act lt s) (Only (Instr.headLoad act lt).reach s) := by
  refine Keeps_reach fun ps hp hs => ?_
  simp only [Instr.reach.eq_def, List.all_cons, Bool.and_eq_true] at hp
  simp (maxDischargeDepth := 99) [execHeadLoad, hp, hs]

theorem execLoadPulseEnd_reach (act : Act) (lt : Word) (s : State) :
    Keeps (execLoadPulseEnd act lt s) (Only (Instr.loadPulseEnd act lt).reach s) := by
  refine Keeps_reach fun ps hp hs => ?_
  simp only [Instr.reach.eq_def, List.all_cons, Bool.and_eq_true] at hp
  simp [execLoadPulseEnd, hp, hs]

theorem execLoadAcquisitionTimeout_reach (act : Act) (lt : Word) (now : Nat) (s : State) :
    Keeps (execLoadAcquisitionTimeout act lt now s) (Only (Instr.loadAcquisitionTimeout act lt now).reach s) := by
  refine Keeps_reach fun ps hp hs => ?_
  simp only [Instr.reach.eq_def, List.all_cons, Bool.and_eq_true] at hp
  simp [execLoadAcquisitionTimeout, hp, hs]

theorem execAcquisitionTimeout_reach (act : Act) (s : State) :
    Keeps (execAcquisitionTimeout act s) (Only (Instr.acquisitionTimeout act).reach s) := by
  refine Keeps_reach fun ps hp hs => ?_
  simp only [Instr.reach.eq_def, List.all_cons, Bool.and_eq_true] at hp
  simp [execAcquisitionTimeout, hp, hs]

theorem execUnload_reach (act : Act) (s : State) :
    Keeps (execUnload act s) (Only (Instr.unload act).reach s) := by
  refine Keeps_reach fun ps hp hs => ?_
  simp only [Instr.reach.eq_def, List.all_cons, Bool.and_eq_true] at hp
  simp [execUnload, hp, hs]

theorem execServoRevolution_reach (act : Act) (e0 e1 : List Int) (mean : Option Int) (s : State) :
    Keeps (execServoRevolution act e0 e1 mean s) (Only (Instr.servoRevolution act e0 e1 mean).reach s) := by
  refine Keeps_reach fun ps hp hs => ?_
  simp only [Instr.reach.eq_def, List.all_cons, Bool.and_eq_true] at hp
  unfold execServoRevolution
  dsimp only
  (repeat' split) <;> simp (maxDischargeDepth := 99) [hp, hs]

theorem execCalSave_reach (minutes : Nat) (s : State) :
    Keeps (execCalSave minutes s) (Only (Instr.calSave minutes).reach s) := by
  refine Keeps_reach fun ps hp hs => ?_
  simp only [Instr.reach.eq_def, List.all_cons, Bool.and_eq_true] at hp
  simp (maxDischargeDepth := 99) [execCalSave, hp, hs]

theorem execShockQuietExpire_reach (act : Act) (s : State) :
    Keeps (execShockQuietExpire act s) (Only (Instr.shockQuietExpire act).reach s) := by
  refine Keeps_reach fun ps hp hs => ?_
  simp only [Instr.reach.eq_def, List.all_cons, Bool.and_eq_true] at hp
  simp [execShockQuietExpire, hp, hs]

theorem execMapBackgroundPass_reach (act : Act) (head : Nat) (map : List Int) (s : State) :
    Keeps (execMapBackgroundPass act head map s) (Only (Instr.mapBackgroundPass act head map).reach s) := by
  refine Keeps_reach fun ps hp hs => ?_
  simp only [Instr.reach.eq_def, List.all_cons, Bool.and_eq_true] at hp
  simp [execMapBackgroundPass, hp, hs]

theorem execServoCalibration_reach (ma mb : CalMeas) (s : State) :
    Keeps (execServoCalibration ma mb s) (Only (Instr.servoCalibration ma mb).reach s) := by
  refine Keeps_reach fun ps hp hs => ?_
  simp only [Instr.reach.eq_def, List.all_cons, Bool.and_eq_true] at hp
  simp (maxDischargeDepth := 99) [execServoCalibration, hp, hs]

/-! ### LinkRows -/

theorem execTs1_reach (port : Port) (atController : Bool) (lane : Nat) (b : TsBody) (s : State) :
    Keeps (execTs1 port atController lane b s) (Only (Instr.ts1 port atController lane b).reach s) := by
  refine Keeps_reach fun ps hp hs => ?_
  simp only [Instr.reach.eq_def, List.all_cons, Bool.and_eq_true] at hp
  simp (maxDischargeDepth := 99) +contextual [execTs1, hp, hs]

theorem execTs2_reach (port : Port) (atController : Bool) (lane : Nat) (b : TsBody) (s : State) :
    Keeps (execTs2 port atController lane b s) (Only (Instr.ts2 port atController lane b).reach s) := by
  refine Keeps_reach fun ps hp hs => ?_
  simp only [Instr.reach.eq_def, List.all_cons, Bool.and_eq_true] at hp
  simp [execTs2, hp, hs]

theorem execAln_reach (port : Port) (down : Bool) (lt : Word) (s : State) :
    Keeps (execAln port down lt s) (Only (Instr.aln port down lt).reach s) := by
  refine Keeps_reach fun ps hp hs => ?_
  simp only [Instr.reach.eq_def, List.all_cons, Bool.and_eq_true] at hp
  simp [execAln, hp, hs]

theorem execAlnInterval_reach (port : Port) (down : Bool) (lt : Word) (s : State) :
    Keeps (execAlnInterval port down lt s) (Only (Instr.alnInterval port down lt).reach s) := by
  refine Keeps_reach fun ps hp hs => ?_
  simp only [Instr.reach.eq_def, List.all_cons, Bool.and_eq_true] at hp
  simp [execAlnInterval, hp, hs]

theorem execNak_reach (port : Port) (atController : Bool) (seq : BitVec 16) (s : State) :
    Keeps (execNak port atController seq s) (Only (Instr.nak port atController seq).reach s) := by
  refine Keeps_reach fun ps hp hs => ?_
  simp only [Instr.reach.eq_def, List.all_cons, Bool.and_eq_true] at hp
  unfold execNak
  dsimp only
  (repeat' split) <;> simp [hp, hs]

theorem execCellCrcFail_reach (port : Port) (atController : Bool) (s : State) :
    Keeps (execCellCrcFail port atController s) (Only (Instr.cellCrcFail port atController).reach s) := by
  refine Keeps_reach fun ps hp hs => ?_
  simp only [Instr.reach.eq_def, List.all_cons, Bool.and_eq_true] at hp
  simp (maxDischargeDepth := 99) [execCellCrcFail, hp, hs]

theorem execReplayTimeout_reach (port : Port) (s : State) :
    Keeps (execReplayTimeout port s) (Only (Instr.replayTimeout port).reach s) := by
  refine Keeps_reach fun ps hp hs => ?_
  simp only [Instr.reach.eq_def, List.all_cons, Bool.and_eq_true] at hp
  simp [execReplayTimeout, hp, hs]

theorem execLane0Silence_reach (port : Port) (s : State) :
    Keeps (execLane0Silence port s) (Only (Instr.lane0Silence port).reach s) := by
  refine Keeps_reach fun ps hp hs => ?_
  simp only [Instr.reach.eq_def, List.all_cons, Bool.and_eq_true] at hp
  simp [execLane0Silence, hp, hs]

theorem execBlockLockLost_reach (port : Port) (down : Bool) (lane : Nat) (s : State) :
    Keeps (execBlockLockLost port down lane s) (Only (Instr.blockLockLost port down lane).reach s) := by
  refine Keeps_reach fun ps hp hs => ?_
  simp only [Instr.reach.eq_def, List.all_cons, Bool.and_eq_true] at hp
  simp (maxDischargeDepth := 99) [execBlockLockLost, hp, hs]

theorem execIdle_reach (port : Port) (hdr : CellHdr) (s : State) :
    Keeps (execIdle port hdr s) (Only (Instr.idle port hdr).reach s) := by
  refine Keeps_reach fun ps hp hs => ?_
  simp only [Instr.reach.eq_def, List.all_cons, Bool.and_eq_true] at hp
  simp [execIdle, hp, hs]

theorem execLinkRetrain_reach (port : Port) (ok : Bool) (up : BitVec 5) (dn : BitVec 2) (now : Nat) (s : State) :
    Keeps (execLinkRetrain port ok up dn now s) (Only (Instr.linkRetrain port ok up dn now).reach s) := by
  refine Keeps_reach fun ps hp hs => ?_
  simp only [Instr.reach.eq_def, List.all_cons, Bool.and_eq_true] at hp
  unfold execLinkRetrain
  dsimp only
  (repeat' split) <;> simp (maxDischargeDepth := 99) [hp, hs]

theorem execAlm_reach (port : Port) (source unitMask comp : Byte) (now : Nat) (s : State) :
    Keeps (execAlm port source unitMask comp now s) (Only (Instr.alm port source unitMask comp now).reach s) := by
  refine Keeps_reach fun ps hp hs => ?_
  simp only [Instr.reach.eq_def, List.all_cons, Bool.and_eq_true] at hp
  unfold execAlm
  dsimp only
  (repeat' split) <;> simp (maxDischargeDepth := 99) +contextual [hp, hs]

theorem execEvent_reach (port : Port) (hdr : CellHdr) (code head : Byte) (detail : BitVec 16) (time : Word) (now : Nat)
    (s : State) :
    Keeps (execEvent port hdr code head detail time now s) (Only (Instr.event port hdr code head detail time now).reach s) := by
  refine Keeps_reach fun ps hp hs => ?_
  simp only [Instr.reach.eq_def, List.all_cons, Bool.and_eq_true] at hp
  unfold execEvent
  dsimp only
  (repeat' split) <;> simp (maxDischargeDepth := 99) +contextual [hp, hs]

theorem execMon_reach (act : Act) (hdr : CellHdr) (m : MonBody) (s : State) :
    Keeps (execMon act hdr m s) (Only (Instr.mon act hdr m).reach s) := by
  refine Keeps_reach fun ps hp hs => ?_
  simp only [Instr.reach.eq_def, List.all_cons, Bool.and_eq_true] at hp
  simp (maxDischargeDepth := 99) [execMon, hp, hs]

theorem execMstat_reach (hdr : CellHdr) (m : MstatBody) (s : State) :
    Keeps (execMstat hdr m s) (Only (Instr.mstat hdr m).reach s) := by
  refine Keeps_reach fun ps hp hs => ?_
  simp only [Instr.reach.eq_def, List.all_cons, Bool.and_eq_true] at hp
  simp (maxDischargeDepth := 99) [execMstat, hp, hs]

theorem execResp_reach (port : Port) (hdr : CellHdr) (unit : BitVec 4) (status : BitVec 4) (opcode tag : Byte)
    (body : Bytes) (s : State) :
    Keeps (execResp port hdr unit status opcode tag body s)
      (Only (Instr.resp port hdr unit status opcode tag body).reach s) := by
  refine Keeps_reach fun ps hp hs => ?_
  simp only [Instr.reach.eq_def, List.all_cons, Bool.and_eq_true] at hp
  unfold execResp
  dsimp only
  (repeat' split) <;> simp (maxDischargeDepth := 99) [hp, hs]

theorem execPfail_reach (s : State) :
    Keeps (execPfail s) (Only Instr.pfail.reach s) := by
  refine Keeps_reach fun ps hp hs => ?_
  simp only [Instr.reach.eq_def, List.all_cons, Bool.and_eq_true] at hp
  simp (maxDischargeDepth := 99) [execPfail, hp, hs]

/-! ### Channel -/

theorem execSmpl_reach (act : Act) (hdr : CellHdr) (unit : Fin 2) (flags : SmplFlags) (sidx : Word) (samples : List Int)
    (bits : List ChanBit) (s : State) :
    Keeps (execSmpl act hdr unit flags sidx samples bits s)
      (Only (Instr.smpl act hdr unit flags sidx samples bits).reach s) := by
  refine Keeps_reach fun ps hp hs => ?_
  simp only [Instr.reach.eq_def, List.all_cons, Bool.and_eq_true] at hp
  unfold execSmpl
  dsimp only
  (repeat' split) <;> simp (maxDischargeDepth := 99) [hp, hs]

/-! ### Sequencer -/

theorem execFsqRun_reach (n : Fin 4) (permits : List Bool) (sectors : List SectorObs) (fetches : List FetchObs) (s : State) :
    Keeps (execFsqRun n permits sectors fetches s) (Only (Instr.fsqRun n permits sectors fetches).reach s) := by
  refine Keeps_reach fun ps hp hs => ?_
  simp only [Instr.reach.eq_def, List.all_cons, Bool.and_eq_true] at hp
  simp (maxDischargeDepth := 99) +contextual [execFsqRun, hp, hs]

theorem execMissedRevolution_reach (n : Fin 4) (s : State) :
    Keeps (execMissedRevolution n s) (Only (Instr.missedRevolution n).reach s) := by
  refine Keeps_reach fun ps hp hs => ?_
  simp only [Instr.reach.eq_def, List.all_cons, Bool.and_eq_true] at hp
  simp [execMissedRevolution, hp, hs]

theorem execRunEnd_reach (n : Fin 4) (s : State) :
    Keeps (execRunEnd n s) (Only (Instr.runEnd n).reach s) := by
  refine Keeps_reach fun ps hp hs => ?_
  simp only [Instr.reach.eq_def, List.all_cons, Bool.and_eq_true] at hp
  unfold execRunEnd
  dsimp only
  (repeat' split) <;> simp (maxDischargeDepth := 99) [hp, hs]

/-! ### Decoder -/

theorem execDecoderGrant_reach (s : State) :
    Keeps (execDecoderGrant s) (Only Instr.decoderGrant.reach s) := by
  refine Keeps_reach fun ps hp hs => ?_
  simp only [Instr.reach.eq_def, List.all_cons, Bool.and_eq_true] at hp
  unfold execDecoderGrant
  split <;> simp [hp, hs]

theorem execDecodeEnd_reach (engine : Fin 6) (zero : Bool) (iters : Nat) (payload : Bytes) (crc : Word) (trouble : Nat)
    (now : Nat) (s : State) :
    Keeps (execDecodeEnd engine zero iters payload crc trouble now s)
      (Only (Instr.decodeEnd engine zero iters payload crc trouble now).reach s) := by
  refine Keeps_reach fun ps hp hs => ?_
  simp only [Instr.reach.eq_def, List.all_cons, Bool.and_eq_true] at hp
  unfold execDecodeEnd
  split <;> simp (maxDischargeDepth := 99) [hp, hs]

theorem execRetryStoreExpire_reach (ch : Fin 4) (tag : Word) (sector : Nat) (s : State) :
    Keeps (execRetryStoreExpire ch tag sector s) (Only (Instr.retryStoreExpire ch tag sector).reach s) := by
  refine Keeps_reach fun ps hp hs => ?_
  simp only [Instr.reach.eq_def, List.all_cons, Bool.and_eq_true] at hp
  unfold execRetryStoreExpire
  split <;> simp (maxDischargeDepth := 99) [hp, hs]

theorem execReferenceDecode_reach (good : BitVec 6) (s : State) :
    Keeps (execReferenceDecode good s) (Only (Instr.referenceDecode good).reach s) := by
  refine Keeps_reach fun ps hp hs => ?_
  simp only [Instr.reach.eq_def, List.all_cons, Bool.and_eq_true] at hp
  unfold execReferenceDecode
  refine (Keeps_next _ _).2 (foldl_only _ _ (fun t e ht => ?_) hs)
  dsimp only
  (repeat' split) <;> simp (maxDischargeDepth := 99) [hp, ht]

theorem execAssistCalDue_reach (head : Nat) (s : State) :
    Keeps (execAssistCalDue head s) (Only (Instr.assistCalDue head).reach s) := by
  refine Keeps_reach fun ps hp hs => ?_
  simp only [Instr.reach.eq_def, List.all_cons, Bool.and_eq_true] at hp
  simp [execAssistCalDue, hp, hs]

theorem execAssistCalibration_reach (head : Nat) (scores : List (Nat × Nat)) (threshold : Nat) (signs : List Int) (temp : Int)
    (monitor : Nat) (s : State) :
    Keeps (execAssistCalibration head scores threshold signs temp monitor s)
      (Only (Instr.assistCalibration head scores threshold signs temp monitor).reach s) := by
  refine Keeps_reach fun ps hp hs => ?_
  simp only [Instr.reach.eq_def, List.all_cons, Bool.and_eq_true] at hp
  unfold execAssistCalibration
  extract_lets due writing i k s1
  refine (Keeps_ite _ _ _).2 ⟨fun _ => by simp [hs], fun _ => (Keeps_ite _ _ _).2 ⟨fun _ => by simp [hp, hs], fun _ => ?_⟩⟩
  have h1 : Only ps s s1 := by simp (maxDischargeDepth := 99) [s1, hp, hs]
  split
  extract_lets chosen beyond s2 s3 med s4 crd s5
  have h2 : Only ps s s2 := by simp [s2, hp, h1]
  have h3 : Only ps s s3 := by simp [s3, hp, h2]
  have h4 : Only ps s s4 := by simp [s4, hp, h3]
  have h5 : Only ps s s5 := by simp [s5, hp, h4]
  simp [hp, h5]

theorem execAssistCheck_reach (best : List (Nat × Nat)) (s : State) :
    Keeps (execAssistCheck best s) (Only (Instr.assistCheck best).reach s) := by
  refine Keeps_reach fun ps hp hs => ?_
  simp only [Instr.reach.eq_def, List.all_cons, Bool.and_eq_true] at hp
  simp (maxDischargeDepth := 99) +contextual [execAssistCheck, hp, hs]

/-! ### Reset -/

theorem execPowerOn_reach (rail : Rail) (s : State) :
    Keeps (execPowerOn rail s) (Only (Instr.powerOn rail).reach s) := by
  refine Keeps_reach fun ps hp hs => ?_
  simp only [Instr.reach.eq_def, List.all_cons, Bool.and_eq_true] at hp
  simp (maxDischargeDepth := 99) [execPowerOn, hp, hs]

theorem execVddCoreOff_reach (s : State) :
    Keeps (execVddCoreOff s) (Only Instr.vddCoreOff.reach s) := by
  refine Keeps_reach fun ps hp hs => ?_
  simp only [Instr.reach.eq_def, List.all_cons, Bool.and_eq_true] at hp
  simp [execVddCoreOff, hp, hs]

theorem execPowerLoss_reach (s : State) :
    Keeps (execPowerLoss s) (Only Instr.powerLoss.reach s) := by
  refine Keeps_reach fun ps hp hs => ?_
  simp only [Instr.reach.eq_def, List.all_cons, Bool.and_eq_true] at hp
  simp (maxDischargeDepth := 99) [execPowerLoss, hp, hs]

theorem execSysrstNLow_reach (s : State) :
    Keeps (execSysrstNLow s) (Only Instr.sysrstNLow.reach s) := by
  refine Keeps_reach fun ps hp hs => ?_
  simp only [Instr.reach.eq_def, List.all_cons, Bool.and_eq_true] at hp
  simp (maxDischargeDepth := 99) [execSysrstNLow, hp, hs]

theorem execSysrstNHigh_reach (s : State) :
    Keeps (execSysrstNHigh s) (Only Instr.sysrstNHigh.reach s) := by
  refine Keeps_reach fun ps hp hs => ?_
  simp only [Instr.reach.eq_def, List.all_cons, Bool.and_eq_true] at hp
  simp [execSysrstNHigh, hp, hs]

theorem execSysrstRecognised_reach (s : State) :
    Keeps (execSysrstRecognised s) (Only Instr.sysrstRecognised.reach s) := by
  refine Keeps_reach fun ps hp hs => ?_
  simp only [Instr.reach.eq_def, List.all_cons, Bool.and_eq_true] at hp
  simp [execSysrstRecognised, hp, hs]

theorem execHoldupSaveDone_reach (skipped : Nat) (s : State) :
    Keeps (execHoldupSaveDone skipped s) (Only (Instr.holdupSaveDone skipped).reach s) := by
  refine Keeps_reach fun ps hp hs => ?_
  simp only [Instr.reach.eq_def, List.all_cons, Bool.and_eq_true] at hp
  simp (maxDischargeDepth := 99) [execHoldupSaveDone, hp, hs]

theorem execResetStretchEnd_reach (s : State) :
    Keeps (execResetStretchEnd s) (Only Instr.resetStretchEnd.reach s) := by
  refine Keeps_reach fun ps hp hs => ?_
  simp only [Instr.reach.eq_def, List.all_cons, Bool.and_eq_true] at hp
  simp [execResetStretchEnd, hp, hs]

theorem execInternalResetRelease_reach (bootSrc clkMode : BitVec 2) (s : State) :
    Keeps (execInternalResetRelease bootSrc clkMode s) (Only (Instr.internalResetRelease bootSrc clkMode).reach s) := by
  refine Keeps_reach fun ps hp hs => ?_
  simp only [Instr.reach.eq_def, List.all_cons, Bool.and_eq_true] at hp
  simp (maxDischargeDepth := 99) [execInternalResetRelease, hp, hs]

theorem execOscSettled_reach (s : State) :
    Keeps (execOscSettled s) (Only Instr.oscSettled.reach s) := by
  refine Keeps_reach fun ps hp hs => ?_
  simp only [Instr.reach.eq_def, List.all_cons, Bool.and_eq_true] at hp
  simp [execOscSettled, hp, hs]

theorem execNssr_reach (value : Word) (s : State) :
    Keeps (execNssr value s) (Only (Instr.nssr value).reach s) := by
  refine Keeps_reach fun ps hp hs => ?_
  simp only [Instr.reach.eq_def, List.all_cons, Bool.and_eq_true] at hp
  simp [hp, hs]

theorem execMfgStartRetry_reach (s : State) :
    Keeps (execMfgStartRetry s) (Only Instr.mfgStartRetry.reach s) := by
  refine Keeps_reach fun ps hp hs => ?_
  simp only [Instr.reach.eq_def, List.all_cons, Bool.and_eq_true] at hp
  simp +contextual [execMfgStartRetry, hp, hs]

theorem execWatchdogService_reach (s : State) :
    Keeps (execWatchdogService s) (Only Instr.watchdogService.reach s) := by
  simp [execWatchdogService, Only.refl]

theorem execWatchdogExpire_reach (s : State) :
    Keeps (execWatchdogExpire s) (Only Instr.watchdogExpire.reach s) := by
  refine Keeps_reach fun ps hp hs => ?_
  simp only [Instr.reach.eq_def, List.all_cons, Bool.and_eq_true] at hp
  simp [execWatchdogExpire, hp, hs]

/-! ### BlockReset -/

theorem execBlockResetRequest_reach (slot : Fin 26) (s : State) :
    Keeps (execBlockResetRequest slot s) (Only (Instr.blockResetRequest slot).reach s) := by
  refine Keeps_reach fun ps hp hs => ?_
  simp only [Instr.reach.eq_def, List.all_cons, Bool.and_eq_true] at hp
  simp [execBlockResetRequest, hp, hs]

theorem execIdleAck_reach (slot : Fin 26) (s : State) :
    Keeps (execIdleAck slot s) (Only (Instr.idleAck slot).reach s) := by
  refine Keeps_reach fun ps hp hs => ?_
  simp only [Instr.reach.eq_def, List.all_cons, Bool.and_eq_true] at hp
  simp [execIdleAck, hp, hs]

theorem execIdleAckTimeout_reach (slot : Fin 26) (s : State) :
    Keeps (execIdleAckTimeout slot s) (Only (Instr.idleAckTimeout slot).reach s) := by
  refine Keeps_reach fun ps hp hs => ?_
  simp only [Instr.reach.eq_def, List.all_cons, Bool.and_eq_true] at hp
  simp [execIdleAckTimeout, hp, hs]

theorem execBlockResetRelease_reach (slot : Fin 26) (s : State) :
    Keeps (execBlockResetRelease slot s) (Only (Instr.blockResetRelease slot).reach s) := by
  refine Keeps_reach fun ps hp hs => ?_
  simp only [Instr.reach.eq_def, List.all_cons, Bool.and_eq_true] at hp
  simp [execBlockResetRelease, hp, hs]

theorem execBlkRst_reach (value : Word) (s : State) :
    Keeps (execBlkRst value s) (Only (Instr.blkRst value).reach s) := by
  refine Keeps_reach fun ps hp hs => ?_
  simp only [Instr.reach.eq_def, List.all_cons, Bool.and_eq_true] at hp
  simp [hp, hs]

theorem execPllLockLoss_reach (pll : Pll) (s : State) :
    Keeps (execPllLockLoss pll s) (Only (Instr.pllLockLoss pll).reach s) := by
  refine Keeps_reach fun ps hp hs => ?_
  simp only [Instr.reach.eq_def, List.all_cons, Bool.and_eq_true] at hp
  unfold execPllLockLoss
  dsimp only
  (repeat' split) <;> simp (maxDischargeDepth := 99) +contextual [hp, hs]

theorem execLockLossTimeout_reach (dom : Fin 10) (s : State) :
    Keeps (execLockLossTimeout dom s) (Only (Instr.lockLossTimeout dom).reach s) := by
  refine Keeps_reach fun ps hp hs => ?_
  simp only [Instr.reach.eq_def, List.all_cons, Bool.and_eq_true] at hp
  simp [execLockLossTimeout, hp, hs]

theorem execPerstNAssert_reach (s : State) :
    Keeps (execPerstNAssert s) (Only Instr.perstNAssert.reach s) := by
  refine Keeps_reach fun ps hp hs => ?_
  simp only [Instr.reach.eq_def, List.all_cons, Bool.and_eq_true] at hp
  simp (maxDischargeDepth := 99) [execPerstNAssert, hp, hs]

theorem execPerstNRelease_reach (s : State) :
    Keeps (execPerstNRelease s) (Only Instr.perstNRelease.reach s) := by
  refine Keeps_reach fun ps hp hs => ?_
  simp only [Instr.reach.eq_def, List.all_cons, Bool.and_eq_true] at hp
  simp [execPerstNRelease, hp, hs]

theorem execHotReset_reach (s : State) :
    Keeps (execHotReset s) (Only Instr.hotReset.reach s) := by
  refine Keeps_reach fun ps hp hs => ?_
  simp only [Instr.reach.eq_def, List.all_cons, Bool.and_eq_true] at hp
  simp (maxDischargeDepth := 99) [execHotReset, hp, hs]

theorem execPcieLinkDown_reach (s : State) :
    Keeps (execPcieLinkDown s) (Only Instr.pcieLinkDown.reach s) := by
  refine Keeps_reach fun ps hp hs => ?_
  simp only [Instr.reach.eq_def, List.all_cons, Bool.and_eq_true] at hp
  simp (maxDischargeDepth := 99) [execPcieLinkDown, hp, hs]

theorem execFunctionLevelReset_reach (s : State) :
    Keeps (execFunctionLevelReset s) (Only Instr.functionLevelReset.reach s) := by
  refine Keeps_reach fun ps hp hs => ?_
  simp only [Instr.reach.eq_def, List.all_cons, Bool.and_eq_true] at hp
  simp [execFunctionLevelReset, hp, hs]

/-! ### ZoneMap -/

theorem execMediaCacheSlotTimeout_reach (slot : Nat) (s : State) :
    Keeps (execMediaCacheSlotTimeout slot s) (Only (Instr.mediaCacheSlotTimeout slot).reach s) := by
  refine Keeps_reach fun ps hp hs => ?_
  simp only [Instr.reach.eq_def, List.all_cons, Bool.and_eq_true] at hp
  unfold execMediaCacheSlotTimeout
  dsimp only
  (repeat' split) <;> simp [hp, hs]

theorem execIndexLogBase_reach (s : State) :
    Keeps (execIndexLogBase s) (Only Instr.indexLogBase.reach s) := by
  refine Keeps_reach fun ps hp hs => ?_
  simp only [Instr.reach.eq_def, List.all_cons, Bool.and_eq_true] at hp
  simp [execIndexLogBase, hp, hs]

theorem execCleaning_reach (s : State) :
    Keeps (execCleaning s) (Only Instr.cleaning.reach s) := by
  refine Keeps_reach fun ps hp hs => ?_
  simp only [Instr.reach.eq_def, List.all_cons, Bool.and_eq_true] at hp
  unfold execCleaning
  dsimp only
  (repeat' split) <;> simp (maxDischargeDepth := 99) +contextual [hp, hs]

theorem execMergeSwitch_reach (zone target : Nat) (s : State) :
    Keeps (execMergeSwitch zone target s) (Only (Instr.mergeSwitch zone target).reach s) := by
  refine Keeps_reach fun ps hp hs => ?_
  simp only [Instr.reach.eq_def, List.all_cons, Bool.and_eq_true] at hp
  unfold execMergeSwitch
  dsimp only
  (repeat' split) <;> simp (maxDischargeDepth := 99) +contextual [hp, hs]

theorem execMapCacheMiss_reach (unit : Nat) (write : Bool) (s : State) :
    Keeps (execMapCacheMiss unit write s) (Only (Instr.mapCacheMiss unit write).reach s) := by
  refine Keeps_reach fun ps hp hs => ?_
  simp only [Instr.reach.eq_def, List.all_cons, Bool.and_eq_true] at hp
  simp [execMapCacheMiss, hp, hs]

theorem execMapFillDone_reach (k : Fin 8) (s : State) :
    Keeps (execMapFillDone k s) (Only (Instr.mapFillDone k).reach s) := by
  refine Keeps_reach fun ps hp hs => ?_
  simp only [Instr.reach.eq_def, List.all_cons, Bool.and_eq_true] at hp
  unfold execMapFillDone
  dsimp only
  (repeat' split) <;> simp (maxDischargeDepth := 99) [hp, hs]

theorem execMapWritebackDone_reach (line : Fin 48) (s : State) :
    Keeps (execMapWritebackDone line s) (Only (Instr.mapWritebackDone line).reach s) := by
  refine Keeps_reach fun ps hp hs => ?_
  simp only [Instr.reach.eq_def, List.all_cons, Bool.and_eq_true] at hp
  simp (maxDischargeDepth := 99) [execMapWritebackDone, hp, hs]

theorem execPreload_reach (value : Word) (s : State) :
    Keeps (execPreload value s) (Only (Instr.preload value).reach s) := by
  refine Keeps_reach fun ps hp hs => ?_
  simp only [Instr.reach.eq_def, List.all_cons, Bool.and_eq_true] at hp
  simp [hp, hs]

theorem execUnlock_reach (value : Word) (s : State) :
    Keeps (execUnlock value s) (Only (Instr.unlock value).reach s) := by
  refine Keeps_reach fun ps hp hs => ?_
  simp only [Instr.reach.eq_def, List.all_cons, Bool.and_eq_true] at hp
  simp [hp, hs]

theorem execEnable_reach (onOff : Bool) (s : State) :
    Keeps (execEnable onOff s) (Only (Instr.enable onOff).reach s) := by
  refine Keeps_reach fun ps hp hs => ?_
  simp only [Instr.reach.eq_def, List.all_cons, Bool.and_eq_true] at hp
  simp [hp, hs]

theorem execClean_reach (s : State) :
    Keeps (execClean s) (Only Instr.clean.reach s) := by
  refine Keeps_reach fun ps hp hs => ?_
  simp only [Instr.reach.eq_def, List.all_cons, Bool.and_eq_true] at hp
  simp [hp, hs]

/-! ### PowerRows -/

theorem execIdleTimerPs1_reach (s : State) :
    Keeps (execIdleTimerPs1 s) (Only Instr.idleTimerPs1.reach s) := by
  refine Keeps_reach fun ps hp hs => ?_
  simp only [Instr.reach.eq_def, List.all_cons, Bool.and_eq_true] at hp
  simp [execIdleTimerPs1, hp, hs]

theorem execIdleTimerPs2_reach (s : State) :
    Keeps (execIdleTimerPs2 s) (Only Instr.idleTimerPs2.reach s) := by
  refine Keeps_reach fun ps hp hs => ?_
  simp only [Instr.reach.eq_def, List.all_cons, Bool.and_eq_true] at hp
  simp [execIdleTimerPs2, hp, hs]

theorem execApstTimer_reach (s : State) :
    Keeps (execApstTimer s) (Only Instr.apstTimer.reach s) := by
  refine Keeps_reach fun ps hp hs => ?_
  simp only [Instr.reach.eq_def, List.all_cons, Bool.and_eq_true] at hp
  simp [execApstTimer, hp, hs]

theorem execPs3Entry_reach (s : State) :
    Keeps (execPs3Entry s) (Only Instr.ps3Entry.reach s) := by
  refine Keeps_reach fun ps hp hs => ?_
  simp only [Instr.reach.eq_def, List.all_cons, Bool.and_eq_true] at hp
  simp [execPs3Entry, hp, hs]

theorem execPs4Entry_reach (s : State) :
    Keeps (execPs4Entry s) (Only Instr.ps4Entry.reach s) := by
  refine Keeps_reach fun ps hp hs => ?_
  simp only [Instr.reach.eq_def, List.all_cons, Bool.and_eq_true] at hp
  simp [execPs4Entry, hp, hs]

theorem execPs3Exit_reach (s : State) :
    Keeps (execPs3Exit s) (Only Instr.ps3Exit.reach s) := by
  refine Keeps_reach fun ps hp hs => ?_
  simp only [Instr.reach.eq_def, List.all_cons, Bool.and_eq_true] at hp
  simp [execPs3Exit, hp, hs]

theorem execPs4Exit_reach (s : State) :
    Keeps (execPs4Exit s) (Only Instr.ps4Exit.reach s) := by
  refine Keeps_reach fun ps hp hs => ?_
  simp only [Instr.reach.eq_def, List.all_cons, Bool.and_eq_true] at hp
  simp [execPs4Exit, hp, hs]

theorem execDramSelfRefreshIdle_reach (s : State) :
    Keeps (execDramSelfRefreshIdle s) (Only Instr.dramSelfRefreshIdle.reach s) := by
  refine Keeps_reach fun ps hp hs => ?_
  simp only [Instr.reach.eq_def, List.all_cons, Bool.and_eq_true] at hp
  simp [execDramSelfRefreshIdle, hp, hs]

theorem execThermalSample_reach (r0 r1 r2 r3 : Int) (s : State) :
    Keeps (execThermalSample r0 r1 r2 r3 s) (Only (Instr.thermalSample r0 r1 r2 r3).reach s) := by
  refine Keeps_reach fun ps hp hs => ?_
  simp only [Instr.reach.eq_def, List.all_cons, Bool.and_eq_true] at hp
  unfold execThermalSample
  dsimp only
  (repeat' split) <;> simp (maxDischargeDepth := 99) [hp, hs]

/-! ### HostPort -/

theorem execPmeTurnOff_reach (s : State) :
    Keeps (execPmeTurnOff s) (Only Instr.pmeTurnOff.reach s) := by
  refine Keeps_reach fun ps hp hs => ?_
  simp only [Instr.reach.eq_def, List.all_cons, Bool.and_eq_true] at hp
  simp [execPmeTurnOff, hp, hs]

theorem execD3hotEntry_reach (s : State) :
    Keeps (execD3hotEntry s) (Only Instr.d3hotEntry.reach s) := by
  refine Keeps_reach fun ps hp hs => ?_
  simp only [Instr.reach.eq_def, List.all_cons, Bool.and_eq_true] at hp
  simp [execD3hotEntry, hp, hs]

theorem execD3hotExit_reach (s : State) :
    Keeps (execD3hotExit s) (Only Instr.d3hotExit.reach s) := by
  refine Keeps_reach fun ps hp hs => ?_
  simp only [Instr.reach.eq_def, List.all_cons, Bool.and_eq_true] at hp
  simp (maxDischargeDepth := 99) [execD3hotExit, hp, hs]

theorem execAspmL1Entry_reach (s : State) :
    Keeps (execAspmL1Entry s) (Only Instr.aspmL1Entry.reach s) := by
  refine Keeps_reach fun ps hp hs => ?_
  simp only [Instr.reach.eq_def, List.all_cons, Bool.and_eq_true] at hp
  simp [execAspmL1Entry, hp, hs]

theorem execAspmL1Exit_reach (s : State) :
    Keeps (execAspmL1Exit s) (Only Instr.aspmL1Exit.reach s) := by
  refine Keeps_reach fun ps hp hs => ?_
  simp only [Instr.reach.eq_def, List.all_cons, Bool.and_eq_true] at hp
  simp [execAspmL1Exit, hp, hs]

theorem execLoopbackFollower_reach (s : State) :
    Keeps (execLoopbackFollower s) (Only Instr.loopbackFollower.reach s) := by
  refine Keeps_reach fun ps hp hs => ?_
  simp only [Instr.reach.eq_def, List.all_cons, Bool.and_eq_true] at hp
  simp (maxDischargeDepth := 99) [execLoopbackFollower, hp, hs]

theorem execPcieError_reach (e : PcieErr) (s : State) :
    Keeps (execPcieError e s) (Only (Instr.pcieError e).reach s) := by
  refine Keeps_reach fun ps hp hs => ?_
  simp only [Instr.reach.eq_def, List.all_cons, Bool.and_eq_true] at hp
  simp [execPcieError, hp, hs]

theorem execMemoryWindowWrite_reach (off : Nat) (data : Bytes) (s : State) :
    Keeps (execMemoryWindowWrite off data s) (Only (Instr.memoryWindowWrite off data).reach s) := by
  refine Keeps_reach fun ps hp hs => ?_
  simp only [Instr.reach.eq_def, List.all_cons, Bool.and_eq_true] at hp
  simp +contextual [execMemoryWindowWrite, hp, hs]

theorem execMemoryWindowRead_reach (off len : Nat) (s : State) :
    Keeps (execMemoryWindowRead off len s) (Only (Instr.memoryWindowRead off len).reach s) := by
  refine Keeps_reach fun ps hp hs => ?_
  simp only [Instr.reach.eq_def, List.all_cons, Bool.and_eq_true] at hp
  unfold execMemoryWindowRead
  refine (Keeps_next _ _).2 (State.memReq_only _ _ _ hs (fun t ht => ?_) (by simp [hp]) (by simp [hp]) (by simp [hp]))
  (repeat' split) <;> simp (maxDischargeDepth := 99) +contextual [hp, ht]

/-! ### Test -/

theorem execCredenzaPersist_reach (s : State) :
    Keeps (execCredenzaPersist s) (Only Instr.credenzaPersist.reach s) := by
  refine Keeps_reach fun ps hp hs => ?_
  simp only [Instr.reach.eq_def, List.all_cons, Bool.and_eq_true] at hp
  simp [execCredenzaPersist, hp, hs]

theorem execMinuteTick_reach (s : State) :
    Keeps (execMinuteTick s) (Only Instr.minuteTick.reach s) := by
  refine Keeps_reach fun ps hp hs => ?_
  simp only [Instr.reach.eq_def, List.all_cons, Bool.and_eq_true] at hp
  simp (maxDischargeDepth := 99) [execMinuteTick, hp, hs]

theorem execCrdClear_reach (s : State) :
    Keeps (execCrdClear s) (Only Instr.crdClear.reach s) := by
  refine Keeps_reach fun ps hp hs => ?_
  simp only [Instr.reach.eq_def, List.all_cons, Bool.and_eq_true] at hp
  simp [hp, hs]

theorem execPersist_reach (s : State) :
    Keeps (execPersist s) (Only Instr.persist.reach s) := by
  refine Keeps_reach fun ps hp hs => ?_
  simp only [Instr.reach.eq_def, List.all_cons, Bool.and_eq_true] at hp
  simp [hp, hs]

theorem execBurnDs_reach (ok : Bool) (s : State) :
    Keeps (execBurnDs ok s) (Only (Instr.burnDs ok).reach s) := by
  refine Keeps_reach fun ps hp hs => ?_
  simp only [Instr.reach.eq_def, List.all_cons, Bool.and_eq_true] at hp
  simp (maxDischargeDepth := 99) +contextual [execBurnDs, hp, hs]

theorem execProgramKeySlot_reach (index : Fin 4) (ok : Bool) (s : State) :
    Keeps (execProgramKeySlot index ok s) (Only (Instr.programKeySlot index ok).reach s) := by
  refine Keeps_reach fun ps hp hs => ?_
  simp only [Instr.reach.eq_def, List.all_cons, Bool.and_eq_true] at hp
  unfold execProgramKeySlot
  refine (Keeps_next _ _).2 (State.inMfg_only _ _ hs fun t ht => ?_)
  (repeat' split) <;> simp (maxDischargeDepth := 99) [hp, ht]

theorem execRevokeKeySlot_reach (index : Fin 4) (ok : Bool) (s : State) :
    Keeps (execRevokeKeySlot index ok s) (Only (Instr.revokeKeySlot index ok).reach s) := by
  refine Keeps_reach fun ps hp hs => ?_
  simp only [Instr.reach.eq_def, List.all_cons, Bool.and_eq_true] at hp
  unfold execRevokeKeySlot
  refine (Keeps_next _ _).2 (State.inMfg_only _ _ hs fun t ht => ?_)
  (repeat' split) <;> simp (maxDischargeDepth := 99) [hp, ht]

theorem execRevokeHoltaleKey_reach (index : Fin 2) (ok : Bool) (s : State) :
    Keeps (execRevokeHoltaleKey index ok s) (Only (Instr.revokeHoltaleKey index ok).reach s) := by
  refine Keeps_reach fun ps hp hs => ?_
  simp only [Instr.reach.eq_def, List.all_cons, Bool.and_eq_true] at hp
  simp (maxDischargeDepth := 99) +contextual [execRevokeHoltaleKey, hp, hs]

theorem execHold_reach (s : State) :
    Keeps (execHold s) (Only Instr.hold.reach s) := by
  refine Keeps_reach fun ps hp hs => ?_
  simp only [Instr.reach.eq_def, List.all_cons, Bool.and_eq_true] at hp
  simp [hp, hs]

theorem execTstLoopback_reach (value : Word) (s : State) :
    Keeps (execTstLoopback value s) (Only (Instr.tstLoopback value).reach s) := by
  refine Keeps_reach fun ps hp hs => ?_
  simp only [Instr.reach.eq_def, List.all_cons, Bool.and_eq_true] at hp
  simp [hp, hs]

theorem execElkLoopback_reach (port : Port) (value : Word) (s : State) :
    Keeps (execElkLoopback port value s) (Only (Instr.elkLoopback port value).reach s) := by
  refine Keeps_reach fun ps hp hs => ?_
  simp only [Instr.reach.eq_def, List.all_cons, Bool.and_eq_true] at hp
  simp [hp, hs]

theorem execHptLoopback_reach (value : Word) (s : State) :
    Keeps (execHptLoopback value s) (Only (Instr.hptLoopback value).reach s) := by
  refine Keeps_reach fun ps hp hs => ?_
  simp only [Instr.reach.eq_def, List.all_cons, Bool.and_eq_true] at hp
  simp [hp, hs]

theorem execLoopbackDone_reach (unit : Fin 5) (errors : Nat) (s : State) :
    Keeps (execLoopbackDone unit errors s) (Only (Instr.loopbackDone unit errors).reach s) := by
  refine Keeps_reach fun ps hp hs => ?_
  simp only [Instr.reach.eq_def, List.all_cons, Bool.and_eq_true] at hp
  unfold execLoopbackDone
  split <;> simp (maxDischargeDepth := 99) [hp, hs]

theorem execNstread_reach (s : State) :
    Keeps (execNstread s) (Only Instr.nstread.reach s) := by
  refine Keeps_reach fun ps hp hs => ?_
  simp only [Instr.reach.eq_def, List.all_cons, Bool.and_eq_true] at hp
  simp [execNstread, hp, hs]

theorem execExtest_reach (drive sample : List Bool) (s : State) :
    Keeps (execExtest drive sample s) (Only (Instr.extest drive sample).reach s) := by
  refine Keeps_reach fun ps hp hs => ?_
  simp only [Instr.reach.eq_def, List.all_cons, Bool.and_eq_true] at hp
  simp [execExtest, hp, hs]

/-! ### Vendor -/

theorem execScan_reach (fsn : Nat) (s : State) :
    Keeps (execScan fsn s) (Only (Instr.scan fsn).reach s) := by
  refine Keeps_reach fun ps hp hs => ?_
  simp only [Instr.reach.eq_def, List.all_cons, Bool.and_eq_true] at hp
  unfold execScan
  split <;> simp [hp, hs]

theorem execPeerOut_reach (fsn : Nat) (s : State) :
    Keeps (execPeerOut fsn s) (Only (Instr.peerOut fsn).reach s) := by
  refine Keeps_reach fun ps hp hs => ?_
  simp only [Instr.reach.eq_def, List.all_cons, Bool.and_eq_true] at hp
  simp [execPeerOut, hp, hs]

theorem execPeerIn_reach (fsn : Nat) (s : State) :
    Keeps (execPeerIn fsn s) (Only (Instr.peerIn fsn).reach s) := by
  refine Keeps_reach fun ps hp hs => ?_
  simp only [Instr.reach.eq_def, List.all_cons, Bool.and_eq_true] at hp
  simp [execPeerIn, hp, hs]

theorem execVendorPiece_reach (fsn : Nat) (blocks : List (Option Bytes)) (xfer : Xfer) (s : State) :
    Keeps (execVendorPiece fsn blocks xfer s) (Only (Instr.vendorPiece fsn blocks xfer).reach s) := by
  refine Keeps_reach fun ps hp hs => ?_
  simp only [Instr.reach.eq_def, List.all_cons, Bool.and_eq_true] at hp
  unfold execVendorPiece
  (repeat' split) <;> simp [hp, hs]

/-! ### Aperture -/

theorem execApertureAccess_reach (off size : Nat) (value : Option Word) (s : State) :
    Keeps (execApertureAccess off size value s) (Only (Instr.apertureAccess off size value).reach s) := by
  refine Keeps_reach fun ps hp hs => ?_
  simp only [Instr.reach.eq_def, List.all_cons, Bool.and_eq_true] at hp
  simp +contextual [execApertureAccess, hp, hs]

theorem execRegisterWrite_reach (space : RegSpace) (off : Nat) (value : Word) (s : State) :
    Keeps (execRegisterWrite space off value s) (Only (Instr.registerWrite space off value).reach s) := by
  refine Keeps_reach fun ps hp hs => ?_
  simp only [Instr.reach.eq_def, List.all_cons, Bool.and_eq_true] at hp
  unfold execRegisterWrite
  split <;> simp (maxDischargeDepth := 99) +contextual [hp, hs]

/-! ### Firmware -/

theorem execZoneManagementReceive_reach (fsn : Nat) (s : State) :
    Keeps (execZoneManagementReceive fsn s) (Only (Instr.zoneManagementReceive fsn).reach s) := by
  refine Keeps_reach fun ps hp hs => ?_
  simp only [Instr.reach.eq_def, List.all_cons, Bool.and_eq_true] at hp
  unfold execZoneManagementReceive
  split <;> simp [hp, hs]

theorem execFirmwareImageDownload_reach (fsn : Nat) (data : Bytes) (s : State) :
    Keeps (execFirmwareImageDownload fsn data s) (Only (Instr.firmwareImageDownload fsn data).reach s) := by
  refine Keeps_reach fun ps hp hs => ?_
  simp only [Instr.reach.eq_def, List.all_cons, Bool.and_eq_true] at hp
  unfold execFirmwareImageDownload
  split <;> simp [hp, hs]

theorem execFirmwareCommit_reach (fsn : Nat) (backFallback backPrimary : Bool) (s : State) :
    Keeps (execFirmwareCommit fsn backFallback backPrimary s)
      (Only (Instr.firmwareCommit fsn backFallback backPrimary).reach s) := by
  refine Keeps_reach fun ps hp hs => ?_
  simp only [Instr.reach.eq_def, List.all_cons, Bool.and_eq_true] at hp
  unfold execFirmwareCommit
  dsimp only
  (repeat' split) <;> simp (maxDischargeDepth := 99) [hp, hs]

/-! ### Start -/

theorem execClkGoodTimeout_reach (dom : Fin 10) (s : State) :
    Keeps (execClkGoodTimeout dom s) (Only (Instr.clkGoodTimeout dom).reach s) := by
  refine Keeps_reach fun ps hp hs => ?_
  simp only [Instr.reach.eq_def, List.all_cons, Bool.and_eq_true] at hp
  simp (maxDischargeDepth := 99) [execClkGoodTimeout, hp, hs]

theorem execClkGood_reach (dom : Fin 10) (s : State) :
    Keeps (execClkGood dom s) (Only (Instr.clkGood dom).reach s) := by
  refine Keeps_reach fun ps hp hs => ?_
  simp only [Instr.reach.eq_def, List.all_cons, Bool.and_eq_true] at hp
  simp (maxDischargeDepth := 99) [execClkGood, hp, hs]

theorem execOptionCopyCheck_reach (copy : Copy) (rd : NorRead) (s : State) :
    Keeps (execOptionCopyCheck copy rd s) (Only (Instr.optionCopyCheck copy rd).reach s) := by
  refine Keeps_reach fun ps hp hs => ?_
  simp only [Instr.reach.eq_def, List.all_cons, Bool.and_eq_true] at hp
  unfold execOptionCopyCheck
  dsimp only
  (repeat' split) <;> simp (maxDischargeDepth := 99) [hp, hs]

theorem execSramSelfTestDone_reach (rows : List (BitVec 6 × BitVec 10)) (spares : List (BitVec 6 × BitVec 4)) (s : State) :
    Keeps (execSramSelfTestDone rows spares s) (Only (Instr.sramSelfTestDone rows spares).reach s) := by
  refine Keeps_reach fun ps hp hs => ?_
  simp only [Instr.reach.eq_def, List.all_cons, Bool.and_eq_true] at hp
  simp (maxDischargeDepth := 99) +contextual [execSramSelfTestDone, hp, hs]

theorem execFirmwareCopyCheck_reach (copy : Copy) (rd : NorRead) (s : State) :
    Keeps (execFirmwareCopyCheck copy rd s) (Only (Instr.firmwareCopyCheck copy rd).reach s) := by
  refine Keeps_reach fun ps hp hs => ?_
  simp only [Instr.reach.eq_def, List.all_cons, Bool.and_eq_true] at hp
  unfold execFirmwareCopyCheck
  dsimp only
  (repeat' split) <;> simp (maxDischargeDepth := 99) [hp, hs]

theorem execFirmwareLoadDone_reach (chest : ChestAccess) (s : State) :
    Keeps (execFirmwareLoadDone chest s) (Only (Instr.firmwareLoadDone chest).reach s) := by
  refine Keeps_reach fun ps hp hs => ?_
  simp only [Instr.reach.eq_def, List.all_cons, Bool.and_eq_true] at hp
  unfold execFirmwareLoadDone
  split <;> simp (maxDischargeDepth := 99) [hp, hs]

theorem execDramTrainingDone_reach (trained : BitVec 4) (capGiB : BitVec 4) (density : BitVec 5) (s : State) :
    Keeps (execDramTrainingDone trained capGiB density s) (Only (Instr.dramTrainingDone trained capGiB density).reach s) := by
  refine Keeps_reach fun ps hp hs => ?_
  simp only [Instr.reach.eq_def, List.all_cons, Bool.and_eq_true] at hp
  unfold execDramTrainingDone
  dsimp only
  (repeat' split) <;> simp (maxDischargeDepth := 99) [hp, hs]

theorem execPcieLinkTrainStart_reach (s : State) :
    Keeps (execPcieLinkTrainStart s) (Only Instr.pcieLinkTrainStart.reach s) := by
  refine Keeps_reach fun ps hp hs => ?_
  simp only [Instr.reach.eq_def, List.all_cons, Bool.and_eq_true] at hp
  simp [execPcieLinkTrainStart, hp, hs]

theorem execPcieLinkUp_reach (speed width : BitVec 3) (s : State) :
    Keeps (execPcieLinkUp speed width s) (Only (Instr.pcieLinkUp speed width).reach s) := by
  refine Keeps_reach fun ps hp hs => ?_
  simp only [Instr.reach.eq_def, List.all_cons, Bool.and_eq_true] at hp
  simp (maxDischargeDepth := 99) [execPcieLinkUp, hp, hs]

/-! ### Discovery -/

theorem execZhoselLinkUp_reach (up dn : BitVec 2) (s : State) :
    Keeps (execZhoselLinkUp up dn s) (Only (Instr.zhoselLinkUp up dn).reach s) := by
  refine Keeps_reach fun ps hp hs => ?_
  simp only [Instr.reach.eq_def, List.all_cons, Bool.and_eq_true] at hp
  unfold execZhoselLinkUp
  dsimp only
  (repeat' split) <;> simp (maxDischargeDepth := 99) [hp, hs]

theorem execZhoselTrainTimeout_reach (s : State) :
    Keeps (execZhoselTrainTimeout s) (Only Instr.zhoselTrainTimeout.reach s) := by
  refine Keeps_reach fun ps hp hs => ?_
  simp only [Instr.reach.eq_def, List.all_cons, Bool.and_eq_true] at hp
  unfold execZhoselTrainTimeout
  split <;> simp (maxDischargeDepth := 99) [hp, hs]

theorem execEzpolLinkUp_reach (act : Act) (up : BitVec 5) (dn : BitVec 2) (s : State) :
    Keeps (execEzpolLinkUp act up dn s) (Only (Instr.ezpolLinkUp act up dn).reach s) := by
  refine Keeps_reach fun ps hp hs => ?_
  simp only [Instr.reach.eq_def, List.all_cons, Bool.and_eq_true] at hp
  unfold execEzpolLinkUp
  dsimp only
  (repeat' split) <;> simp (maxDischargeDepth := 99) [hp, hs]

theorem execEzpolTrainTimeout_reach (act : Act) (s : State) :
    Keeps (execEzpolTrainTimeout act s) (Only (Instr.ezpolTrainTimeout act).reach s) := by
  refine Keeps_reach fun ps hp hs => ?_
  simp only [Instr.reach.eq_def, List.all_cons, Bool.and_eq_true] at hp
  unfold execEzpolTrainTimeout
  split <;> simp (maxDischargeDepth := 99) [hp, hs]

theorem execIdentityRead_reach (mem : IdMem) (rd : Option Bytes) (s : State) :
    Keeps (execIdentityRead mem rd s) (Only (Instr.identityRead mem rd).reach s) := by
  refine Keeps_reach fun ps hp hs => ?_
  simp only [Instr.reach.eq_def, List.all_cons, Bool.and_eq_true] at hp
  unfold execIdentityRead
  dsimp only
  (repeat' split) <;> simp (maxDischargeDepth := 99) [hp, hs]

theorem execBackgroundIdentityRead_reach (mem : IdMem) (rd : Option Bytes) (s : State) :
    Keeps (execBackgroundIdentityRead mem rd s) (Only (Instr.backgroundIdentityRead mem rd).reach s) := by
  refine Keeps_reach fun ps hp hs => ?_
  simp only [Instr.reach.eq_def, List.all_cons, Bool.and_eq_true] at hp
  unfold execBackgroundIdentityRead
  dsimp only
  (repeat' split) <;> simp [hp, hs]

/-! ### Restore -/

theorem execMetadataReplay_reach (chest : ChestAccess) (bandA bandB : Option Nat) (mapOk : Bool) (s : State) :
    Keeps (execMetadataReplay chest bandA bandB mapOk s) (Only (Instr.metadataReplay chest bandA bandB mapOk).reach s) := by
  refine Keeps_reach fun ps hp hs => ?_
  simp only [Instr.reach.eq_def, List.all_cons, Bool.and_eq_true] at hp
  unfold execMetadataReplay
  dsimp only
  (repeat' split) <;> simp (maxDischargeDepth := 99) +contextual [hp, hs]

theorem execStartReady_reach (s : State) :
    Keeps (execStartReady s) (Only Instr.startReady.reach s) := by
  refine Keeps_reach fun ps hp hs => ?_
  simp only [Instr.reach.eq_def, List.all_cons, Bool.and_eq_true] at hp
  simp (maxDischargeDepth := 99) [execStartReady, hp, hs]

/-! ### Spdm -/

theorem execDoeRequest_reach (vendor : BitVec 16) (typ : Byte) (payload : List Word) (s : State) :
    Keeps (execDoeRequest vendor typ payload s) (Only (Instr.doeRequest vendor typ payload).reach s) := by
  refine Keeps_reach fun ps hp hs => ?_
  simp only [Instr.reach.eq_def, List.all_cons, Bool.and_eq_true] at hp
  unfold execDoeRequest
  split <;> simp [hp, hs]

theorem execDoeAbort_reach (s : State) :
    Keeps (execDoeAbort s) (Only Instr.doeAbort.reach s) := by
  refine Keeps_reach fun ps hp hs => ?_
  simp only [Instr.reach.eq_def, List.all_cons, Bool.and_eq_true] at hp
  simp [execDoeAbort, hp, hs]

theorem execGetVersion_reach (s : State) :
    Keeps (execGetVersion s) (Only Instr.getVersion.reach s) := by
  refine Keeps_reach fun ps hp hs => ?_
  simp only [Instr.reach.eq_def, List.all_cons, Bool.and_eq_true] at hp
  unfold execGetVersion
  split <;> simp [hp, hs]

theorem execGetCapabilities_reach (version : Byte) (s : State) :
    Keeps (execGetCapabilities version s) (Only (Instr.getCapabilities version).reach s) := by
  refine Keeps_reach fun ps hp hs => ?_
  simp only [Instr.reach.eq_def, List.all_cons, Bool.and_eq_true] at hp
  unfold execGetCapabilities
  split <;> simp (maxDischargeDepth := 99) +contextual [hp, hs]

theorem execNegotiateAlgorithms_reach (asym hash : Word) (measSpec : Byte) (s : State) :
    Keeps (execNegotiateAlgorithms asym hash measSpec s) (Only (Instr.negotiateAlgorithms asym hash measSpec).reach s) := by
  refine Keeps_reach fun ps hp hs => ?_
  simp only [Instr.reach.eq_def, List.all_cons, Bool.and_eq_true] at hp
  unfold execNegotiateAlgorithms
  dsimp only
  (repeat' split) <;> simp (maxDischargeDepth := 99) +contextual [hp, hs]

theorem execGetDigests_reach (s : State) :
    Keeps (execGetDigests s) (Only Instr.getDigests.reach s) := by
  refine Keeps_reach fun ps hp hs => ?_
  simp only [Instr.reach.eq_def, List.all_cons, Bool.and_eq_true] at hp
  unfold execGetDigests
  split <;> simp +contextual [hp, hs]

theorem execGetCertificate_reach (slot : Byte) (offset length : BitVec 16) (s : State) :
    Keeps (execGetCertificate slot offset length s) (Only (Instr.getCertificate slot offset length).reach s) := by
  refine Keeps_reach fun ps hp hs => ?_
  simp only [Instr.reach.eq_def, List.all_cons, Bool.and_eq_true] at hp
  unfold execGetCertificate
  split <;> simp +contextual [hp, hs]

theorem execChallenge_reach (slot : Byte) (hashType : Byte) (nonce : Bytes) (s : State) :
    Keeps (execChallenge slot hashType nonce s) (Only (Instr.challenge slot hashType nonce).reach s) := by
  refine Keeps_reach fun ps hp hs => ?_
  simp only [Instr.reach.eq_def, List.all_cons, Bool.and_eq_true] at hp
  unfold execChallenge
  split <;> simp (maxDischargeDepth := 99) +contextual [hp, hs]

theorem execGetMeasurements_reach (param1 param2 : Byte) (nonce : Bytes) (slot : Byte) (s : State) :
    Keeps (execGetMeasurements param1 param2 nonce slot s) (Only (Instr.getMeasurements param1 param2 nonce slot).reach s) := by
  refine Keeps_reach fun ps hp hs => ?_
  simp only [Instr.reach.eq_def, List.all_cons, Bool.and_eq_true] at hp
  unfold execGetMeasurements
  split
  · simp [hs]
  dsimp only
  split
  · simp [hs]
  refine (Keeps_next _ _).2 (State.spdmServe_only _ _ _ _ _ hs (fun t ht => ?_) (by simp [hp]) (by simp [hp]))
  (repeat' split) <;> simp (maxDischargeDepth := 99) [hp, ht]

/-! ### Every command -/

theorem exec_reach (c : Instr) (s : State) : Keeps (exec c s) (Only c.reach s) :=
  match c with
  | .powerOn rail => execPowerOn_reach rail s
  | .vddCoreOff => execVddCoreOff_reach s
  | .sysrstNLow => execSysrstNLow_reach s
  | .sysrstNHigh => execSysrstNHigh_reach s
  | .sysrstRecognised => execSysrstRecognised_reach s
  | .holdupSaveDone skipped => execHoldupSaveDone_reach skipped s
  | .resetStretchEnd => execResetStretchEnd_reach s
  | .internalResetRelease bootSrc clkMode => execInternalResetRelease_reach bootSrc clkMode s
  | .oscSettled => execOscSettled_reach s
  | .clkGood dom => execClkGood_reach dom s
  | .clkGoodTimeout dom => execClkGoodTimeout_reach dom s
  | .optionCopyCheck copy rd => execOptionCopyCheck_reach copy rd s
  | .pcieLinkTrainStart => execPcieLinkTrainStart_reach s
  | .sramSelfTestDone rows spares => execSramSelfTestDone_reach rows spares s
  | .firmwareCopyCheck copy rd => execFirmwareCopyCheck_reach copy rd s
  | .firmwareLoadDone chest => execFirmwareLoadDone_reach chest s
  | .dramTrainingDone trained capGiB density => execDramTrainingDone_reach trained capGiB density s
  | .zhoselLinkUp up dn => execZhoselLinkUp_reach up dn s
  | .zhoselTrainTimeout => execZhoselTrainTimeout_reach s
  | .ezpolLinkUp act up dn => execEzpolLinkUp_reach act up dn s
  | .ezpolTrainTimeout act => execEzpolTrainTimeout_reach act s
  | .identityRead mem rd => execIdentityRead_reach mem rd s
  | .backgroundIdentityRead mem rd => execBackgroundIdentityRead_reach mem rd s
  | .servoCalibration ma mb => execServoCalibration_reach ma mb s
  | .assistCheck best => execAssistCheck_reach best s
  | .metadataReplay chest bandA bandB mapOk => execMetadataReplay_reach chest bandA bandB mapOk s
  | .startReady => execStartReady_reach s
  | .watchdogService => execWatchdogService_reach s
  | .watchdogExpire => execWatchdogExpire_reach s
  | .nssr value => execNssr_reach value s
  | .mfgStartRetry => execMfgStartRetry_reach s
  | .pllLockLoss pll => execPllLockLoss_reach pll s
  | .lockLossTimeout dom => execLockLossTimeout_reach dom s
  | .blockResetRequest slot => execBlockResetRequest_reach slot s
  | .idleAck slot => execIdleAck_reach slot s
  | .idleAckTimeout slot => execIdleAckTimeout_reach slot s
  | .blockResetRelease slot => execBlockResetRelease_reach slot s
  | .blkRst value => execBlkRst_reach value s
  | .perstNAssert => execPerstNAssert_reach s
  | .perstNRelease => execPerstNRelease_reach s
  | .ts1 port atController lane sb => execTs1_reach port atController lane sb s
  | .ts2 port atController lane sb => execTs2_reach port atController lane sb s
  | .aln port down lt => execAln_reach port down lt s
  | .alnInterval port down lt => execAlnInterval_reach port down lt s
  | .nak port atController seq => execNak_reach port atController seq s
  | .wih act mask comp reason => execWih_reach act mask comp reason s
  | .alm port source unitMask comp now => execAlm_reach port source unitMask comp now s
  | .pfail => execPfail_reach s
  | .lbx port => execLbx_reach port s
  | .slp act => execSlp_reach act s
  | .blockLockLost port down lane => execBlockLockLost_reach port down lane s
  | .cellCrcFail port atController => execCellCrcFail_reach port atController s
  | .idle port hdr => execIdle_reach port hdr s
  | .wdata act unit last widx bits => execWdata_reach act unit last widx bits s
  | .smpl act hdr unit flags sidx samples bits => execSmpl_reach act hdr unit flags sidx samples bits s
  | .resp port hdr unit status opcode tag body => execResp_reach port hdr unit status opcode tag body s
  | .mon act hdr m => execMon_reach act hdr m s
  | .event port hdr code head detail time now => execEvent_reach port hdr code head detail time now s
  | .setpt act wedge applyLt vcm ma0 ma1 lt => execSetpt_reach act wedge applyLt vcm ma0 ma1 lt s
  | .mstat hdr m => execMstat_reach hdr m s
  | .zc hdr entries now => execZc_reach hdr entries now s
  | .elec hdr sample lt iU iV vU vV vW now => execElec_reach hdr sample lt iU iV vU vV vW now s
  | .replayTimeout port => execReplayTimeout_reach port s
  | .lane0Silence port => execLane0Silence_reach port s
  | .linkRetrain port ok up dn now => execLinkRetrain_reach port ok up dn now s
  | .linkTmoExpire => execLinkTmoExpire_reach s
  | .retractDelayExpire => execRetractDelayExpire_reach s
  | .wakeFromDormant act => execWakeFromDormant_reach act s
  | .writeDriverStart act unit => execWriteDriverStart_reach act unit s
  | .assistFaultStop act unit => execAssistFaultStop_reach act unit s
  | .downlinkLossStop act => execDownlinkLossStop_reach act s
  | .ezpolIdent act tag => execEzpolIdent_reach act tag s
  | .ezpolConfig act tag monPeriod win => execEzpolConfig_reach act tag monPeriod win s
  | .rate act unit tag baud => execRate_reach act unit tag baud s
  | .headSel act unit tag head => execHeadSel_reach act unit tag head s
  | .pathCtrl act unit tag onOff => execPathCtrl_reach act unit tag onOff s
  | .writeArm act unit tag start phase precompOn length sidx =>
    execWriteArm_reach act unit tag start phase precompOn length sidx s
  | .writeCancel act unit tag => execWriteCancel_reach act unit tag s
  | .biasSet act tag head bias writeCur heater => execBiasSet_reach act tag head bias writeCur heater s
  | .precomp act unit tag entries => execPrecomp_reach act unit tag entries s
  | .assistSet act tag head mode writeCur standby lead tail =>
    execAssistSet_reach act tag head mode writeCur standby lead tail s
  | .headTest act tag head reader writer volt result => execHeadTest_reach act tag head reader writer volt result s
  | .ezpolLoop act tag depth => execEzpolLoop_reach act tag depth s
  | .zhoselIdent tag => execZhoselIdent_reach tag s
  | .zhoselConfig tag period tmo shock retract => execZhoselConfig_reach tag period tmo shock retract s
  | .aux tag onOff => execAux_reach tag onOff s
  | .spinMode tag mode samples limit => execSpinMode_reach tag mode samples limit s
  | .spinTable tag base entries => execSpinTable_reach tag base entries s
  | .spinDrive tag applyLt angle rate ampl lt => execSpinDrive_reach tag applyLt angle rate ampl lt s
  | .vcmEn tag mask limA limB => execVcmEn_reach tag mask limA limB s
  | .maSelect act tag idx0 idx1 => execMaSelect_reach act tag idx0 idx1 s
  | .retract tag mask => execRetract_reach tag mask s
  | .zhoselLoop tag depth rpm => execZhoselLoop_reach tag depth rpm s
  | .spinDriveRefresh lt => execSpinDriveRefresh_reach lt s
  | .speedDemandChange demand => execSpeedDemandChange_reach demand s
  | .targetLower => execTargetLower_reach s
  | .observationEnd => execObservationEnd_reach s
  | .brakeBelow30rpm => execBrakeBelow30rpm_reach s
  | .brakeTimeout => execBrakeTimeout_reach s
  | .alignmentDone => execAlignmentDone_reach s
  | .openLoopRampDone => execOpenLoopRampDone_reach s
  | .handoverTimeout moved => execHandoverTimeout_reach moved s
  | .jCoastEnd riseUs decel => execJCoastEnd_reach riseUs decel s
  | .rotorRecoveryEnd forward now => execRotorRecoveryEnd_reach forward now s
  | .spinUpTimeout => execSpinUpTimeout_reach s
  | .spindleFaultRetry => execSpindleFaultRetry_reach s
  | .servoWedge act u0 u1 inTime => execServoWedge_reach act u0 u1 inTime s
  | .acquisitionTimeout act => execAcquisitionTimeout_reach act s
  | .seek act t0 t1 => execSeek_reach act t0 t1 s
  | .microSeek act unit head target => execMicroSeek_reach act unit head target s
  | .headSwitch act unit head target => execHeadSwitch_reach act unit head target s
  | .servoRevolution act e0 e1 mean => execServoRevolution_reach act e0 e1 mean s
  | .calSave minutes => execCalSave_reach minutes s
  | .shockQuietExpire act => execShockQuietExpire_reach act s
  | .headLoad act lt => execHeadLoad_reach act lt s
  | .loadPulseEnd act lt => execLoadPulseEnd_reach act lt s
  | .loadAcquisitionTimeout act lt now => execLoadAcquisitionTimeout_reach act lt now s
  | .unload act => execUnload_reach act s
  | .mapBackgroundPass act head map => execMapBackgroundPass_reach act head map s
  | .fsqRun n permits sectors fetches => execFsqRun_reach n permits sectors fetches s
  | .missedRevolution n => execMissedRevolution_reach n s
  | .runEnd n => execRunEnd_reach n s
  | .decoderGrant => execDecoderGrant_reach s
  | .decodeEnd engine zero iters payload crc trouble now => execDecodeEnd_reach engine zero iters payload crc trouble now s
  | .retryStoreExpire ch tag sector => execRetryStoreExpire_reach ch tag sector s
  | .referenceDecode good => execReferenceDecode_reach good s
  | .assistCalDue head => execAssistCalDue_reach head s
  | .assistCalibration head scores threshold signs temp monitor =>
    execAssistCalibration_reach head scores threshold signs temp monitor s
  | .stripeLaunch slot => execStripeLaunch_reach slot s
  | .beginDurable slot => execBeginDurable_reach slot s
  | .stripeOnMedia slot => execStripeOnMedia_reach slot s
  | .commitDurable slot => execCommitDurable_reach slot s
  | .journalChestWrite => execJournalChestWrite_reach s
  | .journalBandFlush => execJournalBandFlush_reach s
  | .metadataCheckpoint => execMetadataCheckpoint_reach s
  | .journalBandMove act => execJournalBandMove_reach act s
  | .headRetire head => execHeadRetire_reach head s
  | .degradedRead fsn zone stripe rows afterFurther => execDegradedRead_reach fsn zone stripe rows afterFurther s
  | .rebuildChunk zone lost => execRebuildChunk_reach zone lost s
  | .relocation zone member => execRelocation_reach zone member s
  | .reshape zone => execReshape_reach zone s
  | .reshapeInPlaceChunk zone => execReshapeInPlaceChunk_reach zone s
  | .backgroundErase dev => execBackgroundErase_reach dev s
  | .backgroundEraseDone => execBackgroundEraseDone_reach s
  | .memoryCorrection mem addr clientWrote byScrub => execMemoryCorrection_reach mem addr clientWrote byScrub s
  | .bucketLeak mem => execBucketLeak_reach mem s
  | .trackerAgeOut mem addr => execTrackerAgeOut_reach mem addr s
  | .uncorrectableError mem addr reader region => execUncorrectableError_reach mem addr reader region s
  | .scrubPassStart mem => execScrubPassStart_reach mem s
  | .scrubPassEnd mem => execScrubPassEnd_reach mem s
  | .startSram => execStartSram_reach s
  | .startDram => execStartDram_reach s
  | .flipArm value => execFlipArm_reach value s
  | .refreshRatePoll rates => execRefreshRatePoll_reach rates s
  | .writeAdmission fsn => execWriteAdmission_reach fsn s
  | .descriptorStart n d pcieData => execDescriptorStart_reach n d pcieData s
  | .descriptorDone n pcieErr => execDescriptorDone_reach n pcieErr s
  | .kick n => execKick_reach n s
  | .abort n => execAbort_reach n s
  | .shadowLoad m d => execShadowLoad_reach m d s
  | .streamSetEnd m => execStreamSetEnd_reach m s
  | .eventLinePulse ev => execEventLinePulse_reach ev s
  | .mediaCacheSlotTimeout slot => execMediaCacheSlotTimeout_reach slot s
  | .indexLogBase => execIndexLogBase_reach s
  | .cleaning => execCleaning_reach s
  | .mergeSwitch zone target => execMergeSwitch_reach zone target s
  | .mapCacheMiss unit write => execMapCacheMiss_reach unit write s
  | .mapFillDone k => execMapFillDone_reach k s
  | .mapWritebackDone line => execMapWritebackDone_reach line s
  | .preload value => execPreload_reach value s
  | .unlock value => execUnlock_reach value s
  | .enable onOff => execEnable_reach onOff s
  | .clean => execClean_reach s
  | .sqTailDoorbell qid value => execSqTailDoorbell_reach qid value s
  | .cqHeadDoorbell qid value => execCqHeadDoorbell_reach qid value s
  | .commandFetch sqid e => execCommandFetch_reach sqid e s
  | .readerSnapshot fsn => execReaderSnapshot_reach fsn s
  | .writerCommit fsn current => execWriterCommit_reach fsn current s
  | .completionPost fsn => execCompletionPost_reach fsn s
  | .mediaDispatch ch access now => execMediaDispatch_reach ch access now s
  | .deleteIoSubmissionQueue fsn => execDeleteIoSubmissionQueue_reach fsn s
  | .createIoSubmissionQueue fsn => execCreateIoSubmissionQueue_reach fsn s
  | .getLogPage fsn => execGetLogPage_reach fsn s
  | .deleteIoCompletionQueue fsn => execDeleteIoCompletionQueue_reach fsn s
  | .createIoCompletionQueue fsn => execCreateIoCompletionQueue_reach fsn s
  | .identify fsn => execIdentify_reach fsn s
  | .abortCommand fsn => execAbortCommand_reach fsn s
  | .setFeatures fsn data => execSetFeatures_reach fsn data s
  | .getFeatures fsn => execGetFeatures_reach fsn s
  | .asynchronousEventRequest fsn => execAsynchronousEventRequest_reach fsn s
  | .firmwareImageDownload fsn data => execFirmwareImageDownload_reach fsn data s
  | .firmwareCommit fsn backFallback backPrimary => execFirmwareCommit_reach fsn backFallback backPrimary s
  | .shortSelfTest fsn => execShortSelfTest_reach fsn s
  | .extendedSelfTest fsn => execExtendedSelfTest_reach fsn s
  | .selfTestAbort fsn => execSelfTestAbort_reach fsn s
  | .formatNvm fsn => execFormatNvm_reach fsn s
  | .exitFailureMode fsn => execExitFailureMode_reach fsn s
  | .overwrite fsn => execOverwrite_reach fsn s
  | .overwriteZone => execOverwriteZone_reach s
  | .cryptographicErase fsn => execCryptographicErase_reach fsn s
  | .sanitizeResume => execSanitizeResume_reach s
  | .flush fsn => execFlush_reach fsn s
  | .write fsn data xfer => execWrite_reach fsn data xfer s
  | .read fsn media xfer => execRead_reach fsn media xfer s
  | .writeZeroes fsn => execWriteZeroes_reach fsn s
  | .datasetManagement fsn ranges xfer => execDatasetManagement_reach fsn ranges xfer s
  | .verify fsn media => execVerify_reach fsn media s
  | .zoneOpen fsn => execZoneOpen_reach fsn s
  | .zoneClose fsn => execZoneClose_reach fsn s
  | .zoneFinish fsn => execZoneFinish_reach fsn s
  | .zoneReset fsn => execZoneReset_reach fsn s
  | .zoneManagementReceive fsn => execZoneManagementReceive_reach fsn s
  | .zoneAppend fsn data xfer => execZoneAppend_reach fsn data xfer s
  | .scan fsn => execScan_reach fsn s
  | .peerOut fsn => execPeerOut_reach fsn s
  | .peerIn fsn => execPeerIn_reach fsn s
  | .vendorPiece fsn blocks xfer => execVendorPiece_reach fsn blocks xfer s
  | .ccEnSet cc => execCcEnSet_reach cc s
  | .controllerReset cc => execControllerReset_reach cc s
  | .shutdown cc => execShutdown_reach cc s
  | .intms value => execIntms_reach value s
  | .intmc value => execIntmc_reach value s
  | .hotReset => execHotReset_reach s
  | .pcieLinkDown => execPcieLinkDown_reach s
  | .functionLevelReset => execFunctionLevelReset_reach s
  | .pmeTurnOff => execPmeTurnOff_reach s
  | .d3hotEntry => execD3hotEntry_reach s
  | .d3hotExit => execD3hotExit_reach s
  | .aspmL1Entry => execAspmL1Entry_reach s
  | .pcieError e => execPcieError_reach e s
  | .memoryWindowWrite off data => execMemoryWindowWrite_reach off data s
  | .memoryWindowRead off len => execMemoryWindowRead_reach off len s
  | .doeRequest vendor typ payload => execDoeRequest_reach vendor typ payload s
  | .doeAbort => execDoeAbort_reach s
  | .getVersion => execGetVersion_reach s
  | .getCapabilities version => execGetCapabilities_reach version s
  | .negotiateAlgorithms asym hash measSpec => execNegotiateAlgorithms_reach asym hash measSpec s
  | .getDigests => execGetDigests_reach s
  | .getCertificate slot offset length => execGetCertificate_reach slot offset length s
  | .challenge slot hashType nonce => execChallenge_reach slot hashType nonce s
  | .getMeasurements param1 param2 nonce slot => execGetMeasurements_reach param1 param2 nonce slot s
  | .idleTimerPs1 => execIdleTimerPs1_reach s
  | .idleTimerPs2 => execIdleTimerPs2_reach s
  | .apstTimer => execApstTimer_reach s
  | .ps3Entry => execPs3Entry_reach s
  | .ps4Entry => execPs4Entry_reach s
  | .ps3Exit => execPs3Exit_reach s
  | .ps4Exit => execPs4Exit_reach s
  | .thermalSample r0 r1 r2 r3 => execThermalSample_reach r0 r1 r2 r3 s
  | .chainCommit leafHasDk signaturesOk rootOk => execChainCommit_reach leafHasDk signaturesOk rootOk s
  | .credenzaPersist => execCredenzaPersist_reach s
  | .minuteTick => execMinuteTick_reach s
  | .crdClear => execCrdClear_reach s
  | .persist => execPersist_reach s
  | .burnDs ok => execBurnDs_reach ok s
  | .programKeySlot index ok => execProgramKeySlot_reach index ok s
  | .revokeKeySlot index ok => execRevokeKeySlot_reach index ok s
  | .revokeHoltaleKey index ok => execRevokeHoltaleKey_reach index ok s
  | .hold => execHold_reach s
  | .tstLoopback value => execTstLoopback_reach value s
  | .elkLoopback port value => execElkLoopback_reach port value s
  | .hptLoopback value => execHptLoopback_reach value s
  | .loopbackDone unit errors => execLoopbackDone_reach unit errors s
  | .nstread => execNstread_reach s
  | .apertureAccess off size value => execApertureAccess_reach off size value s
  | .registerWrite space off value => execRegisterWrite_reach space off value s
  | .powerLoss => execPowerLoss_reach s
  | .pcieLinkUp speed width => execPcieLinkUp_reach speed width s
  | .aspmL1Exit => execAspmL1Exit_reach s
  | .interruptCoalescingTime qid => execInterruptCoalescingTime_reach qid s
  | .dramSelfRefreshIdle => execDramSelfRefreshIdle_reach s
  | .loopbackFollower => execLoopbackFollower_reach s
  | .extest drive sample => execExtest_reach drive sample s

/-- Settles O5, command by command. -/
theorem commandsReachOnlyTheirParts : Obligations.CommandsReachOnlyTheirParts :=
  fun c s t ht => exec_reach c s t ht

end Sys2Proof.Machine
end

section
/-!
PROOFS. Register accesses of the host (O57): the diagnostic aperture, and BAR0 (R14, R486, R492).
-/

namespace Sys2Proof.Machine

/-! ### What goes out to the host and what a failing request leaves. -/

/-- Outside D3hot and L2/L3 Ready, what is sent goes out at once (R399, R401). -/
theorem State.send_out (s : State) (o : Out) (hd : s.get Reg.HPT.LINK.DSTATE ≠ 3) (hl : s.get Reg.HPT.LINK.PM_LINK ≠ 4) :
    (s.send o).hpt.out = s.hpt.out ++ [o] := by
  unfold State.send
  rw [if_neg (by simp [hd, hl])]
  dsimp only
  split <;> simp

/-- Sending changes no register field but the link's power state. -/
theorem State.get_send_apart (s : State) (o : Out) (g : Fld) (hg : Reg.HPT.LINK.PM_LINK.apart g = true) :
    (s.send o).get g = s.get g := by
  unfold State.send
  dsimp only
  split
  · rfl
  · split
    · exact State.get_put_apart s _ _ _ hg
    · rfl

theorem State.aerUncor_regs (s : State) (bit : Nat) : (s.aerUncor bit).regs = s.regs := by
  unfold State.aerUncor
  dsimp only
  split <;> simp

/-- An Unsupported Request changes no register field but its counter (R413). -/
theorem State.get_unsup_apart (s : State) (read : Bool) (g : Fld) (hg : Reg.HPT.ERRORS.UR_CA.apart g = true) :
    (s.unsup read).get g = s.get g := by
  have h : ((s.bump Reg.HPT.ERRORS.UR_CA 1).aerUncor 20).get g = s.get g := by
    rw [State.get_congr (State.aerUncor_regs _ _), State.get_bump_apart _ _ _ _ hg]
  unfold State.unsup
  dsimp only
  split <;> exact h

/-! ### Requests that reach the controller. -/

/-- A request that reaches the controller is served. -/
theorem Reachable.memReq_eq {s : State} (h : Reachable s) (read : Bool) (f : State → State) : s.memReq read f = f s := by
  obtain ⟨hup, hd⟩ := h
  simp [State.memReq, hup, hd]

theorem Reachable.exec_apertureAccess {s : State} (h : Reachable s) (off size : Nat) (v : Option Word) :
    exec (.apertureAccess off size v) s = .next (s.aperture off size v) :=
  congrArg Host.Outcome.next (h.memReq_eq _ _)

theorem Reachable.exec_blockWrite {s : State} (h : Reachable s) (slot : Fin 26) (off : Nat) (w : Word) :
    exec (.registerWrite (.block slot) off w) s = .next (s.aperture (slot.val * 0x10000 + off % 0x10000) 4 (some w)) :=
  congrArg Host.Outcome.next (h.memReq_eq _ _)

theorem Reachable.exec_bar0Write {s : State} (h : Reachable s) (off : Nat) (w : Word) :
    exec (.registerWrite .bar0 off w) s =
      .next (if off % 4 ≠ 0 ∨ off ≥ 0x4000 then s.unsup false else s.bar0Write off w) :=
  congrArg Host.Outcome.next (h.memReq_eq _ _)

/-! ### The aperture (R486). -/

theorem State.aperture_closed (s : State) {off : Nat} (h : s.mfg = false ∨ 0x4000000 ≤ off) (size : Nat) (v : Option Word) :
    s.aperture off size v = s.unsup v.isNone := by
  unfold State.aperture
  rw [if_pos (by simpa using h)]

theorem State.aperture_misaligned {s : State} (hm : s.mfg = true) {off size : Nat} (ho : off < 0x4000000)
    (h : size ≠ 4 ∨ off % 4 ≠ 0) (v : Option Word) :
    s.aperture off size v = (s.unsup v.isNone).bump Reg.TST.APERTURE.UR 1 := by
  unfold State.aperture
  rw [if_neg (by simp [hm, ho]), if_pos h]

section
variable {s : State} (hm : s.mfg = true) {slot off : Nat} (hs : slot < 0x400) (ho : off < 0x10000) (h4 : off % 4 = 0)
include hm hs ho h4

theorem State.aperture_read :
    s.aperture (slot * 0x10000 + off) 4 none =
      if slot ≥ 0x1A then s.send (.readData (zeros 4))
      else if s.blockDown slot then (s.bump Reg.TST.APERTURE.DROPPED 1).send (.readData (List.replicate 4 0xFF))
      else (s.apRead slot off).2.send (.readData (toLe 4 (s.apRead slot off).1.toNat)) := by
  have hq : (slot * 0x10000 + off) / 0x10000 = slot := by omega
  have hr : (slot * 0x10000 + off) % 0x10000 = off := by omega
  unfold State.aperture
  rw [if_neg (by simp [hm]; omega), if_neg (by omega), hq, hr]

theorem State.aperture_write (w : Word) :
    s.aperture (slot * 0x10000 + off) 4 (some w) =
      if slot ≥ 0x1A then s else if s.blockDown slot then s.bump Reg.TST.APERTURE.DROPPED 1 else s.apWrite slot off w := by
  have hq : (slot * 0x10000 + off) / 0x10000 = slot := by omega
  have hr : (slot * 0x10000 + off) % 0x10000 = off := by omega
  unfold State.aperture
  rw [if_neg (by simp [hm]; omega), if_neg (by omega), hq, hr]

end

/-! ### Reads. -/

theorem State.readReg_hpt (s : State) (slot off : Nat) : (s.readReg slot off).2.hpt = s.hpt := by
  unfold State.readReg
  split <;> rfl

theorem State.readReg_unlisted (s : State) {slot off : Nat} (h : Reg.row? slot off = none) : (s.readReg slot off).1 = 0 := by
  simp [State.readReg, h]

/-- A register none of whose fields is computed reads as the word held. -/
theorem State.readReg_held (s : State) {slot off : Nat} (hv : s.view slot = []) (h : (Reg.row? slot off).isSome = true) :
    (s.readReg slot off).1 = s.regs.word (Reg.key slot off) := by
  obtain ⟨r, hr⟩ := Option.isSome_iff_exists.1 h
  simp [State.readReg, hr, State.shown, hv]

/-- A read leaves a field whose register has no bit that a read clears. -/
theorem State.get_readReg (s : State) (slot off : Nat) (g : Fld)
    (hg : ∀ r, Reg.row? slot off = some r → Reg.key slot off = g.key → r.rc = 0) : (s.readReg slot off).2.get g = s.get g := by
  unfold State.readReg
  split
  · rfl
  · next r hr =>
    simp only [State.get, RegFile.get, RegFile.word_setWord]
    split
    · next hk =>
      have hw (w : Word) : r.afterRead w = w := by
        rw [RegRow.afterRead, hg r hr hk.symm, BitVec.not_zero, BitVec.and_allOnes]
      rw [hk, hw]
    · rfl

/-- No bit of HPT.LINK clears on a read. -/
theorem link_row_rc {slot off : Nat} (ho : off < 0x10000) (r : RegRow) (hr : Reg.row? slot off = some r)
    (hk : Reg.key slot off = Reg.key 8 0) : r.rc = 0 := by
  have hslot : slot = 8 := by unfold Reg.key at hk; omega
  have hoff : off = 0 := by unfold Reg.key at hk; omega
  subst hslot hoff
  have h : Reg.row? 8 0 = some ⟨8, 0x000, 0x0, 1, 0x0, 0x0, 0x0, 0x0, 0x67FF, 0x0, 0x67FF, 0x0⟩ := by decide
  rw [h] at hr
  cases hr
  rfl

theorem State.apRead_eq_readReg (s : State) {slot : Nat} (h3 : slot ≠ 3) (h6 : slot ≠ 6) (off : Nat) :
    s.apRead slot off = s.readReg slot off := by
  simp [State.apRead, h3, h6]

/-! ### Writes. -/

/-- The slots of which every register follows its Access column: no write of them starts anything. -/
def plainSlots : List Nat :=
  [0x01, 0x02, 0x05, 0x07, 0x09, 0x0B, 0x0E, 0x0F, 0x10, 0x11, 0x12, 0x13, 0x14, 0x15, 0x18, 0x19]

theorem State.apWrite_plain (s : State) {slot : Nat} (h : slot ∈ plainSlots) (off : Nat) (w : Word) :
    s.apWrite slot off w = s.writeMasked slot off w := by
  have hne : ∀ n ∈ plainSlots, n ≠ 0 ∧ n ≠ 3 ∧ n ≠ 4 ∧ n ≠ 6 ∧ n ≠ 8 ∧ n ≠ 0xA ∧ n ≠ 0xC ∧ n ≠ 0xD ∧ n ≠ 0x16 ∧
      n ≠ 0x17 := by decide
  simp [State.apWrite, hne slot h]

theorem State.word_writeMasked (s : State) {slot off : Nat} {r : RegRow} (h : Reg.row? slot off = some r) (w : Word) :
    (s.writeMasked slot off w).regs.word (Reg.key slot off) = r.write (s.regs.word (Reg.key slot off)) w := by
  simp [State.writeMasked, h, RegFile.word_setWord]

/-! ### The fuse digest buffer (R492). -/

theorem assocGet_assocPut {κ α : Type} [DecidableEq κ] (d : α) (l : List (κ × α)) (x : κ) (v : α) (y : κ) :
    assocGet d (assocPut l x v) y = if y = x then v else assocGet d l y := by
  induction l with
  | nil => simp [assocPut, assocGet]
  | cons e t ih =>
    obtain ⟨k, u⟩ := e
    unfold assocPut
    split
    · next h => subst h; simp only [assocGet]; split <;> rfl
    · next h =>
      simp only [assocGet, ih]
      split
      · next hy => subst hy; rw [if_neg (Ne.symm h)]
      · rfl

/-- A byte of a table after a write of a word: the word's own byte, or what it was. -/
theorem assocGet_putWord (l : List (Nat × Byte)) (i : Nat) (w : Word) (k : Nat) :
    assocGet 0 (putWord l i w) k =
      if i ≤ k ∧ k < i + 4 then (toLe 4 w.toNat).getD (k - i) 0 else assocGet 0 l k := by
  have hr : List.range 4 = [0, 1, 2, 3] := rfl
  simp only [putWord, hr, List.foldl_cons, List.foldl_nil, assocGet_assocPut]
  by_cases h : i ≤ k ∧ k < i + 4
  · rw [if_pos h]
    obtain ⟨j, rfl⟩ := Nat.exists_eq_add_of_le h.1
    have hj : j < 4 := by omega
    interval_cases j <;> simp [toLe, Nat.div_div_eq_div_mul]
  · rw [if_neg h, if_neg (by omega), if_neg (by omega), if_neg (by omega), if_neg (by omega)]

theorem State.fuseDigest_getD (s : State) {k : Nat} (hk : k < 48) : s.fuseDigest.getD k 0 = assocGet 0 s.tst.digest k := by
  simp [State.fuseDigest, List.getD, hk]

theorem State.apWrite_digest (s : State) {i : Nat} (hi : i < 12) (w : Word) :
    s.apWrite 6 (0x100 + 4 * i) w = s.digestWord (4 * i) w := by
  have h0 : 0x100 + 4 * i ≠ 0 := by omega
  have h1 : 0x100 + 4 * i ≠ 4 := by omega
  have h2 : 0x100 + 4 * i ≠ 0xC := by omega
  have h3 : 0x100 + 4 * i < 0x130 := by omega
  simp [State.apWrite, h1, h2, h3]

/-! ### BAR0 (R395 to R397). -/

theorem State.bar0Write_sqTail (s : State) {n : Nat} (hn : n < 65) (w : Word) :
    s.bar0Write (0x1000 + 8 * n) w = s.via (execSqTailDoorbell n w s) := by
  have hr : 0x1000 + 8 * n < 0x1208 := by omega
  have hq : 8 * n / 8 = n := by omega
  have h4 : (0x1000 + 8 * n) % 8 = 0 := by omega
  unfold State.bar0Write
  dsimp only
  repeat rw [if_neg (by omega)]
  rw [if_pos ⟨by omega, hr⟩, if_pos h4, Nat.add_sub_cancel_left, hq]

theorem State.bar0Write_cqHead (s : State) {n : Nat} (hn : n < 65) (w : Word) :
    s.bar0Write (0x1004 + 8 * n) w = s.via (execCqHeadDoorbell n w s) := by
  have hr : 0x1004 + 8 * n < 0x1208 := by omega
  have hq : (0x1004 + 8 * n - 0x1000) / 8 = n := by omega
  unfold State.bar0Write
  dsimp only
  repeat rw [if_neg (by omega)]
  rw [if_pos ⟨by omega, hr⟩, if_neg (by omega), hq]

/-- A write of a BAR0 register that lies in BAR0 and is aligned. -/
theorem Reachable.exec_bar0Write_aligned {s : State} (h : Reachable s) {off : Nat} (h4 : off % 4 = 0) (ho : off < 0x4000)
    (w : Word) : exec (.registerWrite .bar0 off w) s = .next (s.bar0Write off w) := by
  rw [h.exec_bar0Write, if_neg (by omega)]

/-! ### O57, clause by clause. -/

theorem Reachable.exec_closed {s : State} (h : Reachable s) {off : Nat} (hc : s.mfg = false ∨ 0x4000000 ≤ off) (size : Nat)
    (v : Option Word) : exec (.apertureAccess off size v) s = .next (s.unsup v.isNone) := by
  rw [h.exec_apertureAccess, State.aperture_closed s hc]

theorem Reachable.exec_misaligned {s : State} (h : Reachable s) (hm : s.mfg = true) {off size : Nat} (ho : off < 0x4000000)
    (hb : size ≠ 4 ∨ off % 4 ≠ 0) (v : Option Word) :
    Goes (exec (.apertureAccess off size v) s) fun t =>
      t.get Reg.TST.APERTURE.UR = min (s.get Reg.TST.APERTURE.UR + 1) (2 ^ Reg.TST.APERTURE.UR.width - 1) := by
  rw [h.exec_apertureAccess, State.aperture_misaligned hm ho hb, Goes_next, State.get_bump_self _ _ _ (by decide),
    State.get_unsup_apart _ _ _ (by decide)]

theorem Reachable.exec_unlistedSlot {s : State} (h : Reachable s) (hm : s.mfg = true) {slot off : Nat} (hs : slot < 0x400)
    (hge : 0x1A ≤ slot) (ho : off < 0x10000) (h4 : off % 4 = 0) (w : Word) :
    exec (.apertureAccess (slot * 0x10000 + off) 4 none) s = .next (s.send (.readData [0, 0, 0, 0])) ∧
    exec (.apertureAccess (slot * 0x10000 + off) 4 (some w)) s = .next s := by
  rw [h.exec_apertureAccess, h.exec_apertureAccess, State.aperture_read hm hs ho h4, State.aperture_write hm hs ho h4,
    if_pos hge, if_pos hge]
  exact ⟨rfl, rfl⟩

theorem Reachable.exec_write_down {s : State} (h : Reachable s) (hm : s.mfg = true) {slot off : Nat} (hs : slot < 0x1A)
    (ho : off < 0x10000) (h4 : off % 4 = 0) (hb : s.blockDown slot = true) (w : Word) :
    exec (.apertureAccess (slot * 0x10000 + off) 4 (some w)) s = .next (s.bump Reg.TST.APERTURE.DROPPED 1) := by
  rw [h.exec_apertureAccess, State.aperture_write hm (by omega) ho h4, if_neg (by omega), if_pos hb]

theorem Reachable.exec_read_down {s : State} (h : Reachable s) (hm : s.mfg = true) {slot off : Nat} (hs : slot < 0x1A)
    (ho : off < 0x10000) (h4 : off % 4 = 0) (hb : s.blockDown slot = true) :
    Goes (exec (.apertureAccess (slot * 0x10000 + off) 4 none) s) fun t =>
      t.get Reg.TST.APERTURE.DROPPED = min (s.get Reg.TST.APERTURE.DROPPED + 1) (2 ^ Reg.TST.APERTURE.DROPPED.width - 1) ∧
      (s.get Reg.HPT.LINK.PM_LINK ≠ 4 → t.hpt.out = s.hpt.out ++ [.readData [0xFF, 0xFF, 0xFF, 0xFF]]) := by
  rw [h.exec_apertureAccess, State.aperture_read hm (by omega) ho h4, if_neg (by omega), if_pos hb, Goes_next]
  refine ⟨?_, fun hl => ?_⟩
  · rw [State.get_send_apart _ _ _ (by decide), State.get_bump_self _ _ _ (by decide)]
  · rw [State.send_out, State.bump_hpt]
    · rfl
    · rw [State.get_bump_apart _ _ _ _ (by decide)]; exact h.2
    · rw [State.get_bump_apart _ _ _ _ (by decide)]; exact hl

theorem Reachable.exec_read_register {s : State} (h : Reachable s) (hm : s.mfg = true) {slot off : Nat} (hs : slot < 0x1A)
    (h3 : slot ≠ 3) (h6 : slot ≠ 6) (ho : off < 0x10000) (h4 : off % 4 = 0) (hb : s.blockDown slot = false)
    (hl : s.get Reg.HPT.LINK.PM_LINK ≠ 4) :
    Goes (exec (.apertureAccess (slot * 0x10000 + off) 4 none) s) fun t =>
      ∃ r : Word, t.hpt.out = s.hpt.out ++ [.readData (toLe 4 r.toNat)] ∧
        (s.view slot = [] → (Reg.row? slot off).isSome = true → r = s.regs.word (Reg.key slot off)) ∧
        (Reg.row? slot off = none → r = 0) := by
  rw [h.exec_apertureAccess, State.aperture_read hm (by omega) ho h4, if_neg (by omega), if_neg (by simp [hb]), Goes_next,
    State.apRead_eq_readReg s h3 h6]
  have hget (g : Fld) (hg : g.key = Reg.key 8 0) : (s.readReg slot off).2.get g = s.get g :=
    State.get_readReg s slot off g fun r hr hk => link_row_rc ho r hr (hk.trans hg)
  refine ⟨(s.readReg slot off).1, ?_, State.readReg_held s, State.readReg_unlisted s⟩
  rw [State.send_out, State.readReg_hpt]
  · rw [hget Reg.HPT.LINK.DSTATE rfl]; exact h.2
  · rw [hget Reg.HPT.LINK.PM_LINK rfl]; exact hl

theorem Reachable.exec_write_plain {s : State} (h : Reachable s) (hm : s.mfg = true) {slot off : Nat} (hs : slot ∈ plainSlots)
    (ho : off < 0x10000) (h4 : off % 4 = 0) (hb : s.blockDown slot = false) (w : Word) :
    exec (.apertureAccess (slot * 0x10000 + off) 4 (some w)) s = .next (s.writeMasked slot off w) ∧
    exec (.registerWrite (.block (Fin.ofNat 26 slot)) off w) s = .next (s.writeMasked slot off w) := by
  have hlt : slot < 0x1A := (by decide : ∀ n ∈ plainSlots, n < 0x1A) slot hs
  have hw : s.aperture (slot * 0x10000 + off) 4 (some w) = s.writeMasked slot off w := by
    rw [State.aperture_write hm (by omega) ho h4, if_neg (by omega), if_neg (by simp [hb]), State.apWrite_plain s hs]
  constructor
  · rw [h.exec_apertureAccess, hw]
  · rw [h.exec_blockWrite, Fin.val_ofNat, Nat.mod_eq_of_lt hlt, Nat.mod_eq_of_lt ho, hw]

theorem Reachable.exec_write_digest {s : State} (h : Reachable s) (hm : s.mfg = true) (hb : s.blockDown 6 = false) {i : Nat}
    (hi : i < 12) (w : Word) :
    Goes (exec (.apertureAccess (0x60100 + 4 * i) 4 (some w)) s) fun t => t.fuses = s.fuses ∧ t.regs = s.regs ∧
      ∀ k < 48, t.fuseDigest.getD k 0 = if 4 * i ≤ k ∧ k < 4 * i + 4 then (toLe 4 w.toNat).getD (k - 4 * i) 0
        else s.fuseDigest.getD k 0 := by
  have ha : 0x60100 + 4 * i = 6 * 0x10000 + (0x100 + 4 * i) := by omega
  rw [h.exec_apertureAccess, ha, State.aperture_write hm (by omega) (by omega) (by omega), if_neg (by omega),
    if_neg (by simp [hb]), State.apWrite_digest s hi, Goes_next]
  refine ⟨rfl, rfl, fun k hk => ?_⟩
  rw [State.fuseDigest_getD _ hk, State.fuseDigest_getD _ hk]
  exact assocGet_putWord _ _ _ _

theorem Reachable.exec_bar0_command {s : State} (h : Reachable s) (w : Word) :
    ∀ i ∈ [(0x0C, Instr.intms w), (0x10, .intmc w), (0x20, .nssr w)],
      exec (.registerWrite .bar0 i.1 w) s = .next (s.via (exec i.2 s)) := by
  simp only [List.forall_mem_cons]
  refine ⟨?_, ?_, ?_, by simp⟩ <;> rw [h.exec_bar0Write_aligned (by decide) (by decide)] <;> rfl

theorem Reachable.exec_bar0_sqTail {s : State} (h : Reachable s) {n : Nat} (hn : n < 65) (w : Word) :
    exec (.registerWrite .bar0 (0x1000 + 8 * n) w) s = .next (s.via (exec (.sqTailDoorbell n w) s)) := by
  rw [h.exec_bar0Write_aligned (by omega) (by omega), State.bar0Write_sqTail s hn]
  rfl

theorem Reachable.exec_bar0_cqHead {s : State} (h : Reachable s) {n : Nat} (hn : n < 65) (w : Word) :
    exec (.registerWrite .bar0 (0x1004 + 8 * n) w) s = .next (s.via (exec (.cqHeadDoorbell n w) s)) := by
  rw [h.exec_bar0Write_aligned (by omega) (by omega), State.bar0Write_cqHead s hn]
  rfl

theorem Reachable.exec_bar0_aqa {s : State} (h : Reachable s) (w : Word) :
    Goes (exec (.registerWrite .bar0 0x24 w) s) fun t => t.cqu.nvme.aqa = w &&& 0x0FFF0FFF := by
  rw [h.exec_bar0Write_aligned (by decide) (by decide), Goes_next]
  rfl

theorem Reachable.exec_bar0_beyond {s : State} (h : Reachable s) {off : Nat} (ho : 0x4000 ≤ off) (w : Word) :
    exec (.registerWrite .bar0 off w) s = .next (s.unsup false) := by
  rw [h.exec_bar0Write, if_pos (Or.inr ho)]

/-- Settles O57: a request that reaches the controller is served by `State.aperture` or `State.bar0Write`, and each clause is one
of their branches. -/
theorem hostReachesRegisters : Obligations.HostReachesRegisters := by
  unfold Obligations.HostReachesRegisters
  intro s h
  refine ⟨fun off size v hc => ⟨h.exec_closed hc size none, h.exec_closed hc size (some v)⟩,
    fun hm => ⟨fun off size w ho hb => h.exec_misaligned hm ho hb w, fun slot off hs ho h4 w => ?block,
      fun hb i w hi => h.exec_write_digest hm hb hi w⟩,
    fun off w _ => ?bar0⟩
  case block =>
    refine ⟨fun hge => h.exec_unlistedSlot hm hs hge ho h4 w,
      fun hlt hb => ⟨h.exec_read_down hm hlt ho h4 hb, h.exec_write_down hm hlt ho h4 hb w⟩,
      fun hlt h3 h6 hb hl => h.exec_read_register hm hlt h3 h6 ho h4 hb hl, fun hp hb => ?_⟩
    obtain ⟨hap, hblk⟩ := h.exec_write_plain hm hp ho h4 hb w
    exact ⟨hap, hblk, fun r hr => State.word_writeMasked s hr w⟩
  case bar0 =>
    refine ⟨fun i hi e => ?_, fun n hn => ⟨fun e => ?_, fun e => ?_⟩, fun e => ?_, fun ho => h.exec_bar0_beyond ho w⟩
    · exact e ▸ h.exec_bar0_command w i hi
    · exact e ▸ h.exec_bar0_sqTail hn w
    · exact e ▸ h.exec_bar0_cqHead hn w
    · exact e ▸ h.exec_bar0_aqa w

end Sys2Proof.Machine
end

section
/-!
PROOFS. Accesses of the host through the memory window (O47): what a staging line holds, and what a byte written to it or a fill
leaves of the window (R29, R299, R414).
-/

namespace Sys2Proof.Machine

/-! ### The data of a window line. -/

/-- The 256 bytes of a line of the window: the staging line's, else the DRAM's (R414). -/
def State.winData (s : State) (n : Nat) : Bytes :=
  match s.buf.lines.find? fun l => l.line == n with
  | some l => l.data
  | none => s.bytes .dram (windowBase + n * 256) 256

/-- The staging lines with one line made the most recently used, in place of any other of its number. -/
def State.withLine (s : State) (l : WinLine) : State :=
  { s with buf := { s.buf with lines := s.buf.lines.filter (fun x => x.line != l.line) ++ [l] } }

theorem State.winData_staged {s : State} {n : Nat} {l : WinLine} (h : s.buf.lines.find? (fun l => l.line == n) = some l) :
    s.winData n = l.data := by
  simp only [State.winData, h]

theorem State.winData_unstaged {s : State} {n : Nat} (h : s.buf.lines.find? (fun l => l.line == n) = none) :
    s.winData n = s.bytes .dram (windowBase + n * 256) 256 := by
  simp only [State.winData, h]

theorem State.getD_bytes (s : State) (m : Mem) (a : Nat) {i n : Nat} (h : i < n) : (s.bytes m a n).getD i 0 = s.byte m (a + i) := by
  simp [State.bytes, Sparse.getRun, State.byte, h]

/-- A byte of the window is a byte of its line. -/
theorem State.winGet_eq (s : State) (a : Nat) : s.winGet a = (s.winData (a / 256)).getD (a % 256) 0 := by
  cases h : s.buf.lines.find? fun l => l.line == a / 256 with
  | some l => simp only [State.winGet, State.winData_staged h, h]
  | none =>
    have ha : windowBase + a / 256 * 256 + a % 256 = windowBase + a := by omega
    simp only [State.winGet, State.winData_unstaged h, h, State.getD_bytes s .dram _ (Nat.mod_lt a (by decide : 256 > 0)), ha]

/-- The window reads as its staging lines and the memories say, whatever the rest of the state. -/
theorem State.winGet_congr {s t : State} (h : t.buf = s.buf) (a : Nat) : t.winGet a = s.winGet a := by
  simp only [State.winGet, State.byte, State.cells, h]

theorem State.winData_length {s : State} (h : ∀ l ∈ s.buf.lines, l.data.length = 256) (n : Nat) :
    (s.winData n).length = 256 := by
  cases hl : s.buf.lines.find? fun l => l.line == n with
  | some l => rw [State.winData_staged hl, h l (List.mem_of_find?_eq_some hl)]
  | none => simp [State.winData_unstaged hl, State.bytes, Sparse.getRun]

theorem State.winData_withLine (s : State) (l : WinLine) (m : Nat) :
    (s.withLine l).winData m = if m = l.line then l.data else s.winData m := by
  by_cases hm : m = l.line
  · subst hm
    have hnone : (s.buf.lines.filter fun x => x.line != l.line).find? (fun x => x.line == l.line) = none := by simp
    simp [State.winData, State.withLine, List.find?_append, hnone]
  · have hkeep : (s.buf.lines.filter fun x => x.line != l.line).find? (fun x => x.line == m) =
        s.buf.lines.find? fun x => x.line == m := by
      rw [List.find?_filter]
      congr 1
      funext x
      by_cases hx : x.line = m <;> simp [hx, hm]
    simp only [State.winData, State.withLine, List.find?_append, hkeep, if_neg hm]
    have hl : [l].find? (fun x => x.line == m) = none := by simp [Ne.symm hm]
    rw [hl, Option.or_none]
    rfl

/-! ### What touching a line and writing a byte do, while a staging line is free. -/

/-- A touched line keeps its data and becomes the most recently used (R299, R414). -/
theorem State.winLine_eq {s : State} (h : s.buf.lines.length < 4096) (n : Nat) :
    ∃ dirty, s.winLine n = s.withLine ⟨n, dirty, s.winData n⟩ := by
  cases hl : s.buf.lines.find? fun l => l.line == n with
  | some l =>
    obtain rfl : l.line = n := by simpa using List.find?_some hl
    exact ⟨l.dirty, by simp only [State.winLine, hl, State.winData_staged hl, State.withLine]⟩
  | none =>
    have hall : s.buf.lines.filter (fun x => x.line != n) = s.buf.lines :=
      List.filter_eq_self.2 fun x hx => by simpa using List.find?_eq_none.1 hl x hx
    exact ⟨false, by simp only [State.winLine, hl, if_pos h, State.winData_unstaged hl, State.withLine, hall]⟩

/-- A byte written goes into its line, which becomes dirty. -/
theorem State.winByte_eq {s : State} (h : s.buf.lines.length < 4096) (off : Nat) (b : Byte) :
    s.winByte off b = s.withLine ⟨off / 256, true, (s.winData (off / 256)).set (off % 256) b⟩ := by
  obtain ⟨dirty, hd⟩ := State.winLine_eq h (off / 256)
  have hrest : (s.buf.lines.filter fun x => x.line != off / 256).map (fun l =>
      if l.line = off / 256 then { l with dirty := true, data := l.data.set (off % 256) b } else l) =
      s.buf.lines.filter fun x => x.line != off / 256 :=
    (List.map_congr_left fun x hx => if_neg (by simpa using (List.mem_filter.1 hx).2)).trans (List.map_id' _)
  simp only [State.winByte, hd, State.withLine, List.map_append, hrest, List.map_singleton, if_true]

theorem State.winGet_winLine {s : State} (h : s.buf.lines.length < 4096) (n a : Nat) :
    (s.winLine n).winGet a = s.winGet a := by
  obtain ⟨dirty, hd⟩ := State.winLine_eq h n
  rw [State.winGet_eq, State.winGet_eq, hd, State.winData_withLine]
  split
  · next ha => rw [ha]
  · rfl

/-- A byte written is what its offset then reads, and every other byte reads as before (R414). -/
theorem State.winGet_winByte {s : State} (h : s.buf.lines.length < 4096) (hlen : ∀ l ∈ s.buf.lines, l.data.length = 256)
    (off : Nat) (b : Byte) (a : Nat) : (s.winByte off b).winGet a = if a = off then b else s.winGet a := by
  have hoff : off % 256 < (s.winData (off / 256)).length := by
    rw [State.winData_length hlen]; exact Nat.mod_lt _ (by decide)
  rw [State.winGet_eq, State.winGet_eq, State.winByte_eq h, State.winData_withLine]
  by_cases hline : a / 256 = off / 256
  · rw [if_pos hline, hline, List.getD_eq_getElem?_getD, List.getElem?_set, List.getD_eq_getElem?_getD]
    by_cases ha : a = off
    · simp [ha, hoff]
    · rw [if_neg (by omega), if_neg ha]
  · rw [if_neg hline, if_neg (by rintro rfl; exact hline rfl)]

/-! ### A memory without corruption. -/

theorem State.readCorrections_noFlips {s : State} (h : s.buf.flips = []) (m : Mem) (a n : Nat) :
    s.readCorrections m a n = s := by
  simp [State.readCorrections, h]

theorem State.fillBad_noFlips {s : State} (h : s.buf.flips = []) (n : Nat) : s.fillBad n = false := by
  simp [State.fillBad, State.firstBad, h, minNat?]

theorem State.winFill_noFlips {s : State} (h : s.buf.flips = []) (n : Nat) : s.winFill n = s.winLine n := by
  simp [State.winFill, State.readCorrections_noFlips h]

/-! ### What an Unsupported Request leaves. -/

theorem State.unsup_buf (s : State) (read : Bool) : (s.unsup read).buf = s.buf :=
  (State.unsup_only (qz := [.regs, .hpt, .freeCount]) s read (Only.refl _ s) rfl rfl rfl).buf rfl

theorem State.aerUncor_out (s : State) (bit : Nat) : (s.aerUncor bit).hpt.out = s.hpt.out := by
  unfold State.aerUncor
  dsimp only
  split <;> rfl

/-- A read that is an Unsupported Request is answered so (R408). -/
theorem State.unsup_read_out (s : State) : (s.unsup true).hpt.out = s.hpt.out ++ [.unsupported] := by
  have h : ((s.bump Reg.HPT.ERRORS.UR_CA 1).aerUncor 20).hpt.out = s.hpt.out := State.aerUncor_out _ _
  simp only [State.unsup, if_true, h]

/-- A write that is an Unsupported Request is counted (R413). -/
theorem State.get_unsup_write (s : State) : (s.unsup false).get Reg.HPT.ERRORS.UR_CA =
    min (s.get Reg.HPT.ERRORS.UR_CA + 1) (2 ^ Reg.HPT.ERRORS.UR_CA.width - 1) :=
  (State.get_congr (State.aerUncor_regs _ _) _).trans (State.get_bump_self _ _ _ (by decide))

/-! ### Window accesses that reach the controller. -/

theorem Reachable.exec_windowWrite {s : State} (h : Reachable s) (off : Nat) (d : Bytes) :
    exec (.memoryWindowWrite off d) s = .next (if s.inWindow off d.length then s.winWrite off d else s.unsup false) :=
  congrArg Host.Outcome.next (h.memReq_eq _ _)

theorem Reachable.exec_windowRead_outside {s : State} (h : Reachable s) {off n : Nat} (hw : s.inWindow off n = false) :
    exec (.memoryWindowRead off n) s = .next (s.unsup true) :=
  congrArg Host.Outcome.next ((h.memReq_eq _ _).trans (if_pos (by simp [hw])))

/-- A byte read from an uncorrupted window touches its line and is sent to the host. -/
theorem Reachable.exec_windowRead_byte {s : State} (h : Reachable s) (hf : s.buf.flips = []) {off : Nat}
    (hw : s.inWindow off 1 = true) : exec (.memoryWindowRead off 1) s =
      .next ((s.winLine (off / 256)).send (.readData [(s.winLine (off / 256)).winGet off])) := by
  have hlines : winLines off 1 = [off / 256] := by simp [winLines]
  have hfind : (winLines off 1).find? (fun l => s.fillBad l) = none := by simp [State.fillBad_noFlips hf]
  refine congrArg Host.Outcome.next ((h.memReq_eq _ _).trans ?_)
  simp only [hw, Bool.not_true, Bool.false_eq_true, if_false, hfind]
  simp [hlines, State.winFill_noFlips hf, State.winRead]

/-- Settles O47: a byte written goes into its staging line, a fill keeps what the window reads, and an access outside the window is
an Unsupported Request. -/
theorem windowAccess : Obligations.WindowAccess := by
  unfold Obligations.WindowAccess
  intro s h hf hroom hlen
  refine ⟨fun off b hw => ?write, fun off d hw => ?writeOutside, fun off hw hpm => ?read, fun off n hw => ?readOutside⟩
  case write =>
    rw [h.exec_windowWrite, List.length_singleton, if_pos hw, Goes_next]
    exact State.winGet_winByte hroom hlen off b
  case writeOutside =>
    rw [h.exec_windowWrite, hw, Goes_next]
    exact ⟨State.unsup_buf s false, State.get_unsup_write s⟩
  case read =>
    obtain ⟨dirty, hd⟩ := State.winLine_eq hroom (off / 256)
    rw [h.exec_windowRead_byte hf hw, Goes_next, State.winGet_winLine hroom]
    refine ⟨?_, fun a => ?_⟩
    · rw [hd]
      exact State.send_out _ _ h.2 hpm
    · rw [State.winGet_congr (State.send_buf _ _), State.winGet_winLine hroom]
  case readOutside =>
    rw [h.exec_windowRead_outside hw, Goes_next]
    exact ⟨State.unsup_read_out s, State.unsup_buf s true⟩

end Sys2Proof.Machine
end

section
/-!
PROOFS. The images read from the boot NOR (O12): which copy of the option image ends P3, and which firmware image is loaded (R67,
R74, R84, R87).
-/

namespace Sys2Proof.Machine

/-! ### Fields left as they were. -/

theorem OnlyFields.trans {fs gs : List Fld} {s t u : State} (h : OnlyFields fs s t) (k : OnlyFields gs t u) :
    OnlyFields (fs ++ gs) s u := fun g hg =>
  (k g fun f hf => hg f (List.mem_append_right fs hf)).trans (h g fun f hf => hg f (List.mem_append_left gs hf))

theorem State.flag_congr {s t : State} {f : Fld} (h : t.get f = s.get f) : t.flag f = s.flag f := congrArg (· != 0) h

/-! ### Phases and boot codes (R63). -/

theorem State.inPhase_phase {s : State} {n : Nat} (h : s.inPhase n = true) : s.phase = n := by
  simp only [State.inPhase, Bool.and_eq_true, beq_iff_eq] at h
  obtain ⟨⟨-, hphase⟩, -⟩ := h
  exact hphase

/-- The fields of BOOT_STATUS that a code can change. -/
def bootCodeFlds : List Fld :=
  [Reg.NST.BOOT_STATUS.HALTED, Reg.NST.BOOT_STATUS.HELD, Reg.NST.BOOT_STATUS.NOTED, Reg.NST.BOOT_STATUS.CODE,
    Reg.NST.BOOT_STATUS.UNIT]

theorem State.bootCode_onlyFields (s : State) (sev code unit : Nat) : OnlyFields bootCodeFlds s (s.bootCode sev code unit) := by
  intro g hg
  simp only [bootCodeFlds, List.forall_mem_cons] at hg
  obtain ⟨hhalted, hheld, hnoted, hcode, hunit, -⟩ := hg
  have hbit : Fld.apart (if sev = 3 then Reg.NST.BOOT_STATUS.HALTED else if sev = 2 then Reg.NST.BOOT_STATUS.HELD
      else Reg.NST.BOOT_STATUS.NOTED) g = true := by
    split
    · exact hhalted
    · split
      · exact hheld
      · exact hnoted
  have h1 := fun v => State.get_put_apart s _ g v hbit
  unfold State.bootCode
  dsimp only
  split
  · rw [State.get_put_apart _ _ _ _ hunit, State.get_put_apart _ _ _ _ hcode]
    exact h1 1
  · exact h1 1

/-- A code changes nothing of the start but the severity of the code that stands. -/
theorem State.bootCode_start (s : State) (sev code unit : Nat) :
    ∃ n, (s.bootCode sev code unit).start = { s.start with sev := n } := by
  unfold State.bootCode
  dsimp only
  split
  · exact ⟨sev, by simp⟩
  · exact ⟨s.start.sev, by simp⟩

@[simp] theorem State.bootCode_recovery (s : State) (sev code unit : Nat) :
    (s.bootCode sev code unit).start.recovery = s.start.recovery := by
  obtain ⟨n, h⟩ := s.bootCode_start sev code unit
  rw [h]

/-- A hold shows as such (R58). -/
theorem State.get_hold_held (s : State) (code unit : Nat) : (s.hold code unit).get Reg.NST.BOOT_STATUS.HELD = 1 := by
  have h1 : (s.put Reg.NST.BOOT_STATUS.HELD 1).get Reg.NST.BOOT_STATUS.HELD = 1 := State.get_put_self s _ _ (by decide)
  unfold State.hold State.bootCode
  dsimp only
  split
  · rw [State.get_put_apart _ _ _ _ (by decide), State.get_put_apart _ _ _ _ (by decide)]
    exact h1
  · exact h1

/-! ### The option image in force (R15, R67). -/

/-- The fields that an option image loads. -/
def optionFlds : List Fld :=
  [Reg.RCU.IDLE_TMO.TMO_US, Reg.HPT.LINK.SRIS, Reg.FSQ.STATUS.MODE 0, Reg.FSQ.STATUS.MODE 1, Reg.FSQ.STATUS.MODE 2,
    Reg.FSQ.STATUS.MODE 3, Reg.SLE.RRO_STATUS.BANDS, Reg.LDP.QUOTA.OTF_LIMIT, Reg.LDP.QUOTA.RETRY_ITER, Reg.STE.MOVE.SHARE,
    Reg.STE.JOURNAL.SURF_A, Reg.STE.JOURNAL.SURF_B, Reg.STE.LAYOUT.D, Reg.STE.LAYOUT.SPARE, Reg.STE.LAYOUT.BUILTIN,
    Reg.STE.LAYOUT.ROWS, Reg.STE.LAYOUT.U, Reg.MEC.SCRUB_CTRL.INTERVAL_H, Reg.BFM.DRAM_CFG.RATE, Reg.RCU.PWR.APSTE]

theorem State.loadOption_onlyFields (s : State) (c : OptCfg) : OnlyFields optionFlds s (s.loadOption c) := by
  intro g hg
  simp only [optionFlds, List.forall_mem_cons] at hg
  unfold State.loadOption
  dsimp only
  split <;> simp [State.get, RegFile.setB, RegFile.get_set_apart, hg, List.range_succ]

@[simp] theorem State.loadOption_start (s : State) (c : OptCfg) : (s.loadOption c).start = s.start := by
  unfold State.loadOption
  dsimp only
  split <;> simp [List.range_succ]

@[simp] theorem State.loadOption_opt (s : State) (c : OptCfg) : (s.loadOption c).opt = s.opt := by
  unfold State.loadOption
  dsimp only
  split <;> simp [List.range_succ]

@[simp] theorem State.loadOption_plat (s : State) (c : OptCfg) : (s.loadOption c).plat = c.plat := by
  unfold State.loadOption
  dsimp only
  split <;> simp [List.range_succ]

/-- The configuration is loaded, but not in recovery. -/
theorem State.loadOption_cfg (s : State) (c : OptCfg) :
    (s.loadOption c).cfg = if s.start.recovery then s.cfg else some c := by
  unfold State.loadOption
  dsimp only
  split <;> simp [List.range_succ, *]

/-- The layout takes the width of the stripe, but not in recovery. -/
theorem State.get_loadOption_layout (s : State) (c : OptCfg) :
    (s.loadOption c).get Reg.STE.LAYOUT.D =
      if s.start.recovery then s.get Reg.STE.LAYOUT.D else c.stripe.width % 32 := by
  unfold State.loadOption
  dsimp only
  split
  · rw [State.get_putB_apart _ _ _ _ (by decide)]
    exact State.get_put_apart s _ _ _ (by decide)
  · have hself := fun (r : RegFile) v => RegFile.get_set_self r Reg.STE.LAYOUT.D v (by decide)
    simp (disch := decide) only [State.get, State.put_regs, State.putB_regs, RegFile.setB, RegFile.get_set_apart, hself]
    rfl

/-! ### The end of P3 (R42, R45, R59). -/

/-- The fields that the end of P3 changes. -/
def endP3Flds : List Fld := [Reg.OPL.STATUS.RECOVERY, Reg.NST.BOOT_STATUS.PHASE]

theorem State.endP3_onlyFields (s : State) : OnlyFields endP3Flds s s.endP3 := by
  intro g hg
  simp only [endP3Flds, List.forall_mem_cons] at hg
  obtain ⟨hrec, hphase, -⟩ := hg
  exact (State.get_put_apart _ _ _ _ hphase).trans (State.get_putB_apart _ _ _ _ hrec)

@[simp] theorem State.endP3_start (s : State) : s.endP3.start = { s.start with trainOpen := true } := by simp [State.endP3]

@[simp] theorem State.endP3_cfg (s : State) : s.endP3.cfg = s.cfg := by simp [State.endP3]

@[simp] theorem State.endP3_plat (s : State) : s.endP3.plat = s.plat := by simp [State.endP3]

@[simp] theorem State.endP3_opt (s : State) : s.endP3.opt = s.opt := by simp [State.endP3]

/-- The next phase is P4, or P5 of a warm start. -/
theorem State.phase_endP3 (s : State) : s.endP3.phase = if s.flag Reg.RCU.LAST_CAUSE.WARM then 5 else 4 := by
  refine (State.get_put_self _ _ _ (by decide)).trans ?_
  split <;> rfl

theorem State.get_endP3_recovery (s : State) :
    s.endP3.get Reg.OPL.STATUS.RECOVERY = if s.start.recovery then 1 else 0 :=
  (State.get_put_apart _ _ _ _ (by decide)).trans (State.get_putB_self _ _ _ (by decide) (by decide))

/-! ### What the check of a copy of the option image leaves (R67, R74). -/

/-- Where the check result of a copy of the option image shows. -/
def optResultFld : Copy → Fld
  | .a => Reg.OPL.STATUS.OPT_A
  | .b => Reg.OPL.STATUS.OPT_B

/-- The check of a copy of the option image is recorded: its result, and where a record failed. -/
def State.optChecked (s : State) (copy : Copy) (k : OptCheck) : State :=
  let s1 := s.put (optResultFld copy) k.result
  if k.result = 0xA then s1.put Reg.OPL.FAIL_OFFSET.OFFSET k.failOff else s1

/-- An accepted option image is the one in force, with a note where it is not the primary copy `p`. -/
def State.optTaken (s : State) (p copy : Copy) (img : OptImage) (unsigned : Bool) : State :=
  let s1 := ((s.put Reg.OPL.STATUS.OPT_ACTIVE (copyNum copy)).put Reg.OPL.OPT_SEQ.SEQ img.seq.toNat).putB
    Reg.TST.MODE.UNSIGNED unsigned
  { (if copy = p then s1 else s1.bootCode 1 0x10 0) with opt := some img }

@[simp] theorem State.optChecked_start (s : State) (copy : Copy) (k : OptCheck) : (s.optChecked copy k).start = s.start := by
  unfold State.optChecked
  dsimp only
  split <;> simp

@[simp] theorem State.optChecked_cfg (s : State) (copy : Copy) (k : OptCheck) : (s.optChecked copy k).cfg = s.cfg := by
  unfold State.optChecked
  dsimp only
  split <;> simp

@[simp] theorem State.optChecked_opt (s : State) (copy : Copy) (k : OptCheck) : (s.optChecked copy k).opt = s.opt := by
  unfold State.optChecked
  dsimp only
  split <;> simp

theorem State.optChecked_onlyFields (s : State) (copy : Copy) (k : OptCheck) :
    OnlyFields [optResultFld copy, Reg.OPL.FAIL_OFFSET.OFFSET] s (s.optChecked copy k) := by
  intro g hg
  simp only [List.forall_mem_cons] at hg
  obtain ⟨hres, hoff, -⟩ := hg
  unfold State.optChecked
  dsimp only
  split
  · exact (State.get_put_apart _ _ _ _ hoff).trans (State.get_put_apart _ _ _ _ hres)
  · exact State.get_put_apart _ _ _ _ hres

/-- The check result shows. -/
theorem State.get_optChecked_result (s : State) (copy : Copy) (k : OptCheck) :
    (s.optChecked copy k).get (optResultFld copy) = k.result % 16 := by
  have h1 : (s.put (optResultFld copy) k.result).get (optResultFld copy) = k.result % 16 := by
    cases copy <;> exact State.get_put_self s _ _ (by decide)
  unfold State.optChecked
  dsimp only
  split
  · rw [State.get_put_apart _ _ _ _ (by cases copy <;> decide)]
    exact h1
  · exact h1

/-- The fields that an option image's coming into force changes, less those that it loads. -/
def optTakenFlds : List Fld := [Reg.OPL.STATUS.OPT_ACTIVE, Reg.OPL.OPT_SEQ.SEQ, Reg.TST.MODE.UNSIGNED] ++ bootCodeFlds

@[simp] theorem State.optTaken_opt (s : State) (p copy : Copy) (img : OptImage) (u : Bool) :
    (s.optTaken p copy img u).opt = some img := rfl

@[simp] theorem State.optTaken_cfg (s : State) (p copy : Copy) (img : OptImage) (u : Bool) :
    (s.optTaken p copy img u).cfg = s.cfg := by
  unfold State.optTaken
  dsimp only
  split <;> simp

@[simp] theorem State.optTaken_recovery (s : State) (p copy : Copy) (img : OptImage) (u : Bool) :
    (s.optTaken p copy img u).start.recovery = s.start.recovery := by
  unfold State.optTaken
  dsimp only
  split <;> simp

theorem State.optTaken_onlyFields (s : State) (p copy : Copy) (img : OptImage) (u : Bool) :
    OnlyFields optTakenFlds s (s.optTaken p copy img u) := by
  intro g hg
  obtain ⟨hput, hcode⟩ := List.forall_mem_append.1 hg
  simp only [List.forall_mem_cons] at hput
  obtain ⟨hactive, hseq, hunsigned, -⟩ := hput
  have h1 := ((State.get_putB_apart ((s.put Reg.OPL.STATUS.OPT_ACTIVE (copyNum copy)).put Reg.OPL.OPT_SEQ.SEQ img.seq.toNat)
    _ g u hunsigned).trans (State.get_put_apart _ _ _ _ hseq)).trans (State.get_put_apart _ _ _ _ hactive)
  unfold State.optTaken
  dsimp only
  split
  · exact h1
  · exact (State.bootCode_onlyFields _ _ _ _ g hcode).trans h1

theorem State.get_optTaken_active (s : State) (p copy : Copy) (img : OptImage) (u : Bool) :
    (s.optTaken p copy img u).get Reg.OPL.STATUS.OPT_ACTIVE = copyNum copy := by
  have h1 : (((s.put Reg.OPL.STATUS.OPT_ACTIVE (copyNum copy)).put Reg.OPL.OPT_SEQ.SEQ img.seq.toNat).putB
      Reg.TST.MODE.UNSIGNED u).get Reg.OPL.STATUS.OPT_ACTIVE = copyNum copy := by
    rw [State.get_putB_apart _ _ _ _ (by decide), State.get_put_apart _ _ _ _ (by decide),
      State.get_put_self _ _ _ (by decide)]
    cases copy <;> rfl
  unfold State.optTaken
  dsimp only
  split
  · exact h1
  · exact (State.bootCode_onlyFields _ _ _ _ _ (by decide)).trans h1

/-! ### The three outcomes of reading a copy of the option image. -/

/-- The copy is accepted: P3 ends with its image in force. -/
def State.optAccepted (s : State) (copy : Copy) (k : OptCheck) (img : OptImage) (c : OptCfg) : State :=
  (((s.optChecked copy k).optTaken s.primary copy img k.unsigned).loadOption c).endP3

/-- The first copy fails: the other one is next. -/
def State.optFirstFailed (s : State) (copy : Copy) (k : OptCheck) : State :=
  let s1 := s.optChecked copy k
  { s1 with start := { s1.start with optTried := 1 } }

/-- Neither copy is valid: P3 ends with a hold, and the start goes on as a recovery download. -/
def State.optBothFailed (s : State) (copy : Copy) (k : OptCheck) : State :=
  let s1 := (s.optChecked copy k).hold 0x11 0
  ({ s1 with start := { s1.start with recovery := true } } : State).endP3

/-- What reading the copy whose turn it is does (R67, R74). -/
theorem exec_optionCopyCheck {s : State} {copy : Copy} (rd : NorRead) (h3 : s.inPhase 3 = true)
    (hc : copy = if s.start.optTried = 0 then s.primary else otherCopy s.primary) {k : OptCheck}
    (hk : checkOption s.fuses s.mfg copy (s.norRead false copy rd) = k) :
    (∀ img c, k.image = some (img, c) → exec (.optionCopyCheck copy rd) s = .next (s.optAccepted copy k img c)) ∧
    (k.image = none → exec (.optionCopyCheck copy rd) s =
      .next (if s.start.optTried = 0 then s.optFirstFailed copy k else s.optBothFailed copy k)) := by
  have hturn : ¬((!s.inPhase 3) = true ∨ copy ≠ if s.start.optTried = 0 then s.primary else otherCopy s.primary) := by
    rintro (h | h)
    · simp [h3] at h
    · exact h hc
  have hexec : exec (.optionCopyCheck copy rd) s = execOptionCopyCheck copy rd s := rfl
  rw [hexec]
  unfold execOptionCopyCheck
  dsimp only
  rw [if_neg hturn, hk]
  refine ⟨fun img c hi => ?accepted, fun hi => ?failed⟩
  case accepted =>
    rw [hi]
    rfl
  case failed =>
    rw [hi]
    dsimp only
    split <;> rfl

/-- After the check is recorded, an accepted image changes these fields. -/
theorem State.optAccepted_onlyFields (s : State) (copy : Copy) (k : OptCheck) (img : OptImage) (c : OptCfg) :
    OnlyFields (optTakenFlds ++ optionFlds ++ endP3Flds) (s.optChecked copy k) (s.optAccepted copy k img c) :=
  ((State.optTaken_onlyFields _ _ _ _ _).trans (State.loadOption_onlyFields _ _)).trans (State.endP3_onlyFields _)

theorem State.get_optAccepted_result (s : State) (copy : Copy) (k : OptCheck) (img : OptImage) (c : OptCfg) :
    (s.optAccepted copy k img c).get (optResultFld copy) = k.result % 16 :=
  (s.optAccepted_onlyFields copy k img c _ (by cases copy <;> decide)).trans (s.get_optChecked_result copy k)

theorem State.get_optAccepted_active (s : State) (copy : Copy) (k : OptCheck) (img : OptImage) (c : OptCfg) :
    (s.optAccepted copy k img c).get Reg.OPL.STATUS.OPT_ACTIVE = copyNum copy :=
  (((State.loadOption_onlyFields _ _).trans (State.endP3_onlyFields _)) _ (by decide)).trans
    (State.get_optTaken_active _ _ _ _ _)

theorem State.phase_optAccepted (s : State) (copy : Copy) (k : OptCheck) (img : OptImage) (c : OptCfg) :
    (s.optAccepted copy k img c).phase = if s.flag Reg.RCU.LAST_CAUSE.WARM then 5 else 4 := by
  have hwarm : (((s.optChecked copy k).optTaken s.primary copy img k.unsigned).loadOption c).get Reg.RCU.LAST_CAUSE.WARM =
      s.get Reg.RCU.LAST_CAUSE.WARM :=
    (((State.optChecked_onlyFields _ _ _).trans (State.optTaken_onlyFields _ _ _ _ _)).trans
      (State.loadOption_onlyFields _ _)) _ (by cases copy <;> decide)
  exact (State.phase_endP3 _).trans (by rw [State.flag_congr hwarm])

theorem State.optAccepted_cfg (s : State) (copy : Copy) (k : OptCheck) (img : OptImage) (c : OptCfg) :
    (s.optAccepted copy k img c).cfg = if s.start.recovery then s.cfg else some c := by
  simp [State.optAccepted, State.loadOption_cfg]

theorem State.get_optAccepted_layout (s : State) (copy : Copy) (k : OptCheck) (img : OptImage) (c : OptCfg) :
    (s.optAccepted copy k img c).get Reg.STE.LAYOUT.D =
      if s.start.recovery then s.get Reg.STE.LAYOUT.D else c.stripe.width % 32 := by
  have hkept : ((s.optChecked copy k).optTaken s.primary copy img k.unsigned).get Reg.STE.LAYOUT.D =
      s.get Reg.STE.LAYOUT.D :=
    ((State.optChecked_onlyFields _ _ _).trans (State.optTaken_onlyFields _ _ _ _ _)) _ (by cases copy <;> decide)
  refine (State.endP3_onlyFields _ _ (by decide)).trans ((State.get_loadOption_layout _ c).trans ?_)
  simp [hkept]

theorem State.optBothFailed_onlyFields (s : State) (copy : Copy) (k : OptCheck) :
    OnlyFields (bootCodeFlds ++ endP3Flds) (s.optChecked copy k) (s.optBothFailed copy k) := by
  intro g hg
  obtain ⟨hcode, hend⟩ := List.forall_mem_append.1 hg
  exact (State.endP3_onlyFields _ g hend).trans (State.bootCode_onlyFields (s.optChecked copy k) 2 0x11 0 g hcode)

theorem State.get_optBothFailed_held (s : State) (copy : Copy) (k : OptCheck) :
    (s.optBothFailed copy k).get Reg.NST.BOOT_STATUS.HELD = 1 :=
  (State.endP3_onlyFields _ _ (by decide)).trans ((s.optChecked copy k).get_hold_held 0x11 0)

theorem State.phase_optBothFailed (s : State) (copy : Copy) (k : OptCheck) :
    (s.optBothFailed copy k).phase = if s.flag Reg.RCU.LAST_CAUSE.WARM then 5 else 4 := by
  have hwarm : ((s.optChecked copy k).hold 0x11 0).get Reg.RCU.LAST_CAUSE.WARM = s.get Reg.RCU.LAST_CAUSE.WARM :=
    ((State.optChecked_onlyFields _ _ _).trans (State.bootCode_onlyFields _ _ _ _)) _ (by cases copy <;> decide)
  exact (State.phase_endP3 _).trans (by rw [← State.flag_congr hwarm]; rfl)

/-- Each outcome of a read of the option image, part by part. -/
theorem optionImageEndsP3 : OptionImageEndsP3 := by
  intro s copy rd h3 hc
  dsimp only
  generalize hk : checkOption s.fuses s.mfg copy (s.norRead false copy rd) = k
  obtain ⟨haccept, hfail⟩ := exec_optionCopyCheck rd h3 hc hk
  cases hi : k.image with
  | some i =>
    obtain ⟨img, c⟩ := i
    rw [haccept img c hi, Goes_next]
    refine ⟨s.get_optAccepted_result copy k img c, by simp [State.optAccepted], by simp [State.optAccepted],
      by simp [State.optAccepted], s.get_optAccepted_active copy k img c, s.phase_optAccepted copy k img c,
      fun hr => ?normal, fun hr => ?recovery⟩
    case normal => simp [State.optAccepted_cfg, State.get_optAccepted_layout, hr]
    case recovery => simp [State.optAccepted_cfg, State.get_optAccepted_layout, hr]
  | none =>
    rw [hfail hi, Goes_next]
    split
    · have hphase : (s.optFirstFailed copy k).phase = 3 :=
        (State.optChecked_onlyFields s copy k _ (by cases copy <;> decide)).trans (State.inPhase_phase h3)
      exact ⟨s.get_optChecked_result copy k, rfl, hphase, s.optChecked_opt copy k, s.optChecked_cfg copy k⟩
    · have hres := (s.optBothFailed_onlyFields copy k _ (by cases copy <;> decide)).trans (s.get_optChecked_result copy k)
      exact ⟨hres, by simp [State.optBothFailed], by simp [State.optBothFailed, State.get_endP3_recovery],
        s.get_optBothFailed_held copy k, by simp [State.optBothFailed], s.phase_optBothFailed copy k,
        by simp [State.optBothFailed, State.hold]⟩

/-! ### The three outcomes of reading a copy of the firmware image. -/

/-- Where the check result of a copy of the firmware image shows. -/
def fwResultFld : Copy → Fld
  | .a => Reg.OPL.STATUS.FW_A
  | .b => Reg.OPL.STATUS.FW_B

/-- The check of a copy of the firmware image is recorded. -/
def State.fwChecked (s : State) (copy : Copy) (k : Nat) : State := s.put (fwResultFld copy) k

/-- An accepted firmware image is the one loaded. -/
def State.fwLoaded (s : State) (copy : Copy) (img : FwImage) : State :=
  (({ s with fw := some img } : State).put Reg.OPL.STATUS.FW_ACTIVE (copyNum copy)).put Reg.OPL.FW_VERSION.VERSION
    img.version.toNat

/-- The patch set of a loaded image comes into force, or is rejected whole (R86). -/
def State.fwPatched (s : State) (img : FwImage) (b : Bytes) : State :=
  if img.rejected then (s.put Reg.OPL.STATUS.PATCH_REJECTED 1).bootCode 1 0x30 0
  else if leAt b 0x1A 2 = 0 then s
  else
    let p := fwPatches b
    let s1 := (({ s with patches := p } : State).put Reg.FSQ.PATCH_VER.PATCH_SET img.patchSet).put
      Reg.FSQ.PATCH_VER.ENTRIES p.overlay.length
    (s1.putB Reg.FSQ.PATCH_VER.HORIZ (p.overlay.any fun e => e.store == 0)).putB Reg.FSQ.PATCH_VER.TWO_LEVEL
      (p.overlay.any fun e => e.store != 0)

/-- The copy is accepted. -/
def State.fwAccepted (s : State) (copy : Copy) (k : Nat) (b : Bytes) : State :=
  ((s.fwChecked copy k).fwLoaded copy (fwImageOf copy b)).fwPatched (fwImageOf copy b) b

/-- The first copy fails: the other one is next. -/
def State.fwFirstFailed (s : State) (copy : Copy) (k : Nat) : State :=
  let s1 := s.fwChecked copy k
  { s1 with start := { s1.start with fwTried := 1 } }

/-- Neither copy is valid: the start is held and becomes a recovery download. -/
def State.fwBothFailed (s : State) (copy : Copy) (k : Nat) : State :=
  let s1 := (s.fwChecked copy k).hold 0x31 0
  ({ s1 with start := { s1.start with recovery := true } } : State).put Reg.OPL.STATUS.RECOVERY 1

/-- What reading the copy whose turn it is does (R84, R87). -/
theorem exec_firmwareCopyCheck {s : State} {copy : Copy} (rd : NorRead) (h5 : s.inPhase 5 = true)
    (hrec : s.start.recovery = false) (hfw : s.fw = none) (hstage : s.get Reg.BUR.STATUS.STAGE < 5)
    (hc : copy = if s.start.fwTried = 0 then s.primary else otherCopy s.primary) {k : Nat}
    (hk : checkFw s.fuses (s.norRead true copy rd) = k) :
    exec (.firmwareCopyCheck copy rd) s = .next
      (if k = 1 then s.fwAccepted copy k (s.norRead true copy rd).bytes
      else if s.start.fwTried = 0 then s.fwFirstFailed copy k else s.fwBothFailed copy k) := by
  have hturn : ¬((!s.inPhase 5) = true ∨ s.start.recovery = true ∨ s.fw.isSome = true ∨
      (copy ≠ if s.start.fwTried = 0 then s.primary else otherCopy s.primary) ∨ s.get Reg.BUR.STATUS.STAGE ≥ 5) := by
    simp [h5, hrec, hfw, hstage, ← hc]
  have hexec : exec (.firmwareCopyCheck copy rd) s = execFirmwareCopyCheck copy rd s := rfl
  rw [hexec]
  unfold execFirmwareCopyCheck
  dsimp only
  rw [if_neg hturn, hk]
  unfold State.fwAccepted State.fwPatched
  split
  · split
    · rfl
    · split <;> rfl
  · split <;> rfl

theorem State.get_fwChecked_result (s : State) (copy : Copy) (k : Nat) :
    (s.fwChecked copy k).get (fwResultFld copy) = k % 16 := by
  cases copy <;> exact State.get_put_self s _ _ (by decide)

theorem State.fwChecked_onlyFields (s : State) (copy : Copy) (k : Nat) :
    OnlyFields [fwResultFld copy] s (s.fwChecked copy k) := fun _ hg =>
  State.get_put_apart s _ _ _ (hg _ (List.mem_singleton_self _))

theorem State.fwLoaded_onlyFields (s : State) (copy : Copy) (img : FwImage) :
    OnlyFields [Reg.OPL.STATUS.FW_ACTIVE, Reg.OPL.FW_VERSION.VERSION] s (s.fwLoaded copy img) := by
  intro g hg
  simp only [List.forall_mem_cons] at hg
  obtain ⟨hactive, hversion, -⟩ := hg
  exact (State.get_put_apart _ _ _ _ hversion).trans (State.get_put_apart _ _ _ _ hactive)

theorem State.get_fwLoaded_active (s : State) (copy : Copy) (img : FwImage) :
    (s.fwLoaded copy img).get Reg.OPL.STATUS.FW_ACTIVE = copyNum copy := by
  refine (State.get_put_apart _ _ _ _ (by decide)).trans ((State.get_put_self _ _ _ (by decide)).trans ?_)
  cases copy <;> rfl

theorem State.get_fwLoaded_version (s : State) (copy : Copy) (img : FwImage) :
    (s.fwLoaded copy img).get Reg.OPL.FW_VERSION.VERSION = img.version.toNat :=
  (State.get_put_self _ _ _ (by decide)).trans (Nat.mod_eq_of_lt img.version.isLt)

/-- The fields that a patch set coming into force, or its rejection, changes. -/
def fwPatchedFlds : List Fld :=
  [Reg.OPL.STATUS.PATCH_REJECTED, Reg.FSQ.PATCH_VER.PATCH_SET, Reg.FSQ.PATCH_VER.ENTRIES, Reg.FSQ.PATCH_VER.HORIZ,
    Reg.FSQ.PATCH_VER.TWO_LEVEL] ++ bootCodeFlds

theorem State.fwPatched_onlyFields (s : State) (img : FwImage) (b : Bytes) :
    OnlyFields fwPatchedFlds s (s.fwPatched img b) := by
  intro g hg
  obtain ⟨hput, hcode⟩ := List.forall_mem_append.1 hg
  simp only [List.forall_mem_cons] at hput
  obtain ⟨hrejected, hset, hentries, hhoriz, htwo, -⟩ := hput
  unfold State.fwPatched
  dsimp only
  split
  · exact (State.bootCode_onlyFields _ _ _ _ g hcode).trans (State.get_put_apart _ _ _ _ hrejected)
  · split
    · rfl
    · rw [State.get_putB_apart _ _ _ _ htwo, State.get_putB_apart _ _ _ _ hhoriz, State.get_put_apart _ _ _ _ hentries]
      exact State.get_put_apart _ _ _ _ hset

@[simp] theorem State.fwPatched_fw (s : State) (img : FwImage) (b : Bytes) : (s.fwPatched img b).fw = s.fw := by
  unfold State.fwPatched
  dsimp only
  (repeat' split) <;> simp

@[simp] theorem State.fwLoaded_fw (s : State) (copy : Copy) (img : FwImage) : (s.fwLoaded copy img).fw = some img := by
  simp [State.fwLoaded]

/-- After the check is recorded, an accepted image changes these fields. -/
theorem State.fwAccepted_onlyFields (s : State) (copy : Copy) (k : Nat) (b : Bytes) :
    OnlyFields ([Reg.OPL.STATUS.FW_ACTIVE, Reg.OPL.FW_VERSION.VERSION] ++ fwPatchedFlds) (s.fwChecked copy k)
      (s.fwAccepted copy k b) :=
  (State.fwLoaded_onlyFields _ _ _).trans (State.fwPatched_onlyFields _ _ _)

theorem State.get_fwAccepted_active (s : State) (copy : Copy) (k : Nat) (b : Bytes) :
    (s.fwAccepted copy k b).get Reg.OPL.STATUS.FW_ACTIVE = copyNum copy :=
  (State.fwPatched_onlyFields _ _ _ _ (by decide)).trans (State.get_fwLoaded_active _ _ _)

theorem State.get_fwAccepted_version (s : State) (copy : Copy) (k : Nat) (b : Bytes) :
    (s.fwAccepted copy k b).get Reg.OPL.FW_VERSION.VERSION = (fwImageOf copy b).version.toNat :=
  (State.fwPatched_onlyFields _ _ _ _ (by decide)).trans (State.get_fwLoaded_version _ _ _)

/-- After the check is recorded, the failure of both copies changes these fields. -/
theorem State.fwBothFailed_onlyFields (s : State) (copy : Copy) (k : Nat) :
    OnlyFields (bootCodeFlds ++ [Reg.OPL.STATUS.RECOVERY]) (s.fwChecked copy k) (s.fwBothFailed copy k) := by
  intro g hg
  obtain ⟨hcode, hrec⟩ := List.forall_mem_append.1 hg
  exact (State.get_put_apart _ _ g _ (hrec _ (List.mem_singleton_self _))).trans
    (State.bootCode_onlyFields (s.fwChecked copy k) 2 0x31 0 g hcode)

theorem State.get_fwBothFailed_held (s : State) (copy : Copy) (k : Nat) :
    (s.fwBothFailed copy k).get Reg.NST.BOOT_STATUS.HELD = 1 :=
  (State.get_put_apart _ _ _ _ (by decide)).trans ((s.fwChecked copy k).get_hold_held 0x31 0)

/-- Each outcome of a read of the firmware image, part by part. -/
theorem firmwareImageLoads : FirmwareImageLoads := by
  intro s copy rd h5 hrec hfw hstage hc
  dsimp only
  generalize hk : checkFw s.fuses (s.norRead true copy rd) = k
  rw [exec_firmwareCopyCheck rd h5 hrec hfw hstage hc hk, Goes_next]
  have hphase : (s.fwChecked copy k).phase = 5 :=
    (s.fwChecked_onlyFields copy k _ (by cases copy <;> decide)).trans (State.inPhase_phase h5)
  have hres := s.get_fwChecked_result copy k
  by_cases h1 : k = 1
  · rw [if_pos h1]
    have hkept := s.fwAccepted_onlyFields copy k (s.norRead true copy rd).bytes
    exact ⟨(hkept _ (by decide)).trans hphase, (hkept (fwResultFld copy) (by cases copy <;> decide)).trans hres,
      fun _ => ⟨by simp [State.fwAccepted], State.get_fwAccepted_active _ _ _ _, State.get_fwAccepted_version _ _ _ _⟩,
      fun h => absurd h1 h⟩
  · rw [if_neg h1]
    split
    · refine ⟨hphase, hres, fun h => absurd h h1, fun _ => ⟨?_, rfl, hrec⟩⟩
      simpa [State.fwFirstFailed, State.fwChecked] using hfw
    · have hkept := s.fwBothFailed_onlyFields copy k
      refine ⟨(hkept _ (by decide)).trans hphase, (hkept (fwResultFld copy) (by cases copy <;> decide)).trans hres,
        fun h => absurd h h1, fun _ => ⟨?_, ?_, State.get_put_self _ _ _ (by decide), s.get_fwBothFailed_held copy k⟩⟩
      · simpa [State.fwBothFailed, State.fwChecked, State.hold] using hfw
      · simp [State.fwBothFailed]

/-- Settles O12: for either image, a copy read in its turn is accepted, or fails as the first, or leaves neither valid. -/
theorem imagesAreChosen : Obligations.ImagesAreChosen := ⟨optionImageEndsP3, firmwareImageLoads⟩

end Sys2Proof.Machine
end

section
/-!
PROOFS. The head-stack front ends (O10, O11): the commands they execute, write data, and what stops a write (R108, R110, R111,
R113).
-/

namespace Sys2Proof.Machine

/-! ### A front end up to the credits it has to return (R107). -/

@[simp] theorem noCredits_unit (f : FrontEnd) (u : Fin 2) : (noCredits f).unit u = { f.unit u with freed := 0 } := by
  unfold FrontEnd.unit
  split <;> rfl

@[simp] theorem noCredits_other (f : FrontEnd) (u : Fin 2) : (noCredits f).other u = { f.other u with freed := 0 } := by
  unfold FrontEnd.other
  split <;> rfl

@[simp] theorem noCredits_head (f : FrontEnd) (k : Nat) : (noCredits f).head k = f.head k := rfl

@[simp] theorem FrontEnd.unit_setUnit (f : FrontEnd) (u : Fin 2) (v : FeUnit) : (f.setUnit u v).unit u = v := by
  unfold FrontEnd.unit FrontEnd.setUnit
  split <;> rfl

@[simp] theorem FrontEnd.other_setUnit (f : FrontEnd) (u : Fin 2) (v : FeUnit) : (f.setUnit u v).other u = f.other u := by
  unfold FrontEnd.other FrontEnd.setUnit
  split <;> rfl

/-- From `s` to `t` the front end `x` has become `g`, but for credits already on their way back, and the rest of the front ends
and links is untouched. -/
structure Became (x : Act) (g : FrontEnd) (s t : State) : Prop where
  fe   : noCredits (t.fe x) = noCredits g
  only : OnlyFrontEnd x s t

/-- What is read of a front end that does not depend on its credits is read of what it became. -/
theorem Became.read {α : Type} {x : Act} {g : FrontEnd} {s t : State} (h : Became x g s t) (r : FrontEnd → α)
    (hr : ∀ f, r (noCredits f) = r f) : r (t.fe x) = r g := by
  rw [← hr, h.fe, hr]

/-- What is read of a unit. -/
theorem Became.unit {α : Type} {x : Act} {g : FrontEnd} {s t : State} (h : Became x g s t) (u : Fin 2) (r : FeUnit → α)
    (hr : ∀ v, r { v with freed := 0 } = r v) : r ((t.fe x).unit u) = r (g.unit u) :=
  h.read (fun f => r (f.unit u)) fun f => by rw [noCredits_unit, hr]

/-- What is read of the other unit. -/
theorem Became.other {α : Type} {x : Act} {g : FrontEnd} {s t : State} (h : Became x g s t) (u : Fin 2) (r : FeUnit → α)
    (hr : ∀ v, r { v with freed := 0 } = r v) : r ((t.fe x).other u) = r (g.other u) :=
  h.read (fun f => r (f.other u)) fun f => by rw [noCredits_other, hr]

/-- Setting a front end. -/
theorem Became.setFe (s : State) (x : Act) (g : FrontEnd) : Became x g s (s.setFe x g) :=
  ⟨by rw [State.fe_setFe], fun _ hy => State.fe_setFe_ne _ _ _ _ hy, fun _ _ => State.link_setFe _ _ _ _⟩

theorem Became.after_ret {x : Act} {g : FrontEnd} {s t u : State} (h : Became x g s t) (k : Ret t u x) : Became x g s u :=
  ⟨k.fe0.trans h.fe, fun y hy => (k.ne y hy).trans (h.only.other y hy), fun p hp => (k.link p hp).trans (h.only.links p hp)⟩

/-- A cell that arrived over the link of the front end changes that link alone. -/
theorem Became.before {x : Act} {g : FrontEnd} {s t u : State} (hfe : ∀ y, y ≠ x → t.fe y = s.fe y)
    (hlink : ∀ p, p ≠ x.port → t.link p = s.link p) (h : Became x g t u) : Became x g s u :=
  ⟨h.fe, fun y hy => (h.only.other y hy).trans (hfe y hy), fun p hp => (h.only.links p hp).trans (hlink p hp)⟩

/-! ### Commands (R103, R111). -/

/-- A front end that hears its link executes a command: it becomes what the command says, and answers. -/
theorem State.feExec_executes {s : State} {x : Act} (hs : s.feHears x = true) {F : FrontEnd → FrontEnd × Nat × Bytes}
    {g : FrontEnd} {st : Nat} {body : Bytes} (hF : F (s.fe x) = (g, st, body)) (unit op : Nat) (tag : Byte) :
    Became x g s (s.feExec x unit op tag F) ∧ Answered (s.feExec x unit op tag F) x.port unit st op tag body := by
  obtain ⟨hfe, honly, hans⟩ := s.feExec_effect x unit op tag F hs
  rw [hF] at hfe hans
  exact ⟨⟨hfe, honly⟩, hans⟩

/-- What holds once the front end has become `g` and has answered holds after the command. -/
theorem Goes_feExec {s : State} {x : Act} (hs : s.feHears x = true) {unit op : Nat} {tag : Byte}
    {F : FrontEnd → FrontEnd × Nat × Bytes} {P : State → Prop} (g : FrontEnd) {st : Nat} {body : Bytes}
    (hF : F (s.fe x) = (g, st, body)) (hP : ∀ t, Became x g s t → Answered t x.port unit st op tag body → P t) :
    Goes (.next (s.feExec x unit op tag F)) P := by
  obtain ⟨hb, ha⟩ := State.feExec_executes hs hF unit op tag
  exact (Goes_next _ _).2 (hP _ hb ha)

section
variable {s : State} {x : Act} (hs : s.feHears x = true) (tag : Byte)
include hs

theorem exec_ezpolIdent : Goes (exec (.ezpolIdent x tag) s) fun t =>
    Answered t x.port 0 0 0x01 tag (padTo 20 (Config.partnerIdent x.num)) ∧ OnlyFrontEnd x s t :=
  Goes_feExec hs _ rfl fun _ hb ha => ⟨ha, hb.only⟩

theorem exec_ezpolConfig (p : BitVec 16) (w : Byte) : Goes (exec (.ezpolConfig x tag p w) s) fun t =>
    if 5 ≤ p.toNat ∧ p.toNat ≤ 1000 ∧ 2 ≤ w.toNat ∧ w.toNat ≤ 20 then
      (t.fe x).monPeriod = p ∧ (t.fe x).win = w.toNat ∧ Answered t x.port 0 0 0x02 tag [] ∧ OnlyFrontEnd x s t
    else (t.fe x).monPeriod = (s.fe x).monPeriod ∧ (t.fe x).win = (s.fe x).win ∧ Answered t x.port 0 2 0x02 tag [] ∧
      OnlyFrontEnd x s t := by
  by_cases h : inRange 5 1000 p.toNat = true ∧ inRange 2 20 w.toNat = true
  · refine Goes_feExec hs { s.fe x with monPeriod := p, win := w.toNat } (if_pos h) fun t hb ha => ?_
    rw [if_pos (by simpa [inRange, and_assoc] using h)]
    exact ⟨hb.read FrontEnd.monPeriod fun _ => rfl, hb.read FrontEnd.win fun _ => rfl, ha, hb.only⟩
  · refine Goes_feExec hs (s.fe x) (if_neg h) fun t hb ha => ?_
    rw [if_neg (by simpa [inRange, and_assoc] using h)]
    exact ⟨hb.read FrontEnd.monPeriod fun _ => rfl, hb.read FrontEnd.win fun _ => rfl, ha, hb.only⟩

theorem exec_biasSet {h : Byte} (b w p : BitVec 16) (hh : h.toNat ≤ 11) : Goes (exec (.biasSet x tag h b w p) s) fun t =>
    ((t.fe x).head h.toNat).bias = b ∧ ((t.fe x).head h.toNat).writeCur = w ∧ ((t.fe x).head h.toNat).heater = p ∧
    (∀ k, k ≠ h.toNat → (t.fe x).head k = (s.fe x).head k) ∧ Answered t x.port 0 0 0x08 tag [] ∧ OnlyFrontEnd x s t := by
  refine Goes_feExec hs ((s.fe x).setHead { (s.fe x).head h.toNat with bias := b, writeCur := w, heater := p })
    (if_neg (by omega)) fun t hb ha => ?_
  have hhead := fun k => hb.read (fun f => f.head k) fun f => noCredits_head f k
  simp only [hhead, FrontEnd.head_setHead, FrontEnd.head_head, if_true]
  exact ⟨trivial, trivial, trivial, fun k hk => if_neg hk.symm, ha, hb.only⟩

theorem exec_assistSet {h m : Byte} {w sb l tl : BitVec 16} (hh : h.toNat ≤ 11) (hm : m.toNat ≤ 2) (hw : w.toNat ≤ 6000)
    (hsb : sb.toNat ≤ 6000) (hl : l.toNat ≤ 5000) (htl : tl.toNat ≤ 5000) :
    Goes (exec (.assistSet x tag h m w sb l tl) s) fun t =>
      ((t.fe x).head h.toNat).mode = m.toNat ∧ ((t.fe x).head h.toNat).assistWr = w ∧ ((t.fe x).head h.toNat).standby = sb ∧
      ((t.fe x).head h.toNat).lead = l ∧ ((t.fe x).head h.toNat).tail = tl ∧
      ((t.fe x).head h.toNat).bias = ((s.fe x).head h.toNat).bias ∧ Answered t x.port 0 0 0x0A tag [] ∧ OnlyFrontEnd x s t := by
  refine Goes_feExec hs ((s.fe x).setHead { (s.fe x).head h.toNat with
    mode := m.toNat, assistWr := w, standby := sb, lead := l, tail := tl }) (if_neg (by omega)) fun t hb ha => ?_
  rw [hb.read (fun f => f.head h.toNat) fun f => noCredits_head f _, FrontEnd.head_setHead, if_pos (FrontEnd.head_head _ _)]
  exact ⟨rfl, rfl, rfl, rfl, rfl, rfl, ha, hb.only⟩

theorem exec_headTest {h : Byte} (r : Byte) (rd wr v : BitVec 16) (hh : h.toNat ≤ 11) :
    Goes (exec (.headTest x tag h rd wr v r) s) fun t =>
      Answered t x.port 0 0 0x0B tag (toLe 2 rd.toNat ++ toLe 2 wr.toNat ++ toLe 2 v.toNat ++ [r]) ∧ OnlyFrontEnd x s t :=
  Goes_feExec hs (s.fe x) (if_neg (by omega)) fun _ hb ha => ⟨ha, hb.only⟩

theorem exec_ezpolLoop {d : Byte} (hd : d = 3 ∨ d = 4) : Goes (exec (.ezpolLoop x tag d) s) fun t => (t.fe x).loop = d.toNat ∧
    (d = 3 → (t.fe x).u0.writing = false ∧ (t.fe x).u1.writing = false) ∧ Answered t x.port 0 0 0x0C tag [] ∧
    OnlyFrontEnd x s t := by
  obtain rfl | rfl := hd
  · refine Goes_feExec hs { (s.fe x).stopMask 3 with loop := 3 } rfl fun t hb ha => ?_
    exact ⟨hb.read FrontEnd.loop fun _ => rfl, fun _ => ⟨hb.read (fun f => f.u0.writing) fun _ => rfl,
      hb.read (fun f => f.u1.writing) fun _ => rfl⟩, ha, hb.only⟩
  · refine Goes_feExec hs { s.fe x with loop := 4 } rfl fun t hb ha => ?_
    exact ⟨hb.read FrontEnd.loop fun _ => rfl, fun h => absurd h (by decide), ha, hb.only⟩

/-! ### Commands of one unit (R110, R111). -/

variable (u : Fin 2)

theorem exec_rate {b : Word} (hlo : 1000000 ≤ b.toNat) (hhi : b.toNat ≤ 5200000) : Goes (exec (.rate x u tag b) s) fun t =>
    ((t.fe x).unit u).baud = b ∧ ((t.fe x).unit u).sidx = 0 ∧ ((t.fe x).other u).baud = ((s.fe x).other u).baud ∧
    Answered t x.port u.val 0 0x03 tag [] ∧ OnlyFrontEnd x s t := by
  refine Goes_feExec hs ((s.fe x).setUnit u { (s.fe x).unit u with baud := b, sidx := 0 })
    (if_pos (by simp [inRange, hlo, hhi])) fun t hb ha => ?_
  refine ⟨(hb.unit u FeUnit.baud fun _ => rfl).trans ?_, (hb.unit u FeUnit.sidx fun _ => rfl).trans ?_,
    (hb.other u FeUnit.baud fun _ => rfl).trans ?_, ha, hb.only⟩ <;> simp

theorem exec_headSel {h : Byte} (hh : h.toNat ≤ 11) : Goes (exec (.headSel x u tag h) s) fun t =>
    if ((s.fe x).other u).head = some h.toNat ∨ ((s.fe x).unit u).busy = true then
      ((t.fe x).unit u).head = ((s.fe x).unit u).head ∧ Answered t x.port u.val 3 0x04 tag [] ∧ OnlyFrontEnd x s t
    else ((t.fe x).unit u).head = some h.toNat ∧ ((t.fe x).other u).head = ((s.fe x).other u).head ∧
      Answered t x.port u.val 0 0x04 tag [] ∧ OnlyFrontEnd x s t := by
  have hr : ¬ h.toNat > 11 := by omega
  split
  case isTrue hc =>
    refine Goes_feExec hs (s.fe x) ((if_neg hr).trans (if_pos hc)) fun t hb ha => ?_
    exact ⟨hb.unit u FeUnit.head fun _ => rfl, ha, hb.only⟩
  case isFalse hc =>
    refine Goes_feExec hs ((s.fe x).setUnit u { (s.fe x).unit u with head := some h.toNat }) ((if_neg hr).trans (if_neg hc))
      fun t hb ha => ?_
    refine ⟨(hb.unit u FeUnit.head fun _ => rfl).trans ?_, (hb.other u FeUnit.head fun _ => rfl).trans ?_, ha, hb.only⟩ <;> simp

theorem exec_pathCtrl {on : Byte} (ho : on.toNat ≤ 1) : Goes (exec (.pathCtrl x u tag on) s) fun t =>
    ((t.fe x).unit u).pathOn = (on != 0) ∧ ((t.fe x).other u).pathOn = ((s.fe x).other u).pathOn ∧
    Answered t x.port u.val 0 0x05 tag [] ∧ OnlyFrontEnd x s t := by
  refine Goes_feExec hs ((s.fe x).setUnit u { (s.fe x).unit u with pathOn := on != 0 }) (if_neg (by omega)) fun t hb ha => ?_
  refine ⟨(hb.unit u FeUnit.pathOn fun _ => rfl).trans ?_, (hb.other u FeUnit.pathOn fun _ => rfl).trans ?_, ha, hb.only⟩ <;>
    simp

theorem exec_writeArm {st len sidx : Word} {ph pre : Byte} (hph : ph.toNat ≤ 63) (hpre : pre.toNat ≤ 1) (hlen : len ≠ 0)
    (hbusy : ((s.fe x).unit u).busy = false) : Goes (exec (.writeArm x u tag st ph pre len sidx) s) fun t =>
      if armAhead ((s.fe x).unit u).baud st sidx = true then
        ((t.fe x).unit u).armed = some ⟨st, ph.toNat, pre != 0, len.toNat⟩ ∧ ((t.fe x).unit u).written = 0 ∧
        ((t.fe x).other u).armed = ((s.fe x).other u).armed ∧ Answered t x.port u.val 0 0x06 tag [] ∧ OnlyFrontEnd x s t
      else ((t.fe x).unit u).armed = ((s.fe x).unit u).armed ∧ Answered t x.port u.val 4 0x06 tag [] ∧
        OnlyFrontEnd x s t := by
  have hok : ¬ (ph.toNat > 63 ∨ len = 0 ∨ pre.toNat > 1) := by
    rintro (h | h | h)
    · omega
    · exact hlen h
    · omega
  have hfree : ¬ ({ (s.fe x).unit u with sidx := sidx } : FeUnit).busy = true := by
    rw [← Bool.not_eq_true] at hbusy
    exact hbusy
  split
  case isTrue ha =>
    refine Goes_feExec hs ((s.fe x).setUnit u { (s.fe x).unit u with
      sidx := sidx, armed := some ⟨st, ph.toNat, pre != 0, len.toNat⟩, written := 0 })
      ((if_neg hok).trans ((if_neg hfree).trans (if_neg (by simpa using ha)))) fun t hb hans => ?_
    refine ⟨(hb.unit u FeUnit.armed fun _ => rfl).trans ?_, (hb.unit u FeUnit.written fun _ => rfl).trans ?_,
      (hb.other u FeUnit.armed fun _ => rfl).trans ?_, hans, hb.only⟩ <;> simp
  case isFalse ha =>
    refine Goes_feExec hs ((s.fe x).setUnit u { (s.fe x).unit u with sidx := sidx })
      ((if_neg hok).trans ((if_neg hfree).trans (if_pos (by simpa using ha)))) fun t hb hans => ?_
    exact ⟨(hb.unit u FeUnit.armed fun _ => rfl).trans (by simp), hans, hb.only⟩

theorem exec_writeCancel : Goes (exec (.writeCancel x u tag) s) fun t => ((t.fe x).unit u).armed = none ∧
    ((t.fe x).unit u).writing = false ∧ ((t.fe x).unit u).queued = [] ∧
    Answered t x.port u.val 0 0x07 tag (toLe 4 ((s.fe x).unit u).written) ∧ OnlyFrontEnd x s t := by
  refine Goes_feExec hs ((s.fe x).setUnit u ((s.fe x).unit u).stop) rfl fun t hb ha => ?_
  refine ⟨(hb.unit u FeUnit.armed fun _ => rfl).trans ?_, (hb.unit u FeUnit.writing fun _ => rfl).trans ?_,
    (hb.unit u FeUnit.queued fun _ => rfl).trans ?_, ha, hb.only⟩ <;> simp [FeUnit.stop]

theorem exec_precomp {es : List Int} (hlen : es.length = 8) (hes : ∀ e ∈ es, -16 ≤ e ∧ e ≤ 16) :
    Goes (exec (.precomp x u tag es) s) fun t => ((t.fe x).unit u).precomp = es ∧
      ((t.fe x).other u).precomp = ((s.fe x).other u).precomp ∧ Answered t x.port u.val 0 0x09 tag [] ∧ OnlyFrontEnd x s t := by
  refine Goes_feExec hs ((s.fe x).setUnit u { (s.fe x).unit u with precomp := es })
    (if_pos ⟨hlen, by simpa using hes⟩) fun t hb ha => ?_
  refine ⟨(hb.unit u FeUnit.precomp fun _ => rfl).trans ?_, (hb.other u FeUnit.precomp fun _ => rfl).trans ?_, ha, hb.only⟩ <;>
    simp

end

theorem frontEndCommandsExecuteAndAnswer : FrontEndCommandsExecuteAndAnswer := fun _ _ tag hs =>
  ⟨exec_ezpolIdent hs tag, exec_ezpolConfig hs tag, fun _ b w p hh => exec_biasSet hs tag b w p hh,
    fun _ _ _ _ _ _ => exec_assistSet hs tag, fun _ r rd wr v hh => exec_headTest hs tag r rd wr v hh,
    fun _ hd => exec_ezpolLoop hs tag hd⟩

theorem frontEndUnitCommands : FrontEndUnitCommands := fun _ _ u tag hs =>
  ⟨fun _ => exec_rate hs tag u, fun _ => exec_headSel hs tag u, fun _ => exec_pathCtrl hs tag u,
    fun _ _ _ _ _ => exec_writeArm hs tag u, exec_writeCancel hs tag u, fun _ => exec_precomp hs tag u⟩

/-- Settles O10: a command that a front end hears makes of it what its table says (`Became`) and is answered; what the command
sets is read off what the front end became. -/
theorem frontEndCommands : Obligations.FrontEndCommands := ⟨frontEndCommandsExecuteAndAnswer, frontEndUnitCommands⟩

/-! ### Write data and what stops a write (R110, R113). -/

/-- Credits that go back leave the front end as it is. -/
theorem Became.setFe_returnCredits (s : State) (x : Act) (g : FrontEnd) : Became x g s ((s.setFe x g).returnCredits x) :=
  (Became.setFe s x g).after_ret (State.returnCredits_ret _ x)

/-- A sequenced cell sent leaves the front end as it is. -/
theorem Became.setFe_feEvent (s : State) (x : Act) (g : FrontEnd) (unit code head : Nat) (sidx : Word) :
    Became x g s ((s.setFe x g).feEvent x unit code head sidx) :=
  (Became.setFe s x g).after_ret (State.parSend_sent _ x _).ret

/-- What arrives over a link leaves the front ends and the other links. -/
theorem Became.of_setLink {s u : State} {x : Act} {g : FrontEnd} (l : Link) (h : Became x g (s.setLink x.port l) u) :
    Became x g s u :=
  h.before (fun _ _ => State.fe_setLink _ _ _ _) fun _ hp => State.link_setLink_ne _ _ _ _ hp

/-- A unit that queues write data but does not write. -/
theorem exec_wdata {s : State} {x : Act} {u : Fin 2} (last : Bool) (w : Word) (b : Bytes) (hs : s.feHears x = true)
    (hw : ((s.fe x).unit u).writing = false) : Goes (exec (.wdata x u last w b) s) fun t =>
      ((t.fe x).unit u).queued = (if ((s.fe x).unit u).armed.isSome then ((s.fe x).unit u).queued ++ [⟨last, w, b⟩]
        else ((s.fe x).unit u).queued) ∧ ((t.fe x).unit u).armed = ((s.fe x).unit u).armed ∧ OnlyFrontEnd x s t := by
  refine (Goes_next _ _).2 ?_
  rw [if_neg (by simp [hs])]
  dsimp only
  rw [hw, if_neg Bool.false_ne_true]
  have hb := fun g => Became.of_setLink (s := s) _ (Became.setFe_returnCredits (s.parAccept x.port) x g)
  refine ⟨((hb _).unit u FeUnit.queued fun _ => rfl).trans ?_, ((hb _).unit u FeUnit.armed fun _ => rfl).trans ?_, (hb _).only⟩
  · cases ((s.fe x).unit u).armed <;> simp
  · cases ((s.fe x).unit u).armed <;> simp

/-- The driver writes the one cell queued, and waits for more. -/
theorem FeUnit.drain_one {v : FeUnit} {a : Armed} {c : WCell} (ha : v.armed = some a) (hq : v.queued = [c]) (hc : c.widx = 0)
    (hw : v.written = 0) (hl : 1920 < a.length) :
    FeUnit.drain 1 v = { v with written := 1920, queued := [], freed := v.freed + 1 } := by
  unfold FeUnit.drain
  rw [ha, hq]
  dsimp only
  rw [if_neg (by simp [hc, hw]), hw, Nat.zero_add, Nat.min_eq_right hl.le, if_neg (by omega)]
  unfold FeUnit.drain
  rfl

section
variable {s : State} {x : Act} {u : Fin 2}

theorem exec_writeDriverStart_data {a : Armed} {c : WCell} (ha : ((s.fe x).unit u).armed = some a)
    (hw : ((s.fe x).unit u).writing = false) (hr : (s.fe x).inReset = false) (hd : (s.fe x).dormant = false)
    (hq : ((s.fe x).unit u).queued = [c]) (hc : c.widx = 0) (h0 : ((s.fe x).unit u).written = 0) (hl : 1920 < a.length) :
    Goes (exec (.writeDriverStart x u) s) fun t => ((t.fe x).unit u).writing = true ∧ ((t.fe x).unit u).written = 1920 ∧
      ((t.fe x).unit u).sidx = a.start ∧ OnlyFrontEnd x s t := by
  have he : exec (.writeDriverStart x u) s = .next ((s.setFe x ((s.fe x).setUnit u { (s.fe x).unit u with
      writing := true, sidx := a.start, written := 1920, queued := [], freed := ((s.fe x).unit u).freed + 1 })).returnCredits
      x) := by
    change execWriteDriverStart x u s = _
    unfold execWriteDriverStart
    simp only [ha, hw, hr, hd, hq, hc]
    rw [if_neg (by simp), if_pos trivial, List.length_singleton,
      FeUnit.drain_one (v := { (s.fe x).unit u with sidx := a.start, armed := some a, writing := true, queued := [c] })
        rfl rfl hc h0 hl]
  rw [he, Goes_next]
  have hb := Became.setFe_returnCredits s x
  refine ⟨((hb _).unit u FeUnit.writing fun _ => rfl).trans ?_, ((hb _).unit u FeUnit.written fun _ => rfl).trans ?_,
    ((hb _).unit u FeUnit.sidx fun _ => rfl).trans ?_, (hb _).only⟩ <;> simp

theorem exec_writeDriverStart_empty {a : Armed} (ha : ((s.fe x).unit u).armed = some a)
    (hw : ((s.fe x).unit u).writing = false) (hr : (s.fe x).inReset = false) (hd : (s.fe x).dormant = false)
    (hq : ((s.fe x).unit u).queued = []) :
    Goes (exec (.writeDriverStart x u) s) fun t => ((t.fe x).unit u).writing = false ∧ ((t.fe x).unit u).armed = none ∧
      (∃ c ∈ (t.link x.port).par.replay.map Prod.fst ++ (t.link x.port).par.waiting, c.typ = 0x13 ∧ c.param = 0x04) ∧
      OnlyFrontEnd x s t := by
  have he : exec (.writeDriverStart x u) s = .next ((s.setFe x ((s.fe x).setUnit u ((s.fe x).unit u).stop)).feEvent x u.val
      0x04 (((s.fe x).unit u).head.getD 0) a.start) := by
    change execWriteDriverStart x u s = _
    unfold execWriteDriverStart
    simp [ha, hw, hr, hd, hq]
  rw [he, Goes_next]
  have hb := Became.setFe_feEvent s x ((s.fe x).setUnit u ((s.fe x).unit u).stop) u.val 0x04 (((s.fe x).unit u).head.getD 0)
    a.start
  obtain ⟨c, hc, htyp, -, -, hparam, -⟩ := (State.parSend_sent (s.setFe x ((s.fe x).setUnit u ((s.fe x).unit u).stop)) x
    ⟨0x13, u.val, 0, 0, BitVec.ofNat 16 0x04, toLe 1 0x04 ++ toLe 1 (((s.fe x).unit u).head.getD 0) ++ toLe 2 0 ++
      toLe 4 a.start.toNat, 0⟩).mem
  exact ⟨(hb.unit u FeUnit.writing fun _ => rfl).trans (by simp [FeUnit.stop]),
    (hb.unit u FeUnit.armed fun _ => rfl).trans (by simp [FeUnit.stop]), ⟨c, hc, htyp, hparam⟩, hb.only⟩

theorem exec_assistFaultStop (hw : ((s.fe x).unit u).writing = true) : Goes (exec (.assistFaultStop x u) s) fun t =>
    ((t.fe x).unit u).writing = false ∧ OSet.alm 0x03 (BitVec.ofNat 8 (2 ^ u.val)) ∈ (t.link x.port).ctl.sets ∧
    OnlyFrontEnd x s t := by
  have he : exec (.assistFaultStop x u) s = .next (((s.setFe x ((s.fe x).setUnit u ((s.fe x).unit u).stop)).returnCredits
      x).sendSet x.port false (.alm 0x03 (BitVec.ofNat 8 (2 ^ u.val)))) := by
    change execAssistFaultStop x u s = _
    unfold execAssistFaultStop
    simp [hw]
  rw [he, Goes_next]
  have hb := Became.setFe_returnCredits s x ((s.fe x).setUnit u ((s.fe x).unit u).stop)
  refine ⟨?_, ?_, fun y hy => ?_, fun p hp => ?_⟩
  · exact (congrArg (fun f => (FrontEnd.unit f u).writing) (State.fe_setLink _ _ _ _)).trans
      ((hb.unit u FeUnit.writing fun _ => rfl).trans (by simp [FeUnit.stop]))
  · simp [State.sendSet, Link.setRcv, Link.rcv, LinkEnd.put]
  · exact (State.fe_setLink _ _ _ _).trans (hb.only.other y hy)
  · exact (State.link_setLink_ne _ _ _ _ hp).trans (hb.only.links p hp)

theorem exec_downlinkLossStop : Goes (exec (.downlinkLossStop x) s) fun t => (t.fe x).u0.writing = false ∧
    (t.fe x).u1.writing = false ∧ t.link x.port = s.link x.port ∧ OnlyFrontEnd x s t := by
  refine (Goes_next _ _).2 ⟨?_, ?_, State.link_setFe _ _ _ _, (Became.setFe s x _).only⟩ <;> rw [State.fe_setFe] <;> rfl

/-- A stopped unit neither writes nor waits to write. -/
theorem FrontEnd.stopMask_u0 (f : FrontEnd) {mask : Nat} (h : mask.testBit 0 = true) :
    (f.stopMask mask).u0.writing = false ∧ (f.stopMask mask).u0.armed = none := by simp [FrontEnd.stopMask, h, FeUnit.stop]

theorem FrontEnd.stopMask_u1 (f : FrontEnd) {mask : Nat} (h : mask.testBit 1 = true) :
    (f.stopMask mask).u1.writing = false ∧ (f.stopMask mask).u1.armed = none := by simp [FrontEnd.stopMask, h, FeUnit.stop]

/-- The units that a WIH stops: those of its mask, both where the complement is wrong (R99, R113). -/
def wihMask (m c : Byte) : Nat := if c = m ^^^ 0xFF then m.toNat % 4 else 3

/-- The two unit bits of a mask (R99). -/
theorem testBit_mod_four (m : Byte) (i : Nat) : (m.toNat % 4).testBit i = (decide (i < 2) && m.getLsbD i) := by
  rw [show 4 = 2 ^ 2 from rfl, Nat.testBit_mod_two_pow, BitVec.getLsbD]

theorem wihMask_testBit (m c : Byte) {i : Nat} (hi : i < 2) :
    (wihMask m c).testBit i = true ↔ c ≠ m ^^^ 0xFF ∨ m.getLsbD i = true := by
  unfold wihMask
  split
  case isTrue hc =>
    rw [testBit_mod_four, decide_eq_true hi, Bool.true_and, or_iff_right (not_not_intro hc)]
  case isFalse hc => exact iff_of_true (by interval_cases i <;> rfl) (Or.inl hc)

theorem exec_wih (m c r : Byte) : Goes (exec (.wih x m c r) s) fun t =>
    (c ≠ m ^^^ 0xFF ∨ m.getLsbD 0 = true → (t.fe x).u0.writing = false ∧ (t.fe x).u0.armed = none) ∧
    (c ≠ m ^^^ 0xFF ∨ m.getLsbD 1 = true → (t.fe x).u1.writing = false ∧ (t.fe x).u1.armed = none) ∧
    (c = m ^^^ 0xFF → m.getLsbD 0 = false → (t.fe x).u0.writing = (s.fe x).u0.writing) ∧ OnlyFrontEnd x s t := by
  have hb := Became.of_setLink _ (Became.setFe_returnCredits (s.setArrives x.port true (.wih m c r)) x
    ((s.fe x).stopMask (wihMask m c)))
  refine (Goes_next _ _).2 ⟨fun h => ?_, fun h => ?_, fun hc h => ?_, hb.only⟩
  · obtain ⟨hw, ha⟩ := (s.fe x).stopMask_u0 ((wihMask_testBit m c (by decide)).2 h)
    exact ⟨(hb.unit 0 FeUnit.writing fun _ => rfl).trans hw, (hb.unit 0 FeUnit.armed fun _ => rfl).trans ha⟩
  · obtain ⟨hw, ha⟩ := (s.fe x).stopMask_u1 ((wihMask_testBit m c (by decide)).2 h)
    exact ⟨(hb.unit 1 FeUnit.writing fun _ => rfl).trans hw, (hb.unit 1 FeUnit.armed fun _ => rfl).trans ha⟩
  · have hbit : (wihMask m c).testBit 0 ≠ true := by 
      rw [Ne, wihMask_testBit m c (by decide), h]
      exact fun h' => h'.elim (absurd hc) Bool.false_ne_true
    refine (hb.unit 0 FeUnit.writing fun _ => rfl).trans ?_
    simp [FrontEnd.unit, FrontEnd.stopMask, hbit]

end

/-- Settles O11: each command sets the front end, which returns credits and events without changing again (`Became`). -/
theorem frontEndWriteAndStop : Obligations.FrontEndWriteAndStop := fun _ _ _ =>
  ⟨exec_wdata, fun _ _ _ ha hw hr hd hq hc h0 hl hrest => exec_writeDriverStart_data ha hw hr hd (hrest ▸ hq) hc h0 hl,
    fun _ => exec_writeDriverStart_empty, exec_assistFaultStop, exec_downlinkLossStop, exec_wih⟩

end Sys2Proof.Machine
end

section
/-!
PROOFS. The motion power chip (O22): the commands it executes, its coils and its set-points (R118, R119, R121, R122, R130, R131).
-/

namespace Sys2Proof.Machine

/-! ### What a command leaves of the chip, and its answer (R103). -/

/-- From `s` to `t` the motion power chip has become `m`; the front ends and their links are untouched. -/
structure MotionBecame (m : MotionChip) (s t : State) : Prop where
  motion : t.motion = m
  only   : OnlyMotion s t

/-- The motion power chip has no credits to return: it sends the cell as it is (R101). -/
theorem State.parSend_zhosel (s : State) (c : Cell) : ∃ l : Link, s.parSend .zhosel c = s.setLink .zhosel l ∧
    ∃ d ∈ l.par.replay.map Prod.fst ++ l.par.waiting, d.typ = c.typ ∧ d.unit = c.unit ∧ d.flags = c.flags ∧
      d.param = c.param ∧ d.body = c.body := by
  unfold State.parSend State.takeCred
  dsimp only [portAct]
  split
  · exact ⟨_, rfl, { c with cred := 0, seq := (s.link .zhosel).par.sndSeq }, by simp, rfl, rfl, rfl, rfl, rfl⟩
  · exact ⟨_, rfl, { c with cred := 0 }, by simp, rfl, rfl, rfl, rfl, rfl⟩

/-- The chip takes a state and sends a cell. -/
theorem MotionBecame.parSend (s : State) (m : MotionChip) (c : Cell) :
    MotionBecame m s (({ s.parAccept .zhosel with motion := m } : State).parSend .zhosel c) := by
  obtain ⟨l, hl, -⟩ := State.parSend_zhosel { s.parAccept .zhosel with motion := m } c
  rw [hl]
  exact ⟨rfl, rfl, rfl, rfl, rfl⟩

/-- What holds once the chip has become `m` and has answered holds after the command. -/
theorem Goes_motExec {s : State} (hs : s.motHears = true) {unit op : Nat} {tag : Byte}
    {F : MotionChip → MotionChip × Nat × Bytes} {P : State → Prop} (m : MotionChip) {st : Nat} {body : Bytes}
    (hF : F s.motion = (m, st, body)) (hP : ∀ t, MotionBecame m s t → Answered t .zhosel unit st op tag body → P t) :
    Goes (.next (s.motExec unit op tag F)) P := by
  have he : s.motExec unit op tag F = ({ s.parAccept .zhosel with motion := m } : State).parSend .zhosel
      ⟨0x11, unit, st, 0, BitVec.ofNat 16 (op + 256 * tag.toNat), body, 0⟩ := by
    unfold State.motExec
    rw [if_neg (by simp [hs])]
    dsimp only
    rw [hF]
    rfl
  rw [Goes_next, he]
  refine hP _ (MotionBecame.parSend s m _) ?_
  obtain ⟨l, hl, hd⟩ := State.parSend_zhosel { s.parAccept .zhosel with motion := m }
    ⟨0x11, unit, st, 0, BitVec.ofNat 16 (op + 256 * tag.toNat), body, 0⟩
  rw [hl]
  exact hd

/-! ### Spindle, auxiliary output and configuration (R118, R130, R131). -/

section
variable {s : State} (hs : s.motHears = true) (tag : Byte)
include hs

theorem exec_zhoselIdent : Goes (exec (.zhoselIdent tag) s) fun t => t.motion = s.motion ∧
    Answered t .zhosel 0 0 0x01 tag (padTo 20 (Config.partnerIdent 2)) ∧ OnlyMotion s t :=
  Goes_motExec hs s.motion rfl fun _ hb ha => ⟨hb.motion, ha, hb.only⟩

theorem exec_zhoselConfig (p l k r : BitVec 16) : Goes (exec (.zhoselConfig tag p l k r) s) fun t => OnlyMotion s t ∧
    if 5 ≤ p.toNat ∧ p.toNat ≤ 1000 ∧ 500 ≤ l.toNat ∧ l.toNat ≤ 10000 ∧ 10 ≤ r.toNat ∧ r.toNat ≤ 200 then
      t.motion = { s.motion with mstat := p, linkTmo := l, shockWi := k, retractUs := r } ∧
      Answered t .zhosel 0 0 0x02 tag []
    else t.motion = s.motion ∧ Answered t .zhosel 0 2 0x02 tag [] := by
  by_cases h : inRange 5 1000 p.toNat = true ∧ inRange 500 10000 l.toNat = true ∧ inRange 10 200 r.toNat = true
  · refine Goes_motExec hs _ (if_pos h) fun t hb ha => ⟨hb.only, ?_⟩
    rw [if_pos (by simpa [inRange, and_assoc] using h)]
    exact ⟨hb.motion, ha⟩
  · refine Goes_motExec hs _ (if_neg h) fun t hb ha => ⟨hb.only, ?_⟩
    rw [if_neg (by simpa [inRange, and_assoc] using h)]
    exact ⟨hb.motion, ha⟩

theorem exec_aux {on : Byte} (ho : on.toNat ≤ 1) : Goes (exec (.aux tag on) s) fun t =>
    t.motion = { s.motion with aux := on != 0 } ∧ Answered t .zhosel 0 0 0x03 tag [] ∧ OnlyMotion s t :=
  Goes_motExec hs _ (if_neg (by omega)) fun _ hb ha => ⟨hb.motion, ha, hb.only⟩

theorem exec_spinMode {m n : Byte} (l : BitVec 16) (hm : m.toNat ≤ 3) (hn : n = 16 ∨ n = 32 ∨ n = 64) :
    Goes (exec (.spinMode tag m n l) s) fun t => t.motion.mode = m.toNat ∧ t.motion.samples = n.toNat ∧
      t.motion.limit = l ∧ t.motion.table = s.motion.table ∧ Answered t .zhosel 0 0 0x10 tag [] ∧ OnlyMotion s t := by
  have hok : ¬ (m.toNat > 3 ∨ (!([16, 32, 64].contains n.toNat)) = true) := by
    obtain rfl | rfl | rfl := hn <;> simp [hm]
  refine Goes_motExec hs _ (if_neg hok) fun t hb ha => ?_
  rw [hb.motion]
  exact ⟨rfl, rfl, rfl, rfl, ha, hb.only⟩

theorem exec_spinTable {b : BitVec 16} {es : List (BitVec 16)} (h8 : b.toNat % 8 = 0) (hb : b.toNat < 1024)
    (hlen : es.length = 8) : Goes (exec (.spinTable tag b es) s) fun t => Answered t .zhosel 0 0 0x11 tag [] ∧
      OnlyMotion s t ∧ t.motion.table.length = s.motion.table.length ∧ ∀ i, i < s.motion.table.length →
        t.motion.table.getD i 0 =
          if b.toNat ≤ i ∧ i < b.toNat + 8 then (es.getD (i - b.toNat) 0).toInt else s.motion.table.getD i 0 := by
  refine Goes_motExec hs _ (if_neg (by omega)) fun t hbec ha => ?_
  rw [hbec.motion]
  refine ⟨ha, hbec.only, List.length_mapIdx, fun i hi => ?_⟩
  simp [List.getD_eq_getElem?_getD, hi]

theorem exec_spinDrive (a g r : Word) (amp : BitVec 16) (lt : Word) : Goes (exec (.spinDrive tag a g r amp lt) s) fun t =>
    t.motion.rate = r.toInt ∧ t.motion.ampl = amp ∧ OnlyMotion s t ∧
    if ltPassed a lt = true then t.motion.applyLt = lt ∧ t.motion.angle = g + r * (lt - a) ∧ Answered t .zhosel 0 0 0x12 tag [1]
    else t.motion.applyLt = a ∧ t.motion.angle = g ∧ Answered t .zhosel 0 0 0x12 tag [0] := by
  split
  case isTrue h =>
    refine Goes_motExec hs _ (if_pos h) fun t hb ha => ?_
    rw [hb.motion]
    exact ⟨rfl, rfl, hb.only, rfl, rfl, ha⟩
  case isFalse h =>
    refine Goes_motExec hs _ (if_neg h) fun t hb ha => ?_
    rw [hb.motion]
    exact ⟨rfl, rfl, hb.only, rfl, rfl, ha⟩

/-! ### Coils (R118, R119). -/

theorem exec_vcmEn {m : Byte} (a b : BitVec 16) (hm : m.toNat ≤ 3) : Goes (exec (.vcmEn tag m a b) s) fun t =>
    (m.getLsbD 0 = true → t.motion.vcmA = true ∧ t.motion.limA = a ∧ t.motion.retractA = false) ∧
    (m.getLsbD 0 = false → t.motion.vcmA = s.motion.vcmA ∧ t.motion.limA = s.motion.limA) ∧
    (m.getLsbD 1 = true → t.motion.vcmB = true ∧ t.motion.limB = b ∧ t.motion.retractB = false) ∧
    Answered t .zhosel 0 0 0x20 tag [] := by
  refine Goes_motExec hs _ (if_neg (by omega)) fun t hb ha => ?_
  rw [hb.motion]
  cases h0 : m.getLsbD 0 <;> cases h1 : m.getLsbD 1 <;> simp [ha]

theorem exec_maSelect (x : Act) {i j : Byte} (hi : i.toNat ≤ 11) (hj : j.toNat ≤ 11) :
    Goes (exec (.maSelect x tag i j) s) fun t =>
      t.motion.ma = (s.motion.ma.set (2 * x.num) i.toNat).set (2 * x.num + 1) j.toNat ∧
      Answered t .zhosel x.num 0 0x21 tag [] := by
  refine Goes_motExec hs _ (if_pos (by simp [hi, hj])) fun t hb ha => ?_
  rw [hb.motion]
  exact ⟨rfl, ha⟩

theorem exec_retract {m : Byte} (hm : m.toNat ≤ 3) : Goes (exec (.retract tag m) s) fun t =>
    (m.getLsbD 0 = true → t.motion.retractA = true ∧ t.motion.vcmA = false) ∧
    (m.getLsbD 0 = false → t.motion.retractA = s.motion.retractA ∧ t.motion.vcmA = s.motion.vcmA) ∧
    (m.getLsbD 1 = true → t.motion.retractB = true ∧ t.motion.vcmB = false) ∧ Answered t .zhosel 0 0 0x22 tag [] := by
  refine Goes_motExec hs _ (if_neg (by omega)) fun t hb ha => ?_
  rw [hb.motion]
  simp only [BitVec.getLsbD]
  cases h0 : m.toNat.testBit 0 <;> cases h1 : m.toNat.testBit 1 <;> simp [MotionChip.retract, h0, h1, ha]

theorem exec_zhoselLoop (rpm : Nat) : Goes (exec (.zhoselLoop tag 3 rpm) s) fun t =>
    if s.motion.mode = 0 ∧ rpm < 30 ∧ s.motion.retractA = true ∧ s.motion.retractB = true then t.motion.loop = true ∧
      Answered t .zhosel 0 0 0x30 tag []
    else t.motion.loop = s.motion.loop ∧ Answered t .zhosel 0 3 0x30 tag [] := by
  split
  case isTrue h =>
    refine Goes_motExec hs _ ((if_neg (by decide)).trans (if_pos h)) fun t hb ha => ?_
    rw [hb.motion]
    exact ⟨rfl, ha⟩
  case isFalse h =>
    refine Goes_motExec hs _ ((if_neg (by decide)).trans (if_neg h)) fun t hb ha => ?_
    rw [hb.motion]
    exact ⟨rfl, ha⟩

/-! ### Set-points (R119). -/

omit hs in
theorem exec_setpt_eq (x : Act) (w : BitVec 16) (a : Word) (v m0 m1 : BitVec 16) (lt : Word) :
    exec (.setpt x w a v m0 m1 lt) s = execSetpt x w a v m0 m1 lt s := rfl

theorem exec_setpt_applied {w : BitVec 16} {a : Word} {v m0 m1 : BitVec 16} {lt : Word} (hv : s.motion.vcmA = true)
    (hr : s.motion.retractA = false) (hlt : ltPassed a lt = false) : Goes (exec (.setpt .a w a v m0 m1 lt) s) fun t =>
      t.motion.spA.applyLt = a ∧ t.motion.spA.vcm = v.toInt ∧ t.motion.spB = s.motion.spB := by
  rw [exec_setpt_eq]
  unfold execSetpt
  simp [hs, hv, hr, hlt, Goes_next]

theorem exec_setpt_ignored (w : BitVec 16) (a : Word) (v m0 m1 : BitVec 16) (lt : Word) (hr : s.motion.retractB = true) :
    Goes (exec (.setpt .b w a v m0 m1 lt) s) fun t => t.motion.spB = s.motion.spB ∧
      t.motion.discarded = s.motion.discarded := by
  rw [exec_setpt_eq]
  unfold execSetpt
  simp [hs, hr, Goes_next]

theorem exec_setpt_discarded {w : BitVec 16} {a : Word} (v m0 m1 : BitVec 16) {lt : Word} (hv : s.motion.vcmB = true)
    (hr : s.motion.retractB = false) (hlt : ltPassed a lt = true) (hlate : 2500 < (lt - a).toNat) :
    Goes (exec (.setpt .b w a v m0 m1 lt) s) fun t => t.motion.spB = s.motion.spB ∧
      t.motion.discarded = min 255 (s.motion.discarded + 1) := by
  have he : exec (.setpt .b w a v m0 m1 lt) s = .next (({ s.parAccept .zhosel with
      motion := { s.motion with lt := lt, discarded := min 255 (s.motion.discarded + 1) } } : State).parSend .zhosel
      ⟨0x13, 1, 0, 0, 0x24, toLe 1 0x24 ++ toLe 1 1 ++ toLe 2 w.toNat ++ toLe 4 lt.toNat, 0⟩) := by
    rw [exec_setpt_eq]
    unfold execSetpt
    rw [if_neg (by simp [hs])]
    dsimp only
    rw [if_neg (by simp [hv, hr]), if_pos ⟨hlt, hlate⟩]
    rfl
  rw [he, Goes_next, (MotionBecame.parSend s _ _).motion]
  exact ⟨rfl, rfl⟩

end

/-! ### What the chip does by itself (R121, R122). -/

theorem MotionChip.retract_both (m : MotionChip) :
    m.retract 3 = { m with retractA := true, vcmA := false, spA := .zero, retractB := true, vcmB := false, spB := .zero } := rfl

theorem exec_linkTmoExpire {s : State} (hl : s.linkUp .zhosel = false) (hr : s.motion.inReset = false) :
    Goes (exec .linkTmoExpire s) fun t => t.motion.retractA = true ∧ t.motion.retractB = true ∧ t.motion.vcmA = false ∧
      t.motion.vcmB = false ∧ t.motion.hold = (s.motion.mode == 1) := by
  change Goes (execLinkTmoExpire s) _
  unfold execLinkTmoExpire
  simp [hl, hr, Goes_next, MotionChip.retract_both]

theorem exec_retractDelayExpire {s : State} (hp : s.motion.powerFail = true) : Goes (exec .retractDelayExpire s) fun t =>
    t.motion.retractA = true ∧ t.motion.retractB = true ∧ t.motion.vcmA = false ∧ t.motion.vcmB = false := by
  change Goes (execRetractDelayExpire s) _
  unfold execRetractDelayExpire
  simp [hp, Goes_next, MotionChip.retract_both]

theorem motionChipExecutes : MotionChipExecutes := fun _ tag hs =>
  ⟨exec_zhoselIdent hs tag, exec_zhoselConfig hs tag, fun _ => exec_aux hs tag, fun _ _ l => exec_spinMode hs tag l,
    fun _ _ => exec_spinTable hs tag, exec_spinDrive hs tag⟩

theorem coilsAndSetPoints : CoilsAndSetPoints := fun _ =>
  ⟨fun hs tag => ⟨fun _ a b => exec_vcmEn hs tag a b, fun x _ _ => exec_maSelect hs tag x, fun _ => exec_retract hs tag,
    exec_zhoselLoop hs tag, fun w a v m0 m1 lt => ⟨exec_setpt_applied hs, exec_setpt_ignored hs w a v m0 m1 lt,
      exec_setpt_discarded hs v m0 m1⟩⟩, exec_linkTmoExpire, exec_retractDelayExpire⟩

/-- Settles O22: a command that the chip hears makes of it what its table says (`MotionBecame`) and is answered; a set-point goes
its way by the branches of R119. -/
theorem motionChip : Obligations.MotionChip := ⟨motionChipExecutes, coilsAndSetPoints⟩

end Sys2Proof.Machine
end

section
/-!
SUPPORT. Outcomes that go on; and links: what the shared operations of the link engines leave of the registers, of the other
links and of the state of a link (R103 to R107, R125).
-/

namespace Sys2Proof.Machine

/-! ### Outcomes. -/

theorem Goes.imp {o : Host.Outcome State Fault Refusal} {P Q : State → Prop} (h : Goes o P) (hpq : ∀ t, P t → Q t) :
    Goes o Q := by
  obtain ⟨t, ht, hp⟩ := h
  exact ⟨t, ht, hpq t hp⟩

/-- What two statements say of one outcome holds of the one state it goes on in. -/
theorem Goes.both {o : Host.Outcome State Fault Refusal} {P Q : State → Prop} (h : Goes o P) (k : Goes o Q) :
    ∃ t, P t ∧ Q t := by
  obtain ⟨t, rfl, hp⟩ := h
  exact ⟨t, hp, (Goes_next _ _).1 k⟩

/-! ### The two ends of a link. -/

@[simp] theorem Link.rcv_setRcv (l : Link) (down : Bool) (e : LinkEnd) : (l.setRcv down e).rcv down = e := by
  cases down <;> rfl

@[simp] theorem Link.rcv_true (l : Link) : l.rcv true = l.par := rfl

@[simp] theorem Link.rcv_false (l : Link) : l.rcv false = l.ctl := rfl

@[simp] theorem Link.setRcv_true (l : Link) (e : LinkEnd) : l.setRcv true e = { l with par := e } := rfl

@[simp] theorem Link.setRcv_false (l : Link) (e : LinkEnd) : l.setRcv false e = { l with ctl := e } := rfl

@[simp] theorem Link.heard_ctl (l : Link) (c : Bool) (lane : Nat) (b : TsBody) : (l.heard c lane b).ctl = l.ctl := by
  cases c <;> rfl

@[simp] theorem Link.heard_par (l : Link) (c : Bool) (lane : Nat) (b : TsBody) : (l.heard c lane b).par = l.par := by
  cases c <;> rfl

/-- The partner chip takes the trims that a training set requests (R98). -/
@[simp] theorem Link.heard_trims (l : Link) (lane : Nat) (b : TsBody) :
    (l.heard false lane b).trims = assocPut l.trims lane b := rfl

theorem State.link_setArrives (s : State) (p : Port) (down : Bool) (o : OSet) :
    (s.setArrives p down o).link p = (s.link p).setRcv down (((s.link p).rcv down).take o) := State.link_setLink _ _ _

theorem State.link_sendSet (s : State) (p : Port) (down : Bool) (o : OSet) :
    (s.sendSet p down o).link p = (s.link p).setRcv down (((s.link p).rcv down).put o) := State.link_setLink _ _ _

/-- Sets sent on the downlink leave the controller's end. -/
theorem State.ctl_foldl_sendSet (p : Port) (o : State → Nat → OSet) (ks : List Nat) (s : State) :
    ((ks.foldl (fun t k => t.sendSet p true (o t k)) s).link p).ctl = (s.link p).ctl := by
  induction ks generalizing s with
  | nil => rfl
  | cons k ks ih => rw [List.foldl_cons, ih, State.link_sendSet]; rfl

/-! ### Fields and links that an operation does not reach. -/

theorem Fld.key_slot (f : Fld) : f.key / 0x10000 = f.slot := by
  unfold Fld.key Reg.key
  omega

/-- A field of a slot that is not touched reads as before. -/
theorem Only.get {ps : List Part} {s t : State} (h : Only ps s t) {f : Fld} (hf : Part.of ps (.slot f.slot) = false) :
    t.get f = s.get f := by
  have hw := h.regs f.key (by rwa [Fld.key_slot])
  simp only [State.get, RegFile.get, hw]

theorem Only.link {ps : List Part} {s t : State} (h : Only ps s t) (ha : Part.of ps .linkA = false)
    (hb : Part.of ps .linkB = false) (hz : Part.of ps .linkZ = false) (p : Port) : t.link p = s.link p := by
  cases p
  · exact h.linkA ha
  · exact h.linkB hb
  · exact h.linkZ hz

/-- Counting in the Credenza touches the log and the asynchronous events alone (R386, R472, R473). -/
theorem State.count_touches (s : State) (id inst n : Nat) : Only [.cqu, .crd, .slot 9] s (s.count id inst n) :=
  State.count_only s id inst n (Only.refl _ _) rfl rfl rfl

theorem State.get_count (s : State) (id inst n : Nat) {f : Fld} (hf : f.slot ≠ 9) : (s.count id inst n).get f = s.get f :=
  (s.count_touches id inst n).get (by simpa [Part.of] using hf)

@[simp] theorem State.link_count (s : State) (id inst n : Nat) (p : Port) : (s.count id inst n).link p = s.link p :=
  (s.count_touches id inst n).link rfl rfl rfl p

@[simp] theorem State.fe_put (s : State) (f : Fld) (v : Nat) (x : Act) : (s.put f v).fe x = s.fe x := by cases x <;> rfl

@[simp] theorem State.link_put (s : State) (f : Fld) (v : Nat) (p : Port) : (s.put f v).link p = s.link p := by cases p <;> rfl

@[simp] theorem State.link_bump (s : State) (f : Fld) (n : Nat) (p : Port) : (s.bump f n).link p = s.link p :=
  State.link_put _ _ _ _

@[simp] theorem State.get_setLink (s : State) (p : Port) (l : Link) (f : Fld) : (s.setLink p l).get f = s.get f :=
  State.get_congr (State.setLink_regs _ _ _) f

/-! ### The state of a link. -/

theorem State.linkState_put (s : State) (p : Port) {n : Nat} (hn : n < 8) : (s.put (linkStateFld p) n).linkState p = n := by
  refine (State.get_put_self _ _ _ (by cases p <;> decide)).trans (Nat.mod_eq_of_lt ?_)
  cases p <;> exact hn

/-- The fields that say whether cells pass over a port. -/
def linkUpFlds (p : Port) : List Fld :=
  [linkStateFld p, Reg.ELK.LB_CTRL.RUN 0, Reg.ELK.LB_CTRL.DEPTH 0, Reg.ELK.LB_CTRL.RUN 1, Reg.ELK.LB_CTRL.DEPTH 1]

theorem State.linkUp_congr {s t : State} {p : Port} (h : ∀ f ∈ linkUpFlds p, t.get f = s.get f) :
    t.linkUp p = s.linkUp p := by
  simp only [linkUpFlds, List.forall_mem_cons] at h
  obtain ⟨hstate, hrun0, hdepth0, hrun1, hdepth1, -⟩ := h
  cases p <;> simp only [State.linkUp, State.linkState, State.lb4, hstate, hdepth0, hdepth1, State.flag_congr hrun0,
    State.flag_congr hrun1]

/-- An error counter of a port is none of the fields that say whether cells pass. -/
theorem State.linkUp_bump (s : State) {f : Fld} (n : Nat) {p : Port} (hf : (linkUpFlds p).all f.apart = true) :
    (s.bump f n).linkUp p = s.linkUp p :=
  State.linkUp_congr fun _ hg => State.get_bump_apart _ _ _ _ (List.all_eq_true.1 hf _ hg)

@[simp] theorem State.linkUp_setLink (s : State) (p q : Port) (l : Link) : (s.setLink q l).linkUp p = s.linkUp p :=
  State.linkUp_congr fun _ _ => State.get_setLink _ _ _ _

@[simp] theorem State.linkState_setLink (s : State) (p q : Port) (l : Link) : (s.setLink q l).linkState p = s.linkState p :=
  State.get_setLink _ _ _ _

/-! ### Retrains (R106, R125). -/

/-- The registers of a retrain that starts: the state of the link and the count of its retrains. -/
def State.retrainCounted (s : State) (p : Port) : State :=
  ((s.put (linkStateFld p) 4).bump (portFld Reg.ELK.STATUS.RETRAINS p) 1).count 0x1C (portNum p) 1

theorem State.get_retrainCounted (s : State) (p : Port) {f : Fld} (h9 : f.slot ≠ 9) (h1 : (linkStateFld p).apart f = true)
    (h2 : (portFld Reg.ELK.STATUS.RETRAINS p).apart f = true) : (s.retrainCounted p).get f = s.get f :=
  (State.get_count _ _ _ _ h9).trans ((State.get_bump_apart _ _ _ _ h2).trans (State.get_put_apart _ _ _ _ h1))

theorem State.linkState_retrainCounted (s : State) (p : Port) : (s.retrainCounted p).linkState p = 4 :=
  (State.get_count _ _ _ _ (by cases p <;> decide)).trans
    ((State.get_bump_apart _ _ _ _ (by cases p <;> decide)).trans (State.linkState_put _ _ (by decide)))

theorem State.retrains_retrainCounted (s : State) (p : Port) : (s.retrainCounted p).get (portFld Reg.ELK.STATUS.RETRAINS p) =
    min (s.get (portFld Reg.ELK.STATUS.RETRAINS p) + 1) 255 := by
  refine (State.get_count _ _ _ _ (by cases p <;> decide)).trans ((State.get_bump_self _ _ _ (by cases p <;> decide)).trans ?_)
  rw [State.get_put_apart _ _ _ _ (by cases p <;> decide)]
  cases p <;> rfl

theorem State.retrainStart_zhosel {s : State} (hup : s.linkUp .zhosel = true) : s.retrainStart .zhosel =
    { ((s.retrainCounted .zhosel).closeGates .a).closeGates .b with
      rep := { (((s.retrainCounted .zhosel).closeGates .a).closeGates .b).rep with linkHold := true } } := if_pos hup

theorem State.retrainStart_ezpol {s : State} {p : Port} (hup : s.linkUp p = true) (hp : p ≠ .zhosel) :
    s.retrainStart p = s.retrainCounted p := (if_pos hup).trans (if_neg hp)

/-- The registers of a retrain are those of its count. -/
theorem State.retrainStart_regs {s : State} {p : Port} (hup : s.linkUp p = true) :
    (s.retrainStart p).regs = (s.retrainCounted p).regs := by
  by_cases hp : p = .zhosel
  · subst hp
    rw [State.retrainStart_zhosel hup]
    rfl
  · rw [State.retrainStart_ezpol hup hp]

@[simp] theorem State.link_retrainStart (s : State) (p q : Port) : (s.retrainStart p).link q = s.link q :=
  (State.retrainStart_only (qz := [.rep, .cqu, .crd, .slot 9, .slot 22, .slot 23]) s p (Only.refl _ _) rfl rfl rfl rfl rfl
    rfl).link rfl rfl rfl q

/-! ### Delivery (R104, R107). -/

@[simp] theorem LinkEnd.acked_waiting (e : LinkEnd) (a : BitVec 12) : (e.acked a).waiting = e.waiting := by
  unfold LinkEnd.acked
  split
  · rfl
  · split <;> rfl

@[simp] theorem LinkEnd.acked_rcvSeq (e : LinkEnd) (a : BitVec 12) : (e.acked a).rcvSeq = e.rcvSeq := by
  unfold LinkEnd.acked
  split
  · rfl
  · split <;> rfl

/-- With nothing waiting, nothing leaves. -/
theorem Link.flow_nil {l : Link} (h : l.ctl.waiting = []) : l.flow = l := by
  unfold Link.flow
  rw [h]
  rfl

/-- A cell has arrived: its ACK is used. -/
def Link.heardAck (l : Link) (h : CellHdr) : Link := { l with ctl := l.ctl.acked h.ack }

/-- A sequenced cell with the SEQ expected is accepted, and its credits are returned. -/
def Link.accepted (l : Link) (p : Port) (h : CellHdr) : Link :=
  { l with
    ctl := { l.ctl.acked h.ack with rcvSeq := l.ctl.rcvSeq + 1, nakSent := false }
    cred0 := if p = .zhosel then l.cred0 else l.cred0 + h.cred.toNat % 16
    cred1 := if p = .zhosel then l.cred1 else l.cred1 + h.cred.toNat / 16 }

theorem State.accept_expected {s : State} {p : Port} {h : CellHdr} (he : Expected s p h) :
    s.accept p h true = (s.setLink p ((s.link p).accepted p h).flow, true) := by
  obtain ⟨hup, hseq⟩ := he
  unfold State.accept Link.accepted
  rw [if_neg (by simp [hup])]
  dsimp only
  rw [if_neg (by simp), if_neg (by simpa using hseq), LinkEnd.acked_rcvSeq]

theorem State.accept_other {s : State} {p : Port} {h : CellHdr} {sequenced : Bool} (hup : s.linkUp p = true)
    (hs : h.seq ≠ (s.link p).ctl.rcvSeq ∨ sequenced = false) :
    (s.accept p h sequenced).1 = s.setLink p ((s.link p).heardAck h).flow := by
  unfold State.accept Link.heardAck
  rw [if_neg (by simp [hup])]
  dsimp only
  split
  · rfl
  case isFalse hq =>
    rw [if_pos]
    simpa using hs.resolve_right (by simpa using hq)

end Sys2Proof.Machine
end

section
/-!
PROOFS. Ordered sets (O19): training sets, ALN, SLP, waking and LBX (R96, R98, R99, R116, R125, R126).
-/

namespace Sys2Proof.Machine

/-! ### Training sets (R98, R99). -/

section
variable {s : State} {p : Port} {lane : Nat} {b : TsBody} (ht : s.trains p = true) (hf : tsFits p lane b = true)
include ht hf

/-- A TS1 counts at the end that receives it, and requests trims of the partner chip. -/
theorem exec_ts1 (atController : Bool) : Goes (exec (.ts1 p atController lane b) s) fun t =>
    ((t.link p).rcv !atController).ts1 = oneMore ((s.link p).rcv !atController).ts1 lane 8 ∧
    (atController = false → (t.link p).trims = assocPut (s.link p).trims lane b) := by
  change Goes (execTs1 p atController lane b s) _
  unfold execTs1
  rw [if_neg (by simp [ht])]
  dsimp only
  rw [if_neg (by simp [hf]), Goes_next]
  split
  case isTrue h =>
    obtain ⟨rfl, -⟩ := h
    rw [Bool.not_true, Link.rcv_false, State.ctl_foldl_sendSet]
    simp [State.link_setArrives, LinkEnd.take]
  case isFalse => cases atController <;> simp [State.link_setArrives, LinkEnd.take]

/-- A TS2 counts at the end that receives it. -/
theorem exec_ts2 (atController : Bool) : Goes (exec (.ts2 p atController lane b) s) fun t =>
    ((t.link p).rcv !atController).ts2 = oneMore ((s.link p).rcv !atController).ts2 lane 16 := by
  change Goes (execTs2 p atController lane b s) _
  unfold execTs2
  rw [if_neg (by simp [ht])]
  dsimp only
  rw [if_neg (by simp [hf]), Goes_next]
  cases atController <;> simp [State.link_setArrives, LinkEnd.take]

end

/-! ### ALN (R96, R99, R117). -/

section
variable {s : State} {p : Port} (lt : Word) (hup : s.linkUp p = true)
include hup

theorem exec_aln_down : Goes (exec (.aln p true lt) s) fun t => (t.link p).par.scr = seeds ∧
    (p = .zhosel → t.motion.lt = lt) := by
  change Goes (execAln p true lt s) _
  unfold execAln
  rw [if_neg (by simp [hup])]
  dsimp only
  rw [Goes_next]
  split
  case isTrue hz =>
    obtain ⟨rfl, -⟩ := hz
    exact ⟨rfl, fun _ => rfl⟩
  case isFalse hz => exact ⟨by simp, fun h => absurd ⟨h, rfl⟩ hz⟩

theorem exec_aln_up : Goes (exec (.aln p false lt) s) fun t => (t.link p).ctl.scr = seeds ∧ t.motion = s.motion := by
  change Goes (execAln p false lt s) _
  unfold execAln
  rw [if_neg (by simp [hup])]
  dsimp only
  rw [Goes_next, if_neg (by simp)]
  exact ⟨by simp, by simp [State.setArrives]⟩

theorem exec_alnInterval_down : Goes (exec (.alnInterval p true lt) s) fun t =>
    (t.link p).par.sets = (s.link p).par.sets ++ [.aln (if p = .zhosel then lt else 0)] := by
  change Goes (execAlnInterval p true lt s) _
  unfold execAlnInterval
  rw [if_pos hup, Goes_next, State.link_sendSet]
  simp [LinkEnd.put]

end

/-! ### Sleep, waking and the end of a loopback (R116, R125, R126). -/

section
variable {s : State} {x : Act}

theorem exec_slp (hup : s.linkUp x.port = true) (hc : (s.link x.port).ctl.replay = []) (hp : (s.link x.port).par.replay = [])
    (h0 : (s.fe x).u0.busy = false) (h1 : (s.fe x).u1.busy = false) : Goes (exec (.slp x) s) fun t =>
      (t.fe x).dormant = true ∧ (t.fe x).u0.pathOn = false ∧ (t.fe x).u1.pathOn = false ∧ t.linkState x.port = 5 := by
  change Goes (execSlp x s) _
  unfold execSlp
  dsimp only
  rw [if_pos (by simp [hup, hc, hp, h0, h1]), Goes_next, State.fe_put, State.fe_setFe]
  exact ⟨rfl, rfl, rfl, State.linkState_put _ _ (by decide)⟩

theorem exec_wakeFromDormant (h5 : s.linkState x.port = 5) : Goes (exec (.wakeFromDormant x) s) fun t =>
    (t.fe x).dormant = false ∧ t.linkState x.port = 1 ∧ (t.link x.port).trims = (s.link x.port).trims := by
  change Goes (execWakeFromDormant x s) _
  unfold execWakeFromDormant
  rw [if_pos h5, Goes_next]
  unfold State.trainStart
  dsimp only
  refine ⟨by simp, State.linkState_put _ _ (by decide), by simp⟩

theorem exec_lbx (p : Port) : Goes (exec (.lbx p) s) fun t => match portAct p with
    | some x => (t.fe x).loop = 0
    | none => t.motion.loop = false := by
  cases p <;> exact (Goes_next _ _).2 rfl

end

/-- Settles O19: each ordered set is taken by the end that receives it, and acts as R99 says. -/
theorem orderedSetsAct : Obligations.OrderedSetsAct := fun _ p _ _ =>
  ⟨fun ht hf => ⟨(exec_ts1 ht hf true).imp fun _ h => h.1, (exec_ts1 ht hf false).imp fun _ h => ⟨h.1, h.2 rfl⟩,
      exec_ts2 ht hf true, exec_ts2 ht hf false⟩,
    fun lt hup => ⟨exec_aln_down lt hup, exec_aln_up lt hup, exec_alnInterval_down lt hup⟩, fun _ => exec_slp,
    fun _ => exec_wakeFromDormant, exec_lbx p⟩

end Sys2Proof.Machine
end

section
/-!
PROOFS. Cells are delivered (O20): NAK, the replay timer, a CRC that fails, IDLE and RESP (R103 to R107).
-/

namespace Sys2Proof.Machine

/-! ### Resending (R104, R106). -/

/-- A set that arrives at the controller leaves its replay buffer. -/
theorem State.ctl_setArrives (s : State) (p : Port) (o : OSet) :
    ((s.setArrives p false o).link p).ctl = (s.link p).ctl.take o := by rw [State.link_setArrives]; rfl

theorem State.ctl_resendFrom (s : State) (p : Port) (i : Nat) :
    ((s.resendFrom p true i).link p).ctl = (s.link p).ctl.resend i := by
  unfold State.resendFrom
  dsimp only
  rw [if_pos rfl]
  split <;> simp

section
variable {s : State} {p : Port} (hup : s.linkUp p = true) (i : Nat)
include hup

theorem State.replays_resendFrom : (s.resendFrom p true i).get (portFld Reg.ELK.ERRORS.REPLAYS p) =
    min (s.get (portFld Reg.ELK.ERRORS.REPLAYS p) + 1) 255 := by
  have hcount : ∀ l, ((s.setLink p l).bump (portFld Reg.ELK.ERRORS.REPLAYS p) 1).get (portFld Reg.ELK.ERRORS.REPLAYS p) =
      min (s.get (portFld Reg.ELK.ERRORS.REPLAYS p) + 1) 255 := fun l => by
    rw [State.get_bump_self _ _ _ (by cases p <;> decide), State.get_setLink]
    cases p <;> rfl
  unfold State.resendFrom
  dsimp only
  rw [if_pos rfl]
  split
  · rw [State.get_congr (State.retrainStart_regs ?_),
      State.get_retrainCounted _ _ (by cases p <;> decide) (by cases p <;> decide) (by cases p <;> decide)]
    · exact hcount _
    · rw [State.linkUp_bump _ _ (by cases p <;> decide), State.linkUp_setLink]
      exact hup
  · exact hcount _

/-- A cell sent again a fourth time starts a retrain. -/
theorem State.linkState_resendFrom (hworn : ((s.link p).ctl.resend i).worn = true) :
    (s.resendFrom p true i).linkState p = 4 := by
  unfold State.resendFrom
  dsimp only
  rw [if_pos rfl, if_pos hworn]
  refine (State.get_congr (State.retrainStart_regs ?_) _).trans (State.linkState_retrainCounted _ _)
  rw [State.linkUp_bump _ _ (by cases p <;> decide), State.linkUp_setLink]
  exact hup

theorem exec_nak_outstanding {q : BitVec 16}
    (hq : ((s.link p).ctl.replay.findIdx? fun c => c.1.seq == BitVec.ofNat 12 q.toNat) = some i) :
    Goes (exec (.nak p true q) s) fun t => (t.link p).ctl.replay = ((s.link p).ctl.resend i).replay ∧
      t.get (portFld Reg.ELK.ERRORS.REPLAYS p) = min (s.get (portFld Reg.ELK.ERRORS.REPLAYS p) + 1) 255 ∧
      (((s.link p).ctl.resend i).worn = true → t.linkState p = 4) := by
  have he : exec (.nak p true q) s =
      .next ((s.setArrives p false (.nak (BitVec.ofNat 12 q.toNat))).resendFrom p true i) := by
    change execNak p true q s = _
    unfold execNak
    simp only [↓reduceIte, Bool.not_true, State.ctl_setArrives, LinkEnd.take, hq, hup]
  have hup1 : (s.setArrives p false (.nak (BitVec.ofNat 12 q.toNat))).linkUp p = true := by simp [State.setArrives, hup]
  rw [he, Goes_next, State.ctl_resendFrom, State.replays_resendFrom hup1, State.ctl_setArrives]
  refine ⟨rfl, by simp [State.setArrives], fun hw => State.linkState_resendFrom hup1 i ?_⟩
  rw [State.ctl_setArrives]
  exact hw

omit hup in
theorem exec_nak_other {q : BitVec 16}
    (hq : ((s.link p).ctl.replay.findIdx? fun c => c.1.seq == BitVec.ofNat 12 q.toNat) = none) :
    Goes (exec (.nak p true q) s) fun t => (t.link p).ctl.replay = (s.link p).ctl.replay ∧ t.regs = s.regs := by
  have he : exec (.nak p true q) s = .next (s.setArrives p false (.nak (BitVec.ofNat 12 q.toNat))) := by
    change execNak p true q s = _
    unfold execNak
    simp only [↓reduceIte, Bool.not_true, State.ctl_setArrives, LinkEnd.take, hq]
  rw [he, Goes_next, State.link_setArrives]
  exact ⟨rfl, State.setLink_regs _ _ _⟩

/-- The replay timer sends every outstanding cell again. -/
theorem exec_replayTimeout (hne : (s.link p).ctl.replay ≠ []) : Goes (exec (.replayTimeout p) s) fun t =>
    (t.link p).ctl.replay = (s.link p).ctl.replay.map fun c => (c.1, c.2 + 1) := by
  change Goes (execReplayTimeout p s) _
  unfold execReplayTimeout
  rw [if_pos ⟨hup, by simpa using hne⟩, Goes_next, State.ctl_resendFrom]
  exact List.ext_getElem (by simp [LinkEnd.resend]) (by simp [LinkEnd.resend])

/-! ### A CRC that fails (R104, R105). -/

theorem exec_cellCrcFail_first (hn : (s.link p).ctl.nakSent = false) : Goes (exec (.cellCrcFail p true) s) fun t =>
    t.get (portFld Reg.ELK.ERRORS.CRC_ERR p) = min (s.get (portFld Reg.ELK.ERRORS.CRC_ERR p) + 1) 65535 ∧
    (t.link p).ctl.nakSent = true ∧ (t.link p).par.sets = (s.link p).par.sets ++ [.nak (s.link p).ctl.rcvSeq] := by
  change Goes (execCellCrcFail p true s) _
  unfold execCellCrcFail
  rw [if_neg (by simp [hup])]
  simp only [State.link_count, State.link_bump, Bool.not_true, Link.rcv_false, hn, if_true]
  rw [if_neg Bool.false_ne_true, Goes_next]
  refine ⟨?_, by simp [State.link_sendSet], by simp [State.link_sendSet, LinkEnd.put]⟩
  rw [State.sendSet, State.get_setLink, State.get_setLink, State.get_count _ _ _ _ (by cases p <;> decide),
    State.get_bump_self _ _ _ (by cases p <;> decide)]
  cases p <;> rfl

theorem exec_cellCrcFail_again (hn : (s.link p).ctl.nakSent = true) :
    Goes (exec (.cellCrcFail p true) s) fun t => t.link p = s.link p := by
  change Goes (execCellCrcFail p true s) _
  unfold execCellCrcFail
  rw [if_neg (by simp [hup])]
  simp [hn, Goes_next]

/-! ### IDLE and RESP (R103, R104, R107). -/

theorem exec_idle (h : CellHdr) (hw : (s.link p).ctl.waiting = []) : Goes (exec (.idle p h) s) fun t =>
    (t.link p).ctl.replay = ((s.link p).ctl.acked h.ack).replay ∧
    (Expected s p h → h.cred ≠ 0 → (t.link p).ctl.rcvSeq = (s.link p).ctl.rcvSeq + 1 ∧
      (p ≠ .zhosel → (t.link p).cred0 = (s.link p).cred0 + h.cred.toNat % 16 ∧
        (t.link p).cred1 = (s.link p).cred1 + h.cred.toNat / 16)) ∧
    (h.seq ≠ (s.link p).ctl.rcvSeq ∨ h.cred = 0 → (t.link p).ctl.rcvSeq = (s.link p).ctl.rcvSeq ∧
      (t.link p).cred0 = (s.link p).cred0) := by
  refine (Goes_next _ _).2 ?_
  by_cases hseq : h.seq = (s.link p).ctl.rcvSeq ∧ h.cred ≠ 0
  · obtain ⟨hseq, hcred⟩ := hseq
    rw [show (h.cred != 0) = true by simpa using hcred, State.accept_expected ⟨hup, hseq⟩, State.link_setLink,
      Link.flow_nil (by simp [Link.accepted, hw])]
    exact ⟨rfl, fun _ _ => ⟨rfl, fun hp => ⟨if_neg hp, if_neg hp⟩⟩, fun ho => absurd hcred (by simpa [hseq] using ho)⟩
  · rw [not_and_or, not_not] at hseq
    rw [State.accept_other hup (by simpa using hseq), State.link_setLink, Link.flow_nil (by simp [Link.heardAck, hw])]
    refine ⟨rfl, fun he hc => ?_, fun _ => ⟨by simp [Link.heardAck], rfl⟩⟩
    obtain ⟨-, he⟩ := he
    exact absurd hc (by simpa [he] using hseq)

omit hup in
theorem exec_resp {h : CellHdr} (u st : BitVec 4) {op tag : Byte} (body : Bytes) {k : Byte × Byte × Nat}
    (he : Expected s p h) (hw : (s.link p).ctl.waiting = [])
    (hk : ((s.link p).tags.find? fun t => t.1 == tag && t.2.1 == op) = some k) (h1 : op ≠ 0x01) (hb : op ≠ 0x0B) :
    Goes (exec (.resp p h u st op tag body) s) fun t => (t.link p).tags = (s.link p).tags.erase k ∧
      (t.link p).ctl.rcvSeq = (s.link p).ctl.rcvSeq + 1 := by
  have hw1 : ((s.link p).accepted p h).ctl.waiting = [] := by simp [Link.accepted, hw]
  change Goes (execResp p h u st op tag body s) _
  unfold execResp
  rw [State.accept_expected he, Link.flow_nil hw1]
  dsimp -zeta only
  extract_lets l1
  have hl1 : l1 = (s.link p).accepted p h := State.link_setLink _ _ _
  have hk1 : (l1.tags.find? fun t => t.1 == tag && t.2.1 == op) = some k := by rw [hl1]; exact hk
  rw [hk1]
  dsimp -zeta only
  rw [if_neg (by simp)]
  extract_lets s2 n
  have hs2 : s2.link p = { l1 with tags := l1.tags.erase k } :=
    (State.link_setLink _ _ _).trans (Link.flow_nil (by rw [hl1]; exact hw1))
  have hP : ∀ t : State, t.link p = s2.link p → (t.link p).tags = (s.link p).tags.erase k ∧
      (t.link p).ctl.rcvSeq = (s.link p).ctl.rcvSeq + 1 := by
    intro t ht
    rw [ht, hs2, hl1]
    exact ⟨rfl, rfl⟩
  clear_value s2
  cases p
  case zhosel =>
    refine (Goes_next _ _).2 (hP _ ?_)
    rw [if_neg h1]
    split
    · rfl
    · split
      · exact State.link_bump _ _ _ _
      · rfl
  all_goals
    refine (Goes_next _ _).2 (hP _ ?_)
    rw [if_neg fun hc => h1 hc.1, if_neg fun hc => hb hc.1]

end

/-- Settles O20: a cell that arrives is accepted where its SEQ is the one expected (`Link.accepted`), and what is sent again is
`LinkEnd.resend` of the replay buffer. -/
theorem cellsAreDelivered : Obligations.CellsAreDelivered := fun _ _ hup =>
  ⟨fun _ i hq => exec_nak_outstanding hup i hq, fun _ hq => exec_nak_other hq, exec_cellCrcFail_first hup,
    exec_cellCrcFail_again hup, exec_replayTimeout hup, fun h hw => exec_idle hup h hw,
    fun _ u st _ _ body _ he hw hk h1 hb => exec_resp u st body he hw hk h1 hb⟩

end Sys2Proof.Machine
end

section
/-!
PROOFS. Retrains and links that go down (O21, first part): silence, block lock, and the end of a retrain (R94, R106, R122, R125).
-/

namespace Sys2Proof.Machine

/-! ### What more has been sent over a link (R104). -/

/-- From one link to the next, cells have been sent and nothing taken back: the replay buffer has grown at its end, and the
controller's expectation of a resend is what it was. -/
structure SentMore (l m : Link) : Prop where
  replay  : l.ctl.replay.map Prod.fst <+: m.ctl.replay.map Prod.fst
  nakSent : m.ctl.nakSent = l.ctl.nakSent

theorem SentMore.refl (l : Link) : SentMore l l := ⟨List.prefix_refl _, rfl⟩

theorem SentMore.trans {l m n : Link} (h : SentMore l m) (k : SentMore m n) : SentMore l n :=
  ⟨h.replay.trans k.replay, k.nakSent.trans h.nakSent⟩

theorem SentMore.of_eq {l m : Link} (h : m = l) : SentMore l m := h ▸ SentMore.refl l

/-- A cell that leaves its queue enters the replay buffer. -/
theorem Link.leave_sentMore (l : Link) (c : Cell) (rest : List Cell) :
    SentMore l (Link.leave { l with ctl := { l.ctl with waiting := rest } } c) :=
  ⟨⟨[{ c with seq := l.ctl.sndSeq }], by simp [Link.leave]⟩, rfl⟩

theorem Link.pump_sentMore (n : Nat) (l : Link) : SentMore l (Link.pump n l) := by
  induction n generalizing l with
  | zero => exact SentMore.refl l
  | succ n ih =>
    unfold Link.pump
    split
    · exact SentMore.refl l
    · split
      · exact (Link.leave_sentMore _ _ _).trans (ih _)
      · exact SentMore.refl l

theorem Link.flow_sentMore (l : Link) : SentMore l l.flow := l.pump_sentMore _

theorem State.sendCell_sentMore (s : State) (p q : Port) (c : Cell) : SentMore (s.link q) ((s.sendCell p c).link q) := by
  unfold State.sendCell
  split
  · by_cases hq : q = p
    · subst hq
      rw [State.link_setLink]
      refine SentMore.trans ?_ (Link.flow_sentMore _)
      exact ⟨List.prefix_refl _, rfl⟩
    · exact SentMore.of_eq (State.link_setLink_ne _ _ _ _ hq)
  · exact SentMore.refl _

theorem State.sendCmd_sentMore (s : State) (p q : Port) (unit opcode : Nat) (body : Bytes) :
    SentMore (s.link q) ((s.sendCmd p unit opcode body).link q) := by
  refine SentMore.trans ?_ (State.sendCell_sentMore _ _ _ _)
  by_cases hq : q = p
  · subst hq
    rw [State.link_setLink]
    exact ⟨List.prefix_refl _, rfl⟩
  · exact SentMore.of_eq (State.link_setLink_ne _ _ _ _ hq)

theorem State.assistOff_sentMore (s : State) (ch : Nat) (q : Port) : SentMore (s.link q) ((s.assistOff ch).link q) := by
  unfold State.assistOff
  split
  · exact SentMore.refl _
  · split
    · exact SentMore.refl _
    · dsimp only
      split
      · exact SentMore.of_eq (by cases q <;> rfl)
      · exact SentMore.trans (SentMore.of_eq (by cases q <;> rfl)) (State.sendCmd_sentMore _ _ _ _ _ _)

theorem State.link_putB (s : State) (f : Fld) (b : Bool) (p : Port) : (s.putB f b).link p = s.link p := by cases p <;> rfl

theorem State.pathCtrl_sentMore (s : State) (x : Act) (u : Nat) (on : Bool) (q : Port) :
    SentMore (s.link q) ((s.pathCtrl x u on).link q) := by
  have hoff : SentMore (s.link q) ((if on then s else s.assistOff (chanOf x u)).link q) := by
    split
    · exact SentMore.refl _
    · exact State.assistOff_sentMore _ _ _
  unfold State.pathCtrl
  refine hoff.trans (SentMore.trans ?_ (State.sendCmd_sentMore _ _ _ _ _ _))
  refine SentMore.trans (SentMore.of_eq ?_) (State.sendCmd_sentMore _ _ _ _ _ _)
  rw [State.link_put, State.link_putB]

@[simp] theorem State.link_requeue (s : State) (n : Nat) (r : RunCmd) (p : Port) : (s.requeue n r).link p = s.link p := by
  cases p <;> rfl

theorem State.link_foldl_requeue (n : Nat) (rs : List RunCmd) (s : State) (p : Port) :
    (rs.foldl (fun (t : State) r => t.requeue n r) s).link p = s.link p := by
  induction rs generalizing s with
  | nil => rfl
  | cons r rs ih => rw [List.foldl_cons, ih, State.link_requeue]

theorem State.channelOut_sentMore (s : State) (x : Act) (u : Nat) (out : Bool) (q : Port) :
    SentMore (s.link q) ((s.channelOut x u out).link q) := by
  unfold State.channelOut
  extract_lets ch
  split
  · exact SentMore.refl _
  · rename_i s1 s2 _
    have h1 : s1.link q = s.link q := State.link_putB _ _ _ _
    have h2 : s2.link q = s.link q := by
      simp only [s2]
      split
      · split
        · rw [State.link_foldl_requeue]
          refine Eq.trans ?_ ((State.link_count s1 0x1B ch 1 q).trans h1)
          cases q <;> rfl
        · rw [State.link_count, h1]
      · exact h1
    split
    · rw [State.link_put, ← h2]
      exact State.pathCtrl_sentMore _ _ _ _ _
    · exact SentMore.of_eq h2

theorem State.narrowChannel_touches (s : State) (x : Act) (narrow : Bool) :
    Only [.linkA, .linkB, .linkZ, .fsqs, .rwcs, .cqu, .crd, .slot 9, .slot 17, .slot 20] s (s.narrowChannel x narrow) :=
  State.narrowChannel_only s x narrow (Only.refl _ _) rfl rfl rfl rfl rfl rfl rfl rfl rfl rfl

theorem State.linkState_narrowChannel (s : State) (x : Act) (narrow : Bool) (p : Port) :
    (s.narrowChannel x narrow).linkState p = s.linkState p :=
  (s.narrowChannel_touches x narrow).get (by cases p <;> rfl)

/-! ### A retrain starts (R94, R106, R122). -/

section
variable {s : State} {p : Port} (hup : s.linkUp p = true)
include hup

theorem State.linkState_retrainStart : (s.retrainStart p).linkState p = 4 :=
  (State.get_congr (State.retrainStart_regs hup) _).trans (State.linkState_retrainCounted _ _)

theorem exec_lane0Silence : Goes (exec (.lane0Silence p) s) fun t => t.linkState p = 4 ∧
    t.get (portFld Reg.ELK.STATUS.RETRAINS p) = min (s.get (portFld Reg.ELK.STATUS.RETRAINS p) + 1) 255 ∧
    (p = .zhosel → t.rep.linkHold = true ∧ t.rep.gates = [false, false, false, false]) := by
  refine (Goes_next _ _).2 ⟨State.linkState_retrainStart hup, ?_, ?_⟩
  · exact (State.get_congr (State.retrainStart_regs hup) _).trans (State.retrains_retrainCounted _ _)
  · rintro rfl
    rw [State.retrainStart_zhosel hup]
    exact ⟨rfl, rfl⟩

theorem exec_blockLockLost {lane : Nat} (hl : lane ∈ (s.link p).lanes p false) :
    Goes (exec (.blockLockLost p false lane) s) fun t => t.linkState p = 4 ∧
      t.get (portFld Reg.ELK.ERRORS.BLK_ERR p) = min (s.get (portFld Reg.ELK.ERRORS.BLK_ERR p) + 8) 255 := by
  have hup1 : (s.bump (portFld Reg.ELK.ERRORS.BLK_ERR p) 8).linkUp p = true := by
    rw [State.linkUp_bump _ _ (by cases p <;> decide)]
    exact hup
  change Goes (execBlockLockLost p false lane s) _
  unfold execBlockLockLost
  rw [if_neg (by simp [hup, hl]), if_neg Bool.false_ne_true, Goes_next]
  refine ⟨State.linkState_retrainStart hup1, ?_⟩
  rw [State.get_congr (State.retrainStart_regs hup1),
    State.get_retrainCounted _ _ (by cases p <;> decide) (by cases p <;> decide) (by cases p <;> decide),
    State.get_bump_self _ _ _ (by cases p <;> decide)]
  cases p <;> rfl

end

/-! ### A retrain ends (R106, R125). -/

/-- A link over every lane after a retrain, before its outstanding cells leave again. -/
def Link.retrained (l : Link) : Link :=
  let fresh (e : LinkEnd) : LinkEnd := { e with replay := e.replay.map fun c => (c.1, 0), nakSent := false, sets := [] }
  ({ l with ctl := fresh l.ctl, par := fresh l.par, asideUp := none, asideDn := none } : Link).aligned

/-- The link of a port is up again over every lane. -/
def State.upAgain (s : State) (p : Port) : State :=
  (((s.setLink p (s.link p).retrained.flow).put (linkStateFld p) 2).put (portFld Reg.ELK.STATUS.UP_LANES p) 31).put
    (portFld Reg.ELK.STATUS.DN_LANES p) 3

theorem State.linkState_upAgain (s : State) (p : Port) : (s.upAgain p).linkState p = 2 :=
  (State.get_put_apart _ _ _ _ (by cases p <;> decide)).trans
    ((State.get_put_apart _ _ _ _ (by cases p <;> decide)).trans (State.linkState_put _ _ (by decide)))

/-- The outstanding cells are in the replay buffer again, in order, before any other. -/
theorem State.upAgain_sentMore (s : State) (p : Port) : SentMore (s.link p).retrained ((s.upAgain p).link p) := by
  rw [show (s.upAgain p).link p = (s.link p).retrained.flow by simp [State.upAgain]]
  exact Link.flow_sentMore _

section
variable {s : State} (now : Nat)

theorem exec_linkRetrain_ezpol {x : Act} (h4 : s.linkState x.port = 4) :
    exec (.linkRetrain x.port true 31 3 now) s = .next ((s.upAgain x.port).narrowChannel x false) := by
  change execLinkRetrain x.port true 31 3 now s = _
  unfold execLinkRetrain
  rw [if_neg (not_not_intro h4)]
  cases x <;> rfl

theorem exec_linkRetrain_zhosel (h4 : s.linkState .zhosel = 4) : exec (.linkRetrain .zhosel true 31 3 now) s =
    .next { s.upAgain .zhosel with
      spin := { s.spin with obs := { s.spin.obs with suspend := 12 } }
      servoA := { s.servoA with afterRetrain := true, withheld := true }
      servoB := { s.servoB with afterRetrain := true, withheld := true } } := by
  change execLinkRetrain .zhosel true 31 3 now s = _
  unfold execLinkRetrain
  rw [if_neg (not_not_intro h4)]
  rfl

/-- A link that is up again, and over which more has been sent since, holds the outstanding cells first. -/
theorem State.upAgain_replay {s t : State} {p : Port} (h : SentMore ((s.upAgain p).link p) (t.link p)) :
    (∃ more, (t.link p).ctl.replay.map (fun c => c.1) = (s.link p).ctl.replay.map (fun c => c.1) ++ more) ∧
      (t.link p).ctl.nakSent = false := by
  obtain ⟨⟨more, hmore⟩, hnak⟩ := (s.upAgain_sentMore p).trans h
  exact ⟨⟨more, hmore.symm.trans (by simp [Link.retrained, Link.aligned])⟩, hnak⟩

theorem exec_linkRetrain_ok {p : Port} (h4 : s.linkState p = 4) : Goes (exec (.linkRetrain p true 31 3 now) s) fun t =>
    t.linkState p = 2 ∧
    (∃ more, (t.link p).ctl.replay.map (fun c => c.1) = (s.link p).ctl.replay.map (fun c => c.1) ++ more) ∧
    (t.link p).ctl.nakSent = false ∧ (p = .zhosel → t.servoA.withheld = true ∧ t.servoB.withheld = true) := by
  have hezpol : ∀ x : Act, ((s.upAgain x.port).narrowChannel x false).linkState x.port = 2 := fun x =>
    (State.linkState_narrowChannel _ _ _ _).trans (s.linkState_upAgain _)
  cases p with
  | ezpolA =>
    obtain ⟨hmore, hnak⟩ := State.upAgain_replay (State.channelOut_sentMore (s.upAgain .ezpolA) .a 1 _ .ezpolA)
    exact ⟨_, exec_linkRetrain_ezpol now (x := .a) h4, hezpol .a, hmore, hnak, nofun⟩
  | ezpolB =>
    obtain ⟨hmore, hnak⟩ := State.upAgain_replay (State.channelOut_sentMore (s.upAgain .ezpolB) .b 1 _ .ezpolB)
    exact ⟨_, exec_linkRetrain_ezpol now (x := .b) h4, hezpol .b, hmore, hnak, nofun⟩
  | zhosel =>
    obtain ⟨hmore, hnak⟩ := State.upAgain_replay (SentMore.refl ((s.upAgain .zhosel).link .zhosel))
    exact ⟨_, exec_linkRetrain_zhosel now h4, s.linkState_upAgain .zhosel, hmore, hnak, fun _ => ⟨rfl, rfl⟩⟩

theorem State.linkState_linkDown (s : State) (p : Port) : (s.linkDown p).linkState p = 0 := by
  have h0 : ∀ l : Link, ((s.setLink p l).put (linkStateFld p) 0).linkState p = 0 :=
    fun l => State.linkState_put _ _ (by decide)
  unfold State.linkDown
  dsimp only
  split
  · exact ((State.loseAct_only (qz := [.cqu, .slot 9]) _ _ (Only.refl _ _) rfl rfl).get (by cases p <;> rfl)).trans (h0 _)
  · exact ((State.warn_only (qz := [.cqu, .slot 9]) _ _ _ (Only.refl _ _) rfl rfl).get (by cases p <;> rfl)).trans (h0 _)

theorem exec_linkRetrain_failed {p : Port} (h4 : s.linkState p = 4) :
    Goes (exec (.linkRetrain p false 31 3 now) s) fun t =>
      if ((s.link p).failedAt.filter fun k => decide (now - k ≤ 1000)).length < 2 then
        t.linkState p = 4 ∧ (t.link p).failedAt = ((s.link p).failedAt.filter fun k => decide (now - k ≤ 1000)) ++ [now]
      else t.linkState p = 0 := by
  change Goes (execLinkRetrain p false 31 3 now s) _
  unfold execLinkRetrain
  rw [if_neg (not_not_intro h4)]
  simp only [Bool.not_false, if_true, Goes_next, List.length_append, List.length_singleton]
  split
  case isTrue h =>
    rw [if_neg (by omega), State.linkState_setLink, State.link_setLink]
    exact ⟨h4, rfl⟩
  case isFalse h =>
    rw [if_pos (by omega)]
    exact State.linkState_linkDown _ _

end

theorem retrainsAndLinkDown : RetrainsAndLinkDown := fun _ _ =>
  ⟨fun hup => ⟨exec_lane0Silence hup, fun _ => exec_blockLockLost hup⟩,
    fun h4 now => ⟨exec_linkRetrain_ok now h4, exec_linkRetrain_failed now h4⟩⟩

end Sys2Proof.Machine
end

section
/-!
PROOFS. Alarms and reports (O21, second part): shock, assist faults, events, monitor and status reports, samples, and a power
failure (R111 to R113, R120, R121, R249, R252).
-/

namespace Sys2Proof.Machine

/-! ### Write gates (R22, R113). -/

theorem modifyAt_getElem? {α : Type} (l : List α) (n : Nat) (f : α → α) (k : Nat) :
    (modifyAt l n f)[k]? = if k = n then l[k]?.map f else l[k]? := by
  induction l generalizing n k with
  | nil => simp [modifyAt]
  | cons a l ih =>
    cases n with
    | zero => cases k <;> simp [modifyAt]
    | succ n => cases k <;> simp [modifyAt, ih]

theorem setAt_getElem? {α : Type} (l : List α) (n : Nat) (v : α) (k : Nat) :
    (setAt l n v)[k]? = if k = n then l[k]?.map fun _ => v else l[k]? := modifyAt_getElem? _ _ _ _

/-- A gate is closed; one that no list holds is closed. -/
def GateClosed (g : List Bool) (k : Nat) : Prop := g.getD k false = false

theorem GateClosed.setAt_self (g : List Bool) (k : Nat) : GateClosed (setAt g k false) k := by
  unfold GateClosed
  rw [List.getD_eq_getElem?_getD, setAt_getElem?, if_pos rfl]
  cases g[k]? <;> rfl

theorem GateClosed.setAt {g : List Bool} {k : Nat} (h : GateClosed g k) (n : Nat) : GateClosed (setAt g n false) k := by
  by_cases hk : k = n
  · subst hk
    exact GateClosed.setAt_self g k
  · unfold GateClosed
    rw [List.getD_eq_getElem?_getD, setAt_getElem?, if_neg hk, ← List.getD_eq_getElem?_getD]
    exact h

/-- The gates after the units of a mask have stopped. -/
def gatesStopped (g : List Bool) (x : Act) (mask : Nat) : List Bool :=
  let g0 := if mask.testBit 0 then setAt g (chanOf x 0) false else g
  if mask.testBit 1 then setAt g0 (chanOf x 1) false else g0

/-- One unit's format sequencer deasserts its write gate. -/
def State.stopUnit (t : State) (x : Act) (u : Nat) : State :=
  let t1 : State := { t with rep := { t.rep with gates := setAt t.rep.gates (chanOf x u) false } }
  match t1.fsqs[chanOf x u]? with
  | some f => if t.rep.gates.getD (chanOf x u) false then t1.setFsq (chanOf x u) { f with stopped := true } else t1
  | none => t1

theorem State.rep_stopUnit (t : State) (x : Act) (u : Nat) :
    (t.stopUnit x u).rep = { t.rep with gates := setAt t.rep.gates (chanOf x u) false } := by
  unfold State.stopUnit
  dsimp only
  split
  · split <;> rfl
  · rfl

theorem State.stopUnits_eq (s : State) (x : Act) (mask : Nat) : s.stopUnits x mask =
    let s0 := if mask.testBit 0 then s.stopUnit x 0 else s
    if mask.testBit 1 then s0.stopUnit x 1 else s0 := by
  have h : s.stopUnits x mask = [0, 1].foldl (fun t u => if !mask.testBit u then t else t.stopUnit x u) s := rfl
  rw [h]
  cases h0 : mask.testBit 0 <;> cases h1 : mask.testBit 1 <;> simp [h0, h1]

theorem State.rep_stopUnits (s : State) (x : Act) (mask : Nat) :
    (s.stopUnits x mask).rep = { s.rep with gates := gatesStopped s.rep.gates x mask } := by
  rw [State.stopUnits_eq]
  unfold gatesStopped
  cases h0 : mask.testBit 0 <;> cases h1 : mask.testBit 1 <;> simp [State.rep_stopUnit]

theorem State.rep_stopWrites (s : State) (x : Act) (mask : Nat) : (s.stopWrites x mask).rep = (s.stopUnits x mask).rep := by
  unfold State.stopWrites
  dsimp only
  split
  · rfl
  · exact (State.setLink_rep _ _ _).trans (State.free_rep _)

theorem gatesStopped_both (g : List Bool) (x : Act) (u : Nat) (hu : u < 2) : GateClosed (gatesStopped g x 3) (chanOf x u) := by
  change GateClosed (setAt (setAt g (chanOf x 0) false) (chanOf x 1) false) (chanOf x u)
  interval_cases u
  · exact (GateClosed.setAt_self _ _).setAt _
  · exact GateClosed.setAt_self _ _

theorem GateClosed.gatesStopped {g : List Bool} {k : Nat} (h : GateClosed g k) (x : Act) (mask : Nat) :
    GateClosed (gatesStopped g x mask) k := by
  unfold Machine.gatesStopped
  dsimp only
  split <;> split
  · exact (h.setAt _).setAt _
  · exact h.setAt _
  · exact h.setAt _
  · exact h

/-- Both write gates of an actuator are closed once its writes are stopped. -/
theorem State.stopWrites_closed (s : State) (x : Act) {u : Nat} (hu : u < 2) :
    GateClosed (s.stopWrites x 3).rep.gates (chanOf x u) := by
  rw [State.rep_stopWrites, State.rep_stopUnits]
  exact gatesStopped_both _ _ _ hu

theorem State.stopWrites_touches (s : State) (x : Act) (mask : Nat) :
    Only [.linkA, .linkB, .linkZ, .rep, .fsqs, .freeCount] s (s.stopWrites x mask) :=
  State.stopWrites_only s x mask (Only.refl _ _) rfl rfl rfl rfl rfl rfl

/-! ### Parts of the state by actuator. -/

@[simp] theorem State.servo_setServo (s : State) (x : Act) (v : ServoAct) : (s.setServo x v).servo x = v := by cases x <;> rfl

@[simp] theorem State.servo_put (s : State) (f : Fld) (v : Nat) (x : Act) : (s.put f v).servo x = s.servo x := by cases x <;> rfl

/-! ### Alarms (R99, R113, R249). -/

section
variable {s : State} (now : Nat)

theorem State.shockAlarm_effect (s : State) (x : Act) : ((s.shockAlarm x).servo x).shock = true ∧
    ((s.shockAlarm x).servo x).withheld = true ∧ (s.shockAlarm x).get (Reg.SLE.ACT_STATUS.PERMIT x.num) = 0 ∧
    GateClosed (s.shockAlarm x).rep.gates (chanOf x 0) ∧ GateClosed (s.shockAlarm x).rep.gates (chanOf x 1) := by
  have hrep : (s.shockAlarm x).rep = (s.stopWrites x 3).rep := by
    unfold State.shockAlarm
    simp
  unfold GateClosed
  rw [hrep]
  refine ⟨?_, ?_, State.get_put_self _ _ _ (by cases x <;> decide), s.stopWrites_closed x (by decide),
    s.stopWrites_closed x (by decide)⟩ <;> unfold State.shockAlarm <;> simp

theorem exec_alm_shock (x : Act) : Goes (exec (.alm .zhosel 0x20 (BitVec.ofNat 8 (2 ^ x.num)) 0xDF now) s) fun t =>
    (t.servo x).shock = true ∧ (t.servo x).withheld = true ∧ t.get (Reg.SLE.ACT_STATUS.PERMIT x.num) = 0 ∧
    t.rep.gates.getD (chanOf x 0) false = false ∧ t.rep.gates.getD (chanOf x 1) false = false := by
  have he : exec (.alm .zhosel 0x20 (BitVec.ofNat 8 (2 ^ x.num)) 0xDF now) s =
      .next ((s.setArrives .zhosel false (.alm 0x20 (BitVec.ofNat 8 (2 ^ x.num)))).shockAlarm x) := by cases x <;> rfl
  rw [he, Goes_next]
  exact State.shockAlarm_effect _ x

/-- An assist event shows in EAC.STATUS. -/
theorem State.fault_assistEvent (s : State) (h now : Nat) : (s.assistEvent h now).get Reg.EAC.STATUS.FAULT = 1 := by
  have h1 : ∀ t : State, ((t.put Reg.EAC.STATUS.FAULT 1).put Reg.EAC.STATUS.FAULT_HEAD h).get Reg.EAC.STATUS.FAULT = 1 :=
    fun t => (State.get_put_apart _ _ _ _ (by decide)).trans (State.get_put_self _ _ _ (by decide))
  have hdue : (Reg.EAC.HEAD.RECAL_DUE h).apart Reg.EAC.STATUS.FAULT = true := by
    simp [Fld.apart, Reg.EAC.HEAD.RECAL_DUE, Reg.EAC.STATUS.FAULT]
  unfold State.assistEvent
  dsimp only
  split
  · exact h1 _
  · split
    · exact (State.get_put_apart _ _ _ _ hdue).trans (h1 _)
    · exact h1 _

theorem State.fault_foldl_assistEvent (x : Act) (now : Nat) {us : List Nat} (hne : us ≠ []) (s : State) :
    (us.foldl (fun t u => t.assistEvent (t.unitHead x u) now) s).get Reg.EAC.STATUS.FAULT = 1 := by
  obtain ⟨us, u, rfl⟩ := us.eq_nil_or_concat.resolve_left hne
  rw [List.concat_eq_append, List.foldl_append]
  exact State.fault_assistEvent _ _ _

theorem exec_alm_assist (x : Act) {m : Byte} (hm : m.toNat % 4 ≠ 0) : Goes (exec (.alm x.port 0x03 m 0xFC now) s) fun t =>
    t.get Reg.EAC.STATUS.FAULT = 1 := by
  have he : exec (.alm x.port 0x03 m 0xFC now) s = .next (((List.range 2).filter fun u => m.getLsbD u).foldl
      (fun t u => t.assistEvent (t.unitHead x u) now)
      ((s.setArrives x.port false (.alm 0x03 m)).stopUnits x (m.toNat % 4))) := by cases x <;> rfl
  rw [he, Goes_next]
  refine State.fault_foldl_assistEvent x now (fun h => hm ?_) _
  have h0 : m.getLsbD 0 = false := by simpa using List.filter_eq_nil_iff.1 h 0 (by decide)
  have h1 : m.getLsbD 1 = false := by simpa using List.filter_eq_nil_iff.1 h 1 (by decide)
  refine Nat.eq_of_testBit_eq fun i => ?_
  rw [testBit_mod_four, Nat.zero_testBit]
  by_cases hi : i < 2
  · rw [decide_eq_true hi, Bool.true_and]
    interval_cases i
    · exact h0
    · exact h1
  · rw [decide_eq_false hi, Bool.false_and]

theorem exec_alm_wrong (p : Port) {a m c : Byte} (hc : c ≠ a ^^^ 0xFF) : Goes (exec (.alm p a m c now) s) fun t =>
    t.regs = s.regs ∧ t.rep = s.rep := by
  change Goes (execAlm p a m c now s) _
  unfold execAlm
  rw [if_pos hc, Goes_next]
  exact ⟨State.setLink_regs _ _ _, State.setLink_rep _ _ _⟩

end

/-! ### Events (R111, R252). -/

section
variable {s : State} {x : Act} {h : CellHdr} (he : Expected s x.port h) (d : BitVec 16) (w : Word) (now : Nat) (k : Byte)
include he

theorem exec_event_eq (code : Byte) : exec (.event x.port h code k d w now) s =
    .next ((s.setLink x.port ((s.link x.port).accepted x.port h).flow).feEventCode x code.toNat k.toNat now) := by
  change execEvent x.port h code k d w now s = _
  unfold execEvent
  rw [State.accept_expected he]
  cases x <;> rfl

omit he in
theorem mem_insertNat_self (n : Nat) (l : List Nat) : n ∈ insertNat n l := by
  induction l with
  | nil => exact List.mem_singleton_self n
  | cons m l ih =>
    unfold insertNat
    split
    · exact List.mem_cons_self
    · split
      case isTrue hm => exact hm ▸ List.mem_cons_self
      case isFalse => exact List.mem_cons_of_mem _ ih

omit he in
/-- A head found bad before P10 is marked as retired (R58, R252). -/
theorem State.badHead_retired {s : State} {h : Nat} (hp : s.phase < 11) : h ∈ (s.badHead h).stripe.retired := by
  have hr : s.retireInStart h = { s with stripe := { s.stripe with retired := insertNat h s.stripe.retired } } := if_pos hp
  unfold State.badHead
  rw [hr]
  dsimp only
  split
  · exact mem_insertNat_self _ _
  · rw [State.bootCode_stripe]
    exact mem_insertNat_self _ _

omit he in
/-- An open head: its writes stop, and it is bad (R252). -/
theorem State.feEventCode_open (s : State) (x : Act) (head now : Nat) :
    ∃ mask, s.feEventCode x 0x01 head now = (s.stopWrites x mask).badHead (12 * x.num + head) := ⟨_, rfl⟩

omit he in
/-- A hot front end: its writes stop, and the temperature of the event is kept (R252). -/
theorem State.feEventCode_hot (s : State) (x : Act) (head now : Nat) : ∃ v, s.feEventCode x 0x07 head now =
    { s.free.2.stopWrites x 3 with
      media := { (s.free.2.stopWrites x 3).media with hot := setAt (s.free.2.stopWrites x 3).media.hot x.num (some v) } } :=
  ⟨_, rfl⟩

theorem exec_event_open (hp : s.phase < 11) : Goes (exec (.event x.port h 0x01 k d w now) s) fun t =>
    12 * x.num + k.toNat ∈ t.stripe.retired := by
  rw [exec_event_eq he, Goes_next]
  obtain ⟨mask, hmask⟩ := (s.setLink x.port ((s.link x.port).accepted x.port h).flow).feEventCode_open x k.toNat now
  refine (congrArg (fun t : State => _ ∈ t.stripe.retired) hmask).mpr (State.badHead_retired ?_)
  rw [State.phase, (State.stopWrites_touches _ _ _).get rfl, State.get_setLink]
  exact hp

theorem exec_event_hot (hl : s.media.hot.length = 2) : Goes (exec (.event x.port h 0x07 k d w now) s) fun t =>
    (t.media.hot.getD x.num none).isSome = true ∧ t.rep.gates.getD (chanOf x 0) false = false := by
  rw [exec_event_eq he, Goes_next]
  obtain ⟨v, hv⟩ := (s.setLink x.port ((s.link x.port).accepted x.port h).flow).feEventCode_hot x k.toNat now
  rw [show BitVec.toNat (7 : Byte) = 7 from rfl, hv]
  refine ⟨?_, State.stopWrites_closed _ x (by decide)⟩
  have hx : x.num < (s.media.hot).length := by rw [hl]; cases x <;> decide
  rw [List.getD_eq_getElem?_getD, setAt_getElem?, if_pos rfl, (State.stopWrites_touches _ _ _).media rfl, State.free_media,
    State.setLink_media, List.getElem?_eq_getElem hx]
  rfl

end

/-! ### Monitor and status reports (R112, R120, R181, R249). -/

/-- A monitor report is kept. -/
def Reports.withMon (r : Reports) (x : Act) (m : MonBody) : Reports :=
  match x with
  | .a => { r with monA := some m }
  | .b => { r with monB := some m }

/-- The monitor report kept of a front end. -/
def Reports.mon (r : Reports) : Act → Option MonBody
  | .a => r.monA
  | .b => r.monB

@[simp] theorem Reports.mon_withMon (r : Reports) (x : Act) (m : MonBody) : (r.withMon x m).mon x = some m := by
  cases x <;> rfl

theorem exec_mon_eq {s : State} {x : Act} {h : CellHdr} (he : Expected s x.port h) (m : MonBody) :
    ∃ (t : State), t.rep = s.rep.withMon x m ∧
      exec (.mon x h m) s = .next ((t.monDrift x 0 m.unit0).monDrift x 1 m.unit1) := by
  change ∃ t : State, t.rep = s.rep.withMon x m ∧ execMon x h m s = _
  unfold execMon
  rw [State.accept_expected he]
  refine ⟨_, ?_, rfl⟩
  cases x <;> dsimp only <;> split <;> rfl

theorem exec_mon {s : State} {x : Act} {h : CellHdr} (he : Expected s x.port h) (m : MonBody) :
    Goes (exec (.mon x h m) s) fun t => t.rep.mon x = some m := by
  have hdrift : ∀ (t : State) (u : Nat) (v : MonUnit), (t.monDrift x u v).rep = t.rep := fun t u v =>
    (State.monDrift_only (qz := [.media, .slot 19]) t x u v (Only.refl _ _) rfl rfl).rep rfl
  obtain ⟨t, hrep, hexec⟩ := exec_mon_eq he m
  rw [hexec, Goes_next, hdrift, hdrift, hrep]
  exact Reports.mon_withMon _ _ _

/-- What an MSTAT cell that shows an actuator retracted, or does not, makes of the actuator (R122, R181). -/
def State.mstatAct (t : State) (x : Act) (ret : Bool) : State :=
  if !ret then t
  else if (t.servo x).unloading ∧ t.actState x = 6 then
    ((t.setServo x { t.servo x with unloading := false }).toAct x 0).count 0x21 x.num 1
  else t.retracted x

theorem exec_mstat_eq {s : State} {h : CellHdr} (he : Expected s .zhosel h) (m : MstatBody) : ∃ l : Link,
    exec (.mstat h m) s = .next ((({ s.setLink .zhosel l with rep := { s.rep with mstat := some m } } : State).mstatAct .a
      m.retA).mstatAct .b m.retB) := by
  refine ⟨((s.link .zhosel).accepted .zhosel h).flow, ?_⟩
  change execMstat h m s = _
  unfold execMstat
  rw [State.accept_expected he]
  rfl

theorem State.mstat_mstatAct (t : State) (x : Act) (ret : Bool) : (t.mstatAct x ret).rep.mstat = t.rep.mstat := by
  unfold State.mstatAct
  split
  · rfl
  · split
    · simp [State.toAct]
    · unfold State.retracted
      split
      · simp [State.toAct, State.microOff, State.rep_stopUnits, State.closeGates]
      · rfl

theorem State.get_toAct (s : State) (x : Act) (n : Nat) {f : Fld} (h1 : (Reg.SLE.ACT_STATUS.STATE x.num).apart f = true)
    (h2 : (Reg.SLE.ACT_STATUS.PERMIT x.num).apart f = true) : (s.toAct x n).get f = s.get f := by
  unfold State.toAct
  dsimp only
  split
  · exact State.get_put_apart _ _ _ _ h1
  · exact (State.get_put_apart _ _ _ _ h2).trans (State.get_put_apart _ _ _ _ h1)

theorem State.actState_toAct (s : State) (x : Act) {n : Nat} (hn : n < 8) : (s.toAct x n).actState x = n := by
  have h1 : (s.put (Reg.SLE.ACT_STATUS.STATE x.num) n).actState x = n :=
    (State.get_put_self _ _ _ (by cases x <;> decide)).trans (Nat.mod_eq_of_lt hn)
  unfold State.toAct
  dsimp only
  split
  · exact h1
  · exact (State.get_put_apart _ _ _ _ (by cases x <;> decide)).trans h1

theorem State.get_microOff (s : State) (x : Act) {f : Fld} (h1 : (Reg.SLE.ACT_STATUS.U0_MODE x.num).apart f = true)
    (h2 : (Reg.SLE.ACT_STATUS.U1_MODE x.num).apart f = true) : (s.microOff x).get f = s.get f :=
  (State.get_put_apart _ _ _ _ h2).trans ((State.get_put_apart _ _ _ _ h1).trans
    (State.get_congr (State.setServo_regs _ _ _) f))

theorem State.get_stopUnits (s : State) (x : Act) (mask : Nat) (f : Fld) : (s.stopUnits x mask).get f = s.get f :=
  (State.stopUnits_only (qz := [.rep, .fsqs]) s x mask (Only.refl _ _) rfl rfl).get rfl

/-- An actuator that the chip has retracted leaves the state of the other. -/
theorem State.actState_retracted (s : State) {x y : Act} (h : y ≠ x) : (s.retracted x).actState y = s.actState y := by
  have hapart : (Reg.SLE.ACT_STATUS.STATE x.num).apart (Reg.SLE.ACT_STATUS.STATE y.num) = true ∧
      (Reg.SLE.ACT_STATUS.PERMIT x.num).apart (Reg.SLE.ACT_STATUS.STATE y.num) = true ∧
      (Reg.SLE.ACT_STATUS.U0_MODE x.num).apart (Reg.SLE.ACT_STATUS.STATE y.num) = true ∧
      (Reg.SLE.ACT_STATUS.U1_MODE x.num).apart (Reg.SLE.ACT_STATUS.STATE y.num) = true := by
    revert h
    cases x <;> cases y <;> decide
  obtain ⟨hs, hp, h0, h1⟩ := hapart
  unfold State.retracted
  split
  · refine (State.get_count _ _ _ _ (by cases y <;> decide)).trans ((State.get_toAct _ _ _ hs hp).trans
      ((State.get_microOff _ _ h0 h1).trans ?_))
    exact (State.get_congr (State.setServo_regs _ _ _) _).trans (State.get_stopUnits _ _ _ _)
  · rfl

/-- What is shown of one actuator leaves the state of the other. -/
theorem State.actState_mstatAct (t : State) {x y : Act} (h : y ≠ x) (ret : Bool) :
    (t.mstatAct x ret).actState y = t.actState y := by
  unfold State.mstatAct
  split
  · rfl
  · split
    · refine (State.get_count _ _ _ _ (by cases y <;> decide)).trans ((State.get_toAct _ _ _ ?_ ?_).trans
        (State.get_congr (State.setServo_regs _ _ _) _)) <;> (revert h; cases x <;> cases y <;> decide)
    · exact State.actState_retracted t h

/-- An actuator that unloads and shows retracted is unloaded (R181). -/
theorem State.actState_mstatAct_unloaded {t : State} {x : Act} (hu : (t.servo x).unloading = true) (h6 : t.actState x = 6) :
    (t.mstatAct x true).actState x = 0 := by
  unfold State.mstatAct
  rw [if_neg (by simp), if_pos ⟨hu, h6⟩]
  exact (State.get_count _ _ _ _ (by cases x <;> decide)).trans (State.actState_toAct _ _ (by decide))

theorem exec_mstat {s : State} {h : CellHdr} (he : Expected s .zhosel h) (m : MstatBody) :
    Goes (exec (.mstat h m) s) fun t => t.rep.mstat = some m ∧
      (m.retA = true → s.servoA.unloading = true → s.actState .a = 6 → t.actState .a = 0) := by
  obtain ⟨l, hl⟩ := exec_mstat_eq he m
  rw [hl, Goes_next, State.mstat_mstatAct, State.mstat_mstatAct, State.actState_mstatAct _ (by decide)]
  refine ⟨rfl, fun hr hu h6 => ?_⟩
  rw [hr]
  exact State.actState_mstatAct_unloaded hu h6

/-! ### Samples (R109). -/

theorem Rwc.next_adaptEq (c : Rwc) (move : Bool) : (c.adaptEq move).next = c.next := by
  unfold Rwc.adaptEq
  split
  · rfl
  · dsimp only
    split <;> rfl

theorem Rwc.next_bit (lb4 : Bool) (f : SmplFlags) (acc : Rwc × Nat) (b : ChanBit) :
    (Rwc.bit lb4 f acc b).1.next = acc.1.next := by
  unfold Rwc.bit
  dsimp only
  split
  · rfl
  · exact Rwc.next_adaptEq _ _

theorem Rwc.next_foldl_bit (lb4 : Bool) (f : SmplFlags) (bs : List ChanBit) (acc : Rwc × Nat) :
    (bs.foldl (Rwc.bit lb4 f) acc).1.next = acc.1.next := by
  induction bs generalizing acc with
  | nil => rfl
  | cons b bs ih => rw [List.foldl_cons, ih, Rwc.next_bit]

theorem exec_smpl {s : State} {x : Act} {h : CellHdr} (he : Expected s x.port h) (u : Fin 2) (f : SmplFlags) (w : Word)
    (xs : List Int) (bs : List ChanBit) {c : Rwc} (hc : s.rwcs[chanOf x u.val]? = some c) :
    Goes (exec (.smpl x h u f w xs bs) s) fun t =>
      (t.rwcs[chanOf x u.val]?).map (fun c => c.next) = some (w + BitVec.ofNat 32 xs.length) := by
  change Goes (execSmpl x h u f w xs bs s) _
  unfold execSmpl
  rw [State.accept_expected he]
  dsimp only
  rw [State.setLink_rwcs, hc]
  dsimp only
  rw [Goes_next]
  have hnext : ∀ lb4, (bs.foldl (Rwc.bit lb4 f) (c.take w xs, 0)).1.trim.next = w + BitVec.ofNat 32 xs.length :=
    fun lb4 => Rwc.next_foldl_bit lb4 f bs _
  split <;> simp [State.bump, setAt_getElem?, hc, hnext]

/-! ### Power failure (R121, R274). -/

/-- An actuator of a drive that loses its power is retracted, and counted where it was on the disc. -/
def State.retractCounted (t : State) (x : Act) : State :=
  if [1, 2, 3, 4, 5].contains (t.actState x) then (t.retractAct x).count 0x22 x.num 1 else t.retractAct x

/-- PFAIL before the save: every unit stopped, both actuators retracted. -/
def State.pfailRetracted (s : State) : State :=
  ((((s.setArrives .zhosel false .pfail).stopUnits .a 3).stopUnits .b 3).retractCounted .a).retractCounted .b

/-- PFAIL before the save: also the DMA channels outside its path paused, and the chip on its own. -/
def State.pfailStopped (s : State) : State :=
  { s.pfailRetracted with
    dma := { s.pfailRetracted.dma with paused := true }
    motion := { s.pfailRetracted.motion with mode := 3, powerFail := true }
    buf := { s.pfailRetracted.buf with scrubS := none, scrubD := none } }

theorem exec_pfail_eq {s : State} (hp : s.dma.paused = false) : exec .pfail s = .next s.pfailStopped.saveIfWarm := by
  change execPfail s = _
  unfold execPfail
  extract_lets s0
  have h0 : s0.dma = s.dma := State.setLink_dma _ _ _
  rw [if_neg (by rw [h0, hp]; exact Bool.false_ne_true)]
  rename_i s1 one s2 _ _ _ s3
  have hone : one = State.retractCounted := rfl
  have h2 : s2 = s.pfailRetracted := by
    simp only [s2, hone]
    rfl
  clear_value s2
  subst h2
  rfl

@[simp] theorem State.rep_motCmd (s : State) (unit op : Nat) (b : Bytes) : (s.motCmd unit op b).rep = s.rep :=
  (State.motCmd_only (qz := [.linkA, .linkB, .linkZ]) s unit op b (Only.refl _ _) rfl rfl rfl).rep rfl

@[simp] theorem State.rep_toAct (s : State) (x : Act) (n : Nat) : (s.toAct x n).rep = s.rep := by
  unfold State.toAct
  dsimp only
  split <;> rfl

@[simp] theorem State.rep_microOff (s : State) (x : Act) : (s.microOff x).rep = s.rep := State.setServo_rep _ _ _

theorem State.rep_retractCounted (s : State) (x : Act) :
    (s.retractCounted x).rep = { s.rep with gates := gatesStopped s.rep.gates x 3 } := by
  have h : (s.retractAct x).rep = { s.rep with gates := gatesStopped s.rep.gates x 3 } := by
    unfold State.retractAct
    simp [State.rep_stopWrites, State.rep_stopUnits]
  unfold State.retractCounted
  split
  · rw [State.count_rep, h]
  · exact h

theorem State.retractCounted_touches (s : State) (x : Act) : Only [.linkA, .linkB, .linkZ, .rep, .fsqs, .freeCount, .servoA,
    .servoB, .cqu, .crd, .slot 9, .slot 20] s (s.retractCounted x) := by
  have h := State.retractAct_only (qz := [.linkA, .linkB, .linkZ, .rep, .fsqs, .freeCount, .servoA, .servoB, .cqu, .crd,
    .slot 9, .slot 20]) s x (Only.refl _ _) rfl rfl rfl rfl rfl rfl rfl rfl rfl
  unfold State.retractCounted
  split
  · exact State.count_only _ _ _ _ h rfl rfl rfl
  · exact h

/-- A power failure changes nothing of the start before the save. -/
theorem State.warm_pfailStopped (s : State) :
    s.pfailStopped.flag Reg.NST.START.WARM_VALID = s.flag Reg.NST.START.WARM_VALID := by
  have hregs : s.pfailStopped.regs = s.pfailRetracted.regs := by unfold State.pfailStopped; rfl
  refine State.flag_congr ((State.get_congr hregs _).trans ?_)
  unfold State.pfailRetracted
  rw [(State.retractCounted_touches _ _).get rfl, (State.retractCounted_touches _ _).get rfl, State.get_stopUnits,
    State.get_stopUnits]
  exact State.get_setLink _ _ _ _

/-- The gates of both actuators are closed by then. -/
theorem State.gates_pfailStopped (s : State) (x : Act) {u : Nat} (hu : u < 2) :
    GateClosed s.pfailStopped.rep.gates (chanOf x u) := by
  have h : ∃ g, s.pfailStopped.rep.gates = gatesStopped (gatesStopped g .a 3) .b 3 := by
    change ∃ g, s.pfailRetracted.rep.gates = _
    unfold State.pfailRetracted
    rw [State.rep_retractCounted, State.rep_retractCounted]
    exact ⟨_, rfl⟩
  obtain ⟨g, hg⟩ := h
  rw [hg]
  cases x
  · exact (gatesStopped_both g .a u hu).gatesStopped _ _
  · exact gatesStopped_both _ .b u hu

theorem exec_pfail {s : State} (hp : s.dma.paused = false) : Goes (exec .pfail s) fun t => t.dma.paused = true ∧
    t.motion.powerFail = true ∧ t.rep.gates.getD 0 false = false ∧ t.rep.gates.getD 3 false = false ∧
    (s.flag Reg.NST.START.WARM_VALID = true → t.chest.saving = true) := by
  have hsave : Only [.stripe, .chest, .crd, .slot 4] s.pfailStopped s.pfailStopped.saveIfWarm :=
    State.saveIfWarm_only _ (Only.refl _ _) rfl rfl rfl rfl
  rw [exec_pfail_eq hp, Goes_next, hsave.dma rfl, hsave.motion rfl, hsave.rep rfl]
  refine ⟨rfl, rfl, ?_, ?_, fun hw => ?_⟩
  · exact s.gates_pfailStopped .a (u := 0) (by decide)
  · exact s.gates_pfailStopped .b (u := 1) (by decide)
  · unfold State.saveIfWarm
    rw [if_pos (s.warm_pfailStopped.trans hw)]
    rfl

theorem alarmsAndReports : AlarmsAndReports := fun _ now =>
  ⟨exec_alm_shock now, fun x _ => exec_alm_assist now x, fun p _ _ _ => exec_alm_wrong now p,
    fun _ _ d w he => ⟨fun k _ => exec_event_open he d w now k, fun k => exec_event_hot he d w now k⟩,
    fun x _ m he => by cases x <;> exact exec_mon he m, fun _ m he => exec_mstat he m,
    fun _ _ u f w xs bs _ he hc => exec_smpl he u f w xs bs hc, exec_pfail⟩

/-- Settles O21: a link's silence and failed retrains by the registers of its retrain, what a retrain sends again by `SentMore`,
and each alarm or report by the state it leaves of its actuator. -/
theorem linkFailures : Obligations.LinkFailures := ⟨retrainsAndLinkDown, alarmsAndReports⟩

end Sys2Proof.Machine
end

section
/-!
PROOFS. Two statements about links that fail in a concrete state (O15, O56): the first command over an Ezpol link that comes up
narrow (R115, R123), and an Ezpol link in the loopback LB4 (R126).
-/

namespace Sys2Proof.Machine

/-! ### An Ezpol link that comes up narrow (R115, R123). -/

/-- The link of port A trains, and unit 1 of actuator A supplies position. -/
def trainingWithUnit1 : State := (State.reset.put (Reg.ELK.STATUS.STATE 0) 1).put (Reg.SLE.ACT_STATUS.U1_ON 0) 1

/-- With one uplink lane missing, channel 1 leaves service: PATH_CTRL to unit 1 goes out before IDENT. -/
theorem exec_ezpolLinkUp_trainingWithUnit1 : Goes (exec (.ezpolLinkUp .a 0b01111 3) trainingWithUnit1) fun t =>
    ((t.link .ezpolA).ctl.replay.map fun c => (c.1.typ, c.1.param, c.1.seq)) = [(0x10, 0x05, 0), (0x10, 0x101, 1)] :=
  ⟨_, rfl, by decide⟩

/-- Refutes O15: a link that comes up narrow while unit 1 supplies position takes that unit's read path off first, so IDENT is
the second command over it. -/
theorem not_linksTrain : ¬ Obligations.LinksTrain := by
  unfold Obligations.LinksTrain
  intro ⟨hup, _⟩
  obtain ⟨-, hezpol⟩ := hup trainingWithUnit1
  obtain ⟨t, hclaim, hreplay⟩ := (hezpol .a (by decide) 0b01111 3).both exec_ezpolLinkUp_trainingWithUnit1
  dsimp only at hclaim
  rw [if_neg (by decide)] at hclaim
  obtain ⟨-, -, -, hident, -⟩ := hclaim
  exact absurd (hident.symm.trans hreplay) (by decide)

/-! ### LB4 of an Ezpol link (R126). -/

/-- A reset drive in manufacturing mode: both actuators are unloaded. -/
def manufacturing : State := State.reset.put Reg.RCU.STRAPS.BOOT_SRC 3

/-- A write of DEPTH 4 and RUN starts the loopback, whose cells travel over the link. -/
theorem exec_elkLoopback_manufacturing : Goes (exec (.elkLoopback .ezpolA 0x14) manufacturing) fun t =>
    t.linkUp .ezpolA = true := ⟨_, rfl, by decide⟩

/-- Refutes O56: an Ezpol link in the loopback LB4 passes cells while RUN stands. -/
theorem not_loopbacksAndTestPort : ¬ Obligations.LoopbacksAndTestPort := by
  unfold Obligations.LoopbacksAndTestPort
  intro h
  obtain ⟨hmfg, -⟩ := h manufacturing
  obtain ⟨-, hlink, -⟩ := hmfg (by decide) 0x14
  obtain ⟨t, ⟨-, hclaim⟩, hup⟩ := (hlink .ezpolA (by decide) (by decide)).both exec_elkLoopback_manufacturing
  rw [if_pos (by decide)] at hclaim
  obtain ⟨-, hdown, -⟩ := hclaim
  exact absurd (hup.symm.trans hdown) (by decide)

end Sys2Proof.Machine
end

section
/-!
PROOFS. Runs on the format sequencers (O28): the run that a sequencer takes from its FIFO, and the end of a run (R197 to R200, R216,
R243).
-/

namespace Sys2Proof.Machine

/-! ### The start of a run (R199, R223, R245). -/

/-- The value written at an index of a list that is long enough is what the list then holds there. -/
theorem setAt_getD_self {α : Type} {l : List α} {n : Nat} (hn : n < l.length) (v d : α) : (setAt l n v).getD n d = v := by
  rw [List.getD_eq_getElem?_getD, setAt_getElem?, if_pos rfl, List.getElem?_eq_getElem hn]
  rfl

/-- A sequencer reads as what was put in its place. -/
theorem State.setFsq_getElem?_self {s : State} {n : Nat} {f : Fsq} (hf : s.fsqs[n]? = some f) (g : Fsq) :
    (s.setFsq n g).fsqs[n]? = some g := by
  rw [State.setFsq, setAt_getElem?, if_pos rfl, hf]
  rfl

/-- A write of a field leaves the registers of the other slots. -/
theorem State.get_put_of_slot_ne (s : State) {f g : Fld} (v : Nat) (h : f.slot ≠ g.slot) : (s.put f v).get g = s.get g := by
  have hkey : f.key ≠ g.key := fun hk => h (by rw [← Fld.key_slot, hk, Fld.key_slot])
  exact State.get_put_apart _ _ _ _ (by simp [Fld.apart, hkey])

theorem fsqState_fits (n : Nat) : (Reg.FSQ.STATUS.STATE n).lo + (Reg.FSQ.STATUS.STATE n).width ≤ 32 := by
  simp [Reg.FSQ.STATUS.STATE]

/-- Before the sequencer takes a run up, its start loads the channel and sends the unit's commands: no gate, sequencer or
sequencer register changes. -/
theorem State.startRun_opens (s : State) (n : Nat) (r : RunCmd) :
    ∃ u, Only [.linkA, .linkB, .linkZ, .servoA, .servoB, .rwcs, .freeCount, .slot 19] s u ∧ s.startRun n r = u.runOpen n r := by
  unfold State.startRun
  extract_lets again turn s1
  have h1 : Only [.linkA, .linkB, .linkZ, .servoA, .servoB, .rwcs, .freeCount, .slot 19] s s1 :=
    State.rereadTrim_only _ _ _ (State.runHead_only _ _ _ _ (State.runLoad_only _ _ _ (Only.refl _ _) rfl rfl rfl rfl)
      rfl rfl rfl rfl rfl) rfl rfl
  refine ⟨_, ?_, rfl⟩
  split
  · exact State.writeArmCmd_only _ _ _ h1 rfl rfl rfl rfl
  · exact h1

theorem State.get_runOpen_state (u : State) (n : Nat) (r : RunCmd) : (u.runOpen n r).get (Reg.FSQ.STATUS.STATE n) =
    if r.kind = 5 then 6 else if r.kind = 1 ∨ r.kind = 4 then 3 else if r.kind = 2 then 4 else 2 := by
  unfold State.runOpen
  extract_lets rep s1 st
  rw [State.get_put_of_slot_ne _ _ (show 17 ≠ 16 by decide), State.get_put_self _ _ _ (fsqState_fits n)]
  simp only [st]
  split
  · rfl
  · split
    · rfl
    · split <;> rfl

theorem State.startRun_state (s : State) (n : Nat) (r : RunCmd) : (s.startRun n r).get (Reg.FSQ.STATUS.STATE n) =
    if r.kind = 5 then 6 else if r.kind = 1 ∨ r.kind = 4 then 3 else if r.kind = 2 then 4 else 2 := by
  obtain ⟨u, -, hu⟩ := s.startRun_opens n r
  rw [hu, State.get_runOpen_state]

theorem State.startRun_cur {s : State} {n : Nat} {g : Fsq} (hg : s.fsqs[n]? = some g) (r : RunCmd) :
    ((s.startRun n r).fsqs[n]?).map (fun f => (f.cur, f.done)) = some (some r, 0) := by
  obtain ⟨u, hsu, hu⟩ := s.startRun_opens n r
  have hfsqs : (u.runOpen n r).fsqs = modifyAt u.fsqs n _ := rfl
  rw [hu, hfsqs, modifyAt_getElem?, if_pos rfl, hsu.fsqs rfl, hg]
  rfl

/-- A run that writes opens its write gate. -/
theorem State.startRun_gate {s : State} {n : Nat} {r : RunCmd} (hw : runWrites r = true) (hn : n < s.rep.gates.length) :
    (s.startRun n r).rep.gates.getD n false = true := by
  obtain ⟨u, hsu, hu⟩ := s.startRun_opens n r
  have hgates : (u.runOpen n r).rep.gates = if runWrites r then setAt u.rep.gates n true else u.rep.gates := rfl
  rw [hu, hgates, if_pos hw, hsu.rep rfl]
  exact setAt_getD_self hn _ _

/-! ### The run that a sequencer takes (R197 to R199, R216). -/

/-- A halted sequencer does nothing (R216). -/
theorem exec_fsqRun_halted {s : State} {n : Fin 4} (h5 : s.get (Reg.FSQ.STATUS.STATE n) = 5) (permits : List Bool)
    (sectors : List SectorObs) (fetches : List FetchObs) : exec (.fsqRun n permits sectors fetches) s = .next s :=
  if_pos (Or.inl h5)

/-- A sequencer in service that meets no sector yet takes up its run. -/
theorem exec_fsqRun_takes {s : State} {n : Fin 4} (h5 : s.get (Reg.FSQ.STATUS.STATE n) ≠ 5) (hout : s.chanOut n = false) :
    exec (.fsqRun n [] [] []) s = .next (s.takeRun n) :=
  if_neg (by simp [h5, hout])

/-- The sequencer of a run just taken from its FIFO. -/
def Fsq.took (f : Fsq) (r : RunCmd) (rest : List RunCmd) : Fsq :=
  { f with fifo := rest, cur := some r, done := 0, slot := r.firstSlot.toNat }

/-- The sequencer that passes over a run of no known kind: the report says so (R198). -/
def Fsq.passedOver (f : Fsq) (r : RunCmd) (rest : List RunCmd) : Fsq :=
  { f with fifo := rest, report := some ⟨r.tag, 0xF, r.firstSlot.toNat, 0, false⟩ }

section
variable {s : State} {n : Nat} {f : Fsq} {r : RunCmd} {rest : List RunCmd} (hf : s.fsqs[n]? = some f) (hc : f.cur = none)
  (hq : f.fifo = r :: rest)
include hf hc hq

theorem State.takeRun_unknown (hk : 6 ≤ r.kind.toNat) :
    s.takeRun n = (s.setFsq n (f.passedOver r rest)).pulse (9 + 2 * n) := by
  simp only [State.takeRun, hf, hc, hq, ge_iff_le, if_pos hk, Fsq.passedOver]

theorem State.takeRun_known (hk : r.kind.toNat < 6) : s.takeRun n =
    if (s.setFsq n (f.took r rest)).mayStart n r then (s.setFsq n (f.took r rest)).startRun n r
    else (s.setFsq n (f.took r rest)).put (Reg.FSQ.STATUS.STATE n) 1 := by
  simp only [State.takeRun, hf, hc, hq, ge_iff_le, if_neg (Nat.not_le.2 hk)]
  rfl

end

section
variable {s : State} {n : Fin 4} {f : Fsq} {r : RunCmd} {rest : List RunCmd} (hf : s.fsqs[n.val]? = some f)
  (h5 : s.get (Reg.FSQ.STATUS.STATE n) ≠ 5) (hout : s.chanOut n = false) (hc : f.cur = none) (hq : f.fifo = r :: rest)
include hf h5 hout hc hq

/-- A run of no known kind is reported and passed over (R198). -/
theorem exec_fsqRun_unknown (hk : 6 ≤ r.kind.toNat) :
    Goes (exec (.fsqRun n [] [] []) s) fun t => t.fsqs[n.val]? = some (f.passedOver r rest) := by
  rw [exec_fsqRun_takes h5 hout, Goes_next, State.takeRun_unknown hf hc hq hk, State.pulse_fsqs]
  exact State.setFsq_getElem?_self hf _

/-- A run whose start condition is met starts (R199). -/
theorem exec_fsqRun_starts (hk : r.kind.toNat < 6) (hm : (s.setFsq n (f.took r rest)).mayStart n r = true) :
    exec (.fsqRun n [] [] []) s = .next ((s.setFsq n (f.took r rest)).startRun n r) := by
  rw [exec_fsqRun_takes h5 hout, State.takeRun_known hf hc hq hk, if_pos hm]

/-- A run whose start condition is not met waits for its slot (R199). -/
theorem exec_fsqRun_waits (hk : r.kind.toNat < 6) (hm : ¬ (s.setFsq n (f.took r rest)).mayStart n r = true) :
    exec (.fsqRun n [] [] []) s = .next ((s.setFsq n (f.took r rest)).put (Reg.FSQ.STATUS.STATE n) 1) := by
  rw [exec_fsqRun_takes h5 hout, State.takeRun_known hf hc hq hk, if_neg hm]

end

/-- A run that waits for its slot counts one more revolution. -/
theorem exec_missedRevolution {s : State} {n : Fin 4} (h1 : s.get (Reg.FSQ.STATUS.STATE n) = 1) :
    exec (.missedRevolution n) s = .next (s.bump (Reg.FSQ.COUNTS.MISSED_REV n) 1) := if_pos h1

/-! ### The end of a run (R199, R200). -/

/-- The sequencer of a run that has ended, with its report. -/
def Fsq.ended (f : Fsq) (r : RunCmd) : Fsq :=
  { f with cur := none, wbits := [], stopped := false, report := some ⟨r.tag, f.status, f.slot, f.done, f.stopped⟩ }

/-- The sequencer of a run that ends is idle, its report written and its gate closed. -/
def State.runIdle (s : State) (n : Nat) (f : Fsq) (r : RunCmd) : State :=
  ({ s.setFsq n (f.ended r) with rep := { s.rep with gates := setAt s.rep.gates n false } } : State).put
    (Reg.FSQ.STATUS.STATE n) 0

/-- As `runIdle`, with the channel idle, the trim of the unit taken back and the line pulsed. -/
def State.runClosed (s : State) (n : Nat) (f : Fsq) (r : RunCmd) : State :=
  (((s.runIdle n f r).put (Reg.RWC.STATUS.STATE n) 1).mapUnit (chanAct n) (n % 2) fun w => { w with trim := 0 }).pulse (9 + 2 * n)

theorem State.runClosed_touches (s : State) (n : Nat) (f : Fsq) (r : RunCmd) :
    Only [.servoA, .servoB, .dma, .slot 13, .slot 17] (s.runIdle n f r) (s.runClosed n f r) :=
  State.pulse_only _ _ (State.mapUnit_only _ _ _ _ (State.put_only _ _ _ (Only.refl _ _) rfl) rfl rfl) rfl rfl

/-- What the end of a run leaves of its sequencer: idle, with its gate closed and its report written. -/
structure RunEnded (n : Nat) (f : Fsq) (r : RunCmd) (t : State) : Prop where
  state : t.get (Reg.FSQ.STATUS.STATE n) = 0
  gate  : t.rep.gates.getD n false = false
  fsq   : t.fsqs[n]? = some (f.ended r)

/-- What touches no gate, no sequencer and no sequencer register leaves an ended run as it is. -/
theorem RunEnded.of_only {n : Nat} {f : Fsq} {r : RunCmd} {s t : State} (h : RunEnded n f r s) {ps : List Part}
    (hst : Only ps s t) (h16 : Part.of ps (.slot 16) = false) (hrep : Part.of ps .rep = false)
    (hfsqs : Part.of ps .fsqs = false) : RunEnded n f r t :=
  ⟨(hst.get h16).trans h.state, by rw [hst.rep hrep]; exact h.gate, by rw [hst.fsqs hfsqs]; exact h.fsq⟩

theorem State.runClosed_ended {s : State} {n : Nat} {f : Fsq} (hf : s.fsqs[n]? = some f) (r : RunCmd) :
    RunEnded n f r (s.runClosed n f r) := by
  have hidle : RunEnded n f r (s.runIdle n f r) :=
    ⟨State.get_put_self _ _ _ (fsqState_fits _), GateClosed.setAt_self _ _, State.setFsq_getElem?_self hf _⟩
  exact hidle.of_only (s.runClosed_touches n f r) rfl rfl rfl

/-- A stopped write is counted, and its set ends with it (R53, R200). -/
def State.stopCounted (t : State) (n : Nat) (r : RunCmd) : State :=
  let t1 := (t.bump (Reg.RWC.COUNTS.STOPPED n) 1).count 0x109 (12 * (chanAct n).num + r.head.toNat) 1
  if (t1.dma.streams.getD n .reset).active.isSome then t1.streamEnd n else t1

theorem State.stopCounted_touches (t : State) (n : Nat) (r : RunCmd) :
    Only [.dma, .cqu, .crd, .slot 9, .slot 13, .slot 17] t (t.stopCounted n r) := by
  have h1 : Only [.dma, .cqu, .crd, .slot 9, .slot 13, .slot 17] t
      ((t.bump (Reg.RWC.COUNTS.STOPPED n) 1).count 0x109 (12 * (chanAct n).num + r.head.toNat) 1) :=
    State.count_only _ _ _ _ (State.bump_only _ _ _ (Only.refl _ _) rfl) rfl rfl rfl
  unfold State.stopCounted
  dsimp only
  split
  · exact State.streamEnd_only _ _ h1 rfl rfl
  · exact h1

theorem State.requeue_mem (t : State) (n : Nat) (r : RunCmd) : ∃ q ∈ (t.requeue n r).cqu.runs, q.run = r :=
  ⟨_, List.mem_append_right _ (List.mem_singleton_self _), rfl⟩

section
variable {s : State} {n : Fin 4} {f : Fsq} {r : RunCmd} (hf : s.fsqs[n.val]? = some f) (hr : f.cur = some r)
  (h2 : 2 ≤ s.get (Reg.FSQ.STATUS.STATE n)) (h5 : s.get (Reg.FSQ.STATUS.STATE n) ≠ 5)
include hf hr h2 h5

/-- Where the run in progress is done or stopped, it ends. -/
theorem exec_runEnd_eq (hend : f.stopped = true ∨ r.count ≤ f.done) : exec (.runEnd n) s = .next
    (if runWrites r = true ∧ r.kind ≠ 5 then
      if f.stopped then ((s.runClosed n f r).stopCounted n r).requeue n r else s.runClosed n f r
    else if r.kind ≠ 5 ∧ (s.runClosed n f r).runClean n r then (s.runClosed n f r).learnEntry n else s.runClosed n f r) := by
  change execRunEnd n s = _
  have hgo : ¬ (s.get (Reg.FSQ.STATUS.STATE n) < 2 ∨ s.get (Reg.FSQ.STATUS.STATE n) = 5 ∨
      ((!f.stopped) = true ∧ f.done < r.count)) := by
    rintro (h | h | ⟨hs, hd⟩)
    · omega
    · exact h5 h
    · simp only [Bool.not_eq_true'] at hs
      simp only [hs, Bool.false_eq_true, false_or] at hend
      omega
  unfold execRunEnd
  simp only [hf, hr]
  rw [if_neg hgo, apply_ite Host.Outcome.next, apply_ite Host.Outcome.next, apply_ite Host.Outcome.next]
  rfl

/-- A run that is done ends; of a read, the channel table may take what the loops learned (R227). -/
theorem exec_runEnd_done (hs : f.stopped = false) (hd : r.count ≤ f.done) :
    Goes (exec (.runEnd n) s) (RunEnded n f r) := by
  have hended := State.runClosed_ended hf r
  rw [exec_runEnd_eq hf hr h2 h5 (Or.inr hd), Goes_next, hs]
  split
  · exact hended
  · split
    · exact hended.of_only (State.learnEntry_only (qz := [.media]) _ _ (Only.refl _ _) rfl) rfl rfl rfl
    · exact hended

/-- A write that was stopped ends too, and goes back to the media scheduler whole. -/
theorem exec_runEnd_stopped (hs : f.stopped = true) (hk : r.kind = 1) :
    Goes (exec (.runEnd n) s) fun t => RunEnded n f r t ∧ ∃ q ∈ t.cqu.runs, q.run = r := by
  have hw : runWrites r = true ∧ r.kind ≠ 5 := by simp [runWrites, hk]
  rw [exec_runEnd_eq hf hr h2 h5 (Or.inl hs), Goes_next, if_pos hw, if_pos hs]
  refine ⟨?_, State.requeue_mem _ _ _⟩
  exact (State.runClosed_ended hf r).of_only
    (State.requeue_only _ _ _ (State.stopCounted_touches _ _ _) rfl) rfl rfl rfl

end

/-- Settles O28: a run taken from the FIFO is passed over, starts by `startRun` or waits; one that ends leaves `RunEnded`. -/
theorem runsOnTheSequencers : Obligations.RunsOnTheSequencers := by
  unfold Obligations.RunsOnTheSequencers
  refine fun s n f hf => ⟨exec_fsqRun_halted, fun r rest h5 hout hc hq => ⟨fun hk => ?_, fun hk => ?_⟩, fun h1 => ?_,
    fun r hr h2 h5 => ⟨fun hs hd => ?_, fun hs hk => ?_⟩⟩
  · refine (exec_fsqRun_unknown hf h5 hout hc hq hk).imp fun t ht => ?_
    simp [ht, Fsq.passedOver, hc]
  · have htook := State.setFsq_getElem?_self hf (f.took r rest)
    by_cases hm : (s.setFsq n (f.took r rest)).mayStart n r = true
    · rw [exec_fsqRun_starts hf h5 hout hc hq hk hm, Goes_next]
      refine ⟨State.startRun_cur htook r, (if_pos hm).mpr ?_⟩
      exact ⟨State.startRun_state _ _ _, fun hw hl => State.startRun_gate hw (n.isLt.trans_eq hl.symm)⟩
    · rw [exec_fsqRun_waits hf h5 hout hc hq hk hm, Goes_next]
      refine ⟨by rw [State.put_fsqs, htook]; rfl, (if_neg hm).mpr ?_⟩
      exact ⟨State.get_put_self _ _ _ (fsqState_fits _), rfl⟩
  · rw [exec_missedRevolution h1, Goes_next]
    exact ⟨State.get_bump_self _ _ _ (by simp [Reg.FSQ.COUNTS.MISSED_REV]), rfl⟩
  · refine (exec_runEnd_done hf hr h2 h5 hs hd).imp fun t ⟨hstate, hgate, hfsq⟩ => ⟨hstate, hgate, ?_⟩
    simp [hfsq, Fsq.ended, hs]
  · exact (exec_runEnd_stopped hf hr h2 h5 hs hk).imp fun t ⟨ht, hq⟩ => ⟨ht.state, ht.gate, hq⟩

end Sys2Proof.Machine
end

section
/-!
PROOFS. The decoder pool (O29): the engine it grants, the counts of a decode that ends, the entries that expire and the engines it
removes (R233 to R237, R239).
-/

namespace Sys2Proof.Machine

/-! ### The pool's counters. -/

/-- A counter that counts one more, saturating (R14). -/
def Counted (f : Fld) (s t : State) : Prop := t.get f = min (s.get f + 1) (2 ^ f.width - 1)

theorem Counted.of_bump (s : State) {f : Fld} (hf : f.lo + f.width ≤ 32) : Counted f s (s.bump f 1) :=
  State.get_bump_self _ _ _ hf

/-- What reads the counter as before on both sides of the count keeps it. -/
theorem Counted.congr {f : Fld} {s s' t t' : State} (h : Counted f s t) (hs : s.get f = s'.get f) (ht : t'.get f = t.get f) :
    Counted f s' t' := by
  unfold Counted at *
  rw [ht, h, hs]

/-! ### Sectors that hold no entry (R239, R240, R253). -/

/-- From `s` to `t` no assist head changes, and a sector that enters or changes occupies no entry of the retry store. -/
structure Released (s t : State) : Prop where
  assist  : t.media.assist = s.media.assist
  sectors : ∀ y ∈ t.media.sectors, y ∈ s.media.sectors ∨ y.stored = false

theorem Released.of_media {s t : State} (h : t.media = s.media) : Released s t where
  assist := congrArg Media.assist h
  sectors _ hy := .inl (h ▸ hy)

theorem Released.refl (s : State) : Released s s := .of_media rfl

theorem Released.trans {s t u : State} (h : Released s t) (k : Released t u) : Released s u where
  assist := k.assist.trans h.assist
  sectors y hy := (k.sectors y hy).elim (h.sectors y) Or.inr

theorem Released.foldl {α : Type} {s : State} (f : State → α → State) (l : List α) (h : ∀ t a, Released t (f t a)) :
    Released s (l.foldl f s) := by
  induction l generalizing s with
  | nil => exact .refl s
  | cons a l ih => exact (h s a).trans ih

/-- What is left of sectors that hold no entry holds none. -/
theorem Released.stored {s t : State} (h : Released s t) {p : LdpSector → Prop}
    (hs : ∀ y ∈ s.media.sectors, p y → y.stored = false) : ∀ y ∈ t.media.sectors, p y → y.stored = false :=
  fun y hy hp => (h.sectors y hy).elim (fun hy => hs y hy hp) id

theorem State.mem_setSector {s : State} {x y : LdpSector} (hy : y ∈ (s.setSector x).media.sectors) :
    y = x ∨ y ∈ s.media.sectors ∧ ¬ (y.ch = x.ch ∧ y.tag = x.tag ∧ y.idx = x.idx) := by
  obtain ⟨z, hz, rfl⟩ := List.mem_map.1 hy
  split
  · exact .inl rfl
  · exact .inr ⟨hz, ‹_›⟩

theorem State.setSector_mem {s : State} {x y : LdpSector} (hy : y ∈ s.media.sectors)
    (hk : y.ch = x.ch ∧ y.tag = x.tag ∧ y.idx = x.idx) : x ∈ (s.setSector x).media.sectors :=
  List.mem_map.2 ⟨y, hy, if_pos hk⟩

theorem State.setSector_released {s : State} {x : LdpSector} (hx : x.stored = false) : Released s (s.setSector x) where
  assist := rfl
  sectors _ hy := (State.mem_setSector hy).elim (fun h => .inr (h ▸ hx)) fun h => .inl h.1

theorem State.mem_dropSector {s : State} {x y : LdpSector} (hy : y ∈ (s.dropSector x).media.sectors) :
    y ∈ s.media.sectors ∧ ¬ (y.ch = x.ch ∧ y.tag = x.tag ∧ y.idx = x.idx) := by
  obtain ⟨hm, hk⟩ := List.mem_filter.1 hy
  exact ⟨hm, by simpa [-not_and, not_and_or, or_assoc] using hk⟩

theorem State.dropSector_released (s : State) (x : LdpSector) : Released s (s.dropSector x) where
  assist := rfl
  sectors _ hy := .inl (State.mem_dropSector hy).1

theorem State.queueReread_released (s : State) (x : LdpSector) : Released s (s.queueReread x) :=
  (State.setSector_released rfl).trans
    (.of_media rfl)

theorem State.fillPlaces_released (s : State) : Released s s.fillPlaces :=
  .foldl _ _ fun t x => by
    split
    · exact t.queueReread_released x
    · exact .refl t

theorem State.toStep8_released (s : State) (x : LdpSector) : Released s (s.toStep8 x) := by
  unfold State.toStep8
  extract_lets media cqu s1 fsns y stripe s2
  have h2 : Released s s2 := ⟨rfl, fun z hz => .inl hz⟩
  refine h2.trans (Released.trans ?_ (State.fillPlaces_released _))
  split
  · have hreloc : (((s2.dropSector y).bin 2 x.head 9).relocDue y).media = ((s2.dropSector y).bin 2 x.head 9).media :=
      (State.relocDue_only (qz := [.stripe]) _ _ (Only.refl _ _) rfl).media rfl
    exact (s2.dropSector_released y).trans (.of_media (hreloc.trans (State.bin_media _ _ _ _)))
  · exact State.setSector_released rfl

theorem State.headToStep8_released (s : State) (h : Nat) : Released s (s.headToStep8 h) :=
  .foldl _ _ fun t x => t.toStep8_released x

theorem State.retireHead_released (s : State) (h : Nat) : Released s (s.retireHead h) := by
  unfold State.retireHead
  split
  · exact .refl s
  · extract_lets cqu s1 s2 hit stripe s3 s4 crd s5
    have h1 : Released s s1 := .of_media rfl
    have h2 : Released s s2 := (h1.trans (s1.headToStep8_released h)).trans (.of_media rfl)
    have h4 : s4.media = s3.media :=
      (foldl_only (ps := [.stripe]) _ _ (fun t z ht => State.restartMove_only t z h ht rfl) (Only.refl _ _)).media rfl
    have h5 : (s5.asyncEvent 7 2 0xC4).redundancy.media = (s5.asyncEvent 7 2 0xC4).media :=
      (State.redundancy_only (qz := [.cqu, .slot 9]) _ (Only.refl _ _) rfl rfl).media rfl
    exact h2.trans (.of_media (h5.trans ((s5.asyncEvent_media _ _ _).trans h4)))

theorem State.retireInStart_released (s : State) (h : Nat) : Released s (s.retireInStart h) := by
  unfold State.retireInStart
  split
  · exact .of_media rfl
  · exact s.retireHead_released h

theorem State.headCheck_released (s : State) (h : Nat) : Released s (s.headCheck h) := by
  unfold State.headCheck
  split
  · exact .refl s
  · extract_lets n
    split
    · exact s.retireInStart_released h
    · exact .refl s

/-! ### Grants (R234). -/

theorem State.nextGrant_mem {s : State} {x : LdpSector} (h : s.nextGrant = some x) : x ∈ s.media.sectors := by
  unfold State.nextGrant at h
  extract_lets otf at h
  split at h
  · split at h
    · exact List.mem_of_find?_eq_some h
    · exact absurd h (by simp)
  · exact (List.mem_filter.1 (List.mem_of_find?_eq_some h)).1

/-- While a first decode waits, the sector granted is one (R234). -/
theorem State.nextGrant_first {s : State} {x y : LdpSector} (h : s.nextGrant = some x) (hy : y ∈ s.media.sectors)
    (hw : y.waiting = true) (hf : y.first = true) : x.first = true := by
  have hmem : y ∈ s.media.sectors.filter fun x => x.waiting && x.first := List.mem_filter.2 ⟨hy, by simp [hw, hf]⟩
  unfold State.nextGrant at h
  extract_lets otf at h
  rw [if_neg (mt List.isEmpty_iff.1 (List.ne_nil_of_mem hmem))] at h
  have hx : x.waiting = true ∧ x.first = true := by
    simpa using (List.mem_filter.1 (List.mem_of_find?_eq_some h)).2
  exact hx.2

theorem exec_decoderGrant {s : State} {e : Nat} {x : LdpSector} (he : s.freeEngine = some e) (hx : s.nextGrant = some x) :
    exec .decoderGrant s = .next (s.setSector
      { x with engine := some e, waiting := false, iters := if x.first then s.otfLimit else x.iters }) := by
  show execDecoderGrant s = _
  simp only [execDecoderGrant, he, hx]

/-! ### The end of a decode (R233, R235). -/

/-- A decode whose CRC fails under a zero syndrome is counted (R233). -/
def State.miscorrected (s : State) (x : LdpSector) : State := (s.bump Reg.LDP.COUNTS.MISCORR 1).count 0x107 x.head 1

/-- A first decode that fails is counted (R235). -/
def State.firstFailed (s : State) (x : LdpSector) : State :=
  if x.first then (s.bump Reg.LDP.COUNTS.OTF_FAIL 1).count 0x102 x.head 1 else s

/-- The sweeps of a first decode that reached a zero syndrome enter their histogram (R476). -/
def State.sweepsBinned (s : State) (x : LdpSector) (iters : Nat) : State :=
  if x.first && !x.loop then s.bin 3 x.ch (min 5 (iters - 1)) else s

theorem State.miscorrected_counted (s : State) (x : LdpSector) : Counted Reg.LDP.COUNTS.MISCORR s (s.miscorrected x) :=
  (Counted.of_bump s (by decide)).congr rfl (State.get_count _ _ _ _ (by decide))

theorem State.firstFailed_counted {s : State} {x : LdpSector} (h : x.first = true) :
    Counted Reg.LDP.COUNTS.OTF_FAIL s (s.firstFailed x) := by
  rw [State.firstFailed, if_pos h]
  exact (Counted.of_bump s (by decide)).congr rfl (State.get_count _ _ _ _ (by decide))

theorem State.get_firstFailed_miscorr (s : State) (x : LdpSector) :
    (s.firstFailed x).get Reg.LDP.COUNTS.MISCORR = s.get Reg.LDP.COUNTS.MISCORR := by
  unfold State.firstFailed
  split
  · rw [State.get_count _ _ _ _ (by decide), State.get_bump_apart _ _ _ _ (by decide)]
  · rfl

theorem State.get_sweepsBinned (s : State) (x : LdpSector) (iters : Nat) {f : Fld} (hf : f.slot = 18) :
    (s.sweepsBinned x iters).get f = s.get f := by
  unfold State.sweepsBinned
  split
  · exact (State.bin_only (qz := [.cqu, .crd, .slot 9]) _ _ _ _ (Only.refl _ _) rfl rfl rfl).get (by rw [hf]; rfl)
  · rfl

/-- A sector whose decode failed has left its engine. -/
def LdpSector.undecoded (x : LdpSector) (zero : Bool) (otf : Nat) : LdpSector :=
  { x with
    first := false, engine := none, more := if x.first && !zero then otf - x.iters else x.more,
    trials := if x.first && zero && x.mark.isSome then [] else x.trials }

/-- A sector whose decode failed goes on, and its head is checked (R240, R242). -/
def State.goesOn (s : State) (x : LdpSector) (zero : Bool) : State :=
  (s.decodeFailed (x.undecoded zero s.otfIter)).headCheck x.head

/-- The pool's registers are not touched by the next step of a sector and the check of its head. -/
theorem State.get_goesOn (s : State) (x : LdpSector) (zero : Bool) {f : Fld} (hf : f.slot = 18) :
    (s.goesOn x zero).get f = s.get f :=
  (State.headCheck_only (qz := [.media, .stripe, .cqu, .crd, .slot 9, .slot 16]) _ _
    (State.decodeFailed_only _ _ (Only.refl _ _) rfl rfl rfl rfl rfl rfl) rfl rfl rfl rfl rfl).get (by rw [hf]; rfl)

theorem State.get_pulse (s : State) (k : Nat) {f : Fld} (hf : f.slot ≠ 13) : (s.pulse k).get f = s.get f :=
  (State.pulse_only (qz := [.dma, .slot 13]) _ _ (Only.refl _ _) rfl rfl).get (by simpa [Part.of] using hf)

section
variable {s : State} {e : Fin 6} {x : LdpSector} (hx : (s.media.sectors.find? fun y => y.engine == some e.val) = some x)
include hx

/-- A decode in an engine in trouble is made again (R237). -/
theorem exec_decodeEnd_parity (z : Bool) (k : Nat) (p : Bytes) (c : Word) (now : Nat) :
    exec (.decodeEnd e z k p c 1 now) s = .next (((s.pulse (20 + e.val)).removeEngine e.val 1).decodeAgain x) := by
  show execDecodeEnd _ _ _ _ _ _ _ _ = _
  simp [execDecodeEnd, hx]

variable (hstep : x.step < 8)
include hstep

theorem exec_decodeEnd_miscorrected {p : Bytes} {c : Word} (hc : sectorCrc (padTo 4096 p) x.dlba x.kind ≠ c) (k now : Nat) :
    exec (.decodeEnd e true k p c 0 now) s =
      .next (((((s.pulse (20 + e.val)).miscorrected x).firstFailed x).sweepsBinned x k).goesOn x true) := by
  change execDecodeEnd _ _ _ _ _ _ _ _ = _
  simp [execDecodeEnd, hx, Nat.ne_of_lt hstep, beq_false_of_ne hc, State.miscorrected, State.firstFailed, State.sweepsBinned,
    State.goesOn, LdpSector.undecoded]

theorem exec_decodeEnd_nonzero (k : Nat) (p : Bytes) (c : Word) (now : Nat) :
    exec (.decodeEnd e false k p c 0 now) s = .next (((s.pulse (20 + e.val)).firstFailed x).goesOn x false) := by
  change execDecodeEnd _ _ _ _ _ _ _ _ = _
  simp [execDecodeEnd, hx, Nat.ne_of_lt hstep, State.firstFailed, State.goesOn, LdpSector.undecoded]

/-- A good sector of a loopback goes to its row and leaves the pool. -/
theorem exec_decodeEnd_loop (hl : x.loop = true) (k : Nat) (p : Bytes) (now : Nat) :
    exec (.decodeEnd e true k p (sectorCrc (padTo 4096 p) x.dlba x.kind) 0 now) s =
      .next (((s.pulse (20 + e.val)).postRow x p).dropSector x) := by
  show execDecodeEnd _ _ _ _ _ _ _ _ = _
  simp [execDecodeEnd, hx, Nat.ne_of_lt hstep, hl, State.deliverSector]

end

/-! ### Entries that expire (R239). -/

theorem exec_retryStoreExpire {s : State} {ch : Fin 4} {g : Word} {i : Nat} {x : LdpSector}
    (hx : (s.media.sectors.find? fun y => y.ch == ch.val && y.tag == g && y.idx == i && y.stored) = some x) :
    exec (.retryStoreExpire ch g i) s =
      .next (((s.bump Reg.LDP.COUNTS.EXPIRED 1).expireEntry x).headCheck x.head) := by
  show execRetryStoreExpire _ _ _ _ = _
  simp only [execRetryStoreExpire, hx]

theorem State.get_expireEntry_headCheck (s : State) (y : LdpSector) (h : Nat) {f : Fld} (hf : f.slot = 18) :
    ((s.expireEntry y).headCheck h).get f = s.get f :=
  (State.headCheck_only (qz := [.media, .stripe, .cqu, .crd, .slot 9, .slot 16]) _ _
    (State.expireEntry_only _ _ (Only.refl _ _) rfl rfl rfl rfl rfl rfl) rfl rfl rfl rfl rfl).get (by rw [hf]; rfl)

/-- The entry of a sector in an engine is free while the decode in progress goes on. -/
theorem State.expireEntry_freed {s : State} {x : LdpSector} (he : x.engine.isSome = true) :
    ∀ y ∈ (s.expireEntry x).media.sectors, (y.ch = x.ch ∧ y.tag = x.tag ∧ y.idx = x.idx) → y.stored = false := by
  intro y hy hk
  rw [State.expireEntry, if_pos he] at hy
  rcases State.mem_setSector hy with rfl | ⟨-, hne⟩
  · rfl
  · exact absurd hk hne

/-! ### Engines removed (R237). -/

/-- A power of two added to a number without its bit sets that bit alone. -/
theorem testBit_add_two_pow {m e : Nat} (h : m.testBit e = false) (i : Nat) :
    (m + 2 ^ e).testBit i = (m.testBit i || decide (i = e)) := by
  induction e generalizing m i with
  | zero =>
    have h2 : m % 2 = 0 := by simpa [Nat.testBit_zero] using h
    cases i with
    | zero => simp [Nat.testBit_zero]; omega
    | succ i => simp [Nat.testBit_succ, show (m + 1) / 2 = m / 2 by omega]
  | succ e ih =>
    cases i with
    | zero => simp [Nat.testBit_zero, Nat.pow_succ]
    | succ i =>
      have h2 : (m + 2 ^ (e + 1)) / 2 = m / 2 + 2 ^ e := by omega
      rw [Nat.testBit_succ] at h
      simp [Nat.testBit_succ, h2, ih h]

/-- A bit added below the top of a field leaves it within the field. -/
theorem add_two_pow_lt {m e n : Nat} (hm : m < 2 ^ n) (he : e < n) (h : m.testBit e = false) : m + 2 ^ e < 2 ^ n :=
  Nat.lt_pow_two_of_testBit _ fun i hi => by
    rw [testBit_add_two_pow h, Nat.testBit_lt_two_pow (hm.trans_le (Nat.pow_le_pow_right (by decide) hi))]
    simp; omega

theorem State.get_lt (s : State) (f : Fld) : s.get f < 2 ^ f.width := Nat.mod_lt _ (Nat.two_pow_pos _)

/-- Engine `e` is removed (R255). -/
def State.engineOut (s : State) (e : Nat) : Bool := (s.get Reg.LDP.ENGINES.REMOVED).testBit e

/-- Engine `e` is in service (R255). -/
def State.engineIn (s : State) (e : Nat) : Bool := (s.get Reg.LDP.ENGINES.IN_SERVICE).testBit e

section
variable {s : State} {e : Nat} (he : e < 6) (hout : s.engineOut e = false) (cause : Nat)
include hout

theorem State.removeEngine_eq : s.removeEngine e cause =
    (((s.put Reg.LDP.ENGINES.REMOVED (s.get Reg.LDP.ENGINES.REMOVED + 2 ^ e)).put Reg.LDP.ENGINES.IN_SERVICE
      (0x3F - (s.get Reg.LDP.ENGINES.REMOVED + 2 ^ e))).put Reg.LDP.ENGINES.CAUSE cause).count 0x1A 0 1 := by
  rw [State.removeEngine]
  exact if_neg (by simpa [State.engineOut] using hout)

theorem State.get_removeEngine_cause (hc : cause < 8) : (s.removeEngine e cause).get Reg.LDP.ENGINES.CAUSE = cause := by
  rw [State.removeEngine_eq hout, State.get_count _ _ _ _ (by decide), State.get_put_self _ _ _ (by decide)]
  exact Nat.mod_eq_of_lt hc

include he

theorem State.get_removeEngine_removed :
    (s.removeEngine e cause).get Reg.LDP.ENGINES.REMOVED = s.get Reg.LDP.ENGINES.REMOVED + 2 ^ e := by
  rw [State.removeEngine_eq hout, State.get_count _ _ _ _ (by decide), State.get_put_apart _ _ _ _ (by decide),
    State.get_put_apart _ _ _ _ (by decide), State.get_put_self _ _ _ (by decide)]
  exact Nat.mod_eq_of_lt (add_two_pow_lt (s.get_lt _) he hout)

theorem State.get_removeEngine_inService : (s.removeEngine e cause).get Reg.LDP.ENGINES.IN_SERVICE =
    0x3F - (s.removeEngine e cause).get Reg.LDP.ENGINES.REMOVED := by
  rw [State.get_removeEngine_removed he hout, State.removeEngine_eq hout, State.get_count _ _ _ _ (by decide),
    State.get_put_apart _ _ _ _ (by decide), State.get_put_self _ _ _ (by decide)]
  exact Nat.mod_eq_of_lt (Nat.lt_of_le_of_lt (Nat.sub_le _ _) (by decide))

/-- The engines in service are those not removed (R255). -/
theorem State.engineIn_removeEngine_clear (i : Nat) :
    (s.removeEngine e cause).engineIn i = (decide (i < 6) && !(s.removeEngine e cause).engineOut i) := by
  have hlt : (s.removeEngine e cause).get Reg.LDP.ENGINES.REMOVED < 2 ^ 6 := State.get_lt _ _
  rw [State.engineIn, State.get_removeEngine_inService he hout]
  exact (congrArg (Nat.testBit · i) (by omega)).trans (Nat.testBit_two_pow_sub_succ hlt i)

end

/-- A removed engine is removed again without effect. -/
theorem State.removeEngine_out {s : State} {e : Nat} (h : s.engineOut e = true) (cause : Nat) : s.removeEngine e cause = s :=
  if_pos h

theorem State.engineOut_removeEngine {e : Nat} (he : e < 6) (s : State) (cause i : Nat) :
    (s.removeEngine e cause).engineOut i = (s.engineOut i || decide (i = e)) := by
  cases h : s.engineOut e with
  | false => rw [State.engineOut, State.get_removeEngine_removed he h, testBit_add_two_pow h, State.engineOut]
  | true =>
    rw [State.removeEngine_out h]
    by_cases hi : i = e <;> simp [hi, h]

/-- An engine is in service or removed (R255), and so it is when an engine leaves the pool. -/
theorem State.engineIn_removeEngine {s : State} {e i : Nat} (he : e < 6) (cause : Nat) (hi : i < 6)
    (h : s.engineIn i = true ∨ s.engineOut i = true) :
    (s.removeEngine e cause).engineIn i = true ∨ (s.removeEngine e cause).engineOut i = true := by
  cases hout : s.engineOut e with
  | false =>
    rw [State.engineIn_removeEngine_clear he hout]
    cases (s.removeEngine e cause).engineOut i <;> simp [hi]
  | true => rwa [State.removeEngine_out hout]

/-- The pool's registers through what becomes of the sector of a removed engine. -/
theorem State.get_decodeAgain (s : State) (x : LdpSector) (f : Fld) : (s.decodeAgain x).get f = s.get f :=
  (State.decodeAgain_only (qz := [.media, .cqu]) _ _ (Only.refl _ _) rfl rfl).get rfl

/-! ### The reference codeword (R237). -/

/-- The reference decode of one engine. -/
def State.refDecode (good : BitVec 6) (t : State) (e : Nat) : State :=
  if good.getLsbD e ∨ !t.engineIn e then t
  else
    let t1 := t.removeEngine e 2
    match t1.media.sectors.find? fun x => x.engine == some e with
    | some x => t1.decodeAgain x
    | none => t1

theorem exec_referenceDecode (good : BitVec 6) (s : State) :
    exec (.referenceDecode good) s = .next ((List.range 6).foldl (State.refDecode good) s) := rfl

theorem State.get_refDecode (good : BitVec 6) (t : State) (e : Nat) (f : Fld) : (t.refDecode good e).get f =
    (if good.getLsbD e ∨ !t.engineIn e then t else t.removeEngine e 2).get f := by
  unfold State.refDecode
  extract_lets t1
  split
  · rfl
  · split
    · exact State.get_decodeAgain _ _ _
    · rfl

/-- A reference decode removes the engine that makes it, where that is in service and its result differs. -/
theorem State.engineOut_refDecode (good : BitVec 6) {e : Nat} (he : e < 6) (t : State) (i : Nat) :
    (t.refDecode good e).engineOut i = (t.engineOut i || (decide (i = e) && t.engineIn e && !good.getLsbD e)) := by
  rw [State.engineOut, State.get_refDecode]
  split
  case isTrue h =>
    have hnone : (t.engineIn e && !good.getLsbD e) = false := by
      rcases h with hgood | hout
      · rw [hgood, Bool.not_true, Bool.and_false]
      · rw [show t.engineIn e = false by simpa using hout, Bool.false_and]
    rw [Bool.and_assoc, hnone, Bool.and_false, Bool.or_false, State.engineOut]
  case isFalse h =>
    simp only [not_or, Bool.not_eq_true, Bool.not_eq_false'] at h
    have hrem := State.engineOut_removeEngine he t 2 i
    rw [State.engineOut] at hrem
    simp [hrem, h.1, h.2]

theorem State.engineIn_refDecode (good : BitVec 6) {e i : Nat} (he : e < 6) (hi : i < 6) {t : State}
    (h : t.engineIn i = true ∨ t.engineOut i = true) :
    (t.refDecode good e).engineIn i = true ∨ (t.refDecode good e).engineOut i = true := by
  rw [State.engineIn, State.engineOut, State.get_refDecode, State.get_refDecode]
  split
  · exact h
  · exact State.engineIn_removeEngine he 2 hi h

/-- An engine whose result agrees stays as it was. -/
theorem State.engineOut_foldl_refDecode_good {good : BitVec 6} {i : Nat} (hg : good.getLsbD i = true) (l : List Nat)
    (hl : ∀ e ∈ l, e < 6) (t : State) : (l.foldl (State.refDecode good) t).engineOut i = t.engineOut i := by
  induction l generalizing t with
  | nil => rfl
  | cons e l ih =>
    obtain ⟨he, hl⟩ := List.forall_mem_cons.1 hl
    rw [List.foldl_cons, ih hl, State.engineOut_refDecode good he]
    by_cases hi : i = e
    · subst hi; simp [hg]
    · simp [hi]

/-- A removed engine stays removed. -/
theorem State.engineOut_foldl_refDecode_of_out {good : BitVec 6} {i : Nat} (l : List Nat) (hl : ∀ e ∈ l, e < 6) {t : State}
    (h : t.engineOut i = true) : (l.foldl (State.refDecode good) t).engineOut i = true := by
  induction l generalizing t with
  | nil => exact h
  | cons e l ih =>
    obtain ⟨he, hl⟩ := List.forall_mem_cons.1 hl
    exact ih hl (by rw [State.engineOut_refDecode good he, h]; rfl)

/-- An engine in service whose result differs is removed in its turn. -/
theorem State.engineOut_foldl_refDecode_bad {good : BitVec 6} {i : Nat} (hg : good.getLsbD i = false) (l : List Nat)
    (hl : ∀ e ∈ l, e < 6) (hi : i ∈ l) {t : State} (h : t.engineIn i = true ∨ t.engineOut i = true) :
    (l.foldl (State.refDecode good) t).engineOut i = true := by
  induction l generalizing t with
  | nil => exact absurd hi List.not_mem_nil
  | cons e l ih =>
    have hi6 := hl i hi
    obtain ⟨he, htail⟩ := List.forall_mem_cons.1 hl
    rcases List.mem_cons.1 hi with rfl | hi
    · refine State.engineOut_foldl_refDecode_of_out l htail ?_
      rw [State.engineOut_refDecode good he]
      rcases h with h | h <;> simp [h, hg]
    · exact ih htail hi (State.engineIn_refDecode good he hi6 h)

/-! ### The statement. -/

theorem grantsLowestFree (s : State) (e : Nat) (x : LdpSector) (he : s.freeEngine = some e) (hx : s.nextGrant = some x) :
    Goes (exec .decoderGrant s) fun t =>
      (∃ y ∈ t.media.sectors, y.engine = some e ∧ y.waiting = false ∧ y.ch = x.ch ∧ y.tag = x.tag ∧ y.idx = x.idx) ∧
      ((∃ y ∈ s.media.sectors, y.waiting = true ∧ y.first = true) → x.first = true) := by
  rw [exec_decoderGrant he hx, Goes_next]
  exact ⟨⟨_, State.setSector_mem (State.nextGrant_mem hx) ⟨rfl, rfl, rfl⟩, rfl, rfl, rfl, rfl, rfl⟩,
    fun ⟨_, hy, hw, hf⟩ => State.nextGrant_first hx hy hw hf⟩

/-- Settles O29: a decode that fails counts before its sector goes on (`State.goesOn`), which leaves the pool's registers; a
reference decode removes engines one by one (`State.engineOut_refDecode`). -/
theorem decoderPool : Obligations.DecoderPool := by
  unfold Obligations.DecoderPool
  refine fun s => ⟨grantsLowestFree s, fun e x hx => ⟨fun k p c now hstep hc => ?_, fun k p c now hstep hf => ?_,
    fun k p now hstep hl => ?_, fun z k p c now hr => ?_⟩, fun ch g i x hx => ?_, fun g => ?_⟩
  · rw [exec_decodeEnd_miscorrected hx hstep hc, Goes_next]
    have hmis := State.miscorrected_counted (s.pulse (20 + e.val)) x
    exact hmis.congr (State.get_pulse _ _ (by decide))
      (((State.get_goesOn _ _ _ rfl).trans (State.get_sweepsBinned _ _ _ rfl)).trans (State.get_firstFailed_miscorr _ _))
  · rw [exec_decodeEnd_nonzero hx hstep, Goes_next]
    exact ⟨(State.firstFailed_counted hf).congr (State.get_pulse _ _ (by decide)) (State.get_goesOn _ _ _ rfl),
      ((State.get_goesOn _ _ _ rfl).trans (State.get_firstFailed_miscorr _ _)).trans (State.get_pulse _ _ (by decide))⟩
  · rw [exec_decodeEnd_loop hx hstep hl, Goes_next]
    exact fun y hy => (State.mem_dropSector hy).2
  · rw [exec_decodeEnd_parity hx, Goes_next]
    have hout : (s.pulse (20 + e.val)).engineOut e.val = false := by rwa [State.engineOut, State.get_pulse _ _ (by decide)]
    have hgone := State.engineOut_removeEngine e.isLt (s.pulse (20 + e.val)) 1 e.val
    simp only [decide_true, Bool.or_true] at hgone
    have hin := State.engineIn_removeEngine_clear e.isLt hout 1 e.val
    rw [hgone, Bool.not_true, Bool.and_false] at hin
    simp only [State.get_decodeAgain]
    exact ⟨hgone, hin, State.get_removeEngine_cause hout 1 (by decide)⟩
  · rw [exec_retryStoreExpire hx, Goes_next]
    exact ⟨(Counted.of_bump s (by decide)).congr rfl (State.get_expireEntry_headCheck _ _ _ rfl), fun he y hy hch htag hidx =>
      (State.headCheck_released _ _).stored (State.expireEntry_freed he) y hy ⟨hch, htag, hidx⟩⟩
  · rw [exec_referenceDecode, Goes_next]
    have hl : ∀ e ∈ List.range 6, e < 6 := fun e => List.mem_range.1
    exact fun e he => ⟨fun hg hin => State.engineOut_foldl_refDecode_bad hg _ hl (List.mem_range.2 he) (.inl hin),
      fun hg hr => (State.engineOut_foldl_refDecode_good hg _ hl s).trans hr⟩

end Sys2Proof.Machine
end

section
/-!
PROOFS. Assist calibrations (O30): a head that falls due, a calibration that ends or is cut short, and the assist part of P9
(R250, R251, R253).
-/

namespace Sys2Proof.Machine

/-! ### Heads of the assist controller. -/

/-- A head of the assist controller after a change of its entry. -/
theorem State.mapAssist_self {s : State} {h : Nat} {a : AssistHead} (ha : s.media.assist[h]? = some a)
    (f : AssistHead → AssistHead) : (s.mapAssist h f).media.assist[h]? = some (f a) := by
  rw [State.mapAssist, modifyAt_getElem?, if_pos rfl, ha]
  rfl

theorem State.mapAssist_other (s : State) {h k : Nat} (hk : k ≠ h) (f : AssistHead → AssistHead) :
    (s.mapAssist h f).media.assist[k]? = s.media.assist[k]? := by
  rw [State.mapAssist, modifyAt_getElem?, if_neg hk]

/-- A scaled head is there still. -/
theorem State.scaleIcal_self {s : State} {h : Nat} {a : AssistHead} (ha : s.media.assist[h]? = some a) (n d : Nat) :
    ∃ b, (s.scaleIcal h n d).media.assist[h]? = some b :=
  ⟨_, State.mapAssist_self ha _⟩

/-! ### The interval (R250). -/

theorem exec_assistCalDue {s : State} {h : Nat} (hu : s.headInUse h = true) :
    exec (.assistCalDue h) s = .next (s.mapAssist h fun a => { a with due := true }) := if_pos hu

/-! ### A calibration (R250, R253). -/

/-- A write run is in progress on a head (R253). -/
def State.writeRunOn (s : State) (h : Nat) : Bool :=
  (List.range 4).any fun n => match s.fsqs[n]? with
    | some f => (match f.cur with | some r => runWrites r && 12 * (n / 2) + r.head.toNat == h | none => false)
    | none => false

theorem State.writeRunOn_of_idle {s : State} (hidle : ∀ f ∈ s.fsqs, f.cur = none) (h : Nat) : s.writeRunOn h = false :=
  List.any_eq_false.2 fun n _ => by
    cases hf : s.fsqs[n]? with
    | none => simp
    | some f => simp [hidle f (List.mem_of_getElem? hf)]

/-- A head that a calibration has left: at its temperature and monitor, and no longer due. -/
def AssistHead.Calibrated (temp : Int) (m : Nat) (b : AssistHead) : Prop :=
  b.tcal = temp ∧ b.mcal = m ∧ b.due = false ∧ b.atOnce = false

section
variable {s : State} {h : Nat} {a : AssistHead} (ha : s.media.assist[h]? = some a) (hu : s.headInUse h = true)
  (hdue : a.due = true) (hidle : ∀ f ∈ s.fsqs, f.cur = none)
include ha hu hdue hidle

theorem exec_assistCalibration_cut {sc : List (Nat × Nat)} (hsc : sc.length < 7) (th : Nat) (sg : List Int) (temp : Int)
    (m : Nat) : exec (.assistCalibration h sc th sg temp m) s = .next (s.recalDue h true) := by
  change execAssistCalibration _ _ _ _ _ _ _ = _
  unfold execAssistCalibration
  extract_lets due writing i k s1
  have hd : due = true := by simp only [due, ha, hdue]
  have hw : writing = false := State.writeRunOn_of_idle hidle h
  rw [if_neg (by simp [hd, hw, hu]), if_pos hsc]

/-- A whole calibration sets the head's entry; a head whose current lies beyond its limit is retired besides (R242). -/
theorem exec_assistCalibration_whole {sc : List (Nat × Nat)} (hsc : 7 ≤ sc.length) (th : Nat) (sg : List Int) (temp : Int)
    (m : Nat) : Goes (exec (.assistCalibration h sc th sg temp m) s) fun t =>
      ∃ b, t.media.assist[h]? = some b ∧ b.Calibrated temp m := by
  change Goes (execAssistCalibration _ _ _ _ _ _ _) _
  unfold execAssistCalibration
  extract_lets due writing i k s1
  have hd : due = true := by simp only [due, ha, hdue]
  have hw : writing = false := State.writeRunOn_of_idle hidle h
  rw [if_neg (by simp [hd, hw, hu]), if_neg (Nat.not_lt.2 hsc)]
  split
  extract_lets chosen beyond s2 s3 med s4 crd s5
  rw [Goes_next]
  have h1 : s1.media.assist[h]? = some a := by simpa [s1] using ha
  have h2 : ∃ b, s2.media.assist[h]? = some b := by
    simp only [s2]
    split
    · exact ⟨a, h1⟩
    · exact State.scaleIcal_self h1 _ _
  obtain ⟨b, hb⟩ := h2
  have h5 : s5.media.assist[h]? = s3.media.assist[h]? := rfl
  have hr : Released s5 (if beyond = true then s5.retireInStart h else s5) := by
    split
    · exact s5.retireInStart_released h
    · exact .refl s5
  rw [hr.assist, h5, State.mapAssist_self hb]
  exact ⟨_, rfl, rfl, rfl, rfl, rfl⟩

end

/-! ### The assist part of P9 (R251). -/

theorem State.flag_of_get {s : State} {f : Fld} (h : s.get f = 1) : s.flag f = true := by
  change (s.get f != 0) = true
  rw [h]
  rfl

/-- Where P9 has calibrated both actuators, the currents checked move and P10 begins. -/
theorem exec_assistCheck {s : State} (h9 : s.inPhase 9 = true) (hh : s.held = false)
    (hv0 : s.get (Reg.SLE.CAL.CAL_VALID 0) = 1) (hv1 : s.get (Reg.SLE.CAL.CAL_VALID 1) = 1) {h : Nat} (hu : s.headInUse h = true)
    (c : Nat) : exec (.assistCheck [(h, c)]) s = .next (State.toPhase (if c = 1 then s else
      (s.scaleIcal h (if c = 0 then 95 else 105) 100).mapAssist h fun a => { a with due := true }) 10) := by
  have hf0 : s.flag (Reg.SLE.CAL.CAL_VALID 0) = true := State.flag_of_get hv0
  have hf1 : s.flag (Reg.SLE.CAL.CAL_VALID 1) = true := State.flag_of_get hv1
  change execAssistCheck _ _ = _
  simp [execAssistCheck, h9, hh, hf0, hf1, hu]

theorem State.phase_toPhase (s : State) {n : Nat} (hn : n < 16) : (s.toPhase n).phase = n :=
  (State.get_put_self _ _ _ (by decide)).trans (Nat.mod_eq_of_lt hn)

/-! ### The statement. -/

theorem recalDue_atOnce {s : State} {h : Nat} {a : AssistHead} (ha : s.media.assist[h]? = some a) :
    ((s.recalDue h true).media.assist[h]?).map (fun b => (b.due, b.atOnce)) = some (true, true) ∧
      (s.recalDue h true).get (Reg.EAC.HEAD.RECAL_DUE h) = 1 := by
  refine ⟨?_, State.get_put_self _ _ _ (by simp [Reg.EAC.HEAD.RECAL_DUE])⟩
  rw [State.recalDue, State.put_media, State.mapAssist_self ha]
  simp

/-- Settles O30: each clause reads the entry that its command leaves in the head's place; a head retired for its current keeps its
entry (`Released`). -/
theorem assistCalibrations : Obligations.AssistCalibrations := by
  unfold Obligations.AssistCalibrations
  refine fun s h a ha hu => ⟨?_, fun sc th sg temp m hdue hidle => ⟨fun hsc => ?_, fun hsc => ?_⟩,
    fun h9 hh hv0 hv1 => ⟨?_, ?_⟩⟩
  · rw [exec_assistCalDue hu, Goes_next]
    exact ⟨State.mapAssist_self ha _, fun k hk => s.mapAssist_other hk _⟩
  · refine (exec_assistCalibration_whole ha hu hdue hidle hsc th sg temp m).imp fun t ⟨b, hb, hcal⟩ => ?_
    obtain ⟨htemp, hmon, hdone, honce⟩ := hcal
    rw [hb, Option.map_some, htemp, hmon, hdone, honce]
  · rw [exec_assistCalibration_cut ha hu hdue hidle hsc, Goes_next]
    exact recalDue_atOnce ha
  · rw [exec_assistCheck h9 hh hv0 hv1 hu, Goes_next]
    exact ⟨State.phase_toPhase _ (by decide), State.toPhase_media _ _⟩
  · rw [exec_assistCheck h9 hh hv0 hv1 hu, Goes_next]
    refine ⟨State.phase_toPhase _ (by decide), ?_⟩
    obtain ⟨b, hb⟩ := State.scaleIcal_self ha 95 100
    rw [State.toPhase_media, if_neg (by decide), if_pos rfl, State.mapAssist_self hb]
    rfl

end Sys2Proof.Machine
end

section
/-!
PROOFS. What the stripe engine's own tables read after a change: the journal, the Sideboard's slots and the placement records
(R262, R264, R268).
-/

namespace Sys2Proof.Machine

/-! ### A table whose entries a number names. -/

/-- The entry that a number names, after it has been replaced by one of the same number. -/
theorem find?_replace {α : Type} (key : α → Nat) {l : List α} {n : Nat} {x y : α}
    (hx : l.find? (fun a => key a == n) = some x) (hy : key y = n) :
    (l.map fun a => if key a = key y then y else a).find? (fun a => key a == n) = some y := by
  have hkey : (fun a => key a == n) ∘ (fun a => if key a = key y then y else a) = fun a => key a == n := by
    funext a
    by_cases ha : key a = key y <;> simp [ha]
  have hxn : key x = n := by simpa using List.find?_some hx
  rw [List.find?_map, hkey, hx, Option.map_some, if_pos (hxn.trans hy.symm)]

/-! ### Sideboard slots (R264). -/

theorem State.num_of_slot? {s : State} {n : Nat} {x : SideSlot} (h : s.slot? n = some x) : x.num = n := by
  simpa using List.find?_some h

theorem State.slot?_congr {s t : State} (h : t.stripe = s.stripe) (n : Nat) : t.slot? n = s.slot? n := by
  rw [State.slot?, h, State.slot?]

theorem State.slot?_setSlot_self {s : State} {n : Nat} {x y : SideSlot} (hx : s.slot? n = some x) (hy : y.num = x.num) :
    (s.setSlot y).slot? n = some y :=
  find?_replace SideSlot.num hx (hy.trans (State.num_of_slot? hx))

@[simp] theorem State.slot?_setPlace (s : State) (p : Placement) (n : Nat) : (s.setPlace p).slot? n = s.slot? n := rfl

@[simp] theorem State.slot?_journal (s : State) (e : JEntry) (n : Nat) : (s.journal e).slot? n = s.slot? n := rfl

@[simp] theorem State.slot?_pulse (s : State) (k n : Nat) : (s.pulse k).slot? n = s.slot? n :=
  State.slot?_congr (s.pulse_stripe k) n

/-! ### Placement records (R262). -/

theorem State.zone_of_place? {s : State} {z : Nat} {p : Placement} (h : s.place? z = some p) : p.zone = z := by
  simpa using List.find?_some h

theorem State.place?_congr {s t : State} (h : t.stripe = s.stripe) (z : Nat) : t.place? z = s.place? z := by
  rw [State.place?, h, State.place?]

theorem State.place?_setPlace_self {s : State} {z : Nat} {p q : Placement} (hp : s.place? z = some p)
    (hq : q.zone = p.zone) : (s.setPlace q).place? z = some q :=
  find?_replace Placement.zone hp (hq.trans (State.zone_of_place? hp))

@[simp] theorem State.place?_journal (s : State) (e : JEntry) (z : Nat) : (s.journal e).place? z = s.place? z := rfl

@[simp] theorem State.place?_pulse (s : State) (k z : Nat) : (s.pulse k).place? z = s.place? z :=
  State.place?_congr (s.pulse_stripe k) z

/-! ### The journal (R268). -/

/-- The entries of the journal that wait for the Chest, without their SEQ. -/
def State.waitingEntries (s : State) : List JEntry := s.stripe.journal.pending.map fun e => e.2

@[simp] theorem State.waitingEntries_journal (s : State) (e : JEntry) :
    (s.journal e).waitingEntries = s.waitingEntries ++ [e] := by
  simp [State.waitingEntries, State.journal]

@[simp] theorem State.waitingEntries_setSlot (s : State) (x : SideSlot) : (s.setSlot x).waitingEntries = s.waitingEntries := rfl

@[simp] theorem State.waitingEntries_setPlace (s : State) (p : Placement) :
    (s.setPlace p).waitingEntries = s.waitingEntries := rfl

theorem State.waitingEntries_congr {s t : State} (h : t.stripe = s.stripe) : t.waitingEntries = s.waitingEntries := by
  rw [State.waitingEntries, h, State.waitingEntries]

@[simp] theorem State.waitingEntries_pulse (s : State) (k : Nat) : (s.pulse k).waitingEntries = s.waitingEntries :=
  State.waitingEntries_congr (s.pulse_stripe k)

theorem State.exists_waiting_iff (s : State) (e : JEntry) :
    (∃ x ∈ s.stripe.journal.pending, x.2 = e) ↔ e ∈ s.waitingEntries := List.mem_map.symm

end Sys2Proof.Machine
end

section
/-!
PROOFS. Stripes on their way to media (O31): the launch of a slot, its segments, its COMMIT, its release, and the completion of a
committed command (R265, R269, R283, R304, R376).
-/

namespace Sys2Proof.Machine

/-! ### The launch (R265 step 1, R283). -/

/-- A slot above the boundary of a zone that moves waits (R283). -/
abbrev State.launchWaits (s : State) (x : SideSlot) : Prop :=
  ∃ p, s.place? x.zone = some p ∧ p.moving = true ∧ p.boundary < x.stripe

theorem State.launch_of_waits {s : State} {x : SideSlot} {p : Placement} (hx : x.state = .complete)
    (hp : s.place? x.zone = some p) (hm : p.moving = true) (hb : p.boundary < x.stripe) :
    s.launch x = s.setPlace { p with waiting := true } := by
  simp [State.launch, hx, hp, hm, hb]

/-- A slot that does not wait is begun, under CUR or NEXT. -/
theorem State.launch_of_not_waits {s : State} {x : SideSlot} (hx : x.state = .complete) (hw : ¬ s.launchWaits x) :
    ∃ b, s.launch x = (((s.setSlot { x with state := .begun, underNext := b }).journal
      (.begin_ x.zone x.stripe x.first x.blocks.length b)).pulse 26) := by
  cases hp : s.place? x.zone with
  | none => exact ⟨false, by simp [State.launch, hx, hp]⟩
  | some p =>
    have hgo : ¬(p.moving = true ∧ x.stripe > p.boundary) := fun h => hw ⟨p, hp, h.1, h.2⟩
    exact ⟨p.moving, by simp only [State.launch, hx, hp, ne_eq, not_true_eq_false, if_false, if_neg hgo]⟩

section
variable {s : State} {n : Nat} {x : SideSlot} (hx : s.slot? n = some x)
include hx

theorem exec_stripeLaunch : exec (.stripeLaunch n) s = .next (s.launch x) := by
  change execStripeLaunch n s = _
  simp only [execStripeLaunch, hx]

theorem exec_stripeLaunch_waits (hc : x.state = .complete) (hw : s.launchWaits x) :
    Goes (exec (.stripeLaunch n) s) fun t => t.slot? n = some x ∧ t.stripe.journal = s.stripe.journal ∧
      (t.place? x.zone).map (fun p => p.waiting) = some true := by
  obtain ⟨p, hp, hm, hb⟩ := hw
  rw [exec_stripeLaunch hx, State.launch_of_waits hc hp hm hb, Goes_next]
  exact ⟨by simpa using hx, rfl, by simp [State.place?_setPlace_self hp]⟩

theorem exec_stripeLaunch_goes (hc : x.state = .complete) (hw : ¬ s.launchWaits x) :
    Goes (exec (.stripeLaunch n) s) fun t => (t.slot? n).map (fun y => y.state) = some .begun ∧ ∃ b, t.waitingEntries =
      s.waitingEntries ++ [.begin_ x.zone x.stripe x.first x.blocks.length b] := by
  obtain ⟨b, hb⟩ := State.launch_of_not_waits hc hw
  rw [exec_stripeLaunch hx, hb, Goes_next]
  exact ⟨by simp [State.slot?_setSlot_self hx], b, by simp⟩

/-! ### Segments and COMMIT (R265 steps 2 and 3). -/

/-- The segment writes are queued in the media scheduler alone. -/
theorem exec_beginDurable (hb : x.state = .begun) (hd : s.entryDurable x = true) : Goes (exec (.beginDurable n) s) fun t =>
    t.stripe = (s.setSlot { x with state := .writing }).stripe := by
  change Goes (execBeginDurable n s) _
  simp only [execBeginDurable, hx]
  rw [if_pos ⟨hb, hd⟩]
  split
  · rw [Goes_next]
    refine (foldl_only (ps := [.cqu]) _ _ (fun t m ht => ?_) (Only.refl _ _)).stripe rfl
    split
    · exact ht
    · exact (only_ite _ _).2 ⟨fun _ => ht, fun _ => State.queueRuns_only _ _ ht rfl⟩
  · exact (Goes_next _ _).2 rfl

/-- The map changes with the COMMIT (R339, R345); a stripe under CUR raises no boundary. -/
theorem exec_stripeOnMedia (hw : x.state = .writing) (hu : x.underNext = false) : Goes (exec (.stripeOnMedia n) s) fun t =>
    t.stripe = ((s.setSlot { x with state := .committing }).journal
      (.commit x.zone x.stripe x.first x.blocks.length false)).stripe := by
  change Goes (execStripeOnMedia n s) _
  simp -zeta only [execStripeOnMedia, hx]
  rw [if_neg (by simp [hw]), hu]
  extract_lets s1 live lz s3 s2
  have h3 : Only [.zmu] s1 s3 := (only_ite _ _).2
    ⟨fun _ => State.mapChange_only _ _ (Only.refl _ _) rfl, fun _ => Only.refl _ _⟩
  have h2 : Only [.zmu] s1 s2 := by
    refine (only_ite _ _).2 ⟨fun _ => ?_, fun _ => (only_ite _ _).2 ⟨fun _ => Only.refl _ _, fun _ => ?_⟩⟩
    · exact foldl_only _ _ (fun t r ht => State.mapChange_only _ _ ht rfl) (Only.refl _ _)
    · split
      · exact (only_ite _ _).2 ⟨fun _ => State.setZone_only _ _ _ h3 rfl, fun _ => h3⟩
      · exact h3
  have hs : Goes (.next s2) fun t => t.stripe = s1.stripe := (Goes_next _ _).2 (h2.stripe rfl)
  split
  · rwa [if_neg (by simp)]
  · exact hs

end

/-! ### What a durable COMMIT or a completion sets going, with no command left (R372, R360, R373). -/

theorem State.settle_of_empty {s : State} (hst : s.cqu.store = []) (hsh : s.cqu.nvme.shst ≠ 1) : s.settle = s.ltr := by
  have hwake : s.wake = s := by simp [State.wake, hst]
  have hflush : s.flushes = s := by simp [State.flushes, hst]
  have hdel : s.deleteStep = s := by simp [State.deleteStep, hst]
  have hop : s.opStart = s := by simp [State.opStart, hst]
  have hshut : s.shutdownStep = s := if_pos (.inl hsh)
  rw [State.settle, hwake, hflush, hdel, hop, hshut]

theorem State.ltr_touches (s : State) : Only [.hpt, .slot 8] s s.ltr := State.ltr_only s (Only.refl _ _) rfl rfl

/-! ### The release of a slot (R265 step 4, R304). -/

/-- The cache once the slot's COMMIT is durable: its blocks are clean, and one replaced that no reader pins goes. -/
def State.cacheReleased (s : State) (n : Nat) : List CBlock :=
  (s.buf.cache.map fun b => if b.slot = some n then { b with slot := none, dirty := false } else b).filter fun b =>
    b.current || !b.pins.isEmpty || b.slot.isSome

/-- The slot is free and its blocks are clean. -/
def State.slotReleased (s : State) (n : Nat) : State :=
  { s with
    buf := { s.buf with cache := s.cacheReleased n },
    stripe := { s.stripe with slots := s.stripe.slots.filter fun y => y.num != n } }

theorem State.slot?_slotReleased (s : State) (n : Nat) : (s.slotReleased n).slot? n = none :=
  List.find?_eq_none.2 fun y hy => by simpa using (List.mem_filter.1 hy).2

theorem State.slot_of_mem_cacheReleased {s : State} {n : Nat} {b : CBlock} (hb : b ∈ s.cacheReleased n) :
    b.slot ≠ some n := by
  obtain ⟨c, -, rfl⟩ := List.mem_map.1 (List.mem_filter.1 hb).1
  split <;> simp [*]

theorem exec_commitDurable {s : State} {n : Nat} {x : SideSlot} (hx : s.slot? n = some x) (hc : x.state = .committing)
    (hd : s.entryDurable x = true) : exec (.commitDurable n) s = .next ((s.slotReleased n).pulse 27).settle := by
  change execCommitDurable n s = _
  simp only [execCommitDurable, hx]
  exact if_pos ⟨hc, hd⟩

/-! ### A completion (R376, R396). -/

theorem State.out_subset_send (s : State) (o : Out) : s.hpt.out ⊆ (s.send o).hpt.out := by
  unfold State.send
  split
  · exact List.Subset.refl _
  · split <;> exact List.subset_append_left _ _

theorem State.out_subset_signal (s : State) (q : Cq) : s.hpt.out ⊆ (s.signal q).hpt.out := by
  unfold State.signal
  extract_lets hpt s1
  split
  · exact List.Subset.refl _
  · split
    · split
      · exact List.Subset.refl _
      · split
        · exact List.Subset.refl _
        · exact s.out_subset_send _
    · split
      · exact List.Subset.refl _
      · exact s1.out_subset_send _

theorem State.out_subset_coalesce (s : State) (q : Cq) : s.hpt.out ⊆ (s.coalesce q).hpt.out := by
  unfold State.coalesce
  extract_lets thr time
  split
  · exact (s.setCq _).out_subset_signal _
  · exact List.Subset.refl _

theorem State.out_subset_ltr (s : State) : s.hpt.out ⊆ s.ltr.hpt.out := by
  unfold State.ltr
  extract_lets idle
  split
  · exact List.Subset.refl _
  · exact State.out_subset_send { s with hpt := { s.hpt with ltrIdle := idle } } _

/-- An interrupt leaves the command store and the controller's registers. -/
theorem State.coalesce_store (s : State) (q : Cq) :
    (s.coalesce q).cqu.store = s.cqu.store ∧ (s.coalesce q).cqu.nvme = s.cqu.nvme := by
  unfold State.coalesce
  extract_lets thr time
  split
  · rw [(State.signal_only (qz := [.hpt, .slot 8]) _ q (Only.refl _ _) rfl rfl).cqu rfl]
    exact ⟨rfl, rfl⟩
  · exact ⟨rfl, rfl⟩

/-- The entry that a command's completion posts (R376). -/
def Cmd.entry (c : Cmd) (q : Sq) (r : Cq) (st : Status) : Cqe :=
  ⟨r.qid, r.tail, c.dw0, c.dw1, c.sqid, q.head, c.sqe.cid.toNat, r.phase, st⟩

/-- A completed command has left the store, and its entry has gone out. -/
structure Posted (s : State) (c : Cmd) (e : Cqe) (t : State) : Prop where
  store : t.cqu.store = s.cqu.store.filter fun d => d.fsn != c.fsn
  nvme : t.cqu.nvme = s.cqu.nvme
  out : Out.cqe e ∈ t.hpt.out

theorem Posted.coalesce {s t : State} {c : Cmd} {e : Cqe} (h : Posted s c e t) (q : Cq) : Posted s c e (t.coalesce q) where
  store := (t.coalesce_store q).1.trans h.store
  nvme := (t.coalesce_store q).2.trans h.nvme
  out := t.out_subset_coalesce q h.out

/-- With room in its completion queue and a link that sends, a completion is posted. -/
theorem State.post_posted {s : State} {c : Cmd} {q : Sq} {r : Cq} (hq : s.sq? c.sqid = some q) (hr : s.cq? q.cqid = some r)
    (hroom : ringUsed r.size r.head r.tail + 1 < r.size) (hd : s.get Reg.HPT.LINK.DSTATE ≠ 3)
    (hl : s.get Reg.HPT.LINK.PM_LINK ≠ 4) (st : Status) : Posted s c (c.entry q r st) (s.post c st) := by
  simp -zeta only [State.post, hq, hr]
  rw [if_neg (Nat.not_le.2 hroom)]
  extract_lets e t' r' cqu s1 s2 s3
  have h2 : Posted s c e s2 := by
    have hout : s2.hpt.out = s.hpt.out ++ [.cqe e] := State.send_out _ _ hd hl
    refine ⟨(congrArg Cqu.store (State.send_cqu _ _)).trans rfl, (congrArg Cqu.nvme (State.send_cqu _ _)).trans rfl, ?_⟩
    exact hout ▸ List.mem_append_right _ (List.mem_singleton_self _)
  have h3 : Posted s c e s3 := by
    unfold s3
    split
    · exact h2
    · exact ⟨h2.store, h2.nvme, h2.out⟩
  exact h3.coalesce r'

theorem exec_completionPost {s : State} {c : Cmd} {st : Status} (hst : s.cqu.store = [c]) (hp : c.phase = .committed)
    (hs : c.status = some st) (ha : c.aborts = none) (hcfs : s.cqu.nvme.cfs = false) (hpf : s.dma.paused = false) :
    exec (.completionPost c.fsn) s = .next (s.post c st).settle := by
  have hc : s.cmd? c.fsn = some c := by simp [State.cmd?, hst]
  have hw : s.abortWaits c = false := by simp [State.abortWaits, ha]
  change execCompletionPost c.fsn s = _
  simp only [execCompletionPost, hc, hp, hs]
  exact if_neg (by simp [hcfs, hpf, hw])

/-! ### The statement. -/

/-- Settles O31: a launch by whether the slot waits (`State.launchWaits`), its later steps by what the stripe engine's tables then
read, and a completion by `Posted`. -/
theorem stripesReachMedia : Obligations.StripesReachMedia := by
  unfold Obligations.StripesReachMedia
  refine fun s n => ⟨fun x hx => ⟨fun hc => ?_, fun hb hd => ?_, fun hw hu => ?_, fun hc hd hst hsh => ?_⟩,
    fun c st q r hst hp hs ha hcfs hpf hsh hq hr hroom hd hl => ?_⟩
  · by_cases hw : s.launchWaits x
    · exact (exec_stripeLaunch_waits hx hc hw).imp fun t ht => by rwa [if_pos hw]
    · exact (exec_stripeLaunch_goes hx hc hw).imp fun t ht => by rwa [if_neg hw]
  · refine (exec_beginDurable hx hb hd).imp fun t ht => ⟨?_, (congrArg Stripe.journal ht).trans rfl⟩
    simp [State.slot?_congr ht, State.slot?_setSlot_self hx]
  · refine (exec_stripeOnMedia hx hw hu).imp fun t ht => ⟨?_, ?_⟩
    · simp [State.slot?_congr ht, State.slot?_setSlot_self hx]
    · exact (State.waitingEntries_congr ht).trans (State.waitingEntries_journal _ _)
  · rw [exec_commitDurable hx hc hd, State.settle_of_empty (by simpa [State.slotReleased] using hst)
      (by simpa [State.slotReleased] using hsh), Goes_next]
    have hl := State.ltr_touches ((s.slotReleased n).pulse 27)
    refine ⟨?_, fun b hb => ?_⟩
    · rw [State.slot?_congr (hl.stripe rfl), State.slot?_pulse, State.slot?_slotReleased]
    · rw [hl.buf rfl, State.pulse_buf] at hb
      exact State.slot_of_mem_cacheReleased hb
  · have hpost := State.post_posted hq hr hroom hd hl st
    have hempty : (s.post c st).cqu.store = [] := by simp [hpost.store, hst]
    rw [exec_completionPost hst hp hs ha hcfs hpf, State.settle_of_empty hempty (by rwa [hpost.nvme]), Goes_next]
    refine ⟨?_, (s.post c st).out_subset_ltr hpost.out⟩
    rw [(State.ltr_touches _).cqu rfl, hempty]

end Sys2Proof.Machine
end

section
/-!
PROOFS. The journal's copies, the checkpoint and the save area (O32): what reaches the Chest and the bands, the core map, the move
of a band, and the background erase (R269, R270, R272, R276).
-/

namespace Sys2Proof.Machine

/-! ### The checkpoint (R270, R341). -/

/-- The checkpoint's entry takes the journal's next SEQ, from which the chains start. -/
theorem State.checkpoint_journal (s : State) : s.checkpoint.stripe.journal.ckptSeq = s.stripe.journal.seq ∧
    s.checkpoint.stripe.journal.pending = s.stripe.journal.pending ++ [(s.stripe.journal.seq, .metaCkpt (s.core.gen + 1))] :=
  ⟨Nat.add_sub_cancel .., rfl⟩

theorem State.checkpoint_lines (s : State) : ∀ l ∈ s.checkpoint.zmu.lines, l.dirty = false := by
  intro l hl
  obtain ⟨k, -, rfl⟩ := List.mem_map.1 hl
  rfl

/-! ### The move of a band (R272). -/

/-- The surface that the band of actuator A moves to: the lowest live one that does not hold the other band. -/
def State.bandTarget (s : State) : Option Nat :=
  (match s.cfg with | some c => c.geom.surfaces 0 | none => []).find? fun h =>
    !(s.stripe.retired.contains h) && s.stripe.journal.surfB != some h

theorem State.bandTarget_spec {s : State} {h : Nat} (hh : s.bandTarget = some h) :
    s.stripe.retired.contains h = false ∧ s.stripe.journal.surfB ≠ some h := by
  simpa using List.find?_some hh

/-- The band's copy is on its new surface, or given up. -/
def State.bandMoved (s : State) : State :=
  { s with stripe := { s.stripe with
      journal := { s.stripe.journal with
        surfA := s.bandTarget
        bandA := if s.bandTarget.isSome then s.stripe.journal.seq - 1 else s.stripe.journal.bandA },
      jmoves := s.stripe.jmoves.filter (· != 0) } }

theorem exec_journalBandMove_a {s : State} (h0 : 0 ∈ s.stripe.jmoves) : exec (.journalBandMove .a) s = .next
    (match s.bandTarget with | some h => s.bandMoved.journal (.jband 0 h) | none => s.bandMoved) := by
  change execJournalBandMove .a s = _
  unfold execJournalBandMove
  rw [if_pos (show Act.a.num ∈ s.stripe.jmoves from h0)]
  change (match s.bandTarget with | some h => _ | none => _) = _
  cases s.bandTarget <;> rfl

/-- The entry of the move leaves the bands and the moves due. -/
theorem exec_journalBandMove_leaves {s : State} (h0 : 0 ∈ s.stripe.jmoves) : Goes (exec (.journalBandMove .a) s) fun t =>
    t.stripe.jmoves = s.bandMoved.stripe.jmoves ∧ t.stripe.journal.surfA = s.bandTarget ∧
      t.stripe.journal.surfB = s.stripe.journal.surfB := by
  rw [exec_journalBandMove_a h0, Goes_next]
  split <;> exact ⟨rfl, rfl, rfl⟩

/-! ### The background erase of the save area (R276). -/

section
variable {s : State} (hp : s.phase = 15) (hs : s.chest.saving = false) (d : Fin 2)
include hp hs

theorem State.not_eraseBarred : ¬(s.get Reg.NST.BOOT_STATUS.PHASE ≠ 0xF ∨ s.chest.saving = true) :=
  not_or.2 ⟨not_not.2 hp, by simp [hs]⟩

theorem exec_backgroundErase_starts (h2 : s.chest.header.state = 2) :
    exec (.backgroundErase d) s = .next { s with chest := { s.chest with
      header := { s.chest.header with state := 3 }, erased := setAt [0, 0] d 1 } } :=
  (if_neg (State.not_eraseBarred hp hs)).trans (if_pos h2)

theorem exec_backgroundErase_goesOn (h3 : s.chest.header.state = 3) :
    exec (.backgroundErase d) s = .next { s with chest := { s.chest with
      erased := modifyAt s.chest.erased d fun n => min 1024 (n + 1) } } :=
  (if_neg (State.not_eraseBarred hp hs)).trans ((if_neg (by simp [h3])).trans (if_pos h3))

end

theorem exec_backgroundEraseDone {s : State} (h3 : s.chest.header.state = 3) (hs : s.chest.saving = false) :
    exec .backgroundEraseDone s = .next { s with chest := { s.chest with
      header := { s.chest.header with state := 0 }, saved := [], erased := [1024, 1024] } } :=
  if_pos ⟨h3, by simp [hs]⟩

/-! ### The statement. -/

/-- Settles O32: each clause reads the journal, the core map or the Chest in the one state that its command leaves. -/
theorem journalAndCheckpoint : Obligations.JournalAndCheckpoint := by
  unfold Obligations.JournalAndCheckpoint
  refine fun s => ⟨?_, ?_, ?_, fun h0 => ?_, fun d hp hs => ⟨fun h3 => ?_, fun h2 => ?_⟩, fun h3 hs => ?_⟩
  · refine (Goes_next s.chestWrite _).2 ?_
    by_cases hw : s.chest.writeOk.any id = true
    · rw [if_pos hw, State.chestWrite, if_pos hw]
      exact ⟨rfl, rfl⟩
    · rw [if_neg hw, State.chestWrite, if_neg hw]
  · exact (Goes_next _ _).2 ⟨rfl, rfl, rfl⟩
  · obtain ⟨hseq, hpend⟩ := s.checkpoint_journal
    exact (Goes_next _ _).2 ⟨rfl, rfl, rfl, rfl, hseq, rfl, s.checkpoint_lines, hpend⟩
  · refine (exec_journalBandMove_leaves h0).imp fun t ⟨hmoves, ha, hb⟩ => ⟨?_, fun h hh => ?_, hb⟩
    · simp [hmoves, State.bandMoved]
    · exact State.bandTarget_spec (ha.symm.trans hh)
  · rw [exec_backgroundErase_goesOn hp hs d h3, Goes_next]
    refine ⟨rfl, fun k hk => ?_⟩
    rw [modifyAt_getElem?, if_pos rfl, hk]
    rfl
  · rw [exec_backgroundErase_starts hp hs d h2, Goes_next]
  · rw [exec_backgroundEraseDone h3 hs, Goes_next]
    exact ⟨rfl, rfl⟩

end Sys2Proof.Machine
end

section
/-!
PROOFS. Lost heads and moves (O33): the retirement of a head, a degraded read, a chunk of a move, a relocation and a reshape
without a lost member (R277, R280 to R284, R288 to R291).
-/

namespace Sys2Proof.Machine

/-! ### Retirement (R280, R285). -/

/-- A placement without a head: its members on it are lost, and it has no spare band there. -/
def Placement.Without (h : Nat) (p : Placement) : Prop :=
  (∀ m ∈ p.cur, m.surface = h → m.state = 1) ∧ ∀ x ∈ p.spares, x.1 ≠ h

theorem Placement.without_retire (p : Placement) (h : Nat) : (p.retire h).Without h := by
  refine ⟨fun m hm hs => ?_, fun x hx => by simpa using (List.mem_filter.1 hx).2⟩
  obtain ⟨k, -, rfl⟩ := List.mem_map.1 hm
  by_cases hk : k.surface = h
  · rw [if_pos hk]
  · exact absurd (by rwa [if_neg hk] at hs) hk

/-- A head is out: retired, with its journal entry, and in no placement. -/
structure HeadOut (h : Nat) (s : State) : Prop where
  retired : h ∈ s.stripe.retired
  logged : .retire h ∈ s.waitingEntries
  without : ∀ p ∈ s.stripe.places, p.Without h

theorem HeadOut.congr {h : Nat} {s t : State} (k : HeadOut h s) (hst : t.stripe = s.stripe) : HeadOut h t where
  retired := by rw [hst]; exact k.retired
  logged := by rw [State.waitingEntries_congr hst]; exact k.logged
  without := by rw [hst]; exact k.without

theorem HeadOut.setPlace {h : Nat} {s : State} (k : HeadOut h s) {p : Placement} (hp : p.Without h) :
    HeadOut h (s.setPlace p) where
  retired := k.retired
  logged := k.logged
  without := by
    intro q hq
    obtain ⟨r, hr, rfl⟩ := List.mem_map.1 hq
    split
    · exact hp
    · exact k.without r hr

theorem HeadOut.journal {h : Nat} {s : State} (k : HeadOut h s) (e : JEntry) : HeadOut h (s.journal e) where
  retired := k.retired
  logged := by rw [State.waitingEntries_journal]; exact List.mem_append_left _ k.logged
  without := k.without

/-- The spare bands left are among those there were. -/
theorem replaceLost_spares {d : Nat} {lost : List Nat} {l l' : List Member} {sp sp' : List (Nat × Nat × Bool)}
    {ch ch' : List (Nat × Nat × Nat)} (h : replaceLost d lost l sp ch = some (l', sp', ch')) : sp' ⊆ sp := by
  induction lost generalizing l sp ch with
  | nil => cases h; exact List.Subset.refl _
  | cons i t ih =>
    unfold replaceLost at h
    split at h
    · cases h
    · exact fun x hx => List.mem_of_mem_filter (ih h hx)

/-- A move that starts leaves the members in force. -/
theorem HeadOut.moveStart {h : Nat} {s : State} (k : HeadOut h s) {p : Placement} (hp : p.Without h)
    {spares : List (Nat × Nat × Bool)} (hs : spares ⊆ p.spares) (kind : Nat) (inPlace : Bool) (next : List Member)
    (chg : List (Nat × Nat × Nat)) : HeadOut h (s.moveStart p kind inPlace next spares chg) := by
  obtain ⟨hcur, hspares⟩ := hp
  refine HeadOut.journal (k.setPlace ?_) _
  exact ⟨hcur, fun x hx => hspares x (hs hx)⟩

/-- A restarted move leaves the members in force and uses up spare bands (R285). -/
theorem HeadOut.restartMove {h : Nat} {s : State} (k : HeadOut h s) (z g : Nat) : HeadOut h (s.restartMove z g) := by
  unfold State.restartMove
  split
  · exact k
  · next p hp =>
    have hw : p.Without h := k.without p (List.mem_of_find?_eq_some hp)
    extract_lets keep lost
    split
    · exact k
    · split
      · exact k
      · split
        · exact k.setPlace hw
        · next n sp ch hr =>
          exact k.moveStart hw (replaceLost_spares hr) _ _ _ _

theorem HeadOut.foldl_restartMove {h : Nat} (g : Nat) (zs : List Nat) {s : State} (k : HeadOut h s) :
    HeadOut h (zs.foldl (fun t z => t.restartMove z g) s) := by
  induction zs generalizing s with
  | nil => exact k
  | cons z zs ih => exact ih (k.restartMove z g)

theorem State.redundancy_stripe (s : State) : s.redundancy.stripe = s.stripe :=
  (State.redundancy_only (qz := [.cqu, .slot 9]) s (Only.refl _ _) rfl rfl).stripe rfl

theorem State.headOut_retireHead {s : State} {h : Nat} (hn : h ∉ s.stripe.retired) : HeadOut h (s.retireHead h) := by
  unfold State.retireHead
  rw [if_neg hn]
  extract_lets cqu s1 s2 hit stripe s3 s4 crd s5
  have h3 : HeadOut h s3 := by
    refine ⟨mem_insertNat_self _ _, ?_, fun p hp => ?_⟩
    · change _ ∈ s2.waitingEntries
      simp [s2]
    · obtain ⟨q, -, rfl⟩ := List.mem_map.1 hp
      exact q.without_retire h
  have h4 : HeadOut h s4 := h3.foldl_restartMove h _
  exact h4.congr (by rw [State.redundancy_stripe, State.asyncEvent_stripe])

theorem exec_headRetire {s : State} {c : OptCfg} {h : Nat} (hc : s.cfg = some c) (hh : h ∈ c.geom.allSurfaces) :
    exec (.headRetire h) s = .next (s.retireHead h) := by
  change execHeadRetire h s = _
  simp only [execHeadRetire, hc, if_pos hh]

/-! ### A degraded read (R277, R259). -/

theorem State.width_congr {s t : State} (h : t.cfg = s.cfg) : t.width = s.width := by
  rw [State.width, h, State.width]

/-- What a degraded read may leave different while its rows reconstruct. -/
def degradedParts : List Part := [.media, .stripe, .cqu, .crd, .slot 9]

/-- A row that reconstructs goes to the command's buffer and ends the work of step 8 on its blocks. -/
theorem State.degradedRow_touches {o t : State} (ho : Only degradedParts o t) {r : Nat × List MemberRead} {data : List Bytes}
    (hr : reconstruct t.width r.2 = some (data, true)) (f z i : Nat) (a : Bool) :
    Only degradedParts o (t.degradedRow f z i a r) := by
  unfold State.degradedRow
  split
  · exact ho
  · simp only [hr]
    exact State.step8Served_only _ _ (State.setCmd_only _ _ ho rfl) rfl rfl rfl rfl rfl

theorem State.foldl_degradedRow_touches {o : State} (f z i : Nat) (a : Bool) {rows : List (Nat × List MemberRead)}
    (hrows : ∀ r ∈ rows, ∃ data, reconstruct o.width r.2 = some (data, true)) {t : State} (ho : Only degradedParts o t) :
    Only degradedParts o (rows.foldl (State.degradedRow f z i a) t) := by
  induction rows generalizing t with
  | nil => exact ho
  | cons r rows ih =>
    obtain ⟨data, hr⟩ := hrows r List.mem_cons_self
    rw [← State.width_congr (ho.cfg rfl)] at hr
    exact ih (fun q hq => hrows q (List.mem_cons_of_mem _ hq)) (State.degradedRow_touches ho hr f z i a)

/-- The read is done: it leaves the queue of degraded reads and is counted (R277). -/
def State.degradedDone (s : State) (f : Nat) : State :=
  ((({ s with stripe := { s.stripe with degraded := s.stripe.degraded.filter (· != f) } } : State).count 0x0B 0 1).bump
    Reg.STE.COUNTS.DEGRADED 1).pulse 29

theorem State.not_mem_degradedDone (s : State) (f : Nat) : f ∉ (s.degradedDone f).stripe.degraded := by
  rw [State.degradedDone, State.pulse_stripe, State.bump_stripe, (State.count_touches _ _ _ _).stripe rfl]
  simp

theorem State.get_degradedDone (s : State) (f : Nat) : (s.degradedDone f).get Reg.STE.COUNTS.DEGRADED =
    min (s.get Reg.STE.COUNTS.DEGRADED + 1) (2 ^ Reg.STE.COUNTS.DEGRADED.width - 1) := by
  rw [State.degradedDone, State.get_pulse _ _ (by decide), State.get_bump_self _ _ _ (by decide),
    State.get_count _ _ _ _ (by decide)]
  rfl

theorem exec_degradedRead {s : State} {c : Cmd} {f : Nat} {rows : List (Nat × List MemberRead)} (hc : s.cmd? f = some c)
    (hp : c.phase = .snapped) (hf : ∀ g ∈ s.stripe.degraded, f ≤ g)
    (hrows : ∀ r ∈ rows, ∃ data, reconstruct s.width r.2 = some (data, true)) (z i : Nat) (a : Bool) :
    exec (.degradedRead f z i rows a) s = .next ((rows.foldl (State.degradedRow f z i a) s).degradedDone f) := by
  change execDegradedRead f z i rows a s = _
  have hfirst : s.stripe.degraded.any (· < f) = false := by simpa using hf
  simp -zeta only [execDegradedRead, hc]
  rw [if_neg (by simp [hp, hfirst])]
  extract_lets s1 again stripe s2
  have hagain : again = false := by
    refine Bool.and_eq_false_imp.2 fun _ => List.any_eq_false.2 fun r hr => ?_
    obtain ⟨data, hd⟩ := hrows r hr
    simp [hd]
  exact if_neg (by simp [hagain])

/-! ### A chunk of a move (R263, R283, R291). -/

/-- Below the zone's last written stripe the boundary rises and the move goes on. -/
theorem State.raiseBoundary_of_lt {s : State} {p : Placement} {b : Nat} (h96 : b < 96) (hh : b < s.highest p.zone) :
    s.raiseBoundary p b = ((s.setPlace { p with boundary := b }).journal (.boundary p.zone b)).pulse 28 := by
  rw [State.raiseBoundary]
  exact if_neg (by omega)

section
variable {s : State} {z : Nat} {p : Placement} (hp : s.place? z = some p)
include hp

section
variable (hh : p.boundary + 8 < s.highest z) (h96 : p.boundary + 8 < 96)
include hh h96

theorem State.place?_raiseBoundary :
    (s.raiseBoundary p (p.boundary + 8)).place? z = some { p with boundary := p.boundary + 8 } := by
  rw [State.raiseBoundary_of_lt h96 (by rwa [State.zone_of_place? hp])]
  simp [State.place?_setPlace_self hp]

theorem State.waitingEntries_raiseBoundary : (s.raiseBoundary p (p.boundary + 8)).waitingEntries =
    s.waitingEntries ++ [.boundary z (p.boundary + 8)] := by
  rw [State.raiseBoundary_of_lt h96 (by rwa [State.zone_of_place? hp])]
  simp [State.zone_of_place? hp]

end

variable (hm : p.moving = true)
include hm

theorem exec_rebuildChunk (hn : s.nextRebuild = some z) (hh : p.boundary + 8 < s.highest z) (h96 : p.boundary + 8 < 96) :
    exec (.rebuildChunk z []) s = .next (s.raiseBoundary p (p.boundary + 8)) := by
  have hs : s.startRebuild p = s := if_pos hm
  have hb : (if s.highest z = 0 then 0 else min (p.boundary + 8) (min 96 (max (s.highest z) p.boundary))) = p.boundary + 8 := by
    rw [if_neg (by omega)]
    omega
  change execRebuildChunk z [] s = _
  simp [execRebuildChunk, hn, hp, hs, hm, hb]

theorem exec_reshapeInPlaceChunk (hi : p.inPlace = true) (h96 : p.boundary + 8 < 96) : exec (.reshapeInPlaceChunk z) s =
    .next ((s.journal (.ckpt z p.boundary (p.boundary + 8))).raiseBoundary p (p.boundary + 8)) := by
  have hb : min 96 (p.boundary + 8) = p.boundary + 8 := by omega
  change execReshapeInPlaceChunk z s = _
  simp [execReshapeInPlaceChunk, hp, hm, hi, hb]

/-- A relocation of a zone that moves waits (R288). -/
theorem exec_relocation_waits (m : Nat) : Goes (exec (.relocation z m) s) fun t =>
    (z, m) ∈ t.stripe.relocs ∧ t.stripe.places = s.stripe.places := by
  change Goes (execRelocation z m s) _
  simp -zeta only [execRelocation, hp]
  extract_lets stripe wait
  rw [if_pos (.inl hm), Goes_next]
  refine ⟨?_, rfl⟩
  change (z, m) ∈ if (z, m) ∈ s.stripe.relocs then s.stripe.relocs else s.stripe.relocs ++ [(z, m)]
  split
  · assumption
  · simp

end

/-! ### A relocation that starts (R288), and a reshape that is over (R289). -/

theorem exec_relocation_starts {s : State} {z m : Nat} {p : Placement} {x : Member} {b : Nat × Nat × Bool}
    (hp : s.place? z = some p) (hm : p.moving = false) (hr : s.stripe.rebuild = []) (hd : m < p.d + 2)
    (hx : p.cur[m]? = some x) (h0 : x.state = 0) (hs : x.surface ≠ 0xFF) (hb : chooseSpare p.d p.cur m p.spares = some b) :
    Goes (exec (.relocation z m) s) fun t => (t.place? z).map (fun q => (q.moving, q.kind, q.next)) =
      some (true, 2, p.cur.set m ⟨b.1, 2, b.2.1⟩) := by
  change Goes (execRelocation z m s) _
  simp -zeta only [execRelocation, hp]
  extract_lets stripe wait
  simp only [hx, hb]
  rw [if_neg (by simp [hm, hr, hd]), if_neg (by simp [h0, hs]), Goes_next]
  have hw : wait.place? z = some p := hp
  simp [State.moveStart, State.place?_setPlace_self hw]

theorem exec_reshape_over {s : State} {z : Nat} {p : Placement} (hz : z ∈ s.stripe.reshape) (hp : s.place? z = some p)
    (hl : p.lostMembers = []) : exec (.reshape z) s =
      .next { s with stripe := { s.stripe with reshape := s.stripe.reshape.filter (· != z) } } := by
  change execReshape z s = _
  unfold execReshape
  rw [if_pos hz]
  simp only [hp, hl]

/-! ### The statement. -/

/-- Settles O33: a retirement by `HeadOut`, which a restarted move keeps, a degraded read by what its rows touch, and the moves by
what the placement and the journal then read. -/
theorem headLossAndMoves : Obligations.HeadLossAndMoves := by
  unfold Obligations.HeadLossAndMoves
  refine fun s => ⟨fun c h hc hh => ⟨fun hn => ?_, fun hr => ?_⟩, fun c f z i rows a hc hp hf hrows => ?_,
    fun z p hp hm => ⟨fun hn hh h96 => ?_, fun hi hh h96 => ?_, exec_relocation_waits hp hm⟩,
    fun z m p x b hp hm hr hd hx h0 hs hb => exec_relocation_starts hp hm hr hd hx h0 hs hb, fun z p hz hp hl => ?_⟩
  · rw [exec_headRetire hc hh, Goes_next]
    obtain ⟨hret, hlog, hwithout⟩ := State.headOut_retireHead hn
    exact ⟨hret, (State.exists_waiting_iff _ _).2 hlog, hwithout⟩
  · rw [exec_headRetire hc hh, State.retireHead, if_pos hr]
  · have ht := State.foldl_degradedRow_touches f z i a hrows (Only.refl degradedParts s)
    rw [exec_degradedRead hc hp hf hrows, Goes_next]
    refine ⟨State.not_mem_degradedDone _ _, ?_⟩
    rw [State.get_degradedDone, ht.get rfl]
  · rw [exec_rebuildChunk hp hm hn hh h96, Goes_next, State.exists_waiting_iff]
    refine ⟨?_, ?_⟩
    · rw [State.place?_raiseBoundary hp hh h96]
      exact congrArg (fun v => some (_, v)) hm
    · rw [State.waitingEntries_raiseBoundary hp hh h96]
      simp
  · rw [exec_reshapeInPlaceChunk hp hm hi h96, Goes_next]
    have hp' : (s.journal (.ckpt z p.boundary (p.boundary + 8))).place? z = some p := hp
    refine ⟨?_, ?_⟩
    · rw [State.place?_raiseBoundary hp' hh h96]
      rfl
    · refine (State.waitingEntries_raiseBoundary hp' hh h96).trans ?_
      rw [State.waitingEntries_journal, List.append_assoc]
      rfl
  · rw [exec_reshape_over hz hp hl, Goes_next]
    exact ⟨by simp, rfl⟩

end Sys2Proof.Machine
end

section
/-!
PROOFS. A step (O1), and the fuses (O6): what each fuse operation leaves burned (R484).
-/

namespace Sys2Proof.Machine

/-- Settles O1: both clauses are the definition of a step. -/
theorem stepRunsFrontCommand : Obligations.StepRunsFrontCommand := by
  unfold Obligations.StepRunsFrontCommand
  refine ⟨fun _ _ _ => rfl, fun s hs => ?_⟩
  rw [step, hs]

/-! ### Fuses that only burn. -/

theorem KeySlot.le_refl (k : KeySlot) : k.le k = true := by cases k; simp [KeySlot.le]

theorem Fuses.Le.refl (f : Fuses) : f.Le f where
  oem := Nat.le_refl _
  ht := Nat.le_refl _
  keys := fun _ k hk => ⟨k, hk, k.le_refl⟩
  hrev := fun _ h => h
  ds := fun h => h

/-- A key slot is replaced by one that has burned further. -/
theorem Fuses.Le.setKey {f : Fuses} {n : Nat} {k l : KeySlot} (hk : f.keys[n]? = some k) (hl : k.le l = true) :
    f.Le { f with keys := setAt f.keys n l } :=
  { Fuses.Le.refl f with
    keys := fun i m hm => by
      by_cases hi : i = n
      · obtain rfl : m = k := by rw [hi, hk] at hm; exact (Option.some.inj hm).symm
        exact ⟨l, by simp [setAt_getElem?, hi, hk], hl⟩
      · exact ⟨m, by simp [setAt_getElem?, hi, hm], m.le_refl⟩ }

/-- A Holtale key that was not revoked is revoked, or stays as it was. -/
theorem Fuses.Le.setHoltale {f : Fuses} {n : Nat} (hn : f.htRevoked.getD n false = false) (b : Bool) :
    f.Le { f with htRevoked := setAt f.htRevoked n b } :=
  { Fuses.Le.refl f with
    hrev := fun i hi => by
      have hin : i ≠ n := by
        rintro rfl
        simp [List.getD_eq_getElem?_getD, hi] at hn
      simp [setAt_getElem?, hin, hi] }

/-! ### The fuse operations. -/

theorem State.inMfg_of_mfg {s : State} (h : s.mfg = true) (f : State → State) : s.inMfg f = f s := if_pos h

theorem State.inMfg_of_not_mfg {s : State} (h : s.mfg = false) (f : State → State) : s.inMfg f = s := if_neg (by simp [h])

/-- An operation of manufacturing mode that only burns fuses leaves them burned further in every mode. -/
theorem State.fuses_le_inMfg {s : State} {f : State → State} (h : s.fuses.Le (f s).fuses) : s.fuses.Le (s.inMfg f).fuses := by
  rw [State.inMfg]
  split
  · exact h
  · exact Fuses.Le.refl _

@[simp] theorem State.fuseDone_fuses (s : State) (op index : Nat) (err : Bool) : (s.fuseDone op index err).fuses = s.fuses := rfl

theorem execBurnDs_burns (ok : Bool) (s : State) : Keeps (execBurnDs ok s) fun t => s.fuses.Le t.fuses := by
  rw [execBurnDs, Keeps_next]
  refine State.fuses_le_inMfg ?_
  split
  · exact Fuses.Le.refl _
  · exact { Fuses.Le.refl s.fuses with ds := fun _ => rfl }

theorem execProgramKeySlot_burns (n : Fin 4) (ok : Bool) (s : State) :
    Keeps (execProgramKeySlot n ok s) fun t => s.fuses.Le t.fuses := by
  rw [execProgramKeySlot, Keeps_next]
  refine State.fuses_le_inMfg ?_
  split
  · exact Fuses.Le.refl _
  · next k hk =>
    split
    · exact Fuses.Le.refl _
    · next hp => exact Fuses.Le.setKey hk (by cases hr : k.revoked <;> simp [KeySlot.le, hp, hr])

theorem execRevokeKeySlot_burns (n : Fin 4) (ok : Bool) (s : State) :
    Keeps (execRevokeKeySlot n ok s) fun t => s.fuses.Le t.fuses := by
  rw [execRevokeKeySlot, Keeps_next]
  refine State.fuses_le_inMfg ?_
  split
  · exact Fuses.Le.refl _
  · next k hk =>
    split
    · exact Fuses.Le.refl _
    · next hr => exact Fuses.Le.setKey hk (by cases hp : k.prog <;> simp [KeySlot.le, hp, hr])

theorem execRevokeHoltaleKey_burns (n : Fin 2) (ok : Bool) (s : State) :
    Keeps (execRevokeHoltaleKey n ok s) fun t => s.fuses.Le t.fuses := by
  rw [execRevokeHoltaleKey, Keeps_next]
  refine State.fuses_le_inMfg ?_
  split
  · exact Fuses.Le.refl _
  · next hr => exact Fuses.Le.setHoltale (by simpa using hr) ok

/-- The end of P11 burns the greater of each security version and the image's (R73, R84). -/
theorem execStartReady_burns (s : State) : Keeps (execStartReady s) fun t => s.fuses.Le t.fuses := by
  unfold execStartReady
  split
  · exact (Keeps_next _ _).2 (Fuses.Le.refl _)
  · extract_lets s1 oem ht h s2
    have hs1 : s1.fuses = s.fuses := rfl
    refine (Keeps_next _ _).2 { Fuses.Le.refl s.fuses with oem := ?_, ht := ?_ }
    · change s.fuses.oemSvn ≤ oem
      simp only [oem, hs1]
      split
      · split <;> omega
      · exact Nat.le_refl _
    · change s.fuses.htSvn ≤ ht
      simp only [ht, hs1]
      split
      · split <;> omega
      · exact Nat.le_refl _

/-- Settles O6: the frame of a command (`exec_reach`) names the fuses for five commands only, and each of the five only burns. -/
theorem fusesOnlyBurn : Obligations.FusesOnlyBurn := by
  unfold Obligations.FusesOnlyBurn
  intro c s t ht
  have frame (h : Part.of c.reach .fuses = false) : s.fuses.Le t.fuses := by
    rw [(exec_reach c s t ht).fuses h]
    exact Fuses.Le.refl _
  cases c
  case startReady => exact execStartReady_burns s t ht
  case burnDs ok => exact execBurnDs_burns ok s t ht
  case programKeySlot n ok => exact execProgramKeySlot_burns n ok s t ht
  case revokeKeySlot n ok => exact execRevokeKeySlot_burns n ok s t ht
  case revokeHoltaleKey n ok => exact execRevokeHoltaleKey_burns n ok s t ht
  all_goals exact frame rfl

end Sys2Proof.Machine
end

section
/-!
PROOFS. The Credenza and the fuses (O55): the minute tick, the writes of a slot, CLEAR and PERSIST (R473, R474, R490, R491), and
the end of each fuse operation (R484).
-/

namespace Sys2Proof.Machine

/-! ### Counting (R472, R473). -/

theorem State.count_crd (s : State) (id inst n : Nat) : (s.count id inst n).crd = { s.crd with
    cnt := assocPut s.crd.cnt (id, inst) (crdAdd 0xFFFFFFFFFFFFFFFF (assocGet (0, false) s.crd.cnt (id, inst)) n).1 } := by
  simp [State.count]

/-- A counter after a count: the named one is increased, every other reads as before. -/
theorem State.cnt_count (s : State) (id inst n : Nat) (k : Nat × Nat) :
    assocGet (0, false) (s.count id inst n).crd.cnt k =
      if k = (id, inst) then (crdAdd 0xFFFFFFFFFFFFFFFF (assocGet (0, false) s.crd.cnt k) n).1
      else assocGet (0, false) s.crd.cnt k := by
  rw [State.count_crd, assocGet_assocPut]
  split
  · next h => rw [h]
  · rfl

theorem State.bin_crd_cnt (s : State) (hid inst b : Nat) : (s.bin hid inst b).crd.cnt = s.crd.cnt := by simp [State.bin]
theorem State.bin_crd_busy (s : State) (hid inst b : Nat) : (s.bin hid inst b).crd.busy = s.crd.busy := by simp [State.bin]
theorem State.bin_crd_minutes (s : State) (hid inst b : Nat) : (s.bin hid inst b).crd.minutes = s.crd.minutes := by
  simp [State.bin]

/-- What a minute counts: power-on time, the power state, T_j and, above level 0, the thermal level (R473, R476). -/
def State.minuteCounted (s : State) : State :=
  let s1 := ((s.count 0x01 0 1).count 0x14 (s.get Reg.RCU.PWR.EFFECTIVE) 1).bin 7 0 (tjBin (s.get Reg.RCU.THERMAL.TJ))
  if s.get Reg.RCU.PWR.THERM_LEVEL = 0 then s1 else s1.count 0x15 (s.get Reg.RCU.PWR.THERM_LEVEL) 1

theorem State.minuteCounted_busy (s : State) : s.minuteCounted.crd.busy = s.crd.busy := by
  unfold State.minuteCounted
  split <;> simp [State.count_crd, State.bin_crd_busy]

theorem State.minuteCounted_minutes (s : State) : s.minuteCounted.crd.minutes = s.crd.minutes := by
  unfold State.minuteCounted
  split <;> simp [State.count_crd, State.bin_crd_minutes]

theorem State.minuteCounted_cnt (s : State) : ∀ k ∈ [(0x01, 0), (0x14, s.get Reg.RCU.PWR.EFFECTIVE)] ++
    (if s.get Reg.RCU.PWR.THERM_LEVEL = 0 then [] else [(0x15, s.get Reg.RCU.PWR.THERM_LEVEL)]),
    assocGet (0, false) s.minuteCounted.crd.cnt k =
      (crdAdd 0xFFFFFFFFFFFFFFFF (assocGet (0, false) s.crd.cnt k) 1).1 := by
  intro k hk
  unfold State.minuteCounted
  by_cases h0 : s.get Reg.RCU.PWR.THERM_LEVEL = 0
  · rw [if_pos h0] at hk ⊢
    simp only [List.append_nil, List.mem_cons, List.not_mem_nil, or_false] at hk
    rcases hk with rfl | rfl <;> simp [State.cnt_count, State.bin_crd_cnt]
  · rw [if_neg h0] at hk ⊢
    simp only [List.cons_append, List.nil_append, List.mem_cons, List.not_mem_nil, or_false] at hk
    rcases hk with rfl | rfl | rfl <;> simp [State.cnt_count, State.bin_crd_cnt]

theorem exec_minuteTick {s : State} (hr : s.start.rst = .running) : Goes (exec .minuteTick s) fun t =>
    t.crd = { s.minuteCounted.crd with minutes := s.crd.minutes + 1, busy := s.crd.busy || decide (60 ≤ s.crd.minutes + 1) } := by
  refine ⟨_, if_neg (not_not.2 hr), ?_⟩
  change ({ s.minuteCounted.crd with
    minutes := s.minuteCounted.crd.minutes + 1
    busy := s.minuteCounted.crd.busy || decide (s.minuteCounted.crd.minutes + 1 ≥ 60) } : Credenza) = _
  rw [State.minuteCounted_busy, State.minuteCounted_minutes]

/-! ### The slots (R474). -/

theorem State.olderSlot_lt (s : State) : s.olderSlot < 2 := by
  unfold State.olderSlot
  split <;> omega

/-- The working copy has been written to the older slot, with the next GEN. -/
structure SlotWritten (s t : State) : Prop where
  minutes : t.crd.minutes = 0
  slot : t.get Reg.CRD.STATUS.SLOT = s.olderSlot
  image : (t.chest.credSlots.getD s.olderSlot none).map (fun c => (c.cnt, c.bins, c.rows, c.pages)) =
    some (s.crd.cnt, s.crd.bins, s.buf.kept.rows, s.buf.kept.pages)
  gen : credGen (t.chest.credSlots.getD s.olderSlot none) =
    1 + max (credGen (s.chest.credSlots.getD 0 none)) (credGen (s.chest.credSlots.getD 1 none))

theorem State.credWrite_written {s : State} (hw : s.chest.writeOk.any id = true) (hl : s.chest.credSlots.length = 2) :
    SlotWritten s s.credWrite := by
  have h : s.olderSlot < s.chest.credSlots.length := hl ▸ s.olderSlot_lt
  rw [State.credWrite, if_pos hw]
  extract_lets n gen
  have himage : (setAt s.chest.credSlots n (some (s.credImage gen))).getD s.olderSlot none = some (s.credImage gen) :=
    setAt_getD_self h _ _
  refine ⟨rfl, ?_, ?_, ?_⟩
  · rw [State.get_put_self _ _ _ (by decide)]
    exact Nat.mod_eq_of_lt s.olderSlot_lt
  · exact congrArg (Option.map _) himage
  · exact (congrArg credGen himage).trans (Nat.add_comm _ _)

theorem exec_credenzaPersist {s : State} (hr : s.start.rst = .running) (hb : s.crd.busy = true)
    (hc : s.crd.clearWait = false) : exec .credenzaPersist s = .next
      (({ s with crd := { s.crd with busy := false } } : State).credWrite.put Reg.CRD.CTRL.PERSIST 0) := by
  change execCredenzaPersist s = _
  rw [execCredenzaPersist, if_pos ⟨hr, hb⟩, State.credPersist, if_neg]
  unfold State.credWrite
  split <;> simp [hc]

theorem State.credWrite_busy (s : State) : s.credWrite.crd.busy = s.crd.busy := by
  unfold State.credWrite
  split <;> rfl

/-- The end of a write: nothing runs, and the older slot holds the working copy. -/
theorem exec_credenzaPersist_written {s : State} (hr : s.start.rst = .running) (hb : s.crd.busy = true)
    (hc : s.crd.clearWait = false) (hw : s.chest.writeOk.any id = true) (hl : s.chest.credSlots.length = 2) :
    Goes (exec .credenzaPersist s) fun t => t.crd.busy = false ∧ t.get Reg.CRD.CTRL.PERSIST = 0 ∧ SlotWritten s t := by
  rw [exec_credenzaPersist hr hb hc, Goes_next]
  obtain ⟨hmin, hslot, himage, hgen⟩ := State.credWrite_written (s := { s with crd := { s.crd with busy := false } }) hw hl
  exact ⟨State.credWrite_busy _, State.get_put_self _ _ _ (by decide),
    ⟨hmin, (State.get_put_apart _ _ _ _ (by decide)).trans hslot, himage, hgen⟩⟩

/-! ### CLEAR and PERSIST (R491). -/

/-- What CLEAR leaves. -/
structure CredCleared (s t : State) : Prop where
  cnt : t.crd.cnt = []
  bins : t.crd.bins = []
  lost : t.get Reg.CRD.STATUS.LOST = 0
  clear : t.get Reg.CRD.CTRL.CLEAR = 0
  ical : t.crd.icalMfg = (List.range 24).map fun h => s.get (Reg.EAC.HEAD.WRITE_CUR h)
  kept : t.buf.kept = s.buf.kept

theorem State.credClear_cleared (s : State) : CredCleared s s.credClear := by
  have hlost (t : State) (f : Fld) (hf : Reg.CRD.STATUS.SLOT.apart f = true) : t.credWrite.get f = t.get f := by
    unfold State.credWrite
    split
    · exact State.get_put_apart _ _ _ _ hf
    · rfl
  unfold State.credClear
  extract_lets ical s1
  refine ⟨?_, ?_, ?_, State.get_put_self _ _ _ (by decide), ?_, ?_⟩
  · unfold State.credWrite
    split <;> rfl
  · unfold State.credWrite
    split <;> rfl
  · rw [State.get_put_apart _ _ _ _ (by decide), hlost _ _ (by decide)]
    exact State.get_put_self _ _ _ (by decide)
  · unfold State.credWrite
    split <;> rfl
  · unfold State.credWrite
    split <;> rfl

theorem exec_crdClear {s : State} (hm : s.mfg = true) : exec .crdClear s = .next (if s.crd.busy then
    ({ s with crd := { s.crd with clearWait := true } } : State).put Reg.CRD.CTRL.CLEAR 1 else s.credClear) :=
  congrArg Host.Outcome.next (State.inMfg_of_mfg hm _)

theorem exec_persist {s : State} (hm : s.mfg = true) : exec .persist s = .next
    (({ s with crd := { s.crd with busy := true } } : State).put Reg.CRD.CTRL.PERSIST 1) :=
  congrArg Host.Outcome.next (State.inMfg_of_mfg hm _)

/-! ### The end of a fuse operation (R484). -/

/-- TST.FUSE after an operation that has ended. -/
structure FuseEnded (t : State) (op index : Nat) (err : Bool) : Prop where
  done : t.get Reg.TST.FUSE.DONE = 1
  go : t.get Reg.TST.FUSE.GO = 0
  op : t.get Reg.TST.FUSE.OP = op
  index : t.get Reg.TST.FUSE.INDEX = index
  err : t.flag Reg.TST.FUSE.ERR = err

theorem State.flag_putB_self (s : State) (f : Fld) (b : Bool) (hf : f.lo + f.width ≤ 32) (hw : 1 ≤ f.width) :
    (s.putB f b).flag f = b := by
  change ((s.putB f b).get f != 0) = b
  rw [State.get_putB_self _ _ _ hf hw]
  cases b <;> rfl

theorem State.fuseDone_ended (s : State) {op index : Nat} (ho : op < 8) (hi : index < 4) (err : Bool) :
    FuseEnded (s.fuseDone op index err) op index err := by
  unfold State.fuseDone
  refine ⟨?_, ?_, ?_, ?_, State.flag_putB_self _ _ _ (by decide) (by decide)⟩
  · rw [State.get_putB_apart _ _ _ _ (by decide), State.get_put_self _ _ _ (by decide)]
    rfl
  · rw [State.get_putB_apart _ _ _ _ (by decide), State.get_put_apart _ _ _ _ (by decide), State.get_put_self _ _ _ (by decide)]
    rfl
  · rw [State.get_putB_apart _ _ _ _ (by decide), State.get_put_apart _ _ _ _ (by decide),
      State.get_put_apart _ _ _ _ (by decide), State.get_put_apart _ _ _ _ (by decide), State.get_put_self _ _ _ (by decide)]
    exact Nat.mod_eq_of_lt ho
  · rw [State.get_putB_apart _ _ _ _ (by decide), State.get_put_apart _ _ _ _ (by decide),
      State.get_put_apart _ _ _ _ (by decide), State.get_put_self _ _ _ (by decide)]
    exact Nat.mod_eq_of_lt hi

/-- A fuse operation in manufacturing mode: one that burns nothing ends with ERR set, and any other leaves the fuses it burns. -/
theorem Goes_fuseOp {s : State} {op index : Nat} (ho : op < 8) (hi : index < 4) (g : Fuses) (burned ok : Bool) :
    Goes (.next (if burned then s.fuseDone op index true else ({ s with fuses := g } : State).fuseDone op index !ok)) fun t =>
      FuseEnded t op index (burned || !ok) ∧ t.fuses = if burned then s.fuses else g := by
  rw [Goes_next]
  cases burned
  · exact ⟨State.fuseDone_ended _ ho hi _, rfl⟩
  · exact ⟨State.fuseDone_ended _ ho hi _, rfl⟩

section
variable {s : State} (hm : s.mfg = true) (ok : Bool)
include hm

theorem exec_burnDs : Goes (exec (.burnDs ok) s) fun t => FuseEnded t 1 0 (s.fuses.dsBurned || !ok) ∧
    t.fuses = if s.fuses.dsBurned then s.fuses else { s.fuses with dsBurned := true, dsOk := ok } := by
  change Goes (.next (s.inMfg _)) _
  rw [State.inMfg_of_mfg hm]
  exact Goes_fuseOp (by decide) (by decide) _ _ _

theorem exec_programKeySlot {n : Fin 4} {k : KeySlot} (hk : s.fuses.keys[n.val]? = some k) :
    Goes (exec (.programKeySlot n ok) s) fun t => FuseEnded t 2 n (k.prog || !ok) ∧ t.fuses = if k.prog then s.fuses else
      { s.fuses with keys := setAt s.fuses.keys n ⟨s.fuseDigest, true, k.revoked || !ok⟩ } := by
  change Goes (.next (s.inMfg _)) _
  rw [State.inMfg_of_mfg hm]
  simp only [hk]
  exact Goes_fuseOp (by decide) n.isLt _ _ _

theorem exec_revokeKeySlot {n : Fin 4} {k : KeySlot} (hk : s.fuses.keys[n.val]? = some k) :
    Goes (exec (.revokeKeySlot n ok) s) fun t => FuseEnded t 3 n (k.revoked || !ok) ∧ t.fuses = if k.revoked then s.fuses else
      { s.fuses with keys := setAt s.fuses.keys n { k with revoked := ok } } := by
  change Goes (.next (s.inMfg _)) _
  rw [State.inMfg_of_mfg hm]
  simp only [hk]
  exact Goes_fuseOp (by decide) n.isLt _ _ _

theorem exec_revokeHoltaleKey {n : Fin 2} {r : Bool} (hr : s.fuses.htRevoked[n.val]? = some r) :
    Goes (exec (.revokeHoltaleKey n ok) s) fun t => FuseEnded t 4 n (r || !ok) ∧ t.fuses = if r then s.fuses else
      { s.fuses with htRevoked := setAt s.fuses.htRevoked n.val ok } := by
  have hd : s.fuses.htRevoked.getD n.val false = r := by rw [List.getD_eq_getElem?_getD, hr]; rfl
  change Goes (.next (s.inMfg _)) _
  rw [State.inMfg_of_mfg hm]
  simp only [hd]
  exact Goes_fuseOp (by decide) (by omega) _ _ _

end

/-- Outside manufacturing mode CLEAR, PERSIST and every fuse operation do nothing. -/
theorem exec_notInMfg {s : State} (hm : s.mfg = false) (ok : Bool) :
    ∀ i ∈ [Instr.crdClear, .persist, .burnDs ok] ++ (List.range 4).flatMap (fun n => [Instr.programKeySlot (Fin.ofNat 4 n) ok,
      .revokeKeySlot (Fin.ofNat 4 n) ok, .revokeHoltaleKey (Fin.ofNat 2 n) ok]), exec i s = .next s := by
  have h (f : State → State) : Host.Outcome.next (φ := Fault) (ρ := Refusal) (s.inMfg f) = .next s :=
    congrArg Host.Outcome.next (State.inMfg_of_not_mfg hm f)
  intro i hi
  rcases List.mem_append.1 hi with hi | hi
  · simp only [List.mem_cons, List.not_mem_nil, or_false] at hi
    rcases hi with rfl | rfl | rfl <;> exact h _
  · obtain ⟨n, -, hn⟩ := List.mem_flatMap.1 hi
    simp only [List.mem_cons, List.not_mem_nil, or_false] at hn
    rcases hn with rfl | rfl | rfl <;> exact h _

/-! ### The statement. -/

/-- Settles O55: the minute by what it counts (`State.minuteCounted`), the writes by `SlotWritten` and `CredCleared`, the fuse
operations by `FuseEnded` and the fuses they leave. -/
theorem credenzaAndFuses : Obligations.CredenzaAndFuses := by
  unfold Obligations.CredenzaAndFuses
  refine fun s => ⟨fun hr => ⟨?minute, fun hb hc hw hl => ?written⟩, fun hm => ⟨?clear, ?persist, fun ok => ?fuses⟩,
    fun hm ok => exec_notInMfg hm ok⟩
  case minute =>
    refine (exec_minuteTick hr).imp fun t ht => ?_
    rw [ht]
    exact ⟨rfl, rfl, s.minuteCounted_cnt⟩
  case written =>
    refine (exec_credenzaPersist_written hr hb hc hw hl).imp fun t ⟨hbusy, hpersist, ⟨hmin, hslot, himage, hgen⟩⟩ => ?_
    exact ⟨hbusy, hpersist, hmin, hslot, himage, hgen⟩
  case clear =>
    rw [exec_crdClear hm, Goes_next]
    split
    · exact ⟨rfl, State.get_put_self _ _ _ (by decide), rfl⟩
    · obtain ⟨hcnt, hbins, hlost, hclear, hical, hkept⟩ := s.credClear_cleared
      exact ⟨hcnt, hbins, hlost, hclear, hical, hkept⟩
  case persist =>
    rw [exec_persist hm, Goes_next]
    exact ⟨rfl, State.get_put_self _ _ _ (by decide)⟩
  case fuses =>
    intro Ended
    have hEnded {t : State} {op index : Nat} {err : Bool} (h : FuseEnded t op index err) : Ended t op index err :=
      ⟨h.done, h.go, h.op, h.index, h.err⟩
    refine ⟨(exec_burnDs hm ok).imp fun t ⟨he, hf⟩ => ⟨hEnded he, hf⟩, fun n k hk => ⟨?_, ?_⟩, fun n r hr => ?_⟩
    · refine (exec_programKeySlot hm ok hk).imp fun t ⟨he, hf⟩ => ⟨hEnded he, ?_⟩
      rw [hf]
      split
      · exact hk
      · simp [setAt_getElem?, hk]
    · refine (exec_revokeKeySlot hm ok hk).imp fun t ⟨he, hf⟩ => ⟨hEnded he, ?_⟩
      rw [hf]
      obtain ⟨d, p, r⟩ := k
      cases r
      · simp [setAt_getElem?, hk]
      · simp [hk]
    · refine (exec_revokeHoltaleKey hm ok hr).imp fun t ⟨he, hf⟩ => ⟨hEnded he, ?_⟩
      rw [hf]
      cases r
      · simp [setAt_getElem?, hr]
      · simp [hr]

end Sys2Proof.Machine
end

section
/-!
PROOFS. Ring channels (O36), streaming channels and event lines (O37): what a row moves in the memories, what the end of a
descriptor leaves, KICK and ABORT, the sets of a stream, pulses (R316 to R328).
-/

namespace Sys2Proof.Machine

/-! ### The bytes of the memories. -/

theorem State.byte_congr {s t : State} (h : t.buf = s.buf) (m : Mem) (a : Nat) : t.byte m a = s.byte m a := by
  cases m <;> simp [State.byte, State.cells, h]

theorem State.cells_setCells (s : State) (m x : Mem) (c : List Host.Cell) :
    (s.setCells m c).cells x = if x = m then c else s.cells x := by
  cases m <;> cases x <;> rfl

@[simp] theorem State.length_bytes (s : State) (m : Mem) (a n : Nat) : (s.bytes m a n).length = n := by
  simp [State.bytes, Sparse.getRun]

/-- With no flip mask armed a client write replaces its bytes and nothing else (R299, R312). -/
structure BytesPut (m : Mem) (a : Nat) (b : Bytes) (s t : State) : Prop where
  byte : ∀ x i, t.byte x i = if x = m ∧ a ≤ i ∧ i < a + b.length then b.getD (i - a) 0 else s.byte x i
  regs : t.regs = s.regs
  dma : t.dma = s.dma

theorem State.takeFlip_unarmed {s : State} (h : s.get Reg.MEC.FLIP_CTRL.ARM = 0) (m : Mem) (a n : Nat) :
    s.takeFlip m a n = s := by
  have hf : s.flag Reg.MEC.FLIP_CTRL.ARM = false := by
    change (s.get _ != 0) = false
    rw [h]
    rfl
  rw [State.takeFlip, if_neg (by simp [hf])]

theorem State.memWrite_put {s : State} (h : s.get Reg.MEC.FLIP_CTRL.ARM = 0) (m : Mem) (a : Nat) (b : Bytes) :
    BytesPut m a b s (s.memWrite m a b) := by
  have hregs (c : List Host.Cell) : (s.setCells m c).regs = s.regs := by cases m <;> rfl
  unfold State.memWrite
  extract_lets s1 buf s2
  have h2 : s2.get Reg.MEC.FLIP_CTRL.ARM = 0 := (State.get_congr (hregs _) _).trans h
  rw [State.takeFlip_unarmed h2]
  refine ⟨fun x i => ?_, hregs _, ?_⟩
  · have hc : s2.byte x i = Sparse.get cellDefault (s1.cells x) i := by cases x <;> rfl
    rw [hc, State.cells_setCells]
    by_cases hx : x = m
    · rw [if_pos hx]
      subst hx
      by_cases hi : a ≤ i ∧ i < a + b.length
      · rw [if_pos ⟨rfl, hi⟩]
        obtain ⟨k, rfl⟩ := Nat.exists_eq_add_of_le hi.1
        have hk : k < b.length := by omega
        rw [Sparse.get_putRun _ _ _ _ _ hk, Nat.add_sub_cancel_left]
        simp [hk]
      · rw [if_neg (fun h => hi h.2), Sparse.get_putRun_of_lt _ _ _ _ _ (by omega)]
        rfl
    · rw [if_neg hx, if_neg (fun h => hx h.1)]
      rfl
  · cases m <;> rfl

/-! ### A row that nothing keeps from moving (R316, R319). -/

theorem State.firstBad_noFlips {s : State} (h : s.buf.flips = []) (m : Mem) (a n : Nat) : s.firstBad m a n = none := by
  simp [State.firstBad, h, minNat?]

/-- The state after at most `lim` bytes of the one row have moved. -/
def State.rowMoved (s : State) (d : Desc) (ms md : Mem) (lim : Nat) : State :=
  if lim = 0 then s else s.memWrite md d.dst.toNat (s.bytes ms d.src.toNat (min lim d.len.toNat))

section
variable {s : State} {d : Desc} {ms md : Mem} (h : Movable d ms md s)
include h

theorem Movable.dmaRows (pcie : List Bytes) (lim : Nat) : ∃ moved,
    State.dmaRows d pcie (List.range d.rows.toNat) lim 0 s = (s.rowMoved d ms md lim, moved, none) := by
  obtain ⟨-, -, hrows, hsrc, hdst, hflips, -⟩ := h
  have hr : List.range d.rows.toNat = [0] := by rw [hrows]; rfl
  have hrow : s.dmaRow d pcie 0 lim =
      (s.memWrite md d.dst.toNat (s.bytes ms d.src.toNat (min lim d.len.toNat)), min lim d.len.toNat, none) := by
    simp [State.dmaRow, hsrc, hdst, State.firstBad_noFlips hflips, State.readCorrections_noFlips hflips, State.dmaPut, srcAt,
      dstAt]
  rw [hr, State.dmaRows, State.rowMoved]
  split
  · exact ⟨_, rfl⟩
  · rw [hrow]
    exact ⟨_, rfl⟩

theorem Movable.runDesc (n : Nat) (pcie : List Bytes) (lim st : Nat) :
    s.runDesc n d pcie lim st = (s.rowMoved d ms md lim).ringEnd n d st := by
  obtain ⟨moved, hm⟩ := h.dmaRows pcie lim
  rw [State.runDesc, hm]

theorem Movable.rowMoved_put (lim : Nat) : ∃ k ≤ d.len.toNat, (d.len.toNat ≤ lim → k = d.len.toNat) ∧
    BytesPut md d.dst.toNat (s.bytes ms d.src.toNat k) s (s.rowMoved d ms md lim) := by
  obtain ⟨-, -, -, -, -, -, harm⟩ := h
  rw [State.rowMoved]
  split
  · next h0 =>
    refine ⟨0, Nat.zero_le _, by omega, fun x i => ?_, rfl, rfl⟩
    rw [if_neg]
    simp only [State.length_bytes]
    omega
  · exact ⟨_, Nat.min_le_right _ _, Nat.min_eq_right, State.memWrite_put harm _ _ _⟩

/-- The whole row moves where nothing limits it. -/
theorem Movable.rowCopied {lim : Nat} (hl : d.len.toNat ≤ lim) : RowCopied d ms md s (s.rowMoved d ms md lim) := by
  obtain ⟨k, -, hk, hput⟩ := h.rowMoved_put lim
  obtain rfl := hk hl
  intro x a
  rw [hput.byte, State.length_bytes]
  split
  · rw [State.getD_bytes _ _ _ (by omega)]
  · rfl

/-- However much moves, no byte outside the row changes. -/
theorem Movable.byte_outside (lim : Nat) {x : Mem} {a : Nat} (ha : ¬ (x = md ∧ d.dst.toNat ≤ a ∧ a < d.dst.toNat + d.len.toNat)) :
    (s.rowMoved d ms md lim).byte x a = s.byte x a := by
  obtain ⟨k, hk, -, hput⟩ := h.rowMoved_put lim
  rw [hput.byte, State.length_bytes, if_neg (fun hx => ha ⟨hx.1, hx.2.1, by omega⟩)]

theorem Movable.rowMoved_regs (lim : Nat) : (s.rowMoved d ms md lim).regs = s.regs := by
  obtain ⟨k, -, -, hput⟩ := h.rowMoved_put lim
  exact hput.regs

theorem Movable.rowMoved_dma (lim : Nat) : (s.rowMoved d ms md lim).dma = s.dma := by
  obtain ⟨k, -, -, hput⟩ := h.rowMoved_put lim
  exact hput.dma

end

/-! ### Pulses and the end of a descriptor (R318, R319, R326). -/

theorem evOvf_key (k : Nat) : (evOvf k).key = Reg.key 13 (if k < 32 then 0xC08 else 0xC0C) := by
  unfold evOvf
  split <;> rfl

/-- A pulse leaves every register of the fabric below the overflow bits. -/
theorem State.get_pulse_below (s : State) (k : Nat) {f : Fld} (hf : f.key < Reg.key 13 0xC08) : (s.pulse k).get f = s.get f := by
  unfold State.pulse
  split
  · refine State.get_put_apart _ _ _ _ ?_
    have hne : (evOvf k).key ≠ f.key := by
      rw [evOvf_key]
      unfold Reg.key at *
      split <;> omega
    simp [Fld.apart, hne]
  · rfl

@[simp] theorem State.pulse_rings (s : State) (k : Nat) : (s.pulse k).dma.rings = s.dma.rings := by
  unfold State.pulse
  split <;> rfl

@[simp] theorem State.pulse_streams (s : State) (k : Nat) : (s.pulse k).dma.streams = s.dma.streams := by
  unfold State.pulse
  split <;> rfl

/-- A pulse waits, or sets the overflow bit of its line (R327). -/
theorem State.pulse_waits (s : State) (k : Nat) (hk : k < 64) :
    if 8 ≤ s.dma.waiting.getD k 0 then (s.pulse k).get (evOvf k) = 1
    else (s.pulse k).dma.waiting[k]? = (s.dma.waiting[k]?).map (· + 1) := by
  unfold State.pulse
  split
  · unfold evOvf
    split <;> exact State.get_put_self _ _ _ (by simp only; omega)
  · rw [modifyAt_getElem?, if_pos rfl]

theorem State.pulse_only_dma (s : State) (k : Nat) : Only [.dma, .slot 13] s (s.pulse k) :=
  State.pulse_only _ _ (Only.refl _ _) rfl rfl

/-- The registers of ring channel n lie below the overflow bits. -/
theorem ringStatus_below (n : Fin 64) (lo w : Nat) : (⟨13, 0x004 + 0x20 * n, lo, w⟩ : Fld).key < Reg.key 13 0xC08 := by
  simp only [Fld.key, Reg.key]
  omega

/-- The end of the descriptor of ring channel n with a status (R319): registers, and the channel without a descriptor. -/
structure RingEnded (n : Fin 64) (r : Ring) (d : Desc) (st : Nat) (s t : State) : Prop where
  status : t.get (Reg.DMA.RING_STATUS.LAST_STATUS n) = st
  head : t.get (Reg.DMA.RING_STATUS.HEAD n) = (s.get (Reg.DMA.RING_STATUS.HEAD n) + 1) %
    2 ^ s.get (Reg.DMA.RING_CFG.SIZE n) % 2 ^ (Reg.DMA.RING_STATUS.HEAD n).width
  halted : t.get (Reg.DMA.RING_STATUS.HALTED n) = s.get (Reg.DMA.RING_STATUS.HALTED n)
  ring : t.dma.rings[n.val]? = some ⟨none, r.kicked, r.idle || d.stop || st != 0⟩
  frame : Only [.dma, .slot 13] s t

theorem State.ringEnd_ended {s : State} {n : Fin 64} {r : Ring} (hr : s.dma.rings[n.val]? = some r) (d : Desc) {st : Nat}
    (hst : st < 256) (h1 : st ≠ 1) (h3 : st ≠ 3) : RingEnded n r d st s (s.ringEnd n d st) := by
  have hframe : Only [.dma, .slot 13] s (s.ringEnd n d st) := State.ringEnd_only _ _ _ _ (Only.refl _ _) rfl rfl
  suffices h : ∀ u, s.ringEnd n d st = u → _ from h _ rfl
  intro u hu
  rw [hu] at hframe
  unfold State.ringEnd at hu
  extract_lets base size head w dma s1 s2 s3 at hu
  have hs3 : s3 = s2 := if_neg (by omega)
  have hget {f : Fld} (hf : f.key < Reg.key 13 0xC08) : u.get f = s2.get f := by
    rw [← hu, hs3]
    split
    · exact State.get_pulse_below _ _ hf
    · rfl
  refine ⟨?_, ?_, ?_, ?_, hframe⟩
  · rw [hget (f := Reg.DMA.RING_STATUS.LAST_STATUS n) (ringStatus_below n _ _),
      State.get_put_apart _ _ _ _ (by simp [Fld.apart, Reg.DMA.RING_STATUS.HEAD, Reg.DMA.RING_STATUS.LAST_STATUS]),
      State.get_put_self _ _ _ (Nat.le_of_ble_eq_true rfl)]
    exact Nat.mod_eq_of_lt hst
  · rw [hget (f := Reg.DMA.RING_STATUS.HEAD n) (ringStatus_below n _ _), State.get_put_self _ _ _ (Nat.le_of_ble_eq_true rfl)]
  · rw [hget (f := Reg.DMA.RING_STATUS.HALTED n) (ringStatus_below n _ _),
      State.get_put_apart _ _ _ _ (by simp [Fld.apart, Reg.DMA.RING_STATUS.HEAD, Reg.DMA.RING_STATUS.HALTED]),
      State.get_put_apart _ _ _ _ (by simp [Fld.apart, Reg.DMA.RING_STATUS.LAST_STATUS, Reg.DMA.RING_STATUS.HALTED])]
    rfl
  · have hrings : u.dma.rings = s2.dma.rings := by
      rw [← hu, hs3]
      split
      · exact State.pulse_rings _ _
      · rfl
    rw [hrings]
    change (modifyAt s.dma.rings n.val _)[n.val]? = _
    rw [modifyAt_getElem?, if_pos rfl, hr]
    rfl

/-! ### A channel that its client turns on (R319, R324, assumption 6). -/

/-- Ring channel n enabled, with the default RATE where it was not, and not halted. -/
def State.ringOn (s : State) (n : Nat) : State :=
  (if s.flag (Reg.DMA.RING_CFG.EN n) then s else
    (s.put (Reg.DMA.RING_CFG.RATE n) (defaultRate n)).put (Reg.DMA.RING_CFG.EN n) 1).put (Reg.DMA.RING_STATUS.HALTED n) 0

/-- RING_STATUS and RING_CFG of a channel are two registers. -/
theorem ringStatus_apart_cfg (n : Fin 64) (lo w lo' w' : Nat) :
    (⟨13, 0x004 + 0x20 * n, lo, w⟩ : Fld).apart ⟨13, 0x000 + 0x20 * n, lo', w'⟩ = true := by
  have hkey : (⟨13, 0x004 + 0x20 * n, lo, w⟩ : Fld).key ≠ (⟨13, 0x000 + 0x20 * n, lo', w'⟩ : Fld).key := by
    simp only [Fld.key, Reg.key]
    omega
  simp only [Fld.apart, hkey, ne_eq, not_false_eq_true, decide_true, Bool.true_or]

theorem State.get_of_flag {s : State} {f : Fld} (hw : f.width = 1) (h : s.flag f = true) : s.get f = 1 := by
  have hne : s.get f ≠ 0 := bne_iff_ne.1 h
  have hlt := s.get_lt f
  rw [hw] at hlt
  omega

theorem State.ringOn_fields (s : State) (n : Fin 64) : (s.ringOn n).get (Reg.DMA.RING_CFG.EN n) = 1 ∧
    (s.flag (Reg.DMA.RING_CFG.EN n) = true →
      (s.ringOn n).get (Reg.DMA.RING_CFG.RATE n) = s.get (Reg.DMA.RING_CFG.RATE n)) ∧
    OnlyFields [Reg.DMA.RING_CFG.EN n, Reg.DMA.RING_CFG.RATE n, Reg.DMA.RING_STATUS.HALTED n] s (s.ringOn n) := by
  unfold State.ringOn
  refine ⟨?_, fun h => ?_, fun g hg => ?_⟩
  · rw [State.get_put_apart _ (Reg.DMA.RING_STATUS.HALTED n) (Reg.DMA.RING_CFG.EN n) _ (ringStatus_apart_cfg n _ _ _ _)]
    split
    · next h => exact State.get_of_flag rfl h
    · exact State.get_put_self _ _ _ (Nat.le_of_ble_eq_true rfl)
  · rw [State.get_put_apart _ (Reg.DMA.RING_STATUS.HALTED n) (Reg.DMA.RING_CFG.RATE n) _ (ringStatus_apart_cfg n _ _ _ _),
      if_pos h]
  · simp only [List.mem_cons, List.not_mem_nil, or_false, forall_eq_or_imp, forall_eq] at hg
    obtain ⟨hen, hrate, hhalted⟩ := hg
    rw [State.get_put_apart _ _ _ _ hhalted]
    split
    · rfl
    · rw [State.get_put_apart _ _ _ _ hen, State.get_put_apart _ _ _ _ hrate]

/-! ### Descriptors of a ring channel (R319, R328). -/

section
variable {s : State} {n : Fin 64} {r : Ring} (hr : s.dma.rings[n.val]? = some r)
include hr

theorem State.getD_ring : s.dma.rings.getD n.val .reset = r := by
  rw [List.getD_eq_getElem?_getD, hr]
  rfl

theorem State.setRing_getElem? (q : Ring) : (setAt s.dma.rings n.val q)[n.val]? = some q := by
  rw [setAt_getElem?, if_pos rfl, hr]
  rfl

theorem exec_descriptorStart (d : Desc) (p : List Bytes) (hen : s.flag (Reg.DMA.RING_CFG.EN n) = true)
    (hh : s.flag (Reg.DMA.RING_STATUS.HALTED n) = false) (hheld : s.dma.held n = false) (hc : r.cur = none)
    (hi : r.idle = false ∨ r.kicked = true) : Goes (exec (.descriptorStart n d p) s) fun t =>
      t.dma.rings[n.val]? = some
        (if d.own = true then ⟨some (d, p), false, false⟩ else { r with kicked := false, idle := true }) ∧
      t.regs = s.regs ∧ t.buf = s.buf := by
  have hgo : (r.idle && !r.kicked) = false := by rcases hi with h | h <;> simp [h]
  change Goes (execDescriptorStart n d p s) _
  simp only [execDescriptorStart, State.getD_ring hr]
  rw [if_neg (by simp [hen, hh, hheld, hc, hgo])]
  cases ho : d.own
  · exact (Goes_next _ _).2 ⟨State.setRing_getElem? hr _, rfl, rfl⟩
  · exact (Goes_next _ _).2 ⟨State.setRing_getElem? hr _, rfl, rfl⟩

section
variable {d : Desc} {p : List Bytes} (hc : r.cur = some (d, p))
include hc

theorem exec_descriptorDone_broken (hb : descBroken d = true) (e : Bool) :
    exec (.descriptorDone n e) s = .next (s.ringEnd n d 2) := by
  change execDescriptorDone n e s = _
  simp [execDescriptorDone, hr, hc, hb]

theorem exec_descriptorDone_hole (hb : descBroken d = false) {m : Mem} {a : Nat} (hh : s.hole d = some (m, a)) (e : Bool) :
    exec (.descriptorDone n e) s = .fault (.noSuchAddress m a) := by
  change execDescriptorDone n e s = _
  simp [execDescriptorDone, hr, hc, hb, hh]

theorem exec_abort_hole (hb : descBroken d = false) {m : Mem} {a : Nat} (hh : s.hole d = some (m, a)) :
    exec (.abort n) s = .fault (.noSuchAddress m a) := by
  change execAbort n s = _
  simp [execAbort, hr, hc, hb, hh]

/-- The whole row moves, then the descriptor ends with 0x00. -/
theorem exec_descriptorDone_moved {ms md : Mem} (h : Movable d ms md s) : exec (.descriptorDone n false) s =
    .next ((s.rowMoved d ms md (d.rows.toNat * d.len.toNat)).ringEnd n d 0) := by
  change execDescriptorDone n false s = _
  simp [execDescriptorDone, hr, hc, h.1, h.2.1, h.runDesc]

/-- Some part of the row moves, then the descriptor ends with 0x04. -/
theorem exec_abort_moving {ms md : Mem} (h : Movable d ms md s) : ∃ lim, exec (.abort n) s =
    .next ((s.free.2.rowMoved d ms md lim).ringEnd n d 4) := by
  have hf : Movable d ms md s.free.2 := h
  apply Exists.intro
  change execAbort n s = _
  simp only [execAbort, State.getD_ring hr, hc, h.1, h.2.1, Bool.false_eq_true, if_false, hf.runDesc]
  rfl

end

/-- KICK (R319, assumption 6). -/
theorem exec_kick : Goes (exec (.kick n) s) fun t => t.dma.rings[n.val]? = some { r with kicked := true } ∧
    t.get (Reg.DMA.RING_CFG.EN n) = 1 ∧ t.get (Reg.DMA.RING_STATUS.HALTED n) = 0 ∧
    (s.flag (Reg.DMA.RING_CFG.EN n) = true → t.get (Reg.DMA.RING_CFG.RATE n) = s.get (Reg.DMA.RING_CFG.RATE n)) ∧
    OnlyFields [Reg.DMA.RING_CFG.EN n, Reg.DMA.RING_CFG.RATE n, Reg.DMA.RING_STATUS.HALTED n] s t := by
  obtain ⟨hen, hrate, honly⟩ := s.ringOn_fields n
  have hget {t : State} (ht : t.regs = (s.ringOn n).regs) (f : Fld) : t.get f = (s.ringOn n).get f := State.get_congr ht f
  refine ⟨_, rfl, ?_, (hget rfl _).trans hen, (hget rfl _).trans (State.get_put_self _ _ _ (Nat.le_of_ble_eq_true rfl)),
    fun h => (hget rfl _).trans (hrate h), fun g hg => (hget rfl _).trans (honly g hg)⟩
  have hring : (s.ringOn n).dma.rings = s.dma.rings := by
    unfold State.ringOn
    split <;> rfl
  change (modifyAt (s.ringOn n).dma.rings n.val _)[n.val]? = _
  rw [hring, modifyAt_getElem?, if_pos rfl, hr]
  rfl

theorem exec_abort_idle (hc : r.cur = none) : Goes (exec (.abort n) s) fun t =>
    t.dma.rings[n.val]? = some { r with idle := true } ∧ t.regs = s.regs ∧ t.buf = s.buf := by
  change Goes (execAbort n s) _
  simp only [execAbort, State.getD_ring hr, hc]
  refine (Goes_next _ _).2 ⟨?_, rfl, rfl⟩
  rw [modifyAt_getElem?, if_pos rfl, hr]
  simp [hc]

end

/-! ### The statement of the ring channels. -/

theorem ringDescriptors : RingDescriptors := by
  unfold RingDescriptors
  refine fun s n r _ hr => ⟨fun d p hen hh hheld hc hi => exec_descriptorStart hr d p hen hh hheld hc hi,
    fun d p e hc hb => ?broken, fun d p e m a hc hb hh => ⟨exec_descriptorDone_hole hr hc hb hh e, exec_abort_hole hr hc hb hh⟩,
    fun d p ms md hc h => ?moved⟩
  case broken =>
    rw [exec_descriptorDone_broken hr hc hb, Goes_next]
    obtain ⟨hstatus, -, -, hring, hframe⟩ := State.ringEnd_ended hr d (st := 2) (by decide) (by decide) (by decide)
    exact ⟨hstatus, hframe.buf rfl, hframe.hpt rfl, hring.trans (by simp)⟩
  case moved =>
    rw [exec_descriptorDone_moved hr hc h, Goes_next]
    have hrows : d.rows.toNat = 1 := by rw [h.2.2.1]; rfl
    have hcopied := h.rowCopied (lim := d.rows.toNat * d.len.toNat) (by rw [hrows, Nat.one_mul])
    have hregs := h.rowMoved_regs (d.rows.toNat * d.len.toNat)
    have hr' : (s.rowMoved d ms md (d.rows.toNat * d.len.toNat)).dma.rings[n.val]? = some r := by rw [h.rowMoved_dma, hr]
    obtain ⟨hstatus, hhead, hhalted, hring, hframe⟩ := State.ringEnd_ended hr' d (st := 0) (by decide) (by decide) (by decide)
    rw [State.get_congr hregs, State.get_congr hregs] at hhead
    rw [State.get_congr hregs] at hhalted
    refine ⟨hstatus, fun x a => ?_, hhead, hhalted, hring.trans (by simp)⟩
    rw [State.byte_congr (hframe.buf rfl), hcopied x a]

theorem kicksAndAborts : KicksAndAborts := by
  unfold KicksAndAborts
  refine fun s n r _ hr => ⟨exec_kick hr, exec_abort_idle hr, fun d p ms md hc h => ?_⟩
  obtain ⟨lim, hexec⟩ := exec_abort_moving hr hc h
  have hf : Movable d ms md s.free.2 := h
  have hr' : (s.free.2.rowMoved d ms md lim).dma.rings[n.val]? = some r := by rw [hf.rowMoved_dma]; exact hr
  rw [hexec, Goes_next]
  obtain ⟨hstatus, -, -, hring, hframe⟩ := State.ringEnd_ended hr' d (st := 4) (by decide) (by decide) (by decide)
  refine ⟨hstatus, hring.trans (by simp), fun x a ha => ?_⟩
  rw [State.byte_congr (hframe.buf rfl), hf.byte_outside lim ha]
  exact State.byte_congr rfl x a

/-- Settles O36: a descriptor by the row it moves (`State.rowMoved`) and what its end leaves (`RingEnded`). -/
theorem ringChannels : Obligations.RingChannels := ⟨ringDescriptors, kicksAndAborts⟩

/-! ### Streaming channels (R322, R323). -/

section
variable {s : State} {m : Fin 8} {c : Stream} (hc : s.dma.streams[m.val]? = some c)
include hc

theorem State.getD_stream : s.dma.streams.getD m.val .reset = c := by
  rw [List.getD_eq_getElem?_getD, hc]
  rfl

theorem State.setStream_getElem? (q : Stream) : (setAt s.dma.streams m.val q)[m.val]? = some q := by
  rw [setAt_getElem?, if_pos rfl, hc]
  rfl

theorem exec_shadowLoad (d : Desc) : Goes (exec (.shadowLoad m d) s) fun t =>
    if c.shadow.isSome = true then t = s.put (Reg.DMA.STR_STATUS.SHADOW_ERR m) 1
    else if c.active.isSome = true then t.dma.streams[m.val]? = some { c with shadow := some d } ∧ t.regs = s.regs
    else t.dma.streams[m.val]? = some ⟨some d, none, []⟩ ∧ t.get (Reg.DMA.STR_STATUS.HALTED m) = 0 := by
  change Goes (execShadowLoad m d s) _
  simp only [execShadowLoad, State.getD_stream hc]
  split
  · exact (Goes_next _ _).2 rfl
  · split
    · exact (Goes_next _ _).2 ⟨State.setStream_getElem? hc _, rfl⟩
    · exact (Goes_next _ _).2 ⟨State.setStream_getElem? hc _, State.get_put_self _ _ _ (Nat.le_of_ble_eq_true rfl)⟩

/-- The shadow set of a channel has become active. -/
def State.nextSet (s : State) (m : Nat) (c : Stream) : State :=
  { s with dma := { s.dma with streams := setAt s.dma.streams m ⟨c.shadow, none, []⟩ } }

/-- The end of the active set: the shadow is active, and the line pulses. -/
theorem State.streamEnd_ended : (s.streamEnd m).dma.streams[m.val]? = some ⟨c.shadow, none, []⟩ ∧ (s.streamEnd m).buf = s.buf ∧
    (if 8 ≤ s.dma.waiting.getD m.val 0 then (s.streamEnd m).get (evOvf m.val) = 1
      else (s.streamEnd m).dma.waiting[m.val]? = (s.dma.waiting[m.val]?).map (· + 1)) := by
  have h : s.streamEnd m = (s.nextSet m c).pulse m := by rw [State.streamEnd, State.getD_stream hc, State.nextSet]
  rw [h, State.pulse_streams, State.pulse_buf]
  exact ⟨State.setStream_getElem? hc _, rfl, (s.nextSet m c).pulse_waits m (Nat.lt_of_lt_of_le m.isLt (by decide))⟩

variable {d : Desc} (ha : c.active = some d)
include ha

theorem exec_streamSetEnd_run (h4 : m.val < 4) : exec (.streamSetEnd m) s = .next (s.streamEnd m) := by
  change execStreamSetEnd m s = _
  simp [execStreamSetEnd, hc, ha, h4]

theorem exec_streamSetEnd_moved (h4 : 4 ≤ m.val) {ms md : Mem} (h : Movable d ms md s) : exec (.streamSetEnd m) s =
    .next ((s.rowMoved d ms md (d.rows.toNat * d.len.toNat)).streamEnd m) := by
  obtain ⟨moved, hm⟩ := h.dmaRows [] (d.rows.toNat * d.len.toNat)
  change execStreamSetEnd m s = _
  simp [execStreamSetEnd, hc, ha, Nat.not_lt.2 h4, h.1, h.2.1, hm]

theorem exec_streamSetEnd_hole (h4 : 4 ≤ m.val) (hb : descBroken d = false) {x : Mem} {a : Nat} (hh : s.hole d = some (x, a)) :
    exec (.streamSetEnd m) s = .fault (.noSuchAddress x a) := by
  change execStreamSetEnd m s = _
  simp [execStreamSetEnd, hc, ha, Nat.not_lt.2 h4, hb, hh]

end

theorem getD_modifyAt {l : List Nat} {n : Nat} (hn : l.getD n 0 ≠ 0) (f : Nat → Nat) (k : Nat) :
    (modifyAt l n f).getD k 0 = if k = n then f (l.getD n 0) else l.getD k 0 := by
  rw [List.getD_eq_getElem?_getD, modifyAt_getElem?]
  split
  · next h =>
    subst h
    cases hk : l[k]? with
    | none => simp [List.getD_eq_getElem?_getD, hk] at hn
    | some v => simp [List.getD_eq_getElem?_getD, hk]
  · rw [List.getD_eq_getElem?_getD]

theorem exec_eventLinePulse (s : State) (ev : Fin 64) : Goes (exec (.eventLinePulse ev) s) fun t =>
    if s.dma.waiting.getD ev.val 0 = 0 then t = s
    else t.dma.pulsed = some ev.val ∧ t.dma.waiting.getD ev.val 0 = s.dma.waiting.getD ev.val 0 - 1 ∧
      (∀ k, k ≠ ev.val → t.dma.waiting.getD k 0 = s.dma.waiting.getD k 0) := by
  change Goes (execEventLinePulse ev s) _
  unfold execEventLinePulse
  by_cases h0 : s.dma.waiting.getD ev.val 0 = 0
  · rw [if_pos h0, Goes_next, if_pos h0]
  · rw [if_neg h0, Goes_next, if_neg h0]
    refine ⟨rfl, ?_, fun k hk => ?_⟩
    · exact (getD_modifyAt h0 _ _).trans (if_pos rfl)
    · exact (getD_modifyAt h0 _ _).trans (if_neg hk)

/-! ### The statement of the streaming channels. -/

/-- Settles O37: the end of a set by the row it moves, if any, and `State.streamEnd_ended`. -/
theorem streamsAndEvents : Obligations.StreamsAndEvents := by
  unfold Obligations.StreamsAndEvents
  refine fun s m c _ hc => ⟨exec_shadowLoad hc, fun d ha hm => ?_, fun d x a ha h4 hb hh => exec_streamSetEnd_hole hc ha h4 hb hh,
    exec_eventLinePulse s⟩
  by_cases h4 : m.val < 4
  · obtain ⟨hstreams, hbuf, hpulse⟩ := State.streamEnd_ended hc
    rw [exec_streamSetEnd_run hc ha h4, Goes_next]
    exact ⟨hstreams, fun _ => hbuf, fun h => absurd h (by omega), hpulse⟩
  · obtain ⟨ms, md, h⟩ := hm.resolve_left h4
    have hdma := h.rowMoved_dma (d.rows.toNat * d.len.toNat)
    obtain ⟨hstreams, hbuf, hpulse⟩ :=
      State.streamEnd_ended (s := s.rowMoved d ms md (d.rows.toNat * d.len.toNat)) (by rw [hdma, hc])
    rw [hdma] at hpulse
    rw [exec_streamSetEnd_moved hc ha (by omega) h, Goes_next]
    refine ⟨hstreams, fun h => absurd h h4, fun _ ms' md' h' x a => ?_, hpulse⟩
    have hs : ms' = ms := Option.some.inj (h'.2.2.2.1.symm.trans h.2.2.2.1)
    have hd : md' = md := Option.some.inj (h'.2.2.2.2.1.symm.trans h.2.2.2.2.1)
    have hrows : d.rows.toNat = 1 := by rw [h.2.2.1]; rfl
    rw [State.byte_congr hbuf, hs, hd, h.rowCopied (by rw [hrows, Nat.one_mul]) x a]

end Sys2Proof.Machine
end

section
/-!
PROOFS. The media cache, its index log, cleaning and merges (O38): a slot's time limit, the base of the log, the start of merges
and the switch of one (R338, R340, R342).
-/

namespace Sys2Proof.Machine

/-- An outcome and what is said of it may turn on the same condition. -/
theorem Goes_cases {c : Prop} [Decidable c] {a b : Host.Outcome State Fault Refusal} {P Q : State → Prop}
    (ha : c → Goes a P) (hb : ¬c → Goes b Q) : Goes (if c then a else b) fun t => if c then P t else Q t := by
  by_cases h : c
  · simpa [h] using ha h
  · simpa [h] using hb h

/-! ### The slot's time limit, and the base (R338, R340). -/

theorem State.gatherCache_taken {s : State} {n : Nat} {x : SideSlot} (hx : s.slot? n = some x) : s.gatherCache n = s := by
  unfold State.gatherCache
  split
  · rw [if_pos (Or.inl (by simp [hx]))]
  · rfl

theorem exec_mediaCacheSlotTimeout {s : State} {n : Nat} {x : SideSlot} (hx : s.slot? n = some x) (hc : x.cache = true)
    (hs : x.state = .complete) (hp : s.place? x.zone = none) : Goes (exec (.mediaCacheSlotTimeout n) s) fun t =>
      (t.slot? n).map (fun y => y.state) = some .begun ∧ t.stripe.journal.pending = s.stripe.journal.pending ++
        [(s.stripe.journal.seq, .begin_ x.zone x.stripe x.first x.blocks.length false)] := by
  have hlaunch : s.launch x = ((s.setSlot { x with state := .begun, underNext := false }).journal
      (.begin_ x.zone x.stripe x.first x.blocks.length false)).pulse 26 := by simp [State.launch, hs, hp]
  have hexec : exec (.mediaCacheSlotTimeout n) s = .next (s.launch x) := by
    change execMediaCacheSlotTimeout n s = _
    simp [execMediaCacheSlotTimeout, State.gatherCache_taken hx, hx, hc]
  rw [hexec, hlaunch, Goes_next, State.pulse_stripe]
  exact ⟨by simp [State.slot?_setSlot_self hx], rfl⟩

theorem exec_indexLogBase (s : State) : Goes (exec .indexLogBase s) fun t =>
    if 0x8000000 < s.zmu.logBytes ∨ s.zmu.extents.length * 16 < s.zmu.logBytes then
      t.zmu.logZone = 5 - s.zmu.logZone ∧ t.zmu.logBase = s.zmu.extents ∧ t.zmu.logBytes = 0 ∧
      t.zmu.extents = s.zmu.extents ∧ t.zmu.zones = s.zmu.zones
    else t = s := by
  change Goes (execIndexLogBase s) _
  exact Goes_cases (fun _ => (Goes_next _ _).2 ⟨rfl, rfl, rfl, rfl, rfl⟩) fun _ => (Goes_next _ _).2 rfl

/-! ### Cleaning (R342). -/

/-- The start of a merge leaves the index, and only adds to the merges. -/
theorem State.mergeStart_adds (s : State) (lz : Nat) : (s.mergeStart lz).zmu.extents = s.zmu.extents ∧
    s.zmu.merges <+: (s.mergeStart lz).zmu.merges := by
  unfold State.mergeStart
  split
  · split
    · exact ⟨rfl, List.prefix_append _ _⟩
    · exact ⟨rfl, List.prefix_refl _⟩
  · exact ⟨rfl, List.prefix_refl _⟩

theorem State.foldl_mergeStart_adds (lzs : List Nat) (s : State) : (lzs.foldl State.mergeStart s).zmu.extents = s.zmu.extents ∧
    s.zmu.merges <+: (lzs.foldl State.mergeStart s).zmu.merges := by
  induction lzs generalizing s with
  | nil => exact ⟨rfl, List.prefix_refl _⟩
  | cons lz lzs ih =>
    obtain ⟨hext, hmerges⟩ := s.mergeStart_adds lz
    obtain ⟨hext', hmerges'⟩ := ih (s.mergeStart lz)
    exact ⟨hext'.trans hext, hmerges.trans hmerges'⟩

theorem exec_cleaning_ends {s : State} (hn : s.needsCleaning = false) : Goes (exec .cleaning s) fun t => t.zmu = s.zmu ∧
    (s.zmu.merges = [] → t.get Reg.ZMU.MCACHE.CLEANING = 0) := by
  change Goes (execCleaning s) _
  rw [execCleaning, if_neg (by simp [hn]), Goes_next]
  split
  · exact ⟨rfl, fun _ => State.get_put_self _ _ _ (by decide)⟩
  · next hm => exact ⟨rfl, fun h => absurd (by simp [h]) hm⟩

theorem exec_cleaning_takes {s : State} {p : Nat} (hn : s.needsCleaning = true) (ho : s.zmu.order = [p]) (hp : p ∈ s.poolZones)
    (he : ∃ e ∈ s.zmu.extents, e.pzone = p ∧ e.zero = false) : Goes (exec .cleaning s) fun t =>
      t.get Reg.ZMU.MCACHE.CLEANING = 1 ∧ t.zmu.extents = s.zmu.extents ∧ s.zmu.merges <+: t.zmu.merges := by
  have hlive : (s.poolZones.contains p && s.zmu.extents.any fun e => e.pzone == p && !e.zero) = true := by
    obtain ⟨e, hmem, hz, h0⟩ := he
    simp only [List.contains_eq_mem, hp, decide_true, Bool.true_and, List.any_eq_true]
    exact ⟨e, hmem, by simp [hz, h0]⟩
  have hfind : (s.zmu.order.find? fun p => s.poolZones.contains p && s.zmu.extents.any fun e => e.pzone == p && !e.zero) =
      some p := by
    rw [ho]
    exact List.find?_cons_of_pos hlive
  change Goes (execCleaning s) _
  rw [execCleaning, if_pos hn, hfind, Goes_next]
  obtain ⟨hext, hmerges⟩ := s.foldl_mergeStart_adds
    ((s.zmu.extents.filter fun e => e.pzone == p && !e.zero).map fun e => e.dlba / zsze).eraseDups
  exact ⟨State.get_put_self _ _ _ (by decide), hext, hmerges⟩

/-! ### Extents and the ranges removed from them (R339). -/

/-- No block of the extent lies in the range. -/
def Extent.Clear (a n : Nat) (e : Extent) : Prop := overlaps e.dlba e.count a n = false

/-- What is left of an extent lies within it. -/
theorem Extent.minus_within {x y : Extent} {a n : Nat} (hy : y ∈ x.minus a n) :
    x.dlba ≤ y.dlba ∧ y.dlba + y.count ≤ x.dlba + x.count := by
  unfold Extent.minus at hy
  split at hy
  · next h =>
    simp only [overlaps, Bool.and_eq_true, decide_eq_true_eq] at h
    simp only [List.mem_filter, List.mem_cons, List.not_mem_nil, or_false, Bool.and_eq_true, decide_eq_true_eq] at hy
    obtain ⟨rfl | rfl, hpos, hle⟩ := hy <;> dsimp only at * <;> omega
  · obtain rfl := List.mem_singleton.1 hy
    exact ⟨Nat.le_refl _, Nat.le_refl _⟩

/-- What is left of an extent is clear of the range removed. -/
theorem Extent.minus_clear {x y : Extent} {a n : Nat} (hy : y ∈ x.minus a n) : y.Clear a n := by
  unfold Extent.minus at hy
  split at hy
  · next h =>
    simp only [overlaps, Bool.and_eq_true, decide_eq_true_eq] at h
    simp only [List.mem_filter, List.mem_cons, List.not_mem_nil, or_false, Bool.and_eq_true, decide_eq_true_eq] at hy
    simp only [Extent.Clear, overlaps, Bool.and_eq_false_iff, decide_eq_false_iff_not]
    obtain ⟨rfl | rfl, hpos, hle⟩ := hy <;> dsimp only at * <;> omega
  · next h =>
    obtain rfl := List.mem_singleton.1 hy
    exact eq_false_of_ne_true h

/-- What lies within an extent clear of a range is clear of it. -/
theorem Extent.Clear.within {x y : Extent} {a n : Nat} (h : x.Clear a n)
    (hw : x.dlba ≤ y.dlba ∧ y.dlba + y.count ≤ x.dlba + x.count) : y.Clear a n := by
  simp only [Extent.Clear, overlaps, Bool.and_eq_false_iff, decide_eq_false_iff_not] at *
  omega

/-- No extent with a block is clear of its own range. -/
theorem Extent.not_clear_self {e : Extent} (h : 0 < e.count) : ¬ e.Clear e.dlba e.count := by
  simp [Extent.Clear, overlaps, h]

/-! ### The switch of a merge (R342 step 3). -/

/-- The removal of extents from the index, one record of the log each. -/
def State.removeAll (s : State) (l : List Extent) : State := l.foldl (fun t x => t.mapChange (.remove x.dlba x.count)) s

theorem State.removeAll_zones (l : List Extent) (s : State) : (s.removeAll l).zmu.zones = s.zmu.zones := by
  induction l generalizing s with
  | nil => rfl
  | cons x l ih => exact ih _

theorem State.removeAll_merges (l : List Extent) (s : State) : (s.removeAll l).zmu.merges = s.zmu.merges := by
  induction l generalizing s with
  | nil => rfl
  | cons x l ih => exact ih _

/-- A range that no extent meets stays so. -/
theorem State.removeAll_keeps_clear (l : List Extent) {a n : Nat} {s : State} (h : ∀ y ∈ s.zmu.extents, y.Clear a n) :
    ∀ y ∈ (s.removeAll l).zmu.extents, y.Clear a n := by
  induction l generalizing s with
  | nil => exact h
  | cons x l ih =>
    refine ih fun y hy => ?_
    obtain ⟨z, hz, hyz⟩ := List.mem_flatMap.1 hy
    exact (h z hz).within (Extent.minus_within hyz)

/-- Each range removed is clear of every extent left. -/
theorem State.removeAll_clear {l : List Extent} {e : Extent} (he : e ∈ l) (s : State) :
    ∀ y ∈ (s.removeAll l).zmu.extents, y.Clear e.dlba e.count := by
  induction l generalizing s with
  | nil => exact absurd he List.not_mem_nil
  | cons x l ih =>
    rcases List.mem_cons.1 he with rfl | he
    · refine State.removeAll_keeps_clear l fun y hy => ?_
      obtain ⟨z, -, hyz⟩ := List.mem_flatMap.1 hy
      exact Extent.minus_clear hyz
    · exact ih he _

/-- The journal entries of a merge's stripes. -/
def State.mergeLogged (s : State) (zone target highest : Nat) : State :=
  (List.range highest).foldl (fun t i =>
    (t.journal (.begin_ target i (zone * zsze + i * (256 * s.width)) (256 * s.width) false)).journal
      (.commit target i (zone * zsze + i * (256 * s.width)) (256 * s.width) false)) s

theorem State.mergeLogged_zmu (s : State) (zone target highest : Nat) : (s.mergeLogged zone target highest).zmu = s.zmu := by
  unfold State.mergeLogged
  generalize List.range highest = l
  generalize 256 * s.width = w
  induction l generalizing s with
  | nil => rfl
  | cons i l ih => exact ih _

/-- A merge that ends: its entries, the change of home, the snapshot's extents gone, and the merge itself. -/
def State.mergeEnded (s : State) (m : Merge) : State :=
  let s1 := (s.mergeLogged m.zone m.target m.highest).mapChange (.homeSwitch m.zone m.target)
  let s2 := s1.removeAll (s1.zmu.extents.filter fun x => m.snap.any fun e => x.within e)
  { s2 with zmu := { s2.zmu with merges := s2.zmu.merges.filter (· != m) } }

section
variable {s : State} {m : Merge} {d : ZoneDesc} (hm : s.zmu.merges = [m]) (hd : s.zone? m.zone = some d)
include hd

/-- The home of the zone changes, and nothing else of the map. -/
theorem State.homeSwitched : ∃ t : State,
    (s.mergeLogged m.zone m.target m.highest).mapChange (.homeSwitch m.zone m.target) = t ∧
    t.zmu.zones = setAt s.zmu.zones m.zone { d with home := m.target } ∧ t.zmu.extents = s.zmu.extents ∧
    t.zmu.merges = s.zmu.merges := by
  let u := (s.mergeLogged m.zone m.target m.highest).logRec (.homeSwitch m.zone m.target)
  have hzmu := s.mergeLogged_zmu m.zone m.target m.highest
  have hz : u.zone? m.zone = some d := by
    change (s.mergeLogged m.zone m.target m.highest).zmu.zones[m.zone]? = _
    rw [hzmu]
    exact hd
  have hu : u.applyRec (.homeSwitch m.zone m.target) = u.setZone m.zone { d with home := m.target } := by
    simp only [State.applyRec, hz]
  refine ⟨_, hu, ?_, ?_, ?_⟩
  · change setAt (s.mergeLogged m.zone m.target m.highest).zmu.zones m.zone _ = _
    rw [hzmu]
  · change (s.mergeLogged m.zone m.target m.highest).zmu.extents = _
    rw [hzmu]
  · change (s.mergeLogged m.zone m.target m.highest).zmu.merges = _
    rw [hzmu]

theorem State.mergeEnded_zone? (k : Nat) : (s.mergeEnded m).zone? k =
    if k = m.zone then some { d with home := m.target } else s.zone? k := by
  obtain ⟨t, ht, hzones, -, -⟩ := State.homeSwitched hd
  unfold State.mergeEnded
  rw [ht]
  change ((t.removeAll _).zmu.zones)[k]? = _
  rw [State.removeAll_zones, hzones, setAt_getElem?]
  split
  · next h =>
    have hk : s.zmu.zones[k]? = some d := h ▸ hd
    rw [hk]
    rfl
  · rfl

theorem State.mergeEnded_gone {e : Extent} (he : e ∈ s.zmu.extents) (hc : 0 < e.count)
    (hs : (m.snap.any fun x => e.within x) = true) : e ∉ (s.mergeEnded m).zmu.extents := by
  obtain ⟨t, ht, -, hext, -⟩ := State.homeSwitched hd
  unfold State.mergeEnded
  rw [ht]
  exact fun h => Extent.not_clear_self hc
    (State.removeAll_clear (List.mem_filter.2 ⟨by rw [hext]; exact he, hs⟩) t e h)

include hm

theorem State.mergeEnded_merges : (s.mergeEnded m).zmu.merges = [] := by
  obtain ⟨t, ht, -, -, hmerges⟩ := State.homeSwitched hd
  unfold State.mergeEnded
  rw [ht]
  change (t.removeAll _).zmu.merges.filter _ = []
  rw [State.removeAll_merges, hmerges, hm]
  simp

theorem exec_mergeSwitch : Goes (exec (.mergeSwitch m.zone m.target) s) fun t =>
    t.zone? m.zone = some { d with home := m.target, merging := false, frontier := m.highest } ∧
      t.zmu.merges = [] ∧ (∀ k, k ≠ m.zone → t.zone? k = s.zone? k) ∧
      (∀ e ∈ s.zmu.extents, 0 < e.count → (m.snap.any fun x => e.within x) = true → e ∉ t.zmu.extents) := by
  have hz : (s.mergeEnded m).zone? m.zone = some { d with home := m.target } := by rw [State.mergeEnded_zone? hd, if_pos rfl]
  let u := (s.mergeEnded m).setZone m.zone { d with home := m.target, merging := false, frontier := m.highest }
  have hexec : exec (.mergeSwitch m.zone m.target) s =
      .next (if u.zmu.merges.isEmpty ∧ !u.needsCleaning then u.put Reg.ZMU.MCACHE.CLEANING 0 else u) := by
    have hu : (match (s.mergeEnded m).zone? m.zone with
        | some z => (s.mergeEnded m).setZone m.zone { z with merging := false, frontier := m.highest }
        | none => s.mergeEnded m) = u := by rw [hz]
    rw [← hu]
    change execMergeSwitch m.zone m.target s = _
    simp only [execMergeSwitch, hm, List.find?_cons, beq_self_eq_true, Bool.and_self]
    rfl
  have hzmu : (if u.zmu.merges.isEmpty ∧ !u.needsCleaning then u.put Reg.ZMU.MCACHE.CLEANING 0 else u : State).zmu = u.zmu := by
    split <;> rfl
  have hzone (k : Nat) : u.zone? k = if k = m.zone
      then some { d with home := m.target, merging := false, frontier := m.highest } else s.zone? k := by
    change (setAt (s.mergeEnded m).zmu.zones m.zone _)[k]? = _
    rw [setAt_getElem?]
    split
    · next h =>
      have hk : (s.mergeEnded m).zmu.zones[k]? = some { d with home := m.target } := h ▸ hz
      rw [hk]
      rfl
    · next h => exact (State.mergeEnded_zone? hd k).trans (if_neg h)
  rw [hexec, Goes_next]
  refine ⟨?_, ?_, fun k hk => ?_, fun e he hc hs => ?_⟩
  · rw [State.zone?, hzmu]
    exact (hzone m.zone).trans (if_pos rfl)
  · rw [hzmu]
    exact State.mergeEnded_merges hm hd
  · rw [State.zone?, hzmu]
    exact (hzone k).trans (if_neg hk)
  · rw [hzmu]
    exact State.mergeEnded_gone hd he hc hs

end

/-! ### The statement. -/

/-- Settles O38: a merge's switch by `State.mergeEnded`, whose removals leave no extent that meets what the snapshot held. -/
theorem mediaCacheAndMerges : Obligations.MediaCacheAndMerges := by
  unfold Obligations.MediaCacheAndMerges
  refine fun s => ⟨fun n x hx hc hs hp => exec_mediaCacheSlotTimeout hx hc hs hp, exec_indexLogBase s, exec_cleaning_ends,
    fun p hn ho hp he => exec_cleaning_takes hn ho hp he, ?_⟩
  rintro _ _ m d hm rfl rfl hd
  exact exec_mergeSwitch hm hd

end Sys2Proof.Machine
end

section
/-!
PROOFS. The map cache (O39): lookups, misses, fills and write-backs (R348 to R351), and its control registers (R352 to R354).
-/

namespace Sys2Proof.Machine

/-! ### Registers written through their access masks (R14). -/

/-- A field of which every bit is RW. -/
def RegRow.Rw (r : RegRow) (f : Fld) : Prop := ∀ i < f.width, (BitVec.ofNat 32 r.rw).getLsbD (f.lo + i) = true ∧
  (BitVec.ofNat 32 r.w1c).getLsbD (f.lo + i) = false ∧ (BitVec.ofNat 32 r.w1s).getLsbD (f.lo + i) = false

/-- A field of RW bits takes the value written. -/
theorem RegRow.Rw.ofWord_write {r : RegRow} {f : Fld} (h : r.Rw f) (old w : Word) : f.ofWord (r.write old w) = f.ofWord w := by
  apply Nat.eq_of_testBit_eq
  intro i
  rw [Fld.testBit_ofWord, Fld.testBit_ofWord]
  by_cases hi : i < f.width
  · obtain ⟨hrw, hc, hs⟩ := h i hi
    have hlt := BitVec.lt_of_getLsbD hrw
    simp only [RegRow.write, BitVec.getLsbD_or, BitVec.getLsbD_and, BitVec.getLsbD_not, hrw, hc, hs]
    simp [hlt]
  · simp [hi]

theorem State.get_writeMasked_rw (s : State) {slot off : Nat} {r : RegRow} (hr : Reg.row? slot off = some r) {f : Fld}
    (hk : f.key = Reg.key slot off) (hf : r.Rw f) (w : Word) : (s.writeMasked slot off w).get f = f.ofWord w := by
  change f.ofWord ((s.writeMasked slot off w).regs.word f.key) = _
  rw [hk, State.word_writeMasked s hr, hf.ofWord_write]

/-- A masked write leaves every field of another register. -/
theorem State.get_writeMasked_ne (s : State) {slot off : Nat} {f : Fld} (hk : f.key ≠ Reg.key slot off) (w : Word) :
    (s.writeMasked slot off w).get f = s.get f := by
  unfold State.writeMasked
  split
  · rfl
  · change f.ofWord (RegFile.word _ f.key) = _
    rw [RegFile.word_setWord, if_neg hk]
    rfl

/-- A one-bit field of a word, as a truth value. -/
theorem Fld.ofWord_flag {f : Fld} (hf : f.width = 1) (w : Word) : (f.ofWord w != 0) = w.getLsbD f.lo := by
  have h : f.ofWord w = (w.getLsbD f.lo).toNat := by
    apply Nat.eq_of_testBit_eq
    intro i
    rw [Fld.testBit_ofWord, hf]
    cases i with
    | zero => cases hb : w.getLsbD f.lo <;> simp
    | succ i => cases w.getLsbD f.lo <;> simp [Nat.testBit_succ]
  rw [h]
  cases w.getLsbD f.lo <;> rfl

/-- A field at bit 0. -/
theorem Fld.ofWord_low {f : Fld} (hf : f.lo = 0) (w : Word) : f.ofWord w = w.toNat % 2 ^ f.width := by
  rw [Fld.ofWord, hf, Nat.shiftRight_zero]

theorem State.flag_of_get_zero {s : State} {f : Fld} (h : s.get f = 0) : s.flag f = false := by
  change (s.get f != 0) = false
  rw [h]
  rfl

/-! ### Lookups (R348 to R350). -/

theorem State.mapOn_iff (s : State) : s.mapOn = true ↔ s.flag Reg.ZMU.CTRL.ENABLE = true ∧
    s.flag Reg.ZMU.CTRL.FLUSHING = false := by
  simp [State.mapOn]

section
variable {s : State} {u : Nat} {w : Bool} (hon : s.mapOn = true)

theorem exec_mapCacheMiss_off (h : s.flag Reg.ZMU.CTRL.ENABLE = false) (u : Nat) (w : Bool) :
    exec (.mapCacheMiss u w) s = .next s := by
  change Host.Outcome.next (s.mapLookup u w) = _
  rw [State.mapLookup, if_pos (by simp [h])]

include hon

theorem exec_mapCacheMiss_hit {i : Nat} {l : MapLine} (hi : s.zmu.lineOf u = some i) (hl : s.zmu.lines[i]? = some l)
    (hwb : l.wback = false) : Goes (exec (.mapCacheMiss u w) s) fun t =>
      t.zmu.lines[i]? = some { l with dirty := l.dirty || w } ∧ t.zmu.miss = s.zmu.miss ∧
      t.get Reg.ZMU.HITS.HITS = min (s.get Reg.ZMU.HITS.HITS + 1) (2 ^ 32 - 1) ∧ OnlyFields [Reg.ZMU.HITS.HITS] s t := by
  have hen := ((State.mapOn_iff s).1 hon).1
  change Goes (.next (s.mapLookup u w)) _
  simp only [State.mapLookup, hi, hen, hon]
  rw [if_neg (by simp), if_neg (by simp [hl, hwb]), Goes_next]
  refine ⟨?_, ?_, State.get_bump_self _ _ _ (by decide), fun g hg => ?_⟩
  · cases w
    · simpa [Zmu.touch] using hl
    · simp [Zmu.touch, modifyAt_getElem?, hl]
  · cases w <;> rfl
  · rw [State.get_bump_apart _ _ _ _ (hg _ List.mem_cons_self)]
    rfl

/-- A miss of a cache that is on. -/
theorem exec_mapCacheMiss_missed (hn : s.zmu.lineOf u = none) :
    exec (.mapCacheMiss u w) s = .next (s.mapMiss u w false false) := by
  have hen := ((State.mapOn_iff s).1 hon).1
  change Host.Outcome.next (s.mapLookup u w) = _
  simp [State.mapLookup, hn, hen, hon]

theorem exec_mapCacheMiss_merged (hn : s.zmu.lineOf u = none) {k : Nat} {r : MissReg} (hk : s.zmu.missOf u = some k)
    (hr : s.zmu.miss[k]? = some (some r)) : Goes (exec (.mapCacheMiss u w) s) fun t =>
      if r.second.length < 8 then t.zmu.miss[k]? = some (some { r with second := r.second ++ [w] }) ∧
        t.get Reg.ZMU.MISSES.MERGED = min (s.get Reg.ZMU.MISSES.MERGED + 1) 255
      else t.zmu.waitMiss = s.zmu.waitMiss ++ [(u, w)] ∧ t.zmu.miss = s.zmu.miss ∧ t.regs = s.regs := by
  have hd : s.zmu.miss.getD k none = some r := by rw [List.getD_eq_getElem?_getD, hr]; rfl
  rw [exec_mapCacheMiss_missed hon hn, Goes_next]
  simp only [State.mapMiss, hk, hd]
  split
  · refine ⟨?_, State.get_bump_self _ _ _ (by decide)⟩
    simp [setAt_getElem?, hr]
  · exact ⟨rfl, rfl, rfl⟩

end

/-- A register given a line still holds its miss. -/
theorem Zmu.allocate_holds {z : Zmu} {k : Nat} {q : Option MissReg} (hk : z.miss[k]? = some q) (r : MissReg) :
    ∃ r', (z.allocate k r).miss[k]? = some (some r') ∧ r'.unit = r.unit ∧ r'.write = r.write ∧ r'.second = r.second := by
  unfold Zmu.allocate
  split
  · exact ⟨{ r with line := none }, by simp [setAt_getElem?, hk], rfl, rfl, rfl⟩
  · next i _ =>
    dsimp only
    split
    · exact ⟨{ r with line := some i, waitWb := true }, by simp [setAt_getElem?, hk], rfl, rfl, rfl⟩
    · exact ⟨{ r with line := some i, waitWb := false }, by simp [setAt_getElem?, hk], rfl, rfl, rfl⟩

/-- A primary miss takes a free register, whether its unit is being written back or not (R350, R351). -/
theorem State.mapMiss_primary {s : State} {u k : Nat} (w : Bool) (hm : s.zmu.missOf u = none) (hk : s.zmu.miss[k]? = some none)
    (hfirst : ∀ j < k, s.zmu.miss[j]? ≠ some none) :
    (∃ r, (s.mapMiss u w false false).zmu.miss[k]? = some (some r) ∧ r.unit = u ∧ r.write = w ∧ r.second = []) ∧
      (s.mapMiss u w false false).get Reg.ZMU.MISSES.PRIMARY = min (s.get Reg.ZMU.MISSES.PRIMARY + 1) 65535 := by
  have hfind : (s.zmu.miss.findIdx? fun m => m.isNone) = some k := by
    obtain ⟨hlt, hget⟩ := List.getElem?_eq_some_iff.1 hk
    refine List.findIdx?_eq_some_iff_getElem.2 ⟨hlt, by simp [hget], fun j hj => ?_⟩
    have hne := hfirst j hj
    rw [List.getElem?_eq_getElem (by omega)] at hne
    cases hj : s.zmu.miss[j] with
    | none => exact absurd (by rw [hj]) hne
    | some r => simp
  have hprimary (t : State) (ht : t.regs = (s.bump Reg.ZMU.MISSES.PRIMARY 1).regs) :
      t.get Reg.ZMU.MISSES.PRIMARY = min (s.get Reg.ZMU.MISSES.PRIMARY + 1) 65535 := by
    rw [State.get_congr ht]
    exact State.get_bump_self _ _ _ (by decide)
  have hwait (t : State) : (t.bump Reg.ZMU.MISSES.EVICT_WAIT 1).get Reg.ZMU.MISSES.PRIMARY = t.get Reg.ZMU.MISSES.PRIMARY :=
    State.get_bump_apart _ _ _ _ (by decide)
  simp -zeta only [State.mapMiss, hm, hfind]
  extract_lets r inWb s1 zmu z s2
  split
  · refine ⟨⟨{ r with waitWb := true }, ?_, rfl, rfl, rfl⟩, ?_⟩
    · change (setAt s.zmu.miss k _)[k]? = _
      rw [setAt_getElem?, if_pos rfl, hk]
      rfl
    · rw [hwait]
      exact hprimary _ rfl
  · have hk1 : s1.zmu.miss[k]? = some none := hk
    obtain ⟨r', hr', hunit, hwrite, hsecond⟩ := Zmu.allocate_holds hk1 r
    have hd : z.miss.getD k none = some r' := by rw [List.getD_eq_getElem?_getD, hr']; rfl
    rw [hd]
    dsimp only
    split
    · refine ⟨⟨r', hr', hunit, hwrite, hsecond⟩, ?_⟩
      rw [hwait]
      exact hprimary _ rfl
    · exact ⟨⟨r', hr', hunit, hwrite, hsecond⟩, hprimary _ rfl⟩

/-! ### Fills and write-backs (R350, R351). -/

theorem getD_replicate_none (n k : Nat) : (List.replicate n (none : Option MissReg)).getD k none = none := by
  rw [List.getD_eq_getElem?_getD, List.getElem?_replicate]
  split <;> rfl

section
variable {s : State} (hm : s.zmu.miss = List.replicate 8 none)
include hm

theorem State.foldl_missAgain_idle (l : List Nat) : l.foldl State.missAgain s = s := by
  induction l with
  | nil => rfl
  | cons k l ih =>
    have hk : s.missAgain k = s := by
      rw [State.missAgain, hm, getD_replicate_none]
    rw [List.foldl_cons, hk, ih]

/-- With no miss outstanding, no flush and no CLEAN, nothing follows a fill or a write-back. -/
theorem State.mapSettled (hw : s.zmu.waitMiss = []) (hf : s.flag Reg.ZMU.CTRL.FLUSHING = false)
    (hc : s.flag Reg.ZMU.CTRL.CLEAN = false) : s.mapRetry.mapSweep = s := by
  have hretry : s.mapRetry = s := by
    unfold State.mapRetry
    rw [State.foldl_missAgain_idle hm]
    simp only [hw]
  rw [hretry]
  simp [State.mapSweep, hf, hc]

end

/-- What a fill or a write-back makes of a line, apart from its lock. -/
def MapLine.held (l : MapLine) : Option Nat × Bool × Bool × Bool := (l.unit, l.dirty, l.filling, l.wback)

/-- The lock of a line changes no other register of the cache, no miss and nothing else of a line (R352). -/
structure LockOnly (s t : State) : Prop where
  miss : t.zmu.miss = s.zmu.miss
  waitMiss : t.zmu.waitMiss = s.zmu.waitMiss
  lines : ∀ i : Nat, (t.zmu.lines[i]?).map MapLine.held = (s.zmu.lines[i]?).map MapLine.held
  get : ∀ f, Reg.ZMU.PRELOAD.REJECTED.apart f = true → t.get f = s.get f

theorem State.lockLine_lockOnly (s : State) (j : Nat) : LockOnly s (s.lockLine j) := by
  unfold State.lockLine
  split
  · exact ⟨rfl, rfl, fun _ => rfl, fun _ hf => State.get_put_apart _ _ _ _ hf⟩
  · split
    · exact ⟨rfl, rfl, fun _ => rfl, fun _ hf => State.get_put_apart _ _ _ _ hf⟩
    · refine ⟨rfl, rfl, fun i => ?_, fun _ hf => State.get_put_apart _ _ _ _ hf⟩
      change ((modifyAt s.zmu.lines j _)[i]?).map MapLine.held = _
      rw [modifyAt_getElem?]
      split
      · cases s.zmu.lines[i]? <;> rfl
      · rfl

theorem setAt_setAt {α : Type} (l : List α) (n : Nat) (v w : α) : setAt (setAt l n v) n w = setAt l n w := by
  refine List.ext_getElem? fun k => ?_
  simp only [setAt_getElem?]
  split
  · cases l[k]? <;> rfl
  · rfl

theorem setAt_replicate {α : Type} (n k : Nat) (v : α) : setAt (List.replicate n v) k v = List.replicate n v := by
  refine List.ext_getElem? fun j => ?_
  rw [setAt_getElem?, List.getElem?_replicate]
  split <;> split <;> rfl

/-- The line of miss register k holds its unit now, and the register is free. -/
def State.lineFilled (s : State) (k i : Nat) (r : MissReg) : State :=
  { s with zmu := Zmu.touch { s.zmu with
      lines := setAt s.zmu.lines i ⟨some r.unit, (r.write || r.second.any id) && s.mapOn, false, false, false⟩
      miss := setAt s.zmu.miss k none } i }

theorem exec_mapFillDone {s : State} {k : Fin 8} {i : Nat} {r : MissReg}
    (hm : s.zmu.miss = setAt (List.replicate 8 none) k.val (some r)) (hi : r.line = some i) (hr : r.waitWb = false)
    (hw : s.zmu.waitMiss = []) (hf : s.flag Reg.ZMU.CTRL.FLUSHING = false) (hc : s.flag Reg.ZMU.CTRL.CLEAN = false)
    (hlt : i < s.zmu.lines.length) : Goes (exec (.mapFillDone k) s) fun t => t.zmu.miss = List.replicate 8 none ∧
      (t.zmu.lines[i]?).map (fun l => (l.unit, l.dirty, l.filling, l.wback)) =
        some (some r.unit, (r.write || r.second.any id) && s.mapOn, false, false) ∧
      (r.preload = true → t.get Reg.ZMU.PRELOAD.GO = 0) := by
  have hd : s.zmu.miss.getD k.val none = some r := by
    rw [hm]
    exact setAt_getD_self (by simp) _ _
  let s1 := s.lineFilled k i r
  let s2 : State := if r.lock then s1.lockLine i else s1
  let s3 : State := if r.preload then s2.put Reg.ZMU.PRELOAD.GO 0 else s2
  have h2 : LockOnly s1 s2 := by
    simp only [s2]
    split
    · exact s1.lockLine_lockOnly i
    · exact ⟨rfl, rfl, fun _ => rfl, fun _ _ => rfl⟩
  have hzmu : s3.zmu = s2.zmu := by
    simp only [s3]
    split <;> rfl
  have hmiss : s3.zmu.miss = List.replicate 8 none := by
    rw [hzmu, h2.miss]
    change setAt s.zmu.miss k none = _
    rw [hm, setAt_setAt, setAt_replicate]
  have hflag {f : Fld} (hrej : Reg.ZMU.PRELOAD.REJECTED.apart f = true) (hgo : Reg.ZMU.PRELOAD.GO.apart f = true) :
      s3.flag f = s.flag f := by
    refine State.flag_congr ?_
    rw [← show s1.get f = s.get f from rfl, ← h2.get f hrej]
    simp only [s3]
    split
    · exact State.get_put_apart _ _ _ _ hgo
    · rfl
  have hexec : exec (.mapFillDone k) s = .next s3.mapRetry.mapSweep := by
    change execMapFillDone k s = _
    simp only [execMapFillDone, hd, hi, hr, Bool.false_eq_true, if_false]
    rfl
  have hwait : s3.zmu.waitMiss = [] := by rw [hzmu, h2.waitMiss]; exact hw
  rw [hexec, State.mapSettled hmiss hwait ((hflag (by decide) (by decide)).trans hf) ((hflag (by decide) (by decide)).trans hc),
    Goes_next]
  refine ⟨hmiss, ?_, fun hp => ?_⟩
  · rw [hzmu]
    refine (h2.lines i).trans ?_
    change ((setAt s.zmu.lines i _)[i]?).map _ = _
    rw [setAt_getElem?, if_pos rfl, List.getElem?_eq_getElem hlt, Option.map_some, Option.map_some, MapLine.held]
  · simp only [s3, if_pos hp]
    exact State.get_put_self _ _ _ (by decide)

/-- A line's write-back is over and no miss takes the line. -/
def State.wroteBack (s : State) (i : Nat) (l : MapLine) : State :=
  { s with zmu := { s.zmu with lines := setAt s.zmu.lines i { l with wback := false } } }

theorem exec_mapWritebackDone {s : State} {i : Fin 48} {l : MapLine} (hm : s.zmu.miss = List.replicate 8 none)
    (hw : s.zmu.waitMiss = []) (hf : s.flag Reg.ZMU.CTRL.FLUSHING = false) (hc : s.flag Reg.ZMU.CTRL.CLEAN = false)
    (hl : s.zmu.lines[i.val]? = some l) : Goes (exec (.mapWritebackDone i) s) fun t =>
      t.zmu.lines[i.val]? = some { l with wback := false } ∧ t.regs = s.regs ∧
      (∀ j, j ≠ i.val → t.zmu.lines[j]? = s.zmu.lines[j]?) := by
  have hd : s.zmu.lines.getD i.val .reset = l := by rw [List.getD_eq_getElem?_getD, hl]; rfl
  cases hwb : l.wback with
  | false =>
    have hexec : exec (.mapWritebackDone i) s = .next s := by
      change execMapWritebackDone i s = _
      simp only [execMapWritebackDone, hd, hwb, Bool.not_false, if_true]
    rw [hexec, Goes_next]
    refine ⟨?_, rfl, fun _ _ => rfl⟩
    rw [hl, ← hwb]
  | true =>
    have hmiss (f : Option MissReg → Option MissReg) (hfn : f none = none) : s.zmu.miss.map f = s.zmu.miss := by
      rw [hm, List.map_replicate, hfn]
    have hexec : exec (.mapWritebackDone i) s = .next (s.wroteBack i l).mapRetry.mapSweep := by
      have htaker (p : Option MissReg → Bool) (hp : p none = false) : s.zmu.miss.any p = false := by
        rw [hm]
        simp [hp]
      change execMapWritebackDone i s = _
      simp only [execMapWritebackDone, hd, hwb, Bool.not_true, Bool.false_eq_true, if_false]
      rw [htaker _ rfl, hmiss _ rfl]
      rfl
    have hsettled : (s.wroteBack i l).mapRetry.mapSweep = s.wroteBack i l := State.mapSettled hm hw hf hc
    rw [hexec, hsettled, Goes_next]
    refine ⟨?_, rfl, fun j hj => ?_⟩
    · change (setAt s.zmu.lines i.val _)[i.val]? = _
      rw [setAt_getElem?, if_pos rfl, hl]
      rfl
    · change (setAt s.zmu.lines i.val _)[j]? = _
      rw [setAt_getElem?, if_neg hj]

/-! ### PRELOAD and UNLOCK (R352). -/

theorem row_preload : Reg.row? 0x0A 0x008 =
    some ⟨10, 0x008, 0x0, 1, 0x201FFFFF, 0x0, 0x40000000, 0x0, 0xE01FFFFF, 0x0, 0xE01FFFFF, 0x0⟩ := by decide

theorem row_unlock : Reg.row? 0x0A 0x00C = some ⟨10, 0x00C, 0x0, 1, 0x7F, 0x0, 0x80, 0x0, 0xFF, 0x0, 0xFF, 0x0⟩ := by decide

/-- A lock of line i, as R352 counts the locked lines. -/
theorem State.lockLine_locks {s : State} {i : Nat} {l : MapLine} (hl : s.zmu.lines[i]? = some l) :
    if l.locked = false ∧ 32 ≤ (s.zmu.lines.filter fun x => x.locked).length then
      (s.lockLine i).get Reg.ZMU.PRELOAD.REJECTED = 1 ∧ (s.lockLine i).zmu = s.zmu
    else (s.lockLine i).get Reg.ZMU.PRELOAD.REJECTED = 0 ∧ (s.lockLine i).zmu.lines[i]? = some { l with locked := true } := by
  have hd : s.zmu.lines.getD i .reset = l := by rw [List.getD_eq_getElem?_getD, hl]; rfl
  unfold State.lockLine
  rw [hd]
  cases hk : l.locked with
  | true =>
    rw [if_neg (by simp), if_pos rfl]
    refine ⟨State.get_put_self _ _ _ (by decide), ?_⟩
    rw [← hk]
    exact hl
  | false =>
    rw [if_neg (show ¬(false = true) by decide)]
    by_cases h32 : 32 ≤ (s.zmu.lines.filter fun x => x.locked).length
    · rw [if_pos ⟨rfl, h32⟩, if_pos h32]
      exact ⟨State.get_put_self _ _ _ (by decide), rfl⟩
    · rw [if_neg (fun h => h32 h.2), if_neg h32]
      refine ⟨State.get_put_self _ _ _ (by decide), ?_⟩
      change (modifyAt s.zmu.lines i _)[i]? = _
      rw [modifyAt_getElem?, if_pos rfl, hl]
      rfl

theorem exec_preload {s : State} {v : Word} {i : Nat} {l : MapLine} (hgo : v.getLsbD 30 = true) (hlock : v.getLsbD 29 = true)
    (hon : s.mapOn = true) (hi : s.zmu.lineOf (v.toNat % 2 ^ 21) = some i) (hl : s.zmu.lines[i]? = some l)
    (hwb : l.wback = false) : exec (.preload v) s = .next
      (((s.writeMasked 0x0A 0x008 v).lockLine i).put Reg.ZMU.PRELOAD.GO 0) := by
  have hline : (s.writeMasked 0x0A 0x008 v).get Reg.ZMU.PRELOAD.LINE = v.toNat % 2 ^ 21 :=
    (State.get_writeMasked_rw s row_preload (f := Reg.ZMU.PRELOAD.LINE) rfl
      (by unfold RegRow.Rw; decide) v).trans (Fld.ofWord_low rfl v)
  have hlk : (s.writeMasked 0x0A 0x008 v).flag Reg.ZMU.PRELOAD.LOCK = true := by
    change ((s.writeMasked 0x0A 0x008 v).get Reg.ZMU.PRELOAD.LOCK != 0) = true
    rw [State.get_writeMasked_rw s row_preload (f := Reg.ZMU.PRELOAD.LOCK) rfl
      (by unfold RegRow.Rw; decide) v, Fld.ofWord_flag rfl]
    exact hlock
  have hon' : (s.writeMasked 0x0A 0x008 v).mapOn = true := by
    rw [State.mapOn_iff] at hon ⊢
    rwa [State.flag_congr (State.get_writeMasked_ne s (by decide) v), State.flag_congr (State.get_writeMasked_ne s (by decide) v)]
  change execPreload v s = _
  simp only [execPreload, hgo, hline, hlk, hon', State.writeMasked_zmu, hi, Bool.not_true, Bool.false_eq_true, if_false, if_true]
  rw [if_neg (by simp [hl, hwb])]

theorem exec_preload_locks {s : State} {v : Word} {i : Nat} {l : MapLine} (hgo : v.getLsbD 30 = true)
    (hlock : v.getLsbD 29 = true) (hon : s.mapOn = true) (hi : s.zmu.lineOf (v.toNat % 2 ^ 21) = some i)
    (hl : s.zmu.lines[i]? = some l) (hwb : l.wback = false) : Goes (exec (.preload v) s) fun t =>
      t.get Reg.ZMU.PRELOAD.GO = 0 ∧
      (if l.locked = false ∧ 32 ≤ (s.zmu.lines.filter fun x => x.locked).length then
        t.get Reg.ZMU.PRELOAD.REJECTED = 1 ∧ t.zmu = s.zmu
      else t.get Reg.ZMU.PRELOAD.REJECTED = 0 ∧ t.zmu.lines[i]? = some { l with locked := true }) := by
  have hz : (s.writeMasked 0x0A 0x008 v).zmu = s.zmu := State.writeMasked_zmu _ _ _ _
  have h := State.lockLine_locks (s := s.writeMasked 0x0A 0x008 v) (by rw [hz]; exact hl)
  rw [hz] at h
  rw [exec_preload hgo hlock hon hi hl hwb, Goes_next]
  refine ⟨State.get_put_self _ _ _ (by decide), ?_⟩
  rw [State.get_put_apart _ Reg.ZMU.PRELOAD.GO Reg.ZMU.PRELOAD.REJECTED _ (by decide)]
  exact h

theorem exec_unlock {s : State} {v : Word} (hgo : v.getLsbD 7 = true) : Goes (exec (.unlock v) s) fun t =>
    t.get Reg.ZMU.UNLOCK.GO = 0 ∧ (∀ (i : Nat) (l : MapLine), s.zmu.lines[i]? = some l → t.zmu.lines[i]? = some
      (if v.getLsbD 6 = true ∨ i = v.toNat % 2 ^ 6 then { l with locked := false } else l)) := by
  have hidx : (s.writeMasked 0x0A 0x00C v).get Reg.ZMU.UNLOCK.INDEX = v.toNat % 2 ^ 6 :=
    (State.get_writeMasked_rw s row_unlock (f := Reg.ZMU.UNLOCK.INDEX) rfl
      (by unfold RegRow.Rw; decide) v).trans (Fld.ofWord_low rfl v)
  have hall : (s.writeMasked 0x0A 0x00C v).flag Reg.ZMU.UNLOCK.ALL = v.getLsbD 6 := by
    change ((s.writeMasked 0x0A 0x00C v).get Reg.ZMU.UNLOCK.ALL != 0) = _
    rw [State.get_writeMasked_rw s row_unlock (f := Reg.ZMU.UNLOCK.ALL) rfl (by unfold RegRow.Rw; decide) v, Fld.ofWord_flag rfl]
    rfl
  change Goes (execUnlock v s) _
  simp only [execUnlock, hgo, hidx, hall, State.writeMasked_zmu, Bool.not_true, Bool.false_eq_true, if_false]
  refine (Goes_next _ _).2 ⟨State.get_put_self _ _ _ (by decide), fun i l hl => ?_⟩
  change (s.zmu.lines.mapIdx _)[i]? = _
  rw [List.getElem?_mapIdx, hl]
  rfl

/-! ### ENABLE, the flush and CLEAN (R353, R354). -/

/-- Every dirty line is on its way to DRAM. -/
def State.marked (s : State) : State := { s with zmu := { s.zmu with lines := s.zmu.lines.map fun l =>
  if l.dirty then { l with dirty := false, wback := true } else l } }

section
variable {s : State} (hwb : ∀ l ∈ s.zmu.lines, l.wback = false)
include hwb

theorem State.marked_lines : s.marked.zmu.lines = s.zmu.lines.map fun l => { l with dirty := false, wback := l.dirty } := by
  refine List.map_congr_left fun l hl => ?_
  have hw := hwb l hl
  obtain ⟨u, d, k, f, w⟩ := l
  cases d <;> simp_all

/-- Where nothing is being written back, a sweep has work for the dirty lines alone. -/
theorem State.marked_busy : (s.marked.zmu.lines.any fun l => l.wback) = decide (∃ l ∈ s.zmu.lines, l.dirty = true) := by
  rw [State.marked_lines hwb, List.any_map, Bool.eq_iff_iff, decide_eq_true_iff, List.any_eq_true]
  rfl

/-- CLEAN writes back every dirty line. -/
theorem exec_clean (hf : s.flag Reg.ZMU.CTRL.FLUSHING = false) : Goes (exec .clean s) fun t =>
    t.zmu.lines = s.zmu.lines.map (fun l => { l with dirty := false, wback := l.dirty }) ∧
    t.get Reg.ZMU.CTRL.CLEAN = (if ∃ l ∈ s.zmu.lines, l.dirty = true then 1 else 0) ∧ OnlyFields [Reg.ZMU.CTRL.CLEAN] s t := by
  let u := s.put Reg.ZMU.CTRL.CLEAN 1
  have hclean : u.flag Reg.ZMU.CTRL.CLEAN = true := State.flag_of_get (State.get_put_self _ _ _ (by decide))
  have hflush : u.flag Reg.ZMU.CTRL.FLUSHING = false := (State.flag_congr (State.get_put_apart _ _ _ _ (by decide))).trans hf
  have hbusy : (u.marked.zmu.lines.any fun l => l.wback) = decide (∃ l ∈ s.zmu.lines, l.dirty = true) := State.marked_busy hwb
  have hexec : exec .clean s = .next (if (u.marked.zmu.lines.any fun l => l.wback) then u.marked
      else u.marked.put Reg.ZMU.CTRL.CLEAN 0) := by
    change Host.Outcome.next u.mapSweep = _
    simp only [State.mapSweep, hflush, hclean, Bool.false_eq_true, if_false, if_true]
    rfl
  have honly (g : Fld) (hg : ∀ f ∈ [Reg.ZMU.CTRL.CLEAN], f.apart g = true) : u.marked.get g = s.get g :=
    State.get_put_apart _ _ _ _ (hg _ List.mem_cons_self)
  rw [hexec, hbusy, Goes_next]
  by_cases hdirty : ∃ l ∈ s.zmu.lines, l.dirty = true
  · rw [if_pos (decide_eq_true hdirty), if_pos hdirty]
    exact ⟨State.marked_lines hwb, State.get_put_self s _ _ (by decide), honly⟩
  · rw [if_neg (by simpa using hdirty), if_neg hdirty]
    exact ⟨State.marked_lines hwb, State.get_put_self _ _ _ (by decide), fun g hg =>
      (State.get_put_apart _ _ _ _ (hg _ List.mem_cons_self)).trans (honly g hg)⟩

/-- Disabling the cache flushes it. -/
theorem exec_disable (hf : s.flag Reg.ZMU.CTRL.FLUSHING = false) (hen : s.flag Reg.ZMU.CTRL.ENABLE = true)
    (hfill : ∀ l ∈ s.zmu.lines, l.filling = false) : Goes (exec (.enable false) s) fun t =>
      if ∃ l ∈ s.zmu.lines, l.dirty = true then t.get Reg.ZMU.CTRL.FLUSHING = 1 ∧ t.get Reg.ZMU.CTRL.ENABLE = 1 ∧
        t.zmu.lines = s.zmu.lines.map fun l => { l with dirty := false, wback := l.dirty }
      else t.get Reg.ZMU.CTRL.FLUSHING = 0 ∧ t.get Reg.ZMU.CTRL.ENABLE = 0 ∧
        t.zmu.lines = List.replicate 48 ⟨none, false, false, false, false⟩ := by
  let u := s.put Reg.ZMU.CTRL.FLUSHING 1
  have hflush : u.flag Reg.ZMU.CTRL.FLUSHING = true := State.flag_of_get (State.get_put_self _ _ _ (by decide))
  have hnofill : (u.zmu.lines.any fun l => l.filling) = false := by
    rw [List.any_eq_false]
    exact fun l hl => by simp [hfill l hl]
  have hbusy : (u.marked.zmu.lines.any fun l => l.wback) = decide (∃ l ∈ s.zmu.lines, l.dirty = true) := State.marked_busy hwb
  have hexec : exec (.enable false) s = .next u.mapSweep := by
    change execEnable false s = _
    simp [execEnable, hf, hen, u]
  have hsweep : u.mapSweep = if (u.marked.zmu.lines.any fun l => l.wback) then u.marked else
      (({ u.marked with zmu := { u.marked.zmu with
          lines := List.replicate 48 .reset, miss := List.replicate 8 none, waitMiss := [] } } : State).put
        Reg.ZMU.CTRL.FLUSHING 0).put Reg.ZMU.CTRL.ENABLE 0 := by
    simp only [State.mapSweep, hflush, hnofill, Bool.false_eq_true, if_false, if_true]
    rfl
  rw [hexec, hsweep, hbusy, Goes_next]
  by_cases hdirty : ∃ l ∈ s.zmu.lines, l.dirty = true
  · rw [if_pos (decide_eq_true hdirty), if_pos hdirty]
    refine ⟨State.get_put_self s _ _ (by decide), ?_, State.marked_lines hwb⟩
    exact (State.get_put_apart s _ _ _ (by decide)).trans (State.get_of_flag rfl hen)
  · rw [if_neg (c := decide _ = true) (by simpa using hdirty), if_neg hdirty]
    refine ⟨?_, State.get_put_self _ _ _ (by decide), rfl⟩
    rw [State.get_put_apart _ _ _ _ (by decide)]
    exact State.get_put_self _ _ _ (by decide)

end

theorem exec_enable_flushing {s : State} (hf : s.flag Reg.ZMU.CTRL.FLUSHING = true) (b : Bool) :
    exec (.enable b) s = .next s := by
  change execEnable b s = _
  simp [execEnable, hf]

theorem exec_enable_on {s : State} (hf : s.flag Reg.ZMU.CTRL.FLUSHING = false) : Goes (exec (.enable true) s) fun t =>
    t.get Reg.ZMU.CTRL.ENABLE = 1 ∧ OnlyFields [Reg.ZMU.CTRL.ENABLE] s t := by
  have hexec : exec (.enable true) s = .next (s.put Reg.ZMU.CTRL.ENABLE 1) := by
    change execEnable true s = _
    simp [execEnable, hf]
  rw [hexec, Goes_next]
  exact ⟨State.get_put_self _ _ _ (by decide), fun g hg => State.get_put_apart _ _ _ _ (hg _ List.mem_cons_self)⟩

/-! ### The statement. -/

theorem mapCacheLookups : MapCacheLookups := by
  unfold MapCacheLookups
  refine fun s u w => ⟨fun h => exec_mapCacheMiss_off h u w, fun i l hon hi hl hwb => exec_mapCacheMiss_hit hon hi hl hwb,
    fun k r hon hn hk hr => exec_mapCacheMiss_merged hon hn hk hr, fun k hon hn hm hk hfirst => ?_,
    fun k i r hm hi hr hw hf hc hlt => exec_mapFillDone hm hi hr hw hf hc hlt,
    fun i l hm hw hf hc hl => exec_mapWritebackDone hm hw hf hc hl⟩
  rw [exec_mapCacheMiss_missed hon hn, Goes_next]
  exact State.mapMiss_primary w hm hk hfirst

theorem mapCacheControl : MapCacheControl := by
  unfold MapCacheControl
  exact fun s => ⟨fun v i l hgo hlock hon hi hl hwb => exec_preload_locks hgo hlock hon hi hl hwb, fun v hgo => exec_unlock hgo,
    exec_enable_flushing, exec_enable_on, fun hf hen h => exec_disable (fun l hl => (h l hl).2) hf hen fun l hl => (h l hl).1,
    fun hf hwb => exec_clean hwb hf⟩

/-- Settles O39: a lookup by its hit, merge or primary miss; a flush or a CLEAN by the lines it marks (`State.marked`). -/
theorem mapCache : Obligations.MapCache := ⟨mapCacheLookups, mapCacheControl⟩

end Sys2Proof.Machine
end

section
/-!
PROOFS. The command store (R359, R376), and reads beyond the write pointer (O59, R347).
-/

namespace Sys2Proof.Machine

/-! ### The command store. -/

section
variable {s : State} {fsn : Nat} {c : Cmd} (h : s.cmd? fsn = some c)
include h

theorem State.fsn_of_cmd? : c.fsn = fsn := by simpa using List.find?_some h

theorem State.cmd?_setCmd {d : Cmd} (hd : d.fsn = fsn) : (s.setCmd d).cmd? fsn = some d := find?_replace Cmd.fsn h hd

theorem State.cmd?_congr {t : State} (hs : t.cqu.store = s.cqu.store) : t.cmd? fsn = some c := by
  rw [← h, State.cmd?, hs, State.cmd?]

/-- An outcome not yet committed is committed once (R376). -/
theorem State.cmd?_finish (hp : c.phase ≠ .committed) (st : Status) (dw0 dw1 : Nat) : (s.finish fsn st dw0 dw1).cmd? fsn =
    some { c with
      phase := .committed, status := some st, dw0 := dw0, dw1 := dw1, passed := true, waitAdm := false, buf := [] } := by
  have hf := State.fsn_of_cmd? h
  rw [State.finish, h]
  dsimp only
  rw [if_neg hp]
  exact State.cmd?_setCmd h hf

theorem State.finish_endsWith (hp : c.phase ≠ .committed) (st : Status) (dw0 dw1 : Nat) :
    EndsWith (s.finish fsn st dw0 dw1) fsn st := ⟨_, State.cmd?_finish h hp st dw0 dw1, rfl, rfl⟩

end

theorem State.ioCmd_spec {s : State} {fsn : Nat} {op : Byte} {c : Cmd} (h : s.ioCmd fsn op = some c) :
    s.cmd? fsn = some c ∧ c.sqid ≠ 0 ∧ c.phase = .fetched ∧ c.sqe.opc = op := by
  unfold State.ioCmd at h
  split at h
  · next d hd =>
    split at h
    · next hc =>
      obtain rfl := Option.some.inj h
      exact ⟨hd, hc⟩
    · cases h
  · cases h

theorem State.drain_cqu (s : State) : s.drain.cqu = s.cqu :=
  (State.drain_only (qz := [.stripe, .buf, .dma, .zmu, .slot 13]) s (Only.refl _ _) rfl rfl rfl rfl rfl).cqu rfl

/-! ### A reader's snapshot (R347, R365). -/

/-- Beyond the write pointer, ZCAP or the frontier there is nothing to read. -/
theorem State.locate_beyond {s : State} {d : Nat} {z : ZoneDesc} (hc : s.cached d = none) (hl : s.isLost d = false)
    (he : ∀ e ∈ s.zmu.extents, ¬ (e.dlba ≤ d ∧ d < e.dlba + e.count)) (hz : s.zone? (d / zsze) = some z) (h96 : z.frontier ≤ 96)
    (hw : 0 < s.width) (hd : (z.state ≠ 5 ∧ z.wp ≤ d % zsze) ∨ 96 * (256 * s.width) ≤ d % zsze ∨
      z.frontier * (256 * s.width) ≤ d % zsze) : s.locate d = .zero := by
  have hfind : (s.zmu.extents.find? fun e => decide (e.dlba ≤ d ∧ d < e.dlba + e.count)) = none := by
    simpa only [List.find?_eq_none, decide_eq_true_eq] using he
  have hbeyond : d % zsze / (256 * s.width) ≥ z.frontier ∨ (z.state ≠ 5 ∧ d % zsze ≥ z.wp) := by
    have hle (n : Nat) : n * (256 * s.width) ≤ d % zsze → n ≤ d % zsze / (256 * s.width) := (Nat.le_div_iff_mul_le (by omega)).2
    obtain h | h | h := hd
    · exact Or.inr h
    · exact Or.inl (h96.trans (hle _ h))
    · exact Or.inl (hle _ h)
  simp only [State.locate, hc, hl, hfind, hz, Bool.false_eq_true, if_false]
  rw [if_pos hbeyond]

/-- A snapshot fixes the places the blocks have now. -/
theorem State.snapshot_locs {s : State} {fsn : Nat} {c : Cmd} (h : s.cmd? fsn = some c) : ∃ x, (s.snapshot c).cmd? fsn = some x ∧
    x.locs = (s.coveredBy c.sqe).map (fun d => (d, s.locate d)) ∧ x.phase = .snapped ∧ x.passed = true := by
  have hf := State.fsn_of_cmd? h
  simp -zeta only [State.snapshot]
  extract_lets locs wait s1 stripe s2 urgent s3
  refine ⟨{ c with phase := .snapped, passed := true, locs := locs, waitFor := wait },
    State.cmd?_congr (State.cmd?_setCmd h (by exact hf)) ?_, rfl, rfl, rfl⟩
  have h2 : s2.cqu.store = s1.cqu.store := by
    simp only [s2]
    split <;> rfl
  have h3 : s3.cqu.store = s1.cqu.store := by
    simp only [s3]
    split <;> exact h2
  split
  · exact h3
  · rw [State.drain_cqu]
    exact h3

theorem exec_readerSnapshot {s : State} {fsn : Nat} {c : Cmd} (h : s.cmd? fsn = some c) (hq : c.sqid ≠ 0)
    (hp : c.phase = .fetched) (ho : c.sqe.opc = 0x02 ∨ c.sqe.opc = 0x0C) (hord : s.ordered c = true) :
    exec (.readerSnapshot fsn) s = .next (s.snapshot c) := by
  change execReaderSnapshot fsn s = _
  simp only [execReaderSnapshot, h]
  exact if_pos ⟨by simpa [Cmd.isIo] using hq, hp, ho, hord⟩

/-- Settles O59: such a block's place is `Loc.zero` (`State.locate_beyond`), and a snapshot keeps the places. -/
theorem readsBeyondWritePointer : Obligations.ReadsBeyondWritePointer := by
  unfold Obligations.ReadsBeyondWritePointer
  refine fun s fsn c d h => ⟨fun z hq hp ho hord hd hcache hlost he hz h96 hw hb => ?_, fun i media hi => ?_⟩
  · have hzero := State.locate_beyond hcache hlost he hz h96 hw hb
    obtain ⟨x, hx, hlocs, -, -⟩ := State.snapshot_locs h
    rw [exec_readerSnapshot h hq hp (Or.inl ho) hord, Goes_next]
    refine ⟨x, hx, ?_, fun l hl => ?_⟩
    · rw [hlocs, ← hzero]
      exact List.mem_map_of_mem hd
    · rw [hlocs, List.mem_map] at hl
      obtain ⟨e, -, heq⟩ := hl
      obtain ⟨rfl, rfl⟩ := Prod.mk.inj heq
      exact hzero
  · rw [State.readBlocks, List.getElem?_mapIdx, hi]
    rfl

end Sys2Proof.Machine
end

section
/-!
PROOFS. Zone Management Send and Receive (O49): the four actions of R346 on one zone, and the report of R361.
-/

namespace Sys2Proof.Machine

/-! ### Events and warnings answer no command but with Successful Completion (R386). -/

theorem State.cmd?_setCmd_ne (s : State) {d : Cmd} {fsn : Nat} (h : d.fsn ≠ fsn) : (s.setCmd d).cmd? fsn = s.cmd? fsn := by
  have hkey : (fun c : Cmd => c.fsn == fsn) ∘ (fun c => if c.fsn = d.fsn then d else c) = fun c => c.fsn == fsn := by
    funext c
    by_cases hc : c.fsn = d.fsn <;> simp [hc]
  change (s.cqu.store.map _).find? _ = _
  rw [List.find?_map, hkey]
  change Option.map _ (s.cmd? fsn) = _
  cases hs : s.cmd? fsn with
  | none => rfl
  | some c =>
    have hc := State.fsn_of_cmd? hs
    rw [Option.map_some, if_neg (fun he => h (he.symm.trans hc))]

/-- The command is in the store, and answered with nothing but Successful Completion if at all. -/
def State.Unfailed (s : State) (fsn : Nat) : Prop := ∃ c, s.cmd? fsn = some c ∧ (c.phase = .committed → c.status = some .ok)

namespace State.Unfailed
variable {s t : State} {fsn : Nat} (h : s.Unfailed fsn)
include h

theorem congr (ht : t.cqu.store = s.cqu.store) : t.Unfailed fsn := by
  obtain ⟨c, hc, hok⟩ := h
  exact ⟨c, State.cmd?_congr hc ht, hok⟩

theorem finish (f dw0 dw1 : Nat) : (s.finish f .ok dw0 dw1).Unfailed fsn := by
  obtain ⟨c, hc, hok⟩ := h
  by_cases hf : f = fsn
  · subst hf
    by_cases hp : c.phase = .committed
    · refine ⟨c, ?_, hok⟩
      rw [State.finish, hc]
      simpa only [hp, if_true] using hc
    · exact ⟨_, State.cmd?_finish hc hp .ok dw0 dw1, fun _ => rfl⟩
  · refine ⟨c, ?_, hok⟩
    unfold State.finish
    split
    · exact hc
    · next d hd =>
      split
      · exact hc
      · have hne : d.fsn ≠ fsn := State.fsn_of_cmd? hd ▸ hf
        exact (State.cmd?_setCmd_ne s (by exact hne)).trans hc

theorem endsWith (dw0 dw1 : Nat) : EndsWith (s.finish fsn .ok dw0 dw1) fsn .ok := by
  obtain ⟨c, hc, hok⟩ := h
  by_cases hp : c.phase = .committed
  · rw [State.finish, hc]
    simpa only [hp, if_true] using ⟨c, hc, hp, hok hp⟩
  · exact State.finish_endsWith hc hp _ _ _

theorem asyncEvent (typ info lid : Nat) : (s.asyncEvent typ info lid).Unfailed fsn := by
  unfold State.asyncEvent
  dsimp only
  split
  · exact h
  · split
    · exact h.congr rfl
    · refine State.Unfailed.finish ?_ _ _ _
      exact h.congr rfl

theorem warn (b cause : Nat) : (s.warn b cause).Unfailed fsn := by
  unfold State.warn
  dsimp only
  split
  · exact h.congr rfl
  · split
    · refine State.Unfailed.asyncEvent ?_ _ _ _
      exact h.congr rfl
    · exact h.congr rfl

theorem unwarn (b cause : Nat) : (s.unwarn b cause).Unfailed fsn := by
  unfold State.unwarn
  dsimp only
  split <;> exact h.congr rfl

theorem expose : s.expose.Unfailed fsn := by
  unfold State.expose
  split
  · exact h.warn _ _
  · exact h.unwarn _ _

theorem redundancy : s.redundancy.Unfailed fsn := by
  unfold State.redundancy
  dsimp only
  split
  · exact h.expose.warn _ _
  · exact h.expose.unwarn _ _

theorem movesDone : s.movesDone.Unfailed fsn := by
  unfold State.movesDone
  split
  · exact h.asyncEvent _ _ _
  · exact h

theorem count (id inst n : Nat) : (s.count id inst n).Unfailed fsn := by
  unfold State.count State.saturated
  dsimp only
  split
  · refine State.Unfailed.asyncEvent ?_ _ _ _
    exact h.congr rfl
  · exact h.congr rfl

theorem moveEnd (p : Placement) : (s.moveEnd p).Unfailed fsn := by
  simp -zeta only [State.moveEnd]
  extract_lets old taken s0 p' s1 left stripe s2 s3
  have h0 : s0.Unfailed fsn := by
    simp only [s0]
    split
    · exact h.congr rfl
    · exact h
  have h1 : s1.Unfailed fsn := (h0.congr (t := (s0.setPlace p').journal (.moveEnd p.zone)) rfl).count _ _ _
  have h2 : s2.Unfailed fsn := h1.congr rfl
  have h3 : s3.Unfailed fsn := by
    simp only [s3]
    split
    · refine State.Unfailed.congr (s := List.foldl _ s2 _) ?_ (by rw [State.bump_cqu])
      exact List.foldlRecOn (motive := fun t : State => t.Unfailed fsn) _ _ h2 fun _ ht _ _ => ht.count _ _ _
    · exact h2
  exact h3.movesDone.redundancy

end State.Unfailed

/-! ### The turn of a Zone Management Send (R369, R346). -/

theorem State.ordered_setCmd {s : State} {c : Cmd} (h : s.ordered c = true) (d : Cmd) (hf : d.fsn = c.fsn)
    (hr : d.ranges = c.ranges) (he : d.sqe = c.sqe) : (s.setCmd d).ordered d = true := by
  unfold State.ordered at h ⊢
  rw [List.all_eq_true] at h ⊢
  intro x hx
  obtain ⟨y, hy, rfl⟩ := List.mem_map.1 hx
  split
  · simp
  · rw [hf, hr, he]
    exact h y hy

/-- The command of a Zone Management Send whose action is decoded. -/
def Cmd.decoded (c : Cmd) : Cmd := { c with phase := .admitted, passed := false }

section
variable {s : State} {fsn : Nat} {c : Cmd} {z : Bool} {l : Layout} (hns : s.ns c.sqe.nsid.toNat = some z)
  (hl : s.zmu.layout = some l) (hc : s.ioCmd fsn 0x79 = some c) (hall : c.sqe.cdw13.getLsbD 8 = false)
  (hord : s.ordered c = true)
include hns hl hc hall hord

/-- One zone's action, and with it the command's outcome. -/
theorem State.zoneSend_one {zsa : Nat} (hz : sqeZsa c.sqe = zsa) {t : State} {o : Option Status}
    (ha : (s.setCmd c.decoded).zoneAct fsn zsa (l.c + sqeSlba c.sqe / zsze) = some (t, o)) :
    s.zoneSend fsn zsa = t.finish fsn (o.getD .ok) 0 0 := by
  obtain ⟨hcmd, -, -, hop⟩ := State.ioCmd_spec hc
  obtain rfl := State.fsn_of_cmd? hcmd
  let u := s.setCmd c.decoded
  have hcmd' : u.cmd? c.fsn = some c.decoded := State.cmd?_setCmd hcmd rfl
  have hturn : ¬ (c.decoded.phase ≠ .admitted ∨ c.decoded.passed = true ∨ (!u.ordered c.decoded) = true) := by
    rw [State.ordered_setCmd hord c.decoded rfl rfl rfl]
    simp [Cmd.decoded]
  have hns' : u.ns c.decoded.sqe.nsid.toNat = some z := hns
  have hl' : u.zmu.layout = some l := hl
  have htry : u.tryCommit c.fsn [] = u.commitZones c.decoded l := by
    simp only [State.tryCommit, hcmd', hns', hl']
    rw [if_neg hturn, if_pos (show c.decoded.sqe.opc = 0x79 from hop)]
  have hsend : s.zoneSend c.fsn zsa = u.tryCommit c.fsn [] := by
    rw [State.zoneSend, hc]
    exact if_neg (by simp [hz])
  have hall' : ¬ c.decoded.sqe.cdw13.getLsbD 8 = true := by simpa [Cmd.decoded] using hall
  rw [hsend, htry]
  simp only [State.commitZones]
  rw [if_neg hall', State.zoneActs]
  have ha' : u.zoneAct c.decoded.fsn (sqeZsa c.decoded.sqe) (l.c + sqeSlba c.decoded.sqe / zsze) = some (t, o) := by
    rw [← ha, ← hz]
    rfl
  rw [ha']
  cases o <;> rfl

end

/-! ### The four actions (R344, R346). -/

theorem State.zone?_setZone {s : State} {lz : Nat} {z : ZoneDesc} (h : s.zone? lz = some z) (y : ZoneDesc) :
    (s.setZone lz y).zone? lz = some y := by
  change (setAt s.zmu.zones lz y)[lz]? = _
  rw [setAt_getElem?, if_pos rfl, show s.zmu.zones[lz]? = some z from h]
  rfl

theorem State.zone?_zoneSet {s : State} {lz : Nat} {z : ZoneDesc} (h : s.zone? lz = some z) (st wp : Nat) :
    (s.zoneSet lz st wp).zone? lz = some { z with state := st, wp := wp } := by
  have hlog : (s.logRec (.zoneChange lz st wp)).zone? lz = some z := h
  rw [State.zoneSet, State.mapChange, State.applyRec, hlog]
  exact State.zone?_setZone hlog _

theorem State.mapChange_cqu (s : State) (r : LogRec) : (s.mapChange r).cqu = s.cqu :=
  (State.mapChange_only (qz := [.zmu]) s r (Only.refl _ _) rfl).cqu rfl

theorem State.mapChange_buf (s : State) (r : LogRec) : (s.mapChange r).buf = s.buf :=
  (State.mapChange_only (qz := [.zmu]) s r (Only.refl _ _) rfl).buf rfl

/-- No current block of the set is left. -/
theorem State.dropBlocks_current {s : State} {p : Nat → Bool} {b : CBlock} (hb : b ∈ (s.dropBlocks p).buf.cache)
    (hcur : b.current = true) : p b.dlba = false := by
  obtain ⟨a, -, ha⟩ := List.mem_filterMap.1 hb
  split at ha
  · unfold CBlock.superseded at ha
    split at ha
    · cases ha
    · obtain rfl := Option.some.inj ha
      cases hcur
  · next hp =>
    obtain rfl := Option.some.inj ha
    simpa [hcur] using hp

section
variable {s : State} {fsn lz : Nat} {z : ZoneDesc} (hz : s.zone? lz = some z)
include hz

theorem State.zoneAct_open (ha : s.activeZones < 1024) (ho : s.openZones.length < 256) :
    s.zoneAct fsn 3 lz = some (if z.state = 4 then (s, some .zoneTrans) else (s.zoneSet lz 2 z.wp, none)) := by
  rw [State.zoneAct, hz]
  dsimp only
  rw [if_pos rfl]
  by_cases h4 : z.state = 4
  · rw [if_pos h4, if_pos h4]
  · rw [if_neg h4, if_neg h4, State.openZone, hz]
    dsimp only
    by_cases h12 : z.state = 1 ∨ z.state = 2
    · rw [if_pos h12, if_pos rfl]
    · rw [if_neg h12, if_neg (by omega), State.openRoom, if_pos ho]
      rfl

theorem State.zoneAct_close : s.zoneAct fsn 1 lz = some (if z.state = 0 ∨ z.state = 4 then (s, some .zoneTrans)
    else if z.state = 3 then (s, none) else (s.zoneSet lz (if z.wp = 0 then 0 else 3) z.wp, none)) := by
  rw [State.zoneAct, hz]
  dsimp only
  rw [if_neg (by decide), if_pos rfl]
  split
  · rfl
  · split <;> rfl

theorem State.zoneAct_finish (hb : s.finishBlocks lz = []) : s.zoneAct fsn 2 lz =
    some (if z.state = 4 then s else (s.zoneSet lz 4 z.wp).gatherHome lz, none) := by
  rw [State.zoneAct, hz]
  dsimp only
  rw [if_neg (by decide), if_neg (by decide), if_pos rfl]
  split
  · rfl
  · simp [State.finishZone, hz, hb]

theorem State.zoneAct_reset (h0 : z.state ≠ 0) : s.zoneAct fsn 4 lz = some (s.resetZone lz, none) := by
  rw [State.zoneAct, hz]
  dsimp only
  rw [if_neg (by decide), if_neg (by decide), if_neg (by decide), if_neg h0]

/-- A reset zone is empty, none of its blocks is cached, and its command lives. -/
theorem State.resetZone_resets (hu : s.Unfailed fsn) : (s.resetZone lz).Unfailed fsn ∧
    (s.resetZone lz).zone? lz = some { z with state := 0, wp := 0, frontier := 0, merging := false } ∧
    ∀ b ∈ (s.resetZone lz).buf.cache, b.current = true → b.dlba / zsze ≠ lz := by
  simp -zeta only [State.resetZone, hz]
  extract_lets lo inZone s1 s2 stripe cqu zmu s3 s4 s5
  have h2 : s2.cqu.store = s.cqu.store ∧ s2.buf = s1.buf ∧ s2.zmu.zones = s.zmu.zones := by
    simp only [s2]
    split
    · exact ⟨by rw [State.mapChange_cqu]; rfl, State.mapChange_buf _ _, rfl⟩
    · exact ⟨rfl, rfl, rfl⟩
  obtain ⟨hstore, hbuf, hzones⟩ := h2
  have hu3 : s3.Unfailed fsn := hu.congr hstore
  have h4 : s4.Unfailed fsn ∧ s4.buf = s1.buf ∧ s4.zmu.zones = s.zmu.zones := by
    have hend (p : Placement) : Only [.stripe, .cqu, .crd, .slot 9, .slot 14] s3 (s3.moveEnd p) :=
      State.moveEnd_only _ _ (Only.refl _ _) rfl rfl rfl rfl rfl
    simp only [s4]
    split
    · next p _ =>
      split
      · exact ⟨hu3.moveEnd p, ((hend p).buf rfl).trans hbuf, (congrArg Zmu.zones ((hend p).zmu rfl)).trans hzones⟩
      · exact ⟨hu3, hbuf, hzones⟩
    · exact ⟨hu3, hbuf, hzones⟩
  obtain ⟨hu4, hbuf4, hzones4⟩ := h4
  have hz4 : s4.zone? lz = some z := by rw [State.zone?, hzones4]; exact hz
  have hz5 : s5.zone? lz = some { z with state := 0, wp := 0 } := State.zone?_zoneSet hz4 0 0
  have hu5 : s5.Unfailed fsn := hu4.congr (by rw [show s5.cqu = s4.cqu from State.mapChange_cqu _ _])
  have hbuf5 : s5.buf = s1.buf := (State.mapChange_buf _ _).trans hbuf4
  rw [hz5]
  let s6 := s5.setZone lz { z with state := 0, wp := 0, frontier := 0, merging := false }
  have hexp : Only [.cqu, .slot 9] s6 s6.expose := State.expose_only _ (Only.refl _ _) rfl rfl
  refine ⟨(hu5.congr (t := s6) rfl).expose, ?_, fun b hb hcur hlz => ?_⟩
  · rw [State.zone?, hexp.zmu rfl]
    exact State.zone?_setZone hz5 _
  · rw [hexp.buf rfl, show s6.buf = s1.buf from hbuf5] at hb
    have hin : decide (lo ≤ b.dlba ∧ b.dlba < lo + zsze) = true := by
      have hpos : 0 < zsze := by decide
      have hmod := Nat.mod_lt b.dlba hpos
      have hdiv := Nat.div_add_mod' b.dlba zsze
      rw [hlz] at hdiv
      rw [decide_eq_true_iff]
      omega
    exact absurd hin (by simpa [inZone] using State.dropBlocks_current hb hcur)

end

/-! ### The report (R361). -/

theorem padTo_length (n : Nat) (b : Bytes) : (padTo n b).length = n := by
  simp only [padTo, zeros, List.length_append, List.length_take, List.length_replicate]
  omega

theorem exec_zoneManagementReceive {s : State} {fsn : Nat} {c : Cmd} {l : Layout} (hl : s.zmu.layout = some l)
    (hc : s.ioCmd fsn 0x7A = some c) (hb : inBar s.hpt.bar2 0x10000000 c.sqe.prp1.toNat = false)
    (hd : s.get Reg.HPT.LINK.DSTATE ≠ 3) (hp : s.get Reg.HPT.LINK.PM_LINK ≠ 4) :
    Goes (exec (.zoneManagementReceive fsn) s) fun t => EndsWith t fsn .ok ∧
      ∃ b : Bytes, t.hpt.out = s.hpt.out ++ [.data fsn b] ∧ b.length = (c.sqe.cdw12.toNat + 1) * 4 := by
  obtain ⟨hcmd, -, hphase, -⟩ := State.ioCmd_spec hc
  obtain rfl := State.fsn_of_cmd? hcmd
  have hexec : exec (.zoneManagementReceive c.fsn) s =
      .next ((s.send (.data c.fsn (s.zoneReport l c.sqe))).finish c.fsn .ok 0 0) := by
    change execZoneManagementReceive c.fsn s = _
    simp only [execZoneManagementReceive, hc, hl, State.toHost, hb, Bool.false_eq_true, if_false]
  rw [hexec, Goes_next]
  refine ⟨State.finish_endsWith (State.cmd?_congr hcmd (by rw [State.send_cqu])) (by simp [hphase]) _ _ _, s.zoneReport l c.sqe,
    ?_, padTo_length _ _⟩
  rw [State.finish_hpt, State.send_out _ _ hd hp]

/-! ### The statement. -/

/-- Settles O49: a command whose turn has come does its zone's action (`State.zoneSend_one`) and is answered with its outcome. -/
theorem zoneCommands : Obligations.ZoneCommands := by
  unfold Obligations.ZoneCommands
  refine fun s fsn c z l zd hns hl => ⟨fun hc hall hord hz h5 => ?_, fun hc hb hd hp => exec_zoneManagementReceive hl hc hb hd hp⟩
  obtain ⟨hcmd, -, -, -⟩ := State.ioCmd_spec hc
  let u := s.setCmd c.decoded
  have hf := State.fsn_of_cmd? hcmd
  have hu : u.cmd? fsn = some c.decoded := State.cmd?_setCmd hcmd hf
  have hlive : u.Unfailed fsn := ⟨_, hu, fun h => by cases h⟩
  have hz' : u.zone? (l.c + sqeSlba c.sqe / zsze) = some zd := hz
  have hset (st wp : Nat) : (u.zoneSet (l.c + sqeSlba c.sqe / zsze) st wp).Unfailed fsn :=
    hlive.congr (by rw [show (u.zoneSet _ st wp).cqu = u.cqu from State.mapChange_cqu _ _])
  refine ⟨fun ha hact hopen => ?_, fun ha => ?_, fun ha hb => ?_, fun ha h0 => ?_⟩
  · have hone := State.zoneAct_open (fsn := fsn) hz' hact hopen
    change Goes (.next (s.zoneSend fsn 3)) _
    rw [Goes_next]
    by_cases h4 : zd.state = 4
    · rw [if_pos h4] at hone ⊢
      rw [State.zoneSend_one hns hl hc hall hord ha hone]
      exact ⟨State.finish_endsWith hu (by simp [Cmd.decoded]) _ _ _, State.finish_zmu _ _ _ _ _⟩
    · rw [if_neg h4] at hone ⊢
      rw [State.zoneSend_one hns hl hc hall hord ha hone]
      exact ⟨(hset _ _).endsWith _ _, by rw [State.zone?, State.finish_zmu]; exact State.zone?_zoneSet hz' _ _⟩
  · have hone := State.zoneAct_close (fsn := fsn) hz'
    change Goes (.next (s.zoneSend fsn 1)) _
    rw [Goes_next]
    by_cases h04 : zd.state = 0 ∨ zd.state = 4
    · rw [if_pos h04] at hone ⊢
      rw [State.zoneSend_one hns hl hc hall hord ha hone]
      exact ⟨State.finish_endsWith hu (by simp [Cmd.decoded]) _ _ _, State.finish_zmu _ _ _ _ _⟩
    · rw [if_neg h04] at hone ⊢
      by_cases h3 : zd.state = 3
      · rw [if_pos h3] at hone
        rw [State.zoneSend_one hns hl hc hall hord ha hone, if_neg (by simp [h3]), ← h3]
        exact ⟨hlive.endsWith _ _, by rw [State.zone?, State.finish_zmu]; exact hz'⟩
      · rw [if_neg h3] at hone
        rw [State.zoneSend_one hns hl hc hall hord ha hone]
        refine ⟨(hset _ _).endsWith _ _, ?_⟩
        rw [State.zone?, State.finish_zmu]
        simp only [ne_eq, h3, not_false_eq_true, true_and]
        exact State.zone?_zoneSet hz' _ _
  · have hone := State.zoneAct_finish (fsn := fsn) hz' (by exact hb)
    change Goes (.next (s.zoneSend fsn 2)) _
    rw [Goes_next, State.zoneSend_one hns hl hc hall hord ha hone]
    split
    · next h4 =>
      rw [← h4]
      exact ⟨hlive.endsWith _ _, by rw [State.zone?, State.finish_zmu]; exact hz'⟩
    · have hgather (t : State) (lz : Nat) : Only [.stripe, .buf] t (t.gatherHome lz) :=
        State.gatherHome_only _ _ (Only.refl _ _) rfl rfl
      refine ⟨((hset _ _).congr (by rw [(hgather _ _).cqu rfl])).endsWith _ _, ?_⟩
      rw [State.zone?, State.finish_zmu, (hgather _ _).zmu rfl]
      exact State.zone?_zoneSet hz' _ _
  · obtain ⟨hreset, hzone, hcache⟩ := State.resetZone_resets hz' hlive
    change Goes (.next (s.zoneSend fsn 4)) _
    rw [Goes_next, State.zoneSend_one hns hl hc hall hord ha (State.zoneAct_reset hz' h0)]
    refine ⟨hreset.endsWith _ _, ?_, ?_⟩
    · rw [State.zone?, State.finish_zmu]
      exact hzone
    · rw [State.finish_buf]
      exact hcache

end Sys2Proof.Machine
end

section
/-!
PROOFS. Doorbells (R395), and the creation and deletion of queues (R357, R360): O40.
-/

namespace Sys2Proof.Machine

/-! ### Admin commands, and what an outcome leaves of the queues. -/

theorem State.adm_spec {s : State} {fsn : Nat} {op : Byte} {c : Cmd} (h : s.adm fsn op = some c) :
    s.cmd? fsn = some c ∧ c.sqid = 0 ∧ c.phase = .fetched ∧ c.sqe.opc = op := by
  unfold State.adm at h
  split at h
  · next d hd =>
    split at h
    · next hc =>
      obtain rfl := Option.some.inj h
      exact ⟨hd, hc⟩
    · cases h
  · cases h

theorem State.adm_endsWith {s t : State} {fsn : Nat} {op : Byte} {c : Cmd} (h : s.adm fsn op = some c)
    (ht : t.cqu.store = s.cqu.store) (st : Status) (dw0 dw1 : Nat) : EndsWith (t.finish fsn st dw0 dw1) fsn st := by
  obtain ⟨hcmd, -, hp, -⟩ := State.adm_spec h
  exact State.finish_endsWith (State.cmd?_congr hcmd ht) (by simp [hp]) _ _ _

/-- An outcome changes nothing of the unit but its command. -/
theorem State.finish_cqu (s : State) (fsn : Nat) (st : Status) (dw0 dw1 : Nat) :
    (s.finish fsn st dw0 dw1).cqu = { s.cqu with store := (s.finish fsn st dw0 dw1).cqu.store } := by
  unfold State.finish
  split
  · rfl
  · split
    · rfl
    · rw [State.bump_cqu]
      rfl

theorem State.finish_sqs (s : State) (fsn : Nat) (st : Status) (dw0 dw1 : Nat) :
    (s.finish fsn st dw0 dw1).cqu.sqs = s.cqu.sqs := by
  rw [State.finish_cqu]

theorem State.finish_cqs (s : State) (fsn : Nat) (st : Status) (dw0 dw1 : Nat) :
    (s.finish fsn st dw0 dw1).cqu.cqs = s.cqu.cqs := by
  rw [State.finish_cqu]

/-! ### Doorbells (R395). -/

theorem State.sq?_setSq {s : State} {n : Nat} {q p : Sq} (h : s.sq? n = some q) (hp : p.qid = n) : (s.setSq p).sq? n = some p :=
  find?_replace Sq.qid h hp

theorem State.cq?_setCq {s : State} {n : Nat} {q p : Cq} (h : s.cq? n = some q) (hp : p.qid = n) : (s.setCq p).cq? n = some p :=
  find?_replace Cq.qid h hp

theorem State.intaLevel_cqu (s : State) : s.intaLevel.cqu = s.cqu := by
  unfold State.intaLevel
  dsimp only
  split
  · rw [State.send_cqu]
  · rfl

theorem Reachable.exec_sqTailDoorbell {s : State} (h : Reachable s) (qid : Nat) (v : Word) :
    Goes (exec (.sqTailDoorbell qid v) s) fun t =>
      (match s.sq? qid with
        | some q => if v.toNat < q.size then t.sq? qid = some { q with tail := v.toNat } ∧ t.cqu.errCount = s.cqu.errCount
            else t.cqu.sqs = s.cqu.sqs ∧ t.cqu.errCount = s.cqu.errCount + 1
        | none => t.cqu.sqs = s.cqu.sqs ∧ t.cqu.errCount = s.cqu.errCount + 1 : Prop) := by
  change Goes (.next (s.memReq false _)) _
  rw [h.memReq_eq, Goes_next]
  cases hq : s.sq? qid with
  | none => exact ⟨rfl, rfl⟩
  | some q =>
    have hqid : q.qid = qid := by simpa using List.find?_some hq
    dsimp only
    by_cases hv : v.toNat < q.size
    · rw [if_pos hv, if_neg (by omega)]
      exact ⟨State.sq?_setSq hq hqid, rfl⟩
    · rw [if_neg hv, if_pos (by omega)]
      exact ⟨rfl, rfl⟩

theorem Reachable.exec_cqHeadDoorbell {s : State} (h : Reachable s) (qid : Nat) (v : Word) :
    Goes (exec (.cqHeadDoorbell qid v) s) fun t =>
      (match s.cq? qid with
        | some q =>
          if v.toNat < q.size ∧ ringUsed q.size q.head v.toNat ≤ ringUsed q.size q.head q.tail then
            t.cq? qid = some { q with head := v.toNat } ∧ t.cqu.errCount = s.cqu.errCount
          else t.cqu.cqs = s.cqu.cqs ∧ t.cqu.errCount = s.cqu.errCount + 1
        | none => t.cqu.cqs = s.cqu.cqs ∧ t.cqu.errCount = s.cqu.errCount + 1 : Prop) := by
  change Goes (.next (s.memReq false _)) _
  rw [h.memReq_eq, Goes_next]
  cases hq : s.cq? qid with
  | none => exact ⟨rfl, rfl⟩
  | some q =>
    have hqid : q.qid = qid := by simpa using List.find?_some hq
    dsimp only
    by_cases hv : v.toNat < q.size ∧ ringUsed q.size q.head v.toNat ≤ ringUsed q.size q.head q.tail
    · rw [if_pos hv, if_neg (by omega), State.cq?, State.intaLevel_cqu]
      exact ⟨State.cq?_setCq hq hqid, rfl⟩
    · rw [if_neg hv, if_pos (by omega)]
      exact ⟨rfl, rfl⟩

/-! ### Creation (R357). -/

theorem exec_createIoCompletionQueue {s : State} {fsn : Nat} {c : Cmd} (h : s.adm fsn 0x05 = some c)
    (hpc : c.sqe.cdw11.getLsbD 0 = true) (hprp : s.badPrp c.sqe = false) :
    Goes (exec (.createIoCompletionQueue fsn) s) fun t =>
      let qid := c.sqe.cdw10.toNat % 65536
      let size := c.sqe.cdw10.toNat / 65536
      let iv := c.sqe.cdw11.toNat / 65536
      if qid = 0 ∨ 64 < qid ∨ (s.cq? qid).isSome = true then EndsWith t fsn .badQid ∧ t.cqu.cqs = s.cqu.cqs
      else if size = 0 ∨ 4095 < size then EndsWith t fsn .badQsize ∧ t.cqu.cqs = s.cqu.cqs
      else if 64 < iv then EndsWith t fsn .badVector ∧ t.cqu.cqs = s.cqu.cqs
      else EndsWith t fsn .ok ∧ t.cq? qid = some ⟨qid, size + 1, 0, 0, true, c.sqe.cdw11.getLsbD 1, iv, 0⟩ := by
  change Goes (execCreateIoCompletionQueue fsn s) _
  simp only [execCreateIoCompletionQueue, h]
  rw [if_neg (by simp [hpc, hprp])]
  have hends (st : Status) : EndsWith (s.finish fsn st 0 0) fsn st ∧ (s.finish fsn st 0 0).cqu.cqs = s.cqu.cqs :=
    ⟨State.adm_endsWith h rfl _ _ _, State.finish_cqs _ _ _ _ _⟩
  refine Goes_cases (fun _ => (Goes_next _ _).2 (hends _)) fun hq =>
    Goes_cases (fun _ => (Goes_next _ _).2 (hends _)) fun _ => Goes_cases (fun _ => (Goes_next _ _).2 (hends _)) fun _ =>
      (Goes_next _ _).2 ⟨State.adm_endsWith h (by rfl) _ _ _, ?_⟩
  have hnone : s.cqu.cqs.find? (fun q => q.qid == c.sqe.cdw10.toNat % 65536) = none := by
    simpa [State.cq?] using fun hs => hq (Or.inr (Or.inr hs))
  rw [State.cq?, State.finish_cqs]
  simp [hnone]

theorem exec_createIoSubmissionQueue {s : State} {fsn : Nat} {c : Cmd} (h : s.adm fsn 0x01 = some c)
    (hpc : c.sqe.cdw11.getLsbD 0 = true) (hprp : s.badPrp c.sqe = false) (hcq : 0 < c.sqe.cdw11.toNat / 65536)
    (hsome : (s.cq? (c.sqe.cdw11.toNat / 65536)).isSome = true) :
    Goes (exec (.createIoSubmissionQueue fsn) s) fun t =>
      let qid := c.sqe.cdw10.toNat % 65536
      let size := c.sqe.cdw10.toNat / 65536
      if qid = 0 ∨ 64 < qid ∨ (s.sq? qid).isSome = true then EndsWith t fsn .badQid ∧ t.cqu.sqs = s.cqu.sqs
      else if size = 0 ∨ 4095 < size then EndsWith t fsn .badQsize ∧ t.cqu.sqs = s.cqu.sqs
      else EndsWith t fsn .ok ∧
        t.sq? qid = some ⟨qid, size + 1, 0, 0, c.sqe.cdw11.toNat / 65536, c.sqe.cdw11.toNat / 2 % 4⟩ := by
  change Goes (execCreateIoSubmissionQueue fsn s) _
  simp only [execCreateIoSubmissionQueue, h]
  rw [if_neg (by simp [hpc, hprp]), if_neg (by simp [Option.isSome_iff_ne_none.1 hsome]; omega)]
  have hends (st : Status) : EndsWith (s.finish fsn st 0 0) fsn st ∧ (s.finish fsn st 0 0).cqu.sqs = s.cqu.sqs :=
    ⟨State.adm_endsWith h rfl _ _ _, State.finish_sqs _ _ _ _ _⟩
  refine Goes_cases (fun _ => (Goes_next _ _).2 (hends _)) fun hq =>
    Goes_cases (fun _ => (Goes_next _ _).2 (hends _)) fun _ => (Goes_next _ _).2 ⟨State.adm_endsWith h (by rfl) _ _ _, ?_⟩
  have hnone : s.cqu.sqs.find? (fun q => q.qid == c.sqe.cdw10.toNat % 65536) = none := by
    simpa [State.sq?] using fun hs => hq (Or.inr (Or.inr hs))
  rw [State.sq?, State.finish_sqs]
  simp [hnone]

/-! ### Deletion (R357, R360). -/

theorem exec_deleteIoCompletionQueue {s : State} {fsn : Nat} {c : Cmd} (h : s.adm fsn 0x04 = some c) :
    Goes (exec (.deleteIoCompletionQueue fsn) s) fun t =>
      let qid := c.sqe.cdw10.toNat % 65536
      if qid = 0 ∨ s.cq? qid = none then EndsWith t fsn .badQid ∧ t.cqu.cqs = s.cqu.cqs
      else if ∃ q ∈ s.cqu.sqs, q.cqid = qid then EndsWith t fsn .badDelete ∧ t.cqu.cqs = s.cqu.cqs
      else EndsWith t fsn .ok ∧ t.cq? qid = none := by
  change Goes (execDeleteIoCompletionQueue fsn s) _
  simp only [execDeleteIoCompletionQueue, h, Option.isNone_iff_eq_none, List.any_eq_true, beq_iff_eq]
  have hends (st : Status) : EndsWith (s.finish fsn st 0 0) fsn st ∧ (s.finish fsn st 0 0).cqu.cqs = s.cqu.cqs :=
    ⟨State.adm_endsWith h rfl _ _ _, State.finish_cqs _ _ _ _ _⟩
  refine Goes_cases (fun _ => (Goes_next _ _).2 (hends _)) fun _ =>
    Goes_cases (fun _ => (Goes_next _ _).2 (hends _)) fun _ => (Goes_next _ _).2 ⟨State.adm_endsWith h (by rfl) _ _ _, ?_⟩
  rw [State.cq?, State.finish_cqs]
  simp [List.find?_eq_none]

/-- A committed outcome stays as it is (R376). -/
theorem EndsWith.finish {s : State} {fsn : Nat} {st : Status} (h : EndsWith s fsn st) (f : Nat) (st' : Status) (dw0 dw1 : Nat) :
    EndsWith (s.finish f st' dw0 dw1) fsn st := by
  obtain ⟨c, hc, hp, hst⟩ := h
  refine ⟨c, ?_, hp, hst⟩
  unfold State.finish
  split
  · exact hc
  · next d hd =>
    split
    · exact hc
    · next hdp =>
      have hne : d.fsn ≠ fsn := by
        rintro rfl
        rw [State.fsn_of_cmd? hd, hd] at hc
        exact hdp (Option.some.inj hc ▸ hp)
      exact (State.cmd?_setCmd_ne s (by exact hne)).trans hc

/-- What the arbiter does for one command of the store whose queue is under deletion (R360). -/
def State.deleteOne (t : State) (c : Cmd) : State :=
  if c.sqid = 0 ∧ c.sqe.opc = 0x00 ∧ c.phase = .ready then
    if t.cqu.store.any fun d => d.sqid == c.sqe.cdw10.toNat % 0x10000 then t
    else ({ t with cqu := { t.cqu with sqs := t.cqu.sqs.filter fun q => q.qid != c.sqe.cdw10.toNat % 0x10000 } } : State).finish
      c.fsn .ok 0 0
  else t

theorem State.deleteStep_eq (s : State) : s.deleteStep = s.cqu.store.foldl State.deleteOne s := rfl

/-- No command of the queue is left in the store. -/
def State.Spent (s : State) (qid : Nat) : Prop := ∀ d ∈ s.cqu.store, d.sqid ≠ qid

section
variable {s : State} {qid : Nat}

theorem State.Spent.setCmd (h : s.Spent qid) {d : Cmd} (hd : d.sqid ≠ qid) : (s.setCmd d).Spent qid := by
  intro x hx
  obtain ⟨y, hy, rfl⟩ := List.mem_map.1 hx
  split
  · exact hd
  · exact h y hy

theorem State.Spent.finish (h : s.Spent qid) (f : Nat) (st : Status) (dw0 dw1 : Nat) : (s.finish f st dw0 dw1).Spent qid := by
  unfold State.finish
  split
  · exact h
  · next d hd =>
    split
    · exact h
    · rw [State.Spent, State.bump_cqu]
      exact h.setCmd (h d (List.mem_of_find?_eq_some hd))

theorem State.deleteOne_spent (h : s.Spent qid) (c : Cmd) : (s.deleteOne c).Spent qid := by
  unfold State.deleteOne
  split
  · split
    · exact h
    · refine State.Spent.finish ?_ _ _ _ _
      exact h
  · exact h

theorem State.deleteOne_gone (h : s.sq? qid = none) (c : Cmd) : (s.deleteOne c).sq? qid = none := by
  unfold State.deleteOne
  split
  · split
    · exact h
    · rw [State.sq?, State.finish_sqs]
      rw [State.sq?, List.find?_eq_none] at h
      exact List.find?_eq_none.2 fun q hq => h q (List.mem_of_mem_filter hq)
  · exact h

theorem State.Unfailed.deleteOne {fsn : Nat} (h : s.Unfailed fsn) (c : Cmd) : (s.deleteOne c).Unfailed fsn := by
  unfold State.deleteOne
  split
  · split
    · exact h
    · refine State.Unfailed.finish ?_ _ _ _
      exact h.congr rfl
  · exact h

theorem EndsWith.deleteOne {fsn : Nat} {st : Status} (h : EndsWith s fsn st) (c : Cmd) : EndsWith (s.deleteOne c) fsn st := by
  unfold State.deleteOne
  split
  · split
    · exact h
    · exact EndsWith.finish (by exact h) _ _ _ _
  · exact h

/-- The deletion of a spent queue that waits in the store comes to its end. -/
theorem State.foldl_deleteOne {c : Cmd} (hc : c.sqid = 0 ∧ c.sqe.opc = 0x00 ∧ c.phase = .ready)
    (hq : c.sqe.cdw10.toNat % 0x10000 = qid) {l : List Cmd} (hl : c ∈ l) (hs : s.Spent qid) (hu : s.Unfailed c.fsn) :
    EndsWith (l.foldl State.deleteOne s) c.fsn .ok ∧ (l.foldl State.deleteOne s).sq? qid = none := by
  obtain ⟨before, after, rfl⟩ := List.append_of_mem hl
  rw [List.foldl_append, List.foldl_cons]
  have hmid : (before.foldl State.deleteOne s).Spent qid ∧ (before.foldl State.deleteOne s).Unfailed c.fsn :=
    List.foldlRecOn (motive := fun t : State => t.Spent qid ∧ t.Unfailed c.fsn) _ _ ⟨hs, hu⟩
      fun t ht d _ => ⟨State.deleteOne_spent ht.1 d, ht.2.deleteOne d⟩
  refine List.foldlRecOn (motive := fun t : State => EndsWith t c.fsn .ok ∧ t.sq? qid = none) _ _ ?_
    fun t ht d _ => ⟨ht.1.deleteOne d, State.deleteOne_gone ht.2 d⟩
  obtain ⟨hspent, hlive⟩ := hmid
  rw [State.deleteOne, if_pos hc, if_neg (by simpa [hq, State.Spent] using hspent)]
  refine ⟨State.Unfailed.endsWith (by exact hlive.congr rfl) _ _, ?_⟩
  rw [State.sq?, State.finish_sqs, hq]
  simp [List.find?_eq_none]

end

section
variable {s : State} {fsn : Nat} {c : Cmd} (h : s.adm fsn 0x00 = some c)
include h

theorem exec_deleteIoSubmissionQueue_spent (h0 : c.sqe.cdw10.toNat % 65536 ≠ 0)
    (hq : (s.sq? (c.sqe.cdw10.toNat % 65536)).isSome = true) (hs : s.Spent (c.sqe.cdw10.toNat % 65536)) :
    Goes (exec (.deleteIoSubmissionQueue fsn) s) fun t => EndsWith t fsn .ok ∧ t.sq? (c.sqe.cdw10.toNat % 65536) = none := by
  obtain ⟨hcmd, hadm, hp, hop⟩ := State.adm_spec h
  obtain rfl := State.fsn_of_cmd? hcmd
  let d : Cmd := { c with phase := .ready }
  have hnone : (s.cqu.store.filter fun d => d.sqid == c.sqe.cdw10.toNat % 65536) = [] := by
    simpa [List.filter_eq_nil_iff, State.Spent] using hs
  have hexec : exec (.deleteIoSubmissionQueue c.fsn) s = .next (s.setCmd d).deleteStep := by
    change execDeleteIoSubmissionQueue c.fsn s = _
    simp only [execDeleteIoSubmissionQueue, h, hnone]
    exact if_neg (by simp [h0, Option.isSome_iff_ne_none.1 hq])
  have hd : (s.setCmd d).cmd? c.fsn = some d := State.cmd?_setCmd hcmd rfl
  rw [hexec, Goes_next, State.deleteStep_eq]
  exact State.foldl_deleteOne (c := d) ⟨hadm, hop, rfl⟩ rfl (List.mem_of_find?_eq_some hd)
    (hs.setCmd (by simpa [d, hadm] using h0.symm)) ⟨d, hd, fun hc => by cases hc⟩

theorem exec_deleteIoSubmissionQueue_unknown (hq : c.sqe.cdw10.toNat % 65536 = 0 ∨ s.sq? (c.sqe.cdw10.toNat % 65536) = none) :
    Goes (exec (.deleteIoSubmissionQueue fsn) s) fun t => EndsWith t fsn .badQid := by
  have hexec : exec (.deleteIoSubmissionQueue fsn) s = .next (s.finish fsn .badQid 0 0) := by
    change execDeleteIoSubmissionQueue fsn s = _
    simp only [execDeleteIoSubmissionQueue, h]
    exact if_pos (by simpa [Option.isNone_iff_eq_none] using hq)
  rw [hexec, Goes_next]
  exact State.adm_endsWith h rfl _ _ _

omit h in
/-- The cancelled command is the first of the store, and is committed there (R376). -/
theorem State.cancel_store {d : Cmd} {l : List Cmd} (hs : s.cqu.store = d :: l) (hl : ∀ x ∈ l, x.fsn ≠ d.fsn)
    (hdec : d.decided = false) (st : Status) : ∃ x, (s.cancel d st).cqu.store = x :: l ∧ x.fsn = d.fsn ∧ x.sqid = d.sqid ∧
      x.phase = .committed ∧ x.status = some st ∧ (s.cancel d st).cqu.sqs = s.cqu.sqs := by
  have hp : d.phase ≠ .committed := by
    intro hp
    simp [Cmd.decided, hp] at hdec
  rw [State.cancel, if_neg (by simp [hdec])]
  extract_lets cqu stripe s1
  have hscan (n : Nat) : (s1.scanEnd d n).cqu.store = d :: l ∧ (s1.scanEnd d n).cqu.sqs = s.cqu.sqs := by
    unfold State.scanEnd
    split
    · rw [State.bump_cqu]
      exact ⟨hs, rfl⟩
    · exact ⟨hs, rfl⟩
  obtain ⟨hstore, hsqs⟩ := hscan (st.sct * 256 + st.sc)
  have hcmd : (s1.scanEnd d (st.sct * 256 + st.sc)).cmd? d.fsn = some d := by simp [State.cmd?, hstore]
  refine ⟨{ d with phase := .committed, status := some st, dw0 := 0, dw1 := 0, passed := true, waitAdm := false, buf := [] },
    ?_, rfl, rfl, rfl, rfl, (State.finish_sqs _ _ _ _ _).trans hsqs⟩
  rw [State.finish, hcmd]
  dsimp only
  rw [if_neg hp, State.bump_cqu]
  change (State.cqu _).store.map _ = _
  rw [hstore, List.map_cons, if_pos rfl]
  exact congrArg _ ((List.map_congr_left fun x hx => if_neg (hl x hx)).trans (List.map_id' l))

/-- A command of the queue that is not decided is aborted, and the deletion waits for its completion. -/
theorem exec_deleteIoSubmissionQueue_waits {d : Cmd} (h0 : c.sqe.cdw10.toNat % 65536 ≠ 0)
    (hq : (s.sq? (c.sqe.cdw10.toNat % 65536)).isSome = true) (hstore : s.cqu.store = [d, c])
    (hd : d.sqid = c.sqe.cdw10.toNat % 65536) (hne : d.fsn ≠ fsn) (hdec : d.decided = false) :
    Goes (exec (.deleteIoSubmissionQueue fsn) s) fun t => EndsWith t d.fsn .sqDeleted ∧ t.cqu.sqs = s.cqu.sqs := by
  obtain ⟨hcmd, hadm, hp, hop⟩ := State.adm_spec h
  obtain rfl := State.fsn_of_cmd? hcmd
  obtain ⟨x, hx, hfsn, hsqid, hphase, hst, hsqs⟩ := State.cancel_store hstore (by simpa using hne.symm) hdec .sqDeleted
  let s1 := s.cancel d .sqDeleted
  let u := s1.setCmd { c with phase := .ready }
  have hu : u.cqu.store = [x, { c with phase := .ready }] := by
    change s1.cqu.store.map _ = _
    simp [s1, hx, hfsn, hne]
  have hqueue : (s.cqu.store.filter fun d => d.sqid == c.sqe.cdw10.toNat % 65536) = [d] := by
    simp [hstore, hd, hadm, h0.symm]
  have hexec : exec (.deleteIoSubmissionQueue c.fsn) s = .next u.deleteStep := by
    change execDeleteIoSubmissionQueue c.fsn s = _
    simp only [execDeleteIoSubmissionQueue, h, hqueue]
    exact if_neg (by simp [h0, Option.isSome_iff_ne_none.1 hq])
  have hwait : u.deleteStep = u := by
    have hone : u.deleteOne x = u := if_neg (by simp [hsqid, hd, h0])
    have htwo : u.deleteOne { c with phase := .ready } = u := by
      rw [State.deleteOne, if_pos ⟨hadm, hop, rfl⟩, if_pos (by simp [hu, hsqid, hd])]
    rw [State.deleteStep_eq, hu, List.foldl_cons, hone, List.foldl_cons, htwo, List.foldl_nil]
  rw [hexec, hwait, Goes_next]
  exact ⟨⟨x, by simp [State.cmd?, hu, hfsn], hphase, hst⟩, hsqs⟩

end

/-! ### The statement. -/

/-- Settles O40: each command by its branches; a deletion's wait by what the arbiter does for each command of the store
(`State.deleteOne`). -/
theorem queuesAndDoorbells : Obligations.QueuesAndDoorbells := by
  unfold Obligations.QueuesAndDoorbells
  exact fun s => ⟨fun h qid v => h.exec_sqTailDoorbell qid v, fun h qid v => h.exec_cqHeadDoorbell qid v,
    fun fsn c h hpc hprp => exec_createIoCompletionQueue h hpc hprp,
    fun fsn c h hpc hprp hcq hsome => exec_createIoSubmissionQueue h hpc hprp hcq hsome,
    fun fsn c h => exec_deleteIoCompletionQueue h,
    fun fsn c h => ⟨fun hq => exec_deleteIoSubmissionQueue_unknown h hq,
      fun h0 hq hs => exec_deleteIoSubmissionQueue_spent h h0 hq hs,
      fun d h0 hq hstore hd hne hdec => exec_deleteIoSubmissionQueue_waits h h0 hq hstore hd hne hdec⟩⟩

end Sys2Proof.Machine
end

section
/-!
PROOFS. Fetching, Abort, Asynchronous Event Request, interrupt coalescing and the device self-tests (O41).
-/

namespace Sys2Proof.Machine

theorem State.finish_length (s : State) (fsn : Nat) (st : Status) (dw0 dw1 : Nat) :
    (s.finish fsn st dw0 dw1).cqu.store.length = s.cqu.store.length := by
  unfold State.finish
  split
  · rfl
  · split
    · rfl
    · rw [State.bump_cqu]
      exact List.length_map _

/-! ### Fetching (R358, R359, R364, R388). -/

theorem State.wakeForIo_cqu (s : State) : s.wakeForIo.cqu = s.cqu :=
  (State.wakeForIo_only (qz := [.power, .slot 0]) s (Only.refl _ _) rfl rfl).cqu rfl

theorem State.ltr_cqu (s : State) : s.ltr.cqu = s.cqu := by
  unfold State.ltr
  dsimp only
  split
  · rfl
  · rw [State.send_cqu]

/-- The entry at the head of a queue is taken; its command is entered, and its queue counts it fetched. -/
def State.taken (s : State) (sqid : Nat) (e : Sqe) (q : Sq) (ranges : List (Nat × Nat × Bool)) : State :=
  (({ s with cqu := { s.cqu with stopped := false } } : State).setSq { q with head := (q.head + 1) % q.size }).enter sqid e ranges

/-- The command as it enters the store (R358). -/
def State.entered (s : State) (sqid : Nat) (e : Sqe) (ranges : List (Nat × Nat × Bool)) : Cmd :=
  { fsn := s.cqu.nextFsn, sqid := sqid, sqe := e, phase := .fetched, status := none, dw0 := 0, dw1 := 0, ranges := ranges,
    passed := ranges.isEmpty, buf := [], locs := [], prot := none, waitAdm := false, waitFor := [], lba := 0, aborts := none,
    vendor := none }

/-- The status a command meets at its fetch (R388). -/
def State.fetchStatus (s : State) (sqid : Nat) (e : Sqe) : Option Status :=
  if sqid = 0 then (if s.adminOk e then none else some Status.badOpcode) else s.ioCheck e

section
variable {s : State} {sqid : Nat} {e : Sqe} {q : Sq} (hq : s.sq? sqid = some q) (hf : s.mayFetch q = true)
include hq hf

theorem exec_commandFetch_full (hr : s.hasRoom q e = false) : Goes (exec (.commandFetch sqid e) s) fun t =>
    t.cqu.stopped = true ∧ t.cqu.store = s.cqu.store ∧ t.cqu.sqs = s.cqu.sqs := by
  have hexec : exec (.commandFetch sqid e) s = .next { s with cqu := { s.cqu with stopped := true } } := by
    change execCommandFetch sqid e s = _
    simp only [execCommandFetch, hq, hf, hr]
    rfl
  rw [hexec, Goes_next]
  exact ⟨rfl, rfl, rfl⟩

/-- The queues' unit after a fetch, before the outcome of a failed check. -/
theorem exec_commandFetch (hr : s.hasRoom q e = true) : ∃ u : State, ∃ ranges, u.cqu = (s.taken sqid e q ranges).cqu ∧
    exec (.commandFetch sqid e) s = .next ((s.fetchStatus sqid e).elim u fun st => u.finish s.cqu.nextFsn st 0 0) := by
  have hexec : exec (.commandFetch sqid e) s = execCommandFetch sqid e s := rfl
  simp -zeta only [hexec, execCommandFetch, hq, hf, hr]
  rw [if_neg (by simp), if_neg (by simp)]
  extract_lets fsn bad cqu s00 s0 s1 s2
  have h0 : s0.cqu = s00.cqu := by
    simp only [s0]
    split
    · rw [State.bump_cqu]
    · rfl
  have h2 : s2.cqu = s1.cqu := by
    simp only [s2]
    rw [State.ltr_cqu]
    split
    · rfl
    · rw [State.wakeForIo_cqu]
  refine ⟨s2, if bad.isNone ∧ sqid ≠ 0 then s.rangesOf e else [], ?_, ?_⟩
  · rw [h2]
    change (State.enter _ _ _ _).cqu = _
    unfold State.taken State.enter State.setSq
    rw [h0]
  · have hbad : bad = s.fetchStatus sqid e := rfl
    rw [← hbad]
    cases bad <;> rfl

theorem exec_commandFetch_enters (hr : s.hasRoom q e = true) (hnew : ∀ d ∈ s.cqu.store, d.fsn ≠ s.cqu.nextFsn) :
    Goes (exec (.commandFetch sqid e) s) fun t =>
      t.sq? sqid = some { q with head := (q.head + 1) % q.size } ∧ t.cqu.nextFsn = (s.cqu.nextFsn + 1) % 2 ^ 64 ∧
      t.cqu.store.length = s.cqu.store.length + 1 ∧
      (t.cmd? s.cqu.nextFsn).map (fun c => (c.sqid, c.sqe, c.phase, c.status)) = some (sqid, e,
        match (if sqid = 0 then (if s.adminOk e = true then none else some Status.badOpcode) else s.ioCheck e) with
        | none => (.fetched, none)
        | some st => (.committed, some st)) := by
  have hqid : q.qid = sqid := by simpa using List.find?_some hq
  obtain ⟨u, ranges, hu, hexec⟩ := exec_commandFetch hq hf hr
  have hsq : u.sq? sqid = some { q with head := (q.head + 1) % q.size } := by
    rw [State.sq?, hu]
    exact State.sq?_setSq hq hqid
  have hnext : u.cqu.nextFsn = (s.cqu.nextFsn + 1) % 2 ^ 64 := by rw [hu]; rfl
  have hlen : u.cqu.store.length = s.cqu.store.length + 1 := by rw [hu]; exact List.length_append
  have hnone : s.cqu.store.find? (fun c => c.fsn == s.cqu.nextFsn) = none := by simpa [List.find?_eq_none] using hnew
  have hcmd : ∃ c, u.cmd? s.cqu.nextFsn = some c ∧ c.sqid = sqid ∧ c.sqe = e ∧ c.phase = .fetched ∧ c.status = none := by
    refine ⟨s.entered sqid e ranges, ?_, rfl, rfl, rfl, rfl⟩
    rw [State.cmd?, hu]
    change (s.cqu.store ++ [s.entered sqid e ranges]).find? _ = _
    have hkey : ((s.entered sqid e ranges).fsn == s.cqu.nextFsn) = true := beq_self_eq_true s.cqu.nextFsn
    rw [List.find?_append, hnone, Option.none_or]
    exact List.find?_cons_of_pos (p := fun c : Cmd => c.fsn == s.cqu.nextFsn) hkey
  obtain ⟨c, hc, hsqid, hsqe, hphase, hstatus⟩ := hcmd
  rw [hexec, Goes_next]
  change _ ∧ _ ∧ _ ∧ _ = some (sqid, e, match s.fetchStatus sqid e with | none => _ | some st => _)
  cases s.fetchStatus sqid e with
  | none => exact ⟨hsq, hnext, hlen, by simp [hc, hsqid, hsqe, hphase, hstatus]⟩
  | some st =>
    have hcommitted := State.cmd?_finish hc (by simp [hphase]) st 0 0
    refine ⟨?_, ?_, ?_, ?_⟩
    · rw [State.sq?, Option.elim_some, State.finish_sqs]
      exact hsq
    · rw [Option.elim_some, State.finish_cqu]
      exact hnext
    · rw [Option.elim_some, State.finish_length]
      exact hlen
    · rw [Option.elim_some, hcommitted]
      simp [hsqid, hsqe]

end

/-! ### Abort (R375). -/

/-- A cancelled command that was not decided ends with the status (R376). -/
theorem State.cancel_ends {s : State} {d : Cmd} (hd : s.cmd? d.fsn = some d) (hdec : d.decided = false) (st : Status) :
    EndsWith (s.cancel d st) d.fsn st ∧ ∀ fsn, fsn ≠ d.fsn → (s.cancel d st).cmd? fsn = s.cmd? fsn := by
  have hp : d.phase ≠ .committed := by
    intro hp
    simp [Cmd.decided, hp] at hdec
  rw [State.cancel, if_neg (by simp [hdec])]
  extract_lets cqu stripe s1
  have hscan (n : Nat) : (s1.scanEnd d n).cqu.store = s.cqu.store := by
    unfold State.scanEnd
    split
    · rw [State.bump_cqu]
    · rfl
  have hd' : (s1.scanEnd d (st.sct * 256 + st.sc)).cmd? d.fsn = some d := State.cmd?_congr hd (hscan _)
  refine ⟨State.finish_endsWith hd' hp _ _ _, fun fsn hne => ?_⟩
  rw [State.finish, hd']
  dsimp only
  rw [if_neg hp]
  refine (State.cmd?_setCmd_ne _ (by exact hne.symm)).trans ?_
  rw [State.cmd?, hscan, State.cmd?]

section
variable {s : State} {fsn : Nat} {c : Cmd} (h : s.adm fsn 0x08 = some c)
  (hfew : (s.cqu.store.filter fun d => d.sqid == 0 && d.sqe.opc == 0x08).length ≤ 4)
include h hfew

theorem exec_abortCommand_found {d : Cmd} (hd : (s.cqu.store.find? fun x => x.sqid == c.sqe.cdw10.toNat % 65536 &&
    x.sqe.cid.toNat == c.sqe.cdw10.toNat / 65536) = some d) (hcmd : s.cmd? d.fsn = some d) (hne : d.fsn ≠ fsn)
    (hab : d.unabortable = false) (hdec : d.decided = false) : Goes (exec (.abortCommand fsn) s) fun t =>
      EndsWith t d.fsn .aborted ∧ EndsWith t fsn .ok ∧ (t.cmd? fsn).map (fun x => x.dw0) = some 0 := by
  obtain ⟨hc, -, hp, -⟩ := State.adm_spec h
  obtain rfl := State.fsn_of_cmd? hc
  obtain ⟨hends, hothers⟩ := State.cancel_ends hcmd hdec .aborted
  let s1 := (s.cancel d .aborted).bump Reg.CQU.ARBITER.ABORTED 1
  have hs1 : s1.cqu = (s.cancel d .aborted).cqu := State.bump_cqu _ _ _
  have hc1 : s1.cmd? c.fsn = some c := by
    rw [State.cmd?, hs1]
    exact (hothers _ hne.symm).trans hc
  let x : Cmd := { c with aborts := some d.fsn }
  have hx : (s1.setCmd x).cmd? c.fsn = some x := State.cmd?_setCmd hc1 rfl
  have hd1 : EndsWith (s1.setCmd x) d.fsn .aborted := by
    obtain ⟨y, hy, hphase, hst⟩ := hends
    exact ⟨y, (State.cmd?_setCmd_ne s1 (by exact hne.symm)).trans (State.cmd?_congr hy (by rw [hs1])), hphase, hst⟩
  have hexec : exec (.abortCommand c.fsn) s = .next ((s1.setCmd x).finish c.fsn .ok 0 0) := by
    change execAbortCommand c.fsn s = _
    simp only [execAbortCommand, h, hd, hab, hdec]
    exact if_neg (by omega)
  have hfin := State.cmd?_finish hx (by simp [x, hp]) .ok 0 0
  rw [hexec, Goes_next]
  exact ⟨hd1.finish _ _ _ _, ⟨_, hfin, rfl, rfl⟩, by rw [hfin]; rfl⟩

theorem exec_abortCommand_missing (hd : (s.cqu.store.find? fun x => x.sqid == c.sqe.cdw10.toNat % 65536 &&
    x.sqe.cid.toNat == c.sqe.cdw10.toNat / 65536) = none) : Goes (exec (.abortCommand fsn) s) fun t =>
      EndsWith t fsn .ok ∧ (t.cmd? fsn).map (fun x => x.dw0) = some 1 := by
  obtain ⟨hc, -, hp, -⟩ := State.adm_spec h
  let s1 := s.bump Reg.CQU.ARBITER.NOT_ABORTED 1
  have hc1 : s1.cmd? fsn = some c := State.cmd?_congr hc (by rw [State.bump_cqu])
  have hexec : exec (.abortCommand fsn) s = .next (s1.finish fsn .ok 1 0) := by
    change execAbortCommand fsn s = _
    simp only [execAbortCommand, h, hd]
    exact if_neg (by omega)
  have hfin := State.cmd?_finish hc1 (by simp [hp]) .ok 1 0
  rw [hexec, Goes_next]
  exact ⟨⟨_, hfin, rfl, rfl⟩, by rw [hfin]; rfl⟩

end

/-! ### Asynchronous Event Request (R386), and coalescing (R363). -/

section
variable {s : State} {fsn : Nat} {c : Cmd} (h : s.adm fsn 0x0C = some c)
include h

/-- The request is held, behind those held before it. -/
def State.aerHeld (s : State) (fsn : Nat) (c : Cmd) : State :=
  { s.setCmd { c with phase := .ready } with
    cqu := { (s.setCmd { c with phase := .ready }).cqu with aers := s.cqu.aers ++ [fsn] } }

theorem exec_asynchronousEventRequest_ninth (h8 : 8 ≤ s.cqu.aers.length) :
    Goes (exec (.asynchronousEventRequest fsn) s) fun t => EndsWith t fsn .aerLimit ∧ t.cqu.aers = s.cqu.aers := by
  have hexec : exec (.asynchronousEventRequest fsn) s = .next (s.finish fsn .aerLimit 0 0) := by
    change execAsynchronousEventRequest fsn s = _
    simp only [execAsynchronousEventRequest, h]
    exact if_pos h8
  rw [hexec, Goes_next]
  exact ⟨State.adm_endsWith h rfl _ _ _, by rw [State.finish_cqu]⟩

theorem exec_asynchronousEventRequest (h8 : s.cqu.aers.length < 8) :
    exec (.asynchronousEventRequest fsn) s = .next (s.aerHeld fsn c).deliver := by
  change execAsynchronousEventRequest fsn s = _
  simp only [execAsynchronousEventRequest, h]
  exact if_neg (by omega)

theorem State.cmd?_aerHeld : (s.aerHeld fsn c).cmd? fsn = some { c with phase := .ready } := by
  obtain ⟨hc, -, -, -⟩ := State.adm_spec h
  have hf := State.fsn_of_cmd? hc
  exact State.cmd?_setCmd hc (by exact hf)

theorem exec_asynchronousEventRequest_held (h8 : s.cqu.aers.length < 8) (he : s.cqu.events = []) :
    Goes (exec (.asynchronousEventRequest fsn) s) fun t =>
      t.cqu.aers = s.cqu.aers ++ [fsn] ∧ (t.cmd? fsn).map (fun x => x.phase) = some .ready := by
  have hnone : (s.aerHeld fsn c).deliver = s.aerHeld fsn c := by
    have he' : (s.aerHeld fsn c).cqu.events = [] := he
    unfold State.deliver
    split
    · next hfind =>
      rw [he', List.find?_nil] at hfind
      cases hfind
    · rfl
  rw [exec_asynchronousEventRequest h h8, hnone, Goes_next, State.cmd?_aerHeld h]
  exact ⟨rfl, rfl⟩

theorem exec_asynchronousEventRequest_delivers {y i l : Nat} (ha : s.cqu.aers = []) (hm : s.cqu.masked = [])
    (he : s.cqu.events = [(y, i, l)]) : Goes (exec (.asynchronousEventRequest fsn) s) fun t =>
      EndsWith t fsn .ok ∧ t.cqu.events = [] ∧ (t.cmd? fsn).map (fun x => x.dw0) = some (y + i * 256 + l * 65536) := by
  let u := s.aerHeld fsn c
  let v : State := { u with cqu := { u.cqu with aers := [], masked := (y * 256 + i) :: u.cqu.masked, events := [] } }
  have hdeliver : u.deliver = v.finish fsn .ok (y + i * 256 + l * 65536) 0 := by
    have ha' : u.cqu.aers = [fsn] := by
      change s.cqu.aers ++ [fsn] = _
      rw [ha, List.nil_append]
    have hm' : u.cqu.masked = [] := hm
    have he' : u.cqu.events = [(y, i, l)] := he
    simp [State.deliver, ha', hm', he', v]
  have hv : v.cmd? fsn = some { c with phase := .ready } := State.cmd?_aerHeld h
  have hfin := State.cmd?_finish hv (by simp) .ok (y + i * 256 + l * 65536) 0
  rw [exec_asynchronousEventRequest h (by simp [ha]), hdeliver, Goes_next]
  exact ⟨⟨_, hfin, rfl, rfl⟩, by rw [State.finish_cqu], by rw [hfin]; rfl⟩

end

theorem State.signal_cqu (s : State) (q : Cq) : (s.signal q).cqu = s.cqu :=
  (State.signal_only (qz := [.hpt, .slot 8]) s q (Only.refl _ _) rfl rfl).cqu rfl

theorem State.signal_inta {s : State} {q : Cq} (hi : q.ien = true) (hm : s.hpt.msixEn = false) :
    (s.signal q).hpt.inta = true := by
  have hsend (u : State) (o : Out) : (u.send o).hpt.inta = u.hpt.inta := by
    unfold State.send
    split
    · rfl
    · dsimp only
      split
      · rw [State.put_hpt]
      · rfl
  simp only [State.signal, hi, hm, Bool.not_true, Bool.false_eq_true, if_false]
  split
  · rfl
  · exact hsend _ _

theorem exec_interruptCoalescingTime {s : State} {qid : Nat} {q : Cq} (hq : s.cq? qid = some q) :
    Goes (exec (.interruptCoalescingTime qid) s) fun t => t.cq? qid = some { q with held := 0 } ∧
      (q.held ≠ 0 → q.ien = true → s.hpt.msixEn = false → t.hpt.inta = true) := by
  have hqid : q.qid = qid := by simpa using List.find?_some hq
  have hexec : exec (.interruptCoalescingTime qid) s =
      .next (if q.held = 0 then s else (s.setCq { q with held := 0 }).signal q) := by
    change execInterruptCoalescingTime qid s = _
    simp only [execInterruptCoalescingTime, hq]
  rw [hexec, Goes_next]
  by_cases h0 : q.held = 0
  · rw [if_pos h0]
    refine ⟨?_, fun h => absurd h0 h⟩
    rw [← h0]
    exact hq
  · rw [if_neg h0, State.cq?, State.signal_cqu]
    exact ⟨State.cq?_setCq hq hqid, fun _ hi hm => State.signal_inta hi hm⟩

theorem fetchAndAbort : FetchAndAbort := by
  unfold FetchAndAbort
  exact fun s => ⟨fun sqid e q hq hf => ⟨fun hr => exec_commandFetch_full hq hf hr,
      fun hr hnew => exec_commandFetch_enters hq hf hr hnew⟩,
    fun fsn c h hfew => ⟨fun d hd hcmd hne hab hdec => exec_abortCommand_found h hfew hd hcmd hne hab hdec,
      fun hd => exec_abortCommand_missing h hfew hd⟩,
    fun fsn c h => ⟨exec_asynchronousEventRequest_ninth h, exec_asynchronousEventRequest_held h,
      fun y i l ha hm he => exec_asynchronousEventRequest_delivers h ha hm he⟩,
    fun qid q hq => exec_interruptCoalescingTime hq⟩

/-! ### The device self-tests (R360, R463, R466). -/

theorem State.exitPs_reach (s : State) : Only [.power, .slot 0] s s.exitPs := State.exitPs_only _ (Only.refl _ _) rfl rfl

theorem State.startScrub_cqu (s : State) (m : Mem) (b : Bool) : (s.startScrub m b).cqu = s.cqu :=
  (State.startScrub_only (qz := [.buf]) s m b (Only.refl _ _) rfl).cqu rfl

/-- A pass of both memories runs once they have been asked for. -/
theorem State.startScrub_both (s : State) : ((s.startScrub .sram true).startScrub .dram true).buf.scrubS.isSome = true ∧
    ((s.startScrub .sram true).startScrub .dram true).buf.scrubD.isSome = true := by
  cases hS : s.buf.scrubS <;> cases hD : s.buf.scrubD <;>
    simp [State.startScrub, State.scrub, State.setScrub, hS, hD]

theorem State.testResult_store (s : State) (r : Nat) : (s.testResult r).cqu.store = s.cqu.store := by
  unfold State.testResult
  split <;> rfl

section
variable {s : State} {fsn : Nat} {c : Cmd} (h : s.adm fsn 0x14 = some c)
include h

theorem State.selfTest_busy {code : Nat} {st : Status} (hcode : c.sqe.cdw10.toNat % 16 = code) (hb : s.opBusy = some st)
    (go : State → State) : EndsWith (s.selfTest fsn code go) fsn st ∧ (s.selfTest fsn code go).cqu.test = s.cqu.test := by
  have heq : s.selfTest fsn code go = s.finish fsn st 0 0 := by
    simp only [State.selfTest, h, hb]
    exact if_neg (by simpa using hcode)
  rw [heq, State.finish_cqu]
  exact ⟨State.adm_endsWith h rfl _ _ _, rfl⟩

theorem State.selfTest_running {code : Nat} (hcode : c.sqe.cdw10.toNat % 16 = code) (hb : s.opBusy = none) (h15 : code ≠ 15)
    (ht : s.cqu.test ≠ 0) (go : State → State) :
    EndsWith (s.selfTest fsn code go) fsn .selfTest ∧ (s.selfTest fsn code go).cqu.test = s.cqu.test := by
  have heq : s.selfTest fsn code go = s.finish fsn .selfTest 0 0 := by
    simp only [State.selfTest, h, hb]
    rw [if_neg (by simpa using hcode), if_pos ⟨h15, ht⟩]
  rw [heq, State.finish_cqu]
  exact ⟨State.adm_endsWith h rfl _ _ _, rfl⟩

/-- A test that starts, or an abort of one, leaves the store to its own command. -/
theorem State.selfTest_goes {code : Nat} (hcode : c.sqe.cdw10.toNat % 16 = code) (hb : s.opBusy = none)
    (ht : code = 15 ∨ s.cqu.test = 0) {go : State → State} (hgo : (go s.exitPs).cqu.store = s.exitPs.cqu.store) :
    s.selfTest fsn code go = (go s.exitPs).finish fsn .ok 0 0 ∧ EndsWith (s.selfTest fsn code go) fsn .ok := by
  have heq : s.selfTest fsn code go = (go s.exitPs).finish fsn .ok 0 0 := by
    simp only [State.selfTest, h, hb]
    rw [if_neg (by simpa using hcode), if_neg (by tauto)]
  refine ⟨heq, heq ▸ State.adm_endsWith h ?_ _ _ _⟩
  rw [hgo, s.exitPs_reach.cqu rfl]

theorem exec_shortSelfTest (hcode : c.sqe.cdw10.toNat % 16 = 1) : Goes (exec (.shortSelfTest fsn) s) fun t =>
    (match s.opBusy with
      | some st => EndsWith t fsn st ∧ t.cqu.test = s.cqu.test
      | none => if s.cqu.test ≠ 0 then EndsWith t fsn .selfTest ∧ t.cqu.test = s.cqu.test
        else EndsWith t fsn .ok ∧ t.cqu.test = 1 ∧ t.buf.scrubS.isSome = true ∧ t.buf.scrubD.isSome = true : Prop) := by
  change Goes (.next (s.selfTest fsn 1 _)) _
  rw [Goes_next]
  cases hb : s.opBusy with
  | some st => exact State.selfTest_busy h hcode hb _
  | none =>
    dsimp only
    split
    · next ht => exact State.selfTest_running h hcode hb (by decide) ht _
    · next ht =>
      obtain ⟨heq, hends⟩ := State.selfTest_goes h hcode hb (Or.inr (by omega)) (go := fun s =>
        (({ s with cqu := { s.cqu with test := 1 } } : State).startScrub .sram true).startScrub .dram true)
        (by rw [State.startScrub_cqu, State.startScrub_cqu])
      refine ⟨hends, ?_⟩
      rw [heq, State.finish_cqu, State.finish_buf, State.startScrub_cqu, State.startScrub_cqu]
      exact ⟨rfl, State.startScrub_both _⟩

theorem exec_extendedSelfTest (hcode : c.sqe.cdw10.toNat % 16 = 2) : Goes (exec (.extendedSelfTest fsn) s) fun t =>
    (match s.opBusy with
      | some st => EndsWith t fsn st ∧ t.cqu.test = s.cqu.test
      | none => if s.cqu.test ≠ 0 then EndsWith t fsn .selfTest ∧ t.cqu.test = s.cqu.test
        else EndsWith t fsn .ok ∧ (s.writtenStripes ≠ [] → t.cqu.test = 2 ∧
          t.cqu.runs.length = s.cqu.runs.length + s.writtenStripes.length) : Prop) := by
  change Goes (.next (s.selfTest fsn 2 _)) _
  rw [Goes_next]
  cases hb : s.opBusy with
  | some st => exact State.selfTest_busy h hcode hb _
  | none =>
    dsimp only
    split
    · next ht => exact State.selfTest_running h hcode hb (by decide) ht _
    · next ht =>
      have hwritten : s.exitPs.writtenStripes = s.writtenStripes := by
        unfold State.writtenStripes
        rw [s.exitPs_reach.zmu rfl]
      have hruns : s.exitPs.cqu.runs = s.cqu.runs := by rw [s.exitPs_reach.cqu rfl]
      have hstore : s.exitPs.cqu.store = s.cqu.store := congrArg Cqu.store (s.exitPs_reach.cqu rfl)
      have hgo (go : State → State) := State.selfTest_goes h hcode hb (Or.inr (by omega)) (go := go)
      rw [(hgo _ ?_).1, State.finish_cqu]
      · refine ⟨State.adm_endsWith h ?_ _ _ _, fun hw => ?_⟩
        · split
          · rw [State.testResult_store]
            exact hstore
          · exact hstore
        · dsimp only
          rw [hwritten, if_neg (by simpa using hw)]
          refine ⟨rfl, ?_⟩
          change (s.exitPs.cqu.runs ++ _).length = _
          rw [hruns, List.length_append, List.length_mapIdx]
      · split
        · rw [State.testResult_store]
          rfl
        · rfl

theorem exec_selfTestAbort (hcode : c.sqe.cdw10.toNat % 16 = 15) (hb : s.opBusy = none) (ht : s.cqu.test ≠ 0) :
    Goes (exec (.selfTestAbort fsn) s) fun t =>
      EndsWith t fsn .ok ∧ t.cqu.test = 0 ∧ t.cqu.results.head? = some ⟨s.cqu.test, 1, s.hours⟩ := by
  have hcqu := s.exitPs_reach.cqu rfl
  have hresult : s.exitPs.testResult 1 = { s.exitPs with cqu := { s.exitPs.cqu with
      test := 0, results := (⟨s.exitPs.cqu.test, 1, s.exitPs.hours⟩ :: s.exitPs.cqu.results).take 20,
      runs := s.exitPs.cqu.runs.filter fun r => r.kind != 5 } } := by
    rw [State.testResult, if_neg (by rwa [hcqu])]
  obtain ⟨heq, hends⟩ := State.selfTest_goes h hcode hb (Or.inl rfl) (go := fun s => s.testResult 1) (by rw [hresult])
  change Goes (.next (s.selfTest fsn 15 _)) _
  rw [Goes_next]
  refine ⟨hends, ?_⟩
  rw [heq, State.finish_cqu, hresult]
  refine ⟨rfl, ?_⟩
  change some (StResult.mk s.exitPs.cqu.test 1 s.exitPs.hours) = _
  rw [hcqu, State.hours, State.counter, s.exitPs_reach.crd rfl]
  rfl

end

theorem selfTests : SelfTests := by
  unfold SelfTests
  exact fun s fsn c h => ⟨exec_shortSelfTest h, exec_extendedSelfTest h, exec_selfTestAbort h⟩

/-- Settles O41: a fetch by what it enters (`State.entered`), an Abort by what it cancels (`State.cancel_ends`), the tests by
their shared checks (`State.selfTest_goes`). -/
theorem fetchAbortAndSelfTest : Obligations.FetchAbortAndSelfTest := ⟨fetchAndAbort, selfTests⟩

end Sys2Proof.Machine
end

section
/-!
PROOFS. The Firmware Slot log (O42, R381), and what Get Log Page sends (R382).
-/

namespace Sys2Proof.Machine

/-! ### Structures laid out by `fieldsAt`. -/

theorem zeros_add (m n : Nat) : zeros (m + n) = zeros m ++ zeros n := List.replicate_add m n 0

theorem length_zeros (n : Nat) : (zeros n).length = n := List.length_replicate

/-- One field of `fieldsAt`. -/
def fieldAt (b : Bytes) (n : Nat) (v : Bytes) : Bytes := b.take n ++ v ++ b.drop (n + v.length)

theorem fieldsAt_eq (n : Nat) (fs : List (Nat × Bytes)) : fieldsAt n fs = fs.foldl (fun b f => fieldAt b f.1 f.2) (zeros n) := rfl

/-- A field written into zeros behind what has been laid out. -/
theorem fieldAt_zeros {x v : Bytes} {n m k j : Nat} (hn : n = x.length + k) (hm : m = k + v.length + j) :
    fieldAt (x ++ zeros m) n v = x ++ zeros k ++ v ++ zeros j := by
  subst hn hm
  have hsplit : x ++ zeros (k + v.length + j) = x ++ zeros k ++ (zeros v.length ++ zeros j) := by
    rw [zeros_add, zeros_add, List.append_assoc, List.append_assoc]
  have hlen : x.length + k = (x ++ zeros k).length := by rw [List.length_append, length_zeros]
  rw [fieldAt, hsplit, hlen, List.take_left, ← List.drop_drop, List.drop_left]
  have hdrop := List.drop_left (l₁ := zeros v.length) (l₂ := zeros j)
  rw [length_zeros] at hdrop
  rw [hdrop]

/-! ### The page (R381). -/

/-- The eight digits of slot 1 (R381). -/
def State.slotDigits (s : State) : Bytes :=
  (List.range 4).flatMap fun i => hexByte (s.get Reg.OPL.OPT_SEQ.SEQ / 2 ^ (24 - 8 * i) % 256)

theorem State.slotPage_eq (s : State) : s.slotPage = [2] ++ zeros 7 ++ s.slotDigits ++ padTo 8 s.fr ++ zeros 488 := by
  have hdigits : s.slotDigits.length = 8 := rfl
  have hfr : (padTo 8 s.fr).length = 8 := padTo_length _ _
  have hpage : s.slotPage = fieldAt (fieldAt (fieldAt (zeros 512) 0 [2]) 8 s.slotDigits) 16 (padTo 8 s.fr) := rfl
  have hfirst : fieldAt (zeros 512) 0 [2] = [2] ++ zeros 511 := fieldAt_zeros (x := []) (v := [2]) (k := 0) (j := 511) rfl rfl
  have hsecond : fieldAt ([2] ++ zeros 511) 8 s.slotDigits = [2] ++ zeros 7 ++ s.slotDigits ++ zeros 496 :=
    fieldAt_zeros rfl (by rw [hdigits])
  have hthird : fieldAt ([2] ++ zeros 7 ++ s.slotDigits ++ zeros 496) 16 (padTo 8 s.fr) =
      [2] ++ zeros 7 ++ s.slotDigits ++ zeros 0 ++ padTo 8 s.fr ++ zeros 488 :=
    fieldAt_zeros (by simp [hdigits, length_zeros]) (by rw [hfr])
  rw [hpage, hfirst, hsecond, hthird, show zeros 0 = [] from rfl, List.append_nil]

/-- The digit at a place of a number, most significant first. -/
theorem State.slotDigits_getD (s : State) : ∀ i < 8, (s.slotDigits.getD i 0).toNat =
    (let d := s.get Reg.OPL.OPT_SEQ.SEQ / 16 ^ (7 - i) % 16; if d < 10 then 0x30 + d else 0x41 + (d - 10)) := by
  intro i hi
  have hdigit (n : Nat) : (BitVec.ofNat 8 (if n % 16 < 10 then 0x30 + n % 16 else 0x37 + n % 16)).toNat =
      if n % 16 < 10 then 0x30 + n % 16 else 0x41 + (n % 16 - 10) := by
    rw [BitVec.toNat_ofNat]
    split <;> omega
  have hhigh (v k : Nat) : v / k % 256 / 16 % 16 = v / (k * 16) % 16 := by
    rw [← Nat.div_div_eq_div_mul]
    omega
  have hlow (v k : Nat) : v / k % 256 % 16 = v / k % 16 := by omega
  change ((s.slotDigits)[i]?.getD 0).toNat = _
  interval_cases i <;> exact (hdigit _).trans (by simp only [hhigh, hlow]; rfl)

theorem padTo_of_length {n : Nat} {b : Bytes} (h : b.length = n) : padTo n b = b := by
  rw [padTo, List.take_of_length_le h.le, h, Nat.sub_self]
  exact List.append_nil _

theorem State.slotPage_length (s : State) : s.slotPage.length = 512 := by
  rw [State.slotPage_eq]
  simp [length_zeros, padTo_length, show s.slotDigits.length = 8 from rfl]

/-! ### Get Log Page (R382). -/

theorem State.Unfailed.deliver {s : State} {fsn : Nat} (h : s.Unfailed fsn) : s.deliver.Unfailed fsn := by
  unfold State.deliver
  split
  · refine State.Unfailed.finish ?_ _ _ _
    exact h.congr rfl
  · exact h

theorem State.deliver_hpt (s : State) : s.deliver.hpt = s.hpt := by
  unfold State.deliver
  split
  · rw [State.finish_hpt]
  · rfl

/-- Settles O42: the page is the one of `State.slotPage_eq`, and Get Log Page sends it whole. -/
theorem firmwareSlotLog : Obligations.FirmwareSlotLog := by
  unfold Obligations.FirmwareSlotLog
  intro s fsn c h hlid hnumd hcdw11 hcdw12 hcdw13 hprp hbar hd hl
  obtain ⟨hc, -, hp, -⟩ := State.adm_spec h
  obtain rfl := State.fsn_of_cmd? hc
  let s1 := s.send (.data c.fsn s.slotPage)
  have hsent : s.toHost c s.slotPage = s1 := by
    rw [State.toHost, hbar]
    exact if_neg (by decide)
  have hwhole : padTo 512 (s.slotPage.drop 0) = s.slotPage := padTo_of_length s.slotPage_length
  have hexec : ∃ pages, exec (.getLogPage c.fsn) s = .next ((if c.sqe.cdw10.getLsbD 15 then
      { s1 with cqu := { s1.cqu with pages := pages } } else
      ({ s1 with cqu := { s1.cqu with pages := pages } } : State).clearEvents 3).finish c.fsn .ok 0 0) := by
    refine ⟨assocDel s1.cqu.pages 3, ?_⟩
    change execGetLogPage c.fsn s = _
    have hfresh (csi p : Nat) : s.logPage 3 csi p = some s.slotPage := rfl
    have h11 : c.sqe.cdw11.toNat = 0 := by rw [hcdw11]; rfl
    have h12 : c.sqe.cdw12.toNat = 0 := by rw [hcdw12]; rfl
    have h13 : c.sqe.cdw13.toNat = 0 := by rw [hcdw13]; rfl
    have hvary : fixedPages.contains 3 = false := by decide
    cases hheld : s.cqu.pages.find? fun p => p.1 == 3 <;>
      simp only [execGetLogPage, h, hlid, hnumd, h11, h12, h13, hprp, hvary, hfresh, hheld,
        Nat.zero_mod, Nat.zero_mul, Nat.add_zero, Nat.reduceAdd, Nat.reduceMul, hwhole, hsent,
        Nat.reduceEqDiff, false_and, or_false, Bool.false_eq_true, if_false, true_or, if_true]
  obtain ⟨pages, hexec⟩ := hexec
  let u : State := { s1 with cqu := { s1.cqu with pages := pages } }
  let v : State := if c.sqe.cdw10.getLsbD 15 then u else u.clearEvents 3
  have hu : u.Unfailed c.fsn := ⟨c, State.cmd?_congr hc (by rw [show u.cqu.store = s1.cqu.store from rfl, State.send_cqu]),
    by simp [hp]⟩
  have hv : v.Unfailed c.fsn ∧ v.hpt = s1.hpt := by
    simp only [v]
    split
    · exact ⟨hu, rfl⟩
    · unfold State.clearEvents
      exact ⟨State.Unfailed.deliver (by exact hu.congr rfl), State.deliver_hpt _⟩
  obtain ⟨hlive, hhpt⟩ := hv
  have hdigits : s.slotDigits.length = 8 := rfl
  rw [hexec, Goes_next]
  refine ⟨hlive.endsWith 0 0, s.slotPage, ?_, s.slotPage_length, ?_, fun i hi => ?_, ?_⟩
  · rw [State.finish_hpt, hhpt]
    exact State.send_out _ _ hd hl
  · rw [State.slotPage_eq]
    rfl
  · have hhead : 8 ≤ 8 + i := Nat.le_add_right _ _
    have hskip : 8 + i - ([2] ++ zeros 7).length = i := by simp [length_zeros]
    rw [← State.slotDigits_getD s i hi, State.slotPage_eq, List.append_assoc, List.append_assoc,
      List.getD_append_right _ _ _ _ hhead, hskip, List.getD_append _ _ _ _ (hdigits.symm ▸ hi)]
  · rw [State.slotPage_eq, List.append_assoc, List.drop_left' (by simp [hdigits, length_zeros]),
      List.take_left' (padTo_length _ _)]

end Sys2Proof.Machine
end

section
/-!
PROOFS. The controller registers (O45): CC.EN and the shutdown (R373, R377, R398), and the interrupt masks (R396).
-/

namespace Sys2Proof.Machine

/-! ### What the parts of a reset and a shutdown keep (R373, R377). -/

/-- Releasing pins drops no current block, and nothing of one but its pins. -/
theorem State.unpin_keeps (s : State) (fsn : Nat) {b : CBlock} (hb : b ∈ s.buf.cache) (hc : b.current = true) :
    { b with pins := b.pins.filter (· != fsn) } ∈ (s.unpin fsn).buf.cache :=
  List.mem_filter.2 ⟨List.mem_map.2 ⟨b, hb, rfl⟩, by simp [hc]⟩

/-- A current block of the cache, but for its pins. -/
def State.HoldsBlock (s : State) (b : CBlock) : Prop := ∃ d ∈ s.buf.cache, d.current = true ∧ d.dlba = b.dlba ∧ d.fsn = b.fsn ∧
  d.data = b.data ∧ d.dirty = b.dirty

theorem State.HoldsBlock.congr {s t : State} {b : CBlock} (hs : s.HoldsBlock b) (ht : t.buf = s.buf) : t.HoldsBlock b := by
  unfold State.HoldsBlock
  rwa [ht]

theorem State.HoldsBlock.unpin {s : State} {b : CBlock} (hs : s.HoldsBlock b) (fsn : Nat) : (s.unpin fsn).HoldsBlock b := by
  obtain ⟨d, hd, hcur, heq⟩ := hs
  exact ⟨_, State.unpin_keeps s fsn hd hcur, hcur, heq⟩

theorem State.scanEnd_buf (s : State) (c : Cmd) (n : Nat) : (s.scanEnd c n).buf = s.buf := by
  unfold State.scanEnd
  split
  · rw [State.bump_buf]
  · rfl

theorem State.ltr_reach (s : State) : Only [.hpt, .slot 8] s s.ltr := State.ltr_only _ (Only.refl _ _) rfl rfl

theorem State.send_inta (s : State) (o : Out) : (s.send o).hpt.inta = s.hpt.inta := by
  unfold State.send
  split
  · rfl
  · dsimp only
    split
    · rw [State.put_hpt]
    · rfl

theorem State.ltr_inta (s : State) : s.ltr.hpt.inta = s.hpt.inta := by
  unfold State.ltr
  dsimp only
  split
  · rfl
  · rw [State.send_inta]

theorem State.unwarn_fetchOff (s : State) (b cause : Nat) : (s.unwarn b cause).cqu.fetchOff = s.cqu.fetchOff := by
  unfold State.unwarn
  dsimp only
  split <;> rfl

theorem State.shutdownStep_fetchOff (s : State) : s.shutdownStep.cqu.fetchOff = s.cqu.fetchOff := by
  unfold State.shutdownStep
  split
  · rfl
  · split
    · rw [State.drain_cqu]
    · have hkept : Only [.stripe, .core, .zmu, .chest, .crd, .slot 4] s s.checkpoint.credWrite :=
        State.credWrite_only _ (State.checkpoint_only _ (Only.refl _ _) rfl rfl rfl) rfl rfl rfl
      change (s.checkpoint.credWrite.unwarn 4 0).cqu.fetchOff = _
      rw [State.unwarn_fetchOff, hkept.cqu rfl]

/-- A shutdown in progress is complete once nothing but event requests is in flight and nothing is dirty. -/
theorem State.shutdownStep_shst {s : State} (h1 : s.cqu.nvme.shst = 1) : s.shutdownStep.cqu.nvme.shst =
    if s.cqu.store.all Cmd.isAer = true ∧ (∀ b ∈ s.buf.cache, b.dirty = false) then 2 else 1 := by
  have hflight : (s.cqu.store.any fun c => !c.isAer) = !s.cqu.store.all Cmd.isAer := by simp [List.all_eq_not_any_not]
  unfold State.shutdownStep
  rw [hflight]
  by_cases hall : s.cqu.store.all Cmd.isAer = true
  · rw [if_neg (by simp [h1, hall])]
    by_cases hd : ∀ b ∈ s.buf.cache, b.dirty = false
    · rw [if_neg (by simpa using hd), if_pos ⟨hall, hd⟩]
    · rw [if_pos (by simpa using hd), if_neg (fun hh => hd hh.2), State.drain_cqu, h1]
  · rw [if_pos (by simp [hall]), if_neg (fun hh => hall hh.1), h1]

section
variable {s : State} (h : Reachable s)
include h

/-! ### CC.EN set (R398). -/

theorem Reachable.exec_ccEnSet {cc : Word} (hoff : s.cqu.nvme.cc.getLsbD 0 = false) (hon : cc.getLsbD 0 = true) :
    Goes (exec (.ccEnSet cc) s) fun t =>
      if ccBad cc s.cqu.nvme.aqa = true ∨ s.flag Reg.NST.BOOT_STATUS.HALTED = true then
        t.cqu.nvme.cfs = true ∧ t.cqu.nvme.rdy = s.cqu.nvme.rdy ∧ t.cqu.sqs = s.cqu.sqs ∧ t.cqu.cqs = s.cqu.cqs
      else t.cqu.nvme.rdy = (s.rdyAllowed && !s.cqu.nvme.cfs) ∧
        (t.sq? 0).map (fun q => (q.size, q.head, q.tail)) = some (s.cqu.nvme.aqa.toNat % 4096 + 1, 0, 0) ∧
        (t.cq? 0).map (fun q => (q.size, q.head, q.tail, q.phase)) =
          some (s.cqu.nvme.aqa.toNat / 65536 % 4096 + 1, 0, 0, true) := by
  change Goes (.next (s.memReq false _)) _
  have hedge : ¬(s.cqu.nvme.cc.getLsbD 0 = true ∨ (!cc.getLsbD 0) = true) := by
    rw [hoff, hon]
    decide
  rw [h.memReq_eq, Goes_next, if_neg hedge]
  dsimp only
  split
  · exact ⟨rfl, rfl, rfl, rfl⟩
  · exact ⟨rfl, rfl, rfl⟩

/-! ### CC.EN cleared (R377). -/

theorem Reachable.exec_controllerReset {cc : Word} (hon : s.cqu.nvme.cc.getLsbD 0 = true) (hoff : cc.getLsbD 0 = false) :
    Goes (exec (.controllerReset cc) s) fun t =>
      t.cqu.store = [] ∧ t.cqu.sqs = [] ∧ t.cqu.cqs = [] ∧ t.cqu.aers = [] ∧ t.cqu.nvme.rdy = false ∧ t.cqu.nvme.cfs = false ∧
      t.hpt.inta = false ∧ (∀ b ∈ s.buf.cache, b.current = true → ∃ d ∈ t.buf.cache, d.dlba = b.dlba ∧ d.fsn = b.fsn ∧
        d.data = b.data ∧ d.dirty = b.dirty) := by
  change Goes (.next (s.memReq false _)) _
  have hedge : s.cqu.nvme.cc.getLsbD 0 = true ∧ (!cc.getLsbD 0) = true := by
    rw [hon, hoff]
    decide
  rw [h.memReq_eq, Goes_next, if_pos hedge]
  simp -zeta only [State.ctrlReset]
  extract_lets s1 stripe hpt cqu nvme s2
  have hcqu (b : Bool) : (s2.putB Reg.RCU.PWR.APSTE b).ltr.cqu = s2.cqu := by rw [State.ltr_cqu, State.putB_cqu]
  have hblock (b : CBlock) (hb : s.HoldsBlock b) : s1.HoldsBlock b := by
    refine List.foldlRecOn (motive := fun t : State => t.HoldsBlock b) _ _ hb fun t ht c _ => ?_
    split
    · exact ht.unpin _
    · exact (ht.unpin c.fsn).congr (State.scanEnd_buf _ _ _)
  rw [hcqu]
  refine ⟨rfl, rfl, rfl, rfl, rfl, rfl, ?_, fun b hb hc => ?_⟩
  · rw [State.ltr_inta, State.putB_hpt]
  · rw [(State.ltr_reach _).buf rfl, State.putB_buf]
    obtain ⟨d, hd, -, heq⟩ := hblock b ⟨b, hb, hc, rfl, rfl, rfl, rfl⟩
    exact ⟨d, hd, heq⟩

/-! ### The shutdown (R373), and INTMS and INTMC (R396). -/

theorem Reachable.exec_shutdown {cc : Word} (hn : cc.toNat / 0x4000 % 4 ≠ 0) (h0 : s.cqu.nvme.shst = 0) :
    Goes (exec (.shutdown cc) s) fun t => t.cqu.fetchOff = true ∧
      t.cqu.nvme.shst = (if s.cqu.store.all Cmd.isAer = true ∧ (∀ b ∈ s.buf.cache, b.dirty = false) then 2 else 1) := by
  change Goes (.next (s.memReq false _)) _
  have hasked : ¬(cc.toNat / 0x4000 % 4 = 0 ∨ s.cqu.nvme.shst ≠ 0) := by omega
  rw [h.memReq_eq, Goes_next, if_neg hasked]
  exact ⟨State.shutdownStep_fetchOff _, State.shutdownStep_shst rfl⟩

theorem Reachable.exec_intms {v : Word} (hv : v.getLsbD 0 = true) : Goes (exec (.intms v) s) fun t =>
    t.cqu.nvme.intm = true ∧ (s.hpt.inta = true → s.hpt.msixEn = false → s.cqu.nvme.intm = false →
      s.get Reg.HPT.LINK.PM_LINK ≠ 4 → t.hpt.out = s.hpt.out ++ [.inta false]) := by
  change Goes (.next (s.memReq false _)) _
  rw [h.memReq_eq, Goes_next, if_pos hv]
  dsimp only
  split
  · refine ⟨by rw [State.send_cqu], fun _ _ _ hl => ?_⟩
    exact State.send_out _ _ h.2 hl
  · next hno => exact ⟨rfl, fun hi hm hun _ => absurd ⟨hi, by simp [hm], by simp [hun]⟩ hno⟩

theorem Reachable.exec_intmc {v : Word} (hv : v.getLsbD 0 = true) : Goes (exec (.intmc v) s) fun t =>
    t.cqu.nvme.intm = false ∧ (s.hpt.inta = true → s.hpt.msixEn = false → s.cqu.nvme.intm = true →
      s.get Reg.HPT.LINK.PM_LINK ≠ 4 → t.hpt.out = s.hpt.out ++ [.inta true]) := by
  change Goes (.next (s.memReq false _)) _
  rw [h.memReq_eq, Goes_next, if_pos hv]
  dsimp only
  split
  · refine ⟨by rw [State.send_cqu], fun _ _ _ hl => ?_⟩
    exact State.send_out _ _ h.2 hl
  · next hno => exact ⟨rfl, fun hi hm hun _ => absurd ⟨hi, by simp [hm], hun⟩ hno⟩

theorem Reachable.exec_intm_bit {v : Word} (hv : v.getLsbD 0 = false) :
    exec (.intms v) s = .next s ∧ exec (.intmc v) s = .next s := by
  constructor <;>
  · change Host.Outcome.next (s.memReq false _) = _
    rw [h.memReq_eq, if_neg (by rw [hv]; decide)]

end

/-- Settles O45: each register's write by its branches; a reset keeps every current block (`State.HoldsBlock`). -/
theorem controllerRegisters : Obligations.ControllerRegisters := by
  unfold Obligations.ControllerRegisters
  exact fun s h => ⟨fun cc hoff hon => h.exec_ccEnSet hoff hon, fun cc hon hoff => h.exec_controllerReset hon hoff,
    fun cc hn h0 => h.exec_shutdown hn h0, fun v hv => ⟨h.exec_intms hv, h.exec_intmc hv⟩, fun v hv => h.exec_intm_bit hv⟩

end Sys2Proof.Machine
end

section
/-!
PROOFS. The window's contents across resets (O43, R415): empty after a device reset, kept by the resets of the host port.
-/

namespace Sys2Proof.Machine

/-! ### What the window depends on (R414). -/

/-- The staging lines and the DRAM are as they were. -/
def SameWindow (s t : State) : Prop := t.buf.lines = s.buf.lines ∧ t.buf.dram = s.buf.dram

theorem SameWindow.of_buf {s t : State} (h : t.buf = s.buf) : SameWindow s t := by rw [SameWindow, h]; exact ⟨rfl, rfl⟩

theorem SameWindow.trans {s t u : State} (h : SameWindow s t) (k : SameWindow t u) : SameWindow s u :=
  ⟨k.1.trans h.1, k.2.trans h.2⟩

theorem SameWindow.winGet {s t : State} (h : SameWindow s t) (off : Nat) : t.winGet off = s.winGet off := by
  obtain ⟨hlines, hdram⟩ := h
  simp only [State.winGet, State.byte, State.cells, hlines, hdram]

/-- Nothing is staged and the DRAM holds nothing. -/
def State.BlankWindow (s : State) : Prop := s.buf.lines = [] ∧ s.buf.dram = []

theorem State.BlankWindow.winGet {s : State} (h : s.BlankWindow) (off : Nat) : s.winGet off = 0 := by
  obtain ⟨hlines, hdram⟩ := h
  rw [State.winGet, hlines, List.find?_nil]
  change Sparse.get cellDefault s.buf.dram _ = 0
  rw [hdram]
  rfl

theorem State.BlankWindow.congr {s t : State} (h : s.BlankWindow) (hb : t.buf = s.buf) : t.BlankWindow := by
  unfold State.BlankWindow
  rwa [hb]

/-! ### Device resets (R35, R37, R274, R442). -/

theorem State.startOver_buf (s : State) (r : RstPhase) (cause : Nat) : (s.startOver r cause).buf = s.buf := by
  unfold State.startOver
  dsimp only
  rw [State.putB_buf, State.put_buf]

theorem State.coldDie_blank (s : State) (r : RstPhase) (cause : Nat) : (s.coldDie r cause).BlankWindow := by
  simp -zeta only [State.coldDie]
  extract_lets s1 s2
  have hreset : ((s1.dieReset false).savePathReset).partnersReset.BlankWindow := ⟨rfl, rfl⟩
  refine hreset.congr ?_
  rw [State.put_buf, State.put_buf, State.put_buf, State.startOver_buf]

theorem State.driveReset_blank {s : State} (hr : s.start.rst = .running) (cause : Nat) : (s.driveReset cause).BlankWindow := by
  simp -zeta only [State.driveReset]
  rw [if_neg (by simp [hr])]
  extract_lets warm s1 dramOk s2 s3
  have hreset : (s1.keepStatus.dieReset (warm && dramOk)).partnersReset.BlankWindow := ⟨rfl, rfl⟩
  refine State.BlankWindow.congr (s := s3) (hreset.congr ?_) rfl
  rw [State.put_buf, State.putB_buf, State.putB_buf, State.startOver_buf]

theorem State.nightstandLost_blank {s : State} (h : s.BlankWindow) : s.nightstandLost.BlankWindow := h

theorem exec_powerOn_blank (rail : Rail) (s : State) : Goes (exec (.powerOn rail) s) fun t => ∀ off, t.winGet off = 0 := by
  change Goes (execPowerOn rail s) _
  simp -zeta only [execPowerOn]
  extract_lets nst s1 s2
  have h1 : s1.BlankWindow := State.coldDie_blank _ _ _
  have h2 : s2.BlankWindow := by
    simp only [s2]
    split
    · exact State.nightstandLost_blank h1
    · exact h1
  rw [Goes_next]
  exact State.BlankWindow.winGet (h2.congr rfl)

theorem exec_vddCoreOff_blank {s : State} (h : s.pins.coreOk = true) :
    Goes (exec .vddCoreOff s) fun t => ∀ off, t.winGet off = 0 := by
  change Goes (execVddCoreOff s) _
  rw [execVddCoreOff, if_neg (by simp [h]), Goes_next]
  exact State.BlankWindow.winGet (s := s.coldDie .unpowered 2) (State.coldDie_blank _ _ _)

theorem exec_powerLoss_blank {s : State} (h : s.pins.coreOk = true) :
    Goes (exec .powerLoss s) fun t => ∀ off, t.winGet off = 0 := by
  change Goes (execPowerLoss s) _
  rw [execPowerLoss, if_neg (by simp [h]), if_pos h, Goes_next]
  exact State.BlankWindow.winGet (s := (s.coldDie .unpowered 1).nightstandLost)
    (State.nightstandLost_blank (State.coldDie_blank _ _ _))

/-! ### The host port's resets (R52, R54, R399, R402). -/

theorem State.foldl_sameWindow {α : Type} {f : State → α → State} (hf : ∀ t a, SameWindow t (f t a)) (l : List α) (s : State) :
    SameWindow s (l.foldl f s) :=
  List.foldlRecOn (motive := fun t : State => SameWindow s t) l f ⟨rfl, rfl⟩ fun t ht a _ => ht.trans (hf t a)

theorem State.unpin_sameWindow (s : State) (fsn : Nat) : SameWindow s (s.unpin fsn) := ⟨rfl, rfl⟩

theorem State.ctrlReset_sameWindow (s : State) (cc : Word) : SameWindow s (s.ctrlReset cc) := by
  simp -zeta only [State.ctrlReset]
  extract_lets s1 stripe hpt cqu nvme s2
  have h1 : SameWindow s s1 := State.foldl_sameWindow (fun t c => by
    split
    · exact State.unpin_sameWindow t _
    · exact (State.unpin_sameWindow t _).trans (SameWindow.of_buf (State.scanEnd_buf _ _ _))) _ _
  refine h1.trans (SameWindow.of_buf ?_)
  rw [(State.ltr_reach _).buf rfl, State.putB_buf]

theorem State.ringEnd_buf (s : State) (n : Nat) (d : Desc) (st : Nat) : (s.ringEnd n d st).buf = s.buf :=
  (State.ringEnd_only (qz := [.dma, .slot 13]) s n d st (Only.refl _ _) rfl rfl).buf rfl

theorem State.pcieDescsEnd_sameWindow (s : State) : SameWindow s s.pcieDescsEnd := by
  unfold State.pcieDescsEnd
  refine State.foldl_sameWindow (fun t n => SameWindow.of_buf ?_) _ _
  split
  · split
    · exact State.ringEnd_buf _ _ _ _
    · rfl
  · rfl

theorem State.hostDrop_sameWindow (s : State) : SameWindow s s.hostDrop := by
  refine ((s.ctrlReset_sameWindow 0).trans (State.pcieDescsEnd_sameWindow _)).trans (SameWindow.of_buf ?_)
  unfold State.hostDrop
  simp only [State.put_buf]

theorem State.loadKeys_buf (s : State) (keys : List (Nat × Bytes)) : (s.loadKeys keys).buf = s.buf := by
  unfold State.loadKeys
  simp only [State.putB_buf]

theorem State.releaseHost_buf (s : State) : (s.releaseBlock 8).buf = s.buf := by
  simp -zeta only [State.releaseBlock]
  extract_lets h s1 resets s2
  have h1 : s1.buf = s.buf := by
    simp only [s1]
    rw [State.put_buf]
    rfl
  have h2 : s2.buf = s1.buf := by
    simp only [s2]
    rw [State.put_buf, State.put_buf]
  rw [if_pos trivial]
  split
  · rw [State.loadKeys_buf, h2, h1]
  · rw [h2, h1]

theorem State.assertReset_host (s : State) : SameWindow s (s.assertReset 8) := by
  have hdrop : s.assertReset 8 = (s.setBlock 8 .resetting).hostDrop := rfl
  rw [hdrop]
  exact (s.setBlock 8 .resetting).hostDrop_sameWindow

theorem exec_idleAck_host (s : State) : Goes (exec (.idleAck 8) s) (SameWindow s) := by
  change Goes (execIdleAck 8 s) _
  exact (Goes_ite _ _ _).2 ⟨fun _ => (Goes_next _ _).2 s.assertReset_host, fun _ => (Goes_next _ _).2 ⟨rfl, rfl⟩⟩

theorem exec_idleAckTimeout_host (s : State) : Goes (exec (.idleAckTimeout 8) s) (SameWindow s) := by
  change Goes (execIdleAckTimeout 8 s) _
  have hforced : SameWindow s (s.put (blkBit 0x24 8) 1) := SameWindow.of_buf (State.put_buf _ _ _)
  exact (Goes_ite _ _ _).2 ⟨fun _ => (Goes_next _ _).2 (hforced.trans (State.assertReset_host _)),
    fun _ => (Goes_next _ _).2 ⟨rfl, rfl⟩⟩

theorem exec_blockResetRelease_host (s : State) : Goes (exec (.blockResetRelease 8) s) (SameWindow s) := by
  change Goes (execBlockResetRelease 8 s) _
  refine (Goes_ite _ _ _).2 ⟨fun _ => (Goes_next _ _).2 (SameWindow.of_buf ?_), fun _ => (Goes_next _ _).2 ⟨rfl, rfl⟩⟩
  split
  · exact State.releaseHost_buf s
  · rfl

theorem exec_controllerReset_sameWindow (cc : Word) (s : State) : Goes (exec (.controllerReset cc) s) (SameWindow s) := by
  change Goes (.next (s.memReq false _)) _
  rw [Goes_next, State.memReq]
  split
  · exact ⟨rfl, rfl⟩
  · split
    · exact SameWindow.of_buf (State.unsup_buf s false)
    · split
      · exact s.ctrlReset_sameWindow cc
      · exact ⟨rfl, rfl⟩

theorem Goes_either {c : Prop} [Decidable c] {a b : Host.Outcome State Fault Refusal} {P : State → Prop} (ha : Goes a P)
    (hb : Goes b P) : Goes (if c then a else b) P := (Goes_ite a b P).2 ⟨fun _ => ha, fun _ => hb⟩

theorem Goes_on (t : State) : Goes (.next t) fun _ => True := (Goes_next t _).2 trivial

/-- Where a command goes on, and its reach leaves the Buffer out, the window is as it was. -/
theorem Goes.sameWindow {c : Instr} {s : State} (hg : Goes (exec c s) fun _ => True) (hr : Part.of c.reach .buf = false) :
    Goes (exec c s) (SameWindow s) := by
  obtain ⟨t, ht, -⟩ := hg
  exact ⟨t, ht, SameWindow.of_buf ((exec_reach c s t ht).buf hr)⟩

theorem execHotReset_on (s : State) : Goes (execHotReset s) fun _ => True := Goes_either (Goes_on _) (Goes_on _)

theorem execPcieLinkDown_on (s : State) : Goes (execPcieLinkDown s) fun _ => True := Goes_either (Goes_on _) (Goes_on _)

theorem execFunctionLevelReset_on (s : State) : Goes (execFunctionLevelReset s) fun _ => True :=
  Goes_either (Goes_on _) (Goes_on _)

theorem execPerstNAssert_on (s : State) : Goes (execPerstNAssert s) fun _ => True :=
  Goes_either (Goes_on _) (Goes_either (Goes_on _) (Goes_on _))

theorem execD3hotEntry_on (s : State) : Goes (execD3hotEntry s) fun _ => True := Goes_either (Goes_on _) (Goes_on _)

theorem execD3hotExit_on (s : State) : Goes (execD3hotExit s) fun _ => True := Goes_either (Goes_on _) (Goes_on _)

/-- Settles O43: a device reset blanks what the window depends on (`State.BlankWindow`), the others keep it
(`SameWindow`). -/
theorem windowContents : Obligations.WindowContents := by
  unfold Obligations.WindowContents
  refine fun s => ⟨fun rail => exec_powerOn_blank rail s, fun h => ⟨exec_vddCoreOff_blank h, exec_powerLoss_blank h⟩,
    fun hr hc => ?_, fun hr hw => ?_, fun c hc => ?_, fun cc => (exec_controllerReset_sameWindow cc s).imp fun t ht => ht.winGet⟩
  · change Goes (execSysrstRecognised s) _
    rw [execSysrstRecognised, if_pos hc, Goes_next]
    exact (State.driveReset_blank hr 3).winGet
  · change Goes (execWatchdogExpire s) _
    rw [execWatchdogExpire, if_pos hw, Goes_next]
    exact (State.driveReset_blank hr 4).winGet
  · refine Goes.imp (P := SameWindow s) ?_ fun t ht => ht.winGet
    simp only [List.mem_cons, List.not_mem_nil, or_false] at hc
    rcases hc with rfl | rfl | rfl | rfl | rfl | rfl | rfl | rfl | rfl | rfl
    · exact Goes.sameWindow (execHotReset_on s) rfl
    · exact Goes.sameWindow (execPcieLinkDown_on s) rfl
    · exact Goes.sameWindow (execFunctionLevelReset_on s) rfl
    · exact Goes.sameWindow (execPerstNAssert_on s) rfl
    · exact Goes.sameWindow (c := .perstNRelease) (Goes_on _) rfl
    · exact exec_idleAck_host s
    · exact exec_idleAckTimeout_host s
    · exact exec_blockResetRelease_host s
    · exact Goes.sameWindow (execD3hotEntry_on s) rfl
    · exact Goes.sameWindow (execD3hotExit_on s) rfl

end Sys2Proof.Machine
end

section
/-!
PROOFS. Power states of function and link, Loopback as Follower, and the errors of the link (O46: R399 to R402, R408, R411).
-/

namespace Sys2Proof.Machine

/-! ### Requests that log an error leave the queues alone. -/

theorem State.aerUncor_cqu (s : State) (bit : Nat) : (s.aerUncor bit).cqu = s.cqu :=
  (State.aerUncor_only (qz := [.hpt, .freeCount]) s bit (Only.refl _ _) rfl rfl).cqu rfl

theorem State.cplLogged_cqu (s : State) (k : CplErr) : (s.cplLogged k).cqu = s.cqu := by
  cases k with
  | poisoned | timeout => exact State.aerUncor_cqu _ _
  | unsupported | abort => exact State.bump_cqu _ _ _

theorem State.fatal_cfs {s : State} (h : s.cqu.nvme.cc.getLsbD 0 = true) : s.fatal.cqu.nvme.cfs = true := by
  rw [State.fatal, if_pos h]

/-! ### The link taken down (R402, R411). -/

theorem State.hostLinkDrop_start (s : State) (train : Bool) : (s.hostLinkDrop train).start = s.start := by
  unfold State.hostLinkDrop
  simp only [State.put_start]

theorem State.hostLinkDrop_hpt (s : State) (train : Bool) : (s.hostLinkDrop train).hpt = { s.hpt with training := train } := by
  unfold State.hostLinkDrop
  simp only [State.put_hpt]

theorem State.hostLinkDrop_down (s : State) (train : Bool) : (s.hostLinkDrop train).get Reg.HPT.LINK.SPEED = 0 ∧
    (s.hostLinkDrop train).get Reg.HPT.LINK.WIDTH = 0 := by
  unfold State.hostLinkDrop
  refine ⟨?_, ?_⟩
  · rw [State.get_put_apart _ _ _ _ (by decide), State.get_put_apart _ _ _ _ (by decide)]
    exact State.get_put_self _ _ _ (by decide)
  · rw [State.get_put_apart _ _ _ _ (by decide)]
    exact State.get_put_self _ _ _ (by decide)

/-- The link's fall leaves every register but LINK's. -/
theorem State.get_hostLinkDrop (s : State) (train : Bool) {f : Fld} (hf : f.key ≠ Reg.HPT.LINK.SPEED.key) :
    (s.hostLinkDrop train).get f = s.get f := by
  have hap (g : Fld) (hg : g.key = Reg.HPT.LINK.SPEED.key) : g.apart f = true := by
    simp [Fld.apart, hg, Ne.symm hf]
  exact ((State.get_put_apart _ Reg.HPT.LINK.PM_LINK f _ (hap _ rfl)).trans
    (State.get_put_apart _ Reg.HPT.LINK.WIDTH f _ (hap _ rfl))).trans (State.get_put_apart _ Reg.HPT.LINK.SPEED f _ (hap _ rfl))

/-- A block that runs is asked for idle (R52). -/
theorem State.requestReset_host {s : State} (hr : s.start.rst = .running) (hb : s.block 8 = .running) :
    (s.requestReset 8).block 8 = .idleReq ∧ (s.requestReset 8).regs = s.regs ∧ (s.requestReset 8).hpt = s.hpt := by
  have hlt : 8 < s.start.blocks.length := by
    by_contra hge
    rw [State.block, List.getD_eq_getElem?_getD, List.getElem?_eq_none (by omega)] at hb
    cases hb
  rw [State.requestReset, if_pos ⟨by decide, hr, hb⟩]
  exact ⟨setAt_getD_self hlt _ _, rfl, rfl⟩

section
variable {s : State} (hup : s.portUp = true)
include hup

theorem State.portUp_spec : s.get Reg.HPT.LINK.SPEED ≠ 0 ∧ s.block 8 = .running ∧ s.start.rst = .running := by
  simpa [State.portUp, and_assoc] using hup

theorem exec_loopbackFollower : Goes (exec .loopbackFollower s) fun t => t.hpt.follower = true ∧
    t.get Reg.HPT.LINK.SPEED = 0 ∧ t.get Reg.HPT.LINK.WIDTH = 0 ∧ t.block 8 = .idleReq ∧
    t.get Reg.HPT.RESETS.DOWN = min (s.get Reg.HPT.RESETS.DOWN + 1) (2 ^ Reg.HPT.RESETS.DOWN.width - 1) := by
  obtain ⟨hspeed, hblock, hrst⟩ := State.portUp_spec hup
  let s1 : State := { s with hpt := { s.hpt with follower := true } }
  let u := (((s1.bump Reg.HPT.RESETS.DOWN 1).count 0x1C 3 1).hostLinkDrop true)
  have hexec : exec .loopbackFollower s = .next (u.requestReset 8) := by
    change execLoopbackFollower s = _
    rw [execLoopbackFollower, if_neg (by simp [hspeed, hblock, hrst]), if_neg hspeed]
  have hstart : u.start = s.start := by
    rw [State.hostLinkDrop_start, State.count_start, State.bump_start]
  have hfollower : u.hpt.follower = true := by
    rw [State.hostLinkDrop_hpt, State.count_hpt, State.bump_hpt]
  have hrunning : u.block 8 = .running := by
    rw [State.block, hstart]
    exact hblock
  obtain ⟨hidle, hregs, hhpt⟩ := State.requestReset_host (s := u) (by rw [hstart, hrst]) hrunning
  obtain ⟨hsp, hw⟩ := State.hostLinkDrop_down ((s1.bump Reg.HPT.RESETS.DOWN 1).count 0x1C 3 1) true
  rw [hexec, Goes_next]
  refine ⟨by rw [hhpt, hfollower], by rw [State.get_congr hregs]; exact hsp, by rw [State.get_congr hregs]; exact hw, hidle, ?_⟩
  rw [State.get_congr hregs, State.get_hostLinkDrop _ _ (by decide), State.get_count _ _ _ _ (by decide)]
  exact State.get_bump_self _ _ _ (by decide)

/-! ### Power states (R399 to R401). -/

theorem exec_pmeTurnOff (hp : s.get Reg.HPT.LINK.PM_LINK ≠ 4) : Goes (exec .pmeTurnOff s) fun t =>
    t.hpt.out = s.hpt.out ++ [.pmeToAck] ∧ t.get Reg.HPT.LINK.PM_LINK = 4 ∧ t.buf = s.buf ∧ t.stripe = s.stripe := by
  change Goes (execPmeTurnOff s) _
  rw [execPmeTurnOff, if_pos ⟨hup, hp⟩, Goes_next, State.put_hpt, State.put_buf, State.put_stripe]
  exact ⟨rfl, State.get_put_self _ _ _ (by decide), rfl, rfl⟩

theorem exec_d3hotEntry (hp : s.get Reg.HPT.LINK.PM_LINK ≠ 4) (hd : s.get Reg.HPT.LINK.DSTATE = 0) :
    Goes (exec .d3hotEntry s) fun t => t.get Reg.HPT.LINK.DSTATE = 3 ∧ t.get Reg.HPT.LINK.PM_LINK = 1 ∧ t.cqu = s.cqu ∧
      t.hpt = s.hpt ∧ t.power = s.power := by
  change Goes (execD3hotEntry s) _
  rw [execD3hotEntry, if_pos ⟨hup, hd, hp⟩, Goes_next,
    State.get_put_apart _ Reg.HPT.LINK.PM_LINK Reg.HPT.LINK.DSTATE _ (by decide)]
  simp only [State.put_cqu, State.put_hpt, State.put_power, and_true]
  exact ⟨State.get_put_self _ _ _ (by decide), State.get_put_self _ _ _ (by decide)⟩

theorem exec_d3hotExit (hp : s.get Reg.HPT.LINK.PM_LINK ≠ 4) (hd : s.get Reg.HPT.LINK.DSTATE = 3) :
    Goes (exec .d3hotExit s) fun t => t.get Reg.HPT.LINK.DSTATE = 0 ∧ t.get Reg.HPT.LINK.PM_LINK = 0 ∧
      t.hpt.out = s.hpt.out ++ s.hpt.sendq ∧ t.hpt.sendq = [] ∧ t.cqu = s.cqu := by
  let u := (s.put Reg.HPT.LINK.DSTATE 0).put Reg.HPT.LINK.PM_LINK 0
  have hhpt : u.hpt = s.hpt := by rw [State.put_hpt, State.put_hpt]
  have hcqu : u.cqu = s.cqu := by rw [State.put_cqu, State.put_cqu]
  change Goes (execD3hotExit s) _
  rw [execD3hotExit, if_pos ⟨hup, hd, hp⟩, Goes_next]
  refine ⟨?_, State.get_put_self _ _ _ (by decide), ?_, rfl, hcqu⟩
  · exact (State.get_put_apart _ _ _ _ (by decide)).trans (State.get_put_self _ _ _ (by decide))
  · rw [← hhpt]
    rfl

theorem exec_aspmL1Entry (ha : s.hpt.aspm = true) (hd : s.get Reg.HPT.LINK.DSTATE = 0) (hp : s.get Reg.HPT.LINK.PM_LINK = 0) :
    Goes (exec .aspmL1Entry s) fun t => t = s.put Reg.HPT.LINK.PM_LINK 1 := by
  change Goes (execAspmL1Entry s) _
  rw [execAspmL1Entry, if_pos ⟨hup, ha, hd, hp⟩, Goes_next]

theorem exec_aspmL1Exit (hd : s.get Reg.HPT.LINK.DSTATE = 0) (hp : s.get Reg.HPT.LINK.PM_LINK ∈ [1, 2, 3]) :
    Goes (exec .aspmL1Exit s) fun t => t = s.put Reg.HPT.LINK.PM_LINK 0 := by
  change Goes (execAspmL1Exit s) _
  rw [execAspmL1Exit, if_pos ⟨hup, hd, hp⟩, Goes_next]

/-! ### Errors (R408). -/

theorem exec_pcieError (e : PcieErr) : exec (.pcieError e) s = .next (s.pcieErr e) := by
  change execPcieError e s = _
  rw [execPcieError, if_pos (Or.inl hup)]

end

/-- Settles O46: each command by its one branch with the port up; the outcomes by `State.finish_endsWith`. -/
theorem linkPowerAndErrors : Obligations.LinkPowerAndErrors := by
  unfold Obligations.LinkPowerAndErrors
  refine fun s hup => ⟨fun hp => ⟨exec_pmeTurnOff hup hp, exec_d3hotEntry hup hp, exec_d3hotExit hup hp⟩,
    fun hd => ⟨fun ha hp => exec_aspmL1Entry hup ha hd hp, exec_aspmL1Exit hup hd⟩, exec_loopbackFollower hup,
    fun e he => ?_, fun e he => ?_, fun fsn c hc hp => ⟨?_, fun k => ?_⟩, fun hen k => ?_⟩
  all_goals rw [exec_pcieError hup, Goes_next]
  · have hcount : (s.bump Reg.HPT.ERRORS.RX_ERR 1).get Reg.HPT.ERRORS.RX_ERR =
        min (s.get Reg.HPT.ERRORS.RX_ERR + 1) (2 ^ Reg.HPT.ERRORS.RX_ERR.width - 1) := State.get_bump_self _ _ _ (by decide)
    have hcqu : (s.bump Reg.HPT.ERRORS.RX_ERR 1).cqu = s.cqu := State.bump_cqu _ _ _
    simp only [List.mem_cons, List.not_mem_nil, or_false] at he
    rcases he with rfl | rfl | rfl <;> exact ⟨hcount, hcqu⟩
  · have hcount : (s.bump Reg.HPT.ERRORS.REPLAYS 1).get Reg.HPT.ERRORS.REPLAYS =
        min (s.get Reg.HPT.ERRORS.REPLAYS + 1) (2 ^ Reg.HPT.ERRORS.REPLAYS.width - 1) := State.get_bump_self _ _ _ (by decide)
    have hcqu : (s.bump Reg.HPT.ERRORS.REPLAYS 1).cqu = s.cqu := State.bump_cqu _ _ _
    simp only [List.mem_cons, List.not_mem_nil, or_false] at he
    rcases he with rfl | rfl <;> exact ⟨hcount, hcqu⟩
  · exact State.finish_endsWith (State.cmd?_congr hc (by rw [State.aerUncor_cqu])) hp _ _ _
  · exact State.finish_endsWith (State.cmd?_congr hc (by rw [State.cplLogged_cqu])) hp _ _ _
  · exact State.fatal_cfs (by rwa [State.cplLogged_cqu])

end Sys2Proof.Machine
end

section
/-!
PROOFS. Readers (R361, R365, R367) and the media scheduler (R378): O50.
-/

namespace Sys2Proof.Machine

/-! ### Events reach the requests that are held, and no other command (R386). -/

theorem State.cmd?_finish_ne (s : State) {f fsn : Nat} (hf : f ≠ fsn) (st : Status) (dw0 dw1 : Nat) :
    (s.finish f st dw0 dw1).cmd? fsn = s.cmd? fsn := by
  unfold State.finish
  split
  · rfl
  · next d hd =>
    split
    · rfl
    · exact State.cmd?_setCmd_ne s (by rw [show _ = f from State.fsn_of_cmd? hd]; exact hf)

/-- A command that is no held event request stands in the store as it stood. -/
def Undisturbed (fsn : Nat) (s t : State) : Prop := t.cmd? fsn = s.cmd? fsn ∧ fsn ∉ t.cqu.aers

namespace Undisturbed
variable {fsn : Nat} {s t : State}

theorem refl (h : fsn ∉ s.cqu.aers) : Undisturbed fsn s s := ⟨rfl, h⟩

theorem congr (h : Undisturbed fsn s t) {u : State} (hs : u.cqu.store = t.cqu.store) (ha : u.cqu.aers = t.cqu.aers) :
    Undisturbed fsn s u := by
  obtain ⟨hcmd, haers⟩ := h
  refine ⟨?_, by rwa [ha]⟩
  rw [← hcmd, State.cmd?, hs, State.cmd?]

theorem of_cqu (h : Undisturbed fsn s t) {u : State} (hu : u.cqu = t.cqu) : Undisturbed fsn s u :=
  h.congr (by rw [hu]) (by rw [hu])

theorem asyncEvent (h : Undisturbed fsn s t) (typ info lid : Nat) : Undisturbed fsn s (t.asyncEvent typ info lid) := by
  obtain ⟨hcmd, haers⟩ := h
  unfold State.asyncEvent
  dsimp only
  split
  · exact ⟨hcmd, haers⟩
  · split
    · exact ⟨hcmd, haers⟩
    · next f l hfl =>
      rw [hfl, List.mem_cons, not_or] at haers
      refine ⟨(State.cmd?_finish_ne _ (Ne.symm haers.1) _ _ _).trans hcmd, ?_⟩
      rw [State.finish_cqu]
      exact haers.2

theorem warn (h : Undisturbed fsn s t) (b cause : Nat) : Undisturbed fsn s (t.warn b cause) := by
  unfold State.warn
  dsimp only
  split
  · exact h.congr rfl rfl
  · split
    · refine asyncEvent ?_ _ _ _
      exact h.congr rfl rfl
    · exact h.congr rfl rfl

theorem unwarn (h : Undisturbed fsn s t) (b cause : Nat) : Undisturbed fsn s (t.unwarn b cause) := by
  unfold State.unwarn
  dsimp only
  split <;> exact h.congr rfl rfl

theorem expose (h : Undisturbed fsn s t) : Undisturbed fsn s t.expose := by
  unfold State.expose
  split
  · exact h.warn _ _
  · exact h.unwarn _ _

theorem count (h : Undisturbed fsn s t) (id inst n : Nat) : Undisturbed fsn s (t.count id inst n) := by
  unfold State.count State.saturated
  dsimp only
  split
  · refine asyncEvent ?_ _ _ _
    exact h.congr rfl rfl
  · exact h.congr rfl rfl

theorem hostData (h : Undisturbed fsn s t) (w : Bool) (n : Nat) : Undisturbed fsn s (t.hostData w n) := by
  unfold State.hostData
  split <;>
  · refine count ?_ _ _ _
    exact h.congr rfl rfl

theorem endsWith {c : Cmd} (h : Undisturbed fsn s t) (hc : s.cmd? fsn = some c) (hp : c.phase ≠ .committed) (st : Status)
    (dw0 dw1 : Nat) : EndsWith (t.finish fsn st dw0 dw1) fsn st := State.finish_endsWith (h.1.trans hc) hp st dw0 dw1

end Undisturbed

theorem State.countDec_cqu (s : State) (n : Nat) : (s.countDec n).cqu = s.cqu := by
  unfold State.countDec
  exact State.bump_cqu _ _ _

theorem State.countDec_out (s : State) (n : Nat) : (s.countDec n).hpt.out = s.hpt.out := by
  unfold State.countDec
  dsimp only
  rw [State.bump_hpt]

theorem State.hostData_hpt (s : State) (w : Bool) (n : Nat) : (s.hostData w n).hpt = s.hpt := by
  unfold State.hostData
  split <;> exact State.count_hpt _ _ _ _

theorem State.keepReads_reach (s : State) (c : Cmd) (media : List (Option Bytes)) : Only [.buf] s (s.keepReads c media) :=
  State.keepReads_only _ _ _ (Only.refl _ _) rfl

theorem State.failRead_hpt (s : State) (fsn : Nat) : (s.failRead fsn).hpt = s.hpt := by
  rw [State.failRead, State.finish_hpt, State.count_hpt]

/-! ### Reads and Verifies (R361, R365, R367). -/

section
variable {s : State} {fsn : Nat} {c : Cmd} (hc : s.cmd? fsn = some c) (hq : c.sqid ≠ 0) (haer : fsn ∉ s.cqu.aers)
  (hp : c.phase = .snapped)
include hc haer hp

theorem State.failRead_endsWith : EndsWith (s.failRead fsn) fsn .unrecovered :=
  ((Undisturbed.refl haer).count 9 0 1).endsWith hc (by simp [hp]) _ _ _

include hq

theorem exec_read {z : Bool} {l : Layout} (media : List (Option Bytes)) (ho : c.sqe.opc = 0x02) (hst : c.status = none)
    (hdown : s.readDown c = none) (hdeg : s.degradedLeft c = false) (hns : s.ns c.sqe.nsid.toNat = some z)
    (hl : s.zmu.layout = some l) (hwait : c.waitFor = []) (hbar : inBar s.hpt.bar2 0x10000000 c.sqe.prp1.toNat = false)
    (hd : s.get Reg.HPT.LINK.DSTATE ≠ 3) (hlink : s.get Reg.HPT.LINK.PM_LINK ≠ 4) :
    Goes (exec (.read fsn media .ok) s) fun t =>
      if (s.readBlocks c media).any Option.isNone = true then EndsWith t fsn .unrecovered ∧ t.hpt.out = s.hpt.out
      else EndsWith t fsn .ok ∧ t.hpt.out = s.hpt.out ++ [.data fsn
        ((((s.readBlocks c media).flatMap fun b => b.getD []).drop (sqeSlba c.sqe % l.per z * l.lbaSize z)).take
          (sqeNlb c.sqe * l.lbaSize z))] := by
  have hf := State.fsn_of_cmd? hc
  change Goes (execRead fsn media .ok s) _
  simp -zeta only [execRead, hc, hdown, hdeg, hns, hl, xferStatus]
  rw [if_neg (by simp [Cmd.isIo, hq, hp, ho, hst]), if_neg (by decide)]
  extract_lets bs size all data s1
  refine Goes_cases (fun _ => ?_) fun _ => ?_
  · rw [Goes_next, State.failRead_hpt]
    exact ⟨State.failRead_endsWith hc haer hp, rfl⟩
  · have hsent : s.toHost c data = s.send (.data fsn data) := by
      rw [State.toHost, hbar, if_neg (by decide), hf]
    have h1 : Undisturbed fsn s s1 := by
      refine Undisturbed.hostData ?_ _ _
      exact ((Undisturbed.refl haer).of_cqu (by rw [hsent, State.send_cqu])).of_cqu (State.countDec_cqu _ _)
    have hout : s1.hpt.out = s.hpt.out ++ [.data fsn data] := by
      rw [State.hostData_hpt, State.countDec_out, hsent, State.send_out _ _ hd hlink]
    have hkept := s1.keepReads_reach c media
    have hdone : (s1.keepReads c media).readerDone c = (s1.keepReads c media).finish fsn .ok 0 0 := by
      rw [State.readerDone, hwait, hf]
      rfl
    rw [Goes_next, hdone, State.finish_hpt, hkept.hpt rfl]
    exact ⟨(h1.of_cqu (hkept.cqu rfl)).endsWith hc (by simp [hp]) _ _ _, hout⟩

theorem exec_verify (media : List (Option Bytes)) (ho : c.sqe.opc = 0x0C) (hdown : s.readDown c = none)
    (hdeg : s.degradedLeft c = false) : Goes (exec (.verify fsn media) s) fun t => t.hpt = s.hpt ∧
      EndsWith t fsn (if (s.readBlocks c media).any Option.isNone = true then .unrecovered else .ok) := by
  change Goes (execVerify fsn media s) _
  simp only [execVerify, hc, hdown, hdeg]
  rw [if_neg (by simp [Cmd.isIo, hq, hp, ho]), if_neg (by decide)]
  split
  · rw [Goes_next, State.failRead_hpt]
    exact ⟨rfl, State.failRead_endsWith hc haer hp⟩
  · have hkept := s.keepReads_reach c media
    rw [Goes_next, State.finish_hpt, hkept.hpt rfl]
    exact ⟨rfl, ((Undisturbed.refl haer).of_cqu (hkept.cqu rfl)).endsWith hc (by simp [hp]) _ _ _⟩

end

/-! ### The media scheduler (R378). -/

/-- A run is timed from the first dispatch that sees it. -/
def MRun.stamped (r : MRun) (now : Nat) : MRun := if r.since = 0 then { r with since := now } else r

theorem MRun.stamped_keeps (r : MRun) (now : Nat) : (r.stamped now).id = r.id ∧ (r.stamped now).kind = r.kind ∧
    (r.stamped now).act = r.act ∧ (r.stamped now).run = r.run := by
  unfold MRun.stamped
  split <;> exact ⟨rfl, rfl, rfl, rfl⟩

/-- A read waits in class 3 or 5. -/
theorem MRun.cls_read {r : MRun} (h : r.kind = 2) (now : Nat) : r.cls now = 3 ∨ r.cls now = 5 := by
  unfold MRun.cls
  rw [h]
  simp only [OfNat.ofNat_ne_zero, OfNat.ofNat_ne_one, if_false, if_true]
  split
  · exact Or.inl rfl
  · exact Or.inr rfl

/-- The one run that may start is the one picked. -/
theorem MRun.pick_one {r : MRun} {now : Nat} (hcls : r.cls now = 3 ∨ r.cls now = 5) (access : List (Nat × Nat)) :
    ((List.range 6).findSome? fun k => MRun.pick access (k + 1) ([r].filter fun x => x.cls now == k + 1)) = some r := by
  rcases hcls with h | h <;> simp [List.range_succ, h, MRun.pick]

theorem exec_mediaDispatch_closed {s : State} {ch : Fin 4} (h : s.channelOpen ch = false) (acc : List (Nat × Nat)) (now : Nat) :
    Goes (exec (.mediaDispatch ch acc now) s) fun t => t.fsqs = s.fsqs ∧
      t.cqu.runs.map (fun r => r.id) = s.cqu.runs.map (fun r => r.id) := by
  change Goes (execMediaDispatch ch acc now s) _
  simp -zeta only [execMediaDispatch]
  extract_lets stamped cqu s0 room
  have hclosed : (!s.channelOpen ch.val) = true ∨ (!room) = true := Or.inl (by rw [h]; rfl)
  rw [if_pos hclosed, Goes_next]
  refine ⟨rfl, ?_⟩
  change (s.cqu.runs.map fun r => r.stamped now).map _ = _
  rw [List.map_map]
  exact List.map_congr_left fun r _ => (r.stamped_keeps now).1

theorem exec_mediaDispatch_open {s : State} {ch : Fin 4} {acc : List (Nat × Nat)} {now : Nat} {r : MRun} {f : Fsq}
    (ho : s.channelOpen ch = true) (hf : s.fsqs[ch.val]? = some f) (h4 : f.fifo.length < 4) (hr : s.cqu.runs = [r])
    (hk : r.kind = 2) (ha : r.act = ch.val / 2) (ht : s.power.trans = none) (hacc : assocHas acc r.id = true)
    (hrr : s.rereadHere ch r = true) (hfit : s.rateFits r.act r.run = true) :
    Goes (exec (.mediaDispatch ch acc now) s) fun t => t.cqu.runs = [] ∧
      t.fsqs[ch.val]? = some { f with fifo := f.fifo ++ [r.run] } := by
  obtain ⟨hid, hkind, hact, hrun⟩ := r.stamped_keeps now
  have hcls : (r.stamped now).cls now = 3 ∨ (r.stamped now).cls now = 5 := MRun.cls_read (hkind.trans hk) now
  change Goes (execMediaDispatch ch acc now s) _
  simp -zeta only [execMediaDispatch]
  extract_lets stamped cqu s0 room entering ok
  have hroom : room = true := by
    simp only [room, hf]
    exact decide_eq_true h4
  have hstamped : stamped = [r.stamped now] := by
    simp only [stamped, hr]
    rfl
  have hok : ok = [r.stamped now] := by
    have hentering : entering = false := by simp only [entering, ht]
    have hreread : s.rereadHere ch.val (r.stamped now) = true := by rw [State.rereadHere, hid]; exact hrr
    have hfit' : s.rateFits (ch.val / 2) r.run = true := ha ▸ hfit
    simp only [ok, hstamped, hentering]
    refine List.filter_cons_of_pos ?_
    rw [hreread, hact.trans ha, hid, hacc, hkind.trans hk, hrun, hfit']
    simp
  have hpick := MRun.pick_one hcls acc
  have hopen : ¬((!s.channelOpen ch.val) = true ∨ (!room) = true) := by rw [ho, hroom]; decide
  rw [if_neg hopen, hok, hpick]
  dsimp -zeta only
  extract_lets s1 s2 s3
  have h2 : s2.cqu = s1.cqu ∧ s2.fsqs = s1.fsqs := by
    simp only [s2]
    split
    · exact ⟨State.bump_cqu _ _ _, State.bump_fsqs _ _ _⟩
    · split
      · exact ⟨State.bump_cqu _ _ _, State.bump_fsqs _ _ _⟩
      · exact ⟨rfl, rfl⟩
  obtain ⟨hcqu, hfsqs⟩ := h2
  have hnot5 : (r.stamped now).kind ≠ 5 := by rw [hkind, hk]; decide
  rw [if_neg (fun h => hnot5 h.1), Goes_next, State.pulse_cqu, State.pulse_fsqs, hcqu, hfsqs]
  refine ⟨?_, ?_⟩
  · change stamped.filter _ = []
    rw [hstamped]
    exact List.filter_cons_of_neg (by simp)
  · change (if (r.stamped now).kind = 5 then s0.fsqs else _)[ch.val]? = _
    rw [if_neg hnot5, modifyAt_getElem?, if_pos rfl, hrun]
    exact congrArg _ hf

/-! ### The statement. -/

/-- Settles O50: a reader's outcome meets the command as it stood (`Undisturbed`); the one run that may start is picked. -/
theorem readersAndScheduler : Obligations.ReadersAndScheduler := by
  unfold Obligations.ReadersAndScheduler
  refine fun s fsn c hc hq haer => ⟨fun hp ho hord => ?_,
    fun z l media hp ho hst hdown hdeg hns hl hwait hbar hd hlink =>
      exec_read hc hq haer hp media ho hst hdown hdeg hns hl hwait hbar hd hlink,
    fun media hp ho hdown hdeg => exec_verify hc hq haer hp media ho hdown hdeg,
    fun ch acc now => ⟨fun h => exec_mediaDispatch_closed h acc now,
      fun r f ho hf h4 hr hk ha ht hacc hrr hfit => exec_mediaDispatch_open ho hf h4 hr hk ha ht hacc hrr hfit⟩⟩
  obtain ⟨x, hx, hlocs, hphase, hpassed⟩ := State.snapshot_locs hc
  rw [exec_readerSnapshot hc hq hp ho hord, Goes_next, hx, Option.map_some, hlocs, hphase, hpassed]

end Sys2Proof.Machine
end

section
/-!
PROOFS. Writers (R361, R364, R367 to R372): transfer, admission, commit, zeroed ranges and Flush (O48).
-/

namespace Sys2Proof.Machine

/-! ### A block that a writer has committed is the current one of the cache. -/

/-- The newest data of a drive LBA are a writer's, dirty in the cache. -/
def State.Newest (s : State) (d fsn : Nat) (x : Bytes) (prot : Bool) : Prop :=
  ∃ b, s.cached d = some b ∧ b.fsn = fsn ∧ b.data = x ∧ b.dirty = true ∧ b.prot = prot

section
variable {s t : State} {d fsn : Nat} {x : Bytes} {prot : Bool}

theorem State.Newest.congr (h : s.Newest d fsn x prot) (hb : t.buf = s.buf) : t.Newest d fsn x prot := by
  unfold State.Newest State.cached at *
  rwa [hb]

theorem State.Newest.mem (h : s.Newest d fsn x prot) :
    ∃ b ∈ s.buf.cache, b.dlba = d ∧ b.fsn = fsn ∧ b.data = x ∧ b.current = true ∧ b.dirty = true := by
  obtain ⟨b, hb, hf, hx, hdirty, -⟩ := h
  have hkey : b.dlba = d ∧ b.current = true := by simpa using List.find?_some hb
  exact ⟨b, List.mem_of_find?_eq_some hb, hkey.1, hf, hx, hkey.2, hdirty⟩

theorem State.Newest.durable (h : s.Newest d fsn x true) : s.durable d fsn = true := by
  obtain ⟨b, hb, -, -, -, hprot⟩ := h
  rw [State.durable, show s.buf.cache.find? _ = some b from hb]
  simp [hprot]

/-- A slot's block stays the current one. -/
theorem State.Newest.assignSlot (h : s.Newest d fsn x prot) (n pz i first : Nat) (blocks : List (Nat × Nat)) (cache : Bool) :
    (s.assignSlot n pz i first blocks cache).Newest d fsn x prot := by
  obtain ⟨b, hb, heq⟩ := h
  let slotted (a : CBlock) : CBlock :=
    if a.current ∧ a.dirty ∧ (blocks.map Prod.snd).contains a.dlba then { a with slot := some n } else a
  have hkey : (fun a : CBlock => a.dlba == d && a.current) ∘ slotted = fun a => a.dlba == d && a.current := by
    funext a
    simp only [Function.comp_apply, slotted]
    split <;> rfl
  refine ⟨slotted b, ?_, ?_⟩
  · change (s.buf.cache.map slotted).find? _ = _
    rw [List.find?_map, hkey, show s.buf.cache.find? _ = some b from hb]
    rfl
  · simp only [slotted]
    split <;> exact heq

theorem State.gatherHome_cases (s : State) (lz : Nat) : s.gatherHome lz = s ∨
    ∃ n pz i first blocks, s.gatherHome lz = s.assignSlot n pz i first blocks false := by
  unfold State.gatherHome
  split
  · extract_lets i w ds ok waiting
    split
    · exact Or.inr ⟨_, _, _, _, _, rfl⟩
    · exact Or.inl rfl
  · exact Or.inl rfl

theorem State.Newest.gatherHomes (h : s.Newest d fsn x prot) (l : List (Nat × Bytes)) :
    (s.gatherHomes l).Newest d fsn x prot := by
  refine List.foldlRecOn (motive := fun t : State => t.Newest d fsn x prot) _ _ h fun t ht lz _ => ?_
  obtain heq | ⟨n, pz, i, first, blocks, heq⟩ := t.gatherHome_cases lz
  · rwa [heq]
  · rw [heq]
    exact ht.assignSlot _ _ _ _ _ _

end

theorem State.unlose_buf (s : State) (d : Nat) : (s.unlose d).buf = s.buf := by
  unfold State.unlose
  split <;> rfl

theorem State.unlose_store (s : State) (d : Nat) : (s.unlose d).cqu.store = s.cqu.store := by
  unfold State.unlose
  split <;> rfl

theorem State.evictClean_cache {s : State} {prot : Bool} {b : CBlock} (h : b ∈ (s.evictClean prot).buf.cache) :
    b ∈ s.buf.cache := by
  unfold State.evictClean at h
  split at h
  · exact h
  · split at h
    · exact h
    · exact List.mem_of_mem_filter h

theorem State.commitBlock_newest (s : State) (fsn : Nat) (prot : Bool) (d : Nat) (x : Bytes) :
    (State.commitBlock fsn prot s (d, x)).Newest d fsn x prot := by
  simp -zeta only [State.commitBlock]
  extract_lets c buf s1 s2 buf2 s3
  have hold : ∀ b ∈ s2.buf.cache, ¬ (b.dlba == d && b.current) = true := by
    intro b hb hbd
    have hb1 : b ∈ (s.dropBlocks fun e => decide (e = d)).buf.cache := by
      simpa [State.dropBlocks, s1, buf, c] using State.evictClean_cache hb
    have hbd' : b.dlba = d ∧ b.current = true := by simpa using hbd
    simpa [hbd'.1] using State.dropBlocks_current hb1 hbd'.2
  have hnew : s3.cached d = some ⟨d, fsn, x, prot, true, true, false, [], none⟩ := by
    change (s2.buf.cache ++ [_]).find? _ = _
    rw [List.find?_append, List.find?_eq_none.2 hold]
    simp
  exact State.Newest.congr ⟨_, hnew, rfl, rfl, rfl, rfl⟩ (State.unlose_buf _ _)

theorem State.commitBlock_store (fsn : Nat) (prot : Bool) (s : State) (x : Nat × Bytes) :
    (State.commitBlock fsn prot s x).cqu.store = s.cqu.store := by
  simp -zeta only [State.commitBlock]
  extract_lets c buf s1 s2 buf2 s3
  rw [State.unlose_store]
  have h : Only [.buf] s1 s2 := State.evictClean_only _ _ (Only.refl _ _) rfl
  change s2.cqu.store = _
  rw [h.cqu rfl]

theorem State.commitBlocks_store (s : State) (fsn : Nat) (prot : Bool) (l : List (Nat × Bytes)) :
    (s.commitBlocks fsn prot l).cqu.store = s.cqu.store :=
  List.foldlRecOn (motive := fun t : State => t.cqu.store = s.cqu.store) _ _ rfl fun _ ht _ _ =>
    (State.commitBlock_store _ _ _ _).trans ht

theorem State.commitBlocks_reach (s : State) (fsn : Nat) (prot : Bool) (l : List (Nat × Bytes)) :
    Only [.stripe, .buf, .cqu, .bur] s (s.commitBlocks fsn prot l) :=
  State.commitBlocks_only _ _ _ _ (Only.refl _ _) rfl rfl rfl rfl

theorem State.gatherHomes_reach (s : State) (l : List (Nat × Bytes)) : Only [.stripe, .buf] s (s.gatherHomes l) :=
  List.foldlRecOn (motive := fun t : State => Only [.stripe, .buf] s t) _ _ (Only.refl _ _) fun _ ht _ _ =>
    State.gatherHome_only _ _ ht rfl rfl

theorem State.expose_reach (s : State) : Only [.cqu, .slot 9] s s.expose := State.expose_only _ (Only.refl _ _) rfl rfl

/-! ### The commit of a writer whose blocks have their places (R367). -/

/-- A writer's blocks made current, its zone's write pointer moved and its home stripes gathered, before its outcome. -/
def State.placed (s : State) (c : Cmd) (z : Bool) (lz : Nat) (b : List (Nat × Bytes)) : State :=
  let s2 := s.commitBlocks c.fsn (c.prot.getD true) b
  let s3 := if c.sqe.opc = 0x08 ∧ !z then
      (c.ranges.foldl (fun t r =>
        let whole := (List.range r.2.1).filter fun i => !(b.any fun x => x.1 == r.1 + i)
        (runsOf (whole.map (r.1 + ·))).foldl State.zeroRange t) s2)
    else s2
  ((if z then s3.zoneAdvance lz (sqeNlb c.sqe) c.fsn else s3).gatherHomes b).expose

/-- The commit of a writer but Zone Append that its zone takes and whose edges can be read. -/
theorem State.commitWriter_placed {s s1 : State} {c : Cmd} {z : Bool} {l : Layout} {cur : List (Nat × Option Bytes)} {wp : Nat}
    {b : List (Nat × Bytes)} (hop : c.sqe.opc ≠ 0x7D)
    (hz : (if z then s.zoneCheck c (l.c + sqeSlba c.sqe / zsze) (sqeNlb c.sqe) else (s, none, 0)) = (s1, none, wp))
    (hm : s1.mergeEdges l z c.sqe cur c.buf = some b) : s.commitWriter c z l cur =
      (s1.placed c z (l.c + sqeSlba c.sqe / zsze) b).writerDone c (s.mustProtect c.sqe) (b.map Prod.fst) 0 0 := by
  have h7D : (c.sqe.opc == 0x7D) = false := by simpa using hop
  unfold State.commitWriter
  dsimp only
  rw [hz, h7D]
  dsimp only
  rw [if_neg Bool.false_ne_true, if_neg Bool.false_ne_true, if_neg Bool.false_ne_true, hm]
  rfl

theorem State.commitWriter_refused {s s1 : State} {c : Cmd} {l : Layout} {wp : Nat} {st : Status}
    (hz : s.zoneCheck c (l.c + sqeSlba c.sqe / zsze) (sqeNlb c.sqe) = (s1, some st, wp)) (cur : List (Nat × Option Bytes)) :
    s.commitWriter c true l cur = s.finish c.fsn st 0 0 := by
  unfold State.commitWriter
  dsimp only
  rw [if_pos rfl, hz]

section
variable {s : State} {fsn : Nat} {c : Cmd} {z : Bool} {l : Layout} (hc : s.cmd? fsn = some c) (hp : c.phase = .admitted)
  (hpass : c.passed = false) (hord : s.ordered c = true) (hns : s.ns c.sqe.nsid.toNat = some z) (hl : s.zmu.layout = some l)
include hc hp hpass hord hns hl

theorem State.tryCommit_writer (h79 : c.sqe.opc ≠ 0x79) (h09 : c.sqe.opc ≠ 0x09) (cur : List (Nat × Option Bytes)) :
    s.tryCommit fsn cur = s.commitWriter c z l cur := by
  simp only [State.tryCommit, hc, hns, hl]
  rw [if_neg (by simp [hp, hpass, hord]), if_neg h79, if_neg h09]

theorem State.tryCommit_dsm (h09 : c.sqe.opc = 0x09) (cur : List (Nat × Option Bytes)) :
    s.tryCommit fsn cur = ((c.ranges.foldl (fun t r => t.zeroRange (r.1, r.2.1)) s).expose).finish fsn .ok 0 0 := by
  simp only [State.tryCommit, hc, hns, hl]
  rw [if_neg (by simp [hp, hpass, hord]), if_neg (by rw [h09]; decide), if_pos h09]

end

theorem State.mergeEdges_whole (s : State) (l : Layout) (z : Bool) (e : Sqe) (cur : List (Nat × Option Bytes)) (d : Nat)
    {x : Bytes} (hx : x.length = 4096) : s.mergeEdges l z e cur [(d, x)] = some [(d, x)] := by
  simp [State.mergeEdges, hx]

theorem State.writerDone_durable (s : State) (c : Cmd) {must : Bool} {blocks : List Nat}
    (h : must = false ∨ ∀ d ∈ blocks, s.durable d c.fsn = true) (dw0 dw1 : Nat) :
    s.writerDone c must blocks dw0 dw1 = s.finish c.fsn .ok dw0 dw1 := by
  have hwait : (if must then (blocks.filter fun d => !s.durable d c.fsn).map fun d => (d, c.fsn) else []).isEmpty = true := by
    split
    · next hm =>
      have hall := h.resolve_left (by simp [hm])
      rw [List.isEmpty_iff, List.map_eq_nil_iff, List.filter_eq_nil_iff]
      intro d hd
      simp [hall d hd]
    · rfl
  rw [State.writerDone]
  exact if_pos hwait

theorem State.zeroRange_store (s : State) (r : Nat × Nat) : (s.zeroRange r).cqu.store = s.cqu.store := by
  rw [State.zeroRange, State.mapChange_cqu]
  exact List.foldlRecOn (motive := fun t : State => t.cqu.store = s.cqu.store) _ _ rfl fun _ ht _ _ =>
    (State.unlose_store _ _).trans ht

theorem State.zoneAdvance_reach (s : State) (lz n fsn : Nat) : Only [.zmu] s (s.zoneAdvance lz n fsn) :=
  State.zoneAdvance_only _ _ _ _ (Only.refl _ _) rfl

theorem State.placed_unfailed {s : State} {fsn : Nat} {c : Cmd} (h : s.Unfailed fsn) (z : Bool) (lz : Nat)
    (b : List (Nat × Bytes)) : (s.placed c z lz b).Unfailed fsn := by
  simp -zeta only [State.placed]
  extract_lets s2 s3
  have h2 : s2.Unfailed fsn := h.congr (State.commitBlocks_store _ _ _ _)
  have h3 : s3.Unfailed fsn := by
    simp only [s3]
    split
    · refine List.foldlRecOn (motive := fun t : State => t.Unfailed fsn) _ _ h2 fun t ht r _ => ?_
      exact List.foldlRecOn (motive := fun u : State => u.Unfailed fsn) _ _ ht fun _ hu _ _ =>
        hu.congr (State.zeroRange_store _ _)
    · exact h2
  have hgather {u : State} (hu : u.Unfailed fsn) : (u.gatherHomes b).Unfailed fsn :=
    hu.congr (by rw [(State.gatherHomes_reach u b).cqu rfl])
  refine State.Unfailed.expose (hgather ?_)
  split
  · exact h3.congr (by rw [(State.zoneAdvance_reach s3 _ _ _).cqu rfl])
  · exact h3

theorem State.placed_newest (s : State) {c : Cmd} (hop : c.sqe.opc ≠ 0x08) (lz d : Nat) (x : Bytes) :
    (s.placed c false lz [(d, x)]).Newest d c.fsn x (c.prot.getD true) := by
  have h1 : (s.commitBlocks c.fsn (c.prot.getD true) [(d, x)]).Newest d c.fsn x (c.prot.getD true) :=
    (State.commitBlock_newest s _ _ d x).congr rfl
  have hs : s.placed c false lz [(d, x)] =
      ((s.commitBlocks c.fsn (c.prot.getD true) [(d, x)]).gatherHomes [(d, x)]).expose := by
    simp only [State.placed, hop, false_and, if_false, Bool.false_eq_true]
  rw [hs]
  exact (h1.gatherHomes _).congr ((State.expose_reach _).buf rfl)

/-! ### Zeroed blocks (R339). -/

/-- The block has a ZERO extent and neither cached nor lost data. -/
def State.Zeroed (s : State) (d : Nat) : Prop := s.cached d = none ∧ s.isLost d = false ∧
  ∃ e, (s.zmu.extents.find? fun e => decide (e.dlba ≤ d ∧ d < e.dlba + e.count)) = some e ∧ e.zero = true

section
variable {s t : State} {d : Nat}

theorem State.Zeroed.locate (h : s.Zeroed d) : s.locate d = .zero := by
  obtain ⟨hcache, hlost, e, he, hzero⟩ := h
  simp only [State.locate, hcache, hlost, he, hzero, Bool.false_eq_true, if_false, if_true]

theorem State.Zeroed.congr (h : s.Zeroed d) (hb : t.buf = s.buf) (hs : t.stripe = s.stripe)
    (hu : t.cqu.uncorrect = s.cqu.uncorrect) (hz : t.zmu = s.zmu) : t.Zeroed d := by
  unfold State.Zeroed State.cached State.isLost at *
  rwa [hb, hs, hu, hz]

theorem State.isLost_unlose (s : State) (d : Nat) : (s.unlose d).isLost d = false := by
  unfold State.unlose
  split
  · simp only [State.isLost, Bool.or_eq_false_iff, List.any_eq_false]
    constructor
    · intro r hr
      obtain ⟨hr, -⟩ := List.mem_filter.1 hr
      obtain ⟨r0, -, rfl⟩ := List.mem_map.1 hr
      simp
    · intro r hr
      obtain ⟨r0, -, hr⟩ := List.mem_flatMap.1 hr
      rw [decide_eq_true_eq]
      unfold cutRange at hr
      split at hr
      · obtain ⟨hr, -⟩ := List.mem_filter.1 hr
        simp only [List.mem_cons, List.not_mem_nil, or_false] at hr
        obtain rfl | rfl := hr <;> dsimp only <;> omega
      · next hno =>
        obtain rfl := List.mem_singleton.1 hr
        exact hno
  · next h => exact Bool.not_eq_true _ ▸ h

/-- Of the extents kept clear of a block, one inserted over it is found. -/
theorem find?_insExtent {e : Extent} (he : e.dlba ≤ d ∧ d < e.dlba + e.count) {l : List Extent} (hl : ∀ x ∈ l, x.Clear d 1) :
    ((insExtent e l).find? fun x => decide (x.dlba ≤ d ∧ d < x.dlba + x.count)) = some e := by
  induction l with
  | nil => simp [insExtent, he]
  | cons x t ih =>
    have hx : ¬ (x.dlba ≤ d ∧ d < x.dlba + x.count) := by
      have := hl x List.mem_cons_self
      simp only [Extent.Clear, overlaps, Bool.and_eq_false_iff, decide_eq_false_iff_not] at this
      omega
    have ht := ih fun y hy => hl y (List.mem_cons_of_mem _ hy)
    rw [insExtent]
    split
    · simp [he]
    · rw [List.find?_cons_of_neg (by simpa using hx), ht]

theorem State.zeroRange_zeroed (s : State) (d : Nat) : (s.zeroRange (d, 1)).Zeroed d := by
  simp -zeta only [State.zeroRange]
  extract_lets s1 s2
  have h2 : s2 = s1.unlose d := rfl
  have hbuf : s2.buf = s1.buf := h2 ▸ State.unlose_buf _ _
  refine ⟨?_, ?_, ⟨d, 1, 0, 0, 0, true⟩, find?_insExtent (by simp) fun y hy => ?_, rfl⟩
  · rw [State.cached, State.mapChange_buf, hbuf, List.find?_eq_none]
    intro b hb hbd
    have hbd' : b.dlba = d ∧ b.current = true := by simpa using hbd
    have := State.dropBlocks_current hb hbd'.2
    simp [hbd'.1] at this
  · exact h2 ▸ State.isLost_unlose s1 d
  · obtain ⟨x, -, hx⟩ := List.mem_flatMap.1 hy
    exact Extent.minus_clear hx

theorem State.finish_uncorrect (s : State) (fsn : Nat) (st : Status) (dw0 dw1 : Nat) :
    (s.finish fsn st dw0 dw1).cqu.uncorrect = s.cqu.uncorrect := by
  rw [State.finish_cqu]

theorem State.asyncEvent_uncorrect (s : State) (typ info lid : Nat) :
    (s.asyncEvent typ info lid).cqu.uncorrect = s.cqu.uncorrect := by
  unfold State.asyncEvent
  dsimp only
  split
  · rfl
  · split
    · rfl
    · exact State.finish_uncorrect _ _ _ _ _

theorem State.warn_uncorrect (s : State) (b cause : Nat) : (s.warn b cause).cqu.uncorrect = s.cqu.uncorrect := by
  simp -zeta only [State.warn]
  extract_lets cqu s0 cqu1 s1
  split
  · rfl
  · split
    · exact State.asyncEvent_uncorrect s1 _ _ _
    · rfl

theorem State.expose_uncorrect (s : State) : s.expose.cqu.uncorrect = s.cqu.uncorrect := by
  unfold State.expose
  split
  · exact State.warn_uncorrect _ _ _
  · unfold State.unwarn
    dsimp only
    split <;> rfl

theorem State.Zeroed.expose (h : s.Zeroed d) : s.expose.Zeroed d :=
  h.congr ((State.expose_reach s).buf rfl) ((State.expose_reach s).stripe rfl) (State.expose_uncorrect s)
    ((State.expose_reach s).zmu rfl)

theorem State.Zeroed.finish (h : s.Zeroed d) (fsn : Nat) (st : Status) (dw0 dw1 : Nat) : (s.finish fsn st dw0 dw1).Zeroed d :=
  h.congr (State.finish_buf _ _ _ _ _) (State.finish_stripe _ _ _ _ _) (State.finish_uncorrect _ _ _ _ _)
    (State.finish_zmu _ _ _ _ _)

end

theorem State.unfailed_of_cmd? {s : State} {fsn : Nat} {c : Cmd} (h : s.cmd? fsn = some c) (hp : c.phase ≠ .committed) :
    s.Unfailed fsn := ⟨c, h, fun hcom => absurd hcom hp⟩

/-! ### Transfer and admission (R361, R367, R370). -/

theorem State.seal_fst (s : State) (l : List (Nat × Bytes)) : (s.seal l).map Prod.fst = l.map Prod.fst := by
  rw [State.seal, List.map_map]
  refine List.map_congr_left fun x _ => ?_
  simp only [Function.comp_apply]
  split <;> rfl

theorem Layout.pieces_fst (l : Layout) (z : Bool) (e : Sqe) (data : List Bytes) : (l.pieces z e data).map Prod.fst =
    l.dlbas z (l.cover z (sqeSlba e) (sqeNlb e)).1 (l.cover z (sqeSlba e) (sqeNlb e)).2 := by
  simp only [Layout.pieces, Layout.dlbas, List.map_map]
  rfl

section
variable {s : State} {fsn : Nat} {c : Cmd} {z : Bool} {l : Layout} (hc : s.cmd? fsn = some c) (haer : fsn ∉ s.cqu.aers)
include hc haer

theorem State.handIn_undisturbed (buf : List (Nat × Bytes)) (w : Bool) (n : Nat) :
    ((s.handIn c buf).hostData w n).cmd? fsn = some { c with phase := .ready, waitAdm := true, buf := buf } := by
  have hf := State.fsn_of_cmd? hc
  let u := s.setCmd { c with phase := .ready, waitAdm := true, buf := buf }
  have hu : u.cmd? fsn = some { c with phase := .ready, waitAdm := true, buf := buf } :=
    State.cmd?_setCmd hc (by exact hf)
  have hcqu : (u.countEnc buf.length).cqu = u.cqu := State.bump_cqu _ _ _
  exact (((Undisturbed.refl (s := u) haer).of_cqu hcqu).hostData w n).1.trans hu

theorem State.writeData_ok (hns : s.ns c.sqe.nsid.toNat = some z) (hl : s.zmu.layout = some l) (data : List Bytes)
    (sealed : Bool) : ((s.writeData c data .ok sealed).cmd? fsn).map (fun x => (x.phase, x.waitAdm, x.buf.map Prod.fst)) =
      some (.ready, true, s.coveredBy c.sqe) := by
  simp only [State.writeData, xferStatus, hns, hl, State.handIn_undisturbed hc haer, Option.map_some, State.coveredBy]
  split
  · rw [State.seal_fst, Layout.pieces_fst]
  · rw [Layout.pieces_fst]

end

theorem State.writeData_failed {s : State} {fsn : Nat} {c : Cmd} (hc : s.cmd? fsn = some c) (hp : c.phase ≠ .committed)
    {xfer : Xfer} {st : Status} (hx : xferStatus xfer = some st) (data : List Bytes) (sealed : Bool) :
    EndsWith (s.writeData c data xfer sealed) fsn st ∧ (s.writeData c data xfer sealed).buf = s.buf := by
  obtain rfl := State.fsn_of_cmd? hc
  simp only [State.writeData, hx]
  exact ⟨State.finish_endsWith hc hp _ _ _, State.finish_buf _ _ _ _ _⟩

theorem exec_writeAdmission {s : State} {fsn : Nat} {c : Cmd} (hc : s.cmd? fsn = some c) (hp : c.phase = .ready)
    (hw : c.waitAdm = true) : Goes (exec (.writeAdmission fsn) s) fun t =>
      match s.admitPart (s.mustProtect c.sqe) c.buf.length, s.mediaDown with
      | some p, _ => t.cmd? fsn = some { c with phase := .admitted, waitAdm := false, prot := some p }
      | none, some st => EndsWith t fsn st
      | none, none => t = s := by
  have hf := State.fsn_of_cmd? hc
  change Goes (execWriteAdmission fsn s) _
  simp only [execWriteAdmission, hc]
  rw [if_neg (by simp [hp, hw])]
  cases s.admitPart (s.mustProtect c.sqe) c.buf.length with
  | some p =>
    rw [Goes_next]
    exact State.cmd?_setCmd hc (by exact hf)
  | none =>
    cases s.mediaDown with
    | some st =>
      rw [Goes_next]
      exact State.finish_endsWith hc (by simp [hp]) _ _ _
    | none => rw [Goes_next]

/-! ### The write pointer (R345, R369). -/

/-- With room under both limits of R344 a zone that is not full is open after the check. -/
theorem State.openZone_room {s : State} {lz : Nat} {z : ZoneDesc} (hz : s.zone? lz = some z) (ha : s.activeZones < 1024)
    (ho : s.openZones.length < 256) : ∃ t, s.openZone lz false = (t, none) ∧
      t.zone? lz = some { z with state := if z.state = 2 then 2 else 1 } ∧ t.cfg = s.cfg := by
  rw [State.openZone, hz]
  dsimp only
  by_cases h12 : z.state = 1 ∨ z.state = 2
  · refine ⟨s, by rw [if_pos h12, if_neg Bool.false_ne_true], ?_, rfl⟩
    rw [hz]
    obtain h | h := h12
    · rw [if_neg (by omega), ← h]
    · rw [if_pos h, ← h]
  · have hroom : s.openRoom = (s, true) := by rw [State.openRoom, if_pos ho]
    rw [if_neg h12, if_neg (by omega), hroom, if_neg (fun h => h12 (Or.inr h))]
    exact ⟨_, rfl, State.zone?_zoneSet hz 1 z.wp, (State.mapChange_only (qz := [.zmu]) s _ (Only.refl _ _) rfl).cfg rfl⟩

theorem State.zoneAdvance_zone {s : State} {lz : Nat} {z : ZoneDesc} (hz : s.zone? lz = some z) (n fsn : Nat) :
    (s.zoneAdvance lz n fsn).zone? lz =
      some { z with state := if zcap s.width ≤ z.wp + n then 4 else z.state, wp := z.wp + n, last := fsn } := by
  have hset := State.zone?_zoneSet hz (if zcap s.width ≤ z.wp + n then 4 else z.state) (z.wp + n)
  simp only [State.zoneAdvance, hz, ge_iff_le, hset]
  exact State.zone?_setZone hset _

theorem State.gatherCache_zones (s : State) (n : Nat) : (s.gatherCache n).zmu.zones = s.zmu.zones := by
  unfold State.gatherCache
  split
  · split <;> rfl
  · rfl

theorem State.drain_zones (s : State) : s.drain.zmu.zones = s.zmu.zones := by
  refine List.foldlRecOn (motive := fun t : State => t.zmu.zones = s.zmu.zones) _ _ rfl fun t ht n _ => ?_
  have hlaunch (u : State) (x : SideSlot) : Only [.stripe, .dma, .slot 13] u (u.launch x) :=
    State.launch_only _ _ (Only.refl _ _) rfl rfl rfl
  split
  · exact ht
  · dsimp only
    split
    · rw [(hlaunch _ _).zmu rfl, State.gatherCache_zones, ht]
    · rw [State.gatherCache_zones, ht]

theorem State.writerDone_zones (s : State) (c : Cmd) (must : Bool) (blocks : List Nat) (dw0 dw1 : Nat) :
    (s.writerDone c must blocks dw0 dw1).zmu.zones = s.zmu.zones := by
  simp -zeta only [State.writerDone]
  extract_lets wait
  split
  · rw [State.finish_zmu]
  · rw [(State.expose_reach _).zmu rfl, State.drain_zones]
    rfl

theorem State.placed_zone {s : State} {c : Cmd} {lz : Nat} {z : ZoneDesc} (hz : s.zone? lz = some z) (hop : c.sqe.opc ≠ 0x08)
    (b : List (Nat × Bytes)) : (s.placed c true lz b).zmu.zones[lz]? = some { z with
      state := if zcap s.width ≤ z.wp + sqeNlb c.sqe then 4 else z.state, wp := z.wp + sqeNlb c.sqe, last := c.fsn } := by
  let s2 := s.commitBlocks c.fsn (c.prot.getD true) b
  have hs : s.placed c true lz b = ((s2.zoneAdvance lz (sqeNlb c.sqe) c.fsn).gatherHomes b).expose := by
    simp only [State.placed, hop, false_and, if_false, if_true, s2]
  have hreach : Only [.stripe, .buf, .cqu, .bur] s s2 := State.commitBlocks_reach _ _ _ _
  have hz2 : s2.zone? lz = some z := by rw [State.zone?, hreach.zmu rfl]; exact hz
  have hw : s2.width = s.width := by rw [State.width, hreach.cfg rfl, State.width]
  rw [hs, (State.expose_reach _).zmu rfl, (State.gatherHomes_reach _ _).zmu rfl, ← hw]
  exact State.zoneAdvance_zone hz2 _ _

/-! ### The commits (R367, R369, R370). -/

section
variable {s : State} {fsn : Nat} {c : Cmd} {z : Bool} {l : Layout} (hc : s.cmd? fsn = some c) (hp : c.phase = .admitted)
  (hpass : c.passed = false) (hord : s.ordered c = true) (hns : s.ns c.sqe.nsid.toNat = some z) (hl : s.zmu.layout = some l)
include hc hp hpass hord hns hl

/-- A block on the conventional namespace is in the cache, dirty, and durable once it has to be. -/
theorem exec_writerCommit_conventional {d : Nat} {x : Bytes} (cur : List (Nat × Option Bytes)) (hz : z = false)
    (hop : c.sqe.opc = 0x01) (hb : c.buf = [(d, x)]) (hx : x.length = 4096)
    (hmust : s.mustProtect c.sqe = false ∨ c.prot = some true) : Goes (exec (.writerCommit fsn cur) s) fun t =>
      EndsWith t fsn .ok ∧ ∃ b ∈ t.buf.cache, b.dlba = d ∧ b.fsn = fsn ∧ b.data = x ∧ b.current = true ∧ b.dirty = true := by
  subst hz
  obtain rfl := State.fsn_of_cmd? hc
  let lz := l.c + sqeSlba c.sqe / zsze
  let t := s.placed c false lz [(d, x)]
  have hnew : t.Newest d c.fsn x (c.prot.getD true) := State.placed_newest s (by rw [hop]; decide) lz d x
  have hdur : s.mustProtect c.sqe = false ∨ ∀ e ∈ [d], t.durable e c.fsn = true := by
    refine hmust.imp_right fun hprot e he => ?_
    obtain rfl := List.mem_singleton.1 he
    rw [hprot] at hnew
    exact hnew.durable
  have hu : t.Unfailed c.fsn := State.placed_unfailed (State.unfailed_of_cmd? hc (by simp [hp])) _ _ _
  have hmerge : s.mergeEdges l false c.sqe cur c.buf = some [(d, x)] := by
    rw [hb, State.mergeEdges_whole _ _ _ _ _ _ hx]
  have hcommit : s.tryCommit c.fsn cur = t.finish c.fsn .ok 0 0 := by
    rw [State.tryCommit_writer hc hp hpass hord hns hl (by rw [hop]; decide) (by rw [hop]; decide),
      State.commitWriter_placed (by rw [hop]; decide) rfl hmerge]
    exact State.writerDone_durable t c hdur 0 0
  change Goes (.next (s.tryCommit c.fsn cur)) _
  rw [hcommit, Goes_next]
  exact ⟨hu.endsWith _ _, (hnew.congr (State.finish_buf _ _ _ _ _)).mem⟩

/-- On the zoned namespace R369 refuses the block, or the write pointer moves past it. -/
theorem exec_writerCommit_zoned {d : Nat} {x : Bytes} {zd : ZoneDesc} (cur : List (Nat × Option Bytes)) (hz : z = true)
    (hop : c.sqe.opc = 0x01) (hb : c.buf = [(d, x)]) (hx : x.length = 4096) (hn : sqeNlb c.sqe = 1)
    (hzd : s.zone? (l.c + sqeSlba c.sqe / zsze) = some zd) : Goes (exec (.writerCommit fsn cur) s) fun t =>
      if zd.state = 4 then EndsWith t fsn .zoneFull ∧ t.buf = s.buf
      else if sqeSlba c.sqe % zsze ≠ zd.wp then EndsWith t fsn .zoneWrite ∧ t.buf = s.buf
      else (s.activeZones < 1024 → s.openZones.length < 256 →
        (t.zone? (l.c + sqeSlba c.sqe / zsze)).map (fun y => (y.wp, y.state)) = some (zd.wp + 1,
          if zcap s.width ≤ zd.wp + 1 then 4 else if zd.state = 2 then 2 else 1)) := by
  subst hz
  obtain rfl := State.fsn_of_cmd? hc
  generalize hlz : l.c + sqeSlba c.sqe / zsze = lz at hzd ⊢
  have h7D : c.sqe.opc ≠ 0x7D := by rw [hop]; decide
  change Goes (.next (s.tryCommit c.fsn cur)) _
  rw [State.tryCommit_writer hc hp hpass hord hns hl (by rw [hop]; decide) (by rw [hop]; decide), Goes_next]
  have hrefused {wp : Nat} {st : Status} (hcheck : s.zoneCheck c lz (sqeNlb c.sqe) = (s, some st, wp)) :
      EndsWith (s.commitWriter c true l cur) c.fsn st ∧ (s.commitWriter c true l cur).buf = s.buf := by
    rw [State.commitWriter_refused (by rw [hlz]; exact hcheck) cur]
    exact ⟨State.finish_endsWith hc (by simp [hp]) _ _ _, State.finish_buf _ _ _ _ _⟩
  by_cases h4 : zd.state = 4
  · rw [if_pos h4]
    refine hrefused (wp := 0) ?_
    simp only [State.zoneCheck, hzd]
    rw [if_pos h4]
  rw [if_neg h4]
  by_cases hwp : sqeSlba c.sqe % zsze = zd.wp
  case neg =>
    rw [if_pos hwp]
    refine hrefused (wp := 0) ?_
    simp only [State.zoneCheck, hzd]
    rw [if_neg h4, if_neg (fun h => h7D h.1), if_pos ⟨h7D, hwp⟩]
  rw [if_neg (by simpa using hwp)]
  intro hact hopen
  obtain ⟨s1, hs1, hz1, hcfg1⟩ := State.openZone_room hzd hact hopen
  have hw : s1.width = s.width := by rw [State.width, hcfg1, State.width]
  have hcheck : s.zoneCheck c lz (sqeNlb c.sqe) = (s1, none, zd.wp) := by
    simp only [State.zoneCheck, hzd]
    rw [if_neg h4, if_neg (fun h => h7D h.1), if_neg (fun h => h.2 hwp), hs1]
  rw [State.commitWriter_placed h7D (s1 := s1) (wp := zd.wp) (by rw [hlz, if_pos rfl]; exact hcheck)
    (b := [(d, x)]) (by rw [hb, State.mergeEdges_whole _ _ _ _ _ _ hx]), hlz]
  rw [State.zone?, State.writerDone_zones, State.placed_zone hz1 (by rw [hop]; decide), hn, hw]
  rfl

end

/-! ### Zeroed ranges (R339, R364) and Flush (R372). -/

theorem State.placed_zeroed (s : State) {c : Cmd} {d : Nat} (hop : c.sqe.opc = 0x08) (hr : c.ranges = [(d, 1, true)]) (lz : Nat) :
    (s.placed c false lz []).Zeroed d := by
  have hs : s.placed c false lz [] = ((s.commitBlocks c.fsn (c.prot.getD true) []).zeroRange (d, 1)).expose := by
    rw [State.placed, hop, hr]
    rfl
  rw [hs]
  exact (State.zeroRange_zeroed _ _).expose

/-- Whole blocks leave nothing to merge. -/
theorem Layout.pieces_whole {l : Layout} {z : Bool} (hp : l.per z = 1) {e : Sqe} (hn : sqeNlb e = 1) (data : List Bytes) :
    ((l.pieces z e data).filter fun x => x.2.length != 4096) = [] := by
  rw [List.filter_eq_nil_iff]
  intro x hx
  simp only [Layout.pieces, Layout.cover, hp, hn] at hx
  obtain ⟨i, hi, rfl⟩ := List.mem_map.1 hx
  have hi0 : i = 0 := by
    have := List.mem_range.1 hi
    simp only [Nat.div_one] at this
    omega
  subst hi0
  simp [padTo_length]

section
variable {s : State} {fsn : Nat} {c : Cmd} {z : Bool} {l : Layout} (hns : s.ns c.sqe.nsid.toNat = some z)
  (hl : s.zmu.layout = some l)
include hns hl

theorem exec_writeZeroes_block {d : Nat} (hc : s.ioCmd fsn 0x08 = some c) (hord : s.ordered c = true) (hz : z = false)
    (h512 : l.b512 = false) (hn : sqeNlb c.sqe = 1) (hb : c.buf = []) (hpass : c.passed = false)
    (hr : c.ranges = [(d, 1, true)]) : Goes (exec (.writeZeroes fsn) s) fun t => EndsWith t fsn .ok ∧ t.locate d = .zero := by
  subst hz
  obtain ⟨hcmd, -, -, hop⟩ := State.ioCmd_spec hc
  obtain rfl := State.fsn_of_cmd? hcmd
  let c1 : Cmd := { c with phase := .admitted }
  let u := s.setCmd c1
  have hu : u.cmd? c.fsn = some c1 := State.cmd?_setCmd hcmd rfl
  let t := u.placed c1 false (l.c + sqeSlba c1.sqe / zsze) []
  have hper : l.per false = 1 := by simp [Layout.per, h512]
  have hcommit : u.tryCommit c.fsn [] = t.finish c.fsn .ok 0 0 := by
    have hop1 : c1.sqe.opc = 0x08 := hop
    rw [State.tryCommit_writer hu rfl hpass (State.ordered_setCmd hord c1 rfl rfl rfl) hns hl (by rw [hop1]; decide)
      (by rw [hop1]; decide), State.commitWriter_placed (s1 := u) (wp := 0) (b := []) (by rw [hop1]; decide) rfl
      (by rw [show c1.buf = [] from hb]; rfl)]
    exact State.writerDone_durable t c1 (Or.inr (by simp)) 0 0
  change Goes (execWriteZeroes c.fsn s) _
  simp only [execWriteZeroes, hc, hns, hl, Layout.pieces_whole hper hn, Bool.false_eq_true, if_false, List.isEmpty_nil, if_true]
  rw [Goes_next]
  change EndsWith (u.tryCommit c.fsn []) c.fsn .ok ∧ (u.tryCommit c.fsn []).locate d = .zero
  rw [hcommit]
  have hlive : t.Unfailed c.fsn := State.placed_unfailed (State.unfailed_of_cmd? hu (by simp [c1])) _ _ _
  exact ⟨hlive.endsWith _ _, ((State.placed_zeroed u hop hr _).finish _ _ _ _).locate⟩

theorem exec_datasetManagement_idle {n a : Nat} (hc : s.ioCmd fsn 0x09 = some c) (hin : n + a ≤ l.nsze z)
    (hno : c.sqe.cdw11.getLsbD 2 = false ∨ z = true) : Goes (exec (.datasetManagement fsn [(n, a)] .ok) s) fun t =>
      EndsWith t fsn .ok ∧ t.buf = s.buf ∧ t.zmu = s.zmu := by
  obtain ⟨hcmd, -, hp, -⟩ := State.ioCmd_spec hc
  change Goes (execDatasetManagement fsn [(n, a)] .ok s) _
  have hrange : ¬ ([(n, a)].any fun r => decide (r.2 + r.1 > l.nsze z)) = true := by
    simp
    omega
  have hno' : (!c.sqe.cdw11.getLsbD 2) = true ∨ z = true := by
    obtain h | h := hno
    · exact Or.inl (by rw [h]; rfl)
    · exact Or.inr h
  simp only [execDatasetManagement, hc, xferStatus, hns, hl, List.take_succ_cons, List.take_nil]
  rw [if_neg hrange, if_pos hno', Goes_next]
  exact ⟨State.finish_endsWith hcmd (by simp [hp]) _ _ _, State.finish_buf _ _ _ _ _, State.finish_zmu _ _ _ _ _⟩

theorem exec_datasetManagement_block {a : Nat} (hc : s.ioCmd fsn 0x09 = some c) (ha : a < l.nsze z)
    (had : c.sqe.cdw11.getLsbD 2 = true) (hz : z = false) (h512 : l.b512 = false)
    (hord : s.ordered { c with ranges := [(l.dlba false a, 1, true)] } = true) :
    Goes (exec (.datasetManagement fsn [(1, a)] .ok) s) fun t => EndsWith t fsn .ok ∧ t.locate (l.dlba false a) = .zero := by
  subst hz
  obtain ⟨hcmd, -, -, hop⟩ := State.ioCmd_spec hc
  obtain rfl := State.fsn_of_cmd? hcmd
  let c1 : Cmd := { c with phase := .admitted, passed := false, ranges := [(l.dlba false a, 1, true)] }
  let u := s.setCmd c1
  have hu : u.cmd? c.fsn = some c1 := State.cmd?_setCmd hcmd rfl
  have hcommit := State.tryCommit_dsm hu rfl rfl
    (State.ordered_setCmd (c := { c with ranges := [(l.dlba false a, 1, true)] }) hord c1 rfl rfl rfl) hns hl hop []
  have hper : l.per false = 1 := by simp [Layout.per, h512]
  have hrange : ¬ ([(1, a)].any fun r => decide (r.2 + r.1 > l.nsze false)) = true := by
    simp
    omega
  have hblocks : runsOf (l.dlbas false ((a + 1 - 1) / 1) ((a + 1) / 1 - (a + 1 - 1) / 1)) = [(l.dlba false a, 1)] := by
    have h1 : (a + 1) / 1 - (a + 1 - 1) / 1 = 1 := by omega
    have h2 : (a + 1 - 1) / 1 = a := by omega
    rw [h1, h2]
    rfl
  change Goes (execDatasetManagement c.fsn [(1, a)] .ok s) _
  simp only [execDatasetManagement, hc, xferStatus, hns, hl, List.take_succ_cons, List.take_nil]
  rw [if_neg hrange, if_neg (by rw [had]; decide), Goes_next, hper, List.flatMap_cons, List.flatMap_nil, hblocks]
  change EndsWith (u.tryCommit c.fsn []) c.fsn .ok ∧ (u.tryCommit c.fsn []).locate (l.dlba false a) = .zero
  rw [hcommit]
  have hlive : (u.zeroRange (l.dlba false a, 1)).Unfailed c.fsn :=
    (State.unfailed_of_cmd? hu (by simp [c1])).congr (State.zeroRange_store _ _)
  exact ⟨hlive.expose.endsWith _ _, ((State.zeroRange_zeroed u _).expose.finish _ _ _ _).locate⟩

end

theorem exec_flush {s : State} {fsn : Nat} {c : Cmd} (hc : s.ioCmd fsn 0x00 = some c)
    (hearlier : ∀ d ∈ s.cqu.store, d.fsn < fsn → d.passed = true ∨ d.phase = .committed) : Goes (exec (.flush fsn) s) fun t =>
      if s.flushWaits c = [] then EndsWith t fsn .ok
      else (t.cmd? fsn).map (fun x => (x.phase, x.status, x.waitFor)) = some (.admitted, some .ok, s.flushWaits c) := by
  obtain ⟨hcmd, -, -, -⟩ := State.ioCmd_spec hc
  obtain rfl := State.fsn_of_cmd? hcmd
  let c1 : Cmd := { c with phase := .ready, passed := true }
  let u := s.setCmd c1
  have hu : u.cmd? c.fsn = some c1 := State.cmd?_setCmd hcmd rfl
  have hnone : ¬ (u.cqu.store.any fun d => d.flushedBy c1 && !d.passed && d.phase != .committed) = true := by
    rw [Bool.not_eq_true, List.any_eq_false]
    intro x hx
    obtain ⟨y, hy, rfl⟩ := List.mem_map.1 hx
    split
    · simp [c1]
    · by_cases hlt : y.fsn < c.fsn
      · obtain h | h := hearlier y hy hlt <;> simp [h]
      · simp [Cmd.flushedBy, c1, hlt]
  have hstep : u.flushStep c1 = if (s.flushWaits c).isEmpty then u.finish c.fsn .ok 0 0
      else (u.setCmd { c1 with phase := .admitted, passed := true, status := some .ok, waitFor := s.flushWaits c }).drain := by
    rw [State.flushStep, if_neg hnone]
    rfl
  change Goes (execFlush c.fsn s) _
  simp only [execFlush, hc]
  rw [Goes_next]
  change if _ then EndsWith (u.flushStep c1) c.fsn .ok else ((u.flushStep c1).cmd? c.fsn).map _ = _
  rw [hstep]
  by_cases hw : s.flushWaits c = []
  · rw [if_pos hw, hw, List.isEmpty_nil, if_pos rfl]
    exact State.finish_endsWith hu (by simp [c1]) _ _ _
  · rw [if_neg hw, if_neg (by simpa using hw)]
    let c2 : Cmd := { c1 with phase := .admitted, passed := true, status := some .ok, waitFor := s.flushWaits c }
    have hset : (u.setCmd c2).cmd? c.fsn = some c2 := State.cmd?_setCmd hu rfl
    rw [State.cmd?_congr hset (t := (u.setCmd c2).drain) (by rw [State.drain_cqu])]
    rfl

/-- Settles O48: each command by the lemma of its step above; a committed block is `State.Newest`, a zeroed one
`State.Zeroed`. -/
theorem writersCommit : Obligations.WritersCommit := by
  unfold Obligations.WritersCommit
  refine fun s fsn c z l haer hns hl => ⟨fun data => ⟨fun hio => ?_, fun hio => ?_, fun hio => ?_⟩,
    fun hc hp hw => exec_writeAdmission hc hp hw,
    fun d x cur hc hp hpass hord hz hop hb hx hmust =>
      exec_writerCommit_conventional hc hp hpass hord hns hl cur hz hop hb hx hmust,
    fun d x zd cur hc hp hpass hord hz hop hb hx hn hzd =>
      exec_writerCommit_zoned hc hp hpass hord hns hl cur hz hop hb hx hn hzd,
    fun d hc hord hz h512 hn hb hpass hr => exec_writeZeroes_block hns hl hc hord hz h512 hn hb hpass hr,
    fun n a hc hin hno => exec_datasetManagement_idle hns hl hc hin hno,
    fun a hc ha had hz h512 hord => exec_datasetManagement_block hns hl hc ha had hz h512 hord,
    fun hc hearlier => exec_flush hc hearlier⟩
  · change Goes (execWrite fsn data .ok s) _
    simp only [execWrite, hio, Goes_next]
    exact State.writeData_ok (State.ioCmd_spec hio).1 haer hns hl data true
  · obtain ⟨hcmd, -, hp, -⟩ := State.ioCmd_spec hio
    have hfail (xfer : Xfer) (st : Status) (hx : xferStatus xfer = some st) :
        Goes (execWrite fsn data xfer s) fun t => EndsWith t fsn st ∧ t.buf = s.buf := by
      simp only [execWrite, hio, Goes_next]
      exact State.writeData_failed hcmd (by simp [hp]) hx data true
    exact ⟨hfail .pcieError .dataXfer rfl, hfail .uncorrectable .internal rfl⟩
  · change Goes (execZoneAppend fsn data .ok s) _
    simp only [execZoneAppend, hio, Goes_next]
    exact State.writeData_ok (State.ioCmd_spec hio).1 haer hns hl data false

end Sys2Proof.Machine
end

section
/-!
PROOFS. Identify, logs, features and firmware images (R360, R362, R363, R380, R388): O44.
-/

namespace Sys2Proof.Machine

/-! ### Data that go to the host (R416). -/

theorem State.toHost_reach (s : State) (c : Cmd) (b : Bytes) : Only [.buf, .hpt, .slot 8, .slot 12] s (s.toHost c b) :=
  State.toHost_only _ _ _ (Only.refl _ _) rfl rfl rfl rfl

theorem State.toHost_out {s : State} {c : Cmd} (b : Bytes) (hbar : inBar s.hpt.bar2 0x10000000 c.sqe.prp1.toNat = false)
    (hd : s.get Reg.HPT.LINK.DSTATE ≠ 3) (hl : s.get Reg.HPT.LINK.PM_LINK ≠ 4) :
    (s.toHost c b).hpt.out = s.hpt.out ++ [.data c.fsn b] := by
  rw [State.toHost, if_neg (by rw [hbar]; decide), State.send_out _ _ hd hl]

section
variable {s : State} {fsn : Nat} {c : Cmd}

theorem exec_identify (h : s.adm fsn 0x06 = some c) (hprp : s.badPrp c.sqe = false) : Goes (exec (.identify fsn) s) fun t =>
    match s.identifyData c.sqe with
      | .inl b => EndsWith t fsn .ok ∧ (inBar s.hpt.bar2 0x10000000 c.sqe.prp1.toNat = false → s.get Reg.HPT.LINK.DSTATE ≠ 3 →
          s.get Reg.HPT.LINK.PM_LINK ≠ 4 → t.hpt.out = s.hpt.out ++ [.data fsn b])
      | .inr st => EndsWith t fsn st ∧ t.hpt = s.hpt := by
  change Goes (execIdentify fsn s) _
  simp only [execIdentify, h]
  cases s.identifyData c.sqe with
  | inr st =>
    rw [Goes_next]
    exact ⟨State.adm_endsWith h rfl _ _ _, State.finish_hpt _ _ _ _ _⟩
  | inl b =>
    dsimp only
    rw [if_neg (by rw [hprp]; decide), Goes_next]
    refine ⟨State.adm_endsWith h (by rw [(s.toHost_reach c b).cqu rfl]) _ _ _, fun hbar hd hl => ?_⟩
    obtain ⟨hc, -, -, -⟩ := State.adm_spec h
    rw [State.finish_hpt, State.toHost_out b hbar hd hl, State.fsn_of_cmd? hc]

/-! ### Get Log Page (R382). -/

theorem State.logPage_some (s : State) {lid : Nat}
    (h : [1, 2, 3, 0x81, 0xC0, 0xC1, 0xC2, 0xC3, 0xC4, 0xC5, 0xC6, 0xC7].contains lid = true) (csi progress : Nat) :
    ∃ b, s.logPage lid csi progress = some b := by
  simp only [List.contains_iff_mem, List.mem_cons, List.not_mem_nil, or_false] at h
  rcases h with rfl | rfl | rfl | rfl | rfl | rfl | rfl | rfl | rfl | rfl | rfl | rfl <;> exact ⟨_, rfl⟩

theorem exec_getLogPage (h : s.adm fsn 0x02 = some c) (hprp : s.badPrp c.sqe = false)
    (hlid : [1, 2, 3, 0x81, 0xC0, 0xC1, 0xC2, 0xC3, 0xC4, 0xC5, 0xC6, 0xC7].contains (c.sqe.cdw10.toNat % 256) = true) :
    Goes (exec (.getLogPage fsn) s) fun t => EndsWith t fsn .ok := by
  obtain ⟨hc, -, hp, -⟩ := State.adm_spec h
  change Goes (execGetLogPage fsn s) _
  simp -zeta only [execGetLogPage, h]
  extract_lets lid rae len off csi
  have hpage : ¬ (s.badPrp c.sqe = true ∨ lid = 0x05 ∧ csi ≠ 0 ∧ csi ≠ 2) := by
    rintro (h1 | ⟨h5, -⟩)
    · simp [hprp] at h1
    · rw [show c.sqe.cdw10.toNat % 256 = 5 from h5] at hlid
      revert hlid
      decide
  rw [if_neg hpage]
  generalize hq : (if lid = 0x06 ∧ s.cqu.test ≠ 0 then s.free else (0, s)) = q
  have hcqu : q.2.cqu = s.cqu := by
    rw [← hq]
    split <;> rfl
  obtain ⟨fresh, hfresh⟩ := q.2.logPage_some hlid csi (q.1 % 101)
  rw [show q.2.logPage lid csi (q.1 % 101) = some fresh from hfresh]
  dsimp -zeta only
  extract_lets page s1 cqu s2
  have h2 : s2.Unfailed fsn :=
    ⟨c, State.cmd?_congr hc (by rw [show s2.cqu.store = s1.cqu.store from rfl, (State.toHost_reach _ c _).cqu rfl, hcqu]),
      by simp [hp]⟩
  rw [Goes_next]
  refine State.Unfailed.endsWith ?_ 0 0
  split
  · exact h2
  · unfold State.clearEvents
    refine State.Unfailed.deliver ?_
    exact h2.congr rfl

/-! ### The features (R363). -/

theorem exec_setFeatures_unknown (h : s.adm fsn 0x09 = some c) (hfid : c.sqe.cdw10.toNat % 256 ∉ featureIds) (data : Bytes) :
    Goes (exec (.setFeatures fsn data) s) fun t => EndsWith t fsn .badField ∧ t.cqu.feats = s.cqu.feats := by
  obtain ⟨hc, -, -, -⟩ := State.adm_spec h
  obtain rfl := State.fsn_of_cmd? hc
  change Goes (execSetFeatures c.fsn data s) _
  simp only [execSetFeatures, h]
  rw [if_pos (Or.inl (by simpa using hfid)), Goes_next]
  exact ⟨State.adm_endsWith h rfl _ _ _, by rw [State.finish_cqu]⟩

/-- Set Features of a supported feature sets it. -/
theorem exec_setFeatures_known (h : s.adm fsn 0x09 = some c) (hprp : s.badPrp c.sqe = false)
    (hsave : c.sqe.cdw10.getLsbD 31 = false) (hfid : c.sqe.cdw10.toNat % 256 ∈ featureIds) (data : Bytes) :
    exec (.setFeatures fsn data) s = .next (s.setFeature c (c.sqe.cdw10.toNat % 256) c.sqe.cdw11 data) := by
  change execSetFeatures fsn data s = _
  simp only [execSetFeatures, h]
  rw [if_neg (by simpa [hprp] using hfid), if_neg (by rw [hsave]; decide)]

theorem State.setFeats_endsWith (h : s.adm fsn 0x09 = some c) (f : Feats) :
    EndsWith ((s.setFeats f).finish c.fsn .ok 0 0) fsn .ok ∧ ((s.setFeats f).finish c.fsn .ok 0 0).cqu.feats = f := by
  obtain ⟨hc, -, -, -⟩ := State.adm_spec h
  obtain rfl := State.fsn_of_cmd? hc
  exact ⟨State.adm_endsWith h (by rfl) _ _ _, by rw [State.finish_cqu]; rfl⟩

theorem exec_setFeatures (h : s.adm fsn 0x09 = some c) (hprp : s.badPrp c.sqe = false) (hsave : c.sqe.cdw10.getLsbD 31 = false)
    (data : Bytes) : Goes (exec (.setFeatures fsn data) s) fun t =>
      (c.sqe.cdw10.toNat % 256 = 1 → EndsWith t fsn .ok ∧ t.cqu.feats = { s.cqu.feats with arb := c.sqe.cdw11 }) ∧
      (c.sqe.cdw10.toNat % 256 = 8 → EndsWith t fsn .ok ∧
        t.cqu.feats = { s.cqu.feats with coal := BitVec.ofNat 32 (c.sqe.cdw11.toNat % 65536) }) ∧
      (c.sqe.cdw10.toNat % 256 = 11 → EndsWith t fsn .ok ∧ t.cqu.feats = { s.cqu.feats with aec := c.sqe.cdw11.toNat % 256 }) ∧
      (c.sqe.cdw10.toNat % 256 = 6 → c.sqe.cdw11.getLsbD 0 = true → s.vwc = true → EndsWith t fsn .ok ∧
        t.cqu.feats = { s.cqu.feats with wce := true }) ∧
      (c.sqe.cdw10.toNat % 256 = 2 → 4 < c.sqe.cdw11.toNat % 32 → EndsWith t fsn .badField ∧ t.power = s.power) := by
  by_cases hfid : c.sqe.cdw10.toNat % 256 ∈ featureIds
  case neg =>
    have hno (n : Nat) (hn : n ∈ featureIds) : c.sqe.cdw10.toNat % 256 ≠ n := fun he => hfid (he ▸ hn)
    exact (exec_setFeatures_unknown h hfid data).imp fun t _ => ⟨fun he => absurd he (hno 1 (by decide)),
      fun he => absurd he (hno 8 (by decide)), fun he => absurd he (hno 11 (by decide)),
      fun he => absurd he (hno 6 (by decide)), fun he => absurd he (hno 2 (by decide))⟩
  rw [exec_setFeatures_known h hprp hsave hfid data, Goes_next]
  refine ⟨fun he => ?_, fun he => ?_, fun he => ?_, fun he hon hvwc => ?_, fun he hps => ?_⟩ <;> rw [he]
  · exact State.setFeats_endsWith h _
  · exact State.setFeats_endsWith h _
  · exact State.setFeats_endsWith h _
  · have hset : s.setFeature c 6 c.sqe.cdw11 data = (s.setFeats { s.cqu.feats with wce := true }).finish c.fsn .ok 0 0 := by
      change s.setWriteCache c (c.sqe.cdw11.getLsbD 0) = _
      rw [hon, State.setWriteCache, hvwc]
      rfl
    rw [hset]
    exact State.setFeats_endsWith h _
  · obtain ⟨hc, -, -, -⟩ := State.adm_spec h
    obtain rfl := State.fsn_of_cmd? hc
    have hset : s.setFeature c 2 c.sqe.cdw11 data = s.finish c.fsn .badField 0 0 := if_pos hps
    rw [hset]
    exact ⟨State.adm_endsWith h rfl _ _ _, State.finish_power _ _ _ _ _⟩

theorem exec_getFeatures (h : s.adm fsn 0x0A = some c) (hprp : s.badPrp c.sqe = false)
    (hsel : c.sqe.cdw10.toNat / 256 % 8 = 0) : Goes (exec (.getFeatures fsn) s) fun t =>
      (∀ v : Nat, (c.sqe.cdw10.toNat % 256, v) ∈ [(1, s.cqu.feats.arb.toNat), (6, if s.cqu.feats.wce then 1 else 0),
          (7, 63 + 63 * 65536), (8, s.cqu.feats.coal.toNat), (11, s.cqu.feats.aec), (2, s.get Reg.RCU.PWR.HOST_PS)] →
        EndsWith t fsn .ok ∧ (t.cmd? fsn).map (fun x => x.dw0) = some v) ∧ t.cqu.feats = s.cqu.feats := by
  obtain ⟨hc, -, hp, -⟩ := State.adm_spec h
  change Goes (execGetFeatures fsn s) _
  simp -zeta only [execGetFeatures, h]
  extract_lets fid sel d f s1
  have hcqu : s1.cqu = s.cqu := by
    simp only [s1]
    split
    · exact (s.toHost_reach _ _).cqu rfl
    · rfl
  have hfeats (u : State) (hu : u.cqu = s.cqu) (st : Status) (dw0 : Nat) :
      (u.finish fsn st dw0 0).cqu.feats = s.cqu.feats := by rw [State.finish_cqu, hu]
  by_cases hlist : fid ∈ [1, 6, 7, 8, 11, 2]
  · have hplain : fid ∈ featureIds ∧ fid ≠ 4 ∧ fid ≠ 9 := by
      revert hlist
      generalize fid = n
      intro hn
      fin_cases hn <;> decide
    obtain ⟨hid, h4, h9⟩ := hplain
    have hsel0 : sel = 0 := hsel
    have hf : f = s.cqu.feats := if_neg (by rw [hsel0]; decide)
    rw [if_neg (by simp [hprp, hid, h4, hsel0]), if_neg (fun hh => h9 hh.1), Goes_next, hf, hsel0]
    refine ⟨fun v hv => ⟨State.adm_endsWith h (by rw [hcqu]) _ _ _, ?_⟩, hfeats s1 hcqu _ _⟩
    rw [State.cmd?_finish (State.cmd?_congr hc (by rw [hcqu])) (by simp [hp])]
    simp only [List.mem_cons, List.not_mem_nil, or_false, Prod.mk.injEq] at hv
    change some (s.featureWord s.cqu.feats (0 == 1) (c.sqe.cdw10.toNat % 256) d) = some v
    rcases hv with ⟨he, rfl⟩ | ⟨he, rfl⟩ | ⟨he, rfl⟩ | ⟨he, rfl⟩ | ⟨he, rfl⟩ | ⟨he, rfl⟩ <;> rw [he] <;> rfl
  · have hno (v : Nat) : (fid, v) ∉ [(1, s.cqu.feats.arb.toNat), (6, if s.cqu.feats.wce then 1 else 0), (7, 63 + 63 * 65536),
        (8, s.cqu.feats.coal.toNat), (11, s.cqu.feats.aec), (2, s.get Reg.RCU.PWR.HOST_PS)] := fun hv =>
      hlist (List.mem_map_of_mem (f := Prod.fst) hv)
    refine Goes.imp (P := fun t => t.cqu.feats = s.cqu.feats) ?_ fun t ht => ⟨fun v hv => absurd hv (hno v), ht⟩
    split
    · exact (Goes_next _ _).2 (hfeats s rfl _ _)
    · split
      · exact (Goes_next _ _).2 (hfeats s rfl _ _)
      · exact (Goes_next _ _).2 (hfeats s1 hcqu _ _)

/-! ### Firmware images (R380). -/

theorem exec_firmwareImageDownload (h : s.adm fsn 0x11 = some c) (hprp : s.badPrp c.sqe = false) (data : Bytes) :
    Goes (exec (.firmwareImageDownload fsn data) s) fun t =>
      let n := (c.sqe.cdw10.toNat + 1) * 4
      let off := c.sqe.cdw11.toNat * 4
      if 0x400000 < off + n then EndsWith t fsn .badField ∧ t.nor = s.nor
      else if (s.nor.stage.any fun p => overlaps p.1 p.2.length off n) = true then EndsWith t fsn .overlap ∧ t.nor = s.nor
      else EndsWith t fsn .ok ∧ ∃ b : Bytes, b.length = n ∧ t.nor = { s.nor with stage := s.nor.stage ++ [(off, b)] } := by
  change Goes (execFirmwareImageDownload fsn data s) _
  simp -zeta only [execFirmwareImageDownload, h]
  extract_lets n off b nor
  by_cases hlong : 0x400000 < off + n
  · rw [if_pos (Or.inl hlong), Goes_next]
    exact (if_pos hlong).mpr ⟨State.adm_endsWith h rfl _ _ _, State.finish_nor _ _ _ _ _⟩
  rw [if_neg (by simpa [hprp] using hlong)]
  refine Goes.imp (P := fun t => if (s.nor.stage.any fun p => overlaps p.1 p.2.length off n) = true then
    EndsWith t fsn .overlap ∧ t.nor = s.nor else EndsWith t fsn .ok ∧
      ∃ b : Bytes, b.length = n ∧ t.nor = { s.nor with stage := s.nor.stage ++ [(off, b)] }) ?_ fun _ ht => ?_
  · by_cases hover : (s.nor.stage.any fun p => overlaps p.1 p.2.length off n) = true
    · rw [if_pos hover, Goes_next, if_pos hover]
      exact ⟨State.adm_endsWith h rfl _ _ _, State.finish_nor _ _ _ _ _⟩
    · rw [if_neg hover, Goes_next, if_neg hover]
      exact ⟨State.adm_endsWith h (by rfl) _ _ _, b, padTo_length _ _, State.finish_nor _ _ _ _ _⟩
  · exact (if_neg hlong).mpr ht

theorem Nor.copy?_setCopy (n : Nor) (fw : Bool) (c : Copy) (b : Option Bytes) : (n.setCopy fw c b).copy? fw c = b := by
  cases c <;> cases fw <;> rfl

theorem Nor.copy?_setCopy_other (n : Nor) (fw : Bool) (c : Copy) (b : Option Bytes) :
    (n.setCopy fw c b).copy? fw (otherCopy c) = n.copy? fw (otherCopy c) := by
  cases c <;> cases fw <;> rfl

theorem Nor.setCopy_stage (n : Nor) (fw : Bool) (c : Copy) (b : Option Bytes) : (n.setCopy fw c b).stage = n.stage := by
  cases c <;> cases fw <;> rfl

/-- The fallback copy holds the image once its read-back is good, and then the primary once its own is (R68). -/
theorem State.norWrite_nor (s : State) (fw : Bool) (b : Bytes) (bf bp : Bool) :
    (s.norWrite fw b bf bp).nor.stage = s.nor.stage ∧
    (bf = true → (s.norWrite fw b bf bp).nor.copy? fw (otherCopy s.primary) = some b ∧
      (bp = true → (s.norWrite fw b bf bp).nor.copy? fw s.primary = some b)) := by
  simp -zeta only [State.norWrite]
  extract_lets p n n1
  have hn : n.stage = s.nor.stage := Nor.setCopy_stage _ _ _ _
  cases bf with
  | false => exact ⟨hn, fun hbf => by simp at hbf⟩
  | true =>
    have hn1 : n1 = n.setCopy fw p (if bp then some b else none) := if_pos rfl
    refine ⟨?_, fun _ => ⟨?_, fun hbp => ?_⟩⟩
    · change n1.stage = _
      rw [hn1, Nor.setCopy_stage, hn]
    · change n1.copy? fw (otherCopy p) = _
      rw [hn1, Nor.copy?_setCopy_other]
      exact Nor.copy?_setCopy _ _ _ _
    · change n1.copy? fw p = _
      rw [hn1, Nor.copy?_setCopy, if_pos hbp]

theorem exec_firmwareCommit (h : s.adm fsn 0x10 = some c) (hbusy : s.opBusy = none) (hfs : c.sqe.cdw10.toNat % 8 ≤ 2)
    (hca : c.sqe.cdw10.toNat / 8 % 8 ≤ 3) (bf bp : Bool) : Goes (exec (.firmwareCommit fsn bf bp) s) fun t =>
      if c.sqe.cdw10.toNat / 8 % 8 = 2 then EndsWith t fsn .needsReset ∧ t.nor = s.nor
      else match s.stagedImage with
        | none => EndsWith t fsn .fwImage ∧ t.nor = { s.nor with stage := [] }
        | some (b, fw) =>
          if c.sqe.cdw10.toNat % 8 ≠ 0 ∧ fw ≠ decide (c.sqe.cdw10.toNat % 8 = 2) then
            EndsWith t fsn .fwImage ∧ t.nor = { s.nor with stage := [] }
          else t.nor.stage = [] ∧ (bf = false → EndsWith t fsn .fwImage) ∧
            (bf = true → t.nor.copy? fw (otherCopy s.primary) = some b ∧
              EndsWith t fsn (if c.sqe.cdw10.toNat / 8 % 8 = 0 then .ok else .needsReset) ∧
              (bp = true → t.nor.copy? fw s.primary = some b)) := by
  change Goes (execFirmwareCommit fsn bf bp s) _
  simp -zeta only [execFirmwareCommit, h, hbusy]
  extract_lets fs ca nor s1
  rw [if_neg (show ¬ ca > 3 from not_lt.2 hca), if_neg (show ¬ fs > 2 from not_lt.2 hfs)]
  change Goes _ fun t => if ca = 2 then _ else _
  by_cases h2 : ca = 2
  · rw [if_pos h2, Goes_next, if_pos h2]
    exact ⟨State.adm_endsWith h rfl _ _ _, State.finish_nor _ _ _ _ _⟩
  simp only [if_neg h2]
  have hdropped : EndsWith (s1.finish fsn .fwImage 0 0) fsn .fwImage ∧
      (s1.finish fsn .fwImage 0 0).nor = { s.nor with stage := [] } :=
    ⟨State.adm_endsWith h (by rfl) _ _ _, State.finish_nor _ _ _ _ _⟩
  cases s.stagedImage with
  | none =>
    rw [Goes_next]
    exact hdropped
  | some x =>
    obtain ⟨b, fw⟩ := x
    change Goes (if fs ≠ 0 ∧ fw ≠ decide (fs = 2) then _ else _) fun t => if fs ≠ 0 ∧ fw ≠ decide (fs = 2) then _ else _
    by_cases hkind : fs ≠ 0 ∧ fw ≠ decide (fs = 2)
    · rw [if_pos hkind, Goes_next, if_pos hkind]
      exact hdropped
    rw [if_neg hkind, Goes_next, if_neg hkind, State.finish_nor]
    obtain ⟨hstage, hcopies⟩ := s1.norWrite_nor fw b bf bp
    have hends (st : Status) : EndsWith ((s1.norWrite fw b bf bp).finish fsn st 0 0) fsn st := State.adm_endsWith h (by rfl) _ _ _
    refine ⟨hstage, fun hbf => ?_, fun hbf => ⟨(hcopies hbf).1, ?_, (hcopies hbf).2⟩⟩
    · subst hbf
      exact hends _
    · subst hbf
      exact hends _

end

/-- Settles O44: each command by the lemma of its step above. -/
theorem adminData : Obligations.AdminData := by
  unfold Obligations.AdminData
  exact fun s fsn c => ⟨fun h hprp => exec_identify h hprp, fun h hprp hlid => exec_getLogPage h hprp hlid,
    fun h hprp hsave data => exec_setFeatures h hprp hsave data, fun h hfid data => exec_setFeatures_unknown h hfid data,
    fun h hprp hsel => exec_getFeatures h hprp hsel, fun h hprp data => exec_firmwareImageDownload h hprp data,
    fun h hbusy hfs hca bf bp => exec_firmwareCommit h hbusy hfs hca bf bp⟩

end Sys2Proof.Machine
end

section
/-!
PROOFS. The vendor commands (R418 to R426, R428): O51.
-/

namespace Sys2Proof.Machine

theorem State.get_finish (s : State) (fsn : Nat) (st : Status) (dw0 dw1 : Nat) (f : Fld)
    (hf : Reg.CQU.ARBITER.COMMITTED.apart f = true) : (s.finish fsn st dw0 dw1).get f = s.get f := by
  unfold State.finish
  split
  · rfl
  · split
    · rfl
    · exact State.get_bump_apart _ _ _ _ hf

/-! ### Starting (R418, R419, R422, R425). -/

section
variable {s : State} {fsn : Nat} {c : Cmd}

theorem exec_scan (h : s.ioCmd fsn 0x82 = some c) (hv : c.vendor = none) (hcf : s.computeFailed = false)
    (hflips : s.buf.flips = []) : Goes (exec (.scan fsn) s) fun t =>
      if 2 ≤ s.vendorCount true then t = s
      else if scanOk (s.winRead (sqeDesc c.sqe) 512) (c.sqe.cdw14.toNat % 0x800) = true then
        (t.cmd? fsn).map (fun x => x.vendor.map fun v => (v.next, v.pieces, v.active, v.desc, v.matched)) =
          some (some (0, ceilDiv (s.vendorBlocks c.sqe) 1024, true, s.winRead (sqeDesc c.sqe) 512, 0))
      else EndsWith t fsn .badField ∧ t.get Reg.NDC.ERRORS.DESC_REJ =
        min (s.get Reg.NDC.ERRORS.DESC_REJ + 1) (2 ^ Reg.NDC.ERRORS.DESC_REJ.width - 1) := by
  obtain ⟨hc, -, hp, -⟩ := State.ioCmd_spec h
  obtain rfl := State.fsn_of_cmd? hc
  change Goes (execScan c.fsn s) _
  simp only [execScan, h, hv, hcf, State.firstBad_noFlips hflips, Option.isSome_none, Bool.false_eq_true, if_false]
  by_cases hrun : 2 ≤ s.vendorCount true
  · rw [if_pos hrun, Goes_next, if_pos hrun]
  rw [if_neg hrun]
  simp only [if_neg hrun]
  by_cases hok : scanOk (s.winRead (sqeDesc c.sqe) 512) (c.sqe.cdw14.toNat % 0x800) = true
  · rw [if_neg (by rw [hok]; decide), Goes_next, if_pos hok, State.cmd?_setCmd hc (by rfl), Option.map_some,
      Option.map_some, State.newRun]
  · rw [if_pos (by simpa using hok), Goes_next, if_neg hok]
    refine ⟨State.finish_endsWith (State.cmd?_congr hc (by rw [State.bump_cqu])) (by simp [hp]) _ _ _, ?_⟩
    rw [State.get_finish _ _ _ _ _ _ (by decide), State.get_bump_self _ _ _ (by decide)]

theorem State.peerStart_starts {op : Byte} (h : s.ioCmd fsn op = some c) (hv : c.vendor = none) (hcf : s.computeFailed = false) :
    if 4 ≤ s.vendorCount false then s.peerStart fsn op = s
    else ((s.peerStart fsn op).cmd? fsn).map (fun x => x.vendor.map fun v => (v.next, v.pieces, v.chan, v.active)) =
        some (some (0, ceilDiv (s.vendorBlocks c.sqe) 1024, s.peerChan, true)) ∧
      (s.peerStart fsn op).get (Reg.DMA.RING_CFG.RATE s.peerChan) = s.peerRate c.sqe % 256 := by
  obtain ⟨hc, -, -, -⟩ := State.ioCmd_spec h
  obtain rfl := State.fsn_of_cmd? hc
  have hstart : s.peerStart c.fsn op = if 4 ≤ s.vendorCount false then s else
      (s.setCmd { c with vendor := some (s.newRun c.sqe s.peerChan []), passed := op != 0x88 }).put
        (Reg.DMA.RING_CFG.RATE s.peerChan) (s.peerRate c.sqe) := by
    simp only [State.peerStart, h, hv, hcf, Option.isSome_none, Bool.false_eq_true, if_false, ge_iff_le]
  rw [hstart]
  split
  · rfl
  · refine ⟨?_, State.get_put_self _ _ _ (Nat.le_of_ble_eq_true rfl)⟩
    let c1 : Cmd := { c with vendor := some (s.newRun c.sqe s.peerChan []), passed := op != 0x88 }
    have hset : (s.setCmd c1).cmd? c.fsn = some c1 := State.cmd?_setCmd hc rfl
    rw [State.cmd?_congr (t := (s.setCmd c1).put _ _) hset (by rw [State.put_cqu])]
    rfl

theorem exec_peer {i : Instr × Byte} (hi : i ∈ [(Instr.peerOut fsn, (0x84 : Byte)), (.peerIn fsn, 0x88)]) :
    exec i.1 s = .next (s.peerStart fsn i.2) := by
  simp only [List.mem_cons, List.not_mem_nil, or_false] at hi
  obtain rfl | rfl := hi <;> rfl

theorem exec_vendor_failed {i : Instr} {op : Byte}
    (hi : (i, op) ∈ [(Instr.scan fsn, (0x82 : Byte)), (.peerOut fsn, 0x84), (.peerIn fsn, 0x88)]) (h : s.ioCmd fsn op = some c)
    (hv : c.vendor = none) (hcf : s.computeFailed = true) : Goes (exec i s) fun t => EndsWith t fsn .badOpcode := by
  obtain ⟨hc, -, hp, -⟩ := State.ioCmd_spec h
  have hexec : exec i s = .next (s.finish fsn .badOpcode 0 0) := by
    simp only [List.mem_cons, List.not_mem_nil, or_false, Prod.mk.injEq] at hi
    obtain ⟨rfl, rfl⟩ | ⟨rfl, rfl⟩ | ⟨rfl, rfl⟩ := hi
    · change execScan fsn s = _
      simp only [execScan, h, hv, hcf, Option.isSome_none, Bool.false_eq_true, if_false, if_true]
    · rw [exec_peer (i := (.peerOut fsn, 0x84)) List.mem_cons_self]
      simp only [State.peerStart, h, hv, hcf, Option.isSome_none, Bool.false_eq_true, if_false, if_true]
    · rw [exec_peer (i := (.peerIn fsn, 0x88)) (List.mem_cons_of_mem _ List.mem_cons_self)]
      simp only [State.peerStart, h, hv, hcf, Option.isSome_none, Bool.false_eq_true, if_false, if_true]
  rw [hexec, Goes_next]
  exact State.finish_endsWith hc (by simp [hp]) _ _ _

end

/-! ### Pieces (R424). -/

theorem scanBlock_pieces (outMax : Nat) (v : VendorRun) (b : Bytes) : (scanBlock outMax v b).pieces = v.pieces :=
  List.foldlRecOn (motive := fun w : VendorRun => w.pieces = v.pieces) _ _ rfl fun w hw rec _ => by
    unfold scanRecord
    dsimp only
    split <;> exact hw

/-- What one block adds to a SCAN, and whether it has failed. -/
def scanStep (outMax : Nat) (skip : Bool) (a : VendorRun × Bool) : Option Bytes → VendorRun × Bool
  | some x => if a.2 then a else (scanBlock outMax a.1 x, false)
  | none => if skip then ({ a.1 with lost := a.1.lost + 1 }, a.2) else (a.1, true)

/-- A scan over blocks that can all be read takes each of them. -/
theorem foldl_scanStep_readable (outMax : Nat) (skip : Bool) (bs : List (Option Bytes)) (v : VendorRun)
    (h : bs.any Option.isNone = false) :
    bs.foldl (scanStep outMax skip) (v, false) = ((bs.filterMap id).foldl (scanBlock outMax) v, false) := by
  induction bs generalizing v with
  | nil => rfl
  | cons b bs ih =>
    cases b with
    | none => simp at h
    | some x => exact ih _ (by simpa using h)

/-- A piece of a SCAN whose data arrive, by its blocks. -/
theorem State.scanPiece_ok (s : State) (c : Cmd) (v : VendorRun) (bl : List (Option Bytes)) :
    s.scanPiece c v bl .ok =
      let bs := s.pieceBlocks (s.piece c v.next) bl
      let s1 := (s.takeFsn.countDec bs.length).countScan bs.length
      let v1 := bs.foldl (scanStep (c.sqe.cdw14.toNat % 0x800 * 4096) (byteAt v.desc 5 / 4 % 2 == 1)) (v, false)
      let v2 := { v1.1 with next := v.next + 1 }
      if v1.2 then s1.scanDone c v2 .unrecovered
      else if v2.next ≥ v2.pieces then s1.scanDone c v2 .ok else s1.setCmd { c with vendor := some v2 } := rfl

/-- A SCAN that completes reports what matched. -/
theorem State.scanDone_ok {s : State} {c : Cmd} (hc : s.cmd? c.fsn = some c) (hp : c.phase ≠ .committed) (v : VendorRun) :
    EndsWith (s.scanDone c v .ok) c.fsn .ok ∧
      ((s.scanDone c v .ok).cmd? c.fsn).map (fun x => x.dw0) = some (min v.matched 0xFFFFFFFF) := by
  simp -zeta only [State.scanDone]
  extract_lets inv res entry s1 s2 cqu s3 s4
  have h1 : Only [.buf, .slot 12] s s1 := State.winWrite_only _ _ _ (Only.refl _ _) rfl rfl
  have h2 : s2.cqu = s1.cqu := by
    simp only [s2]
    split
    · rfl
    · exact (State.toHost_reach _ _ _).cqu rfl
  have h4 : s4.cqu.store = s.cqu.store := by
    simp only [s4]
    rw [State.bump_cqu]
    split
    · rw [State.bump_cqu]
      change s2.cqu.store = _
      rw [h2, h1.cqu rfl]
    · change s2.cqu.store = _
      rw [h2, h1.cqu rfl]
  have hc4 := State.cmd?_congr hc h4
  rw [if_neg (by decide)]
  exact ⟨State.finish_endsWith hc4 hp _ _ _, by rw [State.cmd?_finish hc4 hp]; rfl⟩

theorem State.countScan_store (s : State) (n : Nat) : (s.countScan n).cqu.store = s.cqu.store := by
  unfold State.countScan
  dsimp only
  rw [State.bump_cqu]

theorem State.countPeer_store (s : State) (out : Bool) (n : Nat) : (s.countPeer out n).cqu.store = s.cqu.store := by
  unfold State.countPeer
  split <;>
  · dsimp only
    rw [State.bump_cqu]

theorem State.countPeer_hpt (s : State) (out : Bool) (n : Nat) : (s.countPeer out n).hpt = s.hpt := by
  unfold State.countPeer
  split <;>
  · dsimp only
    rw [State.bump_hpt]

section
variable {s : State} {fsn : Nat} {c : Cmd} {v : VendorRun} (hc : s.cmd? fsn = some c) (hv : c.vendor = some v)
  (hp : c.phase ≠ .committed) (hst : c.status = none) (hn : v.next < v.pieces) (hd : s.get Reg.HPT.LINK.DSTATE ≠ 3)
  (hord : s.ordered (s.piece c v.next) = true) (bl : List (Option Bytes))
include hc hv hp hst hn hd hord

/-- The piece whose turn has come runs. -/
theorem exec_vendorPiece (xfer : Xfer) : exec (.vendorPiece fsn bl xfer) s =
    if c.sqe.opc = 0x82 then
      if s.get Reg.RCU.PWR.THERM_LEVEL ≥ 2 then .next s else .next (s.scanPiece c v bl xfer)
    else if c.sqe.opc = 0x84 then .next (s.outPiece c v bl xfer)
    else .next (s.inPiece c v bl xfer) := by
  change execVendorPiece fsn bl xfer s = _
  simp only [execVendorPiece, hc, hv]
  exact if_neg (by simp [hp, hst, hn, hd, hord])

theorem exec_scanPiece_last (hop : c.sqe.opc = 0x82) (hth : s.get Reg.RCU.PWR.THERM_LEVEL < 2)
    (hbs : (s.pieceBlocks (s.piece c v.next) bl).any Option.isNone = false) (hlast : v.pieces = v.next + 1) :
    Goes (exec (.vendorPiece fsn bl .ok) s) fun t => EndsWith t fsn .ok ∧ (t.cmd? fsn).map (fun x => x.dw0) = some
      (min (((s.pieceBlocks (s.piece c v.next) bl).filterMap id).foldl (scanBlock (c.sqe.cdw14.toNat % 0x800 * 4096)) v).matched
        0xFFFFFFFF) := by
  obtain rfl := State.fsn_of_cmd? hc
  rw [exec_vendorPiece hc hv hp hst hn hd hord, if_pos hop, if_neg (not_le.2 hth), Goes_next]
  generalize hscan : ((s.pieceBlocks (s.piece c v.next) bl).filterMap id).foldl
    (scanBlock (c.sqe.cdw14.toNat % 0x800 * 4096)) v = w
  have hpieces : w.pieces = v.pieces := by
    rw [← hscan]
    exact List.foldlRecOn (motive := fun u : VendorRun => u.pieces = v.pieces) _ _ rfl fun u hu b _ =>
      (scanBlock_pieces _ u b).trans hu
  generalize hs1 : (s.takeFsn.countDec (s.pieceBlocks (s.piece c v.next) bl).length).countScan
    (s.pieceBlocks (s.piece c v.next) bl).length = s1
  have hstore : s1.cqu.store = s.cqu.store := by
    rw [← hs1, State.countScan_store, State.countDec_cqu]
    rfl
  have hdone : s.scanPiece c v bl .ok = s1.scanDone c { w with next := v.next + 1 } .ok := by
    rw [State.scanPiece_ok]
    simp only [foldl_scanStep_readable _ _ _ _ hbs, hscan, hs1, Bool.false_eq_true, if_false]
    exact if_pos (by rw [hpieces, hlast])
  rw [hdone]
  exact State.scanDone_ok (State.cmd?_congr hc hstore) hp _

/-- The blocks of a piece that has been read go to peer memory. -/
theorem exec_outPiece (hop : c.sqe.opc = 0x84) (hbs : (s.pieceBlocks (s.piece c v.next) bl).any Option.isNone = false)
    (hpm : s.get Reg.HPT.LINK.PM_LINK ≠ 4) (hbar : inBar s.hpt.bar2 0x10000000 (peerAddr c v.next) = false) :
    Goes (exec (.vendorPiece fsn bl .ok) s) fun t => t.hpt.out = s.hpt.out ++
        [.memWrite (peerAddr c v.next) ((s.pieceBlocks (s.piece c v.next) bl).flatMap fun b => b.getD [])] ∧
      (if v.pieces = v.next + 1 then EndsWith t fsn .ok
        else (t.cmd? fsn).map (fun x => x.vendor.map fun y => y.next) = some (some (v.next + 1))) := by
  obtain rfl := State.fsn_of_cmd? hc
  rw [exec_vendorPiece hc hv hp hst hn hd hord, if_neg (by rw [hop]; decide), if_pos hop, Goes_next]
  simp -zeta only [State.outPiece, xferStatus]
  extract_lets p bs s1 data at_ s2 s3
  have hreg (f : Fld) (hf : Reg.HPT.XTS.DEC.apart f = true) : s1.get f = s.get f := by
    simp only [s1, State.countDec]
    exact State.get_bump_apart _ _ _ _ hf
  have hcqu1 : s1.cqu.store = s.cqu.store := by rw [show s1.cqu = s.takeFsn.cqu from State.countDec_cqu _ _]; rfl
  have h2 : s2 = s1.send (.memWrite at_ data) := if_neg (by rw [show at_ = peerAddr c v.next from rfl, hbar]; decide)
  have hcqu3 : s3.cqu.store = s.cqu.store := by
    rw [State.countPeer_store, h2, State.send_cqu, hcqu1]
  have hout : s3.hpt.out = s.hpt.out ++ [.memWrite at_ data] := by
    rw [State.countPeer_hpt, h2, State.send_out _ _ (by rw [hreg _ (by decide)]; exact hd)
      (by rw [hreg _ (by decide)]; exact hpm)]
    exact congrArg (· ++ _) (State.countDec_out s.takeFsn _)
  have hc3 := State.cmd?_congr hc hcqu3
  rw [if_neg (by rw [show bs.any Option.isNone = false from hbs]; decide)]
  by_cases hlast : v.pieces = v.next + 1
  · rw [if_pos (show v.next + 1 ≥ v.pieces from hlast.le), if_pos hlast, State.finish_hpt]
    exact ⟨hout, State.finish_endsWith hc3 hp _ _ _⟩
  · rw [if_neg (show ¬ v.next + 1 ≥ v.pieces by omega), if_neg hlast, State.cmd?_setCmd hc3 (by rfl)]
    exact ⟨hout, rfl⟩

/-- A PCIe error ends a peer command (R426). -/
theorem exec_vendorPiece_pcieError (hop : c.sqe.opc = 0x84 ∨ c.sqe.opc = 0x88)
    (hbs : (s.pieceBlocks (s.piece c v.next) bl).any Option.isNone = false) :
    Goes (exec (.vendorPiece fsn bl .pcieError) s) fun t => EndsWith t fsn .dataXfer ∧ t.get Reg.PTX.ERRORS.PCIE_ERR =
      min (s.get Reg.PTX.ERRORS.PCIE_ERR + 1) (2 ^ Reg.PTX.ERRORS.PCIE_ERR.width - 1) := by
  obtain rfl := State.fsn_of_cmd? hc
  have hends (u : State) (hstore : u.cqu.store = s.cqu.store)
      (hget : u.get Reg.PTX.ERRORS.PCIE_ERR = min (s.get Reg.PTX.ERRORS.PCIE_ERR + 1) (2 ^ Reg.PTX.ERRORS.PCIE_ERR.width - 1)) :
      EndsWith (u.finish c.fsn .dataXfer 0 0) c.fsn .dataXfer ∧ (u.finish c.fsn .dataXfer 0 0).get Reg.PTX.ERRORS.PCIE_ERR =
        min (s.get Reg.PTX.ERRORS.PCIE_ERR + 1) (2 ^ Reg.PTX.ERRORS.PCIE_ERR.width - 1) :=
    ⟨State.finish_endsWith (State.cmd?_congr hc hstore) hp _ _ _, by rw [State.get_finish _ _ _ _ _ _ (by decide), hget]⟩
  rw [exec_vendorPiece hc hv hp hst hn hd hord]
  obtain hop | hop := hop
  · rw [if_neg (by rw [hop]; decide), if_pos hop, Goes_next]
    have hpiece : s.outPiece c v bl .pcieError = ((s.takeFsn.countDec (s.pieceBlocks (s.piece c v.next) bl).length).bump
        Reg.PTX.ERRORS.PCIE_ERR 1).finish c.fsn .dataXfer 0 0 := by
      simp only [State.outPiece, hbs, xferStatus, Bool.false_eq_true, if_false, if_true]
    rw [hpiece]
    refine hends _ ?_ ?_
    · rw [State.bump_cqu, State.countDec_cqu]
      rfl
    · rw [State.get_bump_self _ _ _ (by decide), State.countDec, State.get_bump_apart _ _ _ _ (by decide)]
      rfl
  · rw [if_neg (by rw [hop]; decide), if_neg (by rw [hop]; decide), Goes_next]
    have hpiece : s.inPiece c v bl .pcieError =
        ((s.bump Reg.PTX.ERRORS.PCIE_ERR 1).takeFsn).finish c.fsn .dataXfer 0 0 := by
      simp only [State.inPiece, xferStatus, if_true]
    rw [hpiece]
    refine hends _ ?_ ?_
    · change (s.bump _ _).cqu.store = _
      rw [State.bump_cqu]
    · exact State.get_bump_self _ _ _ (by decide)

end

/-- Settles O51: the starts, and each kind of piece by the lemma above. -/
theorem vendorCommands : Obligations.VendorCommands := by
  unfold Obligations.VendorCommands
  refine fun s fsn c => ⟨fun h hv hcf hflips => exec_scan h hv hcf hflips, fun i hi h hv hcf => ?_,
    fun i op hi h hv hcf => exec_vendor_failed hi h hv hcf, fun v bl hc hv hp hst hn hd hord =>
      ⟨fun hop hth hbs hlast => exec_scanPiece_last hc hv hp hst hn hd hord bl hop hth hbs hlast,
        fun hop hbs hpm hbar => exec_outPiece hc hv hp hst hn hd hord bl hop hbs hpm hbar,
        fun hop hbs => exec_vendorPiece_pcieError hc hv hp hst hn hd hord bl hop hbs⟩⟩
  rw [exec_peer hi, Goes_next]
  have hstart := State.peerStart_starts h hv hcf
  exact hstart

end Sys2Proof.Machine
end

section
/-!
PROOFS. Sanitize, Format NVM and the certificate chain (R449, R458 to R468): O52.
-/

namespace Sys2Proof.Machine

/-! ### The progress record (R467). -/

/-- The record that a device of the Chest takes. -/
theorem State.progressTo_ok {s : State} (h : s.chest.writeOk.any id = true) (p : Progress) :
    s.progressTo p = { s with chest := { s.chest with progress := some { p with seq := p.seq + 1 } } } := if_pos h

/-! ### The layout depends on the configuration and the defect map (R331, R332). -/

section
variable {s t : State} (hd : t.defects = s.defects)
include hd

theorem State.liveSlots_congr (g : GeomCfg) (h : Nat) : t.liveSlots g h = s.liveSlots g h := by
  funext k
  unfold State.liveSlots State.trackSlots State.descOf
  rw [hd]

theorem State.areaTracks_congr (g : GeomCfg) (h k need : Nat) : t.areaTracks g h k need = s.areaTracks g h k need := by
  induction k generalizing need with
  | zero => rfl
  | succ k ih => rw [State.areaTracks, State.areaTracks, State.liveSlots_congr hd, ih]

theorem State.physZones_congr : t.physZones = s.physZones := by
  funext g
  simp only [State.physZones, State.bands, State.reservedTrack, State.areaTracks_congr hd, State.liveSlots_congr hd]

theorem State.newLayout_congr (hc : t.cfg = s.cfg) (d : Word) : t.newLayout d = s.newLayout d := by
  rw [State.newLayout, State.physZones_congr hd, hc, State.newLayout]

end
/-! ### Sanitize and Format NVM begin (R459, R464, R466). -/

section
variable {s : State} {fsn : Nat} {c : Cmd}

theorem exec_overwrite (h : s.adm fsn 0x84 = some c) : exec (.overwrite fsn) s = .next (s.sanitize fsn 3) := by
  change Host.Outcome.next (if _ then _ else _) = _
  rw [h, if_neg (by simp)]

theorem exec_cryptographicErase (h : s.adm fsn 0x84 = some c) :
    exec (.cryptographicErase fsn) s = .next (s.sanitize fsn 4) := by
  change Host.Outcome.next (if _ then _ else _) = _
  rw [h, if_neg (by simp)]

theorem State.sanitize_exitFailure (h : s.adm fsn 0x84 = some c) (ha : c.sqe.cdw10.toNat % 8 = 1)
    (h9 : c.sqe.cdw10.getLsbD 9 = false) : s.sanitize fsn 1 = s.finish fsn .ok 0 0 := by
  simp only [State.sanitize, h, ha, if_true]
  rw [if_neg (by simp), if_neg (by rw [h9]; decide)]

theorem State.sanitize_busy (h : s.adm fsn 0x84 = some c) {act : Nat} (ha : c.sqe.cdw10.toNat % 8 = act) (h1 : act ≠ 1)
    {st : Status} (hb : s.opBusy = some st) : s.sanitize fsn act = s.finish fsn st 0 0 := by
  simp only [State.sanitize, h, ha, hb, if_neg h1]
  rw [if_neg (by simp)]

theorem State.sanitize_starts (h : s.adm fsn 0x84 = some c) {act : Nat} (ha : c.sqe.cdw10.toNat % 8 = act) (h1 : act ≠ 1)
    (h9 : c.sqe.cdw10.getLsbD 9 = false) (hb : s.opBusy = none) :
    s.sanitize fsn act = (s.exitPs.setCmd { c with phase := .ready }).opStart := by
  simp only [State.sanitize, h, ha, hb, if_neg h1]
  rw [if_neg (by simp), if_neg (by rw [h9]; simp)]

/-- With no I/O, no operation and no transition, the command starts as soon as it waits. -/
theorem State.opStart_next (hc : s.cmd? fsn = some c) (hq : c.sqid = 0) (hop : c.sqe.opc = 0x80 ∨ c.sqe.opc = 0x84)
    (hrun : s.bur.running = false) (hio : s.ioCount = 0) (ht : s.power.trans = none) (he : s.get Reg.RCU.PWR.EFFECTIVE < 3)
    (hready : ∀ d ∈ s.cqu.store, d.phase ≠ .ready) :
    (s.exitPs.setCmd { c with phase := .ready }).opStart =
      (let u := s.setCmd { c with phase := .ready }
       if c.sqe.opc = 0x80 then
        match u.newLayout c.sqe.cdw10 with
        | none => u.finish c.fsn .badFormat 0 0
        | some l => (u.setCmd { c with phase := .admitted }).opBegin 3 c.sqe.cdw10 0 l
      else
        match u.zmu.layout with
        | none => u.finish c.fsn (.notReady true) 0 0
        | some l =>
          (u.opBegin (if c.sqe.cdw10.toNat % 8 = 3 then 1 else 2) c.sqe.cdw10 c.sqe.cdw11 l).finish c.fsn .ok 0 0) := by
  obtain rfl := State.fsn_of_cmd? hc
  let c1 : Cmd := { c with phase := .ready }
  let u := s.setCmd c1
  let waits (d : Cmd) : Bool := d.sqid == 0 && (d.sqe.opc == 0x80 || d.sqe.opc == 0x84) && d.phase == .ready
  have hexit : s.exitPs = s := by
    rw [State.exitPs, ht]
    exact if_pos (Or.inr ⟨by decide, he⟩)
  have hwaits : waits c1 = true := by
    simp only [waits, c1, hq]
    obtain h | h := hop <;> simp [h]
  have hfind : u.cqu.store.find? waits = some c1 := by
    change (s.cqu.store.map fun d => if d.fsn = c.fsn then c1 else d).find? waits = _
    have hkey : s.cqu.store.find? (waits ∘ fun d => if d.fsn = c.fsn then c1 else d) = s.cmd? c.fsn := by
      refine List.find?_congr fun d hd => ?_
      by_cases hf : d.fsn = c.fsn
      · simp [hf, hwaits]
      · have hphase : (d.phase == .ready) = false := by simpa using hready d hd
        simp only [Function.comp_apply, if_neg hf, waits, hphase, Bool.and_false, beq_eq_false_iff_ne.2 hf]
    rw [List.find?_map, hkey, hc, Option.map_some, if_pos rfl]
  have hio1 : u.ioCount = 0 := by
    rw [State.ioCount, List.length_eq_zero_iff, List.filter_eq_nil_iff] at hio ⊢
    intro x hx
    obtain ⟨d, hd, rfl⟩ := List.mem_map.1 hx
    split
    · simp [c1, Cmd.isIo, hq]
    · exact hio d hd
  have hidle : ¬ (u.bur.running = true ∨ u.ioCount ≠ 0 ∨ u.power.trans.isSome = true ∨ u.get Reg.RCU.PWR.EFFECTIVE ≥ 3) := by
    rw [show u.bur = s.bur from rfl, show u.power = s.power from rfl, hrun, hio1, ht]
    rintro (h | h | h | h)
    · cases h
    · exact h rfl
    · cases h
    · exact absurd (lt_of_lt_of_le he h) (lt_irrefl _)
  rw [hexit]
  change u.opStart = _
  rw [State.opStart, if_neg hidle, show u.cqu.store.find? _ = some c1 from hfind] <;> rfl

end

/-- An operation's first record (R460 step 1). -/
theorem State.opBegin_begins {s : State} (h : s.chest.writeOk.any id = true) (op : Nat) (cdw10 pattern : Word) (l : Layout) :
    (s.opBegin op cdw10 pattern l).cqu = s.cqu ∧ (s.opBegin op cdw10 pattern l).bur.running = true ∧
    (op ≠ 3 → (s.opBegin op cdw10 pattern l).bur.sstat = 2) ∧
    (s.opBegin op cdw10 pattern l).chest.progress.map (fun p => (p.op, p.step, p.cdw10, p.pattern, p.layout)) =
      some (op, 1, cdw10, pattern, l) := by
  simp -zeta only [State.opBegin]
  extract_lets seq p bur s1
  rw [State.progressTo_ok (s := s1) h p]
  exact ⟨rfl, rfl, fun hop => if_neg hop, rfl⟩

section
variable {s : State} {fsn : Nat} {c : Cmd} {l : Layout} (hrun : s.bur.running = false) (hio : s.ioCount = 0)
  (ht : s.power.trans = none) (he : s.get Reg.RCU.PWR.EFFECTIVE < 3) (hready : ∀ d ∈ s.cqu.store, d.phase ≠ .ready)
  (hw : s.chest.writeOk.any id = true)
include hrun hio ht he hready hw

theorem State.sanitize_begins (h : s.adm fsn 0x84 = some c) (h9 : c.sqe.cdw10.getLsbD 9 = false) (hb : s.opBusy = none)
    (hl : s.zmu.layout = some l) {act : Nat} (ha : c.sqe.cdw10.toNat % 8 = act) (h1 : act ≠ 1) :
    EndsWith (s.sanitize fsn act) fsn .ok ∧ (s.sanitize fsn act).bur.running = true ∧ (s.sanitize fsn act).bur.sstat = 2 ∧
    (s.sanitize fsn act).chest.progress.map (fun p => (p.op, p.step, p.cdw10, p.pattern, p.layout)) =
      some (if act = 3 then 1 else 2, 1, c.sqe.cdw10, c.sqe.cdw11, l) := by
  obtain ⟨hc, hq, -, hop⟩ := State.adm_spec h
  obtain rfl := State.fsn_of_cmd? hc
  let c1 : Cmd := { c with phase := .ready }
  let u := s.setCmd c1
  have hu : u.cmd? c.fsn = some c1 := State.cmd?_setCmd hc rfl
  have hlu : u.zmu.layout = some l := hl
  have heq : s.sanitize c.fsn act =
      (u.opBegin (if act = 3 then 1 else 2) c.sqe.cdw10 c.sqe.cdw11 l).finish c.fsn .ok 0 0 := by
    rw [State.sanitize_starts h ha h1 h9 hb, State.opStart_next hc hq (Or.inr hop) hrun hio ht he hready]
    dsimp only
    rw [if_neg (by rw [hop]; decide), show (s.setCmd _).zmu.layout = some l from hl, ha]
  obtain ⟨hcqu, hrunning, hsstat, hrec⟩ :=
    State.opBegin_begins (s := u) hw (if act = 3 then 1 else 2) c.sqe.cdw10 c.sqe.cdw11 l
  rw [heq, State.finish_bur, State.finish_chest]
  exact ⟨State.finish_endsWith (State.cmd?_congr hu (by rw [hcqu])) (by simp [c1]) _ _ _, hrunning,
    hsstat (by split <;> decide), hrec⟩

theorem exec_formatNvm_begins (h : s.adm fsn 0x80 = some c) (hns : c.sqe.nsid = 0xFFFFFFFF) (hb : s.opBusy = none)
    (hses : fmtSes c.sqe.cdw10 ≤ 2) (hlo : c.sqe.cdw10.toNat % 512 ≤ 1) (hhi : c.sqe.cdw10.toNat / 0x1000 % 4 = 0)
    (hl : s.newLayout c.sqe.cdw10 = some l) : Goes (exec (.formatNvm fsn) s) fun t =>
      (t.cmd? fsn).map (fun x => x.phase) = some .admitted ∧ t.bur.running = true ∧
      t.chest.progress.map (fun p => (p.op, p.step, p.layout)) = some (3, 1, l) := by
  obtain ⟨hc, hq, -, hop⟩ := State.adm_spec h
  obtain rfl := State.fsn_of_cmd? hc
  let u := s.setCmd { c with phase := .ready }
  let c2 : Cmd := { c with phase := .admitted }
  have hu : u.cmd? c.fsn = some { c with phase := .ready } := State.cmd?_setCmd hc rfl
  have hu2 : (u.setCmd c2).cmd? c.fsn = some c2 := State.cmd?_setCmd hu rfl
  have hlayout : ¬ (c.sqe.cdw10.toNat % 512 > 1 ∨ c.sqe.cdw10.toNat / 0x1000 % 4 ≠ 0 ∨
      (s.newLayout c.sqe.cdw10).isNone = true) := by
    rw [hl]
    rintro (h | h | h)
    · exact absurd h (not_lt.2 hlo)
    · exact h hhi
    · cases h
  have hlu : (s.setCmd { c with phase := .ready }).newLayout c.sqe.cdw10 = some l :=
    (State.newLayout_congr (State.setCmd_defects _ _) (State.setCmd_cfg _ _) _).trans hl
  have hexec : exec (.formatNvm c.fsn) s = .next ((u.setCmd c2).opBegin 3 c.sqe.cdw10 0 l) := by
    change execFormatNvm c.fsn s = _
    simp only [execFormatNvm, h, hb]
    rw [if_neg (fun hn => hn.1 hns), if_neg (not_lt.2 hses), if_neg hlayout,
      State.opStart_next hc hq (Or.inl hop) hrun hio ht he hready]
    dsimp only
    rw [if_pos hop, hlu]
  obtain ⟨hcqu, hrunning, -, hrec⟩ := State.opBegin_begins (s := u.setCmd c2) hw 3 c.sqe.cdw10 0 l
  rw [hexec, Goes_next]
  refine ⟨?_, hrunning, ?_⟩
  · rw [State.cmd?_congr hu2 (by rw [hcqu])]
    rfl
  · have hpart := congrArg (Option.map fun q : Nat × Nat × Word × Word × Layout => (q.1, q.2.1, q.2.2.2.2)) hrec
    rwa [Option.map_map] at hpart

end

/-! ### Its steps (R460, R463, R468). -/

/-- What a step does, before its record. -/
def State.stepWork (s : State) (p : Progress) (n : Nat) : State × Progress :=
  if n = 2 then (s.discardAll, p)
  else if n = 3 then s.drawKeys p
  else if n = 4 then (s.resetMap p, p)
  else if n = 5 then (s.eraseChest p, p)
  else if n = 6 then (s.checkpointKeys p, p)
  else (s, p)

theorem State.drawKeys_op (s : State) (p : Progress) : (s.drawKeys p).2.op = p.op :=
  List.foldlRecOn (motive := fun a : State × Progress => a.2.op = p.op) _ _ rfl fun _ ha _ _ => ha

theorem State.stepWork_op (s : State) (p : Progress) (n : Nat) : (s.stepWork p n).2.op = p.op := by
  unfold State.stepWork
  split_ifs
  · rfl
  · exact State.drawKeys_op s p
  all_goals rfl

theorem State.eraseChest_writeOk (s : State) (p : Progress) : (s.eraseChest p).chest.writeOk = s.chest.writeOk := rfl

theorem State.stepWork_writeOk (s : State) (p : Progress) (n : Nat) :
    (s.stepWork p n).1.chest.writeOk = s.chest.writeOk := by
  have hdraw : Only [.freeCount] s (s.drawKeys p).1 := State.drawKeys_only _ _ (Only.refl _ _) rfl
  have hreset : Only [.stripe, .zmu, .cqu, .crd, .slot 9, .slot 14] s (s.resetMap p) :=
    State.resetMap_only _ _ (Only.refl _ _) rfl rfl rfl rfl rfl rfl
  have hcheck : Only [.stripe, .core, .zmu, .hpt, .slot 8] s (s.checkpointKeys p) :=
    State.checkpointKeys_only _ _ (Only.refl _ _) rfl rfl rfl rfl rfl
  unfold State.stepWork
  split_ifs
  · rfl
  · rw [hdraw.chest rfl]
  · rw [hreset.chest rfl]
  · rfl
  · rw [hcheck.chest rfl]
  · rfl

/-- The record of a step that has been done. -/
def State.stepRecord (s : State) (p : Progress) (n : Nat) : State :=
  { (s.stepWork p n).1 with chest := { (s.stepWork p n).1.chest with
      progress := some { (s.stepWork p n).2 with step := n, seq := (s.stepWork p n).2.seq + 1 } } }

theorem State.opStep_eq {s : State} {p : Progress} {n : Nat} (hp : s.chest.progress = some p) (hrun : s.bur.running = true)
    (hn : s.nextStep p = some n) (hw : s.chest.writeOk.any id = true) :
    s.opStep = if n = 7 then (s.stepRecord p n).opEnd (s.stepWork p n).2 else s.stepRecord p n := by
  have hrec : (s.stepWork p n).1.progressTo { (s.stepWork p n).2 with step := n } = s.stepRecord p n :=
    State.progressTo_ok (by rw [State.stepWork_writeOk]; exact hw) _
  simp only [State.opStep, hp, hn, hrun, Bool.not_true, Bool.false_eq_true, if_false]
  change (if n = 7 ∧ (((s.stepWork p n).1.progressTo { (s.stepWork p n).2 with step := n }).chest.progress.map fun q => q.step) =
    some 7 then _ else (s.stepWork p n).1.progressTo { (s.stepWork p n).2 with step := n }) = _
  rw [hrec]
  by_cases h7 : n = 7
  · subst h7
    rw [if_pos ⟨rfl, rfl⟩, if_pos rfl]
    exact congrArg (fun u : State => u.opEnd _) hrec
  · rw [if_neg (fun h => h7 h.1), if_neg h7]

theorem State.opEnd_reach (s : State) (p : Progress) : Only [.cqu, .power, .bur, .slot 0, .slot 9] s (s.opEnd p) :=
  State.opEnd_only _ _ (Only.refl _ _) rfl rfl rfl rfl rfl

/-- Step 7 ends the operation (R462). -/
theorem State.opEnd_running (s : State) (p : Progress) : (s.opEnd p).bur.running = false := by
  simp -zeta only [State.opEnd]
  extract_lets bur s1 s2 s3
  have h2 : Only [.cqu, .slot 9] s1 s2 := State.unwarn_only _ _ _ (Only.refl _ _) rfl
  have h3 : s3.bur = s2.bur := by
    simp only [s3]
    split
    · split
      · rw [State.finish_bur]
      · rfl
    · rfl
  have hbur : s3.bur.running = false := by rw [h3, h2.bur rfl]
  have hps (n : Nat) : Only [.power, .slot 0] s3 (s3.selectPs n) := State.selectPs_only _ _ (Only.refl _ _) rfl rfl
  split
  · split
    · rw [(hps _).bur rfl, hbur]
    · exact hbur
  · exact hbur

theorem Sparse.get_absent {α : Type} {d : Nat → α} {l : List (Nat × α)} {k : Nat} (h : ∀ x ∈ l, x.1 ≠ k) :
    Sparse.get d l k = d k := by
  induction l with
  | nil => rfl
  | cons x t ih =>
    rw [Sparse.get, if_neg (Ne.symm (h x List.mem_cons_self)), ih fun y hy => h y (List.mem_cons_of_mem _ hy)]

/-- Step 2 leaves the window zero. -/
theorem State.discardAll_winGet (s : State) {off : Nat} (ho : off < 0x10000000) : s.discardAll.winGet off = 0 := by
  change Sparse.get cellDefault s.discardAll.buf.dram (windowBase + off) = 0
  refine Sparse.get_absent (d := cellDefault) fun x hx heq => ?_
  obtain ⟨-, hout⟩ := List.mem_filter.1 hx
  rw [heq] at hout
  have hin : decide (windowBase ≤ windowBase + off ∧ windowBase + off < windowBase + 0x10000000) = true :=
    decide_eq_true ⟨Nat.le_add_right _ _, Nat.add_lt_add_left ho _⟩
  exact absurd hin (by simpa using hout)

/-- Step 4 leaves every zone empty and nothing mapped or lost. -/
theorem State.resetMap_resets (s : State) (p : Progress) : (s.resetMap p).zmu.layout = some p.layout ∧
    (s.resetMap p).zmu.zones = p.layout.freshZones ∧ (s.resetMap p).zmu.extents = [] ∧ (s.resetMap p).stripe.lost = [] := by
  simp -zeta only [State.resetMap]
  extract_lets s1 places zmu stripe cqu s2
  have hwarn : Only [.cqu, .slot 9] s2 (s2.unwarn 3 1) := State.unwarn_only _ _ _ (Only.refl _ _) rfl
  have hred : Only [.cqu, .slot 9] (s2.unwarn 3 1) (s2.unwarn 3 1).redundancy := State.redundancy_only _ (Only.refl _ _) rfl rfl
  rw [hred.zmu rfl, hred.stripe rfl, hwarn.zmu rfl, hwarn.stripe rfl]
  exact ⟨rfl, rfl, rfl, rfl⟩

theorem exec_sanitizeResume {s : State} {p : Progress} {n : Nat} (hp : s.chest.progress = some p) (hrun : s.bur.running = true)
    (hn : s.nextStep p = some n) (hw : s.chest.writeOk.any id = true) : Goes (exec .sanitizeResume s) fun t =>
      t.chest.progress.map (fun q => (q.op, q.step)) = some (p.op, n) ∧
      (n = 2 → t.buf.cache = [] ∧ t.stripe.slots = [] ∧ ∀ off < 0x10000000, t.winGet off = 0) ∧
      (n = 4 → t.zmu.layout = some p.layout ∧ t.zmu.zones = p.layout.freshZones ∧ t.zmu.extents = [] ∧ t.stripe.lost = []) ∧
      (n = 5 → t.chest.saved = [] ∧ t.chest.header.state = 0) ∧
      (n = 7 → t.bur.running = false) := by
  change Goes (.next s.opStep) _
  rw [State.opStep_eq hp hrun hn hw, Goes_next]
  have hrec : (s.stepRecord p n).chest.progress.map (fun q => (q.op, q.step)) = some (p.op, n) :=
    congrArg (fun op => some (op, n)) (s.stepWork_op p n)
  by_cases h7 : n = 7
  · rw [if_pos h7, ((s.stepRecord p n).opEnd_reach _).chest rfl]
    exact ⟨hrec, fun h => by omega, fun h => by omega, fun h => by omega, fun _ => State.opEnd_running _ _⟩
  rw [if_neg h7]
  refine ⟨hrec, fun h => ?_, fun h => ?_, fun h => ?_, fun h => absurd h h7⟩ <;> subst h
  · exact ⟨rfl, rfl, fun off ho => s.discardAll_winGet ho⟩
  · exact s.resetMap_resets p
  · refine ⟨rfl, ?_⟩
    change (s.eraseChest p).chest.header.state = 0
    simp -zeta only [State.eraseChest]
    extract_lets hd hd1 hd2
    change hd2.state = 0
    simp only [hd2]
    split <;> rfl

theorem exec_overwriteZone {s : State} {p : Progress} (hp : s.chest.progress = some p) (hrun : s.bur.running = true)
    (hop : p.op = 1) (hstep : p.step = 4) (hpass : p.passes < State.nextStep.owPasses p.cdw10)
    (hw : s.chest.writeOk.any id = true) : Goes (exec .overwriteZone s) fun t =>
      if p.layout.z ≤ p.zone + 1 then t.chest.progress.map (fun q => (q.zone, q.passes)) = some (0, p.passes + 1) ∧
        t.bur.passes = p.passes + 1
      else t.chest.progress.map (fun q => (q.zone, q.passes)) = some (p.zone + 1, p.passes) := by
  have hruns : s.opRuns 1 = true := by rw [State.opRuns, hp, hrun]; simp [hop]
  change Goes (execOverwriteZone s) _
  simp -zeta only [execOverwriteZone, hp]
  rw [if_neg (by simp [hruns, hstep, hpass])]
  extract_lets last p1 s1
  have hs1 : s1 = { s with chest := { s.chest with progress := some { p1 with seq := p1.seq + 1 } } } :=
    State.progressTo_ok hw p1
  rw [Goes_next]
  by_cases hlast : p.layout.z ≤ p.zone + 1
  · have hp1 : p1 = { p with zone := 0, passes := p.passes + 1 } := if_pos hlast
    rw [if_pos hlast, if_pos ⟨hlast, by rw [hs1]; rfl⟩, hs1, hp1]
    exact ⟨rfl, rfl⟩
  · have hp1 : p1 = { p with zone := p.zone + 1 } := if_neg hlast
    rw [if_neg hlast, if_neg (fun h => hlast h.1), hs1, hp1]
    rfl

/-! ### The certificate chain (R449). -/

theorem exec_chainCommit {s : State} (hm : s.mfg = true) (hw : s.chest.writeOk.any id = true) (a b r : Bool) :
    Goes (exec (.chainCommit a b r) s) fun t => t.get Reg.BUR.CTRL.COMMIT = 0 ∧
      (if a = true ∧ b = true ∧ r = true then t.chest.chain =
          (List.range (s.get Reg.BUR.CTRL.CHAIN_LEN)).map (fun i => assocGet (0 : Byte) s.bur.chainBuf i)
        else t.chest.chain = s.chest.chain ∧ t.get Reg.BUR.STATUS.CHAIN_ERR = 1) := by
  change Goes (.next (s.inMfg _)) _
  rw [State.inMfg_of_mfg hm, Goes_next]
  dsimp only
  refine ⟨State.get_put_self _ _ _ (by decide), ?_⟩
  rw [State.put_chest]
  split
  · rfl
  · rw [State.put_chest, State.get_put_apart _ _ _ _ (by decide), State.get_put_self _ _ _ (by decide)]
    exact ⟨rfl, rfl⟩

/-- Settles O52: the starts, the steps and the commit of the chain by the lemmas above. -/
theorem erasureAndChain : Obligations.ErasureAndChain := by
  unfold Obligations.ErasureAndChain
  refine fun s => ⟨fun fsn c h h9 => ⟨fun ha => ?_, fun st hb => ⟨fun ha => ?_, fun ha => ?_⟩,
      fun l hb hrun hio ht he hready hl hw => ⟨fun ha => ?_, fun ha => ?_⟩⟩,
    fun fsn c l h hns hb hses hlo hhi hl hrun hio ht he hready hw =>
      exec_formatNvm_begins hrun hio ht he hready hw h hns hb hses hlo hhi hl,
    fun p n hp hrun hn hw => exec_sanitizeResume hp hrun hn hw,
    fun p hp hrun hop hstep hpass hw => exec_overwriteZone hp hrun hop hstep hpass hw,
    fun a b r hm hw => exec_chainCommit hm hw a b r, fun hm a b r => ?_⟩
  · change Goes (.next (s.sanitize fsn 1)) _
    rw [State.sanitize_exitFailure h ha h9, Goes_next]
    exact ⟨State.adm_endsWith h rfl _ _ _, State.finish_bur _ _ _ _ _, State.finish_chest _ _ _ _ _, State.finish_buf _ _ _ _ _⟩
  · rw [exec_overwrite h, State.sanitize_busy h ha (by decide) hb, Goes_next]
    exact ⟨State.adm_endsWith h rfl _ _ _, State.finish_chest _ _ _ _ _⟩
  · rw [exec_cryptographicErase h, State.sanitize_busy h ha (by decide) hb, Goes_next]
    exact ⟨State.adm_endsWith h rfl _ _ _, State.finish_chest _ _ _ _ _⟩
  · rw [exec_overwrite h, Goes_next]
    exact State.sanitize_begins hrun hio ht he hready hw h h9 hb hl ha (by decide)
  · rw [exec_cryptographicErase h, Goes_next]
    obtain ⟨hends, hrunning, hsstat, hrec⟩ := State.sanitize_begins hrun hio ht he hready hw h h9 hb hl ha (by decide)
    have hpart := congrArg (Option.map fun q : Nat × Nat × Word × Word × Layout => (q.1, q.2.1, q.2.2.2.2)) hrec
    rw [Option.map_map] at hpart
    exact ⟨hends, hrunning, hsstat, hpart⟩
  · change Host.Outcome.next (s.inMfg _) = _
    rw [State.inMfg_of_not_mfg hm]

end Sys2Proof.Machine
end

section
/-!
PROOFS. The DOE mailbox and the SPDM responder (R403, R404, R449, R455): O53.
-/

namespace Sys2Proof.Machine

/-! ### Little-endian values. -/

theorem leNat_lt (b : Bytes) : leNat b < 256 ^ b.length := by
  induction b with
  | nil => decide
  | cons x t ih =>
    have hx := x.isLt
    rw [leNat, List.length_cons, Nat.pow_succ]
    omega

theorem leAt_lt (b : Bytes) (i n : Nat) : leAt b i n < 256 ^ n :=
  (leNat_lt _).trans_le (Nat.pow_le_pow_right (by decide) (by simp [slice]))

theorem toLe_length (n v : Nat) : (toLe n v).length = n := by
  induction n generalizing v with
  | zero => rfl
  | succ n ih => rw [toLe, List.length_cons, ih]

/-! ### The mailbox (R403). -/

theorem State.doeAnswer_hpt (s : State) (typ : Nat) (payload : List Word) : (s.doeAnswer typ payload).hpt =
    { s.hpt with
      doeBusy := false, doeReq := [],
      doeResp := some (BitVec.ofNat 32 (1 + typ * 0x10000) :: BitVec.ofNat 32 (payload.length + 2) :: payload) } := by
  unfold State.doeAnswer
  dsimp only
  rw [State.bump_hpt]

theorem State.doeAnswer_rx (s : State) (typ : Nat) (payload : List Word) :
    (s.doeAnswer typ payload).get Reg.HPT.DOE.RX = s.get Reg.HPT.DOE.RX :=
  State.get_bump_apart _ _ _ _ (by decide)

theorem length_dwordBytes (l : List Word) : (dwordBytes l).length = 4 * l.length := by
  induction l with
  | nil => rfl
  | cons w t ih =>
    rw [dwordBytes, List.flatMap_cons, List.length_append, toLe_length, show (t.flatMap _).length = _ from ih, List.length_cons]
    omega

theorem exec_doeRequest {s : State} (hup : s.doeUp = true) (v : BitVec 16) (y : Byte) (l : List Word) :
    Goes (exec (.doeRequest v y l) s) fun t =>
      t.get Reg.HPT.DOE.RX = min (s.get Reg.HPT.DOE.RX + 1) (2 ^ Reg.HPT.DOE.RX.width - 1) ∧
      (if 1022 < l.length ∨ v ≠ 1 ∨ 1 < y.toNat ∨ s.hpt.doeBusy = true ∨ s.hpt.doeResp.isSome = true ∨ s.hpt.doeErr = true then
        t.hpt = { s.hpt with doeErr := true } ∧
        t.get Reg.HPT.DOE.ERRORS = min (s.get Reg.HPT.DOE.ERRORS + 1) (2 ^ Reg.HPT.DOE.ERRORS.width - 1)
      else if y = 0 then t.hpt.doeResp = some [1, 3, doeDiscovery (byteAt (dwordBytes l) 0)] ∧ t.hpt.doeBusy = false
      else spdmCodes.contains (byteAt (dwordBytes l) 1) = true → l ≠ [] →
        t.hpt.doeBusy = true ∧ t.hpt.doeReq = dwordBytes l) := by
  change Goes (execDoeRequest v y l s) _
  simp -zeta only [execDoeRequest]
  rw [if_neg (by simp [hup])]
  extract_lets s1 m hpt
  have hrx : s1.get Reg.HPT.DOE.RX = min (s.get Reg.HPT.DOE.RX + 1) (2 ^ Reg.HPT.DOE.RX.width - 1) :=
    State.get_bump_self _ _ _ (by decide)
  have hhpt : s1.hpt = s.hpt := State.bump_hpt _ _ _
  have hlong : l.length + 2 > 1024 ↔ 1022 < l.length := by omega
  rw [Goes_next]
  simp only [hlong]
  by_cases hbad : 1022 < l.length ∨ v ≠ 1 ∨ 1 < y.toNat ∨ s.hpt.doeBusy = true ∨ s.hpt.doeResp.isSome = true ∨
    s.hpt.doeErr = true
  · simp only [if_pos hbad, State.doeDiscard]
    refine ⟨(State.get_bump_apart _ Reg.HPT.DOE.ERRORS Reg.HPT.DOE.RX _ (by decide)).trans hrx, ?_, ?_⟩
    · rw [State.bump_hpt, hhpt]
    · rw [State.get_bump_self _ _ _ (by decide)]
      exact congrArg (fun n => min (n + 1) _) (State.get_bump_apart s Reg.HPT.DOE.RX Reg.HPT.DOE.ERRORS 1 (by decide))
  simp only [if_neg hbad]
  by_cases hy : y = 0
  · simp only [if_pos hy]
    rw [State.doeAnswer_hpt]
    exact ⟨(State.doeAnswer_rx _ _ _).trans hrx, rfl, rfl⟩
  simp only [if_neg hy]
  by_cases hshort : m.length < 4
  · rw [if_pos hshort]
    refine ⟨(State.doeAnswer_rx _ _ _).trans hrx, fun _ hne => ?_⟩
    have hpos := List.length_pos_iff.2 hne
    rw [show m.length = 4 * l.length from length_dwordBytes l] at hshort
    omega
  rw [if_neg hshort]
  by_cases hcode : spdmCodes.contains (byteAt m 1) = true
  · rw [if_neg (by rw [hcode]; decide)]
    exact ⟨hrx, fun _ _ => ⟨rfl, rfl⟩⟩
  · rw [if_pos (by simpa using hcode)]
    exact ⟨(State.doeAnswer_rx _ _ _).trans hrx, fun h => absurd h hcode⟩

theorem exec_doeAbort {s : State} (hup : s.doeUp = true) : Goes (exec .doeAbort s) fun t => t.hpt.doeBusy = false ∧
    t.hpt.doeReq = [] ∧ t.hpt.doeResp = none ∧ t.hpt.doeErr = false ∧
    t.get Reg.HPT.DOE.ABORTS = min (s.get Reg.HPT.DOE.ABORTS + 1) (2 ^ Reg.HPT.DOE.ABORTS.width - 1) := by
  change Goes (execDoeAbort s) _
  rw [execDoeAbort, if_neg (by simp [hup]), Goes_next, State.bump_hpt]
  exact ⟨rfl, rfl, rfl, rfl, State.get_bump_self _ _ _ (by decide)⟩

/-! ### Answers to SPDM requests (R404). -/

theorem State.spdmAnswer_replied (s : State) (m : Bytes) : Replied (s.spdmAnswer m) m := by
  rw [Replied, State.spdmAnswer, State.doeAnswer_hpt]
  exact ⟨rfl, rfl⟩

theorem State.spdmAnswer_spdm (s : State) (m : Bytes) : (s.spdmAnswer m).hpt.spdm = s.hpt.spdm := by
  rw [State.spdmAnswer, State.doeAnswer_hpt]

/-- An ERROR carries the version settled. -/
theorem State.spdmError_replied (s : State) (code : Nat) :
    Replied (s.spdmError code 0) [if s.hpt.spdm.stage = 0 then 0x10 else 0x12, 0x7F, BitVec.ofNat 8 code, 0] := by
  have h : spdmHead s.spdmVer 0x7F code 0 = [if s.hpt.spdm.stage = 0 then 0x10 else 0x12, 0x7F, BitVec.ofNat 8 code, 0] := by
    unfold State.spdmVer
    split <;> rfl
  rw [← h]
  exact State.spdmAnswer_replied _ _

theorem State.spdmReq_code {s : State} {code : Nat} {m : Bytes} (h : s.spdmReq code = some m) : byteAt m 1 = code := by
  unfold State.spdmReq at h
  split at h
  · next hc =>
    obtain rfl := Option.some.inj h
    exact hc.2
  · cases h

/-- The state in which a request but GET_MEASUREMENTS is served. -/
def State.untranscribed (s : State) : State := s.setSpdm { s.hpt.spdm with meas := [] }

theorem State.untranscribed_flag (s : State) (f : Fld) : s.untranscribed.flag f = s.flag f := rfl

theorem State.spdmServe_ok (s : State) {m : Bytes} {stage len : Nat} (f : State → State) (hlen : len ≤ m.length)
    (hstage : stage ≤ s.hpt.spdm.stage) (hexact : stage < 3 → s.hpt.spdm.stage = stage) (hv : byteAt m 0 = 0x12) :
    s.spdmServe m stage len f = f (if byteAt m 1 = 0xE0 then s else s.untranscribed) := by
  simp only [State.spdmServe]
  rw [if_neg (not_lt.2 hlen), if_neg, if_neg (not_not.2 hv)]
  · rfl
  · rintro (h | ⟨h3, hne⟩)
    · omega
    · exact hne (hexact h3)

theorem exec_getVersion {s : State} {m : Bytes} (h : s.spdmReq 0x84 = some m) : Goes (exec .getVersion s) fun t =>
    if byteAt m 0 = 0x10 then Replied t [0x10, 0x04, 0, 0, 0, 1, 0x00, 0x12] ∧ t.hpt.spdm.stage = 1 ∧ t.hpt.spdm.certs = []
    else Replied t [if s.hpt.spdm.stage = 0 then 0x10 else 0x12, 0x7F, 0x41, 0] ∧ t.hpt.spdm = s.hpt.spdm := by
  change Goes (execGetVersion s) _
  simp only [execGetVersion, h]
  by_cases hv : byteAt m 0 = 0x10
  · rw [if_neg (not_not.2 hv), Goes_next, if_pos hv, State.spdmAnswer_spdm]
    exact ⟨State.spdmAnswer_replied _ _, rfl, rfl⟩
  · rw [if_pos hv, Goes_next, if_neg hv]
    exact ⟨s.spdmError_replied 0x41, State.spdmAnswer_spdm _ _⟩

theorem exec_getCapabilities {s : State} {m : Bytes} (h : s.spdmReq 0xE1 = some m) (hlen : 20 ≤ m.length) :
    Goes (exec (.getCapabilities (m.getD 0 0)) s) fun t =>
      if s.hpt.spdm.stage ≠ 1 then Replied t [if s.hpt.spdm.stage = 0 then 0x10 else 0x12, 0x7F, 0x04, 0]
      else if byteAt m 0 ≠ 0x12 then Replied t [0x12, 0x7F, 0x41, 0]
      else t.hpt.spdm.stage = 2 ∧ ∃ e : Byte, Replied t ([0x12, 0x61, 0, 0, 0, e, 0, 0, 0x16, 0, 0, 0] ++
        toLe 4 4096 ++ toLe 4 4096) := by
  have hcode := State.spdmReq_code h
  change Goes (execGetCapabilities _ s) _
  simp only [execGetCapabilities, h]
  rw [if_neg (not_not.2 rfl), Goes_next]
  by_cases hst : s.hpt.spdm.stage = 1
  · rw [if_neg (not_not.2 hst)]
    by_cases hv : byteAt m 0 = 0x12
    · rw [if_neg (not_not.2 hv), State.spdmServe_ok _ _ hlen hst.ge (fun _ => hst) hv, State.spdmAnswer_spdm]
      exact ⟨rfl, _, State.spdmAnswer_replied _ _⟩
    · have hserve : ∀ f, s.spdmServe m 1 20 f = s.untranscribed.spdmError 0x41 0 := by
        intro f
        simp only [State.spdmServe]
        rw [if_neg (not_lt.2 hlen), if_neg (by omega), if_pos hv, if_neg (by omega)]
        rfl
      have herr := s.untranscribed.spdmError_replied 0x41
      rw [show s.untranscribed.hpt.spdm.stage = 1 from hst] at herr
      rw [if_pos hv, hserve]
      exact herr
  · have hserve : ∀ f, s.spdmServe m 1 20 f = s.untranscribed.spdmError 0x04 0 := by
      intro f
      simp only [State.spdmServe]
      rw [if_neg (not_lt.2 hlen), if_pos (Or.inr ⟨by decide, hst⟩), if_neg (by omega)]
      rfl
    rw [if_pos hst, hserve]
    exact s.untranscribed.spdmError_replied 0x04

theorem exec_negotiateAlgorithms {s : State} {m : Bytes} (h : s.spdmReq 0xE3 = some m) (hlen : 32 ≤ m.length)
    (hv : byteAt m 0 = 0x12) (hst : s.hpt.spdm.stage = 2) :
    Goes (exec (.negotiateAlgorithms (BitVec.ofNat 32 (leAt m 8 4)) (BitVec.ofNat 32 (leAt m 12 4))
      (BitVec.ofNat 8 (byteAt m 6))) s) fun t =>
        if (leAt m 8 4).testBit 7 = true ∧ (leAt m 12 4).testBit 1 = true ∧ (byteAt m 6).testBit 0 = true then
          t.hpt.spdm.stage = 3 ∧ Replied t ([0x12, 0x63, 0, 0, 36, 0, 1, 0] ++ toLe 4 4 ++ toLe 4 0x80 ++ toLe 4 2 ++ zeros 16)
        else t.hpt.spdm.stage = 2 ∧ Replied t [0x12, 0x7F, 0x01, 0] := by
  have hcode := State.spdmReq_code h
  have hword (i : Nat) : (BitVec.ofNat 32 (leAt m i 4)).toNat = leAt m i 4 :=
    (BitVec.toNat_ofNat _ _).trans (Nat.mod_eq_of_lt (leAt_lt m i 4))
  have hbyte : (BitVec.ofNat 8 (byteAt m 6)).toNat = byteAt m 6 :=
    (BitVec.toNat_ofNat _ _).trans (Nat.mod_eq_of_lt (m.getD 6 0).isLt)
  have hb7 : (BitVec.ofNat 32 (leAt m 8 4)).getLsbD 7 = (leAt m 8 4).testBit 7 := by rw [BitVec.getLsbD, hword]
  have hb1 : (BitVec.ofNat 32 (leAt m 12 4)).getLsbD 1 = (leAt m 12 4).testBit 1 := by rw [BitVec.getLsbD, hword]
  have hb0 : (BitVec.ofNat 8 (byteAt m 6)).getLsbD 0 = (byteAt m 6).testBit 0 := by rw [BitVec.getLsbD, hbyte]
  change Goes (execNegotiateAlgorithms _ _ _ s) _
  simp only [execNegotiateAlgorithms, h]
  rw [if_neg (by rw [hword, hword, hbyte]; simp), Goes_next, State.spdmServe_ok _ _ hlen hst.ge (fun _ => hst) hv,
    if_neg (show ¬ byteAt m 1 = 0xE0 by omega), hb7, hb1, hb0]
  by_cases hoffer : (leAt m 8 4).testBit 7 = true ∧ (leAt m 12 4).testBit 1 = true ∧ (byteAt m 6).testBit 0 = true
  · obtain ⟨h7, h1, h0⟩ := hoffer
    rw [if_pos ⟨h7, h1, h0⟩, h7, h1, h0, if_neg (by decide), State.spdmAnswer_spdm]
    exact ⟨rfl, State.spdmAnswer_replied _ _⟩
  · have herr := s.untranscribed.spdmError_replied 0x01
    rw [show s.untranscribed.hpt.spdm.stage = 2 from hst] at herr
    rw [if_neg hoffer, if_pos (by simpa only [Bool.not_eq_true', ← Bool.not_eq_true, not_and_or] using hoffer)]
    exact ⟨(congrArg Spdm.stage (State.spdmAnswer_spdm _ _)).trans hst, herr⟩

/-! ### Certificates and measurements (R449, R455). -/

section
variable {s : State} {m : Bytes} (hst : s.hpt.spdm.stage = 3) (hv : byteAt m 0 = 0x12)
include hst hv

/-- In a negotiated session a request of its length is served. -/
theorem State.spdmServe_session {len : Nat} (f : State → State) (hlen : len ≤ m.length) (hcode : byteAt m 1 ≠ 0xE0) :
    s.spdmServe m 3 len f = f s.untranscribed := by
  rw [State.spdmServe_ok s f hlen hst.ge (fun h => absurd h (by decide)) hv, if_neg hcode]

omit hv in
theorem State.spdmError_session (code : Nat) :
    Replied (s.untranscribed.spdmError code 0) [0x12, 0x7F, BitVec.ofNat 8 code, 0] := by
  have herr := s.untranscribed.spdmError_replied code
  rwa [show s.untranscribed.hpt.spdm.stage = 3 from hst] at herr

theorem exec_getDigests (h : s.spdmReq 0x81 = some m) (hlen : 4 ≤ m.length) : Goes (exec .getDigests s) fun t =>
    if s.flag Reg.BUR.STATUS.CHAIN_PRESENT = true then Replied t ([0x12, 0x01, 0, 1] ++ sha384 s.bur.chain)
    else Replied t [0x12, 0x7F, 0x05, 0] := by
  have hcode := State.spdmReq_code h
  change Goes (execGetDigests s) _
  simp only [execGetDigests, h]
  rw [Goes_next, State.spdmServe_session hst hv _ hlen (by omega), State.untranscribed_flag]
  by_cases hp : s.flag Reg.BUR.STATUS.CHAIN_PRESENT = true
  · rw [if_pos hp, if_neg (by rw [hp]; decide)]
    exact State.spdmAnswer_replied _ _
  · rw [if_neg hp, if_pos (by simpa using hp)]
    exact State.spdmError_session hst 0x05

theorem exec_getCertificate (h : s.spdmReq 0x82 = some m) (hlen : 8 ≤ m.length) {off len : BitVec 16}
    (hoff : leAt m 4 2 = off.toNat) (hl : leAt m 6 2 = len.toNat) :
    Goes (exec (.getCertificate (m.getD 2 0) off len) s) fun t =>
      if s.flag Reg.BUR.STATUS.CHAIN_PRESENT = false then Replied t [0x12, 0x7F, 0x05, 0]
      else if m.getD 2 0 ≠ 0 ∨ s.bur.chain.length ≤ off.toNat then Replied t [0x12, 0x7F, 0x01, 0]
      else let n := min (min len.toNat (s.bur.chain.length - off.toNat)) 4088
        Replied t ([0x12, 0x02, 0, 0] ++ toLe 2 n ++ toLe 2 (s.bur.chain.length - off.toNat - n) ++
          slice s.bur.chain off.toNat n) := by
  have hcode := State.spdmReq_code h
  change Goes (execGetCertificate _ off len s) _
  simp only [execGetCertificate, h]
  rw [if_neg (by simp [hoff, hl]), Goes_next, State.spdmServe_session hst hv _ hlen (by omega),
    State.untranscribed_flag]
  cases s.flag Reg.BUR.STATUS.CHAIN_PRESENT with
  | false =>
    rw [if_pos rfl, if_pos (show (!false) = true from rfl)]
    exact State.spdmError_session hst 0x05
  | true =>
    rw [if_neg (show ¬ true = false by decide), if_neg (show ¬ (!true) = true by decide)]
    by_cases hbad : m.getD 2 0 ≠ 0 ∨ s.bur.chain.length ≤ off.toNat
    · rw [if_pos hbad, if_pos (show m.getD 2 0 ≠ 0 ∨ s.untranscribed.bur.chain.length ≤ off.toNat from hbad)]
      exact State.spdmError_session hst 0x01
    · rw [if_neg hbad, if_neg (show ¬ (m.getD 2 0 ≠ 0 ∨ s.untranscribed.bur.chain.length ≤ off.toNat) from hbad)]
      exact State.spdmAnswer_replied _ _

theorem exec_challenge (h : s.spdmReq 0x83 = some m) (hlen : 36 ≤ m.length) (hslot : m.getD 2 0 = 0)
    (hhash : m.getD 3 0 ∈ [(0 : Byte), 1, 0xFF]) (hp : s.flag Reg.BUR.STATUS.CHAIN_PRESENT = true) :
    Goes (exec (.challenge 0 (m.getD 3 0) (slice m 4 32)) s) fun t =>
      t.hpt.spdm.certs = [] ∧ ∃ nonce sig : Bytes, nonce.length = 32 ∧ Replied t ([0x12, 0x03, 0, 1] ++ sha384 s.bur.chain ++
        nonce ++ s.measSummary (byteAt m 3) ++ [0, 0] ++ sig) := by
  have hcode := State.spdmReq_code h
  have hkind : ¬ ((0 : Byte) ≠ 0 ∨ (!([0, 1, 0xFF].contains (m.getD 3 0).toNat)) = true) := by
    revert hhash
    generalize m.getD 3 0 = b
    intro hb
    fin_cases hb <;> decide
  change Goes (execChallenge 0 _ _ s) _
  simp only [execChallenge, h]
  rw [if_neg (by rw [hslot]; simp), Goes_next, State.spdmServe_session hst hv _ hlen (by omega),
    State.untranscribed_flag, if_neg (by rw [hp]; decide), if_neg hkind, State.spdmAnswer_spdm]
  exact ⟨rfl, _, _, padTo_length _ _, State.spdmAnswer_replied _ _⟩

theorem exec_challenge_noChain (h : s.spdmReq 0x83 = some m) (hlen : 36 ≤ m.length)
    (hp : s.flag Reg.BUR.STATUS.CHAIN_PRESENT = false) :
    Goes (exec (.challenge (m.getD 2 0) (m.getD 3 0) (slice m 4 32)) s) fun t => Replied t [0x12, 0x7F, 0x05, 0] := by
  have hcode := State.spdmReq_code h
  change Goes (execChallenge _ _ _ s) _
  simp only [execChallenge, h]
  rw [if_neg (by simp), Goes_next, State.spdmServe_session hst hv _ hlen (by omega),
    State.untranscribed_flag, if_pos (by rw [hp]; rfl)]
  exact State.spdmError_session hst 0x05

/-- An unsigned GET_MEASUREMENTS answers what its Param2 asks for. -/
theorem exec_getMeasurements (h : s.spdmReq 0xE0 = some m) (hlen : 4 ≤ m.length) (hplain : (m.getD 2 0).getLsbD 0 = false)
    (nonce : Bytes) (slot : Byte) : Goes (exec (.getMeasurements (m.getD 2 0) (m.getD 3 0) nonce slot) s) fun t =>
      match s.measAsked (m.getD 3 0).toNat with
      | none => Replied t [0x12, 0x7F, 0x01, 0]
      | some (k, rec_) => ∃ n : Bytes, n.length = 32 ∧ Replied t (spdmHead 0x12 0x60 (if m.getD 3 0 = 0 then k else 0) 0 ++
          toLe 1 k ++ toLe 3 rec_.length ++ rec_ ++ n ++ toLe 2 0) := by
  have hcode := State.spdmReq_code h
  change Goes (execGetMeasurements _ _ nonce slot s) _
  simp only [execGetMeasurements, h, hplain, Bool.false_eq_true, if_false, false_and, or_false]
  rw [if_neg (by simp), Goes_next, State.spdmServe_ok s _ hlen hst.ge (fun h => absurd h (by decide)) hv, if_pos hcode]
  cases s.measAsked (m.getD 3 0).toNat with
  | none =>
    have herr := s.spdmError_replied 0x01
    rwa [hst] at herr
  | some x => exact ⟨_, padTo_length _ _, State.spdmAnswer_replied _ _⟩

end

/-- Settles O53: each request by the lemma of its step above. -/
theorem spdmResponder : Obligations.SpdmResponder := by
  unfold Obligations.SpdmResponder MailboxAndNegotiation SpdmAnswers
  refine ⟨fun s => ⟨fun hup v y l => exec_doeRequest hup v y l, fun hup => exec_doeAbort hup, fun m h => exec_getVersion h,
      fun m h hlen => exec_getCapabilities h hlen, fun m h hlen hv hst => exec_negotiateAlgorithms h hlen hv hst⟩,
    fun s m hst hv => ⟨fun h hlen => exec_getDigests hst hv h hlen,
      fun h hlen off len hoff hl => exec_getCertificate hst hv h hlen hoff hl,
      fun h hlen hslot hhash hp => exec_challenge hst hv h hlen hslot hhash hp,
      fun h hlen hp => exec_challenge_noChain hst hv h hlen hp, fun h hlen hplain nonce slot => ?_⟩⟩
  refine (exec_getMeasurements hst hv h hlen hplain nonce slot).imp fun t ht =>
    ⟨fun hall => ?_, fun hnum => ?_, fun hbig hne => ?_⟩
  · rw [hall, show s.measAsked (0xFF : Byte).toNat = some (s.measBlocks.length, s.record) from rfl] at ht
    exact ht
  · rw [hnum, show s.measAsked (0 : Byte).toNat = some (s.measBlocks.length, []) from rfl] at ht
    obtain ⟨n, hn, hreply⟩ := ht
    refine ⟨n, hn, ?_⟩
    simpa [spdmHead, toLe] using hreply
  · have hff : ¬ (m.getD 3 0).toNat = 0xFF := fun he => hne (BitVec.eq_of_toNat_eq he)
    have hbig' : 9 ≤ (m.getD 3 0).toNat := hbig
    have hnone : s.measAsked (m.getD 3 0).toNat = none := by
      rw [State.measAsked, if_neg (by omega), if_neg hff, if_neg (by omega)]
    rwa [hnone] at ht

end Sys2Proof.Machine
end

section
/-!
PROOFS. Power states and thermal levels (R433 to R446): O54.
-/

namespace Sys2Proof.Machine

/-! ### The idle timers and APST (R439, R440). -/

section
variable {s : State}

theorem State.onlyFields_put (s : State) (f : Fld) (v : Nat) : OnlyFields [f] s (s.put f v) := fun g hg =>
  State.get_put_apart s f g v (hg f List.mem_cons_self)

theorem exec_idleTimerPs1 (hi : s.idleNow = true) (hh : s.get Reg.RCU.PWR.HOST_PS = 0) (he : s.get Reg.RCU.PWR.EFFECTIVE = 0)
    (ht : s.timer (·.t1) ≠ 0) : Goes (exec .idleTimerPs1 s) fun t => t.get Reg.RCU.PWR.EFFECTIVE = 1 ∧
      OnlyFields [Reg.RCU.PWR.EFFECTIVE] s t := by
  change Goes (execIdleTimerPs1 s) _
  rw [execIdleTimerPs1, if_pos ⟨hi, hh, he, ht⟩, Goes_next]
  exact ⟨State.get_put_self _ _ _ (by decide), s.onlyFields_put _ _⟩

theorem exec_idleTimerPs2 (hi : s.idleNow = true) (hh : s.get Reg.RCU.PWR.HOST_PS = 0) (he : s.get Reg.RCU.PWR.EFFECTIVE = 0)
    (ht : s.timer (·.t2) ≠ 0) : Goes (exec .idleTimerPs2 s) fun t => t.get Reg.RCU.PWR.EFFECTIVE = 2 ∧
      OnlyFields [Reg.RCU.PWR.EFFECTIVE] s t := by
  change Goes (execIdleTimerPs2 s) _
  rw [execIdleTimerPs2, if_pos ⟨hi, by omega, by omega, ht⟩, Goes_next]
  exact ⟨State.get_put_self _ _ _ (by decide), s.onlyFields_put _ _⟩

/-- An entry begins. -/
theorem State.applyPs_entry {ps : Nat} (hps : ps = 3 ∨ ps = 4) (he : s.get Reg.RCU.PWR.EFFECTIVE < ps) :
    (s.applyPs ps).power.trans = some ⟨ps, true, 0⟩ ∧ (s.applyPs ps).get Reg.RCU.PWR.TRANSITION = 1 ∧
    (s.applyPs ps).get Reg.RCU.PWR.HOST_PS = ps := by
  rw [State.applyPs, if_neg (by omega), if_neg (by omega)]
  dsimp only
  refine ⟨by rw [State.put_power, State.put_power], ?_, ?_⟩
  · rw [State.get_put_apart _ Reg.RCU.PWR.HOST_PS Reg.RCU.PWR.TRANSITION _ (by decide)]
    exact State.get_put_self _ _ _ (by decide)
  · rw [State.get_put_self _ _ _ (by decide)]
    obtain rfl | rfl := hps <;> rfl

theorem exec_apstTimer {e ps : Nat} (he : s.cqu.feats.apst.getD (s.get Reg.RCU.PWR.HOST_PS) 0 = e) (hps : e / 8 % 32 = ps)
    (h34 : ps = 3 ∨ ps = 4) (h0 : e / 256 ≠ 0) (hi : s.idleNow = true) (hen : s.flag Reg.RCU.PWR.APSTE = true)
    (hlt : s.get Reg.RCU.PWR.EFFECTIVE < ps) (hdef : s.apstDeferred = false) (hrun : s.bur.running = false) :
    Goes (exec .apstTimer s) fun t => t.power.trans = some ⟨ps, true, 0⟩ ∧
      t.get Reg.RCU.PWR.TRANSITION = 1 ∧ t.get Reg.RCU.PWR.HOST_PS = ps := by
  subst he hps
  change Goes (execApstTimer s) _
  rw [execApstTimer, if_pos ⟨hi, hen, h0, h34, hlt, by rw [hdef]; rfl, by rw [hrun]; rfl⟩, Goes_next]
  exact State.applyPs_entry h34 hlt

/-! ### Transitions (R435 to R437, R446). -/

theorem State.transStep_trans {t : Trans} (h : s.power.trans = some t) :
    s.transStep.power.trans = some { t with step := t.step + 1 } := by
  rw [State.transStep, h]

theorem State.transStep_core (s : State) : s.transStep.core = s.core := by
  unfold State.transStep
  split <;> rfl

theorem State.transStep_buf (s : State) : s.transStep.buf = s.buf := by
  unfold State.transStep
  split <;> rfl

/-- The end of a transition that no request waits for. -/
theorem State.transEnd_idle (h : s.power.want = none) {n : Nat} (hn : n < 8) :
    (s.transEnd n).power.trans = none ∧ (s.transEnd n).get Reg.RCU.PWR.EFFECTIVE = n ∧
    (s.transEnd n).get Reg.RCU.PWR.HOST_PS = n ∧ (s.transEnd n).get Reg.RCU.PWR.TRANSITION = 0 := by
  simp -zeta only [State.transEnd]
  extract_lets power s1 s2
  have hp2 : s2.power = s1.power := by simp only [s2, State.put_power]
  rw [hp2, show s1.power.want = none from h]
  refine ⟨congrArg (·.trans) hp2, ?_, ?_, ?_⟩
  · rw [State.get_put_apart _ Reg.RCU.PWR.HOST_PS Reg.RCU.PWR.EFFECTIVE _ (by decide), State.get_put_self _ _ _ (by decide)]
    exact Nat.mod_eq_of_lt hn
  · rw [State.get_put_self _ _ _ (by decide)]
    exact Nat.mod_eq_of_lt hn
  · rw [State.get_put_apart _ Reg.RCU.PWR.HOST_PS Reg.RCU.PWR.TRANSITION _ (by decide),
      State.get_put_apart _ Reg.RCU.PWR.EFFECTIVE Reg.RCU.PWR.TRANSITION _ (by decide), State.get_put_self _ _ _ (by decide)]
    rfl

theorem State.issueDemand_reach (s : State) (ps : Nat) :
    Only [.linkA, .linkB, .linkZ, .spin, .buf, .slot 0, .slot 21] s (s.issueDemand ps) :=
  State.issueDemand_only _ _ (Only.refl _ _) rfl rfl rfl rfl rfl rfl rfl

theorem State.gate_power (s : State) (l : List Nat) : (s.gate l).power = s.power :=
  (State.gate_only (qz := [.regs, .start, .linkA, .linkB, .linkZ, .rep, .spin, .servoA, .servoB, .fsqs, .rwcs, .media, .stripe,
    .buf, .dma, .zmu, .cqu, .hpt, .crd]) s l (Only.refl _ _) rfl rfl rfl rfl rfl rfl rfl rfl rfl rfl rfl rfl rfl rfl rfl rfl rfl
    rfl rfl).power rfl

theorem exec_entry {i : Instr × Nat} (hi : i ∈ [(Instr.ps3Entry, 3), (.ps4Entry, 4)]) :
    exec i.1 s = .next (s.enterStep i.2) ∧ (i.2 = 3 ∨ i.2 = 4) := by
  simp only [List.mem_cons, List.not_mem_nil, or_false] at hi
  obtain rfl | rfl := hi
  · exact ⟨rfl, Or.inl rfl⟩
  · exact ⟨rfl, Or.inr rfl⟩

theorem State.enterStep_first {n : Nat} (h : s.power.trans = some ⟨n, true, 0⟩) :
    if s.runsEnded = true ∧ s.flag Reg.SLE.RRO_STATUS.SAVE_PENDING = false ∧ s.media.changed = false then
      (s.enterStep n).power.trans = some ⟨n, true, 1⟩ else s.enterStep n = s := by
  have hstep : s.enterStep n =
      if s.runsEnded ∧ !s.flag Reg.SLE.RRO_STATUS.SAVE_PENDING ∧ !s.media.changed then s.transStep else s := by
    simp only [State.enterStep, h]
    rw [if_neg (by simp), if_pos trivial]
  have hcond : (s.runsEnded = true ∧ (!s.flag Reg.SLE.RRO_STATUS.SAVE_PENDING) = true ∧ (!s.media.changed) = true) ↔
      s.runsEnded = true ∧ s.flag Reg.SLE.RRO_STATUS.SAVE_PENDING = false ∧ s.media.changed = false := by simp
  rw [hstep]
  simp only [hcond]
  split
  · exact State.transStep_trans h
  · rfl

/-- A checkpoint carries the next generation (R270). -/
theorem State.checkpoint_gen (s : State) : s.checkpoint.core.gen = s.core.gen + 1 := by
  simp -zeta only [State.checkpoint]
  extract_lets gen zmu s1 s2
  have h2 : Only [.stripe] s1 s2 := State.bandFlush_only _ (State.journal_only _ _ (Only.refl _ _) rfl) rfl
  change s2.core.gen = _
  rw [h2.core rfl]

theorem State.enterStep_saved {n : Nat} (h : s.power.trans = some ⟨n, true, 2⟩) (hs : s.spin.pending = none)
    (hclean : ∀ b ∈ s.buf.cache, b.dirty = false) : (s.enterStep n).power.trans = some ⟨n, true, 3⟩ ∧
      (s.enterStep n).core.gen = (if n = 4 then s.core.gen + 1 else s.core.gen) := by
  let u := if n = 4 then s.checkpoint else s
  have hstep : s.enterStep n = u.credWrite.transStep := by
    simp only [State.enterStep, h]
    rw [if_neg (by simp), if_neg (by decide), if_neg (by decide), if_pos trivial, if_neg]
    rw [hs]
    simpa using fun _ b hb => by simp [hclean b hb]
  have hcheck : Only [.stripe, .core, .zmu] s s.checkpoint := State.checkpoint_only _ (Only.refl _ _) rfl rfl rfl
  have hcred : Only [.chest, .crd, .slot 4] u u.credWrite := State.credWrite_only _ (Only.refl _ _) rfl rfl rfl
  have hu : u.power = s.power := by
    simp only [u]
    split
    · exact hcheck.power rfl
    · rfl
  refine ⟨?_, ?_⟩
  · rw [hstep]
    exact State.transStep_trans (by rw [hcred.power rfl, hu, h])
  · rw [hstep, State.transStep_core, hcred.core rfl]
    simp only [u]
    split
    · exact State.checkpoint_gen s
    · rfl

theorem State.enterStep_last {n : Nat} (h : s.power.trans = some ⟨n, true, 5⟩) (hn : n < 8) (ha : s.linkUp .ezpolA = false)
    (hb : s.linkUp .ezpolB = false) (hw : s.power.want = none) : (s.enterStep n).power.trans = none ∧
      (s.enterStep n).get Reg.RCU.PWR.EFFECTIVE = n ∧ (s.enterStep n).get Reg.RCU.PWR.HOST_PS = n ∧
      (s.enterStep n).get Reg.RCU.PWR.TRANSITION = 0 := by
  have hstep : s.enterStep n = ((s.gate gatedSlots).issueDemand n).transEnd n := by
    simp only [State.enterStep, h]
    rw [if_neg (by simp), if_neg (by decide), if_neg (by decide), if_neg (by decide), if_neg (by decide), if_neg (by decide),
      if_neg (by rw [ha, hb]; decide)]
  rw [hstep]
  refine State.transEnd_idle ?_ hn
  rw [(State.issueDemand_reach _ _).power rfl, State.gate_power, hw]

theorem exec_exit {i : Instr} (hi : (i, s.get Reg.RCU.PWR.EFFECTIVE) ∈ [(Instr.ps3Exit, 0), (.ps3Exit, 1), (.ps3Exit, 2),
    (.ps3Exit, 3), (.ps4Exit, 4)]) : exec i s = .next s.exitStep := by
  simp only [List.mem_cons, List.not_mem_nil, or_false, Prod.mk.injEq] at hi
  have h3 (hne : s.get Reg.RCU.PWR.EFFECTIVE ≠ 4) : exec .ps3Exit s = .next s.exitStep := if_neg hne
  rcases hi with ⟨rfl, he⟩ | ⟨rfl, he⟩ | ⟨rfl, he⟩ | ⟨rfl, he⟩ | ⟨rfl, he⟩
  · exact h3 (by omega)
  · exact h3 (by omega)
  · exact h3 (by omega)
  · exact h3 (by omega)
  · exact if_pos he

theorem State.exitStep_start {n : Nat} (h : s.power.trans = some ⟨n, false, 0⟩) :
    s.exitStep.power.trans = some ⟨n, false, 1⟩ := by
  have hstep : s.exitStep = (if s.get Reg.SPC.STATUS.STATE = 0 then s.issueDemand 0 else s).transStep := by
    simp only [State.exitStep, h]
    rw [if_pos trivial]
  rw [hstep]
  refine State.transStep_trans (t := ⟨n, false, 0⟩) ?_
  split
  · rw [(State.issueDemand_reach _ _).power rfl, h]
  · exact h

theorem State.exitStep_wake {n : Nat} (h : s.power.trans = some ⟨n, false, 1⟩) :
    if s.speedOver 90 = true then s.exitStep.power.trans = some ⟨n, false, 2⟩ ∧ s.exitStep.buf.selfRef = false
    else s.exitStep = s := by
  let u := (s.wakeLink .a).wakeLink .b
  have hstep : s.exitStep = if s.speedOver 90 then ({ u with buf := { u.buf with selfRef := false } } : State).transStep
      else s := by
    simp only [State.exitStep, h]
    rw [if_neg (by decide), if_pos trivial]
  have hwake (v : State) (x : Act) : Only [.linkA, .linkB, .linkZ, .feA, .feB, .slot 22, .slot 23] v (v.wakeLink x) :=
    State.wakeLink_only _ _ (Only.refl _ _) rfl rfl rfl rfl rfl rfl rfl
  rw [hstep]
  split
  · refine ⟨State.transStep_trans (t := ⟨n, false, 1⟩) ?_, by rw [State.transStep_buf]⟩
    change u.power.trans = _
    rw [(hwake _ .b).power rfl, (hwake _ .a).power rfl, h]
  · rfl

theorem State.exitStep_last {n : Nat} (h : s.power.trans = some ⟨n, false, 2⟩) (hn : n < 8) (ha : s.actReady .a = true)
    (hb : s.actReady .b = true) (hw : s.power.want = none) : s.exitStep.power.trans = none ∧
      s.exitStep.get Reg.RCU.PWR.EFFECTIVE = n ∧ s.exitStep.get Reg.RCU.PWR.HOST_PS = n := by
  let u := (s.issueDemand 0).transEnd n
  have hstep : s.exitStep = u.opStart := by
    simp only [State.exitStep, h]
    rw [if_neg (by decide), if_neg (by decide), if_pos ⟨ha, hb⟩]
  have hstart : Only [.chest, .cqu, .bur, .slot 9] u u.opStart := State.opStart_only _ (Only.refl _ _) rfl rfl rfl rfl
  obtain ⟨htrans, heff, hps, -⟩ :=
    State.transEnd_idle (s := s.issueDemand 0) (by rw [(State.issueDemand_reach _ _).power rfl, hw]) hn
  rw [hstep, hstart.power rfl]
  exact ⟨htrans, (hstart.get rfl).trans heff, (hstart.get rfl).trans hps⟩

theorem exec_dramSelfRefreshIdle (s : State) : Goes (exec .dramSelfRefreshIdle s) fun t => t.regs = s.regs ∧
    t.buf.selfRef = (s.buf.selfRef || decide (3 ≤ s.get Reg.RCU.PWR.EFFECTIVE)) := by
  change Goes (execDramSelfRefreshIdle s) _
  unfold execDramSelfRefreshIdle
  by_cases h : s.get Reg.RCU.PWR.EFFECTIVE ≥ 3
  · rw [if_pos h, Goes_next]
    exact ⟨rfl, by simp [show 3 ≤ s.get Reg.RCU.PWR.EFFECTIVE from h]⟩
  · rw [if_neg h, Goes_next]
    exact ⟨rfl, by simp [show ¬ 3 ≤ s.get Reg.RCU.PWR.EFFECTIVE from h]⟩

end

/-! ### Thermal levels (R443, R444). -/

/-- The temperature and the thermal level read as before. -/
structure SameThermal (s t : State) : Prop where
  tj : t.get Reg.RCU.THERMAL.TJ = s.get Reg.RCU.THERMAL.TJ
  tjMax : t.get Reg.RCU.THERMAL.TJ_MAX = s.get Reg.RCU.THERMAL.TJ_MAX
  level : t.get Reg.RCU.PWR.THERM_LEVEL = s.get Reg.RCU.PWR.THERM_LEVEL

namespace SameThermal
variable {s t u : State}

theorem trans (h : SameThermal s t) (k : SameThermal t u) : SameThermal s u :=
  ⟨k.tj.trans h.tj, k.tjMax.trans h.tjMax, k.level.trans h.level⟩

theorem of_only {ps : List Part} (h : Only ps s t) (h0 : Part.of ps (.slot 0) = false) : SameThermal s t :=
  ⟨h.get h0, h.get h0, h.get h0⟩

theorem put (f : Fld) (v : Nat) (h1 : f.apart Reg.RCU.THERMAL.TJ = true) (h2 : f.apart Reg.RCU.THERMAL.TJ_MAX = true)
    (h3 : f.apart Reg.RCU.PWR.THERM_LEVEL = true) : SameThermal s (s.put f v) :=
  ⟨State.get_put_apart _ _ _ _ h1, State.get_put_apart _ _ _ _ h2, State.get_put_apart _ _ _ _ h3⟩

end SameThermal

/-- A release resets the registers of its own block (R52). -/
theorem State.get_warmRegs (s : State) {slot : Nat} {f : Fld} (hf : f.slot ≠ slot) : (s.warmRegs slot).get f = s.get f := by
  have hkey (off : Nat) : f.key ≠ Reg.key slot off := by
    intro he
    have hdiv := congrArg (· / 0x10000) he
    simp only [Fld.key_slot, Reg.key] at hdiv
    omega
  have hword : (s.warmRegs slot).regs.word f.key = s.regs.word f.key := by
    refine List.foldlRecOn (motive := fun r : RegFile => r.word f.key = s.regs.word f.key) _ _ rfl fun r hr row _ => ?_
    refine List.foldlRecOn (motive := fun r : RegFile => r.word f.key = s.regs.word f.key) _ _ hr fun r' hr' i _ => ?_
    dsimp only
    rw [apply_ite (fun q : RegFile => q.word f.key), RegFile.word_setWord, if_neg (hkey _), hr', ite_self]
  simp only [State.get, RegFile.get, hword]

theorem State.blockDrop_sameThermal (s : State) {slot : Nat} (h : slot ∈ [0x12, 0x18, 0x19]) :
    SameThermal s (s.blockDrop slot) := by
  have hldp : Only [.media, .stripe, .cqu, .crd, .slot 9, .slot 16] s s.ldpDrop :=
    State.ldpDrop_only _ (Only.refl _ _) rfl rfl rfl rfl rfl rfl
  fin_cases h
  · exact SameThermal.of_only hldp rfl
  · exact ⟨rfl, rfl, rfl⟩
  · exact ⟨rfl, rfl, rfl⟩

theorem State.releaseBlock_sameThermal (s : State) {slot : Nat} (h : slot ∈ [0x12, 0x18, 0x19]) :
    SameThermal s (s.releaseBlock slot) := by
  have h0 : 0 ≠ slot := by
    rintro rfl
    simp at h
  have hwarm : SameThermal s ((s.warmRegs slot).setBlock slot .running) :=
    ⟨s.get_warmRegs h0, s.get_warmRegs h0, s.get_warmRegs h0⟩
  have hbit (u : State) : SameThermal u (u.put (blkBit 0x20 slot) 0) := by
    fin_cases h <;> exact SameThermal.put _ _ (by decide) (by decide) (by decide)
  have h1 := hwarm.trans (hbit _)
  fin_cases h
  · refine h1.trans (SameThermal.trans (SameThermal.put Reg.LDP.ENGINES.REMOVED _ ?_ ?_ ?_)
      (SameThermal.put Reg.LDP.ENGINES.IN_SERVICE _ ?_ ?_ ?_)) <;> decide
  · exact h1
  · exact h1

theorem State.gate_sameThermal (s : State) : SameThermal s (s.gate [0x12, 0x18, 0x19]) := by
  have hone (u : State) {slot : Nat} (h : slot ∈ [0x12, 0x18, 0x19]) : SameThermal u ((u.blockDrop slot).releaseBlock slot) :=
    (u.blockDrop_sameThermal h).trans ((u.blockDrop slot).releaseBlock_sameThermal h)
  exact (hone s (slot := 0x12) (by decide)).trans
    ((hone _ (slot := 0x18) (by decide)).trans (hone _ (slot := 0x19) (by decide)))

theorem State.issueDemand_sameThermal (s : State) (ps : Nat) : SameThermal s (s.issueDemand ps) := by
  have hset (u : State) (d : Nat) : Only [.linkA, .linkB, .linkZ, .spin, .buf, .slot 21] u (u.setDemand d) :=
    State.setDemand_only _ _ (Only.refl _ _) rfl rfl rfl rfl rfl rfl
  unfold State.issueDemand
  split
  · exact ⟨rfl, rfl, rfl⟩
  · dsimp only
    split
    · exact ⟨rfl, rfl, rfl⟩
    · exact SameThermal.trans (SameThermal.put Reg.RCU.PWR.DEMAND _ (by decide) (by decide) (by decide))
        (SameThermal.of_only (hset _ _) rfl)

/-- A change of level keeps the temperature. -/
theorem State.toLevel_fields (s : State) {n : Nat} (hn : n < 4) :
    (s.toLevel n).get Reg.RCU.THERMAL.TJ = s.get Reg.RCU.THERMAL.TJ ∧
    (s.toLevel n).get Reg.RCU.THERMAL.TJ_MAX = s.get Reg.RCU.THERMAL.TJ_MAX ∧
    (s.toLevel n).get Reg.RCU.PWR.THERM_LEVEL = n := by
  simp -zeta only [State.toLevel]
  extract_lets old s1 s2 s3 ps
  split
  · next h => exact ⟨rfl, rfl, h.symm⟩
  have h1 : s1.get Reg.RCU.PWR.THERM_LEVEL = n := (State.get_put_self _ _ _ (by decide)).trans (Nat.mod_eq_of_lt hn)
  have h2 : SameThermal s1 s2 := by
    simp only [s2]
    split
    · exact SameThermal.put Reg.RCU.THERMAL.ENTRIES _ (by decide) (by decide) (by decide)
    · exact ⟨rfl, rfl, rfl⟩
  have h3 : SameThermal s1 s3 := by
    simp only [s3]
    split
    · exact h2.trans (SameThermal.put Reg.RCU.THERMAL.CRIT_SEEN _ (by decide) (by decide) (by decide))
    · exact h2
  have hdone {t : State} (ht : SameThermal s3 t) : t.get Reg.RCU.THERMAL.TJ = s.get Reg.RCU.THERMAL.TJ ∧
      t.get Reg.RCU.THERMAL.TJ_MAX = s.get Reg.RCU.THERMAL.TJ_MAX ∧ t.get Reg.RCU.PWR.THERM_LEVEL = n :=
    ⟨(ht.tj.trans h3.tj).trans (State.get_put_apart _ _ _ _ (by decide)),
      (ht.tjMax.trans h3.tjMax).trans (State.get_put_apart _ _ _ _ (by decide)), (ht.level.trans h3.level).trans h1⟩
  have hunload (u : State) : Only [.linkA, .linkB, .linkZ, .rep, .servoA, .servoB, .fsqs, .freeCount, .slot 20] u u.unloadBoth :=
    State.unloadBoth_only _ (Only.refl _ _) rfl rfl rfl rfl rfl rfl rfl rfl rfl
  split
  · exact hdone ⟨rfl, rfl, rfl⟩
  split
  · exact hdone (((SameThermal.of_only (hunload s3) rfl).trans (State.gate_sameThermal _)).trans
      (State.issueDemand_sameThermal _ _))
  split
  · exact hdone (State.issueDemand_sameThermal _ _)
  · exact hdone ⟨rfl, rfl, rfl⟩

/-! ### The level a temperature leads to (R444). -/

/-- The temperature at which a level is entered. -/
def enterAt (p : PowerCfg) (k : Nat) : Int :=
  if k = 1 then p.throttle else if k = 2 then ((p.throttle + p.crit) / 2 : Nat) else p.crit

/-- The highest level whose entry temperature is reached. -/
def levelUp (p : PowerCfg) (tj : Int) : Nat := ((List.range 4).filter fun k => decide (k ≠ 0 ∧ tj ≥ enterAt p k)).foldl max 0

theorem thermLevel_eq (p : PowerCfg) (old : Nat) (tj : Int) : thermLevel p old tj =
    if levelUp p tj > old then levelUp p tj else if old ≠ 0 ∧ tj < enterAt p old - p.hyst then old - 1 else old := rfl

theorem levelUp_lt (p : PowerCfg) (tj : Int) : levelUp p tj < 4 :=
  List.foldlRecOn (motive := fun m : Nat => m < 4) _ _ (by decide) fun _ hm _ hk =>
    max_lt hm (List.mem_range.1 (List.mem_filter.1 hk).1)

theorem levelUp_crit (p : PowerCfg) {tj : Int} (hc : (p.crit : Int) ≤ tj) : levelUp p tj = 3 := by
  have h3 : tj ≥ enterAt p 3 := hc
  rw [levelUp, show List.range 4 = [0, 1, 2, 3] from rfl]
  by_cases h1 : tj ≥ enterAt p 1 <;> by_cases h2 : tj ≥ enterAt p 2 <;> simp [h1, h2, h3]

theorem levelUp_below (p : PowerCfg) {tj : Int} (hle : p.throttle ≤ p.crit) (ht : tj < (p.throttle : Int)) :
    levelUp p tj = 0 := by
  have h1 : ¬ tj ≥ enterAt p 1 := not_le.2 ht
  have h2 : ¬ tj ≥ enterAt p 2 := by
    change ¬ tj ≥ (((p.throttle + p.crit) / 2 : Nat) : Int)
    omega
  have h3 : ¬ tj ≥ enterAt p 3 := by
    change ¬ tj ≥ (p.crit : Int)
    omega
  rw [levelUp, show List.range 4 = [0, 1, 2, 3] from rfl]
  simp [h1, h2, h3]

theorem thermLevel_lt (p : PowerCfg) {old : Nat} (h : old < 4) (tj : Int) : thermLevel p old tj < 4 := by
  rw [thermLevel_eq]
  split
  · exact levelUp_lt p tj
  · split
    · omega
    · exact h

theorem thermLevel_crit (p : PowerCfg) {old : Nat} (h : old < 4) {tj : Int} (hc : (p.crit : Int) ≤ tj) :
    thermLevel p old tj = 3 := by
  rw [thermLevel_eq, levelUp_crit p hc]
  by_cases h3 : old = 3
  · subst h3
    have hstay : ¬ tj < enterAt p 3 - p.hyst := by
      change ¬ tj < (p.crit : Int) - p.hyst
      omega
    rw [if_neg (lt_irrefl 3), if_neg (fun hh => hstay hh.2)]
  · rw [if_pos (show 3 > old by omega)]

theorem thermLevel_leave (p : PowerCfg) {tj : Int} (hle : p.throttle ≤ p.crit) (ht : tj < (p.throttle : Int) - p.hyst) :
    thermLevel p 1 tj = 0 := by
  rw [thermLevel_eq, levelUp_below p hle (by omega), if_neg (by decide), if_pos ⟨by decide, ht⟩]

theorem State.tempWarn_reach (s : State) : Only [.cqu, .slot 9] s s.tempWarn := State.tempWarn_only _ (Only.refl _ _) rfl rfl

/-- Settles O54: each step of a transition by the lemma above; a sample's level is `thermLevel`. -/
theorem powerAndThermalLevels : Obligations.PowerAndThermalLevels := by
  unfold Obligations.PowerAndThermalLevels PowerStates ThermalLevels
  refine ⟨fun s => ⟨fun hi hh he => ⟨fun ht => exec_idleTimerPs1 hi hh he ht, fun ht => exec_idleTimerPs2 hi hh he ht⟩,
    fun e ps he hps h34 h0 hi hen hlt hdef hrun => exec_apstTimer he hps h34 h0 hi hen hlt hdef hrun,
    fun i hi => ?_, fun i n hi hn => ?_, exec_dramSelfRefreshIdle s⟩, fun s r0 r1 r2 r3 hrst => ?_⟩
  · obtain ⟨hexec, h34⟩ := exec_entry (s := s) hi
    rw [hexec]
    exact ⟨fun h => (Goes_next _ _).2 (State.enterStep_first h),
      fun h hs hclean => (Goes_next _ _).2 (State.enterStep_saved h hs hclean),
      fun h ha hb hw => (Goes_next _ _).2 (State.enterStep_last h (by omega) ha hb hw)⟩
  · rw [exec_exit hi]
    exact ⟨fun h => (Goes_next _ _).2 (State.exitStep_start h), fun h => (Goes_next _ _).2 (State.exitStep_wake h),
      fun h ha hb hw => (Goes_next _ _).2 (State.exitStep_last h (by omega) ha hb hw)⟩
  · change Goes (execThermalSample r0 r1 r2 r3 s) _
    simp -zeta only [execThermalSample]
    rw [if_neg (not_not.2 hrst)]
    extract_lets add temps tj power s1 s2
    have htj : s2.get Reg.RCU.THERMAL.TJ = min tj.toNat 255 := by
      rw [State.get_put_apart _ Reg.RCU.THERMAL.TJ_MAX Reg.RCU.THERMAL.TJ _ (by decide), State.get_put_self _ _ _ (by decide)]
      exact Nat.mod_eq_of_lt (by change _ < 256; omega)
    have hmax : s2.get Reg.RCU.THERMAL.TJ_MAX = max (s.get Reg.RCU.THERMAL.TJ_MAX) (min tj.toNat 255) := by
      rw [State.get_put_self _ _ _ (by decide)]
      have hlt : s.get Reg.RCU.THERMAL.TJ_MAX < 256 := s.get_lt _
      exact Nat.mod_eq_of_lt (by change max (s.get Reg.RCU.THERMAL.TJ_MAX) _ < 256; omega)
    have hlevel : s2.get Reg.RCU.PWR.THERM_LEVEL = s.get Reg.RCU.PWR.THERM_LEVEL := by
      rw [State.get_put_apart _ Reg.RCU.THERMAL.TJ_MAX Reg.RCU.PWR.THERM_LEVEL _ (by decide),
        State.get_put_apart _ Reg.RCU.THERMAL.TJ Reg.RCU.PWR.THERM_LEVEL _ (by decide)]
      rfl
    have hcfg : s2.cfg = s.cfg := by simp only [s2, State.put_cfg, s1]
    change Goes _ fun t => t.get Reg.RCU.THERMAL.TJ = min tj.toNat 255 ∧
      t.get Reg.RCU.THERMAL.TJ_MAX = max (s.get Reg.RCU.THERMAL.TJ_MAX) (min tj.toNat 255) ∧
      (∀ c, s.cfg = some c → ((c.power.crit : Int) ≤ tj → t.get Reg.RCU.PWR.THERM_LEVEL = 3) ∧
        (s.get Reg.RCU.PWR.THERM_LEVEL = 1 → c.power.throttle ≤ c.power.crit → tj < (c.power.throttle : Int) - c.power.hyst →
          t.get Reg.RCU.PWR.THERM_LEVEL = 0))
    rw [hcfg]
    cases hc : s.cfg with
    | none => exact (Goes_next _ _).2 ⟨htj, hmax, fun c h => by cases h⟩
    | some c =>
      have hold : s.get Reg.RCU.PWR.THERM_LEVEL < 4 := s.get_lt _
      obtain ⟨ktj, kmax, klevel⟩ := s2.toLevel_fields (thermLevel_lt c.power (hlevel.symm ▸ hold) tj)
      have hwarn := (s2.toLevel (thermLevel c.power (s2.get Reg.RCU.PWR.THERM_LEVEL) tj)).tempWarn_reach
      rw [hlevel] at klevel
      refine (Goes_next _ _).2 ⟨(hwarn.get rfl).trans (ktj.trans htj), (hwarn.get rfl).trans (kmax.trans hmax), fun d hd => ?_⟩
      obtain rfl := Option.some.inj hd
      refine ⟨fun hcrit => ?_, fun hone hle hcool => ?_⟩
      · rw [hwarn.get rfl, hlevel, klevel, thermLevel_crit c.power hold hcrit]
      · rw [hwarn.get rfl, hlevel, klevel, hone, thermLevel_leave c.power hle hcool]

end Sys2Proof.Machine
end
